-- ==== Sys2Proof/Word.lean ====
section
/-!
DEFINITION. The machine's word types and the plainest conversions between words, bytes and numbers (R3–R11).
-/
namespace Sys2Proof

abbrev Byte := BitVec 8
abbrev Word32 := BitVec 32
abbrev Word64 := BitVec 64

/-- A string of bytes, first byte at the lowest address. -/
abbrev Bytes := List Byte

/-- An instant or a duration in units of 2^-16 ns (R6, R9). -/
abbrev Ticks := Int

/-- A Bearing value, signed Q32.32 (R10). -/
abbrev BVal := Int

/-- One nanosecond, microsecond, millisecond and second in units of 2^-16 ns. -/
def ns : Ticks := 65536
def us : Ticks := 65536000
def ms : Ticks := 65536000000
def sec : Ticks := 65536000000000

/-- The launch slot, 62.5 ps, in units of 2^-16 ns (R9). -/
def slot : Ticks := 4096

/-- 1 for true, 0 for false. -/
def b2i (b : Bool) : Int := if b then 1 else 0

def b2n (b : Bool) : Nat := if b then 1 else 0

end Sys2Proof
end

