-- ==== Sys2Proof/Machine/Tab.lean ====
section
/-!
DEFINITION. Sparse tables keyed by a number, in one canonical form: keys strictly rising. Memories, the object store
and every numbered family of units are such tables, so equal contents are equal data.
-/
namespace Sys2Proof.Machine

/-- A sparse table. -/
abbrev Tab (α : Type) := List (Nat × α)

/-- The entry stored under a key. -/
def Tab.find {α : Type} : Tab α → Nat → Option α
  | [], _ => none
  | (k, v) :: t, q => if q = k then some v else Tab.find t q

/-- What a key reads as: its entry, or the value an unlisted key has. -/
def Tab.get {α : Type} (dflt : α) (t : Tab α) (q : Nat) : α := (Tab.find t q).getD dflt

/-- Store an entry under a key, keeping the keys rising. -/
def Tab.ins {α : Type} : Tab α → Nat → α → Tab α
  | [], q, v => [(q, v)]
  | (k, w) :: t, q, v =>
    if q < k then (q, v) :: (k, w) :: t
    else if q = k then (q, v) :: t
    else (k, w) :: Tab.ins t q v

/-- Remove a key. -/
def Tab.del {α : Type} : Tab α → Nat → Tab α
  | [], _ => []
  | (k, w) :: t, q => if q = k then Tab.del t q else (k, w) :: Tab.del t q

/-- Write a value, where a value equal to the unlisted one removes the entry. -/
def Tab.put {α : Type} [DecidableEq α] (dflt : α) (t : Tab α) (q : Nat) (v : α) : Tab α :=
  if v = dflt then Tab.del t q else Tab.ins t q v

/-- Whether a key is listed. -/
def Tab.has {α : Type} (t : Tab α) (q : Nat) : Bool := (Tab.find t q).isSome

/-- Apply a function to a stored entry, where there is one. -/
def Tab.upd {α : Type} (t : Tab α) (q : Nat) (f : α → α) : Tab α :=
  t.map (fun e => if e.1 = q then (e.1, f e.2) else e)

/-- Apply a function to every stored entry. -/
def Tab.mapVals {α : Type} (t : Tab α) (f : Nat → α → α) : Tab α := t.map (fun e => (e.1, f e.1 e.2))

/-- Every key is above a bound and the keys rise strictly. -/
def Tab.risingFrom {α : Type} : Nat → Tab α → Bool
  | _, [] => true
  | b, (k, _) :: t => decide (b ≤ k) && Tab.risingFrom (k + 1) t

/-- The canonical form: keys strictly rising. -/
def Tab.rising {α : Type} (t : Tab α) : Bool := Tab.risingFrom 0 t

/-- The canonical form of a table with an unlisted value: rising, and no entry equal to that value. -/
def Tab.wf {α : Type} [DecidableEq α] (dflt : α) (t : Tab α) : Bool :=
  Tab.rising t && t.all (fun e => !decide (e.2 = dflt))

/-- The first number from `n` on, within `k` of it, that a test does not call taken. -/
def firstFree (taken : Nat → Bool) : Nat → Nat → Option Nat
  | 0, _ => none
  | k + 1, n => if taken n then firstFree taken k (n + 1) else some n

/-- The smallest number of a range that a table does not list. -/
def Tab.freeKey {α : Type} (t : Tab α) (first count : Nat) : Option Nat :=
  firstFree (Tab.has t) (min count (t.length + 1)) first

end Sys2Proof.Machine
end

