-- ==== Sys2Proof/Machine/PermitTypes.lean ====
section
/-!
DEFINITION. State of contact-card slots, operator inputs and the permit ledger (R553–R576).
-/
namespace Sys2Proof.Machine

/-- Ledger states, with the codes of R569. -/
inductive LedgerState where
  | pending | active | ended | rolledBack | inDoubt | settledCommitted | settledRolledBack | abandoned
deriving DecidableEq, Repr

def LedgerState.code : LedgerState → Nat
  | .pending => 1
  | .active => 2
  | .ended => 3
  | .rolledBack => 4
  | .inDoubt => 5
  | .settledCommitted => 6
  | .settledRolledBack => 7
  | .abandoned => 8

/-- The newest record of a ledger entry (R569). -/
structure LedgerRec where
  state : LedgerState
  endReason : Nat := 0
  role : Nat := 0
  twoPerson : Bool := false
  cl1 : Bool := false
  cl2 : Bool := false
  bindPresence : Bool := false
  bindInput : Bool := false
  rule : Nat
  actions : Nat
  holder : Bytes
  second : Bytes := []
  granted : Ticks
  validUntil : Ticks
  endedAt : Ticks := 0
  scope : Bytes
  counter : Nat := 0
  counter2 : Nat := 0
  /-- card places to which RECORD_GRANT is still to be sent, in turn; the first is under way while the entry is PENDING -/
  waits : List Nat := []
deriving DecidableEq, Repr

/-- Card slot states, with the codes of R572. -/
inductive CardState where
  | empty | activating | pps | identifying | identified | writing | querying | refused
deriving DecidableEq, Repr

def CardState.code : CardState → Nat
  | .empty => 0
  | .activating => 1
  | .pps => 2
  | .identifying => 3
  | .identified => 4
  | .writing => 5
  | .querying => 6
  | .refused => 7

/-- What a card says of itself (R558): CARD_ID, holder name, role claimed, chain of certificates; and the instant of its
identification. -/
structure CardHolder where
  cardId : Bytes
  name : Bytes
  role : Nat
  chain : Bytes
  at_ : Ticks
deriving DecidableEq, Repr

/-- The Kolzel command whose response a card owes (R558). -/
inductive KolzelStep where
  | idle | select | identify | authenticate | grant | query
deriving DecidableEq, Repr

/-- The Kolzel dialogue with one card. -/
structure Dialogue where
  step : KolzelStep := .idle
  /-- what IDENTIFY answered, until AUTHENTICATE verifies it -/
  found : Option CardHolder := none
  /-- AUTHENTICATE has verified a contactless card -/
  verified : Bool := false
  /-- the identified card -/
  holder : Option CardHolder := none
  challenge : Bytes := []
  /-- the data sent with RECORD_GRANT -/
  sent : Bytes := []
  /-- the ledger entry that RECORD_GRANT or JOURNAL_QUERY names, and the IN_DOUBT entries still to be asked for -/
  entry : Option Nat := none
  queries : List Nat := []
  /-- rules of TRIGGER AUTO still to be tried with this card -/
  due : List Nat := []
deriving DecidableEq, Repr

/-- The T=1 link with a card (R554–R556): what its answer-to-reset gave, the sequence numbers, the command under way, its
part not yet sent, the block last sent, the response so far. -/
structure T1Link where
  fi : Nat := 372
  di : Nat := 1
  clk : Nat := 4000000
  guardN : Nat := 0
  bwi : Nat := 4
  cwi : Nat := 13
  ifsc : Nat := 32
  crc : Bool := false
  /-- TA1, and whether the card is in specific mode -/
  ta1 : Nat := 0x11
  ns : Bool := false
  nr : Bool := false
  errors : Nat := 0
  /-- S(RESYNCH) has been sent for the present response; its answer is awaited -/
  resynced : Bool := false
  resyncing : Bool := false
  ifsPending : Bool := false
  cmd : Bytes := []
  left : Bytes := []
  last : Bytes := []
  recv : Bytes := []
  reply : Option Bytes := none
  /-- instant at which the last character of the final I-block of the command has been sent -/
  sentAt : Option Ticks := none
  since : Ticks := 0
  deadline : Ticks := 0
deriving DecidableEq, Repr

/-- One contact-card slot. `det` is the filtered CRDx_DET, `cls` the supply class (1 A, 2 B, 3 C; 0 none), `tried` the
classes tried since the card came, `ppsTried` that a PPS has failed. -/
structure CardSlot where
  state : CardState := .empty
  det : Bool := false
  powered : Bool := false
  cls : Nat := 0
  tried : List Nat := []
  ppsTried : Bool := false
  link : T1Link := {}
  dlg : Dialogue := {}
deriving DecidableEq, Repr

/-- Operator input states (R563). -/
inductive InputState where
  | inactive | active | pending | discrepant
deriving DecidableEq, Repr

def InputState.code : InputState → Nat
  | .inactive => 0
  | .active => 1
  | .pending => 2
  | .discrepant => 3

/-- One operator input: its state, whether each channel is active, since when its channels disagree, whether its PENDING
began at INACTIVE, and since when both channels are released while it is DISCREPANT. -/
structure OpInput where
  state : InputState := .inactive
  a : Bool := false
  b : Bool := false
  since : Option Ticks := none
  fromInactive : Bool := true
  releasedAt : Option Ticks := none
deriving DecidableEq, Repr

/-- Cards, inputs and permits. Card places: 0–1 are CRD0–CRD1, 2–5 the contactless CIDs 1–4, and 6–11 the same places of
the twin's other unit (R571). -/
structure Permits where
  slots : Tab CardSlot := []
  inputs : Tab OpInput := []
  /-- newest record of each entry, by NUMBER; retained in flash -/
  ledger : Tab LedgerRec := []
  nextNumber : Nat := 1
  /-- identified cards of the other unit -/
  remote : Tab Dialogue := []
  /-- R574: the last grant found the ledger full -/
  full : Bool := false
deriving DecidableEq, Repr

end Sys2Proof.Machine
end

