-- ==== Sys2Proof/Machine/ContactlessTypes.lean ====
section
/-!
DEFINITION. State of the contactless reader and of tag mode (R527–R552).
-/
namespace Sys2Proof.Machine

/-- States of a CID, with the codes of R551. -/
inductive CidState where
  | free | identifying | credential | deselecting
deriving DecidableEq, Repr

def CidState.code : CidState → Nat
  | .free => 0
  | .identifying => 1
  | .credential => 2
  | .deselecting => 3

/-- One card that the reader serves. -/
structure CidSlot where
  state : CidState := .free
  /-- 1 Type A, 2 Type B -/
  type : Nat := 0
  uid : Bytes := []
  rate : Nat := 0
  /-- the card refuses CIDs -/
  noCid : Bool := false
  missed : Nat := 0
  retries : Nat := 0
  last : Bytes := []
  dlg : Dialogue := {}
deriving DecidableEq, Repr

/-- What a field-on that waits for its grant is for (R529). -/
inductive FieldUse where
  | ping | poll
deriving DecidableEq, Repr

/-- The reader. Amplitudes and phases of the baseline are in 2^-16 of the units in which pings are measured. -/
structure Reader where
  on : Bool := false
  field : Bool := false
  /-- a full poll is under way -/
  polling : Bool := false
  /-- it follows a detection -/
  detected : Bool := false
  waiting : Option (FieldUse × Ticks) := none
  pings : Nat := 0
  valid : Bool := false
  sumAmpl : Int := 0
  sumPhase : Int := 0
  ampl : Int := 0
  phase : Int := 0
  amplDev : Int := 0
  phaseDev : Int := 0
  falseRow : Nat := 0
  extField : Bool := false
  tooMany : Bool := false
  cids : Tab CidSlot := []
deriving DecidableEq, Repr

/-- Codes of a tag slot's marker (R543): erased, COMMITTED, RETIRED, and a marker that is none of these. -/
inductive TagMark where
  | erased | committed | retired | broken
deriving DecidableEq, Repr

/-- One physical slot of a tag page. -/
structure TagSlot where
  mark : TagMark := .erased
  wsn : Nat := 0
  mac : Bytes := List.replicate 8 0
  data : Bytes := []
deriving DecidableEq, Repr

/-- The point of R545 at which the field collapses. -/
inductive TagCut where
  | beforeStep2 | step3 | step4 | step5 | step6
deriving DecidableEq, Repr

/-- The tag logic of the always-on block: its memory (key 2 × page + slot), its copies of the objects that govern it, the
INFO block, and the state of the present field. The memory and the copies outlive every loss of power. -/
structure TagLogic where
  slots : Tab TagSlot := []
  enable : Bool := true
  level : Nat := 0
  key : Bytes := List.replicate 16 0
  cfg : Bytes := List.replicate 16 1
  info : Bytes := List.replicate 64 0
  /-- a reader has activated the tag -/
  active : Bool := false
  /-- VHARV is connected; it is off for want of energy -/
  vharv : Bool := false
  low : Bool := false
  /-- pages changed in tag mode since the last run -/
  changed : List Nat := []
deriving DecidableEq, Repr

/-- The contactless unit. -/
structure Contactless where
  rd : Reader := {}
  tag : TagLogic := {}
deriving DecidableEq, Repr

end Sys2Proof.Machine
end

