-- ==== Sys2Proof/Machine/NetTypes.lean ====
section
/-!
DEFINITION. State of network ports, time synchronisation, sessions and streams (R166–R211).
-/
namespace Sys2Proof.Machine

/-- A network port. -/
structure Port where
  up : Bool := false
  link : Bool := false
  draining : Bool := false
deriving DecidableEq, Repr

/-- Time states, with the codes of TIME_STATE (R170). -/
inductive TimeState where
  | free | acquiring | locked | holdover | grandmaster
deriving DecidableEq, Repr

def TimeState.code : TimeState → Nat
  | .free => 0
  | .acquiring => 1
  | .locked => 2
  | .holdover => 3
  | .grandmaster => 4

/-- Time synchronisation. -/
structure TimeSync where
  state : TimeState := .free
  offset : Ticks := 0
  /-- consecutive sync intervals with the offset inside LOCK_THRESHOLD -/
  good : Nat := 0
  servoUnc : Ticks := 0
  lastSync : Ticks := 0
  syncInterval : Ticks := 0
  enteredAt : Ticks := 0
  entryUnc : Ticks := 0
  gm : Bytes := []
  steps : Nat := 0
  pathDelay : Ticks := 0
  /-- last PPS_IN edge, and the frequency that it steered holdover to -/
  pps : Option Ticks := none
  steer : Int := 0
  /-- the master that steers chip time, as the best master clock algorithm compares it; none where empty -/
  master : List Nat := []
  /-- the algorithm has made this device grandmaster -/
  elected : Bool := false
deriving DecidableEq, Repr

/-- R170: no valid sync for 4 sync intervals. -/
def TimeSync.lost (t : TimeSync) (now : Ticks) : Bool := decide (t.lastSync + 4 * t.syncInterval ≤ now)

/-- Session states, with the codes of R173. -/
inductive SState where
  | closed | opening | resuming | opened | stalled | exhausted | closing
deriving DecidableEq, Repr

def SState.code : SState → Nat
  | .closed => 0
  | .opening => 1
  | .resuming => 2
  | .opened => 3
  | .stalled => 4
  | .exhausted => 5
  | .closing => 6

/-- A secure field frame before sealing (R181–R184): type, FLAGS bits, session, claim, sequence, stamps, payload and the
key generation under which it is sealed. -/
structure Sff where
  type : Nat
  flags : Nat
  session : Nat
  claim : Nat
  seq : Nat
  time : Option Ticks := none
  stamps : List (Nat × Nat × BVal) := []
  payload : Bytes := []
  keyGen : Nat := 0
deriving DecidableEq, Repr

/-- Keys of one generation (R177, R187): the AES-256-GCM key and the update secret. -/
structure SessionKeys where
  gen : Nat
  k : Bytes
  u : Bytes
deriving DecidableEq, Repr

/-- A stored resumption secret (R177). -/
structure Resumption where
  id : Bytes
  secret : Bytes
  expires : Ticks
deriving DecidableEq, Repr

/-- A set-up exchange (R174–R175): its number, form, the message awaited next and the transcript so far. -/
structure Setup where
  exchange : Nat
  fresh : Bool
  initiator : Bool
  /-- message expected next: 2 ANSWER, 3 CONFIRM, 0 the first sealed frame -/
  expect : Nat
  openMsg : Bytes
  answerMsg : Bytes
  z : Bytes
  ni : Bytes
  nr : Bytes
  /-- own ephemeral private key -/
  eph : Bytes := []
  /-- the partner's certificate chain, where the form carries one -/
  chain : Bytes := []
  legacy : Bool := false
  peerClaim : Nat := 0
  peerNext : Nat := 0
  /-- last message sent, for retransmission: its number and content -/
  sentMsg : Nat := 0
  sent : Bytes := []
  startedAt : Ticks
  lastSent : Ticks
deriving DecidableEq, Repr

/-- A key update in progress (R187, R188). -/
structure KeyUpdate where
  gen : Nat
  switch : Nat
  rebase : Bool
  attempts : Nat
  sentAt : Ticks
  startedAt : Ticks
  /-- the partner has answered, or asked for, this update -/
  replied : Bool := false
deriving DecidableEq, Repr

/-- One session. -/
structure Session where
  state : SState := .closed
  claim : Nat := 0
  claimCtl : Nat := 0
  /-- lowest domain-2 count still to be taken under `claimCtl` -/
  ctlFrom : Nat := 0
  /-- next domain-0 count to send -/
  tx : Nat := 0
  /-- own domain-1 and domain-2 counts to send next -/
  safeNext : Nat := 1
  ctlNext : Nat := 0
  high : Nat := 0
  /-- decided sequences within the window (R190) -/
  window : List Nat := []
  rxFloor : Nat := 0
  safeLast : Nat := 0
  keys : Option SessionKeys := none
  nextKeys : Option SessionKeys := none
  /-- the older key is dropped at this instant (R187) -/
  overlapEnd : Option Ticks := none
  upd : Option KeyUpdate := none
  /-- the partner's switch sequence for the next key -/
  rxSwitch : Nat := 0
  /-- frames sealed under the present key, and under the next one while its update is unanswered (R189) -/
  keyUses : Nat := 0
  nextUses : Nat := 0
  rekeyWarned : Bool := false
  resume : Option Resumption := none
  setup : Option Setup := none
  lastHbRx : Ticks := 0
  lastHbTx : Ticks := 0
  /-- last domain-0 sequence the partner reports as received -/
  peerHigh : Nat := 0
  pier : Nat := 0
  lastRefuse : Nat := 0
  certExpires : Option Ticks := none
  peerCert : Bytes := []
  /-- pre-sealed SAFE frame: what was sealed, and its bytes (R196) -/
  safeSealed : Option (Sff × Bytes) := none
  /-- this end is the session's responder: the direction bit of its IVs (R184) -/
  responder : Bool := false
  /-- number of the last set-up exchange; a CLOSE names it -/
  exchange : Nat := 0
  safeLeft : Nat := 0
  safeAt : Ticks := 0
  /-- transmit ceiling last replicated (R231) -/
  ceiling : Nat := 0
  /-- first sequences of the blocks reserved in flash (R195) -/
  txReserved : Nat := 16777216
  rxReserved : Nat := 16777216
  closeCancel : Bool := false
  closeAsked : Bool := false
  rebasing : Bool := false
  /-- sequences of FAILED items whose cells are free (R133) -/
  lateSff : List (Nat × Nat) := []
deriving DecidableEq, Repr

/-- The session is closing, or closes once its set-up is through (R151). -/
def Session.ending (x : Session) : Bool := decide (x.state = .closing) || x.closeAsked

/-- A stream record with its record stamp (R198, R199). -/
structure StreamIn where
  seq : Nat
  at_ : Ticks
  arrival : Ticks
  stampA : Option (Nat × Nat × BVal)
  stampB : Option (Nat × Nat × BVal)
  /-- FLAGS of the stamp header -/
  flags : Nat
  data : Bytes
deriving DecidableEq, Repr

/-- One leaf of an epoch's tree (R201): a record, or a gap, where `missing` counts what it covers. -/
structure StreamRec where
  seq : Nat
  at_ : Ticks
  stampA : Option (Nat × Nat × BVal)
  stampB : Option (Nat × Nat × BVal)
  leaf : Bytes
  missing : Nat
deriving DecidableEq, Repr

/-- An open epoch (R201, R202). Leaves newest first. -/
structure Epoch where
  number : Nat
  openAt : Ticks
  recs : List StreamRec := []
  flags : Nat := 0
  prevChain : Bytes := []
deriving DecidableEq, Repr

/-- A closed epoch that waits for its signature: bytes 0–223 of its record (R202). -/
structure EpochRec where
  number : Nat
  lastSeq : Nat
  chain : Bytes
  body : Bytes
deriving DecidableEq, Repr

/-- A certificate request (R206, R207), and what the epochs closed so far hold of its range. -/
structure CertReq where
  selector : Nat
  from_ : BVal
  to_ : BVal
  ref : Bytes
  /-- first epoch covered, with its PREV_CHAIN; none while that epoch is not open yet -/
  first : Option (Nat × Bytes) := none
  firstRec : Option Nat := none
  lastRec : Option Nat := none
  records : Nat := 0
  missing : Nat := 0
  /-- records and missing records since the last record before TO -/
  pendRec : Nat := 0
  pendMiss : Nat := 0
  /-- a record at or after TO has been closed in -/
  reachedTo : Bool := false
  flags : Nat := 0
deriving DecidableEq, Repr

/-- One stream. -/
structure Stream where
  on : Bool := false
  /-- next sequence expected in order; none before the first record -/
  next : Option Nat := none
  /-- records received ahead of a missing one, by sequence -/
  ahead : Tab StreamIn := []
  cur : Option Epoch := none
  /-- retained: NEXT_EPOCH and the last sealed epoch (R205) -/
  nextEpoch : Nat := 0
  sealedEpoch : Option Nat := none
  sealedSeq : Nat := 0
  sealedChain : Bytes := []
  /-- chain value of the last closed epoch -/
  lastChain : Bytes := []
  /-- closed epochs, oldest first -/
  waiting : List EpochRec := []
  cert : Option CertReq := none
  /-- bytes 0–195 of the certificate being signed -/
  certSigning : Option Bytes := none
  certState : Nat := 0
  certNo : Nat := 0
  certLast : Bytes := []
  /-- the first epoch to open follows a takeover, or a cold restart (R204, R205) -/
  takeoverNext : Bool := false
  gapNext : Bool := false
deriving DecidableEq, Repr

/-- What the stream cells of a stream hold (R205): NEXT_EPOCH, the last sealed epoch with its LAST_SEQ and CHAIN, and the number of the
next certificate, which no stream uses twice (R207; log entry 155). -/
structure StreamCopy where
  next : Nat := 0
  sealedEpoch : Option Nat := none
  lastSeq : Nat := 0
  chain : Bytes := []
  cert : Nat := 0
deriving DecidableEq, Repr

/-- Fragments of a set-up message being reassembled (R174). -/
structure Reassembly where
  port : Nat
  exchange : Nat
  message : Nat
  total : Nat
  got : List (Nat × Bytes)
  startedAt : Ticks
deriving DecidableEq, Repr

/-- Ports, time, sessions and streams. -/
structure Net where
  ports : Tab Port := []
  time : TimeSync := {}
  sessions : Tab Session := []
  streams : Tab Stream := []
  /-- signing has fallen behind (R203) -/
  signBehind : Bool := false
  reasm : List Reassembly := []
deriving DecidableEq, Repr

end Sys2Proof.Machine
end

