-- ==== Sys2Proof/Machine/QueueTypes.lean ====
section
/-!
DEFINITION. State of queues, convoys, items, the manifest and the save areas (R108–R165).
-/
namespace Sys2Proof.Machine

/-- KIND of an item (R118). -/
inductive ItemKind where
  | command | launchEntry | launchPost
deriving DecidableEq, Repr

/-- Item sources (R109). -/
inductive ItemSource where
  | host | ingress | lane | launch
deriving DecidableEq, Repr

/-- Item states (R133). `retired` keeps its outcome. -/
inductive ItemState where
  | accepted | dispatched | confirmed | cancelled | expired | rejected | failed
deriving DecidableEq, Repr

/-- OUTCOME codes of a TERMINAL record (R120). -/
def ItemState.outcome : ItemState → Nat
  | .confirmed => 3
  | .cancelled => 4
  | .expired => 5
  | .rejected => 6
  | .failed => 7
  | _ => 0

/-- Whether a state is an outcome. -/
def ItemState.isEnd : ItemState → Bool
  | .accepted | .dispatched => false
  | _ => true

/-- One durable item. -/
structure Item where
  queue : Nat
  seq : Nat
  kind : ItemKind
  source : ItemSource
  state : ItemState := .accepted
  /-- the TERMINAL record has been written -/
  retired : Bool := false
  /-- replication outstanding: not accepted yet (R128) -/
  unacked : Bool := false
  journal : Nat := 0
  reason : Nat := 0xFF
  single : Bool := false
  tag : Nat := 0
  body : Bytes := []
  expiry : Option Ticks := none
  /-- convoy sequence; 0 outside a convoy -/
  cseq : Nat := 0
  /-- SFF sequence: 0 in the attribute cell when none -/
  sff : Option Nat := none
  /-- the ingress frame the item came in: session slot and sequence -/
  ingress : Option (Nat × Nat) := none
  /-- its frame asked for ACK_NOW -/
  ackNow : Bool := false
  detail : Nat := 0
  handle : Nat := 0
  cells : Nat := 1
  acceptedAt : Ticks := 0
  outcomeAt : Ticks := 0
  dispatchedAt : Ticks := 0
  /-- next retransmission and the interval that led to it (R193) -/
  retxAt : Ticks := 0
  retxGap : Ticks := 0
  busy : Nat := 0
  claim : Nat := 0
  /-- claim and key generation under which the frame was sealed (R185) -/
  keyGen : Nat := 0
  /-- position of the item in its delivery ring, where it has been delivered -/
  deliveredAt : Option Nat := none
  /-- completion-ring position of its TERMINAL record -/
  termPos : Option Nat := none
  restored : Bool := false
  migrated : Bool := false
  takeover : Bool := false
  /-- DISPATCHED, and to be handed to its target again (R148, R236, R245) -/
  resend : Bool := false
  /-- cells reserved in the manifest for the posting of a POST entry (R134) -/
  reserve : Nat := 0
deriving DecidableEq, Repr

/-- QUE_STATE codes (R162). -/
inductive QState where
  | off | on | draining | cancelling | stalled
deriving DecidableEq, Repr

def QState.code : QState → Nat
  | .off => 0
  | .on => 1
  | .draining => 2
  | .cancelling => 3
  | .stalled => 4

/-- A completion record waiting to be written: TYPE, the item's head cell (or none), and its replay mark. -/
structure WaitRec where
  type : Nat
  item : Option Nat
  replay : Bool
deriving DecidableEq, Repr

/-- A run of drops or losses not yet reported by a GAP record (R296, R197). -/
structure GapRun where
  first : Nat
  count : Nat
deriving DecidableEq, Repr

/-- One queue. Ring positions are counts from the opening; R110's form is computed from them. -/
structure Queue where
  state : QState := .off
  ringValid : Bool := false
  workBase : Nat := 0
  cplBase : Nat := 0
  workLog2 : Nat := 4
  cplLog2 : Nat := 4
  workChip : Bool := false
  cplChip : Bool := false
  /-- submission ring: producer; delivery ring: the host's taken position -/
  hostPos : Nat := 0
  /-- submission ring: device's consumer position; delivery ring: its producer position -/
  devPos : Nat := 0
  cplTail : Nat := 0
  cplHead : Nat := 0
  cplReserved : Nat := 0
  /-- retained: next queue sequence (R136) -/
  nextSeq : Nat := 0
  /-- notice or record sequence of an EVENT or STREAM queue -/
  noticeSeq : Nat := 0
  lastRefusal : Nat := 0
  replay : List WaitRec := []
  waiting : List WaitRec := []
  gap : Option GapRun := none
  /-- stream gaps whose GAP records wait for a slot (R197) -/
  gaps : List GapRun := []
  /-- the GAP record of the running drops: its ring position and content -/
  gapOpen : Option (Nat × GapRun) := none
  /-- logical pier that serves the queue -/
  pier : Nat := 0
  /-- the completion ring has been latched since the last replay (R148) -/
  fresh : Bool := false
  /-- STALLED by a failed DMA access, until disabled and reopened (R287) -/
  dmaStall : Bool := false
  /-- delivery-ring positions of FAILED items whose cells are free, not yet taken by the host (R133) -/
  lateAt : List Nat := []
  /-- a disable with CANCEL came while restored items were held (R145, R151) -/
  cancelAsked : Bool := false
deriving DecidableEq, Repr

/-- One convoy: its next convoy sequence. -/
structure Convoy where
  next : Nat := 0
deriving DecidableEq, Repr

/-- Save-area states, with the codes of AREA_A (R138). -/
inductive AreaState where
  | erased | erasing | halfErased | valid | stale
deriving DecidableEq, Repr

def AreaState.code : AreaState → Nat
  | .erased => 0
  | .erasing => 1
  | .halfErased => 2
  | .valid => 3
  | .stale => 4

/-- Entries of the save log (R140, R144), with the area: 0 A, 1 B. -/
inductive SaveLog where
  | saveBegin (n area : Nat)
  | saveEnd (n area blocks crc : Nat)
  | saveSkipped
  | lost
  | restored
deriving DecidableEq, Repr

/-- What a save area holds (R138, R140): the items with their cells, and the stream cells' content (R205): next epoch, last
sealed epoch, its last sequence and its chain value. -/
structure SavedArea where
  items : Tab Item := []
  streams : Tab StreamCopy := []
  /-- where the stream cells lie -/
  cells : Tab Nat := []
  /-- JOURNAL_COUNT (R234) -/
  journal : Nat := 0
deriving DecidableEq, Repr

/-- The manifest controller. -/
structure Manifest where
  /-- items by head cell; an item of a queue that is not DURABLE has no cells and a key of 131 072 or above -/
  items : Tab Item := []
  /-- stream cells by stream number: head cell index (R205) -/
  streamCells : Tab Nat := []
  lastAlloc : Nat := 131071
  accepting : Bool := false
  saving : Bool := false
  parked : Bool := false
  restoreHold : Bool := false
  holdupOk : Bool := false
  areaA : AreaState := .erased
  areaB : AreaState := .erased
  /-- content of a save, by area -/
  saved : Tab SavedArea := []
  saveNumber : Nat := 0
  saveArea : Nat := 0
  saveStart : Ticks := 0
  /-- how long the last save took; retained -/
  lastSave : Ticks := 0
  /-- newest first; retained in flash -/
  saveLog : List SaveLog := []
  /-- first sequence of the next block, reserved in flash, by queue (R136) -/
  reservations : Tab Nat := []
  retention : Bool := false
  /-- journal writes that the standby has not confirmed: their counts and the instants at which they were sent, oldest first
  (R131, R132) -/
  unackedAt : List (Nat × Ticks) := []
  /-- an accept-gate notice is out for the present closing -/
  gateClosed : Bool := false
  /-- SHUTDOWN has been written and the save waits for the handover (R146, R239) -/
  shutdown : Bool := false
  /-- a durable item has been accepted since the last save or restore (R155) -/
  acceptedSince : Bool := false
deriving DecidableEq, Repr

/-- Queues, convoys and the manifest. -/
structure Queues where
  queues : Tab Queue := []
  convoys : Tab Convoy := []
  man : Manifest := {}
deriving DecidableEq, Repr

end Sys2Proof.Machine
end

