-- ==== Sys2Proof/Machine/FerryTypes.lean ====
section
/-!
DEFINITION. State of Ferry ports, the flotilla, the twin pair and the piers (R212–R255).
-/
namespace Sys2Proof.Machine

/-- Ferry port states, with the codes of FRY_PORT_STATUS (R248). -/
inductive FState where
  | off | training | auth | up | down | fault
deriving DecidableEq, Repr

def FState.code : FState → Nat
  | .off => 0
  | .training => 1
  | .auth => 2
  | .up => 3
  | .down => 4
  | .fault => 5

/-- A message that waits for a place in the replay buffer of a port (R217, R218). -/
structure LinkMsg where
  cls : Nat
  msg : Nat
  dst : Nat
  payload : Bytes
deriving DecidableEq, Repr

/-- A frame in the replay buffer (R217): sequence, class, message, destination, payload, the instant of its last transmission
and how often it has been resent. -/
structure LinkFrame where
  seq : Nat
  cls : Nat
  msg : Nat
  dst : Nat
  payload : Bytes
  sentAt : Ticks
  resends : Nat
deriving DecidableEq, Repr

/-- A link frame as it leaves (R215, R216): its header's fields, its payload, and what seals it: the key, the direction bit and
the frame count. -/
structure LinkOut where
  cls : Nat
  msg : Nat
  src : Nat
  dst : Nat
  seq : Nat
  ack : Nat
  payload : Bytes
  key : Bytes
  dir : Bool
  count : Nat
deriving DecidableEq, Repr

/-- What a receiver finds of a link frame (R216, R217): whether its CRC and its tag hold, its sequence, and what it
acknowledges. -/
structure LinkRx where
  crcOk : Bool := true
  seq : Nat := 0
  ack : Nat := 0
  tagOk : Bool := true
deriving DecidableEq, Repr

/-- One Ferry port. -/
structure FerryPort where
  state : FState := .off
  width : Nat := 0
  peerId : Nat := 0
  peerValid : Bool := false
  peerPort : Nat := 0
  peerUnit : Bytes := []
  peerChart : Bytes := []
  txSeq : Nat := 0
  /-- next link sequence expected from the other end (R216) -/
  rxSeq : Nat := 0
  /-- frames sealed under the link key of this training (R215) -/
  txCount : Nat := 0
  /-- at most 512 unacknowledged frames -/
  replay : List LinkFrame := []
  /-- messages that wait for a place there, the highest class first (R218) -/
  waiting : List LinkMsg := []
  trainStart : Ticks := 0
  lastRx : Ticks := 0
  lastTx : Ticks := 0
  timeSent : Ticks := 0
  /-- offset of the far chip in the last exchange, before the filter (R223) -/
  farOffset : Int := 0
deriving DecidableEq, Repr

/-- The flotilla (R220–R225). -/
structure Flotilla where
  ownId : Nat := 0
  master : Nat := 0
  /-- last TIME frame heard from a member, and whether it announced a valid chart -/
  heard : Tab (Ticks × Bool) := []
  reachable : List Nat := []
  aligned : Nat := 0
  inside : Nat := 0
  offset : Ticks := 0
  hops : Nat := 0
  /-- time state of the master as announced (R223) -/
  masterState : TimeState := .free
  /-- TIME_UNC of the master as announced (R171, R223) -/
  masterUnc : Ticks := 0
deriving DecidableEq, Repr

/-- Twin roles, with the codes of R233. -/
inductive TwinRole where
  | alone | waiting | activeSingle | active | syncing | standby | stale
deriving DecidableEq, Repr

def TwinRole.code : TwinRole → Nat
  | .alone => 0
  | .waiting => 1
  | .activeSingle => 2
  | .active => 3
  | .syncing => 4
  | .standby => 5
  | .stale => 6

def TwinRole.ofCode (n : Nat) : TwinRole :=
  match n with
  | 1 => .waiting
  | 2 => .activeSingle
  | 3 => .active
  | 4 => .syncing
  | 5 => .standby
  | 6 => .stale
  | _ => .alone

/-- A standby's copy of a session (R230, R231). -/
structure SessionCopy where
  claim : Nat := 0
  ceiling : Nat := 0
  high : Nat := 0
  safeLast : Nat := 0
  safeNext : Nat := 0
  window : List Nat := []
  /-- the session's state at the active unit, which a standby holds too (R173; log entry 156) -/
  state : SState := .closed
deriving DecidableEq, Repr

/-- The twin pair. -/
structure Twin where
  role : TwinRole := .alone
  /-- the codeword of the role is invalid (R518, R519) -/
  roleBad : Bool := false
  claim : Nat := 0
  peerClaim : Nat := 0
  /-- highest claim seen on any path -/
  seen : Nat := 0
  /-- claim ceiling, retained in flash: an epoch (R232) -/
  ceiling : Nat := 0
  peerRole : TwinRole := .alone
  joined : Bool := false
  hb1 : Option Ticks := none
  hb2 : Option Ticks := none
  path1 : Bool := false
  path2 : Bool := false
  hbSeq : Nat := 0
  hbSentAt : Ticks := 0
  /-- manifest writes issued as active -/
  journal : Nat := 0
  /-- manifest writes applied to the mirror as standby -/
  applied : Nat := 0
  peerJournal : Nat := 0
  /-- the heartbeat count has exceeded the applied count since this instant -/
  behindSince : Option Ticks := none
  isolated : Bool := false
  isolatedAt : Ticks := 0
  yieldAt : Option Ticks := none
  waitingSince : Ticks := 0
  /-- mirror: the active unit's items by head cell -/
  mirror : Tab Item := []
  mirrorAlloc : Nat := 131071
  copies : Tab SessionCopy := []
  /-- mirrored stream cells (R205): next epoch, last sealed epoch, its last sequence and chain value -/
  streamCopies : Tab StreamCopy := []
  /-- their head cells -/
  mirrorCells : Tab Nat := []
  /-- the last RESYNC block has been applied -/
  resyncDone : Bool := false
  /-- the active unit has sent its resync to the present peer -/
  resyncSent : Bool := false
  /-- TWIN_CHART_MISMATCH has been raised for the present peer -/
  mismatch : Bool := false
  peerUnit : Nat := 0
  resyncBlock : Nat := 0
  lastAck : Ticks := 0
  /-- the unit has stopped admissions to yield, and completes the replication of what it has written (R239) -/
  yieldAsked : Bool := false
  /-- last acknowledgement count of the peer -/
  ackedJournal : Nat := 0
deriving DecidableEq, Repr

/-- One pier (R243–R246, R253). -/
structure Pier where
  state : Nat := 0
  cause : Nat := 0
  logical : Nat := 31
deriving DecidableEq, Repr

/-- Ferry ports, flotilla, twin and piers. -/
structure Ferry where
  ports : Tab FerryPort := []
  flo : Flotilla := {}
  twin : Twin := {}
  piers : Tab Pier := []
  /-- the time in which frames for the sessions of a retired pier's slice are dropped (R244) -/
  redirect : Tab (Ticks × Ticks) := []
  /-- REDIRECT_DROPS (R244), which no object shows -/
  redirectDrops : Nat := 0
deriving DecidableEq, Repr

end Sys2Proof.Machine
end

