-- ==== Sys2Proof/Machine/FlashTypes.lean ====
section
/-!
DEFINITION. State of the flash controller apart from what its objects hold (R577–R597).
-/
namespace Sys2Proof.Machine

/-- One protection region (R590, R591): its password record and its lock. -/
structure PassRegion where
  /-- SHA-256 of DIE_ID, region number and password; retained -/
  record : Option Bytes := none
  locked : Bool := true
  /-- wrong passwords in a row, and the end of a lockout -/
  wrong : Nat := 0
  lockout : Option Ticks := none
deriving DecidableEq, Repr

/-- What a scrub finds in one unit: sector, unit, bits in error (3 for more than can be corrected), and the pulses that the
erase of a refresh takes. -/
structure ScrubFind where
  sector : Nat
  unit : Nat
  bits : Nat
  pulses : Nat
deriving DecidableEq, Repr

/-- The flash controller. Everything but the locks and FLS_WEAR_SEL is retained. -/
structure Flash where
  /-- bytes of the customer data sectors by 16384 × customer sector + offset; an unlisted byte is 0xFF -/
  data : Tab Byte := []
  /-- units of the save areas by 512 × logical sector + unit (R577, R579); an unlisted unit is erased -/
  units : Tab Bytes := []
  /-- logical sectors whose flag cell is set (R583) -/
  half : List Nat := []
  /-- sectors that failed with no spare left (R585) -/
  failed : List Nat := []
  /-- uncorrectable units: 512 × sector + unit (R587) -/
  bad : List Nat := []
  regions : Tab PassRegion := []
  wearSel : Nat := 0
  /-- the codeword of the controller's state is invalid (R518, R519) -/
  codeBad : Bool := false
  lastScrub : Ticks := 0
deriving DecidableEq, Repr

end Sys2Proof.Machine
end

