-- ==== Sys2Proof/Machine/BearingTypes.lean ====
section
/-!
DEFINITION. The compass unit's state: sixteen Bearings, their trackers and calibration captures (R21–R56).
-/
namespace Sys2Proof.Machine

/-- Bearing states, with the codes of R38. -/
inductive BState where
  | off | acquiring | tracking | coasting | lost
deriving DecidableEq, Repr

/-- The codes of the Bearing state table. -/
def BState.code : BState → Nat
  | .off => 0
  | .acquiring => 1
  | .tracking => 2
  | .coasting => 3
  | .lost => 4

/-- One sample of the tracker: chip time, position, and the uncertainty its source reported (R33). -/
structure Sample where
  t : Ticks
  x : BVal
  u : Int := 0
deriving DecidableEq, Repr

/-- A least-squares fit relative to the newest sample: coefficients in BVAL units per power of a tick, the squared
residual after the noise floor, and the power sums of the sample times that `h` needs (the tracker's pseudo-code). -/
structure Fit where
  t0 : Ticks
  x0 : BVal
  c0 : Rat
  c1 : Rat
  c2 : Rat
  s2 : Rat
  m : Nat
  quad : Bool
  p1 : Int
  p2 : Int
  p3 : Int
  p4 : Int
deriving DecidableEq, Repr

/-- A calibration capture (R45): CAL_CAPTURE's state code and CAL_ABORT_REASON. -/
structure Capture where
  state : Nat := 0
  reason : Nat := 0
  /-- speed at the start -/
  speed : Int := 0
  /-- position before calibration and instant of the newest sample averaged, and instant of the first -/
  lastX : Option BVal := none
  lastT : Ticks := 0
  firstT : Ticks := 0
  /-- signed distance run since the first sample -/
  run : Int := 0
  /-- samples averaged; their line errors by point, squared errors and temperatures summed -/
  samples : Nat := 0
  errors : Tab (Int × Nat) := []
  squares : Int := 0
  temps : Int := 0
deriving DecidableEq, Repr

/-- The parameters that a fit and its uncertainty depend on (R33, R44, R46). -/
structure TrkCfg where
  order : Nat
  n : Nat
  acqM : Nat
  /-- smallest speed of a tracked Bearing and largest without OVERSPEED, in BVAL units per second -/
  vmin : Int
  vmax : Int
  gate : Int
  k : Int
  floor : Rat
  /-- u_src and u_env, in BVAL units -/
  uSrc : Rat
  uEnv : Rat
  /-- one count, in BVAL units, and the counts by which undecodable transitions widen the uncertainty (R27) -/
  count : Rat
  widen : Int
deriving DecidableEq, Repr

/-- The calibration objects of a FERRY Bearing's source (R46, R54), and its LINE_ERR. -/
structure RemoteCal where
  points : Nat := 0
  period : Int := 0
  table : Bytes := []
  vlow : Int := 0
  vhigh : Int := 0
  temp : Int := 0
  loadbin : Nat := 0
  resid : Int := 0
  penalty : Int := 0
  lineErr : Int := 0
deriving DecidableEq, Repr

/-- What a FERRY Bearing takes from its source (R46): tracker parameters, commit horizon, glitch width, reference, the
direction of the counted edge that made the sample (0 where the source counts none, R40), and what its calibration objects
read back. -/
structure RemoteCfg where
  /-- the chip that measures the Bearing -/
  chip : Nat
  trk : TrkCfg
  horizon : Ticks
  glitch : Ticks
  ref : Bool
  dir : Int := 0
  cal : RemoteCal := {}
deriving DecidableEq, Repr

/-- The last counted edge (R27): its raw instant, whether A changed, the step it counted, the direction before it, and the
instant of the sample it made. -/
structure LastEdge where
  raw : Ticks
  ofA : Bool
  step : Int
  before : Int
  sample : Ticks
deriving DecidableEq, Repr

/-- One Bearing. -/
structure Bearing where
  state : BState := .off
  /-- position referenced -/
  ref : Bool := false
  /-- signed count since the count held at enable -/
  count : Int := 0
  /-- position of count 0 -/
  base : BVal := 0
  levelA : Bool := false
  levelB : Bool := false
  /-- direction of the last counted edge: 1, -1, or 0 before the first -/
  dir : Int := 0
  /-- newest first -/
  hist : List Sample := []
  fit : Option Fit := none
  /-- STILL (R39) -/
  still : Bool := false
  /-- ENVELOPE (R44) -/
  envOut : Bool := false
  /-- counts by which undecodable transitions widen the uncertainty (R27) -/
  widen : Int := 0
  /-- instants of undecodable transitions within the running 1 ms window, newest first -/
  quadTimes : List Ticks := []
  coastAt : Ticks := 0
  /-- cause to write to LAST_CAUSE when the coast expires -/
  coastCause : Nat := 0
  posSet : Option BVal := none
  overspeed : Bool := false
  /-- the Ferry link to the source is down (R38, R225) -/
  causeLive : Bool := false
  /-- a wire fault, a rate fault is present (R38, R56) -/
  wireLive : Bool := false
  rateLive : Bool := false
  /-- the last counted edge, until one within 2.5 ns of it on the other input (R27) -/
  lastEdge : Option LastEdge := none
  /-- mains phases whose last peak stayed below AMPLITUDE_MIN, one bit each (R32) -/
  weak : Nat := 0
  /-- the tracker parameters that applied at the newest sample (R53) -/
  latched : Option TrkCfg := none
  draining : Bool := false
  /-- samples since entering ACQUIRING -/
  since : Nat := 0
  /-- newest accepted sample since enable -/
  newest : Option Sample := none
  ssiDisc : Nat := 0
  seqErr : Nat := 0
  freqErr : Nat := 0
  mainsStep : Int := -1
  lastCause : Nat := 0
  idxDev : Int := 0
  capture : Capture := {}
  /-- state code, quality and instant of the last BEARING frame taken (R50) -/
  netInstant : Ticks := 0
  /-- the newest fits, back to the first that is older than 100 µs, newest first (R198) -/
  fits : List Fit := []
  /-- converter-refined residual of the newest mains crossing, in BVAL units (R33) -/
  resid : Int := 0
  remote : Option RemoteCfg := none
deriving DecidableEq, Repr

/-- The compass unit. -/
structure Compass where
  bearings : Tab Bearing := []
deriving DecidableEq, Repr

end Sys2Proof.Machine
end

