-- ==== Sys2Proof/Machine/Tracker.lean ====
section
/-!
DEFINITION. The tracker's arithmetic: serial comparison (R11), scaling (R28), the fit, its uncertainty and its
predictions (the pseudo-code after R32, R33–R37), as exact rational arithmetic. Where a rounding is stated (R28, R34) it
is done here; R34 calls the rest deterministic and names no format (log entry 10).
-/
namespace Sys2Proof.Machine

/-- A number read as a signed 64-bit one. -/
def wrap64 (a : Int) : Int := (a + 2 ^ 63) % 2 ^ 64 - 2 ^ 63

/-- R11: the serial difference of two BVAL values. -/
def serial (a b : BVal) : Int := wrap64 (a - b)

/-- R11: `a` is after `b`; a difference of exactly -2^63 is before. -/
def bvAfter (a b : BVal) : Bool := decide (0 < serial a b)

/-- R11: `a` is before `b`, a difference of exactly -2^63 included. -/
def bvBefore (a b : BVal) : Bool := decide (serial a b < 0)

/-- Round a rational to nearest, ties away from zero (R23, R28). -/
def roundAway (q : Rat) : Int :=
  if 0 ≤ q then (q + 1 / 2).floor else -((-q + 1 / 2).floor)

/-- Integer square root by Newton's steps; the first argument bounds the number of steps. -/
def isqrtFrom : Nat → Nat → Nat → Nat
  | 0, _, x => x
  | k + 1, n, x =>
    if x = 0 then 0
    else
      let y := (x + n / x) / 2
      if x ≤ y then x else isqrtFrom k n y

/-- The integer part of a square root. -/
def isqrt (n : Nat) : Nat :=
  if n = 0 then 0 else isqrtFrom (Nat.log2 n + 4) n (2 ^ (Nat.log2 n / 2 + 1))

/-- The square root of a rational to 64 fractional bits, rounded down (log entry 10). -/
def sqrtRat (q : Rat) : Rat :=
  if q ≤ 0 then 0 else mkRat (isqrt ((q * ((2 ^ 128 : Nat) : Rat)).floor.toNat)) (2 ^ 64)

def absRat (q : Rat) : Rat := if q < 0 then -q else q

/-- Sum of a function over the samples. -/
def sumOver (l : List Sample) (f : Sample → Int) : Int := l.foldl (fun a s => a + f s) 0

/-- The least-squares fit of order 1 or 2 through the history, newest sample first. `none` where the history is
shorter than order + 1 samples or the normal equations are singular. -/
def fitOf (order : Nat) (floor : Rat) (hist : List Sample) : Option Fit :=
  match hist with
  | [] => none
  | s0 :: _ =>
    let m := hist.length
    let p := order + 1
    if m < p then none
    else
      let tau := fun (s : Sample) => s.t - s0.t
      let dd := fun (s : Sample) => serial s.x s0.x
      let p1 := sumOver hist tau
      let p2 := sumOver hist (fun s => tau s ^ 2)
      let p3 := sumOver hist (fun s => tau s ^ 3)
      let p4 := sumOver hist (fun s => tau s ^ 4)
      let y0 := sumOver hist dd
      let y1 := sumOver hist (fun s => dd s * tau s)
      let y2 := sumOver hist (fun s => dd s * tau s ^ 2)
      let n : Int := m
      let coeffs : Option (Rat × Rat × Rat) :=
        if order = 1 then
          let det := n * p2 - p1 * p1
          if det = 0 then none
          else some (((y0 * p2 - y1 * p1 : Int) : Rat) / (det : Rat), ((n * y1 - p1 * y0 : Int) : Rat) / (det : Rat), 0)
        else
          let det := n * (p2 * p4 - p3 * p3) - p1 * (p1 * p4 - p3 * p2) + p2 * (p1 * p3 - p2 * p2)
          if det = 0 then none
          else
            let a := y0 * (p2 * p4 - p3 * p3) - p1 * (y1 * p4 - p3 * y2) + p2 * (y1 * p3 - p2 * y2)
            let b := n * (y1 * p4 - p3 * y2) - y0 * (p1 * p4 - p3 * p2) + p2 * (p1 * y2 - y1 * p2)
            let c := n * (p2 * y2 - y1 * p3) - p1 * (p1 * y2 - y1 * p2) + y0 * (p1 * p3 - p2 * p2)
            some ((a : Rat) / (det : Rat), (b : Rat) / (det : Rat), (c : Rat) / (det : Rat))
      match coeffs with
      | none => none
      | some (c0, c1, c2) =>
        let rss := hist.foldl (fun (acc : Rat) s =>
          let t : Rat := (tau s : Int)
          let r := (dd s : Int) - (c0 + c1 * t + c2 * t * t)
          acc + r * r) 0
        let s2 := if p < m then rss / ((m - p : Nat) : Rat) else 0
        let s2 := if s2 < floor * floor then floor * floor else s2
        some { t0 := s0.t, x0 := s0.x, c0 := c0, c1 := c1, c2 := c2, s2 := s2, m := m,
               quad := decide (order ≠ 1), p1 := p1, p2 := p2, p3 := p3, p4 := p4 }

/-- The fitted displacement from x0 at `tau` ticks after t0. -/
def Fit.disp (f : Fit) (tau : Rat) : Rat := f.c0 + f.c1 * tau + f.c2 * tau * tau

/-- The fitted position at a chip time (R36). -/
def Fit.posAt (f : Fit) (t : Ticks) : BVal :=
  wrap64 (f.x0 + roundAway (f.disp ((t - f.t0 : Int) : Rat)))

/-- Velocity in BVAL units per second. -/
def Fit.vel (f : Fit) : Rat := f.c1 * (sec : Int)

/-- Acceleration in BVAL units per second squared. -/
def Fit.acc (f : Fit) : Rat := 2 * f.c2 * (sec : Int) * (sec : Int)

/-- h(tau) := phi(tau)^T inverse(Phi^T Phi) phi(tau). -/
def Fit.h (f : Fit) (tau : Rat) : Rat :=
  let n : Rat := (f.m : Nat)
  let p1 : Rat := (f.p1 : Int)
  let p2 : Rat := (f.p2 : Int)
  let p3 : Rat := (f.p3 : Int)
  let p4 : Rat := (f.p4 : Int)
  if f.quad then
    let det := n * (p2 * p4 - p3 * p3) - p1 * (p1 * p4 - p3 * p2) + p2 * (p1 * p3 - p2 * p2)
    if det = 0 then 0
    else
      let i00 := p2 * p4 - p3 * p3
      let i01 := p2 * p3 - p1 * p4
      let i02 := p1 * p3 - p2 * p2
      let i11 := n * p4 - p2 * p2
      let i12 := p1 * p2 - n * p3
      let i22 := n * p2 - p1 * p1
      let t2 := tau * tau
      (i00 + 2 * i01 * tau + 2 * i02 * t2 + i11 * t2 + 2 * i12 * t2 * tau + i22 * t2 * t2) / det
  else
    let det := n * p2 - p1 * p1
    if det = 0 then 0 else (p2 - 2 * p1 * tau + n * tau * tau) / det

/-- unc_x(tau), in BVAL units. -/
def Fit.uncX (f : Fit) (c : TrkCfg) (tau : Rat) : Rat :=
  (c.k : Int) * sqrtRat (f.s2 * f.h tau + c.uSrc * c.uSrc + c.uEnv * c.uEnv) + c.count * (c.widen : Int)

/-- unc_t(tau), in ticks; 0 where the slope vanishes. -/
def Fit.uncT (f : Fit) (c : TrkCfg) (tau : Rat) : Rat :=
  let slope := absRat (f.c1 + 2 * f.c2 * tau)
  if slope = 0 then 0 else f.uncX c tau / slope

/-- Direction of a launch entry (R60): RISE, FALL or EITHER. -/
inductive Dir where
  | rise | fall | either
deriving DecidableEq, Repr

/-- A prediction: the instant and its uncertainty in time. -/
structure Pred where
  at_ : Ticks
  unc : Ticks
deriving DecidableEq, Repr

/-- The real roots of c0 + c1 tau + c2 tau^2 = g. -/
def Fit.roots (f : Fit) (g : Rat) : List Rat :=
  let k := g - f.c0
  let disc := f.c1 * f.c1 + 4 * f.c2 * k
  if disc < 0 then []
  else
    let s := sqrtRat disc
    let a := f.c1 + s
    let b := f.c1 - s
    let ra := if a = 0 then [] else [2 * k / a]
    let rb := if b = 0 then [] else [2 * k / b]
    ra ++ rb

/-- predict(target, dir) of the tracker, with PREDICT_LIMIT measured from chip time (R37). -/
def Fit.predict (f : Fit) (c : TrkCfg) (limit : Ticks) (now : Ticks) (target : BVal) (dir : Dir) : Option Pred :=
  let g : Rat := (serial target f.x0 : Int)
  let low : Rat := ((now - f.t0 : Int) : Rat)
  let kept := (f.roots g).filter (fun tau =>
    let slope := f.c1 + 2 * f.c2 * tau
    decide (low < tau) &&
    match dir with
    | .rise => decide (0 < slope)
    | .fall => decide (slope < 0)
    | .either => decide (slope ≠ 0))
  match kept with
  | [] => none
  | r :: rs =>
    let tau := rs.foldl (fun a b => if b < a then b else a) r
    let instant := f.t0 + roundAway tau
    if limit < instant - now then none
    else some { at_ := instant, unc := roundAway (f.uncT c tau) }

/-- R23: the fit of a VIRTUAL Bearing, V_A times the source's plus V_B; `a` in Q32.32. -/
def Fit.virtual (f : Fit) (a b : Int) : Fit :=
  let ra : Rat := mkRat a (2 ^ 32)
  { f with x0 := wrap64 (roundAway (ra * (f.x0 : Int)) + b), c0 := ra * f.c0, c1 := ra * f.c1, c2 := ra * f.c2,
           s2 := ra * ra * f.s2 }

/-- R28: the position of a sample with signed count `n`. -/
def scaleCount (base : BVal) (n num den : Int) : BVal :=
  if den = 0 then base
  else wrap64 (base + roundAway (((n * num * 2 ^ 32 : Int) : Rat) / (den : Rat)))

/-- R43: the correction of the calibration table at a position, by linear interpolation and wrapping from the last
point to the first. The table holds I32 values in units of 2^-32. -/
def calCorrection (points period origin : Int) (table : Nat → Int) (x : BVal) : Int :=
  if points ≤ 0 || period ≤ 0 then 0
  else
    let ph : Rat := (((x - origin) % period * points : Int) : Rat) / (period : Rat)
    let i := ph.floor.toNat
    let fr := ph - (i : Nat)
    let a : Rat := (table (i % points.toNat) : Int)
    let b : Rat := (table ((i + 1) % points.toNat) : Int)
    roundAway (a + (b - a) * fr)

/-- R32: the fractional position, in sixths of a cycle, of a crossing of phase 0 A, 1 B, 2 C for sequence ABC; for ACB
B and C exchange places. -/
def mainsSixth (acb : Bool) (phase : Nat) (rising : Bool) : Int :=
  let ph := if acb then (if phase = 1 then 2 else if phase = 2 then 1 else phase) else phase
  match ph, rising with
  | 0, true => 0
  | 2, false => 1
  | 1, true => 2
  | 0, false => 3
  | 2, true => 4
  | _, _ => 5

/-- R32: the zero of the least-squares line through the converter samples of a crossing, as instant and amplitude: the
instant, and the root mean square of the samples' distance from the line in ticks (log entry 126). None where the line
has no slope. -/
def mainsZero (l : List (Ticks × Int)) : Option (Ticks × Rat) :=
  match l with
  | [] => none
  | (t0, _) :: _ =>
    let n : Int := l.length
    let s1 := l.foldl (fun a e => a + (e.1 - t0)) 0
    let s2 := l.foldl (fun a e => a + (e.1 - t0) ^ 2) 0
    let y0 := l.foldl (fun a e => a + e.2) 0
    let y1 := l.foldl (fun a e => a + e.2 * (e.1 - t0)) 0
    let det := n * s2 - s1 * s1
    let slope := n * y1 - s1 * y0
    if det = 0 || slope = 0 then none
    else
      let b : Rat := (slope : Rat) / (det : Rat)
      let a : Rat := ((y0 * s2 - y1 * s1 : Int) : Rat) / (det : Rat)
      let rss := l.foldl (fun (acc : Rat) e =>
        let r := (e.2 : Rat) - (a + b * ((e.1 - t0 : Int) : Rat))
        acc + r * r) 0
      some (t0 + roundAway (-a / b), sqrtRat (rss / (n : Rat)) / absRat b)

/-- The parity of a number of at most `k` bits. -/
def parityOf : Nat → Nat → Bool
  | 0, _ => false
  | k + 1, n => xor (n % 2 == 1) (parityOf k (n / 2))

/-- Gray to binary over `k` bits: bit i of the result is the parity of the bits from i up. -/
def grayToBin (k n : Nat) : Nat :=
  (List.range k).foldl (fun a i => a + (if parityOf k (n / 2 ^ i) then 2 ^ i else 0)) 0

/-- R27: the count step of a transition between two A, B levels along 00, 10, 11, 01 (A, then B): +1, -1, 0 for no
change, or none where both changed. -/
def quadStep (a b a' b' : Bool) : Option Int :=
  let code : Bool → Bool → Int := fun x y => match x, y with
    | false, false => (0 : Int)
    | true, false => 1
    | true, true => 2
    | false, true => 3
  match (code a' b' - code a b) % 4 with
  | 0 => some 0
  | 1 => some 1
  | 3 => some (-1)
  | _ => none

end Sys2Proof.Machine
end

