-- ==== Sys2Proof/Machine/LaunchTypes.lean ====
section
/-!
DEFINITION. State of the launch table, the pins and the overlay exchanges (R57–R107, R648).
-/
namespace Sys2Proof.Machine

/-- TRIG of the control word (R63). -/
inductive Trig where
  | time | bearing | bearingN
deriving DecidableEq, Repr

/-- Late policies (R63, R71). -/
inductive LatePol where
  | launch | drop | hold
deriving DecidableEq, Repr

/-- Uncertainty policies (R63, R71). -/
inductive UncPol where
  | flagged | holdForEdge | drop
deriving DecidableEq, Repr

/-- Acquisition policies (R42, R63). -/
inductive AcqPol where
  | hold | edge | reject
deriving DecidableEq, Repr

/-- Pin actions (R65, R78). -/
inductive PinAct where
  | set | clear | toggle | pulse
deriving DecidableEq, Repr

/-- Target kinds with their parameters (R65). The pulse width is in launch slots, or in Q16.16 Bearing units where
`bearingWidth` holds. -/
inductive Target where
  | pin (n : Nat) (act : PinAct) (bearingWidth : Bool) (width : Nat)
  | frame (session template arg : Nat)
  | post (queue word : Nat)
  | overlay (set layer digest : Nat)
  | arm (handle : Nat) (arm : Bool)
deriving DecidableEq, Repr

/-- A decoded entry image (R62–R65). `trigger` is an instant for TIME and a BVAL otherwise; tolerances are in ticks. -/
structure EntryImage where
  trig : Trig
  dir : Dir
  brg : Nat
  target : Target
  late : LatePol
  unc : UncPol
  acq : AcqPol
  tte : Bool
  armed : Bool
  trigger : Int
  early : Ticks
  lateTol : Ticks
deriving DecidableEq, Repr

/-- Entry states, with the codes of R101 (a free slot is one the table does not list). -/
inductive EState where
  | unarmed | waiting | predicted | committed | held | acting | atSample
deriving DecidableEq, Repr

def EState.code : EState → Nat
  | .unarmed => 1
  | .waiting => 2
  | .predicted => 3
  | .committed => 4
  | .held => 5
  | .acting => 6
  | .atSample => 7

/-- One launch entry. -/
structure Entry where
  item : Nat
  image : EntryImage
  /-- the entry image as written, for status reads and the manifest -/
  raw : Bytes
  state : EState := .waiting
  /-- absolute target of a BEARING trigger, or of a BEARING_N trigger once resolved (R66) -/
  goal : Option BVal := none
  /-- the qualifying prediction of R35 -/
  pred : Option Pred := none
  /-- committed or corrected instant -/
  instant : Ticks := 0
  /-- the instant committed first, and the uncertainty tested then (R71, R72) -/
  committedAt : Ticks := 0
  unc : Ticks := 0
  /-- launch outcome word as far as known (R61) -/
  flags : Nat := 0
  /-- quality byte at the commit point (R83) -/
  quality : Nat := 0
  /-- sequence number a launched frame took at commit (R82) -/
  sff : Option Nat := none
  sealed : Bool := false
  sealClaim : Nat := 0
  /-- the frame has been transmitted -/
  sent : Bool := false
  /-- a POST whose cause has not cleared, a frame held by R192, or PIN/FRAME work held by hold outputs -/
  blocked : Bool := false
  /-- the sense test of a placed edge is outstanding -/
  senseDue : Bool := false
  /-- the action was completed with STANDBY (R80, R238) -/
  standbyDone : Bool := false
  /-- the sense path saw the edge of an entry completed with STANDBY, at this instant (R238) -/
  seen : Option Ticks := none
  /-- the action left the driven level unchanged (R77, R238) -/
  noEdge : Bool := false
  /-- the item posted at L whose acceptance still waits for the mirror (R77, R130) -/
  posting : Option Nat := none
  /-- the codeword of the commit state is invalid (R518, R519) -/
  codeBad : Bool := false
deriving DecidableEq, Repr

/-- A pulse end (R78): at a chip time, or at a crossing of a Bearing. -/
structure PulseEnd where
  handle : Nat
  at_ : Option Ticks
  brg : Nat
  goal : BVal
  dir : Dir
  start : Ticks
  committed : Bool
deriving DecidableEq, Repr

/-- Pin enable states (R90). -/
inductive PinState where
  | off | on | draining | cancelling
deriving DecidableEq, Repr

/-- What a pin drives. -/
inductive Level where
  | inactive | active | highZ
deriving DecidableEq, Repr

/-- The level at a pin's ball (R78, R89). -/
inductive Ball where
  | low | high | highZ
deriving DecidableEq, Repr

/-- A measured edge that is still to be reported (R91). -/
structure SenseWait where
  sched : Ticks
  handle : Option Nat
  isEnd : Bool
deriving DecidableEq, Repr

/-- One launch pin. -/
structure Pin where
  state : PinState := .off
  base : Bool := false
  pulses : Nat := 0
  ends : List PulseEnd := []
  lastEdge : Option Ticks := none
  sense : List SenseWait := []
  /-- end of a running replica measurement -/
  recal : Option Ticks := none
  envOut : Bool := false
  /-- level held by safe outputs with SAFE_LEVEL HOLD, or by a yield -/
  frozen : Option Level := none
  /-- enabled under hold outputs: base level and pulse count are set at the release (R90, R648) -/
  idleDue : Bool := false
deriving DecidableEq, Repr

/-- A participant's answer to PREPARE (R94). -/
inductive OvlAnswer where
  | ready (l : Ticks) | refuse
deriving DecidableEq, Repr

/-- What a master decides for an overlay or a chart switch (R94, R95, R272). -/
inductive OvlDecision where
  | commit | abortRefused | abortMissing
deriving DecidableEq, Repr

/-- An overlay exchange as its master runs it, keyed by the accepting chip and the handle of its entry (R94). Participants
are the flotilla's chips by ID, and 16 for the twin's master. The accepting chip is 16 + ID where it is one of the twin's
flotilla: this master then takes part for its own chips, and `decided` says that it has answered. -/
structure OvlExchange where
  chip : Nat
  handle : Nat
  image : EntryImage
  members : List Nat
  answers : List (Nat × OvlAnswer) := []
  decided : Option OvlDecision := none
deriving DecidableEq, Repr

/-- An overlay exchange as a participant holds it: its own prediction, the instant it committed and answered, and the
decision received. -/
structure OvlPart where
  chip : Nat
  handle : Nat
  image : EntryImage
  pred : Option Pred := none
  l : Option Ticks := none
  answered : Bool := false
  decision : Option OvlDecision := none
deriving DecidableEq, Repr

/-- What reaches a commit point: an entry, the pulse end that an entry left on a pin, or a participant's copy of another
chip's overlay entry. -/
inductive CommitRef where
  | entry (h : Nat)
  | pulse (pin h : Nat)
  | part (chip h : Nat)
deriving DecidableEq, Repr

/-- Messages of the overlay exchange (R94). Their numbers on the REPLICATION class are not in the spec. -/
inductive OvlMsg where
  | prepare (chip handle : Nat) (image : EntryImage)
  | answer (chip handle : Nat) (a : OvlAnswer)
  | decide (chip handle : Nat) (d : OvlDecision)
deriving DecidableEq, Repr

/-- The chip number by which the other flotilla of a twin knows a chip. -/
def otherSide (chip : Nat) : Nat := if chip < 16 then chip + 16 else chip - 16

/-- A message as the twin's master reads it. -/
def OvlMsg.across : OvlMsg → OvlMsg
  | .prepare c h i => .prepare (otherSide c) h i
  | .answer c h a => .answer (otherSide c) h a
  | .decide c h d => .decide (otherSide c) h d

/-- The snapshot registers of LCH_ENTRY_SEL (R100–R103). -/
structure EntrySnap where
  state : Nat := 0
  flags : Nat := 0
  instant : Ticks := 0
  unc : Ticks := 0
deriving DecidableEq, Repr

/-- The launch slices, the pin stage and the overlay coordination. -/
structure Launch where
  entries : Tab Entry := []
  /-- the two comparators of the overlay switch disagree (R517; log entry 170) -/
  switchDisagrees : Bool := false
  pins : Tab Pin := []
  snap : EntrySnap := {}
  masterEx : List OvlExchange := []
  parts : List OvlPart := []
  /-- actions taken in the current microsecond, by logical slice (16: the chip), and commits (32 and up; 48: the chip), with
  that microsecond's number (R76) -/
  rate : Tab (Int × Nat) := []
deriving DecidableEq, Repr

end Sys2Proof.Machine
end

