-- ==== Sys2Proof/Machine/OdTypes.lean ====
section
/-!
DEFINITION. What a row of the object dictionary says: address, type, access, persistence, default and range
(R15–R17, R256, R257).
-/
namespace Sys2Proof.Machine

/-- OD value types (R257). -/
inductive OdType where
  | bool | u8 | u16 | u32 | u64 | i32 | bval | dur | time | enum8 | keyh | octets | utf8
deriving DecidableEq, Repr

/-- The roles of R16; `none` is the dash of an Access column (R15). -/
inductive Role where
  | none | ob | op | en | so | sv
deriving DecidableEq, Repr

/-- Persistence classes (R17). -/
inductive Persist where
  | vol | chart | ovl | fact
deriving DecidableEq, Repr

/-- One row of an object table. -/
structure OdRow where
  index : Nat
  sub : Nat
  count : Nat
  type : OdType
  len : Nat
  readRole : Role
  readPermit : Bool
  writeRole : Role
  writePermit : Bool
  persist : Persist
  factory : Bool
  dflt : Int
  range : Option (Int × Int)
deriving DecidableEq, Repr

/-- The key of an object under which the store holds it: index, subindex and instance in one number. -/
def odKey (index sub inst : Nat) : Nat := (index * 256 + sub) * 16777216 + inst

/-- Value sizes in bytes (R257). -/
def OdType.size (t : OdType) (len : Nat) : Nat :=
  match t with
  | .bool | .u8 | .enum8 => 1
  | .u16 => 2
  | .u32 | .i32 | .keyh => 4
  | .u64 | .bval | .dur => 8
  | .time => 12
  | .octets | .utf8 => len

/-- Whether a type's value is a byte string. -/
def OdType.isBytes : OdType → Bool
  | .octets | .utf8 => true
  | _ => false

/-- Whether a type's value is read as a signed number. -/
def OdType.signed : OdType → Bool
  | .i32 | .bval | .dur => true
  | _ => false

/-- R16: which roles satisfy an Access entry. OB is satisfied by any authenticated role, OP by OP or EN. -/
def Role.satisfies (have_ need : Role) : Bool :=
  match need with
  | .none => false
  | .ob => decide (have_ ≠ .none)
  | .op => decide (have_ = .op) || decide (have_ = .en)
  | .en => decide (have_ = .en)
  | .so => decide (have_ = .so)
  | .sv => decide (have_ = .sv)

/-- Role codes of ROLE and MAILBOX_ROLE: 0 NONE, 1 OB, 2 OP, 3 EN, 4 SO, 5 SV (R278). -/
def Role.ofCode (n : Int) : Role :=
  if n = 1 then .ob else if n = 2 then .op else if n = 3 then .en else if n = 4 then .so
  else if n = 5 then .sv else .none

end Sys2Proof.Machine
end

