-- ==== Sys2Proof/Machine/ObjectTypes.lean ====
section
/-!
DEFINITION. State of the object dictionary, charts, overlays and the Object Access Protocol (R256–R279).
-/
namespace Sys2Proof.Machine

/-- An OD value: a number, or a byte string for OCTETS and UTF8 objects (R257). -/
inductive OdValue where
  | num (n : Int)
  | bytes (b : Bytes)
deriving DecidableEq, Repr

/-- An object address: index, subindex, instance number (R256). -/
structure OdAddr where
  index : Nat
  sub : Nat
  inst : Nat
deriving DecidableEq, Repr

/-- Values held by one source of R274, numbers and byte strings apart, keyed by `odKey`. -/
structure OdValues where
  nums : Tab Int := []
  octs : Tab Bytes := []
deriving DecidableEq, Repr

/-- An overlay layer (R274, 0x1203): the active set, its image digest, switch instant, handle and values. -/
structure Layer where
  set : Nat := 0
  digest : Bytes := []
  base : Bytes := []
  since : Ticks := 0
  handle : Nat := 0
  switches : Nat := 0
  vals : OdValues := {}
deriving DecidableEq, Repr

/-- The object store: direct values, chart values and the overlay layers 1 to 3 (R274). -/
structure OdStore where
  direct : OdValues := {}
  chart : OdValues := {}
  mode : Layer := {}
  maint : Layer := {}
  trial : Layer := {}
deriving DecidableEq, Repr

/-- An object record of a CHART or OVERLAY body (R269). -/
structure ObjRecord where
  index : Nat
  sub : Nat
  first : Nat
  count : Nat
  value : Bytes
deriving DecidableEq, Repr

/-- A stored Efuth image (R268): the header fields the device acts on, its digest, and its body. -/
structure Image where
  kind : Nat
  flags : Nat
  keyId : Nat
  secVersion : Nat
  imgVersion : Nat
  set : Nat
  layer : Nat
  base : Bytes
  digest : Bytes
  units : Option (List Bytes)
  records : List ObjRecord
  body : Bytes
deriving DecidableEq, Repr

/-- A write shadow (R264): requester, object, the REQUEST_IDs that wrote it, its windows (offset and bytes) oldest first, and
the instant of the last write. -/
structure Shadow where
  requester : Nat
  addr : OdAddr
  ids : List Nat
  parts : List (Nat × Bytes)
  lastWrite : Ticks
deriving DecidableEq, Repr

/-- A subscription (R267): requester, REQUEST_ID, mode 1 ON_CHANGE or 2 PERIODIC, period, minimum interval, address entries
(object, OFFSET, LENGTH), when it was made, its last report, and the READ response entries that its reports compare with. -/
structure Subscription where
  requester : Nat
  reqId : Nat
  mode : Nat
  period : Ticks
  minInterval : Ticks
  addrs : List (OdAddr × Nat × Nat)
  since : Ticks
  lastAt : Option Ticks
  lastVals : List Bytes
deriving DecidableEq, Repr

/-- A response kept for repeated REQUEST_IDs (R265). -/
structure KeptResponse where
  requester : Nat
  reqId : Nat
  op : Nat
  message : Bytes
deriving DecidableEq, Repr

/-- A chart switch in progress at this chip (R272), with the requester and REQUEST_ID that the outcome answers where it was
asked for here. -/
structure ChartSwitch where
  slot : Nat
  instant : Ticks
  committed : Bool
  asker : Option (Nat × Nat) := none
deriving DecidableEq, Repr

/-- Requester of what comes over the mailbox; sessions are their slots, and task `k` is 65 537 + `k`. -/
def mailboxReq : Nat := 65536

/-- State of the configuration services. -/
structure Objects where
  /-- chart slots A (0) and B (1), retained in flash -/
  charts : Tab Image := []
  /-- overlay slots 0–47, retained in flash -/
  overlays : Tab Image := []
  /-- overlay slots whose base digest no longer matches the active chart (R277) -/
  orphans : List Nat := []
  activeSlot : Option Nat := none
  /-- the slot marked active in flash (R272) -/
  marked : Option Nat := none
  switch : Option ChartSwitch := none
  /-- security version floors by image KIND (R273) -/
  floors : Tab Nat := []
  stage : Bytes := []
  lastStatus : Nat := 0
  shadows : List Shadow := []
  subs : List Subscription := []
  /-- newest first, at most 64 for each requester -/
  responses : List KeptResponse := []
  /-- lane-program and purser-task images of the customer store, by position -/
  customer : List Image := []
deriving DecidableEq, Repr

end Sys2Proof.Machine
end

