-- ==== Sys2Proof/Machine/PowerTypes.lean ====
section
/-!
DEFINITION. State of the power arbiter (R598–R615). Currents are in units of 100 mA and powers in 0.1 W.
-/
namespace Sys2Proof.Machine

/-- One consumer's demand in one throttle class (R599, R600, R603). -/
structure Demand where
  consumer : Nat
  cls : Nat
  units : Nat
deriving DecidableEq, Repr

/-- What the arbiter measures in an epoch (R598, R601, R610): P_OTHER in 0.1 W, the temperatures in 0.01 °C, MEASURED in
100 mA, DROOP in 0.1 mV, and the demands that the consumers report. -/
structure PowerReading where
  other : Nat
  tHot : Int
  tPins : Int
  measured : Nat
  droop : Int
  demands : List Demand
deriving DecidableEq, Repr

/-- A DEMAND message as the master holds it (R605). -/
structure ChipDemand where
  floorW : Nat
  demandW : Nat
  measuredW : Nat
deriving DecidableEq, Repr

/-- The arbiter. -/
structure Power where
  /-- measured models in use (R609) -/
  model : Bool := false
  limiter : Nat := 0
  throttle : Nat := 0
  bin : Nat := 0
  /-- the last changes of the load bin, newest first: when, and the bin before (R25) -/
  binLog : List (Ticks × Nat) := []
  save : Bool := false
  safe : Bool := false
  shareStale : Bool := false
  boardShort : Bool := false
  limited : Bool := false
  thermalLimited : Bool := false
  critical : Bool := false
  budget : Int := 0
  load : Nat := 0
  granted : Nat := 0
  /-- 0.1 mV -/
  droop : Int := 0
  /-- hottest sensor and the sensor nearest the Bearing inputs and pins, 0.01 °C -/
  tHot : Int := 0
  tPins : Int := 0
  pOther : Nat := 0
  /-- the share in force; none before the first SHARE -/
  share : Option Nat := none
  lastShare : Ticks := 0
  demands : List Demand := []
  grants : List Demand := []
  /-- grant of each class in the last epoch -/
  classGrant : Tab Nat := []
  /-- sum of DROOP and number of epochs spent, by bin (R610) -/
  binSum : Tab (Int × Nat) := []
  chips : Tab ChipDemand := []
  /-- ports paused for STREAM_IN, and consecutive epochs of met demand since -/
  paused : List Nat := []
  /-- demand of each class in the last epoch -/
  classDemand : Tab Nat := []
  metEpochs : Nat := 0
  /-- units of the auxiliary ledger granted to the RF field; each powered card slot holds one more (R598) -/
  auxField : Nat := 0
deriving DecidableEq, Repr

end Sys2Proof.Machine
end

