-- ==== Sys2Proof/Machine/CmdTypes.lean ====
section
/-!
DEFINITION. Operand types of the commands: received frames, set-up fragments, synchronisation results, and
scrub findings.
-/
namespace Sys2Proof.Machine

/-- What carried a received frame (R167): an EtherType, or UDP over IPv4 or IPv6: its port, whether it is an IP fragment,
whether it has IP options or extension headers, and whether the UDP checksum holds. -/
inductive RxCarrier where
  | ethernet (etherType : Nat)
  | udp (v6 : Bool) (port : Nat) (fragment options checksumOk : Bool)
deriving DecidableEq, Repr

/-- A wire or rate fault of a Bearing's inputs that begins, or one that has ended (R38, R56). -/
structure BearingSign where
  b : Fin 16
  present : Bool
deriving DecidableEq, Repr

/-- An instant at which a unit of a pair decides on its claim, and whether the two takings of that decision agree (R517). -/
structure ClaimTime where
  t : Ticks
  agree : Bool
deriving DecidableEq, Repr

/-- The keys of a KEYS message, and the sequence they hold from where they are those of an update (R179, R187, R230). -/
structure KeysCopy where
  keys : SessionKeys
  switch : Option Nat
deriving DecidableEq, Repr

/-- A frame as the port hands it over: its link, whether the frame check sequence holds, the base header field by field, and
every byte after the base header: extensions, ciphertext, tag (R181). The type is the command's own. -/
structure RxFrame where
  port : Nat
  arrival : Ticks
  crcOk : Bool
  carrier : RxCarrier
  version : Nat
  flags : Nat
  session : Nat
  claim : Nat
  seq : Nat
  extLen : Nat
  length : Nat
  /-- bytes 18–19 of the base header -/
  zero : Nat
  body : Bytes
deriving DecidableEq, Repr

/-- What a PTP message from a port brings (R169–R171): the port, the domain, the sender's place in the best master clock
algorithm, and what the profile's exchanges on that port have measured. -/
structure SyncMsg where
  port : Nat
  domain : Nat
  /-- the data set of the master that the message announces, as the algorithm compares it: priority 1, class, accuracy,
  variance, priority 2, identity -/
  master : List Nat
  offset : Ticks
  unc : Ticks
  gm : Bytes
  steps : Nat
  pathDelay : Ticks
  interval : Ticks
deriving DecidableEq, Repr

/-- One frame of the set-up channel (R174): its link, its base header, and its fragment header; the message number is the
command's own. `bytes` is the fragment's content after the fragment header. -/
structure Fragment where
  port : Nat
  crcOk : Bool
  carrier : RxCarrier
  /-- the sender's addresses -/
  mac : Bytes
  ip : Bytes
  version : Nat
  flags : Nat
  claim : Nat
  seq : Nat
  extLen : Nat
  length : Nat
  zero : Nat
  exchange : Nat
  index : Nat
  count : Nat
  reserved : Nat
  bytes : Bytes
deriving DecidableEq, Repr

/-- What the scrub finds wrong with an item's cells. -/
inductive CellFault where
  /-- a single-bit error, corrected (merging source 0x010) -/
  | corrected
  /-- a cell other than the head cell cannot be corrected -/
  | bodyLost
  /-- the head cell is readable, its state code is not valid -/
  | codeInvalid
  /-- the head cell cannot be corrected -/
  | headLost
deriving DecidableEq, Repr

/-- What training and link authentication found on a Ferry port (R213–R215, R220, R221): lanes that work, what the peer
announced, and whether its signature and key exchange hold. -/
structure FerryTrained where
  lane0 : Bool
  lane1 : Bool
  lane2 : Bool
  lane3 : Bool
  peerId : Nat
  peerPort : Nat
  peerUnit : Bytes
  peerChart : Bytes
  /-- its ephemeral public key (R215) -/
  peerPub : Bytes
  authOk : Bool
deriving DecidableEq, Repr

/-- A TIME exchange with a neighbour (R223): the four instants, the offset after the device's filter, and what the neighbour
announces: its ID, chart validity, the members it reaches, its hops to the master and the master's time state. -/
structure TimeExchange where
  /-- the link frame that brought it -/
  link : LinkRx
  t1 : Ticks
  t2 : Ticks
  t3 : Ticks
  t4 : Ticks
  filtered : Int
  src : Nat
  chartValid : Bool
  /-- the members that the neighbour hears, other than over this link, with their chart validity -/
  beyond : List (Nat × Bool)
  hops : Nat
  /-- TIME_STATE and TIME_UNC of the master, as the neighbour reports them -/
  timeState : TimeState
  timeUnc : Ticks
deriving DecidableEq, Repr

/-- A twin heartbeat (R228, R229) on a path, whether its burst's CRC holds, and what the units tell each other at join: the
chart digest and the claim ceiling (log entry 40). -/
structure TwinHeartbeat where
  path : Nat
  crcOk : Bool
  claim : Nat
  role : TwinRole
  joined : Bool
  mirrorStale : Bool
  yield : Bool
  pinsDriven : Bool
  isolated : Bool
  seq : Nat
  journal : Nat
  digest : Bytes
  ceiling : Nat
deriving DecidableEq, Repr

/-- The cells of a RECORD or RESYNC message, as what they hold (R135, R205, R230): an item, free cells, or stream cells. -/
inductive CellRec where
  | item (head : Nat) (x : Item)
  | free (head : Nat)
  | stream (n head : Nat) (c : StreamCopy)
deriving DecidableEq, Repr

/-- A fetched job: its descriptor, and what the fetch of its input and of its AUX bytes answered; none where an address
breaks a rule of R438. -/
structure HashFetch where
  desc : Bytes
  input : Option Bytes
  aux : Option Bytes
  /-- the public key at OUT_ADDR under PK_INLINE -/
  pk : Option Bytes
deriving DecidableEq, Repr

/-- What a start finds (R616–R621): FLOT_ID, whether VDD_SRAM and VDD_AON have stayed in regulation with the retention
signature readable, HOLDUP_OK, whether the two reads of the life-cycle word agree, what the scrub finds, which firmware
slots fail verification, whether the CRC and state codes of the save check, whether the chart verifies, which piers fail
their self-test, and the instant of READY. -/
structure StartIn where
  flotId : Fin 8
  sramKept : Bool
  holdup : Bool
  readsAgree : Bool
  scrub : List (Nat × CellFault)
  badA : Bool
  badB : Bool
  saveOk : Bool
  chartOk : Bool
  pierFails : List (Fin 17)
  ready : Ticks
deriving DecidableEq, Repr

/-- A card in the field that a full poll can reach (R533–R535): Type B or A, its UID or PUPI, whether it supports ISO/IEC
14443-4, whether it refuses CIDs, and its highest rate, as RATE_MAX. -/
structure FieldCard where
  typeB : Bool
  uid : Bytes
  isoDep : Bool
  noCid : Bool
  rate : Nat
deriving DecidableEq, Repr

/-- How a DMA access for a queue fails (R287): the read of a descriptor; the read of a body, with its descriptor; a write that
the access check of a channel refuses, with its system address and cause. -/
inductive DmaFail where
  | descriptor
  | body (desc : Bytes)
  | write (chan : Fin 32) (addr : Nat) (cause : Fin 256)
deriving DecidableEq, Repr

/-- What lets held MSI-X messages go (R297): a vector unmasked in the table, a function mask cleared, a return to D0. -/
inductive Unmask where
  | vector (v : Fin 8192)
  | function (f : Fin 4)
  | d0 (f : Fin 4)
deriving DecidableEq, Repr

/-- What a register write names: of host software, a 32-bit word of BAR0 or BAR4, or the function mask of the MSI-X
capability; of the resident firmware on a purser, a 32-bit word of the register space. -/
inductive HostReg where
  | bar0 (word : Fin 16777216)
  | bar4 (word : Fin 16384)
  | functionMask
  | firmware (purser : Fin 4) (word : Fin 16777216)
deriving DecidableEq, Repr

/-- What a write needs beside its value: what a RESTART finds, whether redundant checks of a request agree, whether the units
programmed verify, the pulses of an erase and whether it is cut, and where power cuts a transition. -/
structure WriteEnv where
  start : StartIn
  agree : Bool
  verify : Bool
  pulses : Nat
  cut : Bool
  lcCut : Option (Fin 8)
deriving DecidableEq, Repr

/-- Where an OAP request comes from: the mailbox, whose request waits there, or a MGMT frame (R261). -/
inductive OapSource where
  | mailbox
  | frame (f : RxFrame)
deriving DecidableEq, Repr

/-- What one unit of a twin hands the other (R260, R571). To the standby: an object and its value, a ledger record, and a
RECORD_GRANT for a card at one of its places. To the active unit: a card identified at a place, one that has gone from it
(and whether the command had been sent whole), and a card's answer about an entry: the entry, the card, whether it
committed, and its counter. -/
inductive Replicated where
  | object (a : OdAddr) (value : Bytes)
  | ledger (n : Nat) (r : LedgerRec)
  | apdu (place : Fin 6) (bytes : Bytes)
  | identified (place : Fin 6) (h : CardHolder)
  | gone (place : Fin 6) (sent : Bool)
  | settled (n : Nat) (cardId : Bytes) (committed : Bool) (counter : Nat)
deriving DecidableEq, Repr

/-! ## Purser instructions (R354–R356) -/

/-- Operation width: the width prefixes, or none. -/
inductive PuWidth where
  | w8 | w16 | w32 | w64
deriving DecidableEq, Repr

/-- An immediate of 1, 2, 4 or 8 bytes. -/
inductive PuImm where
  | i1 (v : BitVec 8)
  | i2 (v : BitVec 16)
  | i4 (v : BitVec 32)
  | i8 (v : BitVec 64)
deriving DecidableEq, Repr

/-- A displacement of 0, 1, 2 or 4 bytes. -/
inductive Disp where
  | d0
  | d1 (v : BitVec 8)
  | d2 (v : BitVec 16)
  | d4 (v : BitVec 32)
deriving DecidableEq, Repr

/-- A branch offset of 1 or 4 bytes. -/
inductive PuRel where
  | r1 (v : BitVec 8)
  | r4 (v : BitVec 32)
deriving DecidableEq, Repr

/-- A TWICE prefix: none, or what differs between the two executions, as TWICE_INFO [5:0] reports it; zero where they agree
(R364, R381). -/
abbrev Twice := Option (BitVec 6)

/-- The prefixes of an instruction that takes a width and TWICE. -/
structure PuPre where
  w : PuWidth
  twice : Twice
deriving DecidableEq, Repr

/-- The prefix of LD and ST beside the width: none, TWICE or ATOM. -/
inductive PuMem where
  | plain
  | twice (differs : BitVec 6)
  | atom
deriving DecidableEq, Repr

/-- The prefixes of a block operation: its width, REP, and the element boundary at which an interrupt is pending, with its
source. -/
structure PuRep where
  w : PuWidth
  rep : Bool
  upTo : Option (Nat × Fin 65536)
deriving DecidableEq, Repr

/-- A core that fetches instructions: the deckhand of a lane, or a purser. -/
inductive CoreRef where
  | lane (n : Fin 128)
  | purser (p : Fin 4)
deriving DecidableEq, Repr

end Sys2Proof.Machine
end

