-- ==== Sys2Proof/Syntax.lean ====
section
/-!
DEFINITION. The commands of the block: one constructor for each row of the opcode table, with the row's operands
(log entry 1 says how operands and instants were chosen).
-/
namespace Sys2Proof
open Sys2Proof.Machine

/-- A command. `t` is the chip time at which it reaches the block. -/
inductive Instr where
  /-- A transition of a quadrature input: the levels of A and B after it, the width of the pulse it ends, its raw instant (R27). -/
  | bearingEdge (b : Fin 16) (a c : Bool) (width raw t : Ticks)
  /-- A rising Z edge with its width (R29). -/
  | indexPulse (b : Fin 16) (width t : Ticks)
  /-- An SSI word, its parity bit, the instant of its latching edge (R31). -/
  | ssiSample (b : Fin 16) (word : Nat) (parity : Bool) (edge t : Ticks)
  /-- A comparator edge of a mains phase: direction, peak since the last one, and the eight converter samples around it as
  (instant, amplitude) (R32, R33). -/
  | mainsCrossing (b : Fin 16) (phase : Fin 3) (rising : Bool) (peak : Nat) (before after : List (Ticks × Int)) (t : Ticks)
  /-- A pair of the input is open, shorted or unpowered (R56). -/
  | wireFault (b : BearingSign) (t : Ticks)
  /-- Counted edges came faster than 100 M each second for 1 µs (R56). -/
  | rateFault (b : BearingSign) (t : Ticks)
  /-- The gate of a Bearing has passed without a sample (R38, R41). -/
  | edgeTimeout (b : Fin 16) (t : Ticks)
  /-- COAST_TIME has passed (R38). -/
  | coastExpired (b : Fin 16) (t : Ticks)
  /-- ENABLE is written ON (R38). -/
  | bearingEnable (b : Fin 16) (t : Ticks)
  /-- ENABLE is written OFF or DRAIN (R51). -/
  | bearingDisable (b : Fin 16) (t : Ticks)
  /-- A draining Bearing has no entry left (R51). -/
  | bearingDrainDone (b : Fin 16) (t : Ticks)
  /-- POSITION_SET is written (R30). -/
  | positionSet (b : Fin 16) (v : BVal) (t : Ticks)
  /-- A calibration capture is started (R45). -/
  | calCapture (b : Fin 16) (t : Ticks)
  /-- A capture has averaged its 64 periods (R45). -/
  | calCaptureDone (b : Fin 16) (at_ t : Ticks)
  /-- A publication instant of a Bearing (R48). -/
  | bearingPublish (b : Fin 16) (instant t : Ticks)
  /-- A BEARING frame (R50). -/
  | bearingFrameReceive (f : RxFrame) (t : Ticks)
  /-- A FERRY Bearing's sample from the chip that measures it, with that Bearing's parameters, or the word that it is LOST (R46, R225). -/
  | ferryBearingSample (b : Fin 16) (r : RemoteCfg) (x : Sample) (lost : Bool) (t : Ticks)
  /-- A commit point is reached: an entry's, a pulse end's or a participant's (R71). -/
  | launchCommit (r : CommitRef) (t : Ticks)
  /-- The frame of a committed entry is sealed (R70). -/
  | frameSeal (h : Nat) (t : Ticks)
  /-- Actions due by the instant are carried out, in the order of their slots (R76). -/
  | launchAction (t : Ticks)
  /-- Pulse ends of a pin due by the instant (R78). -/
  | pulseEnd (n : Fin 32) (t : Ticks)
  /-- The sense path has measured the oldest placed edge, or has not seen it (R91). -/
  | pinSense (n : Fin 32) (measured : Option Ticks) (t : Ticks)
  /-- RELEASE of a launch handle (R74). -/
  | release (h : Nat) (t : Ticks)
  /-- CANCEL of a launch handle (R75). -/
  | cancel (h : Nat) (t : Ticks)
  /-- A pin is enabled (R90). -/
  | pinEnable (n : Fin 32) (t : Ticks)
  /-- A pin is disabled (R90). -/
  | pinDisable (n : Fin 32) (t : Ticks)
  /-- A disabled pin has no entry and no pulse left (R648). -/
  | pinDrainDone (n : Fin 32) (t : Ticks)
  /-- A pin's delays are due for a measurement (R92). -/
  | pinRecalCheck (n : Fin 32) (t : Ticks)
  /-- A replica measurement has ended, with what it measured (R92). -/
  | pinRecalDone (n : Fin 32) (rise fall temp : Int) (t : Ticks)
  /-- LCH_ENTRY_SEL is written (R100). -/
  | lchEntrySel (h : Nat) (t : Ticks)
  /-- A PREPARE of the overlay exchange (R94). -/
  | overlayPrepare (chip h : Nat) (image : EntryImage) (t : Ticks)
  /-- A participant's answer reaches the master (R94). -/
  | overlayAnswer (chip h sender : Nat) (a : OvlAnswer) (t : Ticks)
  /-- The master decides (R95). -/
  | overlayDecide (chip h : Nat) (t : Ticks)
  /-- The master's decision reaches a participant (R95). -/
  | overlayDecisionReceive (chip h : Nat) (dec : OvlDecision) (t : Ticks)
  /-- The DB_SUB doorbell, through a function (R113, R282). -/
  | dbSub (pf : Fin 4) (q : Fin 16384) (pos : Nat) (t : Ticks)
  /-- The DB_CPL doorbell, through a function (R115, R282). -/
  | dbCpl (pf : Fin 4) (q : Fin 16384) (pos : Nat) (t : Ticks)
  /-- The next descriptor of a submission ring, and what the fetch of its body answered (R117–R131). -/
  | itemAdmit (q : Fin 16384) (desc : Bytes) (body : Option Bytes) (t : Ticks)
  /-- The standby acknowledges manifest writes up to a count (R128). -/
  | mirrorAck (n : Nat) (t : Ticks)
  /-- The queue's next item goes to its target (R133). -/
  | queueDispatch (q : Fin 16384) (t : Ticks)
  /-- An item's EXPIRY has passed (R133). -/
  | itemExpiry (q : Fin 16384) (seq : Nat) (t : Ticks)
  /-- An item has not been confirmed in time (R133). -/
  | confirmTimeout (q : Fin 16384) (seq : Nat) (t : Ticks)
  /-- CANCEL_SEQ is written (R133). -/
  | cancelSeq (q : Fin 16384) (seq : Nat) (t : Ticks)
  /-- QUE_RING_CFG is written (R112, R159). -/
  | queRingCfg (q : Fin 16384) (v : Nat) (t : Ticks)
  /-- A queue's ENABLE is written ON (R112). -/
  | queueEnable (q : Fin 16384) (t : Ticks)
  /-- A queue's ENABLE is written OFF (R151). -/
  | queueDisable (q : Fin 16384) (t : Ticks)
  /-- A closing queue has no item left to finish (R151). -/
  | queueDrainDone (q : Fin 16384) (t : Ticks)
  /-- DETECT_TIME has passed without an acknowledgement (R132). -/
  | replicationTimeout (t : Ticks)
  /-- A scrub pass and what it found, by head cell (R156). -/
  | manifestScrub (found : List (Nat × CellFault)) (t : Ticks)
  /-- A fault of domain CHIP resets the device, and what the start finds (R507). -/
  | warmReset (i : StartIn) (t : Ticks)
  /-- PWRFAIL_N goes low: for how long, and the sectors whose erase it cuts (R140, R582). -/
  | powerFail (low : Ticks) (cut : List (Fin 6144)) (t : Ticks)
  /-- The save ends and the device parks (R140). -/
  | saveComplete (t : Ticks)
  /-- HOLDUP_OK falls (R139). -/
  | holdupOkFall (t : Ticks)
  /-- HOLDUP_OK rises (R139). -/
  | holdupOkRise (t : Ticks)
  /-- SHUTDOWN is written (R146). -/
  | shutdown (v : Nat) (t : Ticks)
  /-- An erase of a save area ends (R144, R145). -/
  | saveAreaEraseDone (area : Fin 2) (t : Ticks)
  /-- A network port's ENABLE is written (R166). -/
  | portEnable (p : Fin 32) (on : Bool) (t : Ticks)
  /-- A network port's link changes (R208). -/
  | portLink (p : Fin 32) (up : Bool) (t : Ticks)
  /-- A synchronisation message and what the servo makes of it (R169, R170). -/
  | timeSyncMessage (m : SyncMsg) (t : Ticks)
  /-- Four sync intervals have passed without a message (R170). -/
  | syncLoss (t : Ticks)
  /-- HOLDOVER has lasted HOLDOVER_LIMIT (R170). -/
  | holdoverLimit (t : Ticks)
  /-- A second begins (R171). -/
  | ppsOut (t : Ticks)
  /-- A fragment of an OPEN (R174, R175). -/
  | setupOpen (f : Fragment) (t : Ticks)
  /-- A fragment of an ANSWER (R174, R175). -/
  | setupAnswer (f : Fragment) (t : Ticks)
  /-- A fragment of a CONFIRM (R174, R175). -/
  | setupConfirm (f : Fragment) (t : Ticks)
  /-- A REFUSE (R175). -/
  | setupRefuse (f : Fragment) (t : Ticks)
  /-- Incomplete set-up messages reach their age limit (R174). -/
  | setupTimeout (t : Ticks)
  /-- A session's set-up message has had no answer for 20 ms (R174). -/
  | setupRetransmit (i : Fin 16384) (t : Ticks)
  /-- A CMD frame (R190). -/
  | cmdReceive (f : RxFrame) (t : Ticks)
  /-- An ACK frame (R191). -/
  | ackReceive (f : RxFrame) (t : Ticks)
  /-- A NACK frame (R191). -/
  | nackReceive (f : RxFrame) (t : Ticks)
  /-- A DATA frame (R190, R338). -/
  | dataReceive (f : RxFrame) (t : Ticks)
  /-- A STREAM frame (R197). -/
  | streamReceive (f : RxFrame) (t : Ticks)
  /-- A SAFE frame (R190). -/
  | safeReceive (f : RxFrame) (t : Ticks)
  /-- A HEARTBEAT frame (R186). -/
  | heartbeatReceive (f : RxFrame) (t : Ticks)
  /-- A CLAIM frame (R190). -/
  | claimReceive (f : RxFrame) (t : Ticks)
  /-- A KEYUPD frame (R187). -/
  | keyupdReceive (f : RxFrame) (t : Ticks)
  /-- A JQUERY frame (R186). -/
  | jqueryReceive (f : RxFrame) (t : Ticks)
  /-- HB_PERIOD of a session has passed (R186). -/
  | heartbeatSend (i : Fin 16384) (t : Ticks)
  /-- HB_TIMEOUT of a session has passed (R173). -/
  | hbTimeout (i : Fin 16384) (t : Ticks)
  /-- An item's retransmission is due (R193). -/
  | retxTime (q : Fin 16384) (seq : Nat) (t : Ticks)
  /-- REKEY is written (R187). -/
  | rekey (i : Fin 16384) (t : Ticks)
  /-- A KEYUPD has had no answer in its time (R187). -/
  | keyupdRetry (i : Fin 16384) (t : Ticks)
  /-- KEY_OVERLAP has passed since the switch (R187). -/
  | keyOverlap (i : Fin 16384) (t : Ticks)
  /-- An EXHAUSTED session has no frame outstanding (R188). -/
  | rebaseStart (i : Fin 16384) (t : Ticks)
  /-- A rebase has had no answer for 1 s (R188). -/
  | rebaseTimeout (i : Fin 16384) (t : Ticks)
  /-- SAFE_SEND is written (R196). -/
  | safeSend (i : Fin 16384) (t : Ticks)
  /-- The repeat of a SAFE frame is due (R196). -/
  | safeRepeat (i : Fin 16384) (t : Ticks)
  /-- REOPEN is written: 2 FRESH, 1 RESUME (R209). -/
  | reopen (i : Fin 16384) (fresh : Bool) (t : Ticks)
  /-- A session's ENABLE is written (R209). -/
  | sessionEnable (i : Fin 16384) (on : Bool) (t : Ticks)
  /-- REORDER_TIME has passed with a sequence missing (R197). -/
  | streamGap (n : Fin 1024) (t : Ticks)
  /-- EPOCH_TIME has passed (R201). -/
  | epochClose (n : Fin 1024) (t : Ticks)
  /-- The hash array has signed the oldest closed epoch (R202). -/
  | epochSealed (n : Fin 1024) (t : Ticks)
  /-- A stream's ENABLE is written (R203). -/
  | streamEnable (n : Fin 1024) (on : Bool) (t : Ticks)
  /-- CERT_REQUEST is written: selector, FROM, TO, reference (R207). -/
  | certRequest (n : Fin 1024) (selector : Nat) (low high : BVal) (ref : Bytes) (t : Ticks)
  /-- The certificate in hand has been signed (R206). -/
  | certIssued (n : Fin 1024) (t : Ticks)
  /-- A Ferry port's ENABLE is written (R213). -/
  | ferryPortEnable (p : Fin 8) (on : Bool) (t : Ticks)
  /-- Training has lasted 20 ms (R213). -/
  | ferryTrainingTimeout (p : Fin 8) (t : Ticks)
  /-- Training and link authentication have completed, with what they found (R213–R215, R220, R221). -/
  | ferryPortUp (p : Fin 8) (r : FerryTrained) (t : Ticks)
  /-- A LINK NAK (R217). -/
  | ferryNak (p : Fin 8) (ack : Nat) (tagOk : Bool) (t : Ticks)
  /-- A LINK IDLE (R219). -/
  | ferryIdle (p : Fin 8) (ack : Nat) (tagOk : Bool) (t : Ticks)
  /-- A port has had nothing to send for 200 ns (R219). -/
  | ferryIdleSend (p : Fin 8) (t : Ticks)
  /-- A frame has gone 500 ns without acknowledgement (R217). -/
  | ferryResendTimeout (p : Fin 8) (t : Ticks)
  /-- 32 resends, or 2 µs without a valid frame (R219). -/
  | ferryDown (p : Fin 8) (t : Ticks)
  /-- A TIME exchange is due on a port (R223). -/
  | ferryTimeSend (p : Fin 8) (t : Ticks)
  /-- A TIME exchange has completed on a port (R223, R224). -/
  | ferryTimeExchange (p : Fin 8) (x : TimeExchange) (t : Ticks)
  /-- The master's TIME frames have been missing for 10 µs (R222). -/
  | masterLost (t : Ticks)
  /-- A twin heartbeat is due (R228). -/
  | twinHeartbeatSend (t : Ticks)
  /-- A twin heartbeat (R228, R229, R234). -/
  | twinHeartbeatReceive (h : TwinHeartbeat) (t : Ticks)
  /-- A RECORD message: its count and its cells (R230). -/
  | replRecord (n : Nat) (c : CellRec) (t : Ticks)
  /-- A SESSION_STATE message (R230). -/
  | replSessionState (i : Fin 16384) (c : SessionCopy) (t : Ticks)
  /-- A KEYS message, unwrapped: keys and resumption secret (R179, R230). -/
  | replKeys (i : Fin 16384) (k : KeysCopy) (r : Bytes) (t : Ticks)
  /-- An UNJOIN message (R234). -/
  | unjoin (claim _reason : Nat) (t : Ticks)
  /-- A RESYNC message: the half of a block and its cells (R235). -/
  | resync (block half : Nat) (cells : List CellRec) (t : Ticks)
  /-- Both paths have been silent for DETECT_TIME, and whether the two takings of the claim decision agree (R517, R236). -/
  | takeover (t : ClaimTime)
  /-- The mirror has lagged for DETECT_TIME (R234). -/
  | mirrorStale (t : Ticks)
  /-- JOIN_TIME has passed without the peer, and whether the two takings of the claim decision agree (R517, R234). -/
  | joinTime (t : ClaimTime)
  /-- YIELD is written (R239). -/
  | yield (t : Ticks)
  /-- A YIELD message (R239). -/
  | yieldReceive (claim : Nat) (y t : Ticks)
  /-- Y has come, and whether the two takings of the claim decision agree (R517, R239). -/
  | yieldInstant (t : ClaimTime)
  /-- No heartbeat has shown the new claim by Y + 1 µs (R239). -/
  | yieldFailed (t : Ticks)
  /-- ISOLATION_CONFIRM has passed (R241). -/
  | isolationConfirm (t : Ticks)
  /-- PEER_DEAD is written (R241). -/
  | peerDead (t : Ticks)
  /-- A retirement cause isolates a pier and migrates its slice (R243–R246): `over` names the sessions that no remaining pier can carry, and `fin` is the instant of step 7. -/
  | pierRetire (p : Fin 17) (cause : Fin 6) (excess : List Nat) (fin t : Ticks)
  /-- A READ request (R263). -/
  | oapRead (src : OapSource) (t : Ticks)
  /-- A WRITE request (R264). -/
  | oapWrite (src : OapSource) (env : WriteEnv) (t : Ticks)
  /-- A READ_BLOCK request (R263). -/
  | oapReadBlock (src : OapSource) (t : Ticks)
  /-- A WRITE_BLOCK request (R264). -/
  | oapWriteBlock (src : OapSource) (env : WriteEnv) (t : Ticks)
  /-- A SUBSCRIBE request (R267). -/
  | oapSubscribe (src : OapSource) (t : Ticks)
  /-- An ABORT request (R264, R267). -/
  | oapAbort (src : OapSource) (t : Ticks)
  /-- An ACTIVATE request with ACTION STORE (R271). -/
  | activateStore (src : OapSource) (t : Ticks)
  /-- An ACTIVATE request with ACTION CHART_SWITCH (R272). -/
  | activateChartSwitch (src : OapSource) (t : Ticks)
  /-- An ACTIVATE request with ACTION DELETE (R271). -/
  | activateDelete (src : OapSource) (t : Ticks)
  /-- The switch instant has come, and what the start finds (R272). -/
  | chartSwitchInstant (i : StartIn) (t : Ticks)
  /-- The subscription of a requester and REQUEST_ID reports, where its report is due (R267). -/
  | notify (req id : Nat) (t : Ticks)
  /-- Write shadows that have seen no write for 10 s go (R264). -/
  | shadowExpiry (t : Ticks)
  /-- MB_DOORBELL is written through a function, with the bytes that its LENGTH takes of the request buffer (R299, R309). -/
  | mbDoorbell (pf : Fin 4) (request : Bytes) (t : Ticks)
  /-- The mailbox request completes (R299, R310). -/
  | mbResponse (t : Ticks)
  /-- A Function Level Reset, or (`busMaster`) a clear of Bus Master Enable (R300). -/
  | flr (f : Fin 4) (busMaster : Bool) (t : Ticks)
  /-- The PCIe link goes down (R300). -/
  | pcieLinkDown (t : Ticks)
  /-- The PCIe link has trained: 0 x4, 1 x8, 2 x16, and 0–4 for 2.5 to 32.0 GT/s (R280, R301). -/
  | pcieLinkUp (width : Fin 3) (speed : Fin 5) (t : Ticks)
  /-- A DMA access for a queue fails (R287). -/
  | hostDmaError (q : Fin 16384) (f : DmaFail) (t : Ticks)
  /-- A vector's coalescing time or count is reached (R297). -/
  | vectorFire (v : Fin 8192) (t : Ticks)
  /-- Held messages are let go (R297). -/
  | vectorUnmask (u : Unmask) (t : Ticks)
  /-- EVT_PENDING[w] is written through a function (R298, R306). -/
  | evtPendingClear (pf : Fin 4) (w : Fin 544) (v : Word32) (t : Ticks)
  /-- A word of EVT_ROUTE is written through a function (R302, R303). -/
  | evtRouteWrite (pf : Fin 4) (src : Fin 17408) (word : Fin 2) (v : Word32) (t : Ticks)
  /-- Host software writes a register through a function, or resident firmware writes one (R18, R282, R399). -/
  | registerWrite (pf : Fin 4) (r : HostReg) (v : Word32) (t : Ticks)
  /-- Lane n copies Gs to Gd (R328). -/
  | dhMov (n : Fin 128) (d r : Fin 16) (t : Ticks)
  /-- Lane n adds Gs to Gd (R328). -/
  | dhAdd (n : Fin 128) (d r : Fin 16) (t : Ticks)
  /-- Lane n subtracts Gs from Gd (R328). -/
  | dhSub (n : Fin 128) (d r : Fin 16) (t : Ticks)
  /-- Lane n adds Gs and C to Gd (R328). -/
  | dhAdc (n : Fin 128) (d r : Fin 16) (t : Ticks)
  /-- Lane n subtracts Gs and the borrow from Gd (R328). -/
  | dhSbc (n : Fin 128) (d r : Fin 16) (t : Ticks)
  /-- Lane n ands Gs into Gd (R328). -/
  | dhAnd (n : Fin 128) (d r : Fin 16) (t : Ticks)
  /-- Lane n ors Gs into Gd (R328). -/
  | dhOr (n : Fin 128) (d r : Fin 16) (t : Ticks)
  /-- Lane n exclusive-ors Gs into Gd (R328). -/
  | dhXor (n : Fin 128) (d r : Fin 16) (t : Ticks)
  /-- Lane n compares Gd with Gs (R328). -/
  | dhCmp (n : Fin 128) (d r : Fin 16) (t : Ticks)
  /-- Lane n tests Gd and Gs (R328). -/
  | dhTst (n : Fin 128) (d r : Fin 16) (t : Ticks)
  /-- Lane n shifts Gd left by Gs[4:0] (R328). -/
  | dhLsl (n : Fin 128) (d r : Fin 16) (t : Ticks)
  /-- Lane n shifts Gd right by Gs[4:0] with zero fill (R328). -/
  | dhLsr (n : Fin 128) (d r : Fin 16) (t : Ticks)
  /-- Lane n shifts Gd right by Gs[4:0] with sign fill (R328). -/
  | dhAsr (n : Fin 128) (d r : Fin 16) (t : Ticks)
  /-- Lane n rotates Gd right by Gs[4:0] (R328). -/
  | dhRor (n : Fin 128) (d r : Fin 16) (t : Ticks)
  /-- Lane n issues the unsigned product Gd × Gs (R328, R333). -/
  | dhMulu (n : Fin 128) (d r : Fin 16) (t : Ticks)
  /-- Lane n issues the signed product Gd × Gs (R328, R333). -/
  | dhMuls (n : Fin 128) (d r : Fin 16) (t : Ticks)
  /-- The oldest product in flight is written into MHI:MLO (R333). -/
  | dhProductComplete (n : Fin 128) (t : Ticks)
  /-- Lane n loads an immediate; `l` are the payloads of the LIMMs before it (R327, R329). -/
  | dhMovi (n : Fin 128) (d : Fin 16) (own : BitVec 6) (l : List (BitVec 11)) (t : Ticks)
  /-- Lane n adds an immediate (R327, R329). -/
  | dhAddi (n : Fin 128) (d : Fin 16) (own : BitVec 6) (l : List (BitVec 11)) (t : Ticks)
  /-- Lane n compares with an immediate (R327, R329). -/
  | dhCmpi (n : Fin 128) (d : Fin 16) (own : BitVec 6) (l : List (BitVec 11)) (t : Ticks)
  /-- Lane n shifts by an immediate (R329). -/
  | dhShi (n : Fin 128) (d : Fin 16) (imm : BitVec 6) (t : Ticks)
  /-- Lane n branches (R327, R330). -/
  | dhBr (n : Fin 128) (own : BitVec 10) (l : List (BitVec 11)) (t : Ticks)
  /-- Lane n calls (R327, R330). -/
  | dhCall (n : Fin 128) (own : BitVec 10) (l : List (BitVec 11)) (t : Ticks)
  /-- Lane n jumps to Gs (R330). -/
  | dhJr (n : Fin 128) (r : Fin 16) (t : Ticks)
  /-- Lane n calls Gs (R330). -/
  | dhCallr (n : Fin 128) (r : Fin 16) (t : Ticks)
  /-- Lane n returns through G15 (R330). -/
  | dhRet (n : Fin 128) (t : Ticks)
  /-- Lane n resumes the TSB at TSBP (R330, R382, R388). -/
  | dhTret (n : Fin 128) (t : Ticks)
  /-- Lane n stops fetching until EVP ≠ 0 (R330). -/
  | dhWait (n : Fin 128) (t : Ticks)
  /-- Lane n does nothing (R330). -/
  | dhNop (n : Fin 128) (t : Ticks)
  /-- Lane n skips the next instruction where the condition holds (R331). -/
  | dhSkcc (n : Fin 128) (cc : Fin 16) (t : Ticks)
  /-- Lane n sets up its loop (R332). -/
  | dhLoop (n : Fin 128) (r : Fin 16) (own : BitVec 6) (l : List (BitVec 11)) (t : Ticks)
  /-- Lane n loads Gr from G[8 + base] + imm (R334). -/
  | dhLdb (n : Fin 128) (r : Fin 16) (base : Fin 8) (l : List (BitVec 11)) (t : Ticks)
  /-- Lane n loads Gr from G[8 + base] + imm (R334). -/
  | dhLdh (n : Fin 128) (r : Fin 16) (base : Fin 8) (l : List (BitVec 11)) (t : Ticks)
  /-- Lane n loads Gr from G[8 + base] + imm (R334). -/
  | dhLdw (n : Fin 128) (r : Fin 16) (base : Fin 8) (l : List (BitVec 11)) (t : Ticks)
  /-- Lane n stores Gr to G[8 + base] + imm; `shadow` says that the shadow of a pair has produced the same request (R334, R344). -/
  | dhStb (n : Fin 128) (r : Fin 16) (base : Fin 8) (l : List (BitVec 11)) (shadow : Bool) (t : Ticks)
  /-- Lane n stores Gr to G[8 + base] + imm; `shadow` says that the shadow of a pair has produced the same request (R334, R344). -/
  | dhSth (n : Fin 128) (r : Fin 16) (base : Fin 8) (l : List (BitVec 11)) (shadow : Bool) (t : Ticks)
  /-- Lane n stores Gr to G[8 + base] + imm; `shadow` says that the shadow of a pair has produced the same request (R334, R344). -/
  | dhStw (n : Fin 128) (r : Fin 16) (base : Fin 8) (l : List (BitVec 11)) (shadow : Bool) (t : Ticks)
  /-- Lane n reads a special register (R322). -/
  | dhMfs (n : Fin 128) (r sr : Fin 16) (t : Ticks)
  /-- Lane n writes a special register (R322–R324). -/
  | dhMts (n : Fin 128) (sr r : Fin 16) (shadow : Bool) (t : Ticks)
  /-- Lane n reads a feature register (R325, R335). -/
  | dhRdfeat (n : Fin 128) (r : Fin 16) (k : Fin 4) (t : Ticks)
  /-- Lane n exchanges bytes 0 and 1 of Gr and clears the others (R335). -/
  | dhBsw16 (n : Fin 128) (r : Fin 16) (t : Ticks)
  /-- Lane n reverses the bytes of Gr (R335). -/
  | dhBsw32 (n : Fin 128) (r : Fin 16) (t : Ticks)
  /-- Lane n copies BRC bytes; `upTo` names an element boundary at which an event exception is due (R335, R336). -/
  | dhMovs (n : Fin 128) (upTo : Option Nat) (t : Ticks)
  /-- Lane n fills BRC bytes with Gr[7:0]; `upTo` names an element boundary at which an event exception is due (R335, R336). -/
  | dhFils (n : Fin 128) (r : Fin 16) (upTo : Option Nat) (t : Ticks)
  /-- Lane n compares two strings; `upTo` names an element boundary at which an event exception is due (R335, R336). -/
  | dhCmps (n : Fin 128) (upTo : Option Nat) (t : Ticks)
  /-- Lane n scans for Gr[7:0]; `upTo` names an element boundary at which an event exception is due (R335, R336). -/
  | dhScns (n : Fin 128) (r : Fin 16) (upTo : Option Nat) (t : Ticks)
  /-- Lane n continues a CRC-32C; `upTo` names an element boundary at which an event exception is due (R335, R336). -/
  | dhCrcs (n : Fin 128) (r : Fin 16) (upTo : Option Nat) (t : Ticks)
  /-- Lane n continues a ones' complement sum; `upTo` names an element boundary at which an event exception is due (R335, R336). -/
  | dhSums (n : Fin 128) (r : Fin 16) (upTo : Option Nat) (t : Ticks)
  /-- Lane n latches chip time (R335). -/
  | dhSnap (n : Fin 128) (r : Fin 16) (t : Ticks)
  /-- Lane n waits for its earlier posted stores (R320). -/
  | dhFence (n : Fin 128) (shadow : Bool) (t : Ticks)
  /-- Lane n offers a descriptor to a queue (R337, R340). -/
  | qpost (n : Fin 128) (r : Fin 16) (shadow : Bool) (t : Ticks)
  /-- Lane n offers a launch entry to a queue (R337, R340). -/
  | lpost (n : Fin 128) (r : Fin 16) (shadow : Bool) (t : Ticks)
  /-- Lane n takes the next inbox item (R337, R340). -/
  | qtake (n : Fin 128) (r : Fin 16) (shadow : Bool) (t : Ticks)
  /-- Lane n confirms an item (R337, R340). -/
  | qconf (n : Fin 128) (r : Fin 16) (shadow : Bool) (t : Ticks)
  /-- Lane n rejects an item (R337, R340). -/
  | qrej (n : Fin 128) (r : Fin 16) (shadow : Bool) (t : Ticks)
  /-- Lane n takes the next frame record (R337, R340). -/
  | ftake (n : Fin 128) (r : Fin 16) (shadow : Bool) (t : Ticks)
  /-- Lane n releases a frame record (R337, R340). -/
  | fdone (n : Fin 128) (r : Fin 16) (shadow : Bool) (t : Ticks)
  /-- Lane n forwards a frame record (R337, R340). -/
  | ffwd (n : Fin 128) (r : Fin 16) (shadow : Bool) (t : Ticks)
  /-- Lane n reads a Bearing (R337, R340). -/
  | bvrd (n : Fin 128) (r : Fin 16) (shadow : Bool) (t : Ticks)
  /-- Lane n locks a cipher core (R337, R340). -/
  | clock (n : Fin 128) (r : Fin 16) (shadow : Bool) (t : Ticks)
  /-- Lane n releases a cipher core (R337, R340). -/
  | cfree (n : Fin 128) (r : Fin 16) (shadow : Bool) (t : Ticks)
  /-- Lane n raises LANE_EVENT (R337, R340). -/
  | levt (n : Fin 128) (r : Fin 16) (shadow : Bool) (t : Ticks)
  /-- Lane n restarts its watchdog (R337, R343). -/
  | wdog (n : Fin 128) (shadow : Bool) (t : Ticks)
  /-- The watchdog of a lane expires (R343). -/
  | laneWatchdog (n : Fin 128) (t : Ticks)
  /-- The shadow of a pair lags by a number of cycles (R344). -/
  | pairedLaneLag (n : Fin 128) (lag : Nat) (t : Ticks)
  /-- ENABLE of a lane is written (R347). -/
  | laneEnable (n : Fin 136) (on : Bool) (t : Ticks)
  /-- A disabled lane with no work left stops (R347). -/
  | laneStop (n : Fin 136) (t : Ticks)
  /-- An event exception is taken at the boundary (R385, R386, R390). -/
  | dhEventException (n : Fin 128) (t : Ticks)
  /-- A posted write of a master has failed at its target: the oldest that waits, or one with its address and cause (R391, R400, R408). -/
  | impreciseNotice (m : Fin 174) (fail : Option (Nat × Nat)) (t : Ticks)
  /-- Resident firmware clears VALID of an IMPRECISE register (R408). -/
  | acuImpreciseClear (m : Fin 174) (t : Ticks)
  /-- Resident firmware writes ATTR of a region (R401, R405). -/
  | acuRgnAttr (m : Fin 174) (r : Fin 32) (v : Word32) (t : Ticks)
  /-- NOP of purser p (R357). -/
  | puNop (p : Fin 4) (t : Ticks)
  /-- Purser p resumes the TSB named by TSBP (R368). -/
  | puTret (p : Fin 4) (t : Ticks)
  /-- Purser p stops fetching until an interrupt is pending (R357). -/
  | puWait (p : Fin 4) (t : Ticks)
  /-- Purser p waits for its earlier accesses (R357). -/
  | puFence (p : Fin 4) (t : Ticks)
  /-- Purser p saves its state and resumes the TSB at Xr (R368). -/
  | puTsw (p : Fin 4) (r : Fin 16) (t : Ticks)
  /-- Purser p latches chip time (R357). -/
  | puSnap (p : Fin 4) (r : Fin 16) (t : Ticks)
  /-- MOV Xr, Xsrc of purser p at the operation width (R357, R358). -/
  | puMov (p : Fin 4) (x : PuPre) (r src : Fin 16) (t : Ticks)
  /-- ADD Xr, Xsrc of purser p at the operation width (R357, R358). -/
  | puAdd (p : Fin 4) (x : PuPre) (r src : Fin 16) (t : Ticks)
  /-- SUB Xr, Xsrc of purser p at the operation width (R357, R358). -/
  | puSub (p : Fin 4) (x : PuPre) (r src : Fin 16) (t : Ticks)
  /-- ADC Xr, Xsrc of purser p at the operation width (R357, R358). -/
  | puAdc (p : Fin 4) (x : PuPre) (r src : Fin 16) (t : Ticks)
  /-- SBC Xr, Xsrc of purser p at the operation width (R357, R358). -/
  | puSbc (p : Fin 4) (x : PuPre) (r src : Fin 16) (t : Ticks)
  /-- AND Xr, Xsrc of purser p at the operation width (R357, R358). -/
  | puAnd (p : Fin 4) (x : PuPre) (r src : Fin 16) (t : Ticks)
  /-- OR Xr, Xsrc of purser p at the operation width (R357, R358). -/
  | puOr (p : Fin 4) (x : PuPre) (r src : Fin 16) (t : Ticks)
  /-- XOR Xr, Xsrc of purser p at the operation width (R357, R358). -/
  | puXor (p : Fin 4) (x : PuPre) (r src : Fin 16) (t : Ticks)
  /-- CMP Xr, Xsrc of purser p at the operation width (R357, R358). -/
  | puCmp (p : Fin 4) (x : PuPre) (r src : Fin 16) (t : Ticks)
  /-- TST Xr, Xsrc of purser p at the operation width (R357, R358). -/
  | puTst (p : Fin 4) (x : PuPre) (r src : Fin 16) (t : Ticks)
  /-- LSL Xr, Xsrc of purser p at the operation width (R357, R358). -/
  | puLsl (p : Fin 4) (x : PuPre) (r src : Fin 16) (t : Ticks)
  /-- LSR Xr, Xsrc of purser p at the operation width (R357, R358). -/
  | puLsr (p : Fin 4) (x : PuPre) (r src : Fin 16) (t : Ticks)
  /-- ASR Xr, Xsrc of purser p at the operation width (R357, R358). -/
  | puAsr (p : Fin 4) (x : PuPre) (r src : Fin 16) (t : Ticks)
  /-- ROR Xr, Xsrc of purser p at the operation width (R357, R358). -/
  | puRor (p : Fin 4) (x : PuPre) (r src : Fin 16) (t : Ticks)
  /-- Purser p issues a product (R362). -/
  | puMulu (p : Fin 4) (w : PuWidth) (r src : Fin 16) (t : Ticks)
  /-- Purser p issues a product (R362). -/
  | puMuls (p : Fin 4) (w : PuWidth) (r src : Fin 16) (t : Ticks)
  /-- The oldest product in flight of purser p completes (R362). -/
  | puProductComplete (p : Fin 4) (t : Ticks)
  /-- MOVI of purser p (R356, R357). -/
  | puMovi (p : Fin 4) (x : PuPre) (r : Fin 16) (imm : PuImm) (t : Ticks)
  /-- ADDI of purser p (R356, R357). -/
  | puAddi (p : Fin 4) (x : PuPre) (r : Fin 16) (imm : PuImm) (t : Ticks)
  /-- SUBI of purser p (R356, R357). -/
  | puSubi (p : Fin 4) (x : PuPre) (r : Fin 16) (imm : PuImm) (t : Ticks)
  /-- ANDI of purser p (R356, R357). -/
  | puAndi (p : Fin 4) (x : PuPre) (r : Fin 16) (imm : PuImm) (t : Ticks)
  /-- ORI of purser p (R356, R357). -/
  | puOri (p : Fin 4) (x : PuPre) (r : Fin 16) (imm : PuImm) (t : Ticks)
  /-- XORI of purser p (R356, R357). -/
  | puXori (p : Fin 4) (x : PuPre) (r : Fin 16) (imm : PuImm) (t : Ticks)
  /-- CMPI of purser p (R356, R357). -/
  | puCmpi (p : Fin 4) (x : PuPre) (r : Fin 16) (imm : PuImm) (t : Ticks)
  /-- TSTI of purser p (R356, R357). -/
  | puTsti (p : Fin 4) (x : PuPre) (r : Fin 16) (imm : PuImm) (t : Ticks)
  /-- LSLI of purser p (R357). -/
  | puLsli (p : Fin 4) (x : PuPre) (r : Fin 16) (imm : BitVec 8) (t : Ticks)
  /-- LSRI of purser p (R357). -/
  | puLsri (p : Fin 4) (x : PuPre) (r : Fin 16) (imm : BitVec 8) (t : Ticks)
  /-- ASRI of purser p (R357). -/
  | puAsri (p : Fin 4) (x : PuPre) (r : Fin 16) (imm : BitVec 8) (t : Ticks)
  /-- RORI of purser p (R357). -/
  | puRori (p : Fin 4) (x : PuPre) (r : Fin 16) (imm : BitVec 8) (t : Ticks)
  /-- NEG of purser p (R357). -/
  | puNeg (p : Fin 4) (x : PuPre) (r : Fin 16) (t : Ticks)
  /-- NOT of purser p (R357). -/
  | puNot (p : Fin 4) (x : PuPre) (r : Fin 16) (t : Ticks)
  /-- LD of purser p from Xb + x (R357, R359, R365). -/
  | puLd (p : Fin 4) (w : PuWidth) (m : PuMem) (r b : Fin 16) (x : Disp) (t : Ticks)
  /-- LDS of purser p from Xb + x (R357, R359, R365). -/
  | puLds (p : Fin 4) (w : PuWidth) (m : PuMem) (r b : Fin 16) (x : Disp) (t : Ticks)
  /-- ST of purser p to Xb + x (R357, R359, R365). -/
  | puSt (p : Fin 4) (w : PuWidth) (m : PuMem) (r b : Fin 16) (x : Disp) (t : Ticks)
  /-- LEA of purser p (R357). -/
  | puLea (p : Fin 4) (y : PuPre) (r b : Fin 16) (x : Disp) (t : Ticks)
  /-- MADD of purser p (R357, R365). -/
  | puMadd (p : Fin 4) (w : PuWidth) (atom : Bool) (r b : Fin 16) (x : Disp) (t : Ticks)
  /-- MAND of purser p (R357, R365). -/
  | puMand (p : Fin 4) (w : PuWidth) (atom : Bool) (r b : Fin 16) (x : Disp) (t : Ticks)
  /-- MOR of purser p (R357, R365). -/
  | puMor (p : Fin 4) (w : PuWidth) (atom : Bool) (r b : Fin 16) (x : Disp) (t : Ticks)
  /-- MXOR of purser p (R357, R365). -/
  | puMxor (p : Fin 4) (w : PuWidth) (atom : Bool) (r b : Fin 16) (x : Disp) (t : Ticks)
  /-- XCHG of purser p (R357, R365). -/
  | puXchg (p : Fin 4) (w : PuWidth) (atom : Bool) (r b : Fin 16) (x : Disp) (t : Ticks)
  /-- CAS of purser p (R357, R365). -/
  | puCas (p : Fin 4) (w : PuWidth) (atom : Bool) (r b : Fin 16) (x : Disp) (t : Ticks)
  /-- BR of purser p (R357). -/
  | puBr (p : Fin 4) (tw : Twice) (rel : PuRel) (t : Ticks)
  /-- CALL of purser p, with its stack register (R357). -/
  | puCall (p : Fin 4) (tw : Twice) (st : Fin 16) (rel : BitVec 32) (t : Ticks)
  /-- JR of purser p (R357). -/
  | puJr (p : Fin 4) (tw : Twice) (r : Fin 16) (t : Ticks)
  /-- CALLR of purser p, with its target and stack register (R357). -/
  | puCallr (p : Fin 4) (tw : Twice) (r st : Fin 16) (t : Ticks)
  /-- RET of purser p (R357). -/
  | puRet (p : Fin 4) (tw : Twice) (st : Fin 16) (t : Ticks)
  /-- PUSH of purser p (R357). -/
  | puPush (p : Fin 4) (r st : Fin 16) (t : Ticks)
  /-- POP of purser p (R357). -/
  | puPop (p : Fin 4) (r st : Fin 16) (t : Ticks)
  /-- SKcc of purser p (R360). -/
  | puSkcc (p : Fin 4) (tw : Twice) (cc : Fin 16) (t : Ticks)
  /-- MFS of purser p (R351). -/
  | puMfs (p : Fin 4) (tw : Twice) (r sr : Fin 16) (t : Ticks)
  /-- MTS of purser p (R351, R367). -/
  | puMts (p : Fin 4) (sr r : Fin 16) (t : Ticks)
  /-- MOVS of purser p (R363, R366). -/
  | puMovs (p : Fin 4) (x : PuRep) (keywin : Bool) (t : Ticks)
  /-- FILS of purser p (R363). -/
  | puFils (p : Fin 4) (x : PuRep) (t : Ticks)
  /-- CMPS of purser p (R363). -/
  | puCmps (p : Fin 4) (x : PuRep) (t : Ticks)
  /-- SCNS of purser p (R363). -/
  | puScns (p : Fin 4) (x : PuRep) (t : Ticks)
  /-- CRCS of purser p (R363). -/
  | puCrcs (p : Fin 4) (x : PuRep) (r : Fin 16) (t : Ticks)
  /-- RND of purser p (R357). -/
  | puRnd (p : Fin 4) (r : Fin 16) (t : Ticks)
  /-- BSWAP of purser p (R357). -/
  | puBswap (p : Fin 4) (w : PuWidth) (r : Fin 16) (t : Ticks)
  /-- CLZ of purser p (R357). -/
  | puClz (p : Fin 4) (w : PuWidth) (r src : Fin 16) (t : Ticks)
  /-- POPC of purser p (R357). -/
  | puPopc (p : Fin 4) (w : PuWidth) (r src : Fin 16) (t : Ticks)
  /-- SELZ of purser p (R357). -/
  | puSelz (p : Fin 4) (w : PuWidth) (r src : Fin 16) (t : Ticks)
  /-- SEXT of purser p (R357). -/
  | puSext (p : Fin 4) (w : PuWidth) (r src : Fin 16) (t : Ticks)
  /-- ZEXT of purser p (R357). -/
  | puZext (p : Fin 4) (w : PuWidth) (r src : Fin 16) (t : Ticks)
  /-- An interrupt of a source is pending at a boundary of purser p (R357, R386, R390). -/
  | puInterrupt (p : Fin 4) (source : Fin 65536) (t : Ticks)
  /-- The task on purser p calls YIELD (R374). -/
  | svcYield (p : Fin 4) (t : Ticks)
  /-- The task on purser p calls EXIT (R374). -/
  | svcExit (p : Fin 4) (t : Ticks)
  /-- The task on purser p calls WAIT (R374). -/
  | svcWait (p : Fin 4) (t : Ticks)
  /-- The timeout of a WAIT of task k has passed (R374). -/
  | svcWaitTimeout (k : Fin 16) (t : Ticks)
  /-- The task on purser p calls OAP (R374). -/
  | svcOap (p : Fin 4) (env : WriteEnv) (t : Ticks)
  /-- The task on purser p calls SIGNAL_LANE (R374). -/
  | signalLane (p : Fin 4) (t : Ticks)
  /-- The task on purser p calls TASK_EVENT (R374). -/
  | taskEvent (p : Fin 4) (t : Ticks)
  /-- The task on purser p calls RANDOM (R374). -/
  | svcRandom (p : Fin 4) (t : Ticks)
  /-- ENABLE of task k is written (R372, R375). -/
  | taskEnable (k : Fin 16) (on : Bool) (t : Ticks)
  /-- A slice on purser p ends; `share` says that the tasks have used their half of the cycles (R373). -/
  | taskSlice (p : Fin 4) (share : Bool) (t : Ticks)
  /-- The writes of CIP_LOCK in one cycle: user ID of each writing master and value written (R415–R417). -/
  | cipLock (c : Fin 68) (writes : List (Nat × Nat)) (t : Ticks)
  /-- A write of CIP_KEYH by a user (R419). -/
  | cipKeyh (c : Fin 68) (user : Nat) (keyh : Word32) (t : Ticks)
  /-- A slot key load completes (R419). -/
  | cipKeyLoaded (c : Fin 68) (t : Ticks)
  /-- A write of CIP_CTRL with START and MODE GCM_SEAL (R411, R420, R422). -/
  | cipGcmSeal (c : Fin 68) (user : Nat) (ctrl : Word32) (t : Ticks)
  /-- A write of CIP_CTRL with START and MODE GCM_OPEN (R411, R423). -/
  | cipGcmOpen (c : Fin 68) (user : Nat) (ctrl : Word32) (t : Ticks)
  /-- A write of CIP_CTRL with START and MODE CTR (R421). -/
  | cipCtr (c : Fin 68) (user : Nat) (ctrl : Word32) (t : Ticks)
  /-- A write of CIP_CTRL with START and MODE CMAC_GEN (R411, R422). -/
  | cipCmacGen (c : Fin 68) (user : Nat) (ctrl : Word32) (t : Ticks)
  /-- A write of CIP_CTRL with START and MODE CMAC_VERIFY (R411, R423). -/
  | cipCmacVerify (c : Fin 68) (user : Nat) (ctrl : Word32) (t : Ticks)
  /-- The running job ends; `blocks` says how many blocks a job cut short had written, `mismatch` is the verdict of its rails (R412, R417, R420–R424). -/
  | cipherJobDone (c : Fin 68) (blocks : Nat) (mismatch : Bool) (t : Ticks)
  /-- A known-answer test of a free core (R425). -/
  | cipherSelftest (c : Fin 68) (pass : Bool) (t : Ticks)
  /-- A lock has been held for LOCK_HOLD_LIMIT (R417). -/
  | cipherLockHeld (c : Fin 68) (t : Ticks)
  /-- A core's ENABLE is written (R418). -/
  | cipherEnable (c : Fin 68) (on : Bool) (t : Ticks)
  /-- The job ring's producer position is written (R439, R447). -/
  | hshJqTail (r : Fin 8) (pos : Word32) (t : Ticks)
  /-- The consumed position of a completion ring is written (R439, R447). -/
  | hshCqHead (r : Fin 8) (pos : Word32) (t : Ticks)
  /-- HSH_RING_CFG is written; `tags` are the TAGs of ring 7's unstarted jobs in host memory (R439, R446). -/
  | hshRingCfg (r : Fin 8) (v : Word32) (tags : List Nat) (t : Ticks)
  /-- A ring's next job, a SHA256 job, starts; `f` is what a fetch from host memory answers (R436, R437). -/
  | hashSha256 (r : Fin 8) (f : HashFetch) (t : Ticks)
  /-- A ring's next job, an HMAC job, starts (R436, R437). -/
  | hashHmac (r : Fin 8) (f : HashFetch) (t : Ticks)
  /-- A ring's next job, an HKDF_EXTRACT job, starts (R436, R437). -/
  | hkdfExtract (r : Fin 8) (f : HashFetch) (t : Ticks)
  /-- A ring's next job, an HKDF_EXPAND job, starts (R436, R437). -/
  | hkdfExpand (r : Fin 8) (f : HashFetch) (t : Ticks)
  /-- A ring's next job, an SLH_SIGN job, starts; `selfOk` is the verdict of the array's own check of the signature (R436, R442). -/
  | slhSign (r : Fin 8) (f : HashFetch) (selfOk : Bool) (t : Ticks)
  /-- A ring's next job, an SLH_VERIFY job, starts; `agree` says that the two comparators agree (R436, R443). -/
  | slhVerify (r : Fin 8) (f : HashFetch) (agree : Bool) (t : Ticks)
  /-- The i-th of the jobs under way ends (R439). -/
  | hashJobDone (i : Nat) (t : Ticks)
  /-- A known-answer test of a hash core (R435). -/
  | hashSelftest (core : Fin 48) (pass : Bool) (t : Ticks)
  /-- The writes of BGN_LOCK in one cycle: user ID of each writing purser and value written (R451, R459). -/
  | bgnLock (writes : List (Nat × Nat)) (t : Ticks)
  /-- A write of BGN_SLOT by a user (R452, R462). -/
  | bgnSlot (user : Nat) (i : Fin 64) (v : Word32) (t : Ticks)
  /-- The queued ADD runs (R454, R455). -/
  | bgnAdd (t : Ticks)
  /-- The queued SUB runs (R454, R455). -/
  | bgnSub (t : Ticks)
  /-- The queued Montgomery MUL runs (R454, R455). -/
  | bgnMul (t : Ticks)
  /-- The queued TO_MONT runs (R454). -/
  | toMont (t : Ticks)
  /-- The queued FROM_MONT runs (R454, R455). -/
  | fromMont (t : Ticks)
  /-- The queued INV runs (R455). -/
  | bgnInv (t : Ticks)
  /-- The queued EXP runs (R455). -/
  | bgnExp (t : Ticks)
  /-- The queued EXP_BLIND runs (R455). -/
  | expBlind (t : Ticks)
  /-- The queued COPY runs (R454). -/
  | bgnCopy (t : Ticks)
  /-- The queued SET_MOD runs (R455). -/
  | setMod (t : Ticks)
  /-- The queued RANDOM runs (R454, R466). -/
  | bgnRandom (t : Ticks)
  /-- The queued LOAD_KEY runs (R453, R454). -/
  | loadKey (t : Ticks)
  /-- The queued STORE_KEY runs (R454). -/
  | storeKey (t : Ticks)
  /-- The BN_JOB request is written (R458). -/
  | bnJob (req : Bytes) (t : Ticks)
  /-- The BN_JOB's exponentiation ends (R458). -/
  | bnJobDone (t : Ticks)
  /-- The conditioner releases a seed (R463, R464, R467). -/
  | rngSeedReady (t : Ticks)
  /-- A group fails a test: 0 liveness, 1 lock, 2 repetition count, 3 adaptive proportion (R465–R467). -/
  | rngHealthFail (g test : Fin 4) (t : Ticks)
  /-- An excluded group is tested again (R466). -/
  | rngGroupRetest (g : Fin 4) (pass : Bool) (t : Ticks)
  /-- A client reaches 2^20 requests or 1 s (R464). -/
  | rngClientReseed (c : Fin 64) (t : Ticks)
  /-- GENERATE is written (R472). -/
  | keyGenerate (req : Bytes) (t : Ticks)
  /-- IMPORT is written (R472). -/
  | keyImport (req : Bytes) (t : Ticks)
  /-- RESTRICT is written (R472). -/
  | keyRestrict (req : Bytes) (t : Ticks)
  /-- DESTROY is written (R474). -/
  | keyDestroy (i : Nat) (t : Ticks)
  /-- A read of NONCE, or the TAP instruction LC_NONCE (R485). -/
  | lcNonce (tap : Bool) (t : Ticks)
  /-- 600 s have passed since the nonce was issued (R485). -/
  | nonceExpiry (t : Ticks)
  /-- A TRANSITION request is complete: its bytes, whether the two passes of the checks agree, and the step of R488 in which VDD_AON is lost, where it is (R484–R489). -/
  | lcTransition (req : Bytes) (agree : Bool) (cut : Option (Fin 8)) (t : Ticks)
  /-- 1 ms after a transition request, and what the start finds (R488, step 8). -/
  | lcTransitionReset (i : StartIn) (t : Ticks)
  /-- An ANCHORS request is complete (R483, R488). -/
  | lcAnchors (req : Bytes) (agree : Bool) (t : Ticks)
  /-- A CHAIN request is complete (R492). -/
  | lcChain (req : Bytes) (agree : Bool) (t : Ticks)
  /-- A DEBUG request is shifted in through TDI (R495). -/
  | dbgAuth (req : Bytes) (agree : Bool) (t : Ticks)
  /-- EXPIRES of the open scopes passes (R495). -/
  | debugExpiry (t : Ticks)
  /-- BYPASS, with the bits shifted through its register (R495). -/
  | bypass (bits : List Bool) (t : Ticks)
  /-- IDCODE is shifted out (R495). -/
  | idcode (t : Ticks)
  /-- SAMPLE/PRELOAD: the register's length, the pin levels captured, the value loaded (R495). -/
  | samplePreload (bits captured load : Nat) (t : Ticks)
  /-- EXTEST: the register's length, the pin levels captured, the value driven (R495, log entry 58). -/
  | extest (bits captured load : Nat) (t : Ticks)
  /-- BIRTH_CERT is written; whether the two decisions agree (R490). -/
  | birthCert (cert : Bytes) (agree : Bool) (t : Ticks)
  /-- ATTEST_CHALLENGE is written (R494). -/
  | attestChallenge (c : Bytes) (t : Ticks)
  /-- The record's signature completes (R494). -/
  | attestDone (t : Ticks)
  /-- RELEASE_HOLD is written (R505). -/
  | releaseHold (v : Nat) (t : Ticks)
  /-- RELEASE_SAFE is written (R506). -/
  | releaseSafe (v : Nat) (t : Ticks)
  /-- A write of FCU_FAULTN (R522). -/
  | fcuFaultn (v : Word32) (t : Ticks)
  /-- A write of FCU_ACTIVE[w] (R523). -/
  | fcuActive (w : Fin 32) (v : Word32) (t : Ticks)
  /-- MERGE_WINDOW of a merging source has passed (R512). -/
  | mergeWindow (src : Nat) (t : Ticks)
  /-- The minimum low time of FAULT_N is over (R510). -/
  | faultnMinLow (t : Ticks)
  /-- FAULT_N has been sensed low for a time, or is sensed high again (R510). -/
  | extFault (lowFor : Option Ticks) (t : Ticks)
  /-- An excursion of a rail beyond ±15 %, with its sense and length (R515). -/
  | supplyGlitch (rail : Fin 8) (rising : Bool) (width t : Ticks)
  /-- A rail has been outside ±7 % for a time (R515). -/
  | slowSupply (rail : Fin 8) (len t : Ticks)
  /-- A clock period more than 12 % from nominal (R515). -/
  | clockGlitch (t : Ticks)
  /-- No REFCLK edge for a time (R515). -/
  | refclkLoss (gap t : Ticks)
  /-- The hottest sensor has been above +150 °C for 1 ms (R515). -/
  | temperatureHigh (t : Ticks)
  /-- The coldest sensor has been below -70 °C for 1 ms (R515). -/
  | temperatureLow (t : Ticks)
  /-- The shield mesh is open, or shorted or wrong in its pattern; whether the other rails are up (R516). -/
  | shieldEvent (short rails : Bool) (t : Ticks)
  /-- 1 ms after the release of RESET_N; whether every rail stayed within ±7 % (R515). -/
  | monitorArm (inRange : Bool) (t : Ticks)
  /-- ENABLE of the reader is written (R538). -/
  | clsEnable (on : Bool) (t : Ticks)
  /-- A ping instant: whether an external field is present, the amplitude and the phase that the ping measures (R528, R530). -/
  | clsPing (ext : Bool) (ampl phase : Int) (t : Ticks)
  /-- A full poll ends: what is in the field, the unreadable answers, whether some are left after sixteen slots, and the carrier it measured (R533–R535). -/
  | clsPoll (cards : List FieldCard) (unread : Nat) (stuck : Bool) (ampl phase : Int) (t : Ticks)
  /-- A waiting field-on gets its grant; whether an external field is present, and what a ping then measures (R528, R529). -/
  | rfGrant (ext : Bool) (ampl phase : Int) (t : Ticks)
  /-- RF_WAIT_MAX has passed (R529). -/
  | rfStarved (t : Ticks)
  /-- A presence check of CID c + 1, whether the badge answers, and whether the two passes of a grant decision that follows agree (R536). -/
  | presenceCheck (c : Fin 4) (answered agree : Bool) (t : Ticks)
  /-- The identification of the badge of CID c + 1 completes (R536). -/
  | cardArrived (c : Fin 4) (agree : Bool) (t : Ticks)
  /-- GET_INFO, or a block of an unknown command (R541). -/
  | tagGetInfo (inf : Bytes) (t : Ticks)
  /-- READ, with its fields (R541). -/
  | tagRead (fields : Bytes) (t : Ticks)
  /-- WRITE, with its fields and whether the energy check passes (R544). -/
  | tagWrite (page : Byte) (wsn : BitVec 16) (data mac : Bytes) (energy : Bool) (t : Ticks)
  /-- The field collapses: during a WRITE, with its fields and the point reached, or outside one (R545). -/
  | tagFieldLoss (w : Option (Nat × Nat × Bytes × Bytes × TagCut)) (t : Ticks)
  /-- The reservoir has recovered (R547). -/
  | vharvRecover (t : Ticks)
  /-- TAG_PAGE of a page is written by the host (R546). -/
  | tagPage (p : Fin 128) (data : Bytes) (t : Ticks)
  /-- CRDx_DET has shown a card for DET_FILTER (R553). -/
  | cardDetect (x : Fin 2) (t : Ticks)
  /-- CRDx_DET has shown removal for 10 µs (R557). -/
  | cardRemoved (x : Fin 2) (t : Ticks)
  /-- The answer-to-reset; none where a character of it is not well formed (R554). -/
  | atrReceive (x : Fin 2) (atr : Option Bytes) (t : Ticks)
  /-- 40 000 clocks have passed with no answer-to-reset (R553). -/
  | atrTimeout (x : Fin 2) (t : Ticks)
  /-- The PPS answer; none where it fails to come (R555). -/
  | ppsAnswer (x : Fin 2) (ans : Option Bytes) (t : Ticks)
  /-- The bytes of a T=1 block; none where a character had a parity error or came late (R556). -/
  | t1BlockReceive (x : Fin 2) (blk : Option Bytes) (t : Ticks)
  /-- The block waiting time has passed (R556). -/
  | bwtTimeout (x : Fin 2) (t : Ticks)
  /-- The response to SELECT of the card at a place; from a slot it is what T=1 has put together (R558). -/
  | kolzelSelect (p : Fin 6) (resp : Bytes) (t : Ticks)
  /-- The response to IDENTIFY (R558). -/
  | kolzelIdentify (p : Fin 6) (resp : Bytes) (t : Ticks)
  /-- The response to AUTHENTICATE, and whether the two passes of the verdict agree (R558, R517). -/
  | kolzelAuthenticate (p : Fin 6) (resp : Bytes) (agree : Bool) (t : Ticks)
  /-- The response to RECORD_GRANT, and whether the two passes of the verdict agree (R560). -/
  | recordGrant (p : Fin 12) (resp : Bytes) (agree : Bool) (t : Ticks)
  /-- The response to JOURNAL_QUERY, and whether the two passes of a grant decision that follows agree (R561). -/
  | journalQuery (p : Fin 6) (resp : Bytes) (agree : Bool) (t : Ticks)
  /-- The filtered level of a channel of an input changes; whether the two passes of a grant decision that follows agree (R563). -/
  | opiChange (k : Fin 8) (chanB high agree : Bool) (t : Ticks)
  /-- DISC_TIME of an input has passed (R563). -/
  | discTime (k : Fin 8) (t : Ticks)
  /-- PERMIT_REQUEST is written (R565). -/
  | permitRequest (rule : Nat) (agree : Bool) (t : Ticks)
  /-- REVOKE is written by a principal of a role (R575). -/
  | revoke (n : Word32) (role : Role) (t : Ticks)
  /-- CLEAR_IN_DOUBT is written (R562). -/
  | clearInDoubt (n : Word32) (t : Ticks)
  /-- Chip time reaches VALID_UNTIL of an entry (R567). -/
  | permitExpiry (n : Nat) (t : Ticks)
  /-- An erase round of a bank ends: its logical sectors with the pulses each took, above 32 for one that did not verify (R580, R584). -/
  | flashEraseRoundDone (bank : Fin 4) (l : List (Nat × Nat)) (t : Ticks)
  /-- A scrub: the units in which it finds errors, and the sectors refreshed for age with their pulses (R586, R587). -/
  | flashScrub (found : List ScrubFind) (old : List (Nat × Nat)) (t : Ticks)
  /-- The shadow of a customer sector's DATA is complete: sector, offset, bytes, and whether every unit verifies (R589). -/
  | dataWrite (c off : Nat) (b : Bytes) (verify : Bool) (t : Ticks)
  /-- ERASE of a customer sector is written: its pulses, and whether save mode abandons it (R582, R589). -/
  | eraseSector (c pulses : Nat) (cut : Bool) (t : Ticks)
  /-- SET_PASSWORD of a protection region is written: old and new password (R591). -/
  | setPassword (r : Nat) (b : Bytes) (t : Ticks)
  /-- UNLOCK of a protection region is written (R591). -/
  | unlockRegion (r : Nat) (p : Bytes) (t : Ticks)
  /-- LOCK of a protection region is written (R591). -/
  | lockRegion (r v : Nat) (t : Ticks)
  /-- 10 s have passed since a third wrong password (R591). -/
  | passwordLockoutEnd (r : Fin 64) (t : Ticks)
  /-- A write of FLS_WEAR_SEL (R594). -/
  | flsWearSel (v : Word32) (t : Ticks)
  /-- An epoch of 1 µs, with what the arbiter measures (R601, R603). -/
  | powerEpoch (r : PowerReading) (t : Ticks)
  /-- 10 µs have passed: DEMAND goes to the master (R605). -/
  | demandSend (t : Ticks)
  /-- A DEMAND message of a member reaches the master (R606). -/
  | demandReceive (src : Fin 8) (x : ChipDemand) (t : Ticks)
  /-- A SHARE message: the shares of flotilla IDs 0 to 7 (R608). -/
  | shareSet (shares : List Nat) (t : Ticks)
  /-- 100 µs have passed with no SHARE (R607). -/
  | shareStale (t : Ticks)
  /-- 10 ms have passed since the release of RESET_N (R609). -/
  | modelsMeasured (t : Ticks)
  /-- VDD_AON comes into regulation (R616). -/
  | powerOn (t : Ticks)
  /-- RESET_N goes low, and the time for which it stays low (R619, R631). -/
  | resetNAssert (low t : Ticks)
  /-- RESET_N is released, and what the start finds (R617). -/
  | resetNRelease (i : StartIn) (t : Ticks)
  /-- Step 18 of the sequence (R617). -/
  | startComplete (t : Ticks)
  /-- RESTART is written, and what the start finds (R622, R624). -/
  | restart (v : Nat) (i : StartIn) (t : Ticks)
  /-- The late tolerance of an entry has passed (R71). -/
  | lateTolPassed (h : Nat) (t : Ticks)
  /-- VDD_AON leaves regulation (R143). -/
  | vddAonLoss (t : Ticks)
  /-- The partner's certificate expires (R173). -/
  | certificateExpiry (i : Fin 16384) (t : Ticks)
  /-- An ACTIVE unit has heard no heartbeat for DETECT_TIME (R234). -/
  | bothPathsSilent (t : Ticks)
  /-- One heartbeat path has stopped delivering (R247). -/
  | heartbeatPathLost (path : Fin 3) (t : Ticks)
  /-- Lane n meets an encoding of R326, R327 or R337 that raises an illegal-opcode fault: its words less one, and its cause code less one. -/
  | dhIllegalOpcode (n : Fin 128) (words : Fin 3) (cause : Fin 4) (t : Ticks)
  /-- Purser p meets an encoding of R355 to R357 that raises an illegal-opcode fault: its bytes less one, and its cause code less one. -/
  | puIllegalOpcode (p : Fin 4) (len : Fin 15) (cause : Fin 4) (t : Ticks)
  /-- A core fetches at an address that it may not execute (R317, R361, R393). -/
  | fetchFault (r : CoreRef) (t : Ticks)
  /-- The task on purser p issues SVC with a code that is no service (R374). -/
  | svcOtherCode (p : Fin 4) (code : Fin 256) (t : Ticks)
  /-- A handheld reader activates the tag (R541). -/
  | tagActivation (t : Ticks)
  /-- The frame waiting time passes with no answer from the badge of CID c + 1; whether the final block of the command had been sent (R535, R560). -/
  | fwtTimeout (c : Fin 4) (sent agree : Bool) (t : Ticks)
  /-- CRDx_VCC has exceeded 120 mA (R636). -/
  | cardOvercurrent (x : Fin 2) (t : Ticks)
  /-- A PPS_IN edge with its stamp (R171). -/
  | ppsIn (stamp t : Ticks)
  /-- A function enters D3hot (R281). -/
  | d3hot (f : Fin 4) (t : Ticks)
  /-- The other unit of the twin hands over an object write, a ledger record or a card exchange (R260, R571). -/
  | replicatedWrite (w : Replicated) (env : WriteEnv) (t : Ticks)
deriving DecidableEq, Repr

end Sys2Proof
end

