-- ==== Sys2Proof/Machine/Bits.lean ====
section
/-!
DEFINITION. Byte order, bit fields and byte-string helpers (R3–R5, R257).
-/
namespace Sys2Proof.Machine

/-- Little-endian bytes to a number. -/
def leNat : Bytes → Nat
  | [] => 0
  | b :: t => b.toNat + 256 * leNat t

/-- Big-endian (network order) bytes to a number. -/
def beNat (l : Bytes) : Nat := l.foldl (fun a b => a * 256 + b.toNat) 0

/-- The low `n` bytes of a number, little-endian. -/
def toLe : Nat → Nat → Bytes
  | 0, _ => []
  | n + 1, v => BitVec.ofNat 8 v :: toLe n (v / 256)

/-- The low `n` bytes of a number, big-endian. -/
def toBe (n v : Nat) : Bytes := (toLe n v).reverse

/-- `len` bytes from an offset; missing bytes are left out. -/
def sliceB (l : Bytes) (off len : Nat) : Bytes := (l.drop off).take len

/-- A little-endian field of a byte string. -/
def leAt (l : Bytes) (off len : Nat) : Nat := leNat (sliceB l off len)

/-- A big-endian field of a byte string. -/
def beAt (l : Bytes) (off len : Nat) : Nat := beNat (sliceB l off len)

/-- Bits [hi:lo] of a number (R3). -/
def bitsOf (v hi lo : Nat) : Nat := (v / 2 ^ lo) % 2 ^ (hi + 1 - lo)

/-- Bit `i` of a number. -/
def bitOf (v i : Nat) : Bool := v / 2 ^ i % 2 == 1

/-- Set bit `i` of a number. -/
def setBit (v i : Nat) : Nat := if bitOf v i then v else v + 2 ^ i

/-- Clear bit `i` of a number. -/
def clrBit (v i : Nat) : Nat := if bitOf v i then v - 2 ^ i else v

/-- A number read as signed over `n` bits. -/
def signedOf (n v : Nat) : Int :=
  let m := v % 2 ^ n
  if m < 2 ^ (n - 1) then m else (m : Int) - 2 ^ n

/-- A signed number's `n`-bit pattern. -/
def patternOf (n : Nat) (v : Int) : Nat := (v % (2 ^ n : Int)).toNat

/-- A byte string padded with zeros, or cut, to `n` bytes. -/
def padTo (n : Nat) (l : Bytes) : Bytes := l.take n ++ List.replicate (n - l.length) 0

/-- Overwrite part of a byte string. -/
def overlayB (l : Bytes) (off : Nat) (v : Bytes) : Bytes :=
  let l' := padTo (max l.length (off + v.length)) l
  l'.take off ++ v ++ l'.drop (off + v.length)

def allZero (l : Bytes) : Bool := l.all (fun b => decide (b = 0))

/-- The ASCII bytes of a string. -/
def ascii (s : String) : Bytes := s.toList.map (fun c => BitVec.ofNat 8 c.toNat)

/-- What a pure SLH-DSA signature with an empty context covers: the message under its two-byte prefix (R176, R201, R436). -/
def slhPure (m : Bytes) : Bytes := 0 :: 0 :: m

/-- Algorithms by which the model names signatures (log entry 25): the two parameter sets of R436, and ECDSA P-256. -/
def algSlh128s : Nat := 1
def algSlh128f : Nat := 2
def algEcdsaP256 : Nat := 3

/-- R6: the twelve bytes of a TIME value, little-endian: fraction, nanoseconds, seconds. -/
def timeLe (t : Ticks) : Bytes :=
  let n := t.toNat
  let ns := n / 65536
  toLe 2 (n % 65536) ++ toLe 4 (ns % 1000000000) ++ toLe 6 (ns / 1000000000)

/-- R182: the twelve bytes of a TIME value in network order: seconds, nanoseconds, fraction. -/
def timeBe (t : Ticks) : Bytes := (timeLe t).reverse

/-- The instant a little-endian TIME value names; none where its nanoseconds break R7. -/
def timeOfLe (l : Bytes) : Option Ticks :=
  let ns := leAt l 2 4
  if ns < 1000000000 then some (((leAt l 6 6 * 1000000000 + ns) * 65536 + leAt l 0 2 : Nat) : Int) else none

/-- Remove the duplicates of a list, keeping the first of each. -/
def dedup : List Nat → List Nat
  | [] => []
  | a :: t => a :: (dedup t).filter (fun b => b ≠ a)

/-- Insert into a list sorted by a key. -/
def insSorted {α : Type} (key : α → Int) (a : α) : List α → List α
  | [] => [a]
  | b :: t => if key a < key b then a :: b :: t else b :: insSorted key a t

/-- Stable insertion sort by a key. -/
def sortBy {α : Type} (key : α → Int) (l : List α) : List α := l.foldl (fun acc a => insSorted key a acc) []

end Sys2Proof.Machine
end

