-- ==== Sys2Proof/Config.lean ====
section
/-!
DEFINITION. The free values of the model: constants with no body, so that nothing can be proved about what they are.
Each stands for a value that the spec leaves open; the assumption log names every use.
-/
namespace Sys2Proof.Config

/-- A fresh 64-bit value; the argument is the state's counter of free values taken (log entry 2). -/
opaque freeWord : Nat → BitVec 64

/-- A fresh number with no stated bound (log entry 2). -/
opaque freeNat : Nat → Nat

/-- A fresh signed number (log entry 2). -/
opaque freeInt : Nat → Int

/-- A fresh decision (log entry 2). -/
opaque freeBool : Nat → Bool

/-- A fresh string of random bytes: the counter and the length wanted (log entry 2). -/
opaque freeByte : Nat → Nat → BitVec 8

/-- Values set at manufacture, by object key (R17 FACT; log entry 5). -/
opaque factory : Nat → Int

/-- Byte strings set at manufacture, by object key (R17 FACT; log entry 5). -/
opaque factoryBytes : Nat → List (BitVec 8)

/-- Which of the 5-bit values still unused stands for an item state (R134, R135, R518), by the state's number; the spec gives
the code and not the assignment (log entry 7). -/
opaque itemStatePick : Nat → Nat

/-- The public key of an ephemeral or stored private key, by curve or algorithm (log entry 25). -/
opaque publicOf : Nat → List (BitVec 8) → List (BitVec 8)

/-- The x coordinate of an elliptic-curve agreement: curve, own private key, other public key (log entry 25). -/
opaque ecdh : Nat → List (BitVec 8) → List (BitVec 8) → List (BitVec 8)

/-- A public-key signature: algorithm, private key or the name of the key that the device holds, message (log entry 25). -/
opaque pkSign : Nat → List (BitVec 8) → List (BitVec 8) → List (BitVec 8)

/-- Whether a signature verifies: algorithm, public key, message, signature (log entry 25). -/
opaque pkVerify : Nat → List (BitVec 8) → List (BitVec 8) → List (BitVec 8) → Bool

/-- Whether a certificate chain ends at an anchor of the chart with this digest, each certificate signed by the next one (R176; log
entry 25). -/
opaque chainAnchored : List (BitVec 8) → List (BitVec 8) → Bool

/-- Whether the chart with this digest lists a certificate as revoked (R176; log entry 25). -/
opaque certRevoked : List (BitVec 8) → List (BitVec 8) → Bool

/-- How many bytes of records that wait for a missing one the buffer of a pier holds (R197; log entry 153). -/
opaque streamRoom : Nat

/-- What the best master clock algorithm compares of this device beside its priorities: class, accuracy, variance, identity (R169;
log entry 154). -/
opaque clockClass : Nat
opaque clockAccuracy : Nat
opaque clockVariance : Nat
opaque clockIdentity : Nat

/-- The leaf certificate of a chain, its public key, and the instant at which the first of its certificates expires (log entry
25). -/
opaque chainLeaf : List (BitVec 8) → List (BitVec 8)
opaque chainKey : List (BitVec 8) → List (BitVec 8)
opaque chainExpires : List (BitVec 8) → Int

/-- The region that a denied access into two regions is reported with (R397, R407; log entry 53). -/
opaque overlapRegion : Nat → Nat

/-- Whether a certificate is signed by a key (R490; log entry 25). -/
opaque certSigned : List (BitVec 8) → List (BitVec 8) → Bool

/-- The Kolzel application identifier (R558; log entry 60). -/
opaque kolzelAid : List (BitVec 8)

/-- Sollatu's manufacturer code in UID0 of the tag (R541; log entry 5). -/
opaque tagMaker : Nat

/-- Whether the certificates of a card's chain, leaf first, sign one another up to the CA certificate with a digest (R558; log
entry 25). -/
opaque cardChain : List (BitVec 8) → List (BitVec 8) → Bool

/-- How far a blinking indicator is into its period at instant 0 (R564; log entry 64). -/
opaque blinkPhase : Int

/-- Which of its classes a consumer's worst-case demand beyond what it reports is counted in (R599, R609; log entry 70). -/
opaque worstClass : Nat → Nat

/-- Sollatu's manufacturer code in IDCODE (R495; log entry 5). -/
opaque jtagMaker : Nat

/-- The system address of the hash array's HMAC key port (R366; log entry 80). -/
opaque hmacPort : Nat

/-- Whether the smaller of two task priorities runs first (R373; log entry 81). -/
opaque lowPriorityFirst : Bool

/-- The correction that a calibration capture writes for a Bearing's point at which no sample fell (R45; log entry 129). -/
opaque captureGap : Nat → Nat → Int

/-- The device-unique fuse key (R473; log entry 5). -/
opaque fuseKey : List (BitVec 8)

end Sys2Proof.Config
end

