-- ==== Sys2Proof/Machine/CoreTypes.lean ====
section
/-!
DEFINITION. State of the deckhand and purser cores, of the access check units, and of the customer tasks (R321–R325,
R349–R353, R372–R376, R379–R408).
-/
namespace Sys2Proof.Machine

/-- A deckhand's registers (R321–R324) and what R332, R333 and R387 keep between instructions. -/
structure DhCore where
  g : Vector Word32 16 := Vector.replicate 16 0
  pc : BitVec 14 := 0
  c : Bool := false
  z : Bool := false
  n : Bool := false
  v : Bool := false
  /-- STAT.EE -/
  ee : Bool := false
  mlo : Word32 := 0
  mhi : Word32 := 0
  lps : Word32 := 0
  lpe : Word32 := 0
  lpc : Word32 := 0
  brs : Word32 := 0
  brd : Word32 := 0
  brc : Word32 := 0
  tsbp : Word32 := 0
  tsnap : Word32 := 0
  /-- products issued and not completed, oldest first (R333) -/
  products : List (BitVec 64) := []
  /-- the last SKcc skips the next instruction -/
  skip : Bool := false
  /-- the next instruction is controlled by a SKcc (R342) -/
  shadow : Bool := false
  /-- handler state (R387) -/
  handler : Bool := false
  /-- an imprecise notice is pending (R391) -/
  notice : Bool := false
  /-- posted stores that have failed at their target and are not yet notified: address and cause -/
  posted : List (Nat × Nat) := []
deriving DecidableEq, Repr

/-- A purser's registers (R349–R352). -/
structure PuCore where
  x : Vector Word64 16 := Vector.replicate 16 0
  pc : Word64 := 0
  c : Bool := false
  z : Bool := false
  n : Bool := false
  v : Bool := false
  /-- FLAGS.IE -/
  ie : Bool := false
  /-- FLAGS.TASK -/
  task : Bool := false
  pl : Word64 := 0
  ph : Word64 := 0
  tsbp : Word64 := 0
  tsnap : Word64 := 0
  kwin : Word64 := 0
  /-- CYCLES, since reset -/
  cycles : Nat := 0
  products : List (BitVec 128) := []
  skip : Bool := false
  shadow : Bool := false
  handler : Bool := false
  notice : Bool := false
  posted : List (Nat × Nat) := []
  /-- it has executed WAIT, and no interrupt has been pending since -/
  waiting : Bool := false
  /-- double fault (R392) -/
  parked : Bool := false
  /-- task slot that runs on it -/
  running : Option Nat := none
deriving DecidableEq, Repr

/-- One region of an access check unit (R402–R405). -/
structure Region where
  base : Nat := 0
  limit : Nat := 0
  hi : Nat := 0
  attr : Nat := 0
deriving DecidableEq, Repr

/-- One access check unit (R396–R408). -/
structure Acu where
  regions : Tab Region := []
  denials : Nat := 0
  lastAddr : Nat := 0
  lastCause : Nat := 0
  lastRegion : Nat := 0
  lastMatched : Bool := false
  lastWrite : Bool := false
  impAddr : Nat := 0
  impCause : Nat := 0
  impValid : Bool := false
  impMore : Bool := false
deriving DecidableEq, Repr

/-- Customer task states, with the codes of R376. -/
inductive TaskState where
  | off | ready | running | waiting | faulted | stopped
deriving DecidableEq, Repr

def TaskState.code : TaskState → Nat
  | .off => 0
  | .ready => 1
  | .running => 2
  | .waiting => 3
  | .faulted => 4
  | .stopped => 5

/-- One customer task slot (R371–R376): its parts in the task area, its TSB, and its WAIT. -/
structure Task where
  state : TaskState := .off
  purser : Nat := 0
  /-- first address and bytes allocated of code, data, zero-filled data and stack -/
  parts : List (Nat × Nat) := []
  /-- pier-buffer requests: base, size as log2, rights -/
  reqs : List (Nat × Nat × Nat) := []
  tsb : Nat := 0
  /-- PC where it last stopped (R376) -/
  pc : Nat := 0
  image : Bytes := []
  waitMask : Nat := 0
  waitUntil : Ticks := 0
  /-- notifications and signals that have arrived: bits 1 and 2 -/
  signalled : Nat := 0
  /-- order of its last turn, for the round-robin of R373 -/
  turn : Nat := 0
deriving DecidableEq, Repr

/-- The processors apart from their memories. -/
structure Cores where
  dh : Tab DhCore := []
  pu : Tab PuCore := []
  acu : Tab Acu := []
  tasks : Tab Task := []
  turns : Nat := 0
  /-- the context of resident firmware, while a task runs on its purser -/
  resident : Tab PuCore := []
deriving DecidableEq, Repr

end Sys2Proof.Machine
end

