-- ==== Sys2Proof/Machine/FaultTypes.lean ====
section
/-!
DEFINITION. State of the fault collector and the tamper monitors (R500–R526).
-/
namespace Sys2Proof.Machine

/-- A log record (R520): instant, source, instance, severity applied, FLAGS, merged count, detail. -/
structure LogRec where
  at_ : Ticks
  src : Nat
  inst : Nat
  severity : Nat
  flags : Nat
  merged : Nat
  detail : List Int
deriving DecidableEq, Repr

/-- A merge in progress (R512): instant of the first fault and the count so far. -/
structure Merge where
  start : Ticks
  count : Nat
  inst : Nat
deriving DecidableEq, Repr

/-- What a fault's severity asks of the rest of the chip (R503–R508); the actions are carried out at the end of the
command that raised the fault. -/
inductive FaultAct where
  | retire (src inst : Nat)
  /-- retire a physical pier with a cause of R243 -/
  | pier (p cause : Nat)
  | hold
  | safe
  | resetDomain (src inst : Nat)
  | chipSafe
  | erase (full : Bool)
deriving DecidableEq, Repr

/-- The fault collector and the tamper monitors. -/
structure Faults where
  hold : Bool := false
  safe : Bool := false
  chipSafe : Bool := false
  collectorFault : Bool := false
  /-- R513: of the collector's configuration words, by object key, the complemented copies that are not the complement of the
  true word, with what they hold. Every word not listed has a good pair. -/
  inverse : Tab Int := []
  /-- R513: a register of the collector fails its parity -/
  parityBad : Bool := false
  /-- HOLD of FCU_FAULTN -/
  faultnHold : Bool := false
  /-- end of the present minimum low time of FAULT_N (R510) -/
  faultnUntil : Ticks := 0
  faultnDriven : Bool := false
  faultnSensed : Bool := false
  /-- ACTIVE sources with the severity at which they were raised -/
  active : Tab Nat := []
  /-- sources being handled (R511), with the severity that is being carried out and the instance -/
  handling : Tab (Nat × Nat) := []
  merges : Tab Merge := []
  /-- LOG, newest first, at most 1 024 records; lost at every reset -/
  log : List LogRec := []
  /-- records in the log region of flash, newest first -/
  flashLog : List LogRec := []
  droppedBefore : Bool := false
  todo : List FaultAct := []
  armed : Bool := false
  level1 : Bool := false
  level2 : Bool := false
  shieldOk : Bool := false
  /-- a shield event latched in the always-on block while the other rails were off (R516) -/
  shieldLatched : Bool := false
  /-- event instants of a monitor's sliding windows, newest first, by monitor: 0–7 supply glitch, 8–15 slow supply,
  16 clock, 17 temperature high, 18 temperature low, 19 shield (R515) -/
  monitor : Tab (List Ticks) := []
  /-- instant of the last event of a supply, clock or temperature monitor (R487) -/
  lastMonitor : Option Ticks := none
  /-- TAMPER is set in the next Efuth record (R493, R516) -/
  tamperMark : Bool := false
  /-- highest severity applied since the last start (R493) -/
  maxSince : Nat := 0
deriving DecidableEq, Repr

end Sys2Proof.Machine
end

