-- ==== Sys2Proof/Machine/LaneTypes.lean ====
section
/-!
DEFINITION. What the device hands to a lane: inbox slots and frame records (R324, R337–R339, R343, R346).
-/
namespace Sys2Proof.Machine

/-- Lane states, with the codes of STATE in 0xB001 (R346); WAITING, code 2, is RUNNING inside a WAIT. -/
inductive LaneState where
  | off | running | disabling | faulted | parked
deriving DecidableEq, Repr

def LaneState.code : LaneState → Nat
  | .off => 0
  | .running => 1
  | .disabling => 3
  | .faulted => 4
  | .parked => 5

/-- One inbox slot in use: the item's head cell, queue and sequence, and the slot's bytes. -/
structure InboxSlot where
  item : Nat
  queue : Nat
  seq : Nat
  bytes : Bytes
  /-- order in which the lane's items were handed to it -/
  turn : Nat := 0
  taken : Bool := false
deriving DecidableEq, Repr

/-- One frame record held by a lane: its offset in the pier buffer, its bytes, its arrival and its session. -/
structure FrameRec where
  offset : Nat
  bytes : Bytes
  arrival : Ticks
  type : Nat
  /-- the first extension is a time stamp (R182) -/
  hasTime : Bool := false
  taken : Bool := false
deriving DecidableEq, Repr

/-- The device's side of a lane. -/
structure LaneIo where
  state : LaneState := .off
  /-- ORIGIN: 0 UNUSED, 1 RESIDENT, 2 CUSTOMER, 3 SHADOW -/
  origin : Nat := 0
  inbox : Tab InboxSlot := []
  /-- a fault has ended its program: FAULTED or PARKED, until it is started again (R392, R394) -/
  halted : Bool := false
  /-- it is DISABLING under CANCEL (R347) -/
  cancelled : Bool := false
  /-- items handed to the lane since it started -/
  handed : Nat := 0
  /-- arrival of the record that the lane took last (R337) -/
  lastArrival : Option Ticks := none
  /-- oldest first -/
  records : List FrameRec := []
  /-- instant at which the watchdog expires; none while in WAIT or not running -/
  watchdog : Option Ticks := none
  migrated : Bool := false
  soft : Bool := false
  /-- inside a WAIT (R330) -/
  inWait : Bool := false
  /-- watchdog time left, while in WAIT -/
  wdLeft : Ticks := 0
  /-- start delay of its shadow in cycles (R344) -/
  shadowLag : Nat := 0
  /-- the loaded image: its digest, its code words and ENTRY, as program memory holds them (R316, R317) -/
  image : Bytes := []
  code : List (BitVec 14) := []
  entry : Nat := 0
deriving DecidableEq, Repr

/-- STATE of a lane (R346). -/
def LaneIo.stateCode (x : LaneIo) : Nat := if x.inWait && decide (x.state = .running) then 2 else x.state.code

/-- The lane executes its program. -/
def LaneIo.runs (x : LaneIo) : Bool := !x.halted && (decide (x.state = .running) || decide (x.state = .disabling))

end Sys2Proof.Machine
end

