-- ==== Sys2Proof/Machine/Od.lean ====
section
/-!
DEFINITION. The object dictionary's rows, one definition per row of the spec's object tables (R52–R54, R105, R165,
R208–R210, R254, R255, R278, R312, R346, R376, R409, R449, R478, R498, R525, R551, R575, R596, R614, R624).
Columns: index, first subindex, number of subindices, type, byte length of an OCTETS or UTF8 value, read role, read
permit, write role, write permit, persistence, default set at manufacture (a free value), default, range.
-/
namespace Sys2Proof.Machine.Od

/-- 0x2000 sub 1, TYPE (0–6) (R52). -/
def brg_TYPE : OdRow := ⟨0x2000, 1, 1, .enum8, 0, .ob, false, .en, false, .chart, false, 0, (some (0, 6))⟩
/-- 0x2000 sub 2, ENCODING: 0 QUADRATURE, 1 SSI (R52). -/
def brg_ENCODING : OdRow := ⟨0x2000, 2, 1, .enum8, 0, .ob, false, .en, false, .chart, false, 0, (some (0, 1))⟩
/-- 0x2000 sub 3, UNIT_NUM (R52). -/
def brg_UNIT_NUM : OdRow := ⟨0x2000, 3, 1, .u32, 0, .ob, false, .en, false, .chart, false, 1, none⟩
/-- 0x2000 sub 4, UNIT_DEN (R52). -/
def brg_UNIT_DEN : OdRow := ⟨0x2000, 4, 1, .u32, 0, .ob, false, .en, false, .chart, false, 4, none⟩
/-- 0x2000 sub 5, DIR_INVERT (R52). -/
def brg_DIR_INVERT : OdRow := ⟨0x2000, 5, 1, .bool, 0, .ob, false, .en, false, .chart, false, 0, (some (0, 1))⟩
/-- 0x2000 sub 6, ORIGIN (R52). -/
def brg_ORIGIN : OdRow := ⟨0x2000, 6, 1, .bval, 0, .ob, false, .en, false, .chart, false, 0, none⟩
/-- 0x2000 sub 7, FIT_ORDER (1–2) (R52). -/
def brg_FIT_ORDER : OdRow := ⟨0x2000, 7, 1, .u8, 0, .ob, false, .en, false, .chart, false, 2, (some (1, 2))⟩
/-- 0x2000 sub 8, FIT_N (4–64) (R52). -/
def brg_FIT_N : OdRow := ⟨0x2000, 8, 1, .u8, 0, .ob, false, .en, false, .chart, false, 16, (some (4, 64))⟩
/-- 0x2000 sub 9, ACQ_M (3–64) (R52). -/
def brg_ACQ_M : OdRow := ⟨0x2000, 9, 1, .u8, 0, .ob, false, .en, false, .chart, false, 8, (some (3, 64))⟩
/-- 0x2000 sub 10, VMIN, units/s (R52). -/
def brg_VMIN : OdRow := ⟨0x2000, 10, 1, .bval, 0, .ob, false, .en, false, .chart, false, 429496730, none⟩
/-- 0x2000 sub 11, VMAX, units/s (R52). -/
def brg_VMAX : OdRow := ⟨0x2000, 11, 1, .bval, 0, .ob, false, .en, false, .ovl, false, 9223372036854775807, none⟩
/-- 0x2000 sub 12, EDGE_GATE (1–16) (R52). -/
def brg_EDGE_GATE : OdRow := ⟨0x2000, 12, 1, .u8, 0, .ob, false, .en, false, .ovl, false, 2, (some (1, 16))⟩
/-- 0x2000 sub 13, COAST_TIME (1 µs–100 ms) (R52). -/
def brg_COAST_TIME : OdRow := ⟨0x2000, 13, 1, .dur, 0, .ob, false, .en, false, .ovl, false, 65536000000, (some (65536000, 6553600000000))⟩
/-- 0x2000 sub 14, COMMIT_HORIZON (0.5–50 µs) (R52). -/
def brg_COMMIT_HORIZON : OdRow := ⟨0x2000, 14, 1, .dur, 0, .ob, false, .en, false, .ovl, false, 327680000, (some (32768000, 3276800000))⟩
/-- 0x2000 sub 15, TRACK_TO_EDGE (R52). -/
def brg_TRACK_TO_EDGE : OdRow := ⟨0x2000, 15, 1, .bool, 0, .ob, false, .en, false, .ovl, false, 0, (some (0, 1))⟩
/-- 0x2000 sub 16, UNC_K (1–8) (R52). -/
def brg_UNC_K : OdRow := ⟨0x2000, 16, 1, .u8, 0, .ob, false, .en, false, .ovl, false, 3, (some (1, 8))⟩
/-- 0x2000 sub 17, LINE_ERR (R52). -/
def brg_LINE_ERR : OdRow := ⟨0x2000, 17, 1, .bval, 0, .ob, false, .en, false, .chart, false, 0, none⟩
/-- 0x2000 sub 18, PREDICT_LIMIT (1 ms–60 s) (R52). -/
def brg_PREDICT_LIMIT : OdRow := ⟨0x2000, 18, 1, .dur, 0, .ob, false, .en, false, .chart, false, 65536000000000, (some (65536000000, 3932160000000000))⟩
/-- 0x2000 sub 19, Z_MODE (0–3) (R52). -/
def brg_Z_MODE : OdRow := ⟨0x2000, 19, 1, .enum8, 0, .ob, false, .en, false, .chart, false, 0, (some (0, 3))⟩
/-- 0x2000 sub 20, Z_HOME (R52). -/
def brg_Z_HOME : OdRow := ⟨0x2000, 20, 1, .bval, 0, .ob, false, .en, false, .chart, false, 0, none⟩
/-- 0x2000 sub 21, Z_TOL, counts (1–255) (R52). -/
def brg_Z_TOL : OdRow := ⟨0x2000, 21, 1, .u8, 0, .ob, false, .en, false, .chart, false, 2, (some (1, 255))⟩
/-- 0x2000 sub 22, GLITCH_WIDTH (0–1 000 ns) (R52). -/
def brg_GLITCH_WIDTH : OdRow := ⟨0x2000, 22, 1, .dur, 0, .ob, false, .en, false, .chart, false, 131072, (some (0, 65536000))⟩
/-- 0x2000 sub 23, QUAD_LIMIT, per 1 ms window (R52). -/
def brg_QUAD_LIMIT : OdRow := ⟨0x2000, 23, 1, .u16, 0, .ob, false, .en, false, .chart, false, 4, none⟩
/-- 0x2000 sub 24, AUTO_REACQ (R52). -/
def brg_AUTO_REACQ : OdRow := ⟨0x2000, 24, 1, .bool, 0, .ob, false, .en, false, .chart, false, 1, (some (0, 1))⟩
/-- 0x2000 sub 25, TERMINATION (R52). -/
def brg_TERMINATION : OdRow := ⟨0x2000, 25, 1, .bool, 0, .ob, false, .en, false, .chart, false, 1, (some (0, 1))⟩
/-- 0x2000 sub 26, ENABLE: 0 OFF, 1 ON (R52). -/
def brg_ENABLE : OdRow := ⟨0x2000, 26, 1, .enum8, 0, .ob, false, .en, true, .chart, false, 0, (some (0, 1))⟩
/-- 0x2000 sub 27, DISABLE_MODE: 0 DRAIN, 1 CANCEL (R52). -/
def brg_DISABLE_MODE : OdRow := ⟨0x2000, 27, 1, .enum8, 0, .ob, false, .en, false, .ovl, false, 0, (some (0, 1))⟩
/-- 0x2000 sub 28, POSITION_SET (R52). -/
def brg_POSITION_SET : OdRow := ⟨0x2000, 28, 1, .bval, 0, .none, false, .en, true, .vol, false, 0, none⟩
/-- 0x2001 sub 1, SSI_CLOCK, Hz (R52). -/
def ssi_SSI_CLOCK : OdRow := ⟨0x2001, 1, 1, .u32, 0, .ob, false, .en, false, .chart, false, 1000000, none⟩
/-- 0x2001 sub 2, SSI_BITS (8–40) (R52). -/
def ssi_SSI_BITS : OdRow := ⟨0x2001, 2, 1, .u8, 0, .ob, false, .en, false, .chart, false, 25, (some (8, 40))⟩
/-- 0x2001 sub 3, SSI_CODE: 0 BINARY, 1 GRAY (R52). -/
def ssi_SSI_CODE : OdRow := ⟨0x2001, 3, 1, .enum8, 0, .ob, false, .en, false, .chart, false, 1, (some (0, 1))⟩
/-- 0x2001 sub 4, SSI_PERIOD (1–1 000 µs) (R52). -/
def ssi_SSI_PERIOD : OdRow := ⟨0x2001, 4, 1, .dur, 0, .ob, false, .en, false, .chart, false, 3276800000, (some (65536000, 65536000000))⟩
/-- 0x2001 sub 5, SSI_LATENCY (R52). -/
def ssi_SSI_LATENCY : OdRow := ⟨0x2001, 5, 1, .dur, 0, .ob, false, .en, false, .chart, false, 0, none⟩
/-- 0x2001 sub 6, SSI_PARITY: 0 NONE, 1 EVEN, 2 ODD (R52). -/
def ssi_SSI_PARITY : OdRow := ⟨0x2001, 6, 1, .enum8, 0, .ob, false, .en, false, .chart, false, 0, (some (0, 2))⟩
/-- 0x2001 sub 7, SSI_ERR_LIMIT (1–255) (R52). -/
def ssi_SSI_ERR_LIMIT : OdRow := ⟨0x2001, 7, 1, .u8, 0, .ob, false, .en, false, .chart, false, 3, (some (1, 255))⟩
/-- 0x2001 sub 8, SSI_RECOVERY (R52). -/
def ssi_SSI_RECOVERY : OdRow := ⟨0x2001, 8, 1, .dur, 0, .ob, false, .en, false, .chart, false, 1310720000, none⟩
/-- 0x2002 sub 1, HYSTERESIS, mV (1–100) (R52). -/
def mns_HYSTERESIS : OdRow := ⟨0x2002, 1, 1, .u16, 0, .ob, false, .en, false, .chart, false, 20, (some (1, 100))⟩
/-- 0x2002 sub 2, PHASES, bit 0 A, bit 1 B, bit 2 C (R52). -/
def mns_PHASES : OdRow := ⟨0x2002, 2, 1, .u8, 0, .ob, false, .en, false, .chart, false, 7, none⟩
/-- 0x2002 sub 3, SEQUENCE: 0 ABC, 1 ACB (R52). -/
def mns_SEQUENCE : OdRow := ⟨0x2002, 3, 1, .enum8, 0, .ob, false, .en, false, .chart, false, 0, (some (0, 1))⟩
/-- 0x2002 sub 4, AMPLITUDE_MIN, mV (R52). -/
def mns_AMPLITUDE_MIN : OdRow := ⟨0x2002, 4, 1, .u16, 0, .ob, false, .en, false, .chart, false, 100, none⟩
/-- 0x2003 sub 1, SRC_SESSION (24-bit) (R52). -/
def nbr_SRC_SESSION : OdRow := ⟨0x2003, 1, 1, .u32, 0, .ob, false, .en, false, .chart, false, 0, (some (0, 16777215))⟩
/-- 0x2003 sub 2, SRC_BEARING (0–15) (R52). -/
def nbr_SRC_BEARING : OdRow := ⟨0x2003, 2, 1, .u8, 0, .ob, false, .en, false, .chart, false, 0, (some (0, 15))⟩
/-- 0x2003 sub 3, SRC_MAX_UNC (R52). -/
def nbr_SRC_MAX_UNC : OdRow := ⟨0x2003, 3, 1, .bval, 0, .ob, false, .en, false, .ovl, false, 9223372036854775807, none⟩
/-- 0x2004 sub 1, V_SOURCE (R52). -/
def vbr_V_SOURCE : OdRow := ⟨0x2004, 1, 1, .u8, 0, .ob, false, .en, false, .chart, false, 0, none⟩
/-- 0x2004 sub 2, V_A (R52). -/
def vbr_V_A : OdRow := ⟨0x2004, 2, 1, .bval, 0, .ob, false, .en, false, .ovl, false, 4294967296, none⟩
/-- 0x2004 sub 3, V_B (R52). -/
def vbr_V_B : OdRow := ⟨0x2004, 3, 1, .bval, 0, .ob, false, .en, false, .ovl, false, 0, none⟩
/-- 0x2005 sub 1, PUB_FERRY (R52). -/
def pub_PUB_FERRY : OdRow := ⟨0x2005, 1, 1, .bool, 0, .ob, false, .en, false, .chart, false, 0, (some (0, 1))⟩
/-- 0x2005 sub 2, PUB_PERIOD (10 µs–10 ms) (R52). -/
def pub_PUB_PERIOD : OdRow := ⟨0x2005, 2, 1, .dur, 0, .ob, false, .en, false, .chart, false, 6553600000, (some (655360000, 655360000000))⟩
/-- 0x2005 sub 3–34, PUB_SESSION[1..32]; 0 = unused (R52). -/
def pub_PUB_SESSION : OdRow := ⟨0x2005, 3, 32, .u32, 0, .ob, false, .en, false, .chart, false, 0, none⟩
/-- 0x2008 sub 1, CAL_POINTS (0–4 096) (R54). -/
def cal_CAL_POINTS : OdRow := ⟨0x2008, 1, 1, .u16, 0, .ob, false, .en, false, .chart, false, 0, (some (0, 4096))⟩
/-- 0x2008 sub 2, CAL_PERIOD (R54). -/
def cal_CAL_PERIOD : OdRow := ⟨0x2008, 2, 1, .bval, 0, .ob, false, .en, false, .chart, false, 4294967296, none⟩
/-- 0x2008 sub 3, CAL_TABLE, I32 little-endian (R54). -/
def cal_CAL_TABLE : OdRow := ⟨0x2008, 3, 1, .octets, 16384, .ob, false, .en, false, .chart, false, 0, none⟩
/-- 0x2008 sub 4, CAL_VLOW (R54). -/
def cal_CAL_VLOW : OdRow := ⟨0x2008, 4, 1, .bval, 0, .ob, false, .en, false, .chart, false, 0, none⟩
/-- 0x2008 sub 5, CAL_VHIGH (R54). -/
def cal_CAL_VHIGH : OdRow := ⟨0x2008, 5, 1, .bval, 0, .ob, false, .en, false, .chart, false, 0, none⟩
/-- 0x2008 sub 6, CAL_TEMP, 0.01 °C (R54). -/
def cal_CAL_TEMP : OdRow := ⟨0x2008, 6, 1, .i32, 0, .ob, false, .en, false, .chart, false, 0, none⟩
/-- 0x2008 sub 7, CAL_LOADBIN (0–3) (R54). -/
def cal_CAL_LOADBIN : OdRow := ⟨0x2008, 7, 1, .u8, 0, .ob, false, .en, false, .chart, false, 0, (some (0, 3))⟩
/-- 0x2008 sub 8, CAL_RESID (R54). -/
def cal_CAL_RESID : OdRow := ⟨0x2008, 8, 1, .bval, 0, .ob, false, .en, false, .chart, false, 0, none⟩
/-- 0x2008 sub 9, CAL_PENALTY (R54). -/
def cal_CAL_PENALTY : OdRow := ⟨0x2008, 9, 1, .bval, 0, .ob, false, .en, false, .ovl, false, 0, none⟩
/-- 0x2008 sub 10, CAL_CAPTURE: write 1 to start; reads 0 IDLE, 1 RUNNING, 2 DONE, 3 ABORTED (R54). -/
def cal_CAL_CAPTURE : OdRow := ⟨0x2008, 10, 1, .enum8, 0, .ob, false, .en, false, .vol, false, 0, (some (1, 1))⟩
/-- 0x2008 sub 11, CAL_ABORT_REASON (R54). -/
def cal_CAL_ABORT_REASON : OdRow := ⟨0x2008, 11, 1, .enum8, 0, .ob, false, .none, false, .vol, false, 0, none⟩
/-- 0x2008 sub 12, DROOP_COEF, 2^−16 ns per V (R54). -/
def cal_DROOP_COEF : OdRow := ⟨0x2008, 12, 1, .i32, 0, .ob, false, .none, false, .fact, true, 0, none⟩
/-- 0x2008 sub 13–16, IN_DELAY[0..3], per load bin, 2^−16 ns (R54). -/
def cal_IN_DELAY : OdRow := ⟨0x2008, 13, 4, .i32, 0, .ob, false, .none, false, .fact, true, 0, none⟩
/-- 0x2010 sub 1, STATE (R54). -/
def bst_STATE : OdRow := ⟨0x2010, 1, 1, .enum8, 0, .ob, false, .none, false, .vol, false, 0, none⟩
/-- 0x2010 sub 2, QUALITY (R49) (R54). -/
def bst_QUALITY : OdRow := ⟨0x2010, 2, 1, .u8, 0, .ob, false, .none, false, .vol, false, 0, none⟩
/-- 0x2010 sub 3, POS_REF (R54). -/
def bst_POS_REF : OdRow := ⟨0x2010, 3, 1, .bool, 0, .ob, false, .none, false, .vol, false, 0, (some (0, 1))⟩
/-- 0x2010 sub 4, POSITION at SAMPLE_TIME (R54). -/
def bst_POSITION : OdRow := ⟨0x2010, 4, 1, .bval, 0, .ob, false, .none, false, .vol, false, 0, none⟩
/-- 0x2010 sub 5, SAMPLE_TIME (R54). -/
def bst_SAMPLE_TIME : OdRow := ⟨0x2010, 5, 1, .time, 0, .ob, false, .none, false, .vol, false, 0, none⟩
/-- 0x2010 sub 6, VELOCITY (R54). -/
def bst_VELOCITY : OdRow := ⟨0x2010, 6, 1, .bval, 0, .ob, false, .none, false, .vol, false, 0, none⟩
/-- 0x2010 sub 7, ACCEL (R54). -/
def bst_ACCEL : OdRow := ⟨0x2010, 7, 1, .bval, 0, .ob, false, .none, false, .vol, false, 0, none⟩
/-- 0x2010 sub 8, UNCERTAINTY, unc_x(0) (R54). -/
def bst_UNCERTAINTY : OdRow := ⟨0x2010, 8, 1, .bval, 0, .ob, false, .none, false, .vol, false, 0, none⟩
/-- 0x2010 sub 9, UNC_TIME, unc_t(0); 0 when STILL (R54). -/
def bst_UNC_TIME : OdRow := ⟨0x2010, 9, 1, .dur, 0, .ob, false, .none, false, .vol, false, 0, none⟩
/-- 0x2010 sub 10, RESIDUAL, sqrt(s2) (R54). -/
def bst_RESIDUAL : OdRow := ⟨0x2010, 10, 1, .bval, 0, .ob, false, .none, false, .vol, false, 0, none⟩
/-- 0x2010 sub 11, EDGES (R54). -/
def bst_EDGES : OdRow := ⟨0x2010, 11, 1, .u64, 0, .ob, false, .none, false, .vol, false, 0, none⟩
/-- 0x2010 sub 12, GLITCHES (R54). -/
def bst_GLITCHES : OdRow := ⟨0x2010, 12, 1, .u32, 0, .ob, false, .none, false, .vol, false, 0, none⟩
/-- 0x2010 sub 13, QUAD_ERRORS (R54). -/
def bst_QUAD_ERRORS : OdRow := ⟨0x2010, 13, 1, .u32, 0, .ob, false, .none, false, .vol, false, 0, none⟩
/-- 0x2010 sub 14, INDEX_DEVIATION, counts (R54). -/
def bst_INDEX_DEVIATION : OdRow := ⟨0x2010, 14, 1, .i32, 0, .ob, false, .none, false, .vol, false, 0, none⟩
/-- 0x2010 sub 15, COAST_EVENTS (R54). -/
def bst_COAST_EVENTS : OdRow := ⟨0x2010, 15, 1, .u32, 0, .ob, false, .none, false, .vol, false, 0, none⟩
/-- 0x2010 sub 16, SRC_DISCARDS (SSI or network) (R54). -/
def bst_SRC_DISCARDS : OdRow := ⟨0x2010, 16, 1, .u32, 0, .ob, false, .none, false, .vol, false, 0, none⟩
/-- 0x2010 sub 17, LAST_CAUSE (R54). -/
def bst_LAST_CAUSE : OdRow := ⟨0x2010, 17, 1, .enum8, 0, .ob, false, .none, false, .vol, false, 0, none⟩
/-- 0x2010 sub 18, LOAD_BIN, current (R54). -/
def bst_LOAD_BIN : OdRow := ⟨0x2010, 18, 1, .u8, 0, .ob, false, .none, false, .vol, false, 0, none⟩
/-- 0x2100 sub 1, MODE: 0 OFF, 1 LVDS, 2 SE18, 3 SE33 (R105). -/
def pin_MODE : OdRow := ⟨0x2100, 1, 1, .enum8, 0, .ob, false, .en, false, .chart, false, 0, (some (0, 3))⟩
/-- 0x2100 sub 2, POLARITY: 0 active high, 1 active low (R105). -/
def pin_POLARITY : OdRow := ⟨0x2100, 2, 1, .bool, 0, .ob, false, .en, false, .ovl, false, 0, (some (0, 1))⟩
/-- 0x2100 sub 3, IDLE_LEVEL: 0 inactive, 1 active (R105). -/
def pin_IDLE_LEVEL : OdRow := ⟨0x2100, 3, 1, .bool, 0, .ob, false, .en, false, .ovl, false, 0, (some (0, 1))⟩
/-- 0x2100 sub 4, SAFE_LEVEL: 0 INACTIVE, 1 ACTIVE, 2 HOLD, 3 HIGH_Z (R105). -/
def pin_SAFE_LEVEL : OdRow := ⟨0x2100, 4, 1, .enum8, 0, .ob, false, .en, false, .chart, false, 0, (some (0, 3))⟩
/-- 0x2100 sub 5, DRIVE (0–3) (R105). -/
def pin_DRIVE : OdRow := ⟨0x2100, 5, 1, .u8, 0, .ob, false, .en, false, .chart, false, 2, (some (0, 3))⟩
/-- 0x2100 sub 6, SENSE_ENABLE (R105). -/
def pin_SENSE_ENABLE : OdRow := ⟨0x2100, 6, 1, .bool, 0, .ob, false, .en, false, .ovl, false, 1, (some (0, 1))⟩
/-- 0x2100 sub 7, SENSE_LIMIT (0.1–100 ns) (R105). -/
def pin_SENSE_LIMIT : OdRow := ⟨0x2100, 7, 1, .dur, 0, .ob, false, .en, false, .ovl, false, 65536, (some (6554, 6553600))⟩
/-- 0x2100 sub 8, ENABLE: 0 OFF, 1 ON (R105). -/
def pin_ENABLE : OdRow := ⟨0x2100, 8, 1, .enum8, 0, .ob, false, .en, true, .chart, false, 0, (some (0, 1))⟩
/-- 0x2100 sub 9, DISABLE_MODE: 0 DRAIN, 1 CANCEL (R105). -/
def pin_DISABLE_MODE : OdRow := ⟨0x2100, 9, 1, .enum8, 0, .ob, false, .en, false, .ovl, false, 0, (some (0, 1))⟩
/-- 0x2101 sub 1, FACT_BIN (0–3) (R105). -/
def pcl_FACT_BIN : OdRow := ⟨0x2101, 1, 1, .u8, 0, .ob, false, .none, false, .fact, true, 0, (some (0, 3))⟩
/-- 0x2101 sub 2, FACT_RISE, 2^−16 ns (R105). -/
def pcl_FACT_RISE : OdRow := ⟨0x2101, 2, 1, .i32, 0, .ob, false, .none, false, .fact, true, 0, none⟩
/-- 0x2101 sub 3, FACT_FALL, 2^−16 ns (R105). -/
def pcl_FACT_FALL : OdRow := ⟨0x2101, 3, 1, .i32, 0, .ob, false, .none, false, .fact, true, 0, none⟩
/-- 0x2101 sub 4, FACT_TEMP, 0.01 °C (R105). -/
def pcl_FACT_TEMP : OdRow := ⟨0x2101, 4, 1, .i32, 0, .ob, false, .none, false, .fact, true, 0, none⟩
/-- 0x2101 sub 5–8, RISE[0..3], 2^−16 ns (R105). -/
def pcl_RISE : OdRow := ⟨0x2101, 5, 4, .i32, 0, .ob, false, .none, false, .vol, false, 0, none⟩
/-- 0x2101 sub 9–12, FALL[0..3], 2^−16 ns (R105). -/
def pcl_FALL : OdRow := ⟨0x2101, 9, 4, .i32, 0, .ob, false, .none, false, .vol, false, 0, none⟩
/-- 0x2101 sub 13, VALID, bit b for bin b (R105). -/
def pcl_VALID : OdRow := ⟨0x2101, 13, 1, .u8, 0, .ob, false, .none, false, .vol, false, 0, none⟩
/-- 0x2101 sub 14–17, BIN_TEMP[0..3], 0.01 °C (R105). -/
def pcl_BIN_TEMP : OdRow := ⟨0x2101, 14, 4, .i32, 0, .ob, false, .none, false, .vol, false, 0, none⟩
/-- 0x2101 sub 18, DROOP_COEF, 2^−16 ns per V (R105). -/
def pcl_DROOP_COEF : OdRow := ⟨0x2101, 18, 1, .i32, 0, .ob, false, .none, false, .fact, true, 0, none⟩
/-- 0x2101 sub 19, RECAL_ENABLE (R105). -/
def pcl_RECAL_ENABLE : OdRow := ⟨0x2101, 19, 1, .bool, 0, .ob, false, .en, false, .ovl, false, 1, (some (0, 1))⟩
/-- 0x2108 sub 1, LAST_SCHED (R105). -/
def pst_LAST_SCHED : OdRow := ⟨0x2108, 1, 1, .time, 0, .ob, false, .none, false, .vol, false, 0, none⟩
/-- 0x2108 sub 2, LAST_DEV (R105). -/
def pst_LAST_DEV : OdRow := ⟨0x2108, 2, 1, .dur, 0, .ob, false, .none, false, .vol, false, 0, none⟩
/-- 0x2108 sub 3, MAX_ABS_DEV; write 0 to clear (R105). -/
def pst_MAX_ABS_DEV : OdRow := ⟨0x2108, 3, 1, .dur, 0, .ob, false, .en, false, .vol, false, 0, none⟩
/-- 0x2108 sub 4, EDGES (R105). -/
def pst_EDGES : OdRow := ⟨0x2108, 4, 1, .u64, 0, .ob, false, .none, false, .vol, false, 0, none⟩
/-- 0x2108 sub 5, DEVIATIONS (R105). -/
def pst_DEVIATIONS : OdRow := ⟨0x2108, 5, 1, .u32, 0, .ob, false, .none, false, .vol, false, 0, none⟩
/-- 0x2108 sub 6, MISSES (R105). -/
def pst_MISSES : OdRow := ⟨0x2108, 6, 1, .u32, 0, .ob, false, .none, false, .vol, false, 0, none⟩
/-- 0x2108 sub 7, DEFERRALS (R105). -/
def pst_DEFERRALS : OdRow := ⟨0x2108, 7, 1, .u32, 0, .ob, false, .none, false, .vol, false, 0, none⟩
/-- 0x2108 sub 8, CONFLICTS (R105). -/
def pst_CONFLICTS : OdRow := ⟨0x2108, 8, 1, .u32, 0, .ob, false, .none, false, .vol, false, 0, none⟩
/-- 0x2110 sub 1, NET_COMMIT_DELAY (0–20 µs) (R105). -/
def lbr_NET_COMMIT_DELAY : OdRow := ⟨0x2110, 1, 1, .dur, 0, .ob, false, .en, false, .chart, false, 0, (some (0, 1310720000))⟩
/-- 0x2110 sub 2, PENDING (R105). -/
def lbr_PENDING : OdRow := ⟨0x2110, 2, 1, .u32, 0, .ob, false, .none, false, .vol, false, 0, none⟩
/-- 0x2110 sub 3, LATE_SAMPLES (R105). -/
def lbr_LATE_SAMPLES : OdRow := ⟨0x2110, 3, 1, .u32, 0, .ob, false, .none, false, .vol, false, 0, none⟩
/-- 0x2120 sub 1, TIME_HORIZON (0.5–50 µs) (R105). -/
def lch_TIME_HORIZON : OdRow := ⟨0x2120, 1, 1, .dur, 0, .ob, false, .en, false, .ovl, false, 131072000, (some (32768000, 3276800000))⟩
/-- 0x2120 sub 2, OVL_DECIDE (10–1 000 µs) (R105). -/
def lch_OVL_DECIDE : OdRow := ⟨0x2120, 2, 1, .dur, 0, .ob, false, .en, false, .chart, false, 3276800000, (some (655360000, 65536000000))⟩
/-- 0x2120 sub 3, LATE_COUNT (R105). -/
def lch_LATE_COUNT : OdRow := ⟨0x2120, 3, 1, .u32, 0, .ob, false, .none, false, .vol, false, 0, none⟩
/-- 0x2120 sub 4, DROPPED (R105). -/
def lch_DROPPED : OdRow := ⟨0x2120, 4, 1, .u32, 0, .ob, false, .none, false, .vol, false, 0, none⟩
/-- 0x2120 sub 5, HELD (R105). -/
def lch_HELD : OdRow := ⟨0x2120, 5, 1, .u32, 0, .ob, false, .none, false, .vol, false, 0, none⟩
/-- 0x2120 sub 6, RELEASE: handle (R105). -/
def lch_RELEASE : OdRow := ⟨0x2120, 6, 1, .u32, 0, .none, false, .op, false, .vol, false, 0, none⟩
/-- 0x2120 sub 7, CANCEL: handle (R105). -/
def lch_CANCEL : OdRow := ⟨0x2120, 7, 1, .u32, 0, .none, false, .op, false, .vol, false, 0, none⟩
/-- 0x2140 sub 1, TYPE: 0 CMD, 2 DATA (R105). -/
def tpl_TYPE : OdRow := ⟨0x2140, 1, 1, .enum8, 0, .ob, false, .en, false, .chart, false, 0, (some (0, 2))⟩
/-- 0x2140 sub 2, LENGTH (0–240) (R105). -/
def tpl_LENGTH : OdRow := ⟨0x2140, 2, 1, .u16, 0, .ob, false, .en, false, .chart, false, 0, (some (0, 240))⟩
/-- 0x2140 sub 3, ARG_OFFSET; 0xFFFF none, else at most LENGTH − 2 (R105). -/
def tpl_ARG_OFFSET : OdRow := ⟨0x2140, 3, 1, .u16, 0, .ob, false, .en, false, .chart, false, 65535, none⟩
/-- 0x2140 sub 4, STAMPS: bit 0 time, bit 1 Bearing (R105). -/
def tpl_STAMPS : OdRow := ⟨0x2140, 4, 1, .u8, 0, .ob, false, .en, false, .chart, false, 1, none⟩
/-- 0x2140 sub 5, PAYLOAD (R105). -/
def tpl_PAYLOAD : OdRow := ⟨0x2140, 5, 1, .octets, 240, .ob, false, .en, false, .chart, false, 0, none⟩
/-- 0x3000 sub 1, CLASS: 0 DURABLE, 1 STREAM, 2 EVENT (R165). -/
def que_CLASS : OdRow := ⟨0x3000, 1, 1, .enum8, 0, .ob, false, .en, false, .chart, false, 0, (some (0, 2))⟩
/-- 0x3000 sub 2, TARGET: 0 HOST, 1 SESSION, 2 LANE, 3 LAUNCH (R165). -/
def que_TARGET : OdRow := ⟨0x3000, 2, 1, .enum8, 0, .ob, false, .en, false, .chart, false, 0, (some (0, 3))⟩
/-- 0x3000 sub 3, SOURCES (R109) (R165). -/
def que_SOURCES : OdRow := ⟨0x3000, 3, 1, .u8, 0, .ob, false, .en, false, .chart, false, 1, none⟩
/-- 0x3000 sub 4, SESSION (24-bit) (R165). -/
def que_SESSION : OdRow := ⟨0x3000, 4, 1, .u32, 0, .ob, false, .en, false, .chart, false, 0, (some (0, 16777215))⟩
/-- 0x3000 sub 5, LANE, global deckhand number (0–135) (R165). -/
def que_LANE : OdRow := ⟨0x3000, 5, 1, .u16, 0, .ob, false, .en, false, .chart, false, 0, (some (0, 135))⟩
/-- 0x3000 sub 6, CONVOY; 0xFFFF none (R165). -/
def que_CONVOY : OdRow := ⟨0x3000, 6, 1, .u16, 0, .ob, false, .en, false, .chart, false, 65535, none⟩
/-- 0x3000 sub 7, CONFIRM_TIMEOUT (1 µs–60 s) (R165). -/
def que_CONFIRM_TIMEOUT : OdRow := ⟨0x3000, 7, 1, .dur, 0, .ob, false, .en, false, .ovl, false, 655360000000, (some (65536000, 3932160000000000))⟩
/-- 0x3000 sub 8, ENABLE: 0 OFF, 1 ON (R165). -/
def que_ENABLE : OdRow := ⟨0x3000, 8, 1, .enum8, 0, .ob, false, .en, false, .chart, false, 0, (some (0, 1))⟩
/-- 0x3000 sub 9, DISABLE_MODE: 0 DRAIN, 1 CANCEL (R165). -/
def que_DISABLE_MODE : OdRow := ⟨0x3000, 9, 1, .enum8, 0, .ob, false, .en, false, .ovl, false, 0, (some (0, 1))⟩
/-- 0x3001 sub 1, STATE (as QUE_STATE) (R165). -/
def qst_STATE : OdRow := ⟨0x3001, 1, 1, .enum8, 0, .ob, false, .none, false, .vol, false, 0, none⟩
/-- 0x3001 sub 2, IN_FLIGHT (R165). -/
def qst_IN_FLIGHT : OdRow := ⟨0x3001, 2, 1, .u32, 0, .ob, false, .none, false, .vol, false, 0, none⟩
/-- 0x3001 sub 3, NEXT_SEQ (R165). -/
def qst_NEXT_SEQ : OdRow := ⟨0x3001, 3, 1, .u64, 0, .ob, false, .none, false, .vol, false, 0, none⟩
/-- 0x3001 sub 4, ACCEPTED (R165). -/
def qst_ACCEPTED : OdRow := ⟨0x3001, 4, 1, .u64, 0, .ob, false, .none, false, .vol, false, 0, none⟩
/-- 0x3001 sub 5, REFUSED (R165). -/
def qst_REFUSED : OdRow := ⟨0x3001, 5, 1, .u32, 0, .ob, false, .none, false, .vol, false, 0, none⟩
/-- 0x3001 sub 6, FAILED (R165). -/
def qst_FAILED : OdRow := ⟨0x3001, 6, 1, .u32, 0, .ob, false, .none, false, .vol, false, 0, none⟩
/-- 0x3001 sub 7, REPLAYED (R165). -/
def qst_REPLAYED : OdRow := ⟨0x3001, 7, 1, .u32, 0, .ob, false, .none, false, .vol, false, 0, none⟩
/-- 0x3001 sub 8, CANCEL_LATE (R165). -/
def qst_CANCEL_LATE : OdRow := ⟨0x3001, 8, 1, .u32, 0, .ob, false, .none, false, .vol, false, 0, none⟩
/-- 0x3001 sub 9, LATE_CONFIRMS (R165). -/
def qst_LATE_CONFIRMS : OdRow := ⟨0x3001, 9, 1, .u32, 0, .ob, false, .none, false, .vol, false, 0, none⟩
/-- 0x3001 sub 10, DOORBELL_ERRORS (R165). -/
def qst_DOORBELL_ERRORS : OdRow := ⟨0x3001, 10, 1, .u32, 0, .ob, false, .none, false, .vol, false, 0, none⟩
/-- 0x3001 sub 11, GAPS (R165). -/
def qst_GAPS : OdRow := ⟨0x3001, 11, 1, .u32, 0, .ob, false, .none, false, .vol, false, 0, none⟩
/-- 0x3001 sub 12, PIER (R165). -/
def qst_PIER : OdRow := ⟨0x3001, 12, 1, .u8, 0, .ob, false, .none, false, .vol, false, 0, none⟩
/-- 0x3002 sub 1, CANCEL_SEQ: queue sequence (R165). -/
def qac_CANCEL_SEQ : OdRow := ⟨0x3002, 1, 1, .u64, 0, .none, false, .op, false, .vol, false, 0, none⟩
/-- 0x3010 sub 1, MODE: 0 DISPATCH_ORDER, 1 CONFIRM_ORDER (R165). -/
def cvy_MODE : OdRow := ⟨0x3010, 1, 1, .enum8, 0, .ob, false, .en, false, .chart, false, 0, (some (0, 1))⟩
/-- 0x3010 sub 2, NEXT_CSEQ (R165). -/
def cvy_NEXT_CSEQ : OdRow := ⟨0x3010, 2, 1, .u64, 0, .ob, false, .none, false, .vol, false, 0, none⟩
/-- 0x3010 sub 3, MEMBERS (R165). -/
def cvy_MEMBERS : OdRow := ⟨0x3010, 3, 1, .u8, 0, .ob, false, .none, false, .vol, false, 0, none⟩
/-- 0x3400 sub 1, ITEMS (R165). -/
def man_ITEMS : OdRow := ⟨0x3400, 1, 1, .u32, 0, .ob, false, .none, false, .vol, false, 0, none⟩
/-- 0x3400 sub 2, CELLS_FREE (R165). -/
def man_CELLS_FREE : OdRow := ⟨0x3400, 2, 1, .u32, 0, .ob, false, .none, false, .vol, false, 131072, none⟩
/-- 0x3400 sub 3, AREA_A: 0 ERASED, 1 ERASING, 2 HALF_ERASED, 3 VALID, 4 STALE (R165). -/
def man_AREA_A : OdRow := ⟨0x3400, 3, 1, .enum8, 0, .ob, false, .none, false, .vol, false, 0, (some (0, 4))⟩
/-- 0x3400 sub 4, AREA_B (as AREA_A) (R165). -/
def man_AREA_B : OdRow := ⟨0x3400, 4, 1, .enum8, 0, .ob, false, .none, false, .vol, false, 0, none⟩
/-- 0x3400 sub 5, LAST_SAVE_BLOCKS (R165). -/
def man_LAST_SAVE_BLOCKS : OdRow := ⟨0x3400, 5, 1, .u32, 0, .ob, false, .none, false, .vol, false, 0, none⟩
/-- 0x3400 sub 6, LAST_SAVE_TIME (R165). -/
def man_LAST_SAVE_TIME : OdRow := ⟨0x3400, 6, 1, .dur, 0, .ob, false, .none, false, .vol, false, 0, none⟩
/-- 0x3400 sub 7, SAVE_COUNT (R165). -/
def man_SAVE_COUNT : OdRow := ⟨0x3400, 7, 1, .u32, 0, .ob, false, .none, false, .vol, false, 0, none⟩
/-- 0x3400 sub 8, REPL_RTT (R165). -/
def man_REPL_RTT : OdRow := ⟨0x3400, 8, 1, .dur, 0, .ob, false, .none, false, .vol, false, 0, none⟩
/-- 0x3400 sub 9, REPL_RTT_LIMIT (0.2–100 µs) (R165). -/
def man_REPL_RTT_LIMIT : OdRow := ⟨0x3400, 9, 1, .dur, 0, .ob, false, .en, false, .chart, false, 327680000, (some (13107200, 6553600000))⟩
/-- 0x3400 sub 10, RECORDS_RECOVERED (R165). -/
def man_RECORDS_RECOVERED : OdRow := ⟨0x3400, 10, 1, .u32, 0, .ob, false, .none, false, .vol, false, 0, none⟩
/-- 0x3400 sub 11, MANIFEST_LOST_COUNT (R165). -/
def man_MANIFEST_LOST_COUNT : OdRow := ⟨0x3400, 11, 1, .u32, 0, .ob, false, .none, false, .vol, false, 0, none⟩
/-- 0x3400 sub 12, SHUTDOWN: write 1 to save (R146) (R165). -/
def man_SHUTDOWN : OdRow := ⟨0x3400, 12, 1, .enum8, 0, .none, false, .en, true, .vol, false, 0, (some (1, 1))⟩
/-- 0x4000 sub 1, MODE (R166) (R208). -/
def prt_MODE : OdRow := ⟨0x4000, 1, 1, .enum8, 0, .ob, false, .en, false, .chart, false, 0, (some (0, 7))⟩
/-- 0x4000 sub 2, MAC_ADDR (R208). -/
def prt_MAC_ADDR : OdRow := ⟨0x4000, 2, 1, .octets, 6, .ob, false, .en, false, .chart, true, 0, none⟩
/-- 0x4000 sub 3, VLAN (0–4 094; 0 untagged) (R208). -/
def prt_VLAN : OdRow := ⟨0x4000, 3, 1, .u16, 0, .ob, false, .en, false, .chart, false, 0, (some (0, 4094))⟩
/-- 0x4000 sub 4, PRIORITY (0–7) (R208). -/
def prt_PRIORITY : OdRow := ⟨0x4000, 4, 1, .u8, 0, .ob, false, .en, false, .ovl, false, 6, (some (0, 7))⟩
/-- 0x4000 sub 5, ENCAP: 0 ETHERTYPE, 1 UDP_IPV4, 2 UDP_IPV6 (R208). -/
def prt_ENCAP : OdRow := ⟨0x4000, 5, 1, .enum8, 0, .ob, false, .en, false, .chart, false, 0, (some (0, 2))⟩
/-- 0x4000 sub 6, ETHERTYPE (R208). -/
def prt_ETHERTYPE : OdRow := ⟨0x4000, 6, 1, .u16, 0, .ob, false, .en, false, .chart, false, 34997, none⟩
/-- 0x4000 sub 7, UDP_PORT (R208). -/
def prt_UDP_PORT : OdRow := ⟨0x4000, 7, 1, .u16, 0, .ob, false, .en, false, .chart, false, 46000, none⟩
/-- 0x4000 sub 8, IPV4_ADDR (R208). -/
def prt_IPV4_ADDR : OdRow := ⟨0x4000, 8, 1, .u32, 0, .ob, false, .en, false, .chart, false, 0, none⟩
/-- 0x4000 sub 9, IPV6_ADDR (R208). -/
def prt_IPV6_ADDR : OdRow := ⟨0x4000, 9, 1, .octets, 16, .ob, false, .en, false, .chart, false, 0, none⟩
/-- 0x4000 sub 10, MTU (576–9 216) (R208). -/
def prt_MTU : OdRow := ⟨0x4000, 10, 1, .u16, 0, .ob, false, .en, false, .chart, false, 1500, (some (576, 9216))⟩
/-- 0x4000 sub 11, FLOW: 0 NONE, 1 PAUSE, 2 PFC (R208). -/
def prt_FLOW : OdRow := ⟨0x4000, 11, 1, .enum8, 0, .ob, false, .en, false, .chart, false, 0, (some (0, 2))⟩
/-- 0x4000 sub 12, PFC_PRIORITIES (R208). -/
def prt_PFC_PRIORITIES : OdRow := ⟨0x4000, 12, 1, .u8, 0, .ob, false, .en, false, .chart, false, 0, none⟩
/-- 0x4000 sub 13, GROUP: 0 A, 1 B (R208). -/
def prt_GROUP : OdRow := ⟨0x4000, 13, 1, .enum8, 0, .ob, false, .en, false, .chart, false, 0, (some (0, 1))⟩
/-- 0x4000 sub 14, ENABLE: 0 OFF, 1 ON (R208). -/
def prt_ENABLE : OdRow := ⟨0x4000, 14, 1, .enum8, 0, .ob, false, .en, true, .chart, false, 0, (some (0, 1))⟩
/-- 0x4000 sub 15, DISABLE_MODE: 0 DRAIN, 1 CANCEL (R208). -/
def prt_DISABLE_MODE : OdRow := ⟨0x4000, 15, 1, .enum8, 0, .ob, false, .en, false, .ovl, false, 0, (some (0, 1))⟩
/-- 0x4000 sub 16, LINK: 0 DOWN, 1 UP (R208). -/
def prt_LINK : OdRow := ⟨0x4000, 16, 1, .enum8, 0, .ob, false, .none, false, .vol, false, 0, (some (0, 1))⟩
/-- 0x4000 sub 17, RX_FRAMES (R208). -/
def prt_RX_FRAMES : OdRow := ⟨0x4000, 17, 1, .u64, 0, .ob, false, .none, false, .vol, false, 0, none⟩
/-- 0x4000 sub 18, TX_FRAMES (R208). -/
def prt_TX_FRAMES : OdRow := ⟨0x4000, 18, 1, .u64, 0, .ob, false, .none, false, .vol, false, 0, none⟩
/-- 0x4000 sub 19, CRC_ERRORS (merging source) (R208). -/
def prt_CRC_ERRORS : OdRow := ⟨0x4000, 19, 1, .u32, 0, .ob, false, .none, false, .vol, false, 0, none⟩
/-- 0x4000 sub 20, TAG_FAILS (R208). -/
def prt_TAG_FAILS : OdRow := ⟨0x4000, 20, 1, .u32, 0, .ob, false, .none, false, .vol, false, 0, none⟩
/-- 0x4000 sub 21, FORMAT_DROPS (R208). -/
def prt_FORMAT_DROPS : OdRow := ⟨0x4000, 21, 1, .u32, 0, .ob, false, .none, false, .vol, false, 0, none⟩
/-- 0x4000 sub 22, UNKNOWN_SESSION (R208). -/
def prt_UNKNOWN_SESSION : OdRow := ⟨0x4000, 22, 1, .u32, 0, .ob, false, .none, false, .vol, false, 0, none⟩
/-- 0x4010 sub 1, PROFILE (R169) (R208). -/
def tim_PROFILE : OdRow := ⟨0x4010, 1, 1, .enum8, 0, .ob, false, .en, false, .chart, false, 0, (some (0, 4))⟩
/-- 0x4010 sub 2, DOMAIN_NUMBER (R208). -/
def tim_DOMAIN_NUMBER : OdRow := ⟨0x4010, 2, 1, .u8, 0, .ob, false, .en, false, .chart, false, 0, none⟩
/-- 0x4010 sub 3, TIME_PORTS, bit p for port p (R208). -/
def tim_TIME_PORTS : OdRow := ⟨0x4010, 3, 1, .u32, 0, .ob, false, .en, false, .chart, false, 0, none⟩
/-- 0x4010 sub 4, STEP_MODE: 0 ONE_STEP, 1 TWO_STEP (R208). -/
def tim_STEP_MODE : OdRow := ⟨0x4010, 4, 1, .enum8, 0, .ob, false, .en, false, .chart, false, 0, (some (0, 1))⟩
/-- 0x4010 sub 5, PRIORITY1 (R208). -/
def tim_PRIORITY1 : OdRow := ⟨0x4010, 5, 1, .u8, 0, .ob, false, .en, false, .chart, false, 255, none⟩
/-- 0x4010 sub 6, PRIORITY2 (R208). -/
def tim_PRIORITY2 : OdRow := ⟨0x4010, 6, 1, .u8, 0, .ob, false, .en, false, .chart, false, 255, none⟩
/-- 0x4010 sub 7, LOCK_THRESHOLD (1–1 000 ns) (R208). -/
def tim_LOCK_THRESHOLD : OdRow := ⟨0x4010, 7, 1, .dur, 0, .ob, false, .en, false, .chart, false, 1310720, (some (65536, 65536000))⟩
/-- 0x4010 sub 8, LOCK_COUNT (1–255) (R208). -/
def tim_LOCK_COUNT : OdRow := ⟨0x4010, 8, 1, .u8, 0, .ob, false, .en, false, .chart, false, 16, (some (1, 255))⟩
/-- 0x4010 sub 9, REF_SOURCE: 0 NONE, 1 PPS_IN, 2 REF10M_IN, 3 BOTH (R208). -/
def tim_REF_SOURCE : OdRow := ⟨0x4010, 9, 1, .enum8, 0, .ob, false, .en, false, .chart, false, 0, (some (0, 3))⟩
/-- 0x4010 sub 10, HOLDOVER_RATE, per second (R208). -/
def tim_HOLDOVER_RATE : OdRow := ⟨0x4010, 10, 1, .dur, 0, .ob, false, .en, false, .chart, false, 3276800, none⟩
/-- 0x4010 sub 11, HOLDOVER_LIMIT (1–3 600 s) (R208). -/
def tim_HOLDOVER_LIMIT : OdRow := ⟨0x4010, 11, 1, .dur, 0, .ob, false, .en, false, .chart, false, 3932160000000000, (some (65536000000000, 235929600000000000))⟩
/-- 0x4010 sub 12, PPS_OUT_ENABLE (R208). -/
def tim_PPS_OUT_ENABLE : OdRow := ⟨0x4010, 12, 1, .bool, 0, .ob, false, .en, false, .chart, false, 0, (some (0, 1))⟩
/-- 0x4010 sub 16, TIME_STATE (R170): 0 FREE, 1 ACQUIRING, 2 LOCKED, 3 HOLDOVER, 4 GRANDMASTER (R208). -/
def tim_TIME_STATE : OdRow := ⟨0x4010, 16, 1, .enum8, 0, .ob, false, .none, false, .vol, false, 0, (some (0, 4))⟩
/-- 0x4010 sub 17, OFFSET (R208). -/
def tim_OFFSET : OdRow := ⟨0x4010, 17, 1, .dur, 0, .ob, false, .none, false, .vol, false, 0, none⟩
/-- 0x4010 sub 18, TIME_UNC (R171) (R208). -/
def tim_TIME_UNC : OdRow := ⟨0x4010, 18, 1, .dur, 0, .ob, false, .none, false, .vol, false, 9223372036854775807, none⟩
/-- 0x4010 sub 19, GM_IDENTITY (R208). -/
def tim_GM_IDENTITY : OdRow := ⟨0x4010, 19, 1, .octets, 8, .ob, false, .none, false, .vol, false, 0, none⟩
/-- 0x4010 sub 20, STEPS_REMOVED (R208). -/
def tim_STEPS_REMOVED : OdRow := ⟨0x4010, 20, 1, .u16, 0, .ob, false, .none, false, .vol, false, 0, none⟩
/-- 0x4010 sub 21, MEAN_PATH_DELAY (R208). -/
def tim_MEAN_PATH_DELAY : OdRow := ⟨0x4010, 21, 1, .dur, 0, .ob, false, .none, false, .vol, false, 0, none⟩
/-- 0x4100 sub 1, SESSION_ID (24-bit) (R209). -/
def ses_SESSION_ID : OdRow := ⟨0x4100, 1, 1, .u32, 0, .ob, false, .en, false, .chart, false, 0, (some (0, 16777215))⟩
/-- 0x4100 sub 2, INITIATE (R209). -/
def ses_INITIATE : OdRow := ⟨0x4100, 2, 1, .bool, 0, .ob, false, .en, false, .chart, false, 1, (some (0, 1))⟩
/-- 0x4100 sub 3, PORT (0–31) (R209). -/
def ses_PORT : OdRow := ⟨0x4100, 3, 1, .u8, 0, .ob, false, .en, false, .chart, false, 0, (some (0, 31))⟩
/-- 0x4100 sub 4, PORT_ALT; 0xFF none (R209). -/
def ses_PORT_ALT : OdRow := ⟨0x4100, 4, 1, .u8, 0, .ob, false, .en, false, .chart, false, 255, none⟩
/-- 0x4100 sub 5, PEER_MAC (R209). -/
def ses_PEER_MAC : OdRow := ⟨0x4100, 5, 1, .octets, 6, .ob, false, .en, false, .chart, false, 0, none⟩
/-- 0x4100 sub 6, PEER_IP, IPv4 in bytes 12–15 (R209). -/
def ses_PEER_IP : OdRow := ⟨0x4100, 6, 1, .octets, 16, .ob, false, .en, false, .chart, false, 0, none⟩
/-- 0x4100 sub 7, CURVE: 1 P-256, 2 P-384 (R209). -/
def ses_CURVE : OdRow := ⟨0x4100, 7, 1, .enum8, 0, .ob, false, .en, false, .chart, false, 1, (some (1, 2))⟩
/-- 0x4100 sub 8, PEER_CERT_HASH, SHA-256 of the leaf (R209). -/
def ses_PEER_CERT_HASH : OdRow := ⟨0x4100, 8, 1, .octets, 32, .ob, false, .en, false, .chart, false, 0, none⟩
/-- 0x4100 sub 9, LEGACY (R209). -/
def ses_LEGACY : OdRow := ⟨0x4100, 9, 1, .bool, 0, .ob, false, .en, false, .chart, false, 0, (some (0, 1))⟩
/-- 0x4100 sub 10, LEGACY_KEY (R209). -/
def ses_LEGACY_KEY : OdRow := ⟨0x4100, 10, 1, .keyh, 0, .ob, false, .so, false, .chart, false, 0, none⟩
/-- 0x4100 sub 11, COMPAT (R209). -/
def ses_COMPAT : OdRow := ⟨0x4100, 11, 1, .bool, 0, .ob, false, .en, false, .chart, false, 0, (some (0, 1))⟩
/-- 0x4100 sub 12, USAGE_LIMIT (R209). -/
def ses_USAGE_LIMIT : OdRow := ⟨0x4100, 12, 1, .u32, 0, .ob, false, .en, false, .chart, false, 4294967295, none⟩
/-- 0x4100 sub 13, ROLE: 0 GENERAL, 1 LAUNCH_ONLY, 2 STREAM_SOURCE (R209). -/
def ses_ROLE : OdRow := ⟨0x4100, 13, 1, .enum8, 0, .ob, false, .en, false, .chart, false, 0, (some (0, 2))⟩
/-- 0x4100 sub 14, PIER; 0xFF automatic (R209). -/
def ses_PIER : OdRow := ⟨0x4100, 14, 1, .u8, 0, .ob, false, .en, false, .chart, false, 255, none⟩
/-- 0x4100 sub 15, HB_PERIOD (100 µs–1 s) (R209). -/
def ses_HB_PERIOD : OdRow := ⟨0x4100, 15, 1, .dur, 0, .ob, false, .en, false, .ovl, false, 65536000000, (some (6553600000, 65536000000000))⟩
/-- 0x4100 sub 16, HB_TIMEOUT (3–100 × HB_PERIOD) (R209). -/
def ses_HB_TIMEOUT : OdRow := ⟨0x4100, 16, 1, .dur, 0, .ob, false, .en, false, .ovl, false, 327680000000, none⟩
/-- 0x4100 sub 17, RETX_TIME (5 µs–10 ms) (R209). -/
def ses_RETX_TIME : OdRow := ⟨0x4100, 17, 1, .dur, 0, .ob, false, .en, false, .ovl, false, 3276800000, (some (327680000, 655360000000))⟩
/-- 0x4100 sub 18, RETX_MAX (RETX_TIME–1 s) (R209). -/
def ses_RETX_MAX : OdRow := ⟨0x4100, 18, 1, .dur, 0, .ob, false, .en, false, .ovl, false, 327680000000, none⟩
/-- 0x4100 sub 19, BUSY_LIMIT (1–65 535) (R209). -/
def ses_BUSY_LIMIT : OdRow := ⟨0x4100, 19, 1, .u16, 0, .ob, false, .en, false, .ovl, false, 1000, (some (1, 65535))⟩
/-- 0x4100 sub 20, KEY_OVERLAP (1–100 ms) (R209). -/
def ses_KEY_OVERLAP : OdRow := ⟨0x4100, 20, 1, .dur, 0, .ob, false, .en, false, .chart, false, 655360000000, (some (65536000000, 6553600000000))⟩
/-- 0x4100 sub 21, REKEY_AUTO (R209). -/
def ses_REKEY_AUTO : OdRow := ⟨0x4100, 21, 1, .bool, 0, .ob, false, .en, false, .chart, false, 1, (some (0, 1))⟩
/-- 0x4100 sub 22, RESUME_LIFETIME, seconds (3 600–31 536 000; 1 h–365 d) (R209). -/
def ses_RESUME_LIFETIME : OdRow := ⟨0x4100, 22, 1, .u32, 0, .ob, false, .en, false, .chart, false, 2592000, (some (3600, 31536000))⟩
/-- 0x4100 sub 23, SAFE_ENABLE (R209). -/
def ses_SAFE_ENABLE : OdRow := ⟨0x4100, 23, 1, .bool, 0, .ob, false, .en, false, .chart, false, 1, (some (0, 1))⟩
/-- 0x4100 sub 24, SAFE_PAYLOAD, length in byte 0 (R209). -/
def ses_SAFE_PAYLOAD : OdRow := ⟨0x4100, 24, 1, .octets, 65, .ob, false, .en, false, .chart, false, 0, none⟩
/-- 0x4100 sub 25, SAFE_REPEAT (1–16) (R209). -/
def ses_SAFE_REPEAT : OdRow := ⟨0x4100, 25, 1, .u8, 0, .ob, false, .en, false, .chart, false, 3, (some (1, 16))⟩
/-- 0x4100 sub 26, ENABLE: 0 OFF, 1 ON (R209). -/
def ses_ENABLE : OdRow := ⟨0x4100, 26, 1, .enum8, 0, .ob, false, .en, true, .chart, false, 0, (some (0, 1))⟩
/-- 0x4100 sub 27, DISABLE_MODE: 0 DRAIN, 1 CANCEL (R209). -/
def ses_DISABLE_MODE : OdRow := ⟨0x4100, 27, 1, .enum8, 0, .ob, false, .en, false, .ovl, false, 0, (some (0, 1))⟩
/-- 0x4101 sub 1, STATE (R173) (R209). -/
def sst_STATE : OdRow := ⟨0x4101, 1, 1, .enum8, 0, .ob, false, .none, false, .vol, false, 0, none⟩
/-- 0x4101 sub 2, CLAIM, current (R209). -/
def sst_CLAIM : OdRow := ⟨0x4101, 2, 1, .u32, 0, .ob, false, .none, false, .vol, false, 0, none⟩
/-- 0x4101 sub 3, TX_COUNTER (R209). -/
def sst_TX_COUNTER : OdRow := ⟨0x4101, 3, 1, .u64, 0, .ob, false, .none, false, .vol, false, 0, none⟩
/-- 0x4101 sub 4, RX_HIGH (R209). -/
def sst_RX_HIGH : OdRow := ⟨0x4101, 4, 1, .u64, 0, .ob, false, .none, false, .vol, false, 0, none⟩
/-- 0x4101 sub 5, RX_FLOOR (R209). -/
def sst_RX_FLOOR : OdRow := ⟨0x4101, 5, 1, .u64, 0, .ob, false, .none, false, .vol, false, 0, none⟩
/-- 0x4101 sub 6, KEY_GENERATION (R209). -/
def sst_KEY_GENERATION : OdRow := ⟨0x4101, 6, 1, .u32, 0, .ob, false, .none, false, .vol, false, 0, none⟩
/-- 0x4101 sub 7, KEY_USES, compatibility mode (R209). -/
def sst_KEY_USES : OdRow := ⟨0x4101, 7, 1, .u32, 0, .ob, false, .none, false, .vol, false, 0, none⟩
/-- 0x4101 sub 8, SAFE_COUNT (R209). -/
def sst_SAFE_COUNT : OdRow := ⟨0x4101, 8, 1, .u64, 0, .ob, false, .none, false, .vol, false, 0, none⟩
/-- 0x4101 sub 9, DUPLICATES (R209). -/
def sst_DUPLICATES : OdRow := ⟨0x4101, 9, 1, .u32, 0, .ob, false, .none, false, .vol, false, 0, none⟩
/-- 0x4101 sub 10, STALE (R209). -/
def sst_STALE : OdRow := ⟨0x4101, 10, 1, .u32, 0, .ob, false, .none, false, .vol, false, 0, none⟩
/-- 0x4101 sub 11, CLAIM_REJECTS sent (R209). -/
def sst_CLAIM_REJECTS : OdRow := ⟨0x4101, 11, 1, .u32, 0, .ob, false, .none, false, .vol, false, 0, none⟩
/-- 0x4101 sub 12, IN_DOUBT sent (R209). -/
def sst_IN_DOUBT : OdRow := ⟨0x4101, 12, 1, .u32, 0, .ob, false, .none, false, .vol, false, 0, none⟩
/-- 0x4101 sub 13, RETRANSMISSIONS (R209). -/
def sst_RETRANSMISSIONS : OdRow := ⟨0x4101, 13, 1, .u32, 0, .ob, false, .none, false, .vol, false, 0, none⟩
/-- 0x4101 sub 14, HOME_PIER (R209). -/
def sst_HOME_PIER : OdRow := ⟨0x4101, 14, 1, .u8, 0, .ob, false, .none, false, .vol, false, 0, none⟩
/-- 0x4101 sub 15, LAST_REFUSE, reason of R175 (R209). -/
def sst_LAST_REFUSE : OdRow := ⟨0x4101, 15, 1, .enum8, 0, .ob, false, .none, false, .vol, false, 0, none⟩
/-- 0x4102 sub 1, REKEY: write 1 to start a key update (R209). -/
def sac_REKEY : OdRow := ⟨0x4102, 1, 1, .enum8, 0, .none, false, .en, false, .vol, false, 0, (some (1, 1))⟩
/-- 0x4102 sub 2, SAFE_SEND: write 1 to send the SAFE frame (R209). -/
def sac_SAFE_SEND : OdRow := ⟨0x4102, 2, 1, .enum8, 0, .none, false, .op, true, .vol, false, 0, (some (1, 1))⟩
/-- 0x4102 sub 3, REOPEN: 1 RESUME, 2 FRESH (R209). -/
def sac_REOPEN : OdRow := ⟨0x4102, 3, 1, .enum8, 0, .none, false, .en, true, .vol, false, 0, (some (1, 2))⟩
/-- 0x4110 sub 1, SRC_SESSION (24-bit) (R210). -/
def str_SRC_SESSION : OdRow := ⟨0x4110, 1, 1, .u32, 0, .ob, false, .en, false, .chart, false, 0, (some (0, 16777215))⟩
/-- 0x4110 sub 2, STAMP_AT: 0 ARRIVAL, 1 SOURCE (R210). -/
def str_STAMP_AT : OdRow := ⟨0x4110, 2, 1, .enum8, 0, .ob, false, .en, false, .chart, false, 0, (some (0, 1))⟩
/-- 0x4110 sub 3, BEARING_A; 0xFF none (R210). -/
def str_BEARING_A : OdRow := ⟨0x4110, 3, 1, .u8, 0, .ob, false, .en, false, .chart, false, 255, none⟩
/-- 0x4110 sub 4, BEARING_B; 0xFF none (R210). -/
def str_BEARING_B : OdRow := ⟨0x4110, 4, 1, .u8, 0, .ob, false, .en, false, .chart, false, 255, none⟩
/-- 0x4110 sub 5, EPOCH_TIME (1 ms–1 s) (R210). -/
def str_EPOCH_TIME : OdRow := ⟨0x4110, 5, 1, .dur, 0, .ob, false, .en, false, .chart, false, 6553600000000, (some (65536000000, 65536000000000))⟩
/-- 0x4110 sub 6, EPOCH_RECORDS (1–65 535) (R210). -/
def str_EPOCH_RECORDS : OdRow := ⟨0x4110, 6, 1, .u16, 0, .ob, false, .en, false, .chart, false, 65535, (some (1, 65535))⟩
/-- 0x4110 sub 7, REORDER_TIME (1–1 000 µs) (R210). -/
def str_REORDER_TIME : OdRow := ⟨0x4110, 7, 1, .dur, 0, .ob, false, .en, false, .chart, false, 1310720000, (some (65536000, 65536000000))⟩
/-- 0x4110 sub 8, QUEUE, STREAM class; 0xFFFF none (R210). -/
def str_QUEUE : OdRow := ⟨0x4110, 8, 1, .u16, 0, .ob, false, .en, false, .chart, false, 65535, none⟩
/-- 0x4110 sub 9, FWD_SESSION; 0 none (R210). -/
def str_FWD_SESSION : OdRow := ⟨0x4110, 9, 1, .u32, 0, .ob, false, .en, false, .chart, false, 0, none⟩
/-- 0x4110 sub 10, SIGN_KEY (R210). -/
def str_SIGN_KEY : OdRow := ⟨0x4110, 10, 1, .keyh, 0, .ob, false, .so, false, .chart, false, 0, none⟩
/-- 0x4110 sub 11, RECORD_BASE, PCIe address (R210). -/
def str_RECORD_BASE : OdRow := ⟨0x4110, 11, 1, .u64, 0, .ob, false, .en, false, .chart, false, 0, none⟩
/-- 0x4110 sub 12, RECORD_SLOT (256–16 384 bytes) (R210). -/
def str_RECORD_SLOT : OdRow := ⟨0x4110, 12, 1, .u16, 0, .ob, false, .en, false, .chart, false, 16384, (some (256, 16384))⟩
/-- 0x4110 sub 13, RECORD_SLOTS (2^k, k = 4–16) (R210). -/
def str_RECORD_SLOTS : OdRow := ⟨0x4110, 13, 1, .u32, 0, .ob, false, .en, false, .chart, false, 1024, (some (16, 65536))⟩
/-- 0x4110 sub 14, SEAL_BASE, PCIe address (R210). -/
def str_SEAL_BASE : OdRow := ⟨0x4110, 14, 1, .u64, 0, .ob, false, .en, false, .chart, false, 0, none⟩
/-- 0x4110 sub 15, SEAL_SLOTS (2^k, k = 2–12) (R210). -/
def str_SEAL_SLOTS : OdRow := ⟨0x4110, 15, 1, .u16, 0, .ob, false, .en, false, .chart, false, 64, (some (4, 4096))⟩
/-- 0x4110 sub 16, ENABLE: 0 OFF, 1 ON (R210). -/
def str_ENABLE : OdRow := ⟨0x4110, 16, 1, .enum8, 0, .ob, false, .en, true, .chart, false, 0, (some (0, 1))⟩
/-- 0x4110 sub 17, SIGN_BUDGET (chip-wide; instance 0 only) (R210). -/
def str_SIGN_BUDGET : OdRow := ⟨0x4110, 17, 1, .u32, 0, .ob, false, .so, false, .chart, false, 16000, none⟩
/-- 0x4110 sub 18, CERT_SLOTS (2^k, k = 0–6) (R210). -/
def str_CERT_SLOTS : OdRow := ⟨0x4110, 18, 1, .u8, 0, .ob, false, .en, false, .chart, false, 4, (some (1, 64))⟩
/-- 0x4111 sub 1, RECORDS (R210). -/
def ssr_RECORDS : OdRow := ⟨0x4111, 1, 1, .u64, 0, .ob, false, .none, false, .vol, false, 0, none⟩
/-- 0x4111 sub 2, MISSING (R210). -/
def ssr_MISSING : OdRow := ⟨0x4111, 2, 1, .u64, 0, .ob, false, .none, false, .vol, false, 0, none⟩
/-- 0x4111 sub 3, LATE_RECORDS (R210). -/
def ssr_LATE_RECORDS : OdRow := ⟨0x4111, 3, 1, .u32, 0, .ob, false, .none, false, .vol, false, 0, none⟩
/-- 0x4111 sub 4, EPOCH, current (R210). -/
def ssr_EPOCH : OdRow := ⟨0x4111, 4, 1, .u64, 0, .ob, false, .none, false, .vol, false, 0, none⟩
/-- 0x4111 sub 5, CHAIN, last signed (R210). -/
def ssr_CHAIN : OdRow := ⟨0x4111, 5, 1, .octets, 32, .ob, false, .none, false, .vol, false, 0, none⟩
/-- 0x4111 sub 6, SIGN_WAITING (R210). -/
def ssr_SIGN_WAITING : OdRow := ⟨0x4111, 6, 1, .u16, 0, .ob, false, .none, false, .vol, false, 0, none⟩
/-- 0x4111 sub 7, CERT_COUNT, next certificate number (R207) (R210). -/
def ssr_CERT_COUNT : OdRow := ⟨0x4111, 7, 1, .u64, 0, .ob, false, .none, false, .vol, false, 0, none⟩
/-- 0x4112 sub 1, CERT_REQUEST: selector (1), zero (7), FROM (8), TO (8), reference (32) (R210). -/
def crt_CERT_REQUEST : OdRow := ⟨0x4112, 1, 1, .octets, 56, .none, false, .op, false, .vol, false, 0, none⟩
/-- 0x4112 sub 2, CERT_STATE: 0 IDLE, 1 WAITING, 2 SIGNING, 3 DONE, 4 REFUSED (R210). -/
def crt_CERT_STATE : OdRow := ⟨0x4112, 2, 1, .enum8, 0, .ob, false, .none, false, .vol, false, 0, (some (0, 4))⟩
/-- 0x4112 sub 3, CERT_LAST (R210). -/
def crt_CERT_LAST : OdRow := ⟨0x4112, 3, 1, .octets, 17284, .ob, false, .none, false, .vol, false, 0, none⟩
/-- 0x4200 sub 1, ENABLE: 0 OFF, 1 ON (R254). -/
def fry_ENABLE : OdRow := ⟨0x4200, 1, 1, .enum8, 0, .ob, false, .en, false, .chart, false, 0, (some (0, 1))⟩
/-- 0x4200 sub 2, TX_PRESET (0–15) (R254). -/
def fry_TX_PRESET : OdRow := ⟨0x4200, 2, 1, .u8, 0, .ob, false, .en, false, .chart, false, 8, (some (0, 15))⟩
/-- 0x4200 sub 3, ASYMMETRY (−500 to +500 ps) (R254). -/
def fry_ASYMMETRY : OdRow := ⟨0x4200, 3, 1, .dur, 0, .ob, false, .en, false, .chart, false, 0, (some ((-32768), 32768))⟩
/-- 0x4200 sub 4, STATE (as FRY_PORT_STATUS) (R254). -/
def fry_STATE : OdRow := ⟨0x4200, 4, 1, .enum8, 0, .ob, false, .none, false, .vol, false, 0, none⟩
/-- 0x4200 sub 5, WIDTH (0, 1, 2, 4) (R254). -/
def fry_WIDTH : OdRow := ⟨0x4200, 5, 1, .u8, 0, .ob, false, .none, false, .vol, false, 0, none⟩
/-- 0x4200 sub 6, RETRIES (merging source) (R254). -/
def fry_RETRIES : OdRow := ⟨0x4200, 6, 1, .u32, 0, .ob, false, .none, false, .vol, false, 0, none⟩
/-- 0x4200 sub 7, TRAININGS (R254). -/
def fry_TRAININGS : OdRow := ⟨0x4200, 7, 1, .u32, 0, .ob, false, .none, false, .vol, false, 0, none⟩
/-- 0x4200 sub 8, ROUND_TRIP (R254). -/
def fry_ROUND_TRIP : OdRow := ⟨0x4200, 8, 1, .dur, 0, .ob, false, .none, false, .vol, false, 0, none⟩
/-- 0x4201 sub 1, TOPOLOGY (R220) (R254). -/
def flo_TOPOLOGY : OdRow := ⟨0x4201, 1, 1, .enum8, 0, .ob, false, .en, false, .chart, false, 0, (some (0, 3))⟩
/-- 0x4201 sub 2, MEMBERS, bit i for ID i (R254). -/
def flo_MEMBERS : OdRow := ⟨0x4201, 2, 1, .u8, 0, .ob, false, .en, false, .chart, false, 0, none⟩
/-- 0x4201 sub 3–10, MEMBER_UNIT_ID[0..7] (R254). -/
def flo_MEMBER_UNIT_ID : OdRow := ⟨0x4201, 3, 8, .octets, 16, .ob, false, .so, false, .chart, false, 0, none⟩
/-- 0x4201 sub 11, OWN_ID (R254). -/
def flo_OWN_ID : OdRow := ⟨0x4201, 11, 1, .u8, 0, .ob, false, .none, false, .vol, false, 0, none⟩
/-- 0x4201 sub 12, MASTER_ID (R254). -/
def flo_MASTER_ID : OdRow := ⟨0x4201, 12, 1, .u8, 0, .ob, false, .none, false, .vol, false, 0, none⟩
/-- 0x4201 sub 13, ALIGN_STATE: 0 UNALIGNED, 1 ALIGNING, 2 ALIGNED (R254). -/
def flo_ALIGN_STATE : OdRow := ⟨0x4201, 13, 1, .enum8, 0, .ob, false, .none, false, .vol, false, 0, (some (0, 2))⟩
/-- 0x4201 sub 14, ALIGN_OFFSET (R254). -/
def flo_ALIGN_OFFSET : OdRow := ⟨0x4201, 14, 1, .dur, 0, .ob, false, .none, false, .vol, false, 0, none⟩
/-- 0x4201 sub 15, ALIGN_UNC (R254). -/
def flo_ALIGN_UNC : OdRow := ⟨0x4201, 15, 1, .dur, 0, .ob, false, .none, false, .vol, false, 0, none⟩
/-- 0x4201 sub 16, HOPS_TO_MASTER (R254). -/
def flo_HOPS_TO_MASTER : OdRow := ⟨0x4201, 16, 1, .u8, 0, .ob, false, .none, false, .vol, false, 0, none⟩
/-- 0x4300 sub 1, TWIN_MODE: 0 NONE, 1 BOARD, 2 NETWORK (R255). -/
def twn_TWIN_MODE : OdRow := ⟨0x4300, 1, 1, .enum8, 0, .ob, false, .en, false, .chart, false, 0, (some (0, 2))⟩
/-- 0x4300 sub 2, TWIN_UNIT (0–1; NETWORK only) (R255). -/
def twn_TWIN_UNIT : OdRow := ⟨0x4300, 2, 1, .u8, 0, .ob, false, .en, false, .chart, false, 0, (some (0, 1))⟩
/-- 0x4300 sub 3, TWIN_SESSION_A (24-bit) (R255). -/
def twn_TWIN_SESSION_A : OdRow := ⟨0x4300, 3, 1, .u32, 0, .ob, false, .en, false, .chart, false, 0, (some (0, 16777215))⟩
/-- 0x4300 sub 4, TWIN_SESSION_B (24-bit) (R255). -/
def twn_TWIN_SESSION_B : OdRow := ⟨0x4300, 4, 1, .u32, 0, .ob, false, .en, false, .chart, false, 0, (some (0, 16777215))⟩
/-- 0x4300 sub 5, DETECT_TIME (2–32 µs) (R255). -/
def twn_DETECT_TIME : OdRow := ⟨0x4300, 5, 1, .dur, 0, .ob, false, .en, false, .chart, false, 262144000, (some (131072000, 2097152000))⟩
/-- 0x4300 sub 6, JOIN_TIME (10 ms–60 s) (R255). -/
def twn_JOIN_TIME : OdRow := ⟨0x4300, 6, 1, .dur, 0, .ob, false, .en, false, .chart, false, 32768000000000, (some (655360000000, 3932160000000000))⟩
/-- 0x4300 sub 7, YIELD_ON_PIER (R255). -/
def twn_YIELD_ON_PIER : OdRow := ⟨0x4300, 7, 1, .bool, 0, .ob, false, .en, false, .ovl, false, 1, (some (0, 1))⟩
/-- 0x4300 sub 8, ISOLATION_CONFIRM (10 ms–10 s) (R255). -/
def twn_ISOLATION_CONFIRM : OdRow := ⟨0x4300, 8, 1, .dur, 0, .ob, false, .en, false, .chart, false, 6553600000000, (some (655360000000, 655360000000000))⟩
/-- 0x4300 sub 9, ROLE (R233) (R255). -/
def twn_ROLE : OdRow := ⟨0x4300, 9, 1, .enum8, 0, .ob, false, .none, false, .vol, false, 0, none⟩
/-- 0x4300 sub 10, CLAIM, current (R255). -/
def twn_CLAIM : OdRow := ⟨0x4300, 10, 1, .u32, 0, .ob, false, .none, false, .vol, false, 0, none⟩
/-- 0x4300 sub 11, PEER_CLAIM, last seen (R255). -/
def twn_PEER_CLAIM : OdRow := ⟨0x4300, 11, 1, .u32, 0, .ob, false, .none, false, .vol, false, 0, none⟩
/-- 0x4300 sub 12, CLAIM_CEILING, epoch (R255). -/
def twn_CLAIM_CEILING : OdRow := ⟨0x4300, 12, 1, .u32, 0, .ob, false, .none, false, .vol, false, 0, none⟩
/-- 0x4300 sub 13, TAKEOVERS (R255). -/
def twn_TAKEOVERS : OdRow := ⟨0x4300, 13, 1, .u32, 0, .ob, false, .none, false, .vol, false, 0, none⟩
/-- 0x4300 sub 14, DIVERGED (R255). -/
def twn_DIVERGED : OdRow := ⟨0x4300, 14, 1, .u32, 0, .ob, false, .none, false, .vol, false, 0, none⟩
/-- 0x4300 sub 15, RESYNC_PROGRESS, blocks of 8 192 (R255). -/
def twn_RESYNC_PROGRESS : OdRow := ⟨0x4300, 15, 1, .u16, 0, .ob, false, .none, false, .vol, false, 0, none⟩
/-- 0x4300 sub 16, PATHS: bit 0 path 1, bit 1 path 2 (R255). -/
def twn_PATHS : OdRow := ⟨0x4300, 16, 1, .u8, 0, .ob, false, .none, false, .vol, false, 0, none⟩
/-- 0x4300 sub 17, YIELD: write 1 to hand over (R255). -/
def twn_YIELD : OdRow := ⟨0x4300, 17, 1, .enum8, 0, .none, false, .en, true, .vol, false, 0, (some (1, 1))⟩
/-- 0x4300 sub 18, PEER_DEAD: write 1 to clear ISOLATED (R255). -/
def twn_PEER_DEAD : OdRow := ⟨0x4300, 18, 1, .enum8, 0, .none, false, .so, false, .vol, false, 0, (some (1, 1))⟩
/-- 0x1200 sub 1, CHART_DIGEST, active (R278). -/
def cht_CHART_DIGEST : OdRow := ⟨0x1200, 1, 1, .octets, 32, .ob, false, .none, false, .vol, false, 0, none⟩
/-- 0x1200 sub 2, CHART_SLOT: 0 A, 1 B (R278). -/
def cht_CHART_SLOT : OdRow := ⟨0x1200, 2, 1, .enum8, 0, .ob, false, .none, false, .vol, false, 0, (some (0, 1))⟩
/-- 0x1200 sub 3, CHART_STATE: 0 NONE, 1 ACTIVE, 2 SWITCH_PENDING (R278). -/
def cht_CHART_STATE : OdRow := ⟨0x1200, 3, 1, .enum8, 0, .ob, false, .none, false, .vol, false, 0, (some (0, 2))⟩
/-- 0x1200 sub 4, SLOT_A_DIGEST (R278). -/
def cht_SLOT_A_DIGEST : OdRow := ⟨0x1200, 4, 1, .octets, 32, .ob, false, .none, false, .vol, false, 0, none⟩
/-- 0x1200 sub 5, SLOT_B_DIGEST (R278). -/
def cht_SLOT_B_DIGEST : OdRow := ⟨0x1200, 5, 1, .octets, 32, .ob, false, .none, false, .vol, false, 0, none⟩
/-- 0x1200 sub 6, SWITCH_INSTANT (R278). -/
def cht_SWITCH_INSTANT : OdRow := ⟨0x1200, 6, 1, .time, 0, .ob, false, .none, false, .vol, false, 0, none⟩
/-- 0x1200 sub 7, CHART_FLOOR (R273) (R278). -/
def cht_CHART_FLOOR : OdRow := ⟨0x1200, 7, 1, .u32, 0, .ob, false, .none, false, .vol, false, 0, none⟩
/-- 0x1200 sub 8, CHART_VERSION, IMAGE_VERSION of the active chart (R278). -/
def cht_CHART_VERSION : OdRow := ⟨0x1200, 8, 1, .u32, 0, .ob, false, .none, false, .vol, false, 0, none⟩
/-- 0x1202 sub 1, SET (R278). -/
def ovs_SET : OdRow := ⟨0x1202, 1, 1, .u16, 0, .ob, false, .none, false, .vol, false, 0, none⟩
/-- 0x1202 sub 2, LAYER (R278). -/
def ovs_LAYER : OdRow := ⟨0x1202, 2, 1, .enum8, 0, .ob, false, .none, false, .vol, false, 0, none⟩
/-- 0x1202 sub 3, DIGEST (R278). -/
def ovs_DIGEST : OdRow := ⟨0x1202, 3, 1, .octets, 32, .ob, false, .none, false, .vol, false, 0, none⟩
/-- 0x1202 sub 4, BASE_DIGEST (R278). -/
def ovs_BASE_DIGEST : OdRow := ⟨0x1202, 4, 1, .octets, 32, .ob, false, .none, false, .vol, false, 0, none⟩
/-- 0x1202 sub 5, STATE: 0 EMPTY, 1 STORED, 2 ACTIVE, 3 ORPHAN (R278). -/
def ovs_STATE : OdRow := ⟨0x1202, 5, 1, .enum8, 0, .ob, false, .none, false, .vol, false, 0, (some (0, 3))⟩
/-- 0x1203 sub 1, ACTIVE_SET; 0 none (R278). -/
def lay_ACTIVE_SET : OdRow := ⟨0x1203, 1, 1, .u16, 0, .ob, false, .none, false, .vol, false, 0, none⟩
/-- 0x1203 sub 2, DIGEST (R278). -/
def lay_DIGEST : OdRow := ⟨0x1203, 2, 1, .octets, 32, .ob, false, .none, false, .vol, false, 0, none⟩
/-- 0x1203 sub 3, SINCE, switch instant (R278). -/
def lay_SINCE : OdRow := ⟨0x1203, 3, 1, .time, 0, .ob, false, .none, false, .vol, false, 0, none⟩
/-- 0x1203 sub 4, HANDLE of the switching entry (R278). -/
def lay_HANDLE : OdRow := ⟨0x1203, 4, 1, .u32, 0, .ob, false, .none, false, .vol, false, 0, none⟩
/-- 0x1203 sub 5, SWITCHES (R278). -/
def lay_SWITCHES : OdRow := ⟨0x1203, 5, 1, .u32, 0, .ob, false, .none, false, .vol, false, 0, none⟩
/-- 0x1208 sub 1, STAGE (R278). -/
def stg_STAGE : OdRow := ⟨0x1208, 1, 1, .octets, 655360, .none, false, .en, false, .vol, false, 0, none⟩
/-- 0x1208 sub 2, STAGE_LENGTH (R278). -/
def stg_STAGE_LENGTH : OdRow := ⟨0x1208, 2, 1, .u32, 0, .ob, false, .none, false, .vol, false, 0, none⟩
/-- 0x1208 sub 3, LAST_STATUS (R266) (R278). -/
def stg_LAST_STATUS : OdRow := ⟨0x1208, 3, 1, .u16, 0, .ob, false, .none, false, .vol, false, 0, none⟩
/-- 0x1210 sub 1, CERT_HASH, SHA-256 of the leaf (R278). -/
def prn_CERT_HASH : OdRow := ⟨0x1210, 1, 1, .octets, 32, .ob, false, .so, false, .chart, false, 0, none⟩
/-- 0x1210 sub 2, ROLE: 0 NONE, 1 OB, 2 OP, 3 EN, 4 SO, 5 SV (R278). -/
def prn_ROLE : OdRow := ⟨0x1210, 2, 1, .enum8, 0, .ob, false, .so, false, .chart, false, 0, (some (0, 5))⟩
/-- 0x1211 sub 1, MAILBOX_ROLE: 1 OB, 2 OP, 3 EN (R278). -/
def mbx_MAILBOX_ROLE : OdRow := ⟨0x1211, 1, 1, .enum8, 0, .ob, false, .so, false, .chart, false, 3, (some (1, 3))⟩
/-- 0x1211 sub 2, MB_NOTIFY_QUEUE, EVENT class; 0xFFFF none (R278). -/
def mbx_MB_NOTIFY_QUEUE : OdRow := ⟨0x1211, 2, 1, .u16, 0, .ob, false, .en, false, .chart, false, 65535, none⟩
/-- 0x1211 sub 3, SUBSCRIPTIONS in use (R278). -/
def mbx_SUBSCRIPTIONS : OdRow := ⟨0x1211, 3, 1, .u16, 0, .ob, false, .none, false, .vol, false, 0, none⟩
/-- 0xA000 sub 1, WINDOW_BASE, PCIe address (R312). -/
def hif_WINDOW_BASE : OdRow := ⟨0xA000, 1, 1, .u64, 0, .ob, false, .en, false, .chart, false, 0, none⟩
/-- 0xA000 sub 2, WINDOW_SIZE (4 KiB–128 GiB, power of two) (R312). -/
def hif_WINDOW_SIZE : OdRow := ⟨0xA000, 2, 1, .u64, 0, .ob, false, .en, false, .chart, false, 137438953472, (some (4096, 137438953472))⟩
/-- 0xA000 sub 3, FLRS (R312). -/
def hif_FLRS : OdRow := ⟨0xA000, 3, 1, .u32, 0, .ob, false, .none, false, .vol, false, 0, none⟩
/-- 0xA000 sub 4, DMA_ERRORS (R312). -/
def hif_DMA_ERRORS : OdRow := ⟨0xA000, 4, 1, .u32, 0, .ob, false, .none, false, .vol, false, 0, none⟩
/-- 0xA000 sub 5, ACCESS_DENIED (R312). -/
def hif_ACCESS_DENIED : OdRow := ⟨0xA000, 5, 1, .u32, 0, .ob, false, .none, false, .vol, false, 0, none⟩
/-- 0xA001 sub 1, QUEUE_PF (0–3) (R312). -/
def qpf_QUEUE_PF : OdRow := ⟨0xA001, 1, 1, .u8, 0, .ob, false, .en, false, .chart, false, 1, (some (0, 3))⟩
/-- 0xA010 sub 1, ROUTE, word 1 in bits [63:32], word 0 in [31:0] (R312). -/
def rte_ROUTE : OdRow := ⟨0xA010, 1, 1, .u64, 0, .ob, false, .en, false, .chart, false, 0, none⟩
/-- 0xA020 sub 1, LINK_WIDTH (0, 4, 8, 16) (R312). -/
def lnk_LINK_WIDTH : OdRow := ⟨0xA020, 1, 1, .u8, 0, .ob, false, .none, false, .vol, false, 0, none⟩
/-- 0xA020 sub 2, LINK_SPEED (HIF_STATUS code) (R312). -/
def lnk_LINK_SPEED : OdRow := ⟨0xA020, 2, 1, .u8, 0, .ob, false, .none, false, .vol, false, 0, none⟩
/-- 0xA020 sub 3, AER_CORRECTABLE (R312). -/
def lnk_AER_CORRECTABLE : OdRow := ⟨0xA020, 3, 1, .u32, 0, .ob, false, .none, false, .vol, false, 0, none⟩
/-- 0xA020 sub 4, AER_UNCORRECTABLE (R312). -/
def lnk_AER_UNCORRECTABLE : OdRow := ⟨0xA020, 4, 1, .u32, 0, .ob, false, .none, false, .vol, false, 0, none⟩
/-- 0xA020 sub 5, MB_OVERRUNS (R312). -/
def lnk_MB_OVERRUNS : OdRow := ⟨0xA020, 5, 1, .u32, 0, .ob, false, .none, false, .vol, false, 0, none⟩
/-- 0xA020 sub 6, NOTICES_DROPPED (R312). -/
def lnk_NOTICES_DROPPED : OdRow := ⟨0xA020, 6, 1, .u32, 0, .ob, false, .none, false, .vol, false, 0, none⟩
/-- 0xB000 sub 1, IMAGE_DIGEST; zeros none (R346). -/
def lan_IMAGE_DIGEST : OdRow := ⟨0xB000, 1, 1, .octets, 32, .ob, false, .en, false, .chart, false, 0, none⟩
/-- 0xB000 sub 2, PAIRED (even lanes only) (R346). -/
def lan_PAIRED : OdRow := ⟨0xB000, 2, 1, .bool, 0, .ob, false, .en, false, .chart, false, 0, (some (0, 1))⟩
/-- 0xB000 sub 3, WDOG_TIME (1 µs–10 ms) (R346). -/
def lan_WDOG_TIME : OdRow := ⟨0xB000, 3, 1, .dur, 0, .ob, false, .en, false, .chart, false, 6553600000, (some (65536000, 655360000000))⟩
/-- 0xB000 sub 4–11, DATA_SESSION[1..8]; 0 none (R346). -/
def lan_DATA_SESSION : OdRow := ⟨0xB000, 4, 8, .u32, 0, .ob, false, .en, false, .chart, false, 0, none⟩
/-- 0xB000 sub 12, ENABLE: 0 OFF, 1 ON (R346). -/
def lan_ENABLE : OdRow := ⟨0xB000, 12, 1, .enum8, 0, .ob, false, .en, true, .chart, false, 0, (some (0, 1))⟩
/-- 0xB000 sub 13, DISABLE_MODE: 0 DRAIN, 1 CANCEL (R346). -/
def lan_DISABLE_MODE : OdRow := ⟨0xB000, 13, 1, .enum8, 0, .ob, false, .en, false, .ovl, false, 0, (some (0, 1))⟩
/-- 0xB001 sub 1, ORIGIN: 0 UNUSED, 1 RESIDENT, 2 CUSTOMER, 3 SHADOW (R346). -/
def lst_ORIGIN : OdRow := ⟨0xB001, 1, 1, .enum8, 0, .ob, false, .none, false, .vol, false, 0, (some (0, 3))⟩
/-- 0xB001 sub 2, STATE: 0 OFF, 1 RUNNING, 2 WAITING, 3 DISABLING, 4 FAULTED, 5 PARKED (R346). -/
def lst_STATE : OdRow := ⟨0xB001, 2, 1, .enum8, 0, .ob, false, .none, false, .vol, false, 0, (some (0, 5))⟩
/-- 0xB001 sub 3, PC (R346). -/
def lst_PC : OdRow := ⟨0xB001, 3, 1, .u16, 0, .ob, false, .none, false, .vol, false, 0, none⟩
/-- 0xB001 sub 4, CYCLES, outside WAIT (R346). -/
def lst_CYCLES : OdRow := ⟨0xB001, 4, 1, .u64, 0, .ob, false, .none, false, .vol, false, 0, none⟩
/-- 0xB001 sub 5, FAULTS (R346). -/
def lst_FAULTS : OdRow := ⟨0xB001, 5, 1, .u32, 0, .ob, false, .none, false, .vol, false, 0, none⟩
/-- 0xB001 sub 6, LAST_FAULT, cause code (R346). -/
def lst_LAST_FAULT : OdRow := ⟨0xB001, 6, 1, .u8, 0, .ob, false, .none, false, .vol, false, 0, none⟩
/-- 0xB001 sub 7, FRAME_DROPS (R346). -/
def lst_FRAME_DROPS : OdRow := ⟨0xB001, 7, 1, .u32, 0, .ob, false, .none, false, .vol, false, 0, none⟩
/-- 0xB001 sub 8, INBOX_USED (0–8) (R346). -/
def lst_INBOX_USED : OdRow := ⟨0xB001, 8, 1, .u8, 0, .ob, false, .none, false, .vol, false, 0, (some (0, 8))⟩
/-- 0xB001 sub 9, LOCKS_HELD, bit n for CCn (R346). -/
def lst_LOCKS_HELD : OdRow := ⟨0xB001, 9, 1, .u8, 0, .ob, false, .none, false, .vol, false, 0, none⟩
/-- 0xB001 sub 10, MISUSE (R346). -/
def lst_MISUSE : OdRow := ⟨0xB001, 10, 1, .u32, 0, .ob, false, .none, false, .vol, false, 0, none⟩
/-- 0xB002 sub 1, PROG_WORDS_CUSTOMER (R346). -/
def prg_PROG_WORDS_CUSTOMER : OdRow := ⟨0xB002, 1, 1, .u16, 0, .ob, false, .none, false, .vol, false, 0, none⟩
/-- 0xB002 sub 2, PROG_WORDS_RESIDENT (R346). -/
def prg_PROG_WORDS_RESIDENT : OdRow := ⟨0xB002, 2, 1, .u16, 0, .ob, false, .none, false, .vol, false, 0, none⟩
/-- 0xB010 sub 1, IMAGE_DIGEST; zeros none (R376). -/
def tsk_IMAGE_DIGEST : OdRow := ⟨0xB010, 1, 1, .octets, 32, .ob, false, .en, false, .chart, false, 0, none⟩
/-- 0xB010 sub 2, PURSER (0–3); 0xFF automatic (R376). -/
def tsk_PURSER : OdRow := ⟨0xB010, 2, 1, .u8, 0, .ob, false, .en, false, .chart, false, 255, none⟩
/-- 0xB010 sub 3, PRIORITY (1–7) (R376). -/
def tsk_PRIORITY : OdRow := ⟨0xB010, 3, 1, .u8, 0, .ob, false, .en, false, .chart, false, 4, (some (1, 7))⟩
/-- 0xB010 sub 4, ROLE: 1 OB, 2 OP, 3 EN (R376). -/
def tsk_ROLE : OdRow := ⟨0xB010, 4, 1, .enum8, 0, .ob, false, .so, false, .chart, false, 1, (some (1, 3))⟩
/-- 0xB010 sub 5–8, LANES[1..4]; 0xFF none (R376). -/
def tsk_LANES : OdRow := ⟨0xB010, 5, 4, .u8, 0, .ob, false, .en, false, .chart, false, 255, none⟩
/-- 0xB010 sub 9, ENABLE: 0 OFF, 1 ON (R376). -/
def tsk_ENABLE : OdRow := ⟨0xB010, 9, 1, .enum8, 0, .ob, false, .en, true, .chart, false, 0, (some (0, 1))⟩
/-- 0xB011 sub 1, STATE: 0 OFF, 1 READY, 2 RUNNING, 3 WAITING, 4 FAULTED, 5 STOPPED (R376). -/
def tst_STATE : OdRow := ⟨0xB011, 1, 1, .enum8, 0, .ob, false, .none, false, .vol, false, 0, (some (0, 5))⟩
/-- 0xB011 sub 2, PURSER_NOW (R376). -/
def tst_PURSER_NOW : OdRow := ⟨0xB011, 2, 1, .u8, 0, .ob, false, .none, false, .vol, false, 0, none⟩
/-- 0xB011 sub 3, PC (R376). -/
def tst_PC : OdRow := ⟨0xB011, 3, 1, .u64, 0, .ob, false, .none, false, .vol, false, 0, none⟩
/-- 0xB011 sub 4, CYCLES (R376). -/
def tst_CYCLES : OdRow := ⟨0xB011, 4, 1, .u64, 0, .ob, false, .none, false, .vol, false, 0, none⟩
/-- 0xB011 sub 5, LAST_FAULT, cause code (R376). -/
def tst_LAST_FAULT : OdRow := ⟨0xB011, 5, 1, .u8, 0, .ob, false, .none, false, .vol, false, 0, none⟩
/-- 0xB011 sub 6, EXIT_CODE (R376). -/
def tst_EXIT_CODE : OdRow := ⟨0xB011, 6, 1, .u64, 0, .ob, false, .none, false, .vol, false, 0, none⟩
/-- 0xB011 sub 7, MEMORY, bytes allocated (R376). -/
def tst_MEMORY : OdRow := ⟨0xB011, 7, 1, .u32, 0, .ob, false, .none, false, .vol, false, 0, none⟩
/-- 0xB011 sub 8, TWICE_MISMATCHES (R376). -/
def tst_TWICE_MISMATCHES : OdRow := ⟨0xB011, 8, 1, .u32, 0, .ob, false, .none, false, .vol, false, 0, none⟩
/-- 0xB020 sub 1, LAST_RESORT, the last-resort TSB; a deckhand uses bytes 0–127 (R409). -/
def exc_LAST_RESORT : OdRow := ⟨0xB020, 1, 1, .octets, 256, .en, false, .none, false, .vol, false, 0, none⟩
/-- 0xB020 sub 2, DOUBLE_FAULTS (R409). -/
def exc_DOUBLE_FAULTS : OdRow := ⟨0xB020, 2, 1, .u32, 0, .ob, false, .none, false, .vol, false, 0, none⟩
/-- 0xB020 sub 3, IMPRECISE_NOTICES (R409). -/
def exc_IMPRECISE_NOTICES : OdRow := ⟨0xB020, 3, 1, .u32, 0, .ob, false, .none, false, .vol, false, 0, none⟩
/-- 0xB020 sub 4, EXCEPTIONS, all kinds (R409). -/
def exc_EXCEPTIONS : OdRow := ⟨0xB020, 4, 1, .u64, 0, .ob, false, .none, false, .vol, false, 0, none⟩
/-- 0xB021 sub 1, DENIALS (as ACU_DENIALS) (R409). -/
def acu_DENIALS : OdRow := ⟨0xB021, 1, 1, .u32, 0, .ob, false, .none, false, .vol, false, 0, none⟩
/-- 0xB021 sub 2, REGIONS_ENABLED (R409). -/
def acu_REGIONS_ENABLED : OdRow := ⟨0xB021, 2, 1, .u8, 0, .ob, false, .none, false, .vol, false, 0, none⟩
/-- 0xB021 sub 3, LAST_DENIED, address in [39:0], cause in [47:40] (R409). -/
def acu_LAST_DENIED : OdRow := ⟨0xB021, 3, 1, .u64, 0, .ob, false, .none, false, .vol, false, 0, none⟩
/-- 0x5000 sub 1, ENABLE: 0 OFF, 1 ON (R449). -/
def cip_ENABLE : OdRow := ⟨0x5000, 1, 1, .enum8, 0, .ob, false, .en, true, .chart, false, 1, (some (0, 1))⟩
/-- 0x5000 sub 2, DISABLE_MODE: 0 DRAIN, 1 CANCEL (R449). -/
def cip_DISABLE_MODE : OdRow := ⟨0x5000, 2, 1, .enum8, 0, .ob, false, .en, false, .ovl, false, 0, (some (0, 1))⟩
/-- 0x5000 sub 3, STATE: 0 FREE, 1 LOCKED, 2 BUSY, 3 OFF, 4 RETIRED, 5 SPARE (R449). -/
def cip_STATE : OdRow := ⟨0x5000, 3, 1, .enum8, 0, .ob, false, .none, false, .vol, false, 0, (some (0, 5))⟩
/-- 0x5000 sub 4, HOLDER, user ID (R449). -/
def cip_HOLDER : OdRow := ⟨0x5000, 4, 1, .u16, 0, .ob, false, .none, false, .vol, false, 0, none⟩
/-- 0x5000 sub 5, JOBS (R449). -/
def cip_JOBS : OdRow := ⟨0x5000, 5, 1, .u64, 0, .ob, false, .none, false, .vol, false, 0, none⟩
/-- 0x5000 sub 6, BYTES (R449). -/
def cip_BYTES : OdRow := ⟨0x5000, 6, 1, .u64, 0, .ob, false, .none, false, .vol, false, 0, none⟩
/-- 0x5000 sub 7, TAG_FAILS (R449). -/
def cip_TAG_FAILS : OdRow := ⟨0x5000, 7, 1, .u32, 0, .ob, false, .none, false, .vol, false, 0, none⟩
/-- 0x5000 sub 8, REFUSALS (IV_EXHAUSTED, CTR_WRAP, USAGE_LIMIT, KEY_POLICY) (R449). -/
def cip_REFUSALS : OdRow := ⟨0x5000, 8, 1, .u32, 0, .ob, false, .none, false, .vol, false, 0, none⟩
/-- 0x5001 sub 1, LANE_CORES_MAX (0–4) (R449). -/
def cic_LANE_CORES_MAX : OdRow := ⟨0x5001, 1, 1, .u8, 0, .ob, false, .en, false, .chart, false, 2, (some (0, 4))⟩
/-- 0x5001 sub 2, LOCK_HOLD_LIMIT (1 µs–1 s) (R449). -/
def cic_LOCK_HOLD_LIMIT : OdRow := ⟨0x5001, 2, 1, .dur, 0, .ob, false, .en, false, .ovl, false, 6553600000, (some (65536000, 65536000000000))⟩
/-- 0x5001 sub 3, SELFTEST_PERIOD (10 ms–60 s), cipher cores (R449). -/
def cic_SELFTEST_PERIOD : OdRow := ⟨0x5001, 3, 1, .dur, 0, .ob, false, .en, false, .chart, false, 65536000000000, (some (655360000000, 3932160000000000))⟩
/-- 0x5010 sub 1, SELFTEST_PERIOD (10 ms–60 s), hash cores (R449). -/
def hsh_SELFTEST_PERIOD : OdRow := ⟨0x5010, 1, 1, .dur, 0, .ob, false, .en, false, .chart, false, 65536000000000, (some (655360000000, 3932160000000000))⟩
/-- 0x5010 sub 2, CORES_IN_SERVICE (0–48) (R449). -/
def hsh_CORES_IN_SERVICE : OdRow := ⟨0x5010, 2, 1, .u8, 0, .ob, false, .none, false, .vol, false, 48, (some (0, 48))⟩
/-- 0x5010 sub 3, COMPRESSIONS (R449). -/
def hsh_COMPRESSIONS : OdRow := ⟨0x5010, 3, 1, .u64, 0, .ob, false, .none, false, .vol, false, 0, none⟩
/-- 0x5010 sub 4, SIGNATURES (R449). -/
def hsh_SIGNATURES : OdRow := ⟨0x5010, 4, 1, .u64, 0, .ob, false, .none, false, .vol, false, 0, none⟩
/-- 0x5010 sub 5, VERIFICATIONS (R449). -/
def hsh_VERIFICATIONS : OdRow := ⟨0x5010, 5, 1, .u64, 0, .ob, false, .none, false, .vol, false, 0, none⟩
/-- 0x5010 sub 6, SIG_INVALID (R449). -/
def hsh_SIG_INVALID : OdRow := ⟨0x5010, 6, 1, .u32, 0, .ob, false, .none, false, .vol, false, 0, none⟩
/-- 0x5010 sub 7, FAULTS (R442, R443) (R449). -/
def hsh_FAULTS : OdRow := ⟨0x5010, 7, 1, .u32, 0, .ob, false, .none, false, .vol, false, 0, none⟩
/-- 0x5010 sub 8, GROUPS_GRANTED, bit g for group g (R449). -/
def hsh_GROUPS_GRANTED : OdRow := ⟨0x5010, 8, 1, .u8, 0, .ob, false, .none, false, .vol, false, 0, none⟩
/-- 0x5020 sub 1, HOLDER, user ID (R478). -/
def bgn_HOLDER : OdRow := ⟨0x5020, 1, 1, .u16, 0, .ob, false, .none, false, .vol, false, 0, none⟩
/-- 0x5020 sub 2, COMMANDS (R478). -/
def bgn_COMMANDS : OdRow := ⟨0x5020, 2, 1, .u64, 0, .ob, false, .none, false, .vol, false, 0, none⟩
/-- 0x5020 sub 3, DISCARDED (R478). -/
def bgn_DISCARDED : OdRow := ⟨0x5020, 3, 1, .u32, 0, .ob, false, .none, false, .vol, false, 0, none⟩
/-- 0x5020 sub 4, DESC_REJECTS (R478). -/
def bgn_DESC_REJECTS : OdRow := ⟨0x5020, 4, 1, .u32, 0, .ob, false, .none, false, .vol, false, 0, none⟩
/-- 0x5020 sub 5, BN_JOB request (R458) (R478). -/
def bgn_BN_JOB : OdRow := ⟨0x5020, 5, 1, .octets, 1540, .none, false, .op, false, .vol, false, 0, none⟩
/-- 0x5020 sub 6, JOB_STATE: 0 IDLE, 1 RUNNING, 2 DONE, 3 FAILED (R478). -/
def bgn_JOB_STATE : OdRow := ⟨0x5020, 6, 1, .enum8, 0, .ob, false, .none, false, .vol, false, 0, (some (0, 3))⟩
/-- 0x5020 sub 7, JOB_RESULT (R478). -/
def bgn_JOB_RESULT : OdRow := ⟨0x5020, 7, 1, .octets, 512, .ob, false, .none, false, .vol, false, 0, none⟩
/-- 0x5030 sub 1, STATE (as RNG_STATUS) (R478). -/
def rng_STATE : OdRow := ⟨0x5030, 1, 1, .enum8, 0, .ob, false, .none, false, .vol, false, 0, none⟩
/-- 0x5030 sub 2, GROUPS_OK (R478). -/
def rng_GROUPS_OK : OdRow := ⟨0x5030, 2, 1, .u8, 0, .ob, false, .none, false, .vol, false, 0, none⟩
/-- 0x5030 sub 3–6, LIVENESS_FAILS, LOCK_FAILS, RCT_FAILS, APT_FAILS (R478). -/
def rng_FAILS : OdRow := ⟨0x5030, 3, 4, .u32, 0, .ob, false, .none, false, .vol, false, 0, none⟩
/-- 0x5030 sub 7, BASE_RESEEDS (R478). -/
def rng_BASE_RESEEDS : OdRow := ⟨0x5030, 7, 1, .u32, 0, .ob, false, .none, false, .vol, false, 0, none⟩
/-- 0x5031 sub 1, REQUESTS (R478). -/
def rcl_REQUESTS : OdRow := ⟨0x5031, 1, 1, .u64, 0, .ob, false, .none, false, .vol, false, 0, none⟩
/-- 0x5031 sub 2, RESEEDS (R478). -/
def rcl_RESEEDS : OdRow := ⟨0x5031, 2, 1, .u32, 0, .ob, false, .none, false, .vol, false, 0, none⟩
/-- 0x5040 sub 1, STATE: 0 EMPTY, 1 VOLATILE, 2 WRAPPED (R478). -/
def key_STATE : OdRow := ⟨0x5040, 1, 1, .enum8, 0, .ob, false, .none, false, .vol, false, 0, (some (0, 2))⟩
/-- 0x5040 sub 2, POLICY (R470) (R478). -/
def key_POLICY : OdRow := ⟨0x5040, 2, 1, .octets, 16, .ob, false, .none, false, .vol, false, 0, none⟩
/-- 0x5040 sub 3, KEYH, current (R478). -/
def key_KEYH : OdRow := ⟨0x5040, 3, 1, .keyh, 0, .ob, false, .none, false, .vol, false, 0, none⟩
/-- 0x5040 sub 4, USES (R478). -/
def key_USES : OdRow := ⟨0x5040, 4, 1, .u32, 0, .ob, false, .none, false, .vol, false, 0, none⟩
/-- 0x5040 sub 5, PUBLIC; SLH 32 bytes, ECDSA uncompressed (R478). -/
def key_PUBLIC : OdRow := ⟨0x5040, 5, 1, .octets, 97, .ob, false, .none, false, .vol, false, 0, none⟩
/-- 0x5041 sub 1, GENERATE: slot (2), zero (2), policy (16) (R478). -/
def kac_GENERATE : OdRow := ⟨0x5041, 1, 1, .octets, 20, .none, false, .so, true, .vol, false, 0, none⟩
/-- 0x5041 sub 2, IMPORT: slot (2), zero (2), policy (16), key (64) (R478). -/
def kac_IMPORT : OdRow := ⟨0x5041, 2, 1, .octets, 84, .none, false, .so, true, .vol, false, 0, none⟩
/-- 0x5041 sub 3, RESTRICT: slot (2), zero (2), policy (16) (R478). -/
def kac_RESTRICT : OdRow := ⟨0x5041, 3, 1, .octets, 20, .none, false, .so, false, .vol, false, 0, none⟩
/-- 0x5041 sub 4, DESTROY: slot (R478). -/
def kac_DESTROY : OdRow := ⟨0x5041, 4, 1, .u16, 0, .none, false, .so, true, .vol, false, 0, none⟩
/-- 0x5041 sub 5, ERASURES (R478). -/
def kac_ERASURES : OdRow := ⟨0x5041, 5, 1, .u32, 0, .ob, false, .none, false, .vol, false, 0, none⟩
/-- 0x1000 sub 1, VENDOR_ID (R498). -/
def idn_VENDOR_ID : OdRow := ⟨0x1000, 1, 1, .u16, 0, .ob, false, .none, false, .fact, true, 0, none⟩
/-- 0x1000 sub 2, DEVICE_ID (R498). -/
def idn_DEVICE_ID : OdRow := ⟨0x1000, 2, 1, .u16, 0, .ob, false, .none, false, .fact, false, 38464, none⟩
/-- 0x1000 sub 3, ORDERING_CODE (R498). -/
def idn_ORDERING_CODE : OdRow := ⟨0x1000, 3, 1, .utf8, 32, .ob, false, .none, false, .fact, false, 0, none⟩
/-- 0x1000 sub 4, STEPPING (R20) (R498). -/
def idn_STEPPING : OdRow := ⟨0x1000, 4, 1, .utf8, 4, .ob, false, .none, false, .fact, false, 0, none⟩
/-- 0x1000 sub 5, DIE_ID (R498). -/
def idn_DIE_ID : OdRow := ⟨0x1000, 5, 1, .octets, 16, .ob, false, .none, false, .fact, true, 0, none⟩
/-- 0x1000 sub 6, FW_VERSION, running (R498). -/
def idn_FW_VERSION : OdRow := ⟨0x1000, 6, 1, .u32, 0, .ob, false, .none, false, .vol, false, 0, none⟩
/-- 0x1000 sub 7, FW_SLOT: 0 A, 1 B (R498). -/
def idn_FW_SLOT : OdRow := ⟨0x1000, 7, 1, .enum8, 0, .ob, false, .none, false, .vol, false, 0, (some (0, 1))⟩
/-- 0x1000 sub 8, FW_DIGEST (R498). -/
def idn_FW_DIGEST : OdRow := ⟨0x1000, 8, 1, .octets, 32, .ob, false, .none, false, .vol, false, 0, none⟩
/-- 0x1000 sub 9, FW_FLOOR (R498). -/
def idn_FW_FLOOR : OdRow := ⟨0x1000, 9, 1, .u32, 0, .ob, false, .none, false, .vol, false, 0, none⟩
/-- 0x1000 sub 10, UNIT_ID; zeros before R491 (R498). -/
def idn_UNIT_ID : OdRow := ⟨0x1000, 10, 1, .octets, 16, .ob, false, .none, false, .vol, false, 0, none⟩
/-- 0x1000 sub 11, IDENTITY_PUBLIC (R498). -/
def idn_IDENTITY_PUBLIC : OdRow := ⟨0x1000, 11, 1, .octets, 32, .ob, false, .none, false, .vol, false, 0, none⟩
/-- 0x1000 sub 12, ATTEST_PUBLIC (R498). -/
def idn_ATTEST_PUBLIC : OdRow := ⟨0x1000, 12, 1, .octets, 32, .ob, false, .none, false, .vol, false, 0, none⟩
/-- 0x1000 sub 13, BIRTH_PUBLIC (R498). -/
def idn_BIRTH_PUBLIC : OdRow := ⟨0x1000, 13, 1, .octets, 32, .ob, false, .none, false, .vol, false, 0, none⟩
/-- 0x1000 sub 14, BIRTH_CERT (R490) (R498). -/
def idn_BIRTH_CERT : OdRow := ⟨0x1000, 14, 1, .octets, 4096, .ob, false, .ob, false, .fact, false, 0, none⟩
/-- 0x1000 sub 15, DEVICE_CHAIN (R492) (R498). -/
def idn_DEVICE_CHAIN : OdRow := ⟨0x1000, 15, 1, .octets, 30720, .ob, false, .none, false, .vol, false, 0, none⟩
/-- 0x1100 sub 1, LC_STATE (R498). -/
def lcy_LC_STATE : OdRow := ⟨0x1100, 1, 1, .enum8, 0, .ob, false, .none, false, .vol, false, 0, none⟩
/-- 0x1100 sub 2, TEST_TOKENS (R498). -/
def lcy_TEST_TOKENS : OdRow := ⟨0x1100, 2, 1, .u8, 0, .ob, false, .none, false, .vol, false, 0, none⟩
/-- 0x1100 sub 3, DIAG_TOKENS (R498). -/
def lcy_DIAG_TOKENS : OdRow := ⟨0x1100, 3, 1, .u8, 0, .ob, false, .none, false, .vol, false, 0, none⟩
/-- 0x1100 sub 4, NONCE; a read issues one (R485) (R498). -/
def lcy_NONCE : OdRow := ⟨0x1100, 4, 1, .octets, 32, .ob, false, .none, false, .vol, false, 0, none⟩
/-- 0x1100 sub 5, LC_REQUEST (R498). -/
def lcy_LC_REQUEST : OdRow := ⟨0x1100, 5, 1, .octets, 40720, .none, false, .ob, false, .vol, false, 0, none⟩
/-- 0x1100 sub 6, LC_RESULT (as LCY_RESULT) (R498). -/
def lcy_LC_RESULT : OdRow := ⟨0x1100, 6, 1, .u8, 0, .ob, false, .none, false, .vol, false, 0, none⟩
/-- 0x1100 sub 7, ATTEST_CHALLENGE (R498). -/
def lcy_ATTEST_CHALLENGE : OdRow := ⟨0x1100, 7, 1, .octets, 32, .none, false, .ob, false, .vol, false, 0, none⟩
/-- 0x1100 sub 8, ATTEST_STATE: 0 IDLE, 1 SIGNING, 2 DONE, 3 REFUSED (R498). -/
def lcy_ATTEST_STATE : OdRow := ⟨0x1100, 8, 1, .enum8, 0, .ob, false, .none, false, .vol, false, 0, (some (0, 3))⟩
/-- 0x1100 sub 9, ATTEST_RECORD (R498). -/
def lcy_ATTEST_RECORD : OdRow := ⟨0x1100, 9, 1, .octets, 17408, .ob, false, .none, false, .vol, false, 0, none⟩
/-- 0x1100 sub 10, PROVISION_RECORD (R498). -/
def lcy_PROVISION_RECORD : OdRow := ⟨0x1100, 10, 1, .octets, 17408, .ob, false, .none, false, .vol, false, 0, none⟩
/-- 0x1100 sub 11, TRANSITION_RECORD (R498). -/
def lcy_TRANSITION_RECORD : OdRow := ⟨0x1100, 11, 1, .octets, 17408, .ob, false, .none, false, .vol, false, 0, none⟩
/-- 0x1100 sub 12, DEBUG_SCOPE, open scopes (R498). -/
def lcy_DEBUG_SCOPE : OdRow := ⟨0x1100, 12, 1, .u32, 0, .ob, false, .none, false, .vol, false, 0, none⟩
/-- 0x1100 sub 13, TRANSITIONS (R498). -/
def lcy_TRANSITIONS : OdRow := ⟨0x1100, 13, 1, .u32, 0, .ob, false, .none, false, .vol, false, 0, none⟩
/-- 0x1110 sub 1, STATE: 0 EMPTY, 1 ACTIVE, 2 REVOKED (R498). -/
def anc_STATE : OdRow := ⟨0x1110, 1, 1, .enum8, 0, .ob, false, .none, false, .vol, false, 0, (some (0, 2))⟩
/-- 0x1110 sub 2, RIGHTS (R483) (R498). -/
def anc_RIGHTS : OdRow := ⟨0x1110, 2, 1, .u16, 0, .ob, false, .none, false, .vol, false, 0, none⟩
/-- 0x1110 sub 3, PUBLIC (R498). -/
def anc_PUBLIC : OdRow := ⟨0x1110, 3, 1, .octets, 32, .ob, false, .none, false, .vol, false, 0, none⟩
/-- 0x6000 sub 1, SEVERITY (0–7) (R525). -/
def flt_SEVERITY : OdRow := ⟨0x6000, 1, 1, .u8, 0, .ob, false, .so, false, .chart, false, 0, (some (0, 7))⟩
/-- 0x6000 sub 2, ERASE: 0 VOLATILE, 1 FULL (R525). -/
def flt_ERASE : OdRow := ⟨0x6000, 2, 1, .enum8, 0, .ob, false, .so, false, .chart, false, 0, (some (0, 1))⟩
/-- 0x6000 sub 3, MIN_SEVERITY (R525). -/
def flt_MIN_SEVERITY : OdRow := ⟨0x6000, 3, 1, .u8, 0, .ob, false, .none, false, .fact, true, 0, none⟩
/-- 0x6000 sub 4, MERGE_WINDOW (1 ms–60 s), merging sources (R525). -/
def flt_MERGE_WINDOW : OdRow := ⟨0x6000, 4, 1, .dur, 0, .ob, false, .en, false, .chart, false, 65536000000000, (some (65536000000, 3932160000000000))⟩
/-- 0x6000 sub 5, MERGE_LIMIT; 0 none (R525). -/
def flt_MERGE_LIMIT : OdRow := ⟨0x6000, 5, 1, .u32, 0, .ob, false, .en, false, .chart, false, 0, none⟩
/-- 0x6000 sub 6, LIMIT_SEVERITY (0–7) (R525). -/
def flt_LIMIT_SEVERITY : OdRow := ⟨0x6000, 6, 1, .u8, 0, .ob, false, .so, false, .chart, false, 2, (some (0, 7))⟩
/-- 0x6000 sub 7, COUNT (R525). -/
def flt_COUNT : OdRow := ⟨0x6000, 7, 1, .u32, 0, .ob, false, .none, false, .vol, false, 0, none⟩
/-- 0x6000 sub 8, LAST_TIME (R525). -/
def flt_LAST_TIME : OdRow := ⟨0x6000, 8, 1, .time, 0, .ob, false, .none, false, .vol, false, 0, none⟩
/-- 0x6001 sub 1, STATE: 0 NORMAL, 1 HOLD, 2 SAFE, 3 CHIP_SAFE (R525). -/
def fcu_STATE : OdRow := ⟨0x6001, 1, 1, .enum8, 0, .ob, false, .none, false, .vol, false, 0, (some (0, 3))⟩
/-- 0x6001 sub 2, FAULTN_MIN (1–7) (R525). -/
def fcu_FAULTN_MIN : OdRow := ⟨0x6001, 2, 1, .u8, 0, .ob, false, .so, false, .chart, false, 3, (some (1, 7))⟩
/-- 0x6001 sub 3, RELEASE_HOLD: write 1 (R525). -/
def fcu_RELEASE_HOLD : OdRow := ⟨0x6001, 3, 1, .enum8, 0, .none, false, .en, true, .vol, false, 0, (some (1, 1))⟩
/-- 0x6001 sub 4, RELEASE_SAFE: write 1 (R525). -/
def fcu_RELEASE_SAFE : OdRow := ⟨0x6001, 4, 1, .enum8, 0, .none, false, .en, true, .vol, false, 0, (some (1, 1))⟩
/-- 0x6001 sub 5, LOG_FLASH_MIN (0–7) (R525). -/
def fcu_LOG_FLASH_MIN : OdRow := ⟨0x6001, 5, 1, .u8, 0, .ob, false, .en, false, .chart, false, 2, (some (0, 7))⟩
/-- 0x6001 sub 6, LOG, 1 024 records, newest last (R525). -/
def fcu_LOG : OdRow := ⟨0x6001, 6, 1, .octets, 32768, .ob, false, .none, false, .vol, false, 0, none⟩
/-- 0x6001 sub 7, LOG_DROPPED (R525). -/
def fcu_LOG_DROPPED : OdRow := ⟨0x6001, 7, 1, .u32, 0, .ob, false, .none, false, .vol, false, 0, none⟩
/-- 0x6002 sub 1, FUNCTION (R292); 0xFFFF none (R525). -/
def fmp_FUNCTION : OdRow := ⟨0x6002, 1, 1, .u16, 0, .ob, false, .none, false, .fact, true, 0, none⟩
/-- 0x6002 sub 2, CODE (R525). -/
def fmp_CODE : OdRow := ⟨0x6002, 2, 1, .u16, 0, .ob, false, .none, false, .fact, true, 0, none⟩
/-- 0x6002 sub 3, DOMAIN: 0 LANE, 1 BEARING, 2 PURSER, 3 PORT, 4 FERRY_PORT, 5 HOST, 6 CHIP (R525). -/
def fmp_DOMAIN : OdRow := ⟨0x6002, 3, 1, .enum8, 0, .ob, false, .none, false, .fact, true, 0, (some (0, 6))⟩
/-- 0x6002 sub 4, UNIT: 0 NONE, 1 PIER, 2 HASH_CORE, 3 FERRY_PORT, 4 PORT, 5 BEARING, 6 RNG_GROUP, 7 SECTOR (R525). -/
def fmp_UNIT : OdRow := ⟨0x6002, 4, 1, .enum8, 0, .ob, false, .none, false, .fact, true, 0, (some (0, 7))⟩
/-- 0x6010 sub 1, EVENTS (R525). -/
def tmp_EVENTS : OdRow := ⟨0x6010, 1, 1, .u32, 0, .ob, false, .none, false, .vol, false, 0, none⟩
/-- 0x6010 sub 2, IN_WINDOW, largest count in a level-1 window (R525). -/
def tmp_IN_WINDOW : OdRow := ⟨0x6010, 2, 1, .u16, 0, .ob, false, .none, false, .vol, false, 0, none⟩
/-- 0x6010 sub 3, LEVEL1_COUNT (R525). -/
def tmp_LEVEL1_COUNT : OdRow := ⟨0x6010, 3, 1, .u32, 0, .ob, false, .none, false, .vol, false, 0, none⟩
/-- 0x8000 sub 1, ENABLE: 0 OFF, 1 ON (R551). -/
def cls_ENABLE : OdRow := ⟨0x8000, 1, 1, .enum8, 0, .ob, false, .en, false, .chart, false, 0, (some (0, 1))⟩
/-- 0x8000 sub 2, TYPES: bit 0 A, bit 1 B (R551). -/
def cls_TYPES : OdRow := ⟨0x8000, 2, 1, .u8, 0, .ob, false, .en, false, .chart, false, 3, none⟩
/-- 0x8000 sub 3, RATE_MAX: 0 106, 1 212, 2 424, 3 848 kbit/s (R551). -/
def cls_RATE_MAX : OdRow := ⟨0x8000, 3, 1, .enum8, 0, .ob, false, .en, false, .chart, false, 3, (some (0, 3))⟩
/-- 0x8000 sub 4, FIELD_LEVEL (0–7) (R551). -/
def cls_FIELD_LEVEL : OdRow := ⟨0x8000, 4, 1, .u8, 0, .ob, false, .en, false, .chart, false, 7, (some (0, 7))⟩
/-- 0x8000 sub 5, PING_WIDTH (10–50 µs) (R551). -/
def cls_PING_WIDTH : OdRow := ⟨0x8000, 5, 1, .dur, 0, .ob, false, .en, false, .chart, false, 3276800000, (some (655360000, 3276800000))⟩
/-- 0x8000 sub 6, PING_PERIOD (50–1 000 ms) (R551). -/
def cls_PING_PERIOD : OdRow := ⟨0x8000, 6, 1, .dur, 0, .ob, false, .en, false, .ovl, false, 6553600000000, (some (3276800000000, 65536000000000))⟩
/-- 0x8000 sub 7, DETECT_AMPL, 0.1 % (1–500) (R551). -/
def cls_DETECT_AMPL : OdRow := ⟨0x8000, 7, 1, .u16, 0, .ob, false, .en, false, .chart, false, 20, (some (1, 500))⟩
/-- 0x8000 sub 8, DETECT_PHASE, 0.01° (1–9 000) (R551). -/
def cls_DETECT_PHASE : OdRow := ⟨0x8000, 8, 1, .u16, 0, .ob, false, .en, false, .chart, false, 100, (some (1, 9000))⟩
/-- 0x8000 sub 9, ANTICOLL_FIRST (0–1) (R551). -/
def cls_ANTICOLL_FIRST : OdRow := ⟨0x8000, 9, 1, .u8, 0, .ob, false, .en, false, .chart, false, 1, (some (0, 1))⟩
/-- 0x8000 sub 10, PRESENCE_PERIOD (20–1 000 ms) (R551). -/
def cls_PRESENCE_PERIOD : OdRow := ⟨0x8000, 10, 1, .dur, 0, .ob, false, .en, false, .ovl, false, 6553600000000, (some (1310720000000, 65536000000000))⟩
/-- 0x8000 sub 11, FWT_MAX (10 ms–5 s) (R551). -/
def cls_FWT_MAX : OdRow := ⟨0x8000, 11, 1, .dur, 0, .ob, false, .en, false, .chart, false, 65536000000000, (some (655360000000, 327680000000000))⟩
/-- 0x8000 sub 12, FIELD_GRANT, 100 mA units (1–4) (R551). -/
def cls_FIELD_GRANT : OdRow := ⟨0x8000, 12, 1, .u8, 0, .ob, false, .en, false, .chart, false, 3, (some (1, 4))⟩
/-- 0x8000 sub 13, RF_WAIT_MAX (1–1 000 ms) (R551). -/
def cls_RF_WAIT_MAX : OdRow := ⟨0x8000, 13, 1, .dur, 0, .ob, false, .en, false, .chart, false, 3276800000000, (some (65536000000, 65536000000000))⟩
/-- 0x8000 sub 14, CREDENTIALS (R551). -/
def cls_CREDENTIALS : OdRow := ⟨0x8000, 14, 1, .u8, 0, .ob, false, .none, false, .vol, false, 0, none⟩
/-- 0x8000 sub 15, PINGS (R551). -/
def cls_PINGS : OdRow := ⟨0x8000, 15, 1, .u32, 0, .ob, false, .none, false, .vol, false, 0, none⟩
/-- 0x8000 sub 16, DETECTIONS (R551). -/
def cls_DETECTIONS : OdRow := ⟨0x8000, 16, 1, .u32, 0, .ob, false, .none, false, .vol, false, 0, none⟩
/-- 0x8000 sub 17, FALSE_DETECTIONS (R551). -/
def cls_FALSE_DETECTIONS : OdRow := ⟨0x8000, 17, 1, .u32, 0, .ob, false, .none, false, .vol, false, 0, none⟩
/-- 0x8000 sub 18, COLLISIONS (merging source) (R551). -/
def cls_COLLISIONS : OdRow := ⟨0x8000, 18, 1, .u32, 0, .ob, false, .none, false, .vol, false, 0, none⟩
/-- 0x8000 sub 19, NOT_ISO_DEP (R551). -/
def cls_NOT_ISO_DEP : OdRow := ⟨0x8000, 19, 1, .u32, 0, .ob, false, .none, false, .vol, false, 0, none⟩
/-- 0x8000 sub 20, EXTERNAL_FIELDS (R551). -/
def cls_EXTERNAL_FIELDS : OdRow := ⟨0x8000, 20, 1, .u32, 0, .ob, false, .none, false, .vol, false, 0, none⟩
/-- 0x8001 sub 1, STATE: 0 FREE, 1 IDENTIFYING, 2 CREDENTIAL, 3 DESELECTING (R551). -/
def crd_STATE : OdRow := ⟨0x8001, 1, 1, .enum8, 0, .ob, false, .none, false, .vol, false, 0, (some (0, 3))⟩
/-- 0x8001 sub 2, CARD_TYPE: 1 A, 2 B (R551). -/
def crd_CARD_TYPE : OdRow := ⟨0x8001, 2, 1, .enum8, 0, .ob, false, .none, false, .vol, false, 0, (some (1, 2))⟩
/-- 0x8001 sub 3, UID or PUPI, length in byte 0 (R551). -/
def crd_UID : OdRow := ⟨0x8001, 3, 1, .octets, 11, .ob, false, .none, false, .vol, false, 0, none⟩
/-- 0x8001 sub 4, CARD_ID, Kolzel (R551). -/
def crd_CARD_ID : OdRow := ⟨0x8001, 4, 1, .octets, 16, .ob, false, .none, false, .vol, false, 0, none⟩
/-- 0x8001 sub 5, RATE, as RATE_MAX (R551). -/
def crd_RATE : OdRow := ⟨0x8001, 5, 1, .enum8, 0, .ob, false, .none, false, .vol, false, 0, none⟩
/-- 0x8002 sub 1, TAG_ENABLE (R551). -/
def tag_TAG_ENABLE : OdRow := ⟨0x8002, 1, 1, .bool, 0, .ob, false, .en, false, .chart, false, 1, (some (0, 1))⟩
/-- 0x8002 sub 2, VHARV_LEVEL: 0 OFF, 1 1.8 V, 2 2.5 V, 3 3.3 V (R551). -/
def tag_VHARV_LEVEL : OdRow := ⟨0x8002, 2, 1, .enum8, 0, .ob, false, .en, false, .chart, false, 0, (some (0, 3))⟩
/-- 0x8002 sub 3, TAG_KEY; zeros empty (R551). -/
def tag_TAG_KEY : OdRow := ⟨0x8002, 3, 1, .octets, 16, .none, false, .so, true, .vol, false, 0, none⟩
/-- 0x8002 sub 4, PAGE_CFG, byte g for group g (R551). -/
def tag_PAGE_CFG : OdRow := ⟨0x8002, 4, 1, .octets, 16, .ob, false, .en, false, .chart, false, 1, none⟩
/-- 0x8002 sub 5, OFFLINE_WRITES (R551). -/
def tag_OFFLINE_WRITES : OdRow := ⟨0x8002, 5, 1, .u16, 0, .ob, false, .none, false, .vol, false, 0, none⟩
/-- 0x8003 sub 1, TAG_PAGE (R551). -/
def tpg_TAG_PAGE : OdRow := ⟨0x8003, 1, 1, .octets, 64, .ob, false, .en, false, .vol, false, 0, none⟩
/-- 0x8003 sub 2, WSN (R551). -/
def tpg_WSN : OdRow := ⟨0x8003, 2, 1, .u16, 0, .ob, false, .none, false, .vol, false, 0, none⟩
/-- 0x8100 sub 1, ENABLE (R575). -/
def crx_ENABLE : OdRow := ⟨0x8100, 1, 1, .bool, 0, .ob, false, .en, false, .chart, false, 0, (some (0, 1))⟩
/-- 0x8100 sub 2, CLASSES: bit 0 A, 1 B, 2 C (R575). -/
def crx_CLASSES : OdRow := ⟨0x8100, 2, 1, .u8, 0, .ob, false, .en, false, .chart, false, 6, none⟩
/-- 0x8100 sub 3, CLK_MAX (1–20 MHz), Hz (R575). -/
def crx_CLK_MAX : OdRow := ⟨0x8100, 3, 1, .u32, 0, .ob, false, .en, false, .chart, false, 20000000, (some (1000000, 20000000))⟩
/-- 0x8100 sub 4, DET_POLARITY: 0 high = card, 1 low = card (R575). -/
def crx_DET_POLARITY : OdRow := ⟨0x8100, 4, 1, .enum8, 0, .ob, false, .en, false, .chart, false, 0, (some (0, 1))⟩
/-- 0x8100 sub 5, DET_FILTER (1–100 ms) (R575). -/
def crx_DET_FILTER : OdRow := ⟨0x8100, 5, 1, .dur, 0, .ob, false, .en, false, .chart, false, 655360000000, (some (65536000000, 6553600000000))⟩
/-- 0x8100 sub 6, WTX_MAX (100 ms–30 s) (R575). -/
def crx_WTX_MAX : OdRow := ⟨0x8100, 6, 1, .dur, 0, .ob, false, .en, false, .chart, false, 327680000000000, (some (6553600000000, 1966080000000000))⟩
/-- 0x8100 sub 7, CARD_ID, present card (R575). -/
def crx_CARD_ID : OdRow := ⟨0x8100, 7, 1, .octets, 16, .ob, false, .none, false, .vol, false, 0, none⟩
/-- 0x8100 sub 8, PPS_FAILS (R575). -/
def crx_PPS_FAILS : OdRow := ⟨0x8100, 8, 1, .u32, 0, .ob, false, .none, false, .vol, false, 0, none⟩
/-- 0x8100 sub 9, PROTOCOL_ERRORS (R575). -/
def crx_PROTOCOL_ERRORS : OdRow := ⟨0x8100, 9, 1, .u32, 0, .ob, false, .none, false, .vol, false, 0, none⟩
/-- 0x8202 sub 1–4, CARD_ANCHOR[1..4], SHA-256 of the CA certificate (R575). -/
def can_CARD_ANCHOR : OdRow := ⟨0x8202, 1, 4, .octets, 32, .ob, false, .so, false, .chart, false, 0, none⟩
/-- 0x8202 sub 5, CARD_REVOKED, up to 64 CARD_IDs (R575). -/
def can_CARD_REVOKED : OdRow := ⟨0x8202, 5, 1, .octets, 1024, .ob, false, .so, false, .ovl, false, 0, none⟩
/-- 0x8201 sub 1, MODE: 0 EQUIVALENT, 1 ANTIVALENT (R575). -/
def opi_MODE : OdRow := ⟨0x8201, 1, 1, .enum8, 0, .ob, false, .en, false, .chart, false, 0, (some (0, 1))⟩
/-- 0x8201 sub 2, FILTER_TIME (0–20 ms) (R575). -/
def opi_FILTER_TIME : OdRow := ⟨0x8201, 2, 1, .dur, 0, .ob, false, .en, false, .chart, false, 327680000000, (some (0, 1310720000000))⟩
/-- 0x8201 sub 3, DISC_TIME (5 ms–2 s) (R575). -/
def opi_DISC_TIME : OdRow := ⟨0x8201, 3, 1, .dur, 0, .ob, false, .en, false, .chart, false, 3276800000000, (some (327680000000, 131072000000000))⟩
/-- 0x8201 sub 4, STATE (as OPI_STATUS) (R575). -/
def opi_STATE : OdRow := ⟨0x8201, 4, 1, .enum8, 0, .ob, false, .none, false, .vol, false, 0, none⟩
/-- 0x8201 sub 5, DISCREPANCIES (R575). -/
def opi_DISCREPANCIES : OdRow := ⟨0x8201, 5, 1, .u32, 0, .ob, false, .none, false, .vol, false, 0, none⟩
/-- 0x8201 sub 10, IND_MODE (R564) (R575). -/
def opi_IND_MODE : OdRow := ⟨0x8201, 10, 1, .enum8, 0, .ob, false, .en, false, .ovl, false, 0, (some (0, 6))⟩
/-- 0x8201 sub 11, IND_SOURCE: rule or input number (R575). -/
def opi_IND_SOURCE : OdRow := ⟨0x8201, 11, 1, .u8, 0, .ob, false, .en, false, .ovl, false, 0, none⟩
/-- 0x8210 sub 1, ROLE_MIN: 2 OP, 3 EN, 4 SO (R575). -/
def rul_ROLE_MIN : OdRow := ⟨0x8210, 1, 1, .enum8, 0, .ob, false, .so, false, .chart, false, 3, (some (2, 4))⟩
/-- 0x8210 sub 2, CREDENTIAL: 0 CONTACT, 1 CONTACTLESS, 2 EITHER (R575). -/
def rul_CREDENTIAL : OdRow := ⟨0x8210, 2, 1, .enum8, 0, .ob, false, .so, false, .chart, false, 0, (some (0, 2))⟩
/-- 0x8210 sub 3, INPUT; 0xFF none (R575). -/
def rul_INPUT : OdRow := ⟨0x8210, 3, 1, .u8, 0, .ob, false, .so, false, .chart, false, 255, none⟩
/-- 0x8210 sub 4, TWO_PERSON (R575). -/
def rul_TWO_PERSON : OdRow := ⟨0x8210, 4, 1, .bool, 0, .ob, false, .so, false, .chart, false, 0, (some (0, 1))⟩
/-- 0x8210 sub 5, SECOND_ROLE (R575). -/
def rul_SECOND_ROLE : OdRow := ⟨0x8210, 5, 1, .enum8, 0, .ob, false, .so, false, .chart, false, 3, (some (2, 4))⟩
/-- 0x8210 sub 6, BIND: bit 0 PRESENCE, bit 1 INPUT (R575). -/
def rul_BIND : OdRow := ⟨0x8210, 6, 1, .u8, 0, .ob, false, .so, false, .chart, false, 1, none⟩
/-- 0x8210 sub 7, DURATION, seconds (1–2 592 000; 1 s–30 d) (R575). -/
def rul_DURATION : OdRow := ⟨0x8210, 7, 1, .u32, 0, .ob, false, .so, false, .chart, false, 3600, (some (1, 2592000))⟩
/-- 0x8210 sub 8, ACTIONS (R568) (R575). -/
def rul_ACTIONS : OdRow := ⟨0x8210, 8, 1, .u16, 0, .ob, false, .so, false, .chart, false, 0, none⟩
/-- 0x8210 sub 9, SCOPE, as record bytes 80–111 (R575). -/
def rul_SCOPE : OdRow := ⟨0x8210, 9, 1, .octets, 32, .ob, false, .so, false, .chart, false, 0, none⟩
/-- 0x8210 sub 10, TRIGGER: 0 AUTO, 1 REQUEST (R575). -/
def rul_TRIGGER : OdRow := ⟨0x8210, 10, 1, .enum8, 0, .ob, false, .so, false, .chart, false, 0, (some (0, 1))⟩
/-- 0x8210 sub 11, TWO_PERSON_WINDOW (1 s–10 min) (R575). -/
def rul_TWO_PERSON_WINDOW : OdRow := ⟨0x8210, 11, 1, .dur, 0, .ob, false, .so, false, .chart, false, 1966080000000000, (some (65536000000000, 39321600000000000))⟩
/-- 0x8220 sub 1, LEDGER, newest record of the live entry (R575). -/
def led_LEDGER : OdRow := ⟨0x8220, 1, 1, .octets, 128, .ob, false, .none, false, .vol, false, 0, none⟩
/-- 0x8200 sub 1, PERMIT_REQUEST: rule (R575). -/
def prm_PERMIT_REQUEST : OdRow := ⟨0x8200, 1, 1, .u16, 0, .none, false, .op, false, .vol, false, 0, none⟩
/-- 0x8200 sub 2, REVOKE: entry number (R575). -/
def prm_REVOKE : OdRow := ⟨0x8200, 2, 1, .u32, 0, .none, false, .op, false, .vol, false, 0, none⟩
/-- 0x8200 sub 3, CLEAR_IN_DOUBT: entry number (R575). -/
def prm_CLEAR_IN_DOUBT : OdRow := ⟨0x8200, 3, 1, .u32, 0, .none, false, .so, false, .vol, false, 0, none⟩
/-- 0x8200 sub 4, IN_DOUBT_COUNT (R575). -/
def prm_IN_DOUBT_COUNT : OdRow := ⟨0x8200, 4, 1, .u16, 0, .ob, false, .none, false, .vol, false, 0, none⟩
/-- 0x8200 sub 5, GRANTS (R575). -/
def prm_GRANTS : OdRow := ⟨0x8200, 5, 1, .u32, 0, .ob, false, .none, false, .vol, false, 0, none⟩
/-- 0x8200 sub 6, REFUSALS (R575). -/
def prm_REFUSALS : OdRow := ⟨0x8200, 6, 1, .u32, 0, .ob, false, .none, false, .vol, false, 0, none⟩
/-- 0x9000 sub 1, SCRUB_PERIOD, seconds (3 600–2 592 000; 1 h–30 d) (R596). -/
def fls_SCRUB_PERIOD : OdRow := ⟨0x9000, 1, 1, .u32, 0, .ob, false, .en, false, .chart, false, 604800, (some (3600, 2592000))⟩
/-- 0x9000 sub 2, CUST_IMAGE_SECTORS (0–576) (R596). -/
def fls_CUST_IMAGE_SECTORS : OdRow := ⟨0x9000, 2, 1, .u16, 0, .ob, false, .en, false, .chart, false, 128, (some (0, 576))⟩
/-- 0x9000 sub 3, SPARES_LEFT, all banks (R596). -/
def fls_SPARES_LEFT : OdRow := ⟨0x9000, 3, 1, .u8, 0, .ob, false, .none, false, .vol, false, 40, none⟩
/-- 0x9000 sub 4, RETIRED (R596). -/
def fls_RETIRED : OdRow := ⟨0x9000, 4, 1, .u16, 0, .ob, false, .none, false, .vol, false, 0, none⟩
/-- 0x9000 sub 5, REFRESHES (R596). -/
def fls_REFRESHES : OdRow := ⟨0x9000, 5, 1, .u32, 0, .ob, false, .none, false, .vol, false, 0, none⟩
/-- 0x9000 sub 6, ERASE_RESUMED (R596). -/
def fls_ERASE_RESUMED : OdRow := ⟨0x9000, 6, 1, .u32, 0, .ob, false, .none, false, .vol, false, 0, none⟩
/-- 0x9000 sub 7, UNCORRECTABLE (R596). -/
def fls_UNCORRECTABLE : OdRow := ⟨0x9000, 7, 1, .u32, 0, .ob, false, .none, false, .vol, false, 0, none⟩
/-- 0x9000 sub 8, CORRECTED (merging source 0x014) (R596). -/
def fls_CORRECTED : OdRow := ⟨0x9000, 8, 1, .u32, 0, .ob, false, .none, false, .vol, false, 0, none⟩
/-- 0x9001 sub 1, SPARES_LEFT (0–10) (R596). -/
def bnk_SPARES_LEFT : OdRow := ⟨0x9001, 1, 1, .u8, 0, .ob, false, .none, false, .vol, false, 10, (some (0, 10))⟩
/-- 0x9001 sub 2, ERASES (R596). -/
def bnk_ERASES : OdRow := ⟨0x9001, 2, 1, .u64, 0, .ob, false, .none, false, .vol, false, 0, none⟩
/-- 0x9001 sub 3, SUSPENDS (R596). -/
def bnk_SUSPENDS : OdRow := ⟨0x9001, 3, 1, .u32, 0, .ob, false, .none, false, .vol, false, 0, none⟩
/-- 0x9001 sub 4, MAX_CYCLES, any sector (R596). -/
def bnk_MAX_CYCLES : OdRow := ⟨0x9001, 4, 1, .u32, 0, .ob, false, .none, false, .vol, false, 0, none⟩
/-- 0x9002 sub 1, CYCLES (R596). -/
def wea_CYCLES : OdRow := ⟨0x9002, 1, 1, .u32, 0, .ob, false, .none, false, .vol, false, 0, none⟩
/-- 0x9002 sub 2, LAST_PULSES (R596). -/
def wea_LAST_PULSES : OdRow := ⟨0x9002, 2, 1, .u8, 0, .ob, false, .none, false, .vol, false, 0, none⟩
/-- 0x9002 sub 3, MAX_PULSES (R596). -/
def wea_MAX_PULSES : OdRow := ⟨0x9002, 3, 1, .u8, 0, .ob, false, .none, false, .vol, false, 0, none⟩
/-- 0x9002 sub 4, CORRECTED (R596). -/
def wea_CORRECTED : OdRow := ⟨0x9002, 4, 1, .u32, 0, .ob, false, .none, false, .vol, false, 0, none⟩
/-- 0x9002 sub 5, STATE (as FLS_WEAR) (R596). -/
def wea_STATE : OdRow := ⟨0x9002, 5, 1, .enum8, 0, .ob, false, .none, false, .vol, false, 0, none⟩
/-- 0x9010 sub 1, DATA (R589) (R596). -/
def cus_DATA : OdRow := ⟨0x9010, 1, 1, .octets, 16384, .ob, false, .en, false, .vol, false, 255, none⟩
/-- 0x9010 sub 2, ERASE: write 1 (R596). -/
def cus_ERASE : OdRow := ⟨0x9010, 2, 1, .enum8, 0, .none, false, .en, false, .vol, false, 0, (some (1, 1))⟩
/-- 0x9010 sub 3, STATE: 0 ERASED, 1 PROGRAMMED, 2 IMAGE, 3 LOCKED (R596). -/
def cus_STATE : OdRow := ⟨0x9010, 3, 1, .enum8, 0, .ob, false, .none, false, .vol, false, 0, (some (0, 3))⟩
/-- 0x9020 sub 1, FIRST, customer sector (R596). -/
def rgn_FIRST : OdRow := ⟨0x9020, 1, 1, .u16, 0, .ob, false, .en, false, .vol, false, 0, none⟩
/-- 0x9020 sub 2, COUNT (R596). -/
def rgn_COUNT : OdRow := ⟨0x9020, 2, 1, .u16, 0, .ob, false, .en, false, .vol, false, 0, none⟩
/-- 0x9020 sub 3, MODE: 0 NONE, 1 WRITE_LOCK, 2 READ_WRITE_LOCK (R596). -/
def rgn_MODE : OdRow := ⟨0x9020, 3, 1, .enum8, 0, .ob, false, .en, false, .vol, false, 0, (some (0, 2))⟩
/-- 0x9020 sub 4, SET_PASSWORD: old (16), new (16) (R596). -/
def rgn_SET_PASSWORD : OdRow := ⟨0x9020, 4, 1, .octets, 32, .none, false, .en, false, .vol, false, 0, none⟩
/-- 0x9020 sub 5, UNLOCK: password (R596). -/
def rgn_UNLOCK : OdRow := ⟨0x9020, 5, 1, .octets, 16, .none, false, .en, false, .vol, false, 0, none⟩
/-- 0x9020 sub 6, LOCK: write 1 (R596). -/
def rgn_LOCK : OdRow := ⟨0x9020, 6, 1, .enum8, 0, .none, false, .en, false, .vol, false, 0, (some (1, 1))⟩
/-- 0x9020 sub 7, LOCKED (R596). -/
def rgn_LOCKED : OdRow := ⟨0x9020, 7, 1, .bool, 0, .ob, false, .none, false, .vol, false, 1, (some (0, 1))⟩
/-- 0x9020 sub 8, FAILS (R596). -/
def rgn_FAILS : OdRow := ⟨0x9020, 8, 1, .u32, 0, .ob, false, .none, false, .vol, false, 0, none⟩
/-- 0x7000 sub 1, POWER_LIMIT, 0.1 W (300–1 500) (R614). -/
def pwr_POWER_LIMIT : OdRow := ⟨0x7000, 1, 1, .u16, 0, .ob, false, .en, false, .ovl, false, 1200, (some (300, 1500))⟩
/-- 0x7000 sub 2, THERMAL_TARGET, 0.01 °C (100–138 °C) (R614). -/
def pwr_THERMAL_TARGET : OdRow := ⟨0x7000, 2, 1, .i32, 0, .ob, false, .en, false, .chart, false, 13000, (some (10000, 13800))⟩
/-- 0x7000 sub 3, BOARD_LIMIT, 0.1 W; 0 none (R614). -/
def pwr_BOARD_LIMIT : OdRow := ⟨0x7000, 3, 1, .u16, 0, .ob, false, .en, false, .chart, false, 0, none⟩
/-- 0x7000 sub 4, AUX_LIMIT, 100 mA units (1–10) (R614). -/
def pwr_AUX_LIMIT : OdRow := ⟨0x7000, 4, 1, .u8, 0, .ob, false, .en, false, .chart, false, 5, (some (1, 10))⟩
/-- 0x7000 sub 5, MODEL_MARGIN, % (0–50) (R614). -/
def pwr_MODEL_MARGIN : OdRow := ⟨0x7000, 5, 1, .u8, 0, .ob, false, .en, false, .chart, false, 10, (some (0, 50))⟩
/-- 0x7000 sub 6, BIN_LIMIT[1..3], 100 mA units, ascending (R614). -/
def pwr_BIN_LIMIT1 : OdRow := ⟨0x7000, 6, 1, .u16, 0, .ob, false, .en, false, .chart, false, 300, none⟩
/-- 0x7000 sub 7, BIN_LIMIT[1..3], 100 mA units, ascending (R614). -/
def pwr_BIN_LIMIT2 : OdRow := ⟨0x7000, 7, 1, .u16, 0, .ob, false, .en, false, .chart, false, 600, none⟩
/-- 0x7000 sub 8, BIN_LIMIT[1..3], 100 mA units, ascending (R614). -/
def pwr_BIN_LIMIT3 : OdRow := ⟨0x7000, 8, 1, .u16, 0, .ob, false, .en, false, .chart, false, 900, none⟩
/-- 0x7000 sub 9, P_OTHER, 0.1 W (R614). -/
def pwr_P_OTHER : OdRow := ⟨0x7000, 9, 1, .u16, 0, .ob, false, .none, false, .vol, false, 0, none⟩
/-- 0x7000 sub 10, SHARE, 0.1 W (R614). -/
def pwr_SHARE : OdRow := ⟨0x7000, 10, 1, .u16, 0, .ob, false, .none, false, .vol, false, 0, none⟩
/-- 0x7000 sub 11, T_HOT, 0.01 °C (R614). -/
def pwr_T_HOT : OdRow := ⟨0x7000, 11, 1, .i32, 0, .ob, false, .none, false, .vol, false, 0, none⟩
/-- 0x7000 sub 12–15, BIN_DROOP[0..3], 0.1 mV; −1 invalid (R614). -/
def pwr_BIN_DROOP : OdRow := ⟨0x7000, 12, 4, .i32, 0, .ob, false, .none, false, .vol, false, (-1), none⟩
/-- 0x7000 sub 16, THROTTLED_EPOCHS (R614). -/
def pwr_THROTTLED_EPOCHS : OdRow := ⟨0x7000, 16, 1, .u64, 0, .ob, false, .none, false, .vol, false, 0, none⟩
/-- 0x7000 sub 17, PAUSES applied (R614). -/
def pwr_PAUSES : OdRow := ⟨0x7000, 17, 1, .u32, 0, .ob, false, .none, false, .vol, false, 0, none⟩
/-- 0x7001 sub 1, DEMAND, 100 mA units (R614). -/
def pcs_DEMAND : OdRow := ⟨0x7001, 1, 1, .u16, 0, .ob, false, .none, false, .vol, false, 0, none⟩
/-- 0x7001 sub 2, GRANT, 100 mA units (R614). -/
def pcs_GRANT : OdRow := ⟨0x7001, 2, 1, .u16, 0, .ob, false, .none, false, .vol, false, 0, none⟩
/-- 0x7001 sub 3, THROTTLED_TIME (R614). -/
def pcs_THROTTLED_TIME : OdRow := ⟨0x7001, 3, 1, .dur, 0, .ob, false, .none, false, .vol, false, 0, none⟩
/-- 0x1001 sub 1, START_CAUSE (R616) (R624). -/
def sta_START_CAUSE : OdRow := ⟨0x1001, 1, 1, .enum8, 0, .ob, false, .none, false, .vol, false, 0, none⟩
/-- 0x1001 sub 2, START_PATH (R616) (R624). -/
def sta_START_PATH : OdRow := ⟨0x1001, 2, 1, .enum8, 0, .ob, false, .none, false, .vol, false, 0, none⟩
/-- 0x1001 sub 3, START_TIME (R624). -/
def sta_START_TIME : OdRow := ⟨0x1001, 3, 1, .dur, 0, .ob, false, .none, false, .vol, false, 0, none⟩
/-- 0x1001 sub 4, STARTS (R624). -/
def sta_STARTS : OdRow := ⟨0x1001, 4, 1, .u32, 0, .ob, false, .none, false, .vol, false, 0, none⟩
/-- 0x1001 sub 5, SLOT_A_STATE: 0 EMPTY, 1 PENDING, 2 TRYING, 3 CONFIRMED, 4 FAILED (R624). -/
def sta_SLOT_A_STATE : OdRow := ⟨0x1001, 5, 1, .enum8, 0, .ob, false, .none, false, .vol, false, 0, (some (0, 4))⟩
/-- 0x1001 sub 6, SLOT_B_STATE (as SLOT_A_STATE) (R624). -/
def sta_SLOT_B_STATE : OdRow := ⟨0x1001, 6, 1, .enum8, 0, .ob, false, .none, false, .vol, false, 0, none⟩
/-- 0x1001 sub 7, SLOT_A_VERSION, IMAGE_VERSION (R624). -/
def sta_SLOT_A_VERSION : OdRow := ⟨0x1001, 7, 1, .u32, 0, .ob, false, .none, false, .vol, false, 0, none⟩
/-- 0x1001 sub 8, SLOT_B_VERSION (R624). -/
def sta_SLOT_B_VERSION : OdRow := ⟨0x1001, 8, 1, .u32, 0, .ob, false, .none, false, .vol, false, 0, none⟩
/-- 0x1001 sub 9, FW_FALLBACKS (R624). -/
def sta_FW_FALLBACKS : OdRow := ⟨0x1001, 9, 1, .u32, 0, .ob, false, .none, false, .vol, false, 0, none⟩
/-- 0x1001 sub 10, RESTART: write 1 for a warm start (R624). -/
def sta_RESTART : OdRow := ⟨0x1001, 10, 1, .enum8, 0, .none, false, .en, true, .vol, false, 0, (some (1, 1))⟩

/-- A piece of the object table, in table order. -/
def rows0 : List OdRow := [brg_TYPE, brg_ENCODING, brg_UNIT_NUM, brg_UNIT_DEN, brg_DIR_INVERT, brg_ORIGIN, brg_FIT_ORDER, brg_FIT_N, brg_ACQ_M, brg_VMIN, brg_VMAX, brg_EDGE_GATE, brg_COAST_TIME, brg_COMMIT_HORIZON, brg_TRACK_TO_EDGE, brg_UNC_K, brg_LINE_ERR, brg_PREDICT_LIMIT, brg_Z_MODE, brg_Z_HOME, brg_Z_TOL, brg_GLITCH_WIDTH, brg_QUAD_LIMIT, brg_AUTO_REACQ, brg_TERMINATION, brg_ENABLE, brg_DISABLE_MODE, brg_POSITION_SET, ssi_SSI_CLOCK, ssi_SSI_BITS, ssi_SSI_CODE, ssi_SSI_PERIOD, ssi_SSI_LATENCY, ssi_SSI_PARITY, ssi_SSI_ERR_LIMIT, ssi_SSI_RECOVERY, mns_HYSTERESIS, mns_PHASES, mns_SEQUENCE, mns_AMPLITUDE_MIN]
/-- A piece of the object table, in table order. -/
def rows1 : List OdRow := [nbr_SRC_SESSION, nbr_SRC_BEARING, nbr_SRC_MAX_UNC, vbr_V_SOURCE, vbr_V_A, vbr_V_B, pub_PUB_FERRY, pub_PUB_PERIOD, pub_PUB_SESSION, cal_CAL_POINTS, cal_CAL_PERIOD, cal_CAL_TABLE, cal_CAL_VLOW, cal_CAL_VHIGH, cal_CAL_TEMP, cal_CAL_LOADBIN, cal_CAL_RESID, cal_CAL_PENALTY, cal_CAL_CAPTURE, cal_CAL_ABORT_REASON, cal_DROOP_COEF, cal_IN_DELAY, bst_STATE, bst_QUALITY, bst_POS_REF, bst_POSITION, bst_SAMPLE_TIME, bst_VELOCITY, bst_ACCEL, bst_UNCERTAINTY, bst_UNC_TIME, bst_RESIDUAL, bst_EDGES, bst_GLITCHES, bst_QUAD_ERRORS, bst_INDEX_DEVIATION, bst_COAST_EVENTS, bst_SRC_DISCARDS, bst_LAST_CAUSE, bst_LOAD_BIN]
/-- A piece of the object table, in table order. -/
def rows2 : List OdRow := [pin_MODE, pin_POLARITY, pin_IDLE_LEVEL, pin_SAFE_LEVEL, pin_DRIVE, pin_SENSE_ENABLE, pin_SENSE_LIMIT, pin_ENABLE, pin_DISABLE_MODE, pcl_FACT_BIN, pcl_FACT_RISE, pcl_FACT_FALL, pcl_FACT_TEMP, pcl_RISE, pcl_FALL, pcl_VALID, pcl_BIN_TEMP, pcl_DROOP_COEF, pcl_RECAL_ENABLE, pst_LAST_SCHED, pst_LAST_DEV, pst_MAX_ABS_DEV, pst_EDGES, pst_DEVIATIONS, pst_MISSES, pst_DEFERRALS, pst_CONFLICTS, lbr_NET_COMMIT_DELAY, lbr_PENDING, lbr_LATE_SAMPLES, lch_TIME_HORIZON, lch_OVL_DECIDE, lch_LATE_COUNT, lch_DROPPED, lch_HELD, lch_RELEASE, lch_CANCEL, tpl_TYPE, tpl_LENGTH, tpl_ARG_OFFSET]
/-- A piece of the object table, in table order. -/
def rows3 : List OdRow := [tpl_STAMPS, tpl_PAYLOAD, que_CLASS, que_TARGET, que_SOURCES, que_SESSION, que_LANE, que_CONVOY, que_CONFIRM_TIMEOUT, que_ENABLE, que_DISABLE_MODE, qst_STATE, qst_IN_FLIGHT, qst_NEXT_SEQ, qst_ACCEPTED, qst_REFUSED, qst_FAILED, qst_REPLAYED, qst_CANCEL_LATE, qst_LATE_CONFIRMS, qst_DOORBELL_ERRORS, qst_GAPS, qst_PIER, qac_CANCEL_SEQ, cvy_MODE, cvy_NEXT_CSEQ, cvy_MEMBERS, man_ITEMS, man_CELLS_FREE, man_AREA_A, man_AREA_B, man_LAST_SAVE_BLOCKS, man_LAST_SAVE_TIME, man_SAVE_COUNT, man_REPL_RTT, man_REPL_RTT_LIMIT, man_RECORDS_RECOVERED, man_MANIFEST_LOST_COUNT, man_SHUTDOWN, prt_MODE]
/-- A piece of the object table, in table order. -/
def rows4 : List OdRow := [prt_MAC_ADDR, prt_VLAN, prt_PRIORITY, prt_ENCAP, prt_ETHERTYPE, prt_UDP_PORT, prt_IPV4_ADDR, prt_IPV6_ADDR, prt_MTU, prt_FLOW, prt_PFC_PRIORITIES, prt_GROUP, prt_ENABLE, prt_DISABLE_MODE, prt_LINK, prt_RX_FRAMES, prt_TX_FRAMES, prt_CRC_ERRORS, prt_TAG_FAILS, prt_FORMAT_DROPS, prt_UNKNOWN_SESSION, tim_PROFILE, tim_DOMAIN_NUMBER, tim_TIME_PORTS, tim_STEP_MODE, tim_PRIORITY1, tim_PRIORITY2, tim_LOCK_THRESHOLD, tim_LOCK_COUNT, tim_REF_SOURCE, tim_HOLDOVER_RATE, tim_HOLDOVER_LIMIT, tim_PPS_OUT_ENABLE, tim_TIME_STATE, tim_OFFSET, tim_TIME_UNC, tim_GM_IDENTITY, tim_STEPS_REMOVED, tim_MEAN_PATH_DELAY, ses_SESSION_ID]
/-- A piece of the object table, in table order. -/
def rows5 : List OdRow := [ses_INITIATE, ses_PORT, ses_PORT_ALT, ses_PEER_MAC, ses_PEER_IP, ses_CURVE, ses_PEER_CERT_HASH, ses_LEGACY, ses_LEGACY_KEY, ses_COMPAT, ses_USAGE_LIMIT, ses_ROLE, ses_PIER, ses_HB_PERIOD, ses_HB_TIMEOUT, ses_RETX_TIME, ses_RETX_MAX, ses_BUSY_LIMIT, ses_KEY_OVERLAP, ses_REKEY_AUTO, ses_RESUME_LIFETIME, ses_SAFE_ENABLE, ses_SAFE_PAYLOAD, ses_SAFE_REPEAT, ses_ENABLE, ses_DISABLE_MODE, sst_STATE, sst_CLAIM, sst_TX_COUNTER, sst_RX_HIGH, sst_RX_FLOOR, sst_KEY_GENERATION, sst_KEY_USES, sst_SAFE_COUNT, sst_DUPLICATES, sst_STALE, sst_CLAIM_REJECTS, sst_IN_DOUBT, sst_RETRANSMISSIONS, sst_HOME_PIER]
/-- A piece of the object table, in table order. -/
def rows6 : List OdRow := [sst_LAST_REFUSE, sac_REKEY, sac_SAFE_SEND, sac_REOPEN, str_SRC_SESSION, str_STAMP_AT, str_BEARING_A, str_BEARING_B, str_EPOCH_TIME, str_EPOCH_RECORDS, str_REORDER_TIME, str_QUEUE, str_FWD_SESSION, str_SIGN_KEY, str_RECORD_BASE, str_RECORD_SLOT, str_RECORD_SLOTS, str_SEAL_BASE, str_SEAL_SLOTS, str_ENABLE, str_SIGN_BUDGET, str_CERT_SLOTS, ssr_RECORDS, ssr_MISSING, ssr_LATE_RECORDS, ssr_EPOCH, ssr_CHAIN, ssr_SIGN_WAITING, ssr_CERT_COUNT, crt_CERT_REQUEST, crt_CERT_STATE, crt_CERT_LAST, fry_ENABLE, fry_TX_PRESET, fry_ASYMMETRY, fry_STATE, fry_WIDTH, fry_RETRIES, fry_TRAININGS, fry_ROUND_TRIP]
/-- A piece of the object table, in table order. -/
def rows7 : List OdRow := [flo_TOPOLOGY, flo_MEMBERS, flo_MEMBER_UNIT_ID, flo_OWN_ID, flo_MASTER_ID, flo_ALIGN_STATE, flo_ALIGN_OFFSET, flo_ALIGN_UNC, flo_HOPS_TO_MASTER, twn_TWIN_MODE, twn_TWIN_UNIT, twn_TWIN_SESSION_A, twn_TWIN_SESSION_B, twn_DETECT_TIME, twn_JOIN_TIME, twn_YIELD_ON_PIER, twn_ISOLATION_CONFIRM, twn_ROLE, twn_CLAIM, twn_PEER_CLAIM, twn_CLAIM_CEILING, twn_TAKEOVERS, twn_DIVERGED, twn_RESYNC_PROGRESS, twn_PATHS, twn_YIELD, twn_PEER_DEAD, cht_CHART_DIGEST, cht_CHART_SLOT, cht_CHART_STATE, cht_SLOT_A_DIGEST, cht_SLOT_B_DIGEST, cht_SWITCH_INSTANT, cht_CHART_FLOOR, cht_CHART_VERSION, ovs_SET, ovs_LAYER, ovs_DIGEST, ovs_BASE_DIGEST, ovs_STATE]
/-- A piece of the object table, in table order. -/
def rows8 : List OdRow := [lay_ACTIVE_SET, lay_DIGEST, lay_SINCE, lay_HANDLE, lay_SWITCHES, stg_STAGE, stg_STAGE_LENGTH, stg_LAST_STATUS, prn_CERT_HASH, prn_ROLE, mbx_MAILBOX_ROLE, mbx_MB_NOTIFY_QUEUE, mbx_SUBSCRIPTIONS, hif_WINDOW_BASE, hif_WINDOW_SIZE, hif_FLRS, hif_DMA_ERRORS, hif_ACCESS_DENIED, qpf_QUEUE_PF, rte_ROUTE, lnk_LINK_WIDTH, lnk_LINK_SPEED, lnk_AER_CORRECTABLE, lnk_AER_UNCORRECTABLE, lnk_MB_OVERRUNS, lnk_NOTICES_DROPPED, lan_IMAGE_DIGEST, lan_PAIRED, lan_WDOG_TIME, lan_DATA_SESSION, lan_ENABLE, lan_DISABLE_MODE, lst_ORIGIN, lst_STATE, lst_PC, lst_CYCLES, lst_FAULTS, lst_LAST_FAULT, lst_FRAME_DROPS, lst_INBOX_USED]
/-- A piece of the object table, in table order. -/
def rows9 : List OdRow := [lst_LOCKS_HELD, lst_MISUSE, prg_PROG_WORDS_CUSTOMER, prg_PROG_WORDS_RESIDENT, tsk_IMAGE_DIGEST, tsk_PURSER, tsk_PRIORITY, tsk_ROLE, tsk_LANES, tsk_ENABLE, tst_STATE, tst_PURSER_NOW, tst_PC, tst_CYCLES, tst_LAST_FAULT, tst_EXIT_CODE, tst_MEMORY, tst_TWICE_MISMATCHES, exc_LAST_RESORT, exc_DOUBLE_FAULTS, exc_IMPRECISE_NOTICES, exc_EXCEPTIONS, acu_DENIALS, acu_REGIONS_ENABLED, acu_LAST_DENIED, cip_ENABLE, cip_DISABLE_MODE, cip_STATE, cip_HOLDER, cip_JOBS, cip_BYTES, cip_TAG_FAILS, cip_REFUSALS, cic_LANE_CORES_MAX, cic_LOCK_HOLD_LIMIT, cic_SELFTEST_PERIOD, hsh_SELFTEST_PERIOD, hsh_CORES_IN_SERVICE, hsh_COMPRESSIONS, hsh_SIGNATURES]
/-- A piece of the object table, in table order. -/
def rows10 : List OdRow := [hsh_VERIFICATIONS, hsh_SIG_INVALID, hsh_FAULTS, hsh_GROUPS_GRANTED, bgn_HOLDER, bgn_COMMANDS, bgn_DISCARDED, bgn_DESC_REJECTS, bgn_BN_JOB, bgn_JOB_STATE, bgn_JOB_RESULT, rng_STATE, rng_GROUPS_OK, rng_FAILS, rng_BASE_RESEEDS, rcl_REQUESTS, rcl_RESEEDS, key_STATE, key_POLICY, key_KEYH, key_USES, key_PUBLIC, kac_GENERATE, kac_IMPORT, kac_RESTRICT, kac_DESTROY, kac_ERASURES, idn_VENDOR_ID, idn_DEVICE_ID, idn_ORDERING_CODE, idn_STEPPING, idn_DIE_ID, idn_FW_VERSION, idn_FW_SLOT, idn_FW_DIGEST, idn_FW_FLOOR, idn_UNIT_ID, idn_IDENTITY_PUBLIC, idn_ATTEST_PUBLIC, idn_BIRTH_PUBLIC]
/-- A piece of the object table, in table order. -/
def rows11 : List OdRow := [idn_BIRTH_CERT, idn_DEVICE_CHAIN, lcy_LC_STATE, lcy_TEST_TOKENS, lcy_DIAG_TOKENS, lcy_NONCE, lcy_LC_REQUEST, lcy_LC_RESULT, lcy_ATTEST_CHALLENGE, lcy_ATTEST_STATE, lcy_ATTEST_RECORD, lcy_PROVISION_RECORD, lcy_TRANSITION_RECORD, lcy_DEBUG_SCOPE, lcy_TRANSITIONS, anc_STATE, anc_RIGHTS, anc_PUBLIC, flt_SEVERITY, flt_ERASE, flt_MIN_SEVERITY, flt_MERGE_WINDOW, flt_MERGE_LIMIT, flt_LIMIT_SEVERITY, flt_COUNT, flt_LAST_TIME, fcu_STATE, fcu_FAULTN_MIN, fcu_RELEASE_HOLD, fcu_RELEASE_SAFE, fcu_LOG_FLASH_MIN, fcu_LOG, fcu_LOG_DROPPED, fmp_FUNCTION, fmp_CODE, fmp_DOMAIN, fmp_UNIT, tmp_EVENTS, tmp_IN_WINDOW, tmp_LEVEL1_COUNT]
/-- A piece of the object table, in table order. -/
def rows12 : List OdRow := [cls_ENABLE, cls_TYPES, cls_RATE_MAX, cls_FIELD_LEVEL, cls_PING_WIDTH, cls_PING_PERIOD, cls_DETECT_AMPL, cls_DETECT_PHASE, cls_ANTICOLL_FIRST, cls_PRESENCE_PERIOD, cls_FWT_MAX, cls_FIELD_GRANT, cls_RF_WAIT_MAX, cls_CREDENTIALS, cls_PINGS, cls_DETECTIONS, cls_FALSE_DETECTIONS, cls_COLLISIONS, cls_NOT_ISO_DEP, cls_EXTERNAL_FIELDS, crd_STATE, crd_CARD_TYPE, crd_UID, crd_CARD_ID, crd_RATE, tag_TAG_ENABLE, tag_VHARV_LEVEL, tag_TAG_KEY, tag_PAGE_CFG, tag_OFFLINE_WRITES, tpg_TAG_PAGE, tpg_WSN, crx_ENABLE, crx_CLASSES, crx_CLK_MAX, crx_DET_POLARITY, crx_DET_FILTER, crx_WTX_MAX, crx_CARD_ID, crx_PPS_FAILS]
/-- A piece of the object table, in table order. -/
def rows13 : List OdRow := [crx_PROTOCOL_ERRORS, can_CARD_ANCHOR, can_CARD_REVOKED, opi_MODE, opi_FILTER_TIME, opi_DISC_TIME, opi_STATE, opi_DISCREPANCIES, opi_IND_MODE, opi_IND_SOURCE, rul_ROLE_MIN, rul_CREDENTIAL, rul_INPUT, rul_TWO_PERSON, rul_SECOND_ROLE, rul_BIND, rul_DURATION, rul_ACTIONS, rul_SCOPE, rul_TRIGGER, rul_TWO_PERSON_WINDOW, led_LEDGER, prm_PERMIT_REQUEST, prm_REVOKE, prm_CLEAR_IN_DOUBT, prm_IN_DOUBT_COUNT, prm_GRANTS, prm_REFUSALS, fls_SCRUB_PERIOD, fls_CUST_IMAGE_SECTORS, fls_SPARES_LEFT, fls_RETIRED, fls_REFRESHES, fls_ERASE_RESUMED, fls_UNCORRECTABLE, fls_CORRECTED, bnk_SPARES_LEFT, bnk_ERASES, bnk_SUSPENDS, bnk_MAX_CYCLES]
/-- A piece of the object table, in table order. -/
def rows14 : List OdRow := [wea_CYCLES, wea_LAST_PULSES, wea_MAX_PULSES, wea_CORRECTED, wea_STATE, cus_DATA, cus_ERASE, cus_STATE, rgn_FIRST, rgn_COUNT, rgn_MODE, rgn_SET_PASSWORD, rgn_UNLOCK, rgn_LOCK, rgn_LOCKED, rgn_FAILS, pwr_POWER_LIMIT, pwr_THERMAL_TARGET, pwr_BOARD_LIMIT, pwr_AUX_LIMIT, pwr_MODEL_MARGIN, pwr_BIN_LIMIT1, pwr_BIN_LIMIT2, pwr_BIN_LIMIT3, pwr_P_OTHER, pwr_SHARE, pwr_T_HOT, pwr_BIN_DROOP, pwr_THROTTLED_EPOCHS, pwr_PAUSES, pcs_DEMAND, pcs_GRANT, pcs_THROTTLED_TIME, sta_START_CAUSE, sta_START_PATH, sta_START_TIME, sta_STARTS, sta_SLOT_A_STATE, sta_SLOT_B_STATE, sta_SLOT_A_VERSION]
/-- A piece of the object table, in table order. -/
def rows15 : List OdRow := [sta_SLOT_B_VERSION, sta_FW_FALLBACKS, sta_RESTART]

/-- Every row of the object dictionary. -/
def rows : List OdRow := rows0 ++ rows1 ++ rows2 ++ rows3 ++ rows4 ++ rows5 ++ rows6 ++ rows7 ++ rows8 ++ rows9 ++ rows10 ++ rows11 ++ rows12 ++ rows13 ++ rows14 ++ rows15

/-- The instance range of an index: first instance and number of instances (R256). -/
def instances (index : Nat) : Option (Nat × Nat) :=
  match index with
  | 0x1000 => some (0, 1)
  | 0x1001 => some (0, 1)
  | 0x1100 => some (0, 1)
  | 0x1110 => some (0, 16)
  | 0x1200 => some (0, 1)
  | 0x1202 => some (0, 48)
  | 0x1203 => some (0, 4)
  | 0x1208 => some (0, 1)
  | 0x1210 => some (0, 256)
  | 0x1211 => some (0, 1)
  | 0x2000 => some (0, 16)
  | 0x2001 => some (0, 16)
  | 0x2002 => some (0, 16)
  | 0x2003 => some (0, 16)
  | 0x2004 => some (0, 16)
  | 0x2005 => some (0, 16)
  | 0x2008 => some (0, 16)
  | 0x2010 => some (0, 16)
  | 0x2100 => some (0, 32)
  | 0x2101 => some (0, 32)
  | 0x2108 => some (0, 32)
  | 0x2110 => some (0, 16)
  | 0x2120 => some (0, 1)
  | 0x2140 => some (0, 4096)
  | 0x3000 => some (0, 16384)
  | 0x3001 => some (0, 16384)
  | 0x3002 => some (0, 16384)
  | 0x3010 => some (0, 1024)
  | 0x3400 => some (0, 1)
  | 0x4000 => some (0, 32)
  | 0x4010 => some (0, 1)
  | 0x4100 => some (0, 16384)
  | 0x4101 => some (0, 16384)
  | 0x4102 => some (0, 16384)
  | 0x4110 => some (0, 1024)
  | 0x4111 => some (0, 1024)
  | 0x4112 => some (0, 1024)
  | 0x4200 => some (0, 8)
  | 0x4201 => some (0, 1)
  | 0x4300 => some (0, 1)
  | 0x5000 => some (0, 68)
  | 0x5001 => some (0, 17)
  | 0x5010 => some (0, 1)
  | 0x5020 => some (0, 1)
  | 0x5030 => some (0, 1)
  | 0x5031 => some (0, 64)
  | 0x5040 => some (0, 4096)
  | 0x5041 => some (0, 1)
  | 0x6000 => some (0, 1024)
  | 0x6001 => some (0, 1)
  | 0x6002 => some (0, 1024)
  | 0x6010 => some (0, 6)
  | 0x7000 => some (0, 1)
  | 0x7001 => some (1, 5)
  | 0x8000 => some (0, 1)
  | 0x8001 => some (1, 4)
  | 0x8002 => some (0, 1)
  | 0x8003 => some (0, 128)
  | 0x8100 => some (0, 2)
  | 0x8200 => some (0, 1)
  | 0x8201 => some (0, 8)
  | 0x8202 => some (0, 1)
  | 0x8210 => some (0, 64)
  | 0x8220 => some (0, 256)
  | 0x9000 => some (0, 1)
  | 0x9001 => some (0, 4)
  | 0x9002 => some (0, 2048)
  | 0x9010 => some (0, 576)
  | 0x9020 => some (0, 64)
  | 0xA000 => some (0, 4)
  | 0xA001 => some (0, 16384)
  | 0xA010 => some (0, 17408)
  | 0xA020 => some (0, 1)
  | 0xB000 => some (0, 136)
  | 0xB001 => some (0, 136)
  | 0xB002 => some (0, 17)
  | 0xB010 => some (0, 16)
  | 0xB011 => some (0, 16)
  | 0xB020 => some (0, 140)
  | 0xB021 => some (0, 174)
  | _ => none

end Sys2Proof.Machine.Od
end

