-- ==== Sys2Proof/Machine/HostIfTypes.lean ====
section
/-!
DEFINITION. State of the host interface: functions, event routes, MSI-X vectors, interrupt pins and mailbox (R280–R313).
-/
namespace Sys2Proof.Machine

/-- An event notice as it travels to its destinations (R291, R294). -/
structure Notice where
  source : Nat
  code : Nat
  inst : Nat
  severity : Nat
  merged : Bool
  at_ : Ticks
  detail : List Int
deriving DecidableEq, Repr

/-- One MSI-X vector (R297, R304, R305). `masked` is its bit in the MSI-X table, whose message address and data stand
beside it, `held` its bit in the PBA. -/
structure Vec where
  count : Nat := 1
  time : Nat := 0
  pending : Nat := 0
  firstAt : Ticks := 0
  msgAddr : Nat := 0
  msgData : Nat := 0
  masked : Bool := true
  held : Bool := false
deriving DecidableEq, Repr

/-- One PCIe physical function (R281, R300). -/
structure PcieFn where
  d3hot : Bool := false
  masked : Bool := false
deriving DecidableEq, Repr

/-- The OD mailbox (R299, R309, R310): the request being executed, and its response once there is one. `answer` is what the
executed request will be answered with at MB_RESPONSE. -/
structure Mailbox where
  busy : Bool := false
  responseReady : Bool := false
  request : Bytes := []
  answer : Option Bytes := none
  response : Bytes := []
deriving DecidableEq, Repr

/-- The host interface. -/
structure HostIf where
  ready : Bool := false
  linkUp : Bool := false
  width : Nat := 0
  speed : Nat := 0
  fns : Tab PcieFn := []
  /-- EVT_ROUTE words written by the host, word 1 in bits [63:32]; sources not listed read the chart's ROUTE -/
  routes : Tab Nat := []
  vecs : Tab Vec := []
  /-- EVT_PENDING bits set, by source (R306) -/
  evtPending : List Nat := []
  /-- EVT_PIN_CFG[p] -/
  pinCfg : Tab Nat := []
  mbox : Mailbox := {}
deriving DecidableEq, Repr

end Sys2Proof.Machine
end

