-- ==== Sys2Proof/Machine/Output.lean ====
section
/-!
DEFINITION. What the device does to the outside: frames, ring writes, messages, pin edges and protocol answers. The
state's log holds these, newest first; nothing in the device reads it back.
-/
namespace Sys2Proof.Machine

/-- What carries a frame on a port, as the device writes it (R167): an EtherType, or UDP with its addresses and port. -/
inductive Carrier where
  | ethernet (etherType : Nat)
  | udp4 (src dst port : Nat)
  | udp6 (src dst : Bytes) (port : Nat)
deriving DecidableEq, Repr

/-- The link header of a frame that the device sends (R167, R208, R209): addresses, VLAN tag with priority, carrier. -/
structure LinkHead where
  dst : Bytes
  src : Bytes
  vlan : Option (Nat × Nat)
  carrier : Carrier
deriving DecidableEq, Repr

/-- A completion record (R120). -/
structure CplRec where
  type : Nat
  outcome : Nat
  reason : Nat
  flags : Nat
  tag : Nat
  seq : Nat
  detail : Nat
  at_ : Ticks
  ref : Nat
deriving DecidableEq, Repr

/-- One act of the device on its surroundings. -/
inductive Output where
  /-- a sealed frame leaves on a network port: what was sealed, and the bytes from the base header to the tag (R181) -/
  | frame (port : Nat) (link : LinkHead) (f : Sff) (bytes : Bytes)
  /-- a frame of the set-up channel leaves (R174): exchange, message, fragment, and the frame's bytes -/
  | setupFrame (port : Nat) (link : LinkHead) (exchange message fragment : Nat) (bytes : Bytes)
  /-- a completion record written at a ring position -/
  | completion (queue pos : Nat) (r : CplRec)
  /-- a descriptor written into a delivery ring: kind, tag, sequence, body -/
  | delivery (queue pos kind tag seq : Nat) (body : Bytes)
  /-- an event notice in an EVENT queue -/
  | notice (queue pos seq : Nat) (n : Notice)
  | msix (vec : Nat)
  /-- the level that the device drives on an interrupt pin changes (R298, R307) -/
  | irqPin (pin : Nat) (level : Ball)
  /-- a launch pin changes: the instant of the edge at the ball, the instant at which the launch logic issues it (R93), and the
  new level at the ball -/
  | pinEdge (pin : Nat) (at_ issued : Ticks) (level : Ball)
  | faultN (low : Bool)
  /-- a Ferry frame leaves on a port; its bytes on the link are LinkOut.bytes -/
  | ferry (port : Nat) (f : LinkOut)
  /-- a message of the overlay exchange to a chip, or to the twin's master (16) -/
  | overlay (dst : Nat) (m : OvlMsg)
  /-- a burst on TWHB_OUT, before Manchester coding: preamble, heartbeat, CRC (R229) -/
  | twhb (burst : Bytes)
  /-- data written into host memory by DMA, by system or PCIe address -/
  | dma (addr : Nat) (data : Bytes)
  | ppsOut
  /-- an item or frame record handed to a lane -/
  | toLane (lane : Nat) (what : Nat) (data : Bytes)
  /-- a request of the device to a card, badge reader or tag: unit and bytes -/
  | card (unit : Nat) (data : Bytes)
  /-- R260, R571: something replicated to the other unit: 0 an object write, 1 a ledger record, 2 a card exchange -/
  | replica (what : Nat) (data : Bytes)
  /-- an answer of tag mode -/
  | tag (data : Bytes)
  /-- a JTAG data register shifted out -/
  | jtag (bits : Nat) (value : Nat)
  /-- a read result returned to the reader -/
  | readValue (value : OdValue)
  /-- the OAP status that a refused write of an object is answered with (R266) -/
  | writeStatus (status : Nat)
  /-- an indicator, VHARV, a supply of a card slot and other plain outputs: a name and a level -/
  | line (name : String) (level : Nat)
deriving DecidableEq, Repr

end Sys2Proof.Machine
end

