-- ==== Sys2Proof/Machine/SecTypes.lean ====
section
/-!
DEFINITION. State of the cipher cores, the hash array, the big-number engine, the random bit generator, the key store and
the life-cycle logic (R411–R499).
-/
namespace Sys2Proof.Machine

/-- What a cipher job works with, as it stood at START (R411, R412). -/
structure CipherJob where
  mode : Nat
  key256 : Bool
  ctrWidth : Nat
  ivAuto : Bool
  tagLen : Nat
  aadAddr : Nat
  aadLen : Nat
  src : Nat
  dst : Nat
  len : Nat
  tagAddr : Nat
  iv : Bytes
  /-- the key, once the job runs -/
  key : Bytes := []
deriving DecidableEq, Repr

/-- One cipher core: its registers (R426–R434) and its job. -/
structure CipherCore where
  /-- USER of CIP_LOCK: the holder's user ID (R413) -/
  user : Nat := 0
  releasing : Bool := false
  mode : Nat := 0
  key256 : Bool := false
  ctrWidth : Nat := 0
  ivAuto : Bool := false
  tagLen : Nat := 16
  busy : Bool := false
  done : Bool := false
  result : Nat := 0
  ivLocked : Bool := false
  ivExhausted : Bool := false
  /-- KEY_SOURCE: 0 none, 1 RAW, 2 SLOT, 3 PORT -/
  keySource : Nat := 0
  key : Option Bytes := none
  /-- KEYH of the slot whose key is loaded -/
  keyh : Nat := 0
  /-- a slot load under way: its KEYH -/
  loading : Option Nat := none
  /-- a START that waits for the key load -/
  waitsKey : Bool := false
  aadAddr : Nat := 0
  aadLen : Nat := 0
  src : Nat := 0
  dst : Nat := 0
  len : Nat := 0
  tagAddr : Nat := 0
  /-- IV bytes 0–15 -/
  iv : Bytes := List.replicate 16 0
  uses : Nat := 0
  useLimit : Nat := 0xFFFFFFFF
  /-- CIP_KEY0–CIP_KEY7 as written, bytes 0–31 -/
  keyRegs : Bytes := List.replicate 32 0
  job : Option CipherJob := none
  lockedAt : Ticks := 0
  heldRaised : Bool := false
  /-- the running job is to end ABORTED at its next block boundary -/
  aborting : Bool := false
  /-- disabled while locked: the holder's writes are target errors (R418) -/
  closing : Bool := false
deriving DecidableEq, Repr

/-- A hash job under way: its ring, descriptor, status, output and compressions. -/
structure HashJob where
  ring : Nat
  op : Nat
  param : Nat
  tag : Nat
  status : Nat
  out : Bytes
  outAddr : Nat
  outKeyh : Option Nat
  keyh : Nat
  compressions : Nat
deriving DecidableEq, Repr

/-- One hash ring (R438, R439, R445–R448). Positions are counts from the opening. -/
structure HashRing where
  valid : Bool := false
  jobBase : Nat := 0
  cplBase : Nat := 0
  jobLog2 : Nat := 4
  cplLog2 : Nat := 4
  jobTail : Nat := 0
  jobHead : Nat := 0
  cplTail : Nat := 0
  cplHead : Nat := 0
deriving DecidableEq, Repr

/-- The hash array: rings 0–7, jobs under way, and the cores out of service. -/
structure HashArray where
  rings : Tab HashRing := []
  running : List HashJob := []
  retired : List Nat := []
  /-- HMAC key ports of the pursers, loaded by KEYWIN: purser, key slot handle and key -/
  ports : Tab (Nat × Bytes) := []
deriving DecidableEq, Repr

/-- One queued big-number command (R456, R460). -/
structure BgnCmd where
  op : Nat
  dst : Nat
  a : Nat
  b : Nat
  m : Nat
  arg : Nat
deriving DecidableEq, Repr

/-- A BN_JOB: its request bytes (R458). -/
structure BnJob where
  /-- JOB_STATE: 0 IDLE, 1 RUNNING, 2 DONE, 3 FAILED -/
  state : Nat := 0
  request : Bytes := []
  result : Bytes := []
deriving DecidableEq, Repr

/-- The big-number engine (R451–R462). -/
structure BigNum where
  user : Nat := 0
  releasing : Bool := false
  /-- operand memory, 128 KiB; an unlisted byte is 0 -/
  mem : Tab Byte := []
  /-- BGN_SLOT words that are not 0 -/
  slots : Tab Nat := []
  /-- prepared moduli, newest use first, at most 4: slot and modulus -/
  cache : List (Nat × Nat) := []
  queue : List BgnCmd := []
  cmdExt : Nat := 0
  error : Bool := false
  result : Nat := 0
  completed : Nat := 0
  job : BnJob := {}
deriving DecidableEq, Repr

/-- RNG STATE, with the codes of R468. -/
inductive RngState where
  | starting | ok | degraded | failed
deriving DecidableEq, Repr

def RngState.code : RngState → Nat
  | .starting => 0
  | .ok => 1
  | .degraded => 2
  | .failed => 3

/-- One client DRBG (R464). Its secret state is behind the free values that its requests yield. -/
structure RngClient where
  ready : Bool := false
  sinceSeed : Nat := 0
  seededAt : Ticks := 0
deriving DecidableEq, Repr

/-- The random bit generator (R463–R468). -/
structure Rng where
  state : RngState := .starting
  /-- GROUPS_OK -/
  groups : List Nat := []
  /-- groups excluded, with the instant of exclusion -/
  excluded : Tab Ticks := []
  attempts : Nat := 0
  baseReady : Bool := false
  baseRequests : Nat := 0
  clients : Tab RngClient := []
deriving DecidableEq, Repr

/-- One key slot (R469–R472): generation, policy bytes, key, uses, public key. -/
structure KeySlot where
  generation : Nat := 0
  full : Bool := false
  policy : Bytes := []
  key : Bytes := []
  uses : Nat := 0
  pub : Bytes := []
deriving DecidableEq, Repr

/-- A wrapped-key record in flash (R473): the slot and generation it is for, and its 128 bytes. -/
structure KeyRecord where
  slot : Nat
  generation : Nat
  raw : Bytes
  /-- uses reserved ahead, in blocks of 256 (R471) -/
  reserved : Nat := 0
deriving DecidableEq, Repr

/-- The key store. -/
structure KeyStore where
  slots : Tab KeySlot := []
  /-- retained in flash, newest first -/
  records : List KeyRecord := []
  /-- retained: generation last used by each slot -/
  gens : Tab Nat := []
  /-- retained: the wrap salt; zeros until the first start and after a full erasure (R473, R476; log entry 169) -/
  salt : Bytes := List.replicate 32 0
  /-- the write counter from which record IVs come, and its reservation, which is retained (R473) -/
  wrapNext : Nat := 0
  wrapReserved : Nat := 0
  loaded : Bool := false
  erased : Bool := false
  fullErase : Bool := false
deriving DecidableEq, Repr

/-- Life-cycle states, with the codes of R480. -/
inductive LcState where
  | lost | blank | testUnlocked | manufactured | provisioned | operational | diagnostic | decommissioned | scrap
deriving DecidableEq, Repr

def LcState.code : LcState → Nat
  | .lost => 0
  | .blank => 1
  | .testUnlocked => 2
  | .manufactured => 3
  | .provisioned => 4
  | .operational => 5
  | .diagnostic => 6
  | .decommissioned => 7
  | .scrap => 8

/-- R482: a state that admits sessions, queues and launches. -/
def LcState.full : LcState → Bool
  | .provisioned | .operational => true
  | _ => false

/-- One trust anchor of the life-cycle store (R483). -/
structure Anchor where
  /-- 0 EMPTY, 1 ACTIVE, 2 REVOKED -/
  state : Nat := 0
  rights : Nat := 0
  pub : Bytes := []
deriving DecidableEq, Repr

/-- The life-cycle logic and the identity of the unit. What the spec keeps in the life-cycle store, in fuses or in flash is
retained over every reset. -/
structure LifeCycle where
  /-- the stored state word -/
  word : Nat := 0x66666666
  /-- the state word as read at start, and the state taken from it -/
  readWord : Nat := 0
  state : LcState := .lost
  testTokens : Nat := 16
  diagTokens : Nat := 8
  nonce : Option (Bytes × Ticks) := none
  busy : Bool := false
  result : Nat := 0
  /-- owner anchors 2 to 15; anchors 0 and 1 are in fuses -/
  anchors : Tab Anchor := [(2, { state := 1, rights := 0xEF, pub := List.replicate 32 0 })]
  scopes : Nat := 0
  /-- EXPIRES of the open debug scopes; none for no end -/
  scopesEnd : Option Ticks := none
  birthCert : Bytes := []
  chain : Bytes := []
  provisionRecord : Bytes := []
  transitionRecord : Bytes := []
  attestRecord : Bytes := []
  /-- ATTEST_STATE: 0 IDLE, 1 SIGNING, 2 DONE, 3 REFUSED -/
  attest : Nat := 0
  challenge : Bytes := []
  /-- a TRANSITION record is owed at the next start in which slot 1 is usable -/
  oweRecord : Bool := false
  /-- TAP: the boundary register as last loaded by SAMPLE/PRELOAD, and EXTEST in force (R495; log entry 58) -/
  boundary : Nat := 0
  extest : Bool := false
deriving DecidableEq, Repr

/-- Everything of this file. -/
structure Crypto where
  cores : Tab CipherCore := []
  hash : HashArray := {}
  bgn : BigNum := {}
  rng : Rng := {}
  keys : KeyStore := {}
  lcy : LifeCycle := {}
deriving DecidableEq, Repr

end Sys2Proof.Machine
end

