-- ==== Sys2Proof/Machine/SysTypes.lean ====
section
/-!
DEFINITION. State of the start-up controller: the phase of operation, the firmware slots and what a start records
(R616–R624).
-/
namespace Sys2Proof.Machine

/-- Where the device stands between power-on and operation. -/
inductive Phase where
  /-- VDD_AON is out of regulation -/
  | off
  /-- RESET_N is low -/
  | inReset
  /-- steps 1 to 17 of R617 are done as far as they go without waiting; step 18 has not come -/
  | starting
  | running
  /-- no firmware slot verifies (R621) -/
  | recovery
  /-- life-cycle states LOST and SCRAP: minimal firmware only -/
  | minimal
deriving DecidableEq, Repr

/-- Firmware slot states, with the codes of R624. -/
inductive FwState where
  | empty | pending | trying | confirmed | failed
deriving DecidableEq, Repr

def FwState.code : FwState → Nat
  | .empty => 0
  | .pending => 1
  | .trying => 2
  | .confirmed => 3
  | .failed => 4

/-- A firmware slot: its state, the versions and the digest of the image it holds, and whether that image carries
RAISE_FLOOR. Retained. -/
structure FwSlot where
  state : FwState := .empty
  version : Nat := 0
  secVersion : Nat := 0
  raiseFloor : Bool := false
  digest : Bytes := []
deriving DecidableEq, Repr

/-- The start-up controller. -/
structure Sys where
  phase : Phase := .inReset
  /-- firmware slots A and B, and the slot that runs -/
  slotA : FwSlot := { state := .confirmed }
  slotB : FwSlot := {}
  runSlot : Nat := 0
  /-- START_CAUSE and START_PATH of the last start (R616) -/
  cause : Nat := 0
  path : Nat := 0
  /-- START_CAUSE of the next start by RESET_N -/
  nextCause : Nat := 0
  /-- the reset in progress cut a start short: that start's path (R619) -/
  again : Option Nat := none
  releasedAt : Ticks := 0
  /-- a restart asked for by a life-cycle transition or a fault: its START_CAUSE -/
  restartAs : Option Nat := none
  /-- sessions that were OPEN at the last reset (R195) -/
  reopen : List Nat := []
deriving DecidableEq, Repr

end Sys2Proof.Machine
end

