-- ==== Sys2Proof/Machine/Dev.lean ====
section
/-!
DEFINITION. The device apart from its memories and the command queue.
-/
namespace Sys2Proof.Machine

/-- One act of the device on on-chip memory. -/
inductive MemOp where
  | put (addr : Nat) (data : Bytes)
  /-- clear a range of bytes -/
  | clear (addr len : Nat)
deriving DecidableEq, Repr

/-- Everything of the chip but its memories and the queue of waiting commands. -/
structure Dev where
  /-- chip time (R8), in units of 2^-16 ns -/
  now : Ticks := 0
  /-- the model's own counter of free values taken (log entry 2) -/
  free : Nat := 0
  od : OdStore := {}
  obj : Objects := {}
  cmp : Compass := {}
  lch : Launch := {}
  que : Queues := {}
  net : Net := {}
  fry : Ferry := {}
  hif : HostIf := {}
  flt : Faults := {}
  per : Permits := {}
  ctl : Contactless := {}
  pwr : Power := {}
  lan : Tab LaneIo := []
  sys : Sys := {}
  cry : Crypto := {}
  cpu : Cores := {}
  fls : Flash := {}
  /-- what the device writes into on-chip memory in the present command, oldest first -/
  bufOut : List MemOp := []
  /-- acts on the host that wait for their function to return to D0 (R281) -/
  hostHeld : List (Nat × Output) := []
  /-- what the device has done to the outside, newest first -/
  out : List Output := []
deriving DecidableEq, Repr

end Sys2Proof.Machine
end

