-- ==== Sys2Proof/Machine/Mem.lean ====
section
/-!
DEFINITION. On-chip memory as bytes by system address: an unlisted byte reads as 0 (log entry 3).
-/
namespace Sys2Proof.Machine

/-- One byte. -/
def memByte (m : Tab Byte) (a : Nat) : Byte := Tab.get 0 m a

/-- Bytes from an address up. -/
def memRead (m : Tab Byte) (a n : Nat) : Bytes := (List.range n).map (fun i => memByte m (a + i))

/-- A little-endian number of `n` bytes (R4). -/
def memNat (m : Tab Byte) (a n : Nat) : Nat := leNat (memRead m a n)

/-- Write bytes from an address up. -/
def memWrite (m : Tab Byte) : Nat → Bytes → Tab Byte
  | _, [] => m
  | a, b :: t => memWrite (Tab.put 0 m a b) (a + 1) t

/-- Write the low `n` bytes of a number, little-endian. -/
def memPut (m : Tab Byte) (a n v : Nat) : Tab Byte := memWrite m a (toLe n v)

/-- Clear the bytes of a range. -/
def memClear (m : Tab Byte) (a n : Nat) : Tab Byte := m.filter (fun e => !(decide (a ≤ e.1) && decide (e.1 < a + n)))

/-- Carry out one act on memory. -/
def memApply (m : Tab Byte) : MemOp → Tab Byte
  | .put a b => memWrite m a b
  | .clear a n => memClear m a n

/-- Carry out several acts in order. -/
def memWriteAll (m : Tab Byte) (l : List MemOp) : Tab Byte := l.foldl memApply m

/-- The canonical form of memory: addresses rising, no entry equal to the unlisted value. -/
def Memory.wf (m : Tab Byte) : Bool := Tab.wf 0 m

end Sys2Proof.Machine
end

