-- ==== Sys2Proof/Machine/Crc.lean ====
section
/-!
DEFINITION. Cyclic redundancy checks: CRC-32C, and the CRC of a reflected 32-bit polynomial in general.
-/
namespace Sys2Proof.Machine

/-- One bit of a reflected CRC register. -/
def crcBit (poly : BitVec 32) (c : BitVec 32) : BitVec 32 :=
  if c.getLsbD 0 then (c >>> 1) ^^^ poly else c >>> 1

/-- One byte through a reflected CRC register. -/
def crcByte (poly : BitVec 32) (c : BitVec 32) (b : Byte) : BitVec 32 :=
  (List.range 8).foldl (fun a _ => crcBit poly a) (c ^^^ b.setWidth 32)

/-- The reversed Castagnoli polynomial. -/
def polyC : BitVec 32 := 0x82F63B78

/-- CRC-32C of a byte string, with the register preset to ones and the result inverted. -/
def crc32c (l : Bytes) : BitVec 32 := ~~~(l.foldl (crcByte polyC) 0xFFFFFFFF)

/-- One bit, and one byte, through a 16-bit register that shifts left, polynomial 0x1021. -/
def crc16Bit (c : BitVec 16) : BitVec 16 := if c.getLsbD 15 then (c <<< 1) ^^^ 0x1021 else c <<< 1

def crc16Byte (c : BitVec 16) (b : Byte) : BitVec 16 :=
  (List.range 8).foldl (fun a _ => crc16Bit a) (c ^^^ (b.setWidth 16 <<< 8))

/-- R543: the CRC-16 with polynomial 0x1021 and initial value 0xFFFF. -/
def crc16 (l : Bytes) : BitVec 16 := l.foldl crc16Byte 0xFFFF

/-- The CRC of ISO/IEC 13239 for T=1 (R554): the polynomial 0x1021 reflected, preset to ones, inverted (log entry 61). -/
def crcX25 (l : Bytes) : BitVec 16 :=
  ~~~((l.foldl (crcByte 0x8408) 0xFFFF).setWidth 16)

/-- CRC_A of ISO/IEC 14443-3: the same polynomial, preset to 0x6363, not inverted (log entry 61). -/
def crcA (l : Bytes) : BitVec 16 := (l.foldl (crcByte 0x8408) 0x6363).setWidth 16

end Sys2Proof.Machine
end

