-- ==== Sys2Proof/Machine/Ops.lean ====
section
/-!
DEFINITION. The named operations that every family shares: the object store, the counters, the outputs, the events and
the fault collector.
-/
namespace Sys2Proof.Machine

/-! ## Outputs and free values -/

/-- Record an act of the device. -/
def Dev.emit (d : Dev) (o : Output) : Dev := { d with out := o :: d.out }

/-- Take a free value: the counter it is named by, and the device with the counter advanced (log entry 2). -/
def Dev.take (d : Dev) : Nat × Dev := (d.free, { d with free := d.free + 1 })

/-- Draw random bytes: free values (log entry 2). -/
def Dev.draw (d : Dev) (n : Nat) : Bytes × Dev :=
  ((List.range n).map (Config.freeByte d.free), { d with free := d.free + 1 })

/-- The answer of an object write (0, or an OAP status) and its effect: a refusal is answered. -/
def answered (r : Nat × Dev) : Dev := if r.1 = 0 then r.2 else r.2.emit (.writeStatus r.1)

/-- Chip time moves to an instant; it never moves back (R8). -/
def Dev.at_ (d : Dev) (t : Ticks) : Dev := { d with now := if d.now < t then t else d.now }

/-! ## The object store -/

/-- R274: the first source that holds a number for an object: trial, maintenance, mode, direct value, chart. -/
def OdStore.num (s : OdStore) (k : Nat) : Option Int :=
  match s.trial.vals.nums.find k with
  | some v => some v
  | none => match s.maint.vals.nums.find k with
    | some v => some v
    | none => match s.mode.vals.nums.find k with
      | some v => some v
      | none => match s.direct.nums.find k with
        | some v => some v
        | none => s.chart.nums.find k

/-- R274 for byte strings. -/
def OdStore.oct (s : OdStore) (k : Nat) : Option Bytes :=
  match s.trial.vals.octs.find k with
  | some v => some v
  | none => match s.maint.vals.octs.find k with
    | some v => some v
    | none => match s.mode.vals.octs.find k with
      | some v => some v
      | none => match s.direct.octs.find k with
        | some v => some v
        | none => s.chart.octs.find k

/-- The effective value of element `i` of an object (R274), its Default where nothing holds one. -/
def Dev.cfgAt (d : Dev) (r : OdRow) (i inst : Nat) : Int :=
  match d.od.num (odKey r.index (r.sub + i) inst) with
  | some v => v
  | none => if r.factory then Config.factory (odKey r.index (r.sub + i) inst) else r.dflt

/-- The effective value of an object. -/
def Dev.cfg (d : Dev) (r : OdRow) (inst : Nat) : Int := d.cfgAt r 0 inst

/-- An object's value as a natural number. -/
def Dev.cfgN (d : Dev) (r : OdRow) (inst : Nat) : Nat := (d.cfg r inst).toNat

/-- A BOOL object, or an ENABLE, as a truth value. -/
def Dev.cfgB (d : Dev) (r : OdRow) (inst : Nat) : Bool := decide (d.cfg r inst ≠ 0)

/-- The effective value of a byte-string object. -/
def Dev.octAt (d : Dev) (r : OdRow) (i inst : Nat) : Bytes :=
  match d.od.oct (odKey r.index (r.sub + i) inst) with
  | some v => v
  | none =>
    if r.factory then Config.factoryBytes (odKey r.index (r.sub + i) inst)
    else List.replicate r.len (BitVec.ofInt 8 r.dflt)

def Dev.oct (d : Dev) (r : OdRow) (inst : Nat) : Bytes := d.octAt r 0 inst

/-- Write the direct value of element `i` of an object. -/
def Dev.setAt (d : Dev) (r : OdRow) (i inst : Nat) (v : Int) : Dev :=
  { d with od.direct.nums := d.od.direct.nums.ins (odKey r.index (r.sub + i) inst) v }

/-- Write the direct value of an object. -/
def Dev.set (d : Dev) (r : OdRow) (inst : Nat) (v : Int) : Dev := d.setAt r 0 inst v

/-- Write the direct value of a byte-string object. -/
def Dev.setOct (d : Dev) (r : OdRow) (inst : Nat) (v : Bytes) : Dev :=
  { d with od.direct.octs := d.od.direct.octs.ins (odKey r.index r.sub inst) v }

/-- The instances of a row that some source of R274 lists, lowest first, each once. -/
def Dev.listedInsts (d : Dev) (r : OdRow) : List Nat :=
  let k := r.index * 256 + r.sub
  let of : Tab Int → List Nat := fun t => (t.filter (fun e => e.1 / 16777216 == k)).map (fun e => e.1 % 16777216)
  dedup (sortBy (fun n => (n : Int))
    (of d.od.chart.nums ++ of d.od.direct.nums ++ of d.od.mode.vals.nums ++ of d.od.maint.vals.nums ++ of d.od.trial.vals.nums))

/-- Add to a counter object. -/
def Dev.bump (d : Dev) (r : OdRow) (inst : Nat) (n : Int := 1) : Dev := d.set r inst (d.cfg r inst + n)

/-! ## Frames on a port (R167, R208) -/

/-- The bytes that the carrier of a port puts before an SFF frame within the MTU: IP and UDP headers. -/
def Dev.carrierLen (d : Dev) (p : Nat) : Nat :=
  match d.cfgN Od.prt_ENCAP p with
  | 1 => 28
  | 2 => 48
  | _ => 0

/-- The link header of a frame to a partner (R167). -/
def Dev.linkHead (d : Dev) (p : Nat) (mac ip : Bytes) : LinkHead :=
  let vlan := d.cfgN Od.prt_VLAN p
  let udp := d.cfgN Od.prt_UDP_PORT p
  { dst := mac, src := d.oct Od.prt_MAC_ADDR p, vlan := if vlan = 0 then none else some (vlan, d.cfgN Od.prt_PRIORITY p),
    carrier := match d.cfgN Od.prt_ENCAP p with
      | 1 => .udp4 (d.cfgN Od.prt_IPV4_ADDR p) (beAt ip 12 4) udp
      | 2 => .udp6 (d.oct Od.prt_IPV6_ADDR p) ip udp
      | _ => .ethernet (d.cfgN Od.prt_ETHERTYPE p) }

/-- Bytes leave on a port that is up, within its MTU, and are counted (R167, R208). A longer frame does not leave (log entry
150). -/
def Dev.portOut (d : Dev) (p len : Nat) (o : Output) : Dev :=
  if (d.net.ports.get {} p).up && decide (d.carrierLen p + len ≤ d.cfgN Od.prt_MTU p) then (d.bump Od.prt_TX_FRAMES p).emit o else d

/-! ## Twin role and time state, as every family asks for them -/

/-- R232: the unit holds the claim while ACTIVE or ACTIVE_SINGLE with no higher claim seen; a unit without a twin is
ALONE and drives its own outputs (R233). -/
def Dev.holdsClaim (d : Dev) : Bool :=
  match d.fry.twin.role with
  | .alone => true
  | .active | .activeSingle => decide (d.fry.twin.seen ≤ d.fry.twin.claim)
  | _ => false

/-- The unit bit (R226). -/
def Dev.unitBit (d : Dev) : Nat :=
  if d.cfg Od.twn_TWIN_MODE 0 = 1 then d.fry.flo.ownId % 2 else d.cfgN Od.twn_TWIN_UNIT 0

/-- Whether this unit is in a role that the manual calls the standby (R260). -/
def Dev.isStandby (d : Dev) : Bool :=
  match d.fry.twin.role with
  | .waiting | .syncing | .standby | .stale => true
  | _ => false

/-- R223: a member that is not the master reports the master's time state. -/
def Dev.isMaster (d : Dev) : Bool := decide (d.fry.flo.master = d.fry.flo.ownId)

def Dev.timeNow (d : Dev) : TimeState := if d.isMaster then d.net.time.state else d.fry.flo.masterState

/-- Whether chip time is unlocked (R8, R170, R223). -/
def Dev.unlocked (d : Dev) : Bool :=
  match d.timeNow with
  | .locked | .grandmaster => false
  | _ => true

/-- TIME_UNC (R171). A chip that is not the flotilla's master reports what its master announces (R223). -/
def Dev.timeUnc (d : Dev) : Ticks :=
  if !d.isMaster then
    match d.timeNow with
    | .grandmaster => 0
    | .free | .acquiring => 0x7FFFFFFFFFFFFFFF
    | _ => d.fry.flo.masterUnc
  else
  match d.net.time.state with
  | .locked => d.net.time.servoUnc
  | .grandmaster => 0
  | .holdover => d.net.time.entryUnc + (d.now - d.net.time.enteredAt) * d.cfg Od.tim_HOLDOVER_RATE 0 / sec
  | .free | .acquiring => 0x7FFFFFFFFFFFFFFF

/-- The physical pier that carries a logical one (R243). -/
def Dev.pierOf (d : Dev) (p : Nat) : Nat :=
  match d.fry.piers.find? (fun e => e.2.logical == p) with
  | some e => e.1
  | none => p

/-- The record of a physical pier: pier 16 starts as the spare (R243, R253). -/
def Dev.pier (d : Dev) (p : Nat) : Pier := (d.fry.piers.find p).getD (if p = 16 then { state := 1, logical := 31 } else { state := 0, logical := p })

/-- The physical piers in service. -/
def Dev.activePiers (d : Dev) : List Nat := (List.range 17).filter (fun p => (d.pier p).state = 0 || (d.pier p).state = 3)

/-- The area of the pier buffer that holds a deckhand's frame records (log entry 28). -/
def recordArea (dh : Nat) : Nat := 0x100000 + 0x20000 * dh

/-- The lane that takes a session's frames: the first whose DATA_SESSION list names it. -/
def Dev.laneOfSession (d : Dev) (sid : Nat) : Option Nat :=
  if sid = 0 then none
  else (List.range 136).find? (fun l => (List.range 8).any (fun k => (d.cfgAt Od.lan_DATA_SESSION k l).toNat == sid))

/-- R482, R619: sessions, queues and launches are served: the life-cycle state admits them and a chart is active. -/
def Dev.admitsWork (d : Dev) : Bool := d.cry.lcy.state.full && d.obj.activeSlot.isSome

/-! ## Ring positions (R110) -/

/-- A count since opening as a 17-bit ring position: index modulo the size, wrap phase in bit 16. -/
def ringPos (log2 n : Nat) : Nat := n % 2 ^ log2 + (n / 2 ^ log2 % 2) * 65536

/-- How far a written position lies ahead of a count, modulo two passes; none for a malformed one. -/
def ringAhead (log2 cur p : Nat) : Option Nat :=
  let size := 2 ^ log2
  let idx := p % 65536
  if size ≤ idx then none
  else some ((idx + (p / 65536 % 2) * size + 2 * size - cur % (2 * size)) % (2 * size))

def Dev.queue (d : Dev) (q : Nat) : Queue := d.que.queues.get {} q

def Dev.setQueue (d : Dev) (q : Nat) (x : Queue) : Dev := { d with que.queues := d.que.queues.put {} q x }

def Dev.onQueue (d : Dev) (q : Nat) (f : Queue → Queue) : Dev := d.setQueue q (f (d.queue q))

/-- Free slots of a completion ring, reserved ones taken off. -/
def Queue.cplFree (x : Queue) : Nat := 2 ^ x.cplLog2 - (x.cplTail - x.cplHead) - x.cplReserved

/-- Free slots of a delivery ring. -/
def Queue.workFree (x : Queue) : Nat := 2 ^ x.workLog2 - (x.devPos - x.hostPos)

/-! ## Host windows (R283, R284) -/

/-- The function through whose window a queue or stream reaches host memory (R283, R284). -/
def Dev.pfOf (d : Dev) (q : Nat) : Nat := if q < 16384 then d.cfgN Od.qpf_QUEUE_PF q else 0

/-- R284: an address range lies inside the window of a function. -/
def Dev.inWindow (d : Dev) (pf base len : Nat) : Bool :=
  let w := d.cfgN Od.hif_WINDOW_BASE pf
  decide (w ≤ base) && decide (base + len ≤ w + d.cfgN Od.hif_WINDOW_SIZE pf)

def Dev.fn (d : Dev) (f : Nat) : PcieFn := d.hif.fns.get {} f

/-- An act on host memory or on the host: it waits while the function it goes through is in D3hot (R281). -/
def Dev.emitPf (d : Dev) (pf : Nat) (o : Output) : Dev :=
  if (d.fn pf).d3hot then { d with hostHeld := d.hostHeld ++ [(pf, o)] } else d.emit o

/-- R120: the 32 bytes of a completion record. -/
def CplRec.bytes (r : CplRec) : Bytes :=
  toLe 1 r.type ++ toLe 1 r.outcome ++ toLe 1 r.reason ++ toLe 1 r.flags ++ toLe 4 r.tag ++ toLe 6 r.seq ++ toLe 2 r.detail ++
    timeLe r.at_ ++ toLe 4 r.ref

/-- A completion record goes into its ring, in host memory or on the chip (R111, R159). -/
def Dev.emitCpl (d : Dev) (q pos : Nat) (r : CplRec) : Dev :=
  let x := d.queue q
  if x.cplChip then
    ({ d with bufOut := d.bufOut ++ [MemOp.put (x.cplBase + 32 * (pos % 2 ^ x.cplLog2)) r.bytes] }).emit (.completion q pos r)
  else d.emitPf (d.pfOf q) (.completion q pos r)

/-- R118, R119: a descriptor that the device writes, with a body beyond 32 bytes after it. It carries no EXPIRY: the flag is 0
and bytes 20 to 31 are zero (log entry 145). -/
def deliveryDesc (kind tag seq : Nat) (body : Bytes) : Bytes :=
  let inl := decide (body.length ≤ 32)
  toLe 2 kind ++ [BitVec.ofNat 8 (b2n inl), 0] ++ toLe 4 tag ++ toLe 6 seq ++ [0, 0] ++ toLe 2 body.length ++ [0, 0] ++
    List.replicate 12 0 ++ (if inl then padTo 32 body else List.replicate 32 0 ++ body)

/-- A descriptor goes into a delivery ring, in host memory or on the chip; a body beyond 32 bytes goes into the slot's body
area (R112, R119). -/
def Dev.emitWork (d : Dev) (q pos kind tag seq : Nat) (body : Bytes) (o : Output) : Dev :=
  let x := d.queue q
  if x.workChip then
    let slot := pos % 2 ^ x.workLog2
    let desc := deliveryDesc kind tag seq body
    let area : List MemOp := if body.length ≤ 32 then [] else [.put (x.workBase + 64 * 2 ^ x.workLog2 + 256 * slot) body]
    ({ d with bufOut := d.bufOut ++ (MemOp.put (x.workBase + 64 * slot) (desc.take 64) :: area) }).emit o
  else d.emitPf (d.pfOf q) o

/-! ## Events (R291–R298) -/

/-- EVT_ROUTE of a source: what the host wrote, else the chart's ROUTE (R302, R303). -/
def Dev.route (d : Dev) (s : Nat) : Nat := (d.hif.routes.find s).getD (d.cfgN Od.rte_ROUTE s)


/-- Whether a vector's message is held: masked in the table, by its function, or the function in D3hot (R297). -/
def Dev.vecHeld (d : Dev) (v : Nat) (x : Vec) : Bool := x.masked || (d.fn (v / 2048)).masked || (d.fn (v / 2048)).d3hot

/-- R297: fire a vector: its pending count clears; the message goes out, or stays in the PBA. -/
def Dev.fireVec (d : Dev) (v : Nat) : Dev :=
  let x := d.hif.vecs.get {} v
  if d.vecHeld v x then { d with hif.vecs := d.hif.vecs.put {} v { x with pending := 0, held := true } }
  else ({ d with hif.vecs := d.hif.vecs.put {} v { x with pending := 0 } }).emit (.msix v)

/-- R297: an event routed to a vector; one that arrives while a message is held is covered by it. -/
def Dev.vecEvent (d : Dev) (v : Nat) : Dev :=
  let x := d.hif.vecs.get {} v
  let p := if x.pending < 65535 then x.pending + 1 else 65535
  let first := if x.pending = 0 then d.now else x.firstAt
  let d1 := { d with hif.vecs := d.hif.vecs.put {} v { x with pending := p, firstAt := first } }
  if x.held then d
  else if x.count ≤ 1 || x.time = 0 || x.count ≤ p then d1.fireVec v else d1

/-- The interrupt pin a route names: 1–8 for IRQ_A–IRQ_H. -/
def routePin (r : Nat) : Nat := bitsOf r 19 16

/-- Whether an interrupt pin is asserted: some source routed to it has its EVT_PENDING bit set (R298). -/
def Dev.irqAsserted (d : Dev) (p : Nat) : Bool := d.hif.evtPending.any (fun s => routePin (d.route s) == p)

/-- What an interrupt pin drives (R298, R307): nothing while it is disabled; open drain drives its low level alone. -/
def Dev.irqLevel (d : Dev) (p : Nat) : Ball :=
  let c := d.hif.pinCfg.get 0 (p - 1)
  if !bitOf c 0 then .highZ
  else if d.irqAsserted p = bitOf c 1 then (if bitOf c 2 then .high else .highZ)
  else .low

/-- R294: the 32 bytes of a notice's body. -/
def Notice.bytes (n : Notice) : Bytes :=
  toLe 2 n.source ++ toLe 2 n.code ++ toLe 2 n.inst ++ toLe 1 n.severity ++ toLe 1 (b2n n.merged) ++ timeLe n.at_ ++
    padTo 12 (n.detail.flatMap (fun v => toLe 4 (patternOf 32 v)))

/-- The vector and pin destinations of a source (R293). -/
def Dev.signalSource (d : Dev) (s : Nat) : Dev :=
  let r := d.route s
  let d1 := if bitOf r 13 then d.vecEvent (2048 * bitsOf r 12 11 + bitsOf r 10 0) else d
  let p := routePin r
  if p = 0 || 8 < p then d1
  else
    let d2 := if s ∈ d1.hif.evtPending then d1 else { d1 with hif.evtPending := insSorted (fun x => (x : Int)) s d1.hif.evtPending }
    if d2.irqLevel p = d1.irqLevel p then d2 else d2.emit (.irqPin p (d2.irqLevel p))

/-- A GAP record of a queue at a ring position (R120). -/
def gapRec (x : Queue) (pos : Nat) (g : GapRun) (now : Ticks) : CplRec :=
  { type := 4, outcome := 0, reason := 0, flags := 1 - pos / 2 ^ x.cplLog2 % 2, tag := 0, seq := g.first,
    detail := min g.count 0xFFFF, at_ := now, ref := 0 }

/-- Write a GAP record of a queue into its completion ring, or hold it until a slot frees (R296). -/
def Dev.writeGap (d : Dev) (q : Nat) (g : GapRun) : Dev :=
  let x := d.queue q
  if x.cplFree = 0 then d.setQueue q { x with gap := some g }
  else
    ((d.setQueue q { x with gap := none, gapOpen := some (x.cplTail, g), cplTail := x.cplTail + 1 }).emitCpl
      q x.cplTail (gapRec x x.cplTail g d.now)).signalSource q

/-- R197: a gap of a stream, reported in its queue: each gap has a GAP record of its own. -/
def Dev.streamGapRec (d : Dev) (q : Nat) (g : GapRun) : Dev :=
  let x := d.queue q
  let d1 := d.bump Od.qst_GAPS q
  if x.cplFree = 0 then d1.setQueue q { x with gaps := x.gaps ++ [g] }
  else
    ((d1.setQueue q { x with cplTail := x.cplTail + 1 }).emitCpl q x.cplTail (gapRec x x.cplTail g d.now)).signalSource q

/-- R296: a notice that finds its EVENT queue full is dropped and counted. A run of drops has one GAP record, whose
count is raised while it stands unconsumed. -/
def Dev.dropNotice (d : Dev) (q : Nat) : Dev :=
  let x := d.queue q
  let d1 := d.bump Od.lnk_NOTICES_DROPPED 0
  let x1 := { x with noticeSeq := x.noticeSeq + 1 }
  match x.gap, x.gapOpen with
  | some g, _ => d1.setQueue q { x1 with gap := some { g with count := g.count + 1 } }
  | none, some (pos, g) =>
    let g' := { g with count := g.count + 1 }
    (d1.setQueue q { x1 with gapOpen := some (pos, g') }).emitCpl q pos (gapRec x pos g' d.now)
  | none, none => ((d1.bump Od.qst_GAPS q).setQueue q x1).writeGap q { first := x.noticeSeq, count := 1 }

/-- R294: write a notice into an EVENT queue as a descriptor, or drop it where the ring is full. A written notice ends
the run of drops. -/
def Dev.eventQueue (d : Dev) (q : Nat) (n : Notice) : Dev :=
  let x := d.queue q
  if x.state ≠ .on || d.cfg Od.que_CLASS q ≠ 2 then d
  else if x.workFree = 0 then d.dropNotice q
  else
    ((d.setQueue q { x with devPos := x.devPos + 1, noticeSeq := x.noticeSeq + 1, gapOpen := none }).emitWork
      q x.devPos 5 1 x.noticeSeq n.bytes (.notice q x.devPos x.noticeSeq n)).signalSource q

/-- Deliver a notice to the destinations of its source's route (R293). -/
def Dev.deliver (d : Dev) (n : Notice) : Dev :=
  let r := d.route n.source
  let d1 := if bitOf r 46 then d.eventQueue (bitsOf r 45 32) n else d
  d1.signalSource n.source

/-! ## The fault collector (R500–R514, R520) -/

/-- The fault source of an event code of a function source (R500). Lane sources share one fault source per code, and so
do the task sources. The numbers 0x100–0x3FF that SOURCE_MAP gives them are fixed per firmware version and are not in
the spec; the model names them by 65536 + 4096 × function + code (log entry 6). -/
def eventSrc (f code : Nat) : Nat :=
  let g := if 64 ≤ f && f ≤ 191 then 64 else if 192 ≤ f && f ≤ 195 then 192 else f
  65536 + 4096 * g + code

/-- Default severities of R500; FERRY_TAG_FAIL is 4 (R217). -/
def defaultSeverity (src : Nat) : Nat :=
  if 65536 ≤ src then (if src = eventSrc 20 0xF3 then 4 else 1)
  else if src < 0x003 then 6
  else if src = 0x003 || src = 0x004 || src = 0x006 then 1
  else if src = 0x005 then 5
  else if src = 0x007 then 6
  else if src < 0x038 then 0
  else if src < 0x040 then 1
  else if src = 0x040 then 0
  else if src = 0x041 then 6
  else if src < 0x046 then 1
  else if src < 0x048 then 7
  else if src = 0x048 then 6
  else if src < 0x050 then 1
  else if src = 0x050 then 6
  else if src = 0x051 then 1
  else if src = 0x052 then 6
  else 2

/-- Sources whose severity is fixed (R500, R502). -/
def fixedSeverity (src : Nat) : Option Nat :=
  if src < 0x003 then some 6 else if src = 0x047 then some 7 else none

/-- The severity at which a source acts (R502). -/
def Dev.severity (d : Dev) (src : Nat) : Nat :=
  match fixedSeverity src with
  | some v => v
  | none =>
    match d.od.num (odKey Od.flt_SEVERITY.index Od.flt_SEVERITY.sub src) with
    | some v => v.toNat
    | none => defaultSeverity src

/-- R501. -/
def isMerging (src : Nat) : Bool := decide (0x010 ≤ src ∧ src ≤ 0x02F)

/-- R520: write a log record, and its flash copy where the severity asks for one and the rate allows it. -/
def Dev.logFault (d : Dev) (r : LogRec) : Dev :=
  let d1 := { d with flt.log := (r :: d.flt.log).take 1024 }
  if (r.severity : Int) < d.cfg Od.fcu_LOG_FLASH_MIN 0 then d1
  else
    let recent := (d.flt.flashLog.filter (fun x => decide (d.now - sec < x.at_))).length
    if recent < 100 then
      let r' := if d.flt.droppedBefore then { r with flags := setBit r.flags 4 } else r
      { d1 with flt.flashLog := r' :: d1.flt.flashLog, flt.droppedBefore := false }
    else
      ({ d1 with flt.droppedBefore := true }).bump Od.fcu_LOG_DROPPED 0

/-- R510: drive FAULT_N low for a qualifying fault. -/
def Dev.driveFaultN (d : Dev) : Dev :=
  let d1 := { d with flt.faultnHold := true, flt.faultnUntil := d.now + 10 * us, flt.faultnSensed := false }
  if d.flt.faultnDriven then d1 else ({ d1 with flt.faultnDriven := true }).emit (.faultN true)

/-- R503, R504: what a severity asks of the rest of the chip. -/
def severityActs (d : Dev) (src inst sev : Nat) : List FaultAct :=
  match sev with
  | 0 => []
  | 1 => []
  | 2 => [.retire src inst]
  | 3 => [.hold]
  | 4 => [.safe]
  | 5 => [.resetDomain src inst]
  | 6 => [.chipSafe]
  | _ => [.erase (src == 0x047 || decide (d.cfg Od.flt_ERASE src = 1)), .chipSafe]

/-- Deliver the notices of a fault (R503): the originating notice at severity 1 and above, and a FAULT notice from
severity 2 where the originating notice is not one already. -/
def Dev.faultNotices (d : Dev) (src inst sev : Nat) (origin : Option (Nat × Nat)) (merged : Bool) (detail : List Int) : Dev :=
  if sev = 0 then d
  else
    let fault : Notice := { source := 16384 + 22, code := 0x50, inst := inst, severity := sev, merged := merged,
                            at_ := d.now, detail := (src : Int) :: detail }
    match origin with
    | none => d.deliver fault
    | some (f, code) =>
      let d1 := d.deliver { source := 16384 + f, code := code, inst := inst, severity := sev, merged := merged,
                            at_ := d.now, detail := detail }
      if sev < 2 then d1 else d1.deliver fault

/-- Carry out a fault at a severity: record it, mark it ACTIVE, deliver its notices, drive FAULT_N, and note the action
(R503, R510, R511, R514). -/
def Dev.actFault (d : Dev) (src inst sev : Nat) (origin : Option (Nat × Nat)) (detail : List Int) (escal : Bool) : Dev :=
  let combined := !(d.flt.todo.isEmpty && d.flt.handling.isEmpty)
  let flags := (if combined then 2 else 0) + (if escal then 4 else 0) + (if sev = 7 then 8 else 0)
  let d1 := d.logFault { at_ := d.now, src := src, inst := inst, severity := sev, flags := flags, merged := 0, detail := detail }
  let d2 := { d1 with flt.active := d1.flt.active.ins src sev,
                      flt.maxSince := max d1.flt.maxSince sev,
                      flt.handling := if sev < 2 then d1.flt.handling else d1.flt.handling.ins src (sev, inst),
                      flt.todo := d1.flt.todo ++ severityActs d src inst sev }
  let d3 := d2.faultNotices src inst sev origin false detail
  if d.cfg Od.fcu_FAULTN_MIN 0 ≤ (sev : Int) then d3.driveFaultN else d3

/-- R511: ESCALATED, severity 6. -/
def Dev.escalate (d : Dev) (src inst : Nat) : Dev :=
  let d1 := (d.bump Od.flt_COUNT 0x002).set Od.flt_LAST_TIME 0x002 d.now
  if d1.flt.handling.has 0x002 then
    d1.logFault { at_ := d.now, src := 0x002, inst := inst, severity := 6, flags := 4, merged := 0, detail := [(src : Int)] }
  else d1.actFault 0x002 inst 6 (some (22, 0x51)) [(src : Int)] false

/-- R512: a merge ends, and its count is delivered in a notice, or at severity 0 in a log record. -/
def Dev.endMerge (d : Dev) (src : Nat) : Dev :=
  match d.flt.merges.find src with
  | none => d
  | some m =>
    let d1 := { d with flt.merges := d.flt.merges.del src }
    let sev := d.severity src
    if sev = 0 then d1.logFault { at_ := d.now, src := src, inst := m.inst, severity := 0, flags := 1, merged := min m.count 65535, detail := [] }
    else d1.faultNotices src m.inst sev none true [(m.count : Int)]

/-- R512: a fault of a merging source. -/
def Dev.mergeFault (d : Dev) (src inst : Nat) : Dev :=
  let limit := d.cfg Od.flt_MERGE_LIMIT src
  let limitSev := d.cfgN Od.flt_LIMIT_SEVERITY src
  let past := match d.flt.merges.find src with
    | some m => decide (m.start + d.cfg Od.flt_MERGE_WINDOW src ≤ d.now)
    | none => false
  let d0 := if past then d.endMerge src else d
  match d0.flt.merges.find src with
  | some m =>
    let n := m.count + 1
    let d1 := { d0 with flt.merges := d0.flt.merges.ins src { m with count := n } }
    if limit ≠ 0 && decide ((n : Int) = limit) then d1.actFault src inst limitSev none [] false else d1
  | none =>
    let d := d0
    let d1 := { d with flt.merges := d.flt.merges.ins src { start := d.now, count := 1, inst := inst } }
    let d2 := d1.actFault src inst (d.severity src) none [] false
    if limit = 1 then d2.actFault src inst limitSev none [] false else d2

/-- R513: a fault in the collector itself: recorded, and chip safe state at once, whatever the severities say. It is never
merged, escalated or retried. -/
def Dev.collectorFails (d : Dev) (src : Nat) : Dev :=
  let d1 := ((d.bump Od.flt_COUNT src).set Od.flt_LAST_TIME src d.now).logFault
    { at_ := d.now, src := src, inst := 0xFFFF, severity := 6, flags := 0, merged := 0, detail := [] }
  let d2 := { d1 with flt.collectorFault := true, flt.active := d1.flt.active.ins src 6, flt.maxSince := max d1.flt.maxSince 6,
                      flt.todo := d1.flt.todo ++ [FaultAct.chipSafe] }
  d2.faultNotices src 0xFFFF 6 (some (22, 0x52)) false []

/-- R513: a configuration word of the collector and the complement held beside it agree. -/
def Dev.pairOk (d : Dev) (r : OdRow) (inst : Nat) : Bool :=
  match d.flt.inverse.find (odKey r.index r.sub inst) with
  | none => true
  | some v => decide (v = -1 - d.cfg r inst)

/-- The configuration words that a fault of a source uses (R502, R510, R512, R520). -/
def collectorWords (src : Nat) : List (OdRow × Nat) :=
  [(Od.flt_SEVERITY, src), (Od.flt_ERASE, src), (Od.fcu_FAULTN_MIN, 0), (Od.fcu_LOG_FLASH_MIN, 0)] ++
    (if isMerging src then [(Od.flt_MERGE_WINDOW, src), (Od.flt_MERGE_LIMIT, src), (Od.flt_LIMIT_SEVERITY, src)] else [])

/-- R513: the check at a use of configuration words (log entry 159). -/
def Dev.collectorCheck (d : Dev) (words : List (OdRow × Nat)) : Dev :=
  let d1 := if d.flt.parityBad then d.collectorFails 0x000 else d
  if words.all (fun w => d.pairOk w.1 w.2) then d1 else d1.collectorFails 0x001

/-- A fault reaches the collector (R500, R511–R513). `origin` is the function source and code of the notice that the
fault's chapter names; `none` where it names none. -/
def Dev.fault (d : Dev) (src inst : Nat) (origin : Option (Nat × Nat)) (detail : List Int) : Dev :=
  let d0 := d.collectorCheck (collectorWords src)
  let d1 := (d0.bump Od.flt_COUNT src).set Od.flt_LAST_TIME src d.now
  if isMerging src then d1.mergeFault src inst
  else if d1.flt.handling.has src then
    let sev := d.severity src
    let d2 := d1.logFault { at_ := d.now, src := src, inst := inst, severity := sev, flags := 4, merged := 0, detail := detail }
    if 6 ≤ sev then d2 else d2.escalate src inst
  else d1.actFault src inst (d.severity src) origin detail false

/-- An event of a function source: a notice, and a fault at the severity of its source (R291, R295, R503). -/
def Dev.raise (d : Dev) (f code inst : Nat) (detail : List Int := []) : Dev :=
  d.fault (eventSrc f code) inst (some (f, code)) detail

/-- A notice of a queue source; these are not fault sources (R295). -/
def Dev.queueNotice (d : Dev) (q code : Nat) (detail : List Int := []) : Dev :=
  d.deliver { source := q, code := code, inst := q, severity := 0, merged := false, at_ := d.now, detail := detail }

/-- Handling of a source is complete (R511). -/
def Dev.handled (d : Dev) (src : Nat) : Dev := { d with flt.handling := d.flt.handling.del src }

/-- Handling of every source that a test picks is complete. -/
def Dev.handledAll (d : Dev) (p : Nat → Nat → Nat → Bool) : Dev :=
  { d with flt.handling := d.flt.handling.filter (fun e => !p e.1 e.2.1 e.2.2) }

end Sys2Proof.Machine
end

