-- ==== Sys2Proof/Machine/PermitCore.lean ====
section
/-!
DEFINITION. When a permit covers an operation (R567, R568).
-/
namespace Sys2Proof.Machine

/-- What an operation acts on, as SCOPE sees it. -/
inductive PermitAddr where
  | obj (index inst : Nat)
  | layer (n : Nat)
deriving DecidableEq, Repr

/-- R568: one SCOPE entry, kind byte and six parameter bytes, against an address. -/
def scopeCovers (kind : Nat) (par : Bytes) (a : PermitAddr) : Bool :=
  match a with
  | .obj i n =>
    match kind with
    | 1 => decide (leAt par 0 2 ≤ i) && decide (i ≤ leAt par 2 2)
    | 2 => (decide (0x2000 ≤ i ∧ i ≤ 0x2010) || decide (i = 0x2110)) && decide (n < 16) && bitOf (leAt par 0 2) n
    | 3 => decide (0x2100 ≤ i ∧ i ≤ 0x2108) && decide (n < 32) && bitOf (leAt par 0 4) n
    | _ => false
  | .layer n => decide (kind = 4) && decide (n < 8) && bitOf (leAt par 0 1) n

/-- R567: a permit is ACTIVE until it ends, and no longer than VALID_UNTIL. -/
def LedgerRec.live (r : LedgerRec) (now : Ticks) : Bool := decide (r.state = .active) && decide (now < r.validUntil)

/-- R568: a ledger entry covers an operation of an action class. -/
def LedgerRec.covers (r : LedgerRec) (action : Nat) (a : PermitAddr) : Bool :=
  bitOf r.actions action &&
    (List.range 4).any (fun i => scopeCovers (leAt r.scope (8 * i) 1) (sliceB r.scope (8 * i + 2) 6) a)

/-- Whether a valid permit covers an operation (R259, R568). -/
def Dev.permitted (d : Dev) (action : Nat) (a : PermitAddr) : Bool :=
  d.per.ledger.any (fun e => e.2.live d.now && e.2.covers action a)

end Sys2Proof.Machine
end

