-- ==== Sys2Proof/Machine/Aes.lean ====
section
/-!
DEFINITION. AES, GCM, counter mode and CMAC, as the standards that R411 names define them (log entry 26).
-/
namespace Sys2Proof.Machine

/-- The S-box of FIPS 197, 32 bytes to a row: byte i of a row, the least significant first, is the value for 32 × row + i. -/
def aesSbox : List Nat := [
  0xc072a49cafa2d4adf04759fa7dc982ca76abd7fe2b670130c56f6bf27b777c63,
  0x75b227ebe28012079a059618c323c7041531d871f1e5a534ccf73f362693fdb7,
  0xcf584c4a39becb6a5bb1fc20ed00d153842fe329b3d63b52a05a6e1b1a2c8309,
  0xd2f3ff1021dab6bcf5389d928f40a351a89f3c507f02f94585334d43fbaaefd0,
  0xdb0b5ede14b8ee4688902a22dc4f816073195d643d7ea7c41744975fec130ccd,
  0x08ae7a65eaf4566ca94ed58d6d37c8e779e4959162acd3c25c2406490a3a32e0,
  0x9e1dc186b95735610ef6034866b53e708a8bbd4b1f74dde8c6b4a61c2e2578ba,
  0x16bb54b00f2d99416842e6bf0d89a18cdf2855cee9871e9b948ed9691198f8e1]

def subByte (b : Byte) : Byte := BitVec.ofNat 8 (aesSbox.getD (b.toNat / 32) 0 >>> (8 * (b.toNat % 32)))

/-- Doubling in the field of FIPS 197. -/
def xtime (b : Byte) : Byte := if b.getLsbD 7 then (b <<< 1) ^^^ 0x1b else b <<< 1

def xorB (a b : Bytes) : Bytes := List.zipWith (fun x y => x ^^^ y) a b

/-- One column of MixColumns. -/
def mixColumn (c : Bytes) : Bytes :=
  (List.range 4).map (fun i =>
    let a := c.getD i 0
    let b := c.getD ((i + 1) % 4) 0
    xtime a ^^^ (xtime b ^^^ b) ^^^ c.getD ((i + 2) % 4) 0 ^^^ c.getD ((i + 3) % 4) 0)

/-- SubBytes and ShiftRows; the state is 16 bytes, column by column. -/
def subShift (s : Bytes) : Bytes := (List.range 16).map (fun i => subByte (s.getD ((5 * i) % 16) 0))

def mixColumns (s : Bytes) : Bytes := (List.range 4).flatMap (fun c => mixColumn (sliceB s (4 * c) 4))

/-- The key schedule: words of four bytes, oldest first. -/
def keyWords (nk : Nat) : Nat → Nat → Byte → List Bytes → List Bytes
  | 0, _, _, w => w
  | k + 1, i, rcon, w =>
    let prev := w.getLastD []
    let t :=
      if i % nk = 0 then xorB ((prev.drop 1 ++ prev.take 1).map subByte) [rcon, 0, 0, 0]
      else if 6 < nk && i % nk = 4 then prev.map subByte
      else prev
    keyWords nk k (i + 1) (if i % nk = 0 then xtime rcon else rcon) (w ++ [xorB (w.getD (i - nk) []) t])

/-- The round keys of a 16-byte or 32-byte key. -/
def roundKeys (key : Bytes) : List Bytes :=
  let nk := key.length / 4
  let w := keyWords nk (4 * (nk + 7) - nk) nk 1 ((List.range nk).map (fun i => sliceB key (4 * i) 4))
  (List.range (nk + 7)).map (fun r => (w.drop (4 * r)).take 4 |>.flatten)

/-- The AES block cipher under round keys. -/
def aesBlock (rk : List Bytes) (blk : Bytes) : Bytes :=
  let s0 := xorB blk (rk.getD 0 [])
  let mid := (rk.drop 1).dropLast
  let s1 := mid.foldl (fun s k => xorB (mixColumns (subShift s)) k) s0
  xorB (subShift s1) (rk.getLastD [])

/-- A byte string cut into blocks of 16; the last may be short. -/
def aesBlocks (l : Bytes) : List Bytes := (List.range ((l.length + 15) / 16)).map (fun i => sliceB l (16 * i) 16)

/-- Add to the low `w` bits of a 16-byte counter block. -/
def ctrAdd (w : Nat) (blk : Bytes) (n : Nat) : Bytes :=
  let v := beNat blk
  toBe 16 (v / 2 ^ w * 2 ^ w + (v % 2 ^ w + n) % 2 ^ w)

/-- Counter mode from a counter block of which the low `w` bits count. -/
def ctrMode (rk : List Bytes) (w : Nat) (iv : Bytes) (data : Bytes) : Bytes :=
  ((aesBlocks data).zipIdx).flatMap (fun e => xorB e.1 (aesBlock rk (ctrAdd w iv e.2)))

/-- Multiplication in the field of GCM; bit 127 of the number is the first bit of the block. -/
def gmul (x y : BitVec 128) : BitVec 128 :=
  ((List.range 128).foldl (fun (acc : BitVec 128 × BitVec 128) i =>
    let z := if x.getLsbD (127 - i) then acc.1 ^^^ acc.2 else acc.1
    let v := if acc.2.getLsbD 0 then (acc.2 >>> 1) ^^^ (0xe1#128 <<< 120) else acc.2 >>> 1
    (z, v)) (0, y)).1

def ghash (h : BitVec 128) (data : Bytes) : BitVec 128 :=
  (aesBlocks data).foldl (fun y b => gmul (y ^^^ BitVec.ofNat 128 (beNat (padTo 16 b))) h) 0

def pad16 (l : Bytes) : Bytes := l ++ List.replicate ((16 - l.length % 16) % 16) 0

/-- The 16-byte GCM tag of a ciphertext under a 96-bit IV. -/
def gcmTag (rk : List Bytes) (iv aad ct : Bytes) : Bytes :=
  let h := BitVec.ofNat 128 (beNat (aesBlock rk (List.replicate 16 0)))
  let s := ghash h (pad16 aad ++ pad16 ct ++ toBe 8 (8 * aad.length) ++ toBe 8 (8 * ct.length))
  xorB (toBe 16 s.toNat) (aesBlock rk (iv.take 12 ++ [0, 0, 0, 1]))

/-- GCM encryption or decryption of the data (SP 800-38D). -/
def gcmCrypt (rk : List Bytes) (iv data : Bytes) : Bytes := ctrMode rk 32 (iv.take 12 ++ [0, 0, 0, 2]) data

/-- Doubling in the field of CMAC. -/
def cmacDouble (b : Bytes) : Bytes :=
  let v : BitVec 128 := BitVec.ofNat 128 (beNat b)
  toBe 16 (if v.getLsbD 127 then (v <<< 1) ^^^ 0x87 else v <<< 1).toNat

/-- The 16-byte CMAC of a message (SP 800-38B). -/
def cmac (rk : List Bytes) (m : Bytes) : Bytes :=
  let k1 := cmacDouble (aesBlock rk (List.replicate 16 0))
  let n := (m.length + 15) / 16 - 1
  let last := m.drop (16 * n)
  let last' := if last.length = 16 then xorB last k1 else xorB (padTo 16 (last ++ [0x80])) (cmacDouble k1)
  aesBlock rk (xorB ((aesBlocks (m.take (16 * n))).foldl (fun x b => aesBlock rk (xorB x b)) (List.replicate 16 0)) last')

end Sys2Proof.Machine
end

