-- ==== Sys2Proof/Machine/KeyCore.lean ====
section
/-!
DEFINITION. The random bit generator's requests and the key store's checks (R464–R471).
-/
namespace Sys2Proof.Machine

/-! ## Random bits (R463–R467) -/

/-- Whether the generator gives output. -/
def Dev.rngUp (d : Dev) : Bool :=
  match d.cry.rng.state with
  | .ok | .degraded => true
  | _ => false

/-- R464: a request of a client is counted; its first request instantiates it from the base. -/
def Dev.rngRequest (d : Dev) (c : Nat) : Dev :=
  let x := d.cry.rng.clients.get {} c
  let y : RngClient := if x.ready then { x with sinceSeed := x.sinceSeed + 1 } else { ready := true, sinceSeed := 1, seededAt := d.now }
  ({ d with cry.rng.clients := d.cry.rng.clients.ins c y,
            cry.rng.baseRequests := d.cry.rng.baseRequests + (if x.ready then 0 else 1) }).bump Od.rcl_REQUESTS c

/-- A draw of random bytes from a client, at most 64 to a request (R464): free values (log entry 2). -/
def Dev.drawFrom (d : Dev) (c n : Nat) : Bytes × Dev := ((List.range ((n + 63) / 64)).foldl (fun (y : Dev) _ => y.rngRequest c) d).draw n

/-- RNG_SEED_READY (R463, R464, R467): the base is instantiated or reseeded; the first seed ends STARTING. -/
def Dev.rngSeed (d : Dev) : Dev :=
  let r := d.cry.rng
  let groups := (List.range 4).filter (fun g => !r.excluded.has g)
  if groups.length < 2 then d
  else
    let st : RngState := if groups.length = 4 then .ok else .degraded
    match r.state with
    | .starting =>
      ({ d with cry.rng := { r with state := st, groups := groups, baseReady := true, baseRequests := 0 } }).raise 25 0x22 0
    | .failed => d
    | _ =>
      if 65536 ≤ r.baseRequests then ({ d with cry.rng.baseRequests := 0 }).bump Od.rng_BASE_RESEEDS 0 else d

/-- Base and client states are zeroed (R466, R476). -/
def Dev.rngZero (d : Dev) : Dev := { d with cry.rng := { d.cry.rng with baseReady := false, baseRequests := 0, clients := [] } }

/-- RNG_HEALTH_FAIL (R465–R467): a group fails one of the four tests. -/
def Dev.rngHealthFail (d : Dev) (g test : Nat) : Dev :=
  let r := d.cry.rng
  if r.excluded.has g then d
  else
    let ex := r.excluded.ins g d.now
    let d1 := d.setAt Od.rng_FAILS test 0 (d.cfgAt Od.rng_FAILS test 0 + 1)
    let d2 := { d1 with cry.rng := { r with excluded := ex, groups := r.groups.filter (fun x => x ≠ g) } }
    match r.state with
    | .starting =>
      if 4 - ex.length < 2 then
        if 2 ≤ r.attempts then ({ d2 with cry.rng.state := .failed, cry.rng.attempts := 3 }).rngZero.raise 25 0x21 0
        else { d2 with cry.rng.attempts := r.attempts + 1, cry.rng.excluded := [] }
      else d2
    | .failed => d2
    | _ =>
      let d3 := d2.raise 25 0x20 g
      if 4 - ex.length < 2 then ({ d3 with cry.rng.state := .failed }).rngZero.raise 25 0x21 0
      else { d3 with cry.rng.state := .degraded }

/-- RNG_GROUP_RETEST (R466): 10 ms after its exclusion a group is tested again, and rejoins where it passes. A failed
generator with two healthy groups starts again from a seed. -/
def Dev.rngRetest (d : Dev) (g : Nat) (pass : Bool) : Dev :=
  let r := d.cry.rng
  match r.excluded.find g with
  | none => d
  | some t =>
    if d.now < t + 10 * ms then d
    else if !pass then { d with cry.rng.excluded := r.excluded.ins g d.now }
    else
      let ex := r.excluded.del g
      let st : RngState := match r.state with
        | .starting => .starting
        | .failed => if 2 ≤ 4 - ex.length then .starting else .failed
        | _ => if ex.isEmpty then .ok else .degraded
      { d with cry.rng := { r with excluded := ex, state := st, groups := insSorted (fun x => (x : Int)) g r.groups } }

/-- RNG_CLIENT_RESEED (R464). -/
def Dev.rngReseed (d : Dev) (c : Nat) : Dev :=
  let x := d.cry.rng.clients.get {} c
  if d.rngUp && x.ready && (decide (2 ^ 20 ≤ x.sinceSeed) || decide (x.seededAt + sec ≤ d.now)) then
    ({ d with cry.rng.clients := d.cry.rng.clients.ins c { x with sinceSeed := 0, seededAt := d.now },
              cry.rng.baseRequests := d.cry.rng.baseRequests + 1 }).bump Od.rcl_RESEEDS c
  else d

/-! ## Key slots (R469–R471) -/

/-- Who uses a slot; the bit of USERS (R470). -/
inductive KeyUser where
  | engine | lane (n : Nat) | firmware | task | host
deriving DecidableEq, Repr

def KeyUser.bit : KeyUser → Nat
  | .engine => 0
  | .lane _ => 1
  | .firmware => 2
  | .task => 3
  | .host => 4

def KeySlot.type (x : KeySlot) : Nat := leAt x.policy 0 1
def KeySlot.users (x : KeySlot) : Nat := leAt x.policy 1 1
def KeySlot.ops (x : KeySlot) : Nat := leAt x.policy 2 2
def KeySlot.states (x : KeySlot) : Nat := leAt x.policy 4 1
def KeySlot.wrapped (x : KeySlot) : Bool := bitOf (leAt x.policy 5 1) 0
def KeySlot.useLimit (x : KeySlot) : Nat := leAt x.policy 8 4
def KeySlot.lane (x : KeySlot) : Nat := leAt x.policy 12 1

/-- R469: the handle of a slot. -/
def keyhOf (slot : Nat) (x : KeySlot) : Nat := slot + 4096 * (x.generation % 65536)

/-- R470: a STATES byte admits a life-cycle state. -/
def statesAdmit (states : Nat) (s : LcState) : Bool :=
  match s with
  | .lost | .blank | .scrap => false
  | _ => bitOf states (s.code - 2)

/-- R470: the OPS bits that mean something for a TYPE. -/
def opsOfType (t : Nat) : Nat :=
  match t with
  | 1 | 2 => 0x143
  | 3 => 0x044
  | 4 => 0x048
  | 5 | 6 => 0x010
  | 7 | 8 => 0x0B0
  | _ => 0

/-- R470: LENGTH agrees with TYPE. -/
def keyLengthOk (t n : Nat) : Bool :=
  match t with
  | 1 => n == 16
  | 2 | 4 | 7 => n == 32
  | 3 => decide (1 ≤ n ∧ n ≤ 64)
  | 5 | 6 => n == 64
  | 8 => n == 48
  | _ => false

/-- R470: a policy is valid. -/
def policyOk (p : Bytes) : Bool :=
  let t := leAt p 0 1
  decide (1 ≤ t ∧ t ≤ 8) && decide (leAt p 1 1 < 32) && decide (leAt p 2 2 &&& opsOfType t = leAt p 2 2) &&
    decide (leAt p 4 1 < 64) && decide (leAt p 5 1 < 2) && keyLengthOk t (leAt p 6 1) && decide (leAt p 7 1 = 0) &&
    decide (leAt p 13 3 = 0)

/-- R469–R471: the slot that a handle names, where a use is admitted: it is not empty, its generation agrees, and its TYPE,
OPS, USERS, LANE and STATES allow it. `ops` lists OPS bits of which one must be set. -/
def Dev.keyUse (d : Dev) (keyh : Nat) (ops : List Nat) (user : KeyUser) : Option (Nat × KeySlot) :=
  let s := keyh % 4096
  let x := d.cry.keys.slots.get {} s
  let laneOk := match user with
    | .lane n => decide (x.lane = 0xFF) || decide (x.lane = n)
    | _ => true
  if x.full && decide (keyhOf s x = keyh) && ops.any (bitOf x.ops) && bitOf x.users user.bit && laneOk &&
      statesAdmit x.states d.cry.lcy.state then some (s, x) else none

/-- R471: an operation of a SIGN or ECDH key is counted; a WRAPPED slot reserves its count ahead in blocks of 256; reaching
the limit raises KEY_LIMIT. -/
def Dev.countUse (d : Dev) (s : Nat) : Dev :=
  let x := d.cry.keys.slots.get {} s
  let n := x.uses + 1
  let d1 := { d with cry.keys.slots := d.cry.keys.slots.ins s { x with uses := n } }
  let d2 := if x.wrapped then
      { d1 with cry.keys.records := d1.cry.keys.records.map (fun r =>
          if r.slot = s && decide (r.generation = x.generation) && decide (r.reserved < n) then { r with reserved := (n + 255) / 256 * 256 } else r) }
    else d1
  if n = x.useLimit then d2.raise 25 0x31 s else d2

/-- Whether the use limit of a SIGN or ECDH key has been reached (R471). -/
def KeySlot.spent (x : KeySlot) : Bool := decide (x.useLimit ≠ 0xFFFFFFFF) && decide (x.useLimit ≤ x.uses)

end Sys2Proof.Machine
end

