-- ==== Sys2Proof/Machine/Sha.lean ====
section
/-!
DEFINITION. SHA-256, HMAC-SHA256 and HKDF-SHA256, as the standards named in the spec define them (log entry 26).
-/
namespace Sys2Proof.Machine

/-- The fractional parts of the cube roots of the first 64 primes, eight to a row, each in 32 bits. -/
def shaRoots : List Nat := [
  0x428a2f9871374491b5c0fbcfe9b5dba53956c25b59f111f1923f82a4ab1c5ed5,
  0xd807aa9812835b01243185be550c7dc372be5d7480deb1fe9bdc06a7c19bf174,
  0xe49b69c1efbe47860fc19dc6240ca1cc2de92c6f4a7484aa5cb0a9dc76f988da,
  0x983e5152a831c66db00327c8bf597fc7c6e00bf3d5a7914706ca635114292967,
  0x27b70a852e1b21384d2c6dfc53380d13650a7354766a0abb81c2c92e92722c85,
  0xa2bfe8a1a81a664bc24b8b70c76c51a3d192e819d6990624f40e3585106aa070,
  0x19a4c1161e376c082748774c34b0bcb5391c0cb34ed8aa4a5b9cca4f682e6ff3,
  0x748f82ee78a5636f84c878148cc7020890befffaa4506cebbef9a3f7c67178f2]

/-- The 64 round constants of SHA-256: the 32-bit digits of the rows, the leading one first. -/
def shaK : List Word32 :=
  shaRoots.flatMap (fun row => (List.range 8).map (fun i => BitVec.ofNat 32 (row / 2 ^ (32 * (7 - i)))))

/-- The eight working words of SHA-256. -/
structure ShaState where
  a : Word32 := 0x6a09e667
  b : Word32 := 0xbb67ae85
  c : Word32 := 0x3c6ef372
  d : Word32 := 0xa54ff53a
  e : Word32 := 0x510e527f
  f : Word32 := 0x9b05688c
  g : Word32 := 0x1f83d9ab
  h : Word32 := 0x5be0cd19
deriving DecidableEq, Repr

/-- The next message-schedule word from the last sixteen, newest first. -/
def shaSchedule (w : List Word32) : Word32 :=
  let w2 := w.getD 1 0
  let w7 := w.getD 6 0
  let w15 := w.getD 14 0
  let w16 := w.getD 15 0
  let s1 := w2.rotateRight 17 ^^^ w2.rotateRight 19 ^^^ (w2 >>> 10)
  let s0 := w15.rotateRight 7 ^^^ w15.rotateRight 18 ^^^ (w15 >>> 3)
  s1 + w7 + s0 + w16

/-- One round with a constant and a schedule word. -/
def shaRound (s : ShaState) (k w : Word32) : ShaState :=
  let s1 := s.e.rotateRight 6 ^^^ s.e.rotateRight 11 ^^^ s.e.rotateRight 25
  let ch := (s.e &&& s.f) ^^^ (~~~s.e &&& s.g)
  let t1 := s.h + s1 + ch + k + w
  let s0 := s.a.rotateRight 2 ^^^ s.a.rotateRight 13 ^^^ s.a.rotateRight 22
  let maj := (s.a &&& s.b) ^^^ (s.a &&& s.c) ^^^ (s.b &&& s.c)
  { a := t1 + (s0 + maj), b := s.a, c := s.b, d := s.c, e := s.d + t1, f := s.e, g := s.f, h := s.g }

/-- The compression of one 64-byte block. -/
def shaBlock (s : ShaState) (blk : Bytes) : ShaState :=
  let w0 := (List.range 16).map (fun i => BitVec.ofNat 32 (beAt blk (4 * i) 4))
  let w := ((List.range 48).foldl (fun acc _ => shaSchedule acc :: acc) w0.reverse).reverse
  let r := (shaK.zip w).foldl (fun t e => shaRound t e.1 e.2) s
  { a := s.a + r.a, b := s.b + r.b, c := s.c + r.c, d := s.d + r.d, e := s.e + r.e, f := s.f + r.f, g := s.g + r.g, h := s.h + r.h }

/-- The padding of a message of a length. -/
def shaPad (n : Nat) : Bytes := 0x80 :: (List.replicate ((119 - n % 64) % 64) 0 ++ toBe 8 (8 * n))

def shaBlocks : Nat → ShaState → Bytes → ShaState
  | 0, s, _ => s
  | k + 1, s, m => if m.isEmpty then s else shaBlocks k (shaBlock s (m.take 64)) (m.drop 64)

/-- SHA-256. -/
def sha256 (m : Bytes) : Bytes :=
  let p := m ++ shaPad m.length
  let s := shaBlocks (p.length / 64) {} p
  [s.a, s.b, s.c, s.d, s.e, s.f, s.g, s.h].flatMap (fun w => toBe 4 w.toNat)

/-- HMAC-SHA256. -/
def hmac (key m : Bytes) : Bytes :=
  let k := padTo 64 (if 64 < key.length then sha256 key else key)
  sha256 (k.map (fun b => b ^^^ 0x5c) ++ sha256 (k.map (fun b => b ^^^ 0x36) ++ m))

def hkdfExtract (salt ikm : Bytes) : Bytes := hmac (if salt.isEmpty then List.replicate 32 0 else salt) ikm

def hkdfLoop (prk info : Bytes) : Nat → Nat → Bytes → Bytes
  | 0, _, _ => []
  | k + 1, i, t =>
    let t' := hmac prk (t ++ info ++ [BitVec.ofNat 8 i])
    t' ++ hkdfLoop prk info k (i + 1) t'

/-- HKDF-SHA256 expand to a length. -/
def hkdfExpand (prk info : Bytes) (len : Nat) : Bytes := (hkdfLoop prk info ((len + 31) / 32) 1 []).take len

end Sys2Proof.Machine
end

