-- ==== Sys2Proof/Machine/WrapOps.lean ====
section
/-!
DEFINITION. The wrapped-key records of flash: their bytes, writing and reading them (R473).
-/
namespace Sys2Proof.Machine

/-- The wrapping key: HKDF-SHA256 of the fuse key under the wrap salt. -/
def Dev.wrapKey (d : Dev) : Bytes := hkdfExpand (hkdfExtract d.cry.keys.salt Config.fuseKey) (ascii "TQV9640 key wrap") 32

/-- The bytes of a record under a wrapping key and an IV; the IV is the write counter, most significant byte first (log entry
169). -/
def recordBytes (wk : Bytes) (n s g : Nat) (policy key : Bytes) : Bytes :=
  let rk := roundKeys wk
  let head := toLe 2 s ++ [0, 0] ++ toLe 4 g ++ padTo 16 policy
  let iv := toBe 12 n
  let ct := gcmCrypt rk iv (padTo 64 key)
  let b := head ++ iv ++ ct ++ gcmTag rk iv head ct
  b ++ toLe 4 (crc32c b).toNat ++ List.replicate 8 0

/-- What a record holds where its CRC and its tag check: the policy, and the key at its LENGTH. -/
def recordOpen (wk : Bytes) (b : Bytes) : Option (Bytes × Bytes) :=
  let rk := roundKeys wk
  let iv := sliceB b 24 12
  let ct := sliceB b 36 64
  if b.length = 128 && decide (leAt b 116 4 = (crc32c (b.take 116)).toNat) && decide (gcmTag rk iv (b.take 24) ct = sliceB b 100 16) then
    some (sliceB b 8 16, (gcmCrypt rk iv ct).take (leAt b 14 1))
  else none

/-- The public key of a key of a TYPE (R472, R478). -/
def publicKey (t : Nat) (key : Bytes) : Bytes :=
  if t = 5 || t = 6 then (Config.publicOf t key).take 32 else if t = 7 || t = 8 then (Config.publicOf t key).take 97 else []

/-- R136, R473: the next value of the write counter, with its reservation kept ahead of it. -/
def Dev.wrapCount (d : Dev) : Dev :=
  let k := d.cry.keys
  { d with cry.keys := { k with wrapNext := k.wrapNext + 1,
                                wrapReserved := if k.wrapReserved ≤ k.wrapNext then (k.wrapNext / 2 ^ 24 + 1) * 2 ^ 24 else k.wrapReserved } }

/-- R473: the record of a WRAPPED slot as it stands is written, and then its old one is invalidated. -/
def Dev.writeRecord (d : Dev) (s : Nat) : Dev :=
  let x := d.cry.keys.slots.get {} s
  if !x.wrapped then d
  else
    let old := d.cry.keys.records.filter (fun r => r.slot == s)
    let r : KeyRecord := { slot := s, generation := x.generation, raw := recordBytes d.wrapKey d.cry.keys.wrapNext s x.generation x.policy x.key,
                           reserved := ((old.find? (fun r => r.generation == x.generation)).map (·.reserved)).getD 0 }
    let d1 := d.wrapCount
    { d1 with cry.keys.records := r :: d1.cry.keys.records.filter (fun r => r.slot ≠ s) }

/-- R469: the next generation of a slot; never 0 modulo 2^16. -/
def nextGen (g : Nat) : Nat := if (g + 1) % 65536 = 0 then g + 2 else g + 1

/-- Put a key into a slot (R469, R470, R473): its generation rises, and a WRAPPED one is recorded in flash. -/
def Dev.fillSlot (d : Dev) (s : Nat) (policy key pub : Bytes) : Dev :=
  let g := nextGen (d.cry.keys.gens.get 0 s)
  let x : KeySlot := { generation := g, full := true, policy := policy, key := key, uses := 0, pub := pub }
  ({ d with cry.keys.slots := d.cry.keys.slots.ins s x, cry.keys.gens := d.cry.keys.gens.ins s g } : Dev).writeRecord s

/-- R472: slot 4 + 2p + d holds the link key of port p and direction d, 0 for what it sends (log entry 160). -/
def linkSlot (p : Nat) (rx : Bool) : Nat := 4 + 2 * p + b2n rx

/-- R472, R489: the policy of a link key or of the twin transport key: AES256 for the session engine, SEAL and OPEN, usable in
PROVISIONED and OPERATIONAL, not wrapped. -/
def linkPolicy : Bytes := [2, 1, 3, 0, 0x0C, 0, 32, 0, 0xFF, 0xFF, 0xFF, 0xFF, 0xFF, 0, 0, 0]

/-- The key that a port's link sealer uses in a direction. -/
def Dev.linkKey (d : Dev) (p : Nat) (rx : Bool) : Bytes := (d.cry.keys.slots.get {} (linkSlot p rx)).key

/-- R230, R472: at join the twin transport key is derived into slot 20; a free value (log entry 160). -/
def Dev.twinKey (d : Dev) : Dev :=
  let (k, d1) := d.draw 32
  d1.fillSlot 20 linkPolicy k []

end Sys2Proof.Machine
end

