-- ==== Sys2Proof/Machine/FerryCore.lean ====
section
/-!
DEFINITION. Sending on Ferry links: wiring, routes, the replay buffer (R216–R220).
-/
namespace Sys2Proof.Machine

def Dev.fport (d : Dev) (p : Nat) : FerryPort := d.fry.ports.get {} p

def Dev.setFPort (d : Dev) (p : Nat) (x : FerryPort) : Dev := { d with fry.ports := d.fry.ports.put {} p x }

/-- The members of the flotilla; a chip that is not one runs alone (R220, R221). -/
def Dev.floMembers (d : Dev) : List Nat :=
  let m := d.cfgN Od.flo_MEMBERS 0
  if bitOf m d.fry.flo.ownId then (List.range 8).filter (bitOf m) else [d.fry.flo.ownId]

/-- TOPOLOGY as it applies to this chip (R220, R221). -/
def Dev.topology (d : Dev) : Nat :=
  if bitOf (d.cfgN Od.flo_MEMBERS 0) d.fry.flo.ownId then d.cfgN Od.flo_TOPOLOGY 0 else 0

/-- R220: the chip and port to which a port of this chip is wired; none where the table gives it no wiring. -/
def Dev.wiring (d : Dev) (p : Nat) : Option (Nat × Nat) :=
  let own := d.fry.flo.ownId
  let n := d.floMembers.length
  match d.topology with
  | 1 => if p < 2 && own < 2 then some (1 - own, p) else none
  | 2 =>
    match p with
    | 0 => some ((own + 1) % n, 1)
    | 1 => some ((own + n - 1) % n, 0)
    | 2 => some ((own + 1) % n, 3)
    | 3 => some ((own + n - 1) % n, 2)
    | _ => none
  | 3 => if p ≠ own && p ∈ d.floMembers then some (p, own) else none
  | _ => none

def Dev.fportUp (d : Dev) (p : Nat) : Bool := decide ((d.fport p).state = .up)

/-- The first UP port of a list. -/
def Dev.firstUp (d : Dev) (ps : List Nat) : Option Nat := ps.find? (fun p => d.fportUp p)

/-- R220: the port by which a frame for a chip leaves: the shorter way round a ring, the other way where that is down. -/
def Dev.ferryRoute (d : Dev) (dst : Nat) : Option Nat :=
  let own := d.fry.flo.ownId
  let n := d.floMembers.length
  if dst = own then none
  else
    match d.topology with
    | 1 => d.firstUp [0, 1]
    | 2 =>
      let fwd := (dst + n - own) % n
      if 2 * fwd ≤ n then d.firstUp [0, 2, 1, 3] else d.firstUp [1, 3, 0, 2]
    | 3 => d.firstUp [dst]
    | _ => none

/-- R214: a port of one lane carries only BUDGET, MIGRATION and BULK; LINK frames run on every port. -/
def FerryPort.carries (x : FerryPort) (cls : Nat) : Bool := decide (4 ≤ cls) || decide (2 ≤ x.width)

/-! ## Frames on the link (R215–R218) -/

/-- The 12 bytes of a link header (R216). -/
def linkHeader (cls msg src dst seq ack length : Nat) : Bytes :=
  [BitVec.ofNat 8 cls, BitVec.ofNat 8 msg, BitVec.ofNat 8 src, BitVec.ofNat 8 dst] ++ toBe 2 seq ++ toBe 2 ack ++ toBe 2 length ++ [0, 0]

/-- The bytes of a link frame (R215, R216): header, ciphertext, tag with the header as additional data, and the CRC-32C of all of
it. The IV is the direction bit and the 95-bit frame count. -/
def LinkOut.bytes (f : LinkOut) : Bytes :=
  let head := linkHeader f.cls f.msg f.src f.dst f.seq f.ack f.payload.length
  let rk := roundKeys f.key
  let iv := toBe 12 (2 ^ 95 * b2n f.dir + f.count)
  let ct := gcmCrypt rk iv f.payload
  let body := head ++ ct ++ gcmTag rk iv head ct
  body ++ toBe 4 (crc32c body).toNat

/-- A frame leaves on a port, sealed under the next frame count (R215). -/
def Dev.linkEmit (d : Dev) (p cls msg dst seq : Nat) (payload : Bytes) : Dev :=
  let x := d.fport p
  (d.setFPort p { x with txCount := x.txCount + 1, lastTx := d.now }).emit
    (.ferry p { cls := cls, msg := msg, src := d.fry.flo.ownId, dst := dst, seq := seq, ack := x.rxSeq, payload := payload,
                key := d.linkKey p false, dir := decide (x.peerId < d.fry.flo.ownId), count := x.txCount })

/-- A LINK frame, which has no sequence and is never resent (R216, R218). -/
def Dev.linkFrame (d : Dev) (p msg : Nat) : Dev := d.linkEmit p 7 msg (d.fport p).peerId 0 []

/-- A message takes the next link sequence and a place in the replay buffer, and leaves (R217). -/
def Dev.linkSend (d : Dev) (p : Nat) (m : LinkMsg) : Dev :=
  let x := d.fport p
  let f : LinkFrame := { seq := x.txSeq, cls := m.cls, msg := m.msg, dst := m.dst, payload := m.payload, sentAt := d.now, resends := 0 }
  (d.setFPort p { x with txSeq := (x.txSeq + 1) % 65536, replay := x.replay ++ [f] }).linkEmit p m.cls m.msg m.dst x.txSeq m.payload

/-- Messages that wait go in the order of their classes, and in the order in which they came within one (R218). -/
def queueMsg (m : LinkMsg) : List LinkMsg → List LinkMsg
  | [] => [m]
  | a :: t => if m.cls < a.cls then m :: a :: t else a :: queueMsg m t

/-- Send a frame on a port; while the replay buffer holds 512 frames it waits for a place (R217). -/
def Dev.ferryOut (d : Dev) (p cls msg dst : Nat) (payload : Bytes) : Dev :=
  let x := d.fport p
  let m : LinkMsg := { cls := cls, msg := msg, dst := dst, payload := payload }
  if x.state ≠ .up || !x.carries cls || d.flt.chipSafe then d
  else if x.replay.length < 512 then d.linkSend p m
  else d.setFPort p { x with waiting := queueMsg m x.waiting }

/-- Messages that waited leave as far as the replay buffer has room. -/
def Dev.linkPump (d : Dev) (p : Nat) : Dev :=
  let x := d.fport p
  let n := 512 - x.replay.length
  (x.waiting.take n).foldl (fun e m => e.linkSend p m) (d.setFPort p { x with waiting := x.waiting.drop n })

/-- Send a frame to a chip of the flotilla, where a route leads to it. -/
def Dev.ferrySend (d : Dev) (cls msg dst : Nat) (payload : Bytes) : Dev :=
  match d.ferryRoute dst with
  | some p => d.ferryOut p cls msg dst payload
  | none => d

/-- Send a frame to every chip of the flotilla. -/
def Dev.ferryCast (d : Dev) (cls msg : Nat) (payload : Bytes) : Dev :=
  let ps := match d.topology with
    | 1 => [d.firstUp [0, 1]]
    | 2 => [d.firstUp [0, 2], d.firstUp [1, 3]]
    | 3 => d.floMembers.map (fun m => d.firstUp [m])
    | _ => []
  (ps.filterMap id).foldl (fun e p => e.ferryOut p cls msg 8 payload) d

/-- The chip of a BOARD twin's peer (R226). -/
def Dev.twinId (d : Dev) : Nat := d.fry.flo.ownId ^^^ 1

/-- A message from a chip has come up the link in its sequence (R217): the port that leads there expects the next one
(log entry 163). -/
def Dev.ferryGot (d : Dev) (chip : Nat) : Dev :=
  match d.ferryRoute chip with
  | some p => let x := d.fport p; d.setFPort p { x with lastRx := d.now, rxSeq := (x.rxSeq + 1) % 65536 }
  | none => d

/-- A twin message has come; in a BOARD twin it came over Ferry (R226, R227). -/
def Dev.twinGot (d : Dev) : Dev := if d.cfg Od.twn_TWIN_MODE 0 = 1 then d.ferryGot d.twinId else d

/-- R229: a heartbeat as a burst on TWHB_OUT. -/
def hbBurst (b : Bytes) : Bytes := [0xAA, 0xAB] ++ b ++ toBe 2 (crc16 b).toNat

end Sys2Proof.Machine
end

