-- ==== Sys2Proof/Machine/Wire.lean ====
section
/-!
DEFINITION. The secure field frame byte by byte: header, extensions, IV, sealing and opening (R181–R186).
-/
namespace Sys2Proof.Machine

/-- IV domain of a type (R183). -/
def domainOf (type : Nat) : Nat := if type = 5 then 1 else if type = 6 || type = 7 || type = 8 then 2 else 0

/-- The twelve bytes of a Bearing-stamp extension (R182): number, quality, two zero bytes, BVAL. -/
def stampExt (n q : Nat) (x : BVal) : Bytes := [BitVec.ofNat 8 n, BitVec.ofNat 8 q, 0, 0] ++ toBe 8 (patternOf 64 x)

/-- The extensions of a frame, in wire order (R182). -/
def extBytes (time : Option Ticks) (stamps : List (Nat × Nat × BVal)) : Bytes :=
  (match time with
    | some t => timeBe t
    | none => []) ++ stamps.flatMap (fun (n, q, x) => stampExt n q x)

/-- The 20 bytes of a base header (R181). -/
def sffHeader (version type flags session claim seq extLen length zero : Nat) : Bytes :=
  [BitVec.ofNat 8 (16 * version + type), BitVec.ofNat 8 flags] ++ toBe 3 session ++ toBe 4 claim ++ toBe 6 seq ++ [BitVec.ofNat 8 extLen] ++
    toBe 2 length ++ toBe 2 zero

/-- The 96-bit IV of a frame (R184): claim, domain and direction, count. -/
def sffIv (type claim seq : Nat) (responder : Bool) : Bytes :=
  toBe 4 claim ++ [BitVec.ofNat 8 (64 * domainOf type + 32 * b2n responder), 0] ++ toBe 6 seq

/-- The additional authenticated data of a frame: base header and extensions (R184). -/
def Sff.aad (f : Sff) : Bytes :=
  let e := extBytes f.time f.stamps
  sffHeader 1 f.type f.flags f.session f.claim f.seq (e.length / 4) f.payload.length 0 ++ e

/-- R184: a frame sealed under a key: header, extensions, ciphertext, tag. -/
def Sff.seal (f : Sff) (key : Bytes) (responder : Bool) : Bytes :=
  let rk := roundKeys key
  let iv := sffIv f.type f.claim f.seq responder
  let ct := gcmCrypt rk iv f.payload
  f.aad ++ ct ++ gcmTag rk iv f.aad ct

/-! ## A received frame -/

/-- The extensions, as far as EXT_LEN gives them. -/
def RxFrame.ext (f : RxFrame) : Bytes := f.body.take (4 * f.extLen)

/-- The ciphertext: what lies between extensions and tag. -/
def RxFrame.cipher (f : RxFrame) : Bytes := (f.body.drop (4 * f.extLen)).take (f.body.length - 4 * f.extLen - 16)

def RxFrame.tag (f : RxFrame) : Bytes := f.body.drop (f.body.length - 16)

/-- FLAGS of a frame (R181). -/
def RxFrame.timeExt (f : RxFrame) : Bool := bitOf f.flags 3
def RxFrame.bearingExt (f : RxFrame) : Nat := bitsOf f.flags 5 4

/-- The time-stamp extension (R182). -/
def RxFrame.time (f : RxFrame) : Option Ticks := if f.timeExt then timeOfLe (f.ext.take 12).reverse else none

/-- The bytes of the k-th Bearing stamp. -/
def RxFrame.stampAt (f : RxFrame) (k : Nat) : Bytes := sliceB f.ext (12 * (b2n f.timeExt + k)) 12

/-- The Bearing-stamp extensions (R182). -/
def RxFrame.stamps (f : RxFrame) : List (Nat × Nat × BVal) :=
  (List.range f.bearingExt).map (fun k => (beAt (f.stampAt k) 0 1, beAt (f.stampAt k) 1 1, signedOf 64 (beAt (f.stampAt k) 4 8)))

/-- R182: the five cases in which a receiver drops a frame for its form do not hold. A time stamp that breaks R7 is a malformed
field (log entry 149). -/
def RxFrame.formed (f : RxFrame) (type : Nat) : Bool :=
  decide (f.version = 1) && decide (type < 12) && decide (f.flags < 64) && decide (f.zero = 0) && decide (f.bearingExt ≤ 2) &&
    decide (f.extLen = 3 * (b2n f.timeExt + f.bearingExt)) && decide (f.length + 4 * f.extLen + 16 = f.body.length) &&
    (!f.timeExt || f.time.isSome) && (List.range f.bearingExt).all (fun k => decide (beAt (f.stampAt k) 2 2 = 0))

def RxFrame.aad (f : RxFrame) (type : Nat) : Bytes :=
  sffHeader f.version type f.flags f.session f.claim f.seq f.extLen f.length f.zero ++ f.ext

/-- R190, rule 1: open a frame under a key: its payload, none where the tag fails. `fromResponder`: the session's responder sent
it. -/
def RxFrame.openWith (f : RxFrame) (type : Nat) (key : Bytes) (fromResponder : Bool) : Option Bytes :=
  let rk := roundKeys key
  let iv := sffIv type f.claim f.seq fromResponder
  if gcmTag rk iv (f.aad type) f.cipher = f.tag then some (gcmCrypt rk iv f.cipher) else none

/-- The whole length of a frame after its carrier. -/
def RxFrame.len (f : RxFrame) : Nat := 20 + f.body.length

/-! ## Payloads of the control types (R186) -/

/-- The 8-byte entries of an ACK or NACK: sequence, result or reason, zero. -/
def ackEntries : Nat → Bytes → List (Nat × Nat)
  | 0, _ => []
  | k + 1, l => if l.length < 8 then [] else (beAt l 0 6, leAt l 6 1) :: ackEntries k (l.drop 8)

/-- The last byte of every entry. -/
def ackZeros : Nat → Bytes → Bool
  | 0, _ => true
  | k + 1, l => if l.length < 8 then true else decide (leAt l 7 1 = 0) && ackZeros k (l.drop 8)

/-- R5, R186: a payload has the layout of its type: its length, and zero in every reserved field. -/
def payloadFormed (type : Nat) (p : Bytes) : Bool :=
  match type with
  | 1 => decide (p.length % 8 = 0) && decide (8 ≤ p.length) && decide (p.length ≤ 512) && ackZeros 64 p
  | 11 => decide (p.length % 8 = 0) && decide (8 ≤ p.length) && decide (p.length ≤ 512) && ackZeros 64 p
  | 6 => decide (p.length = 24) && decide (beAt p 18 2 = 0)
  | 7 => decide (p.length = 8)
  | 8 => decide (p.length = 12) && decide (beAt p 10 1 < 4) && decide (beAt p 11 1 = 0)
  | 9 => (decide (p.length = 8) && decide (beAt p 6 2 = 0)) || (decide (p.length = 12) && decide (beAt p 9 3 = 0))
  | 4 => decide (p.length = 24)
  | 5 => decide (p.length ≤ 64)
  | _ => true

end Sys2Proof.Machine
end

