-- ==== Sys2Proof/Machine/SessionCore.lean ====
section
/-!
DEFINITION. What every user of a session needs: finding it, its state changes, its counters, and sending its frames
(R172–R173, R181–R189, R195–R196, R231).
-/
namespace Sys2Proof.Machine

def Dev.ses (d : Dev) (i : Nat) : Session := d.net.sessions.get {} i

def Dev.setSes (d : Dev) (i : Nat) (x : Session) : Dev := { d with net.sessions := d.net.sessions.put {} i x }

def Dev.onSes (d : Dev) (i : Nat) (f : Session → Session) : Dev := d.setSes i (f (d.ses i))

/-- The slot of a session ID (R172): the one whose SESSION_ID it is. -/
def Dev.sesOf (d : Dev) (sid : Nat) : Option Nat :=
  if sid = 0 then none else (d.listedInsts Od.ses_SESSION_ID).find? (fun i => d.cfgN Od.ses_SESSION_ID i == sid)

/-- Keys valid and traffic flowing: OPEN, STALLED, EXHAUSTED or CLOSING (R173). -/
def SState.live : SState → Bool
  | .opened | .stalled | .exhausted | .closing => true
  | _ => false

/-- The port of a session (R172): in a twin that spans two boards, unit 1 uses PORT_ALT where it names a port (log entry 151). -/
def Dev.sesPort (d : Dev) (i : Nat) : Nat :=
  if d.cfg Od.twn_TWIN_MODE 0 = 2 && d.unitBit = 1 && decide (d.cfgN Od.ses_PORT_ALT i < 32) then d.cfgN Od.ses_PORT_ALT i
  else d.cfgN Od.ses_PORT i

/-- The keys of one generation, where the session holds them. -/
def Session.keyOf (x : Session) (gen : Nat) : Option SessionKeys := (x.keys.toList ++ x.nextKeys.toList).find? (fun k => k.gen == gen)

/-- The bytes of a sealed frame leave on the session's port (R167). -/
def Dev.wireOut (d : Dev) (i : Nat) (f : Sff) (bytes : Bytes) : Dev :=
  let p := d.sesPort i
  d.portOut p bytes.length (.frame p (d.linkHead p (d.oct Od.ses_PEER_MAC i) (d.oct Od.ses_PEER_IP i)) f bytes)

/-- Seal a frame of a session under the key of its generation, and send it (R181, R184). -/
def Dev.frameOut (d : Dev) (i : Nat) (f : Sff) : Dev :=
  match (d.ses i).keyOf f.keyGen with
  | none => d
  | some k => d.wireOut i f (f.seal k.k (d.ses i).responder)

/-- The twin paths that carry replication: path 1, or path 2 when path 1 has failed (R227). -/
def Dev.replPath (d : Dev) : Nat := if d.fry.twin.path1 then 1 else 2

/-- R227: a session between the two units of a pair themselves. -/
def Dev.twinSession (d : Dev) (i : Nat) : Bool :=
  d.cfg Od.twn_TWIN_MODE 0 = 2 && (d.sesOf (d.cfgN Od.twn_TWIN_SESSION_A 0) == some i || d.sesOf (d.cfgN Od.twn_TWIN_SESSION_B 0) == some i)

/-- R183, R227: the unit leaves a session to the active one. -/
def Dev.standsBy (d : Dev) (i : Nat) : Bool := d.isStandby && !d.twinSession i

/-- The twin session of a path (R226). -/
def Dev.pathSession (d : Dev) (path : Nat) : Option Nat :=
  d.sesOf (d.cfgN (if path = 1 then Od.twn_TWIN_SESSION_A else Od.twn_TWIN_SESSION_B) 0)

/-- The key generation that seals domain-0 frames at a sequence: the next one from the switch sequence on, the current one
before it, as long as the session holds it (R187). -/
def Session.genAt (x : Session) (seq : Nat) : Nat :=
  match x.upd, x.nextKeys, x.keys with
  | some u, some n, some k => if u.switch ≤ seq then n.gen else k.gen
  | _, _, some k => k.gen
  | _, _, none => 0

/-- R227: the payload of the DATA frame that carries a twin message: the frame that Ferry would carry, without link sequences. -/
def Dev.twinPayload (d : Dev) (cls msg : Nat) (payload : Bytes) : Bytes :=
  linkHeader cls msg d.fry.flo.ownId d.fry.flo.ownId 0 0 payload.length ++ payload

/-- R227: a twin message on a path of a NETWORK twin. The count of a twin session is neither replicated nor held to R192
(log entry 162). -/
def Dev.twinData (d : Dev) (path cls msg : Nat) (payload : Bytes) : Dev :=
  match d.pathSession path with
  | none => d
  | some i =>
    let x := d.ses i
    if !x.state.live || d.flt.chipSafe || 2 ^ 48 - 1 ≤ x.tx then d
    else
      let g := x.genAt x.tx
      (d.setSes i { x with tx := x.tx + 1,
                           txReserved := if x.txReserved ≤ x.tx + 1 then ((x.tx + 1) / 2 ^ 24 + 1) * 2 ^ 24 else x.txReserved }).frameOut i
        { type := 2, flags := g % 2, session := d.cfgN Od.ses_SESSION_ID i, claim := d.fry.twin.claim, seq := x.tx,
          payload := d.twinPayload cls msg payload, keyGen := g }

/-- Send a twin message (R227, R230): over Ferry for a BOARD twin, on the session of the path that carries replication otherwise.
RESYNC travels in the MIGRATION class, every other message in the REPLICATION class. -/
def Dev.sendTwin (d : Dev) (msg : Nat) (payload : Bytes) : Dev :=
  let cls := if msg = 7 then 5 else 2
  if d.flt.chipSafe then d
  else if d.cfg Od.twn_TWIN_MODE 0 = 1 then d.ferrySend cls msg d.twinId payload else d.twinData d.replPath cls msg payload

/-- The unit replicates what it writes: to a joined standby, or to a peer that it resynchronises (R230, R235). -/
def Dev.replicates (d : Dev) : Bool :=
  decide (d.fry.twin.role = .active) || (decide (d.fry.twin.role = .activeSingle) && d.fry.twin.resyncSent)

/-- The receive window in a SESSION_STATE message: bit b of byte k for the sequence 8 k + b below the highest (log entry 88). -/
def Session.windowBytes (x : Session) : Bytes :=
  (List.range 128).map (fun k =>
    BitVec.ofNat 8 ((List.range 8).foldl (fun a b => if 8 * k + b ≤ x.high && decide (x.high - (8 * k + b) ∈ x.window) then a + 2 ^ b else a) 0))

/-- A SESSION_STATE message (R230). -/
def Session.stateBytes (x : Session) (i : Nat) : Bytes :=
  toBe 2 i ++ [0, 0] ++ toBe 4 x.claim ++ toBe 6 x.ceiling ++ toBe 6 x.high ++ toBe 6 x.safeLast ++ toBe 6 x.safeNext ++ x.windowBytes

/-- Replicate a session's state (R230, R231). -/
def Dev.replSession (d : Dev) (i : Nat) : Dev := if d.replicates && !d.twinSession i then d.sendTwin 3 ((d.ses i).stateBytes i) else d

/-- A key update of ours is unanswered. -/
def Session.updating (x : Session) : Bool :=
  match x.upd with
  | some u => !u.replied
  | none => false

/-- Change a session's state, with its event; a standby holds the state of the active unit (R173, R211). -/
def Dev.sesState (d : Dev) (i : Nat) (st : SState) : Dev :=
  let x := d.ses i
  if x.state = st then d else ((d.setSes i { x with state := st }).raise 18 0xE0 i [(st.code : Int)]).replSession i

/-- The newest key generation that a session holds. -/
def Session.newestGen (x : Session) : Nat :=
  match x.nextKeys, x.keys with
  | some k, _ => k.gen
  | none, some k => k.gen
  | none, none => 0

/-- The payload of a KEYUPD (R186). -/
def KeyUpdate.payload (u : KeyUpdate) (reply : Bool) : Bytes :=
  toBe 4 u.gen ++ toBe 6 u.switch ++ [BitVec.ofNat 8 (b2n u.rebase + 2 * b2n reply), 0]

/-- The key generation that seals domains 1 and 2 (R187). -/
def Session.ctlGen (x : Session) : Nat :=
  match x.upd, x.keys with
  | some u, _ => u.gen
  | none, some k => k.gen
  | none, none => 0

/-- Bytes of SAFE_PAYLOAD after its length byte (R209). -/
def Dev.safePayload (d : Dev) (i : Nat) : Bytes :=
  match d.oct Od.ses_SAFE_PAYLOAD i with
  | [] => []
  | n :: t => t.take n.toNat

/-- R189: a compatibility session whose key has sealed USAGE_LIMIT frames seals no more. -/
def Dev.usageSpent (d : Dev) (i : Nat) : Bool :=
  d.cfgB Od.ses_COMPAT i && decide (d.cfg Od.ses_USAGE_LIMIT i ≤ ((d.ses i).keyUses : Int))

/-- A frame is sealed under a generation (R189): each key has its own count. -/
def Session.useKey (x : Session) (gen : Nat) : Session :=
  if x.updating && x.newestGen == gen then { x with nextUses := x.nextUses + 1 } else { x with keyUses := x.keyUses + 1 }

def Dev.useKey (d : Dev) (i gen : Nat) : Dev := if d.cfgB Od.ses_COMPAT i then d.onSes i (fun x => x.useKey gen) else d

/-- The SAFE frame of a session under a count, with the present claim and key (R196). -/
def Dev.safeFrame (d : Dev) (i n : Nat) : Sff :=
  let g := (d.ses i).ctlGen
  { type := 5, flags := g % 2, session := d.cfgN Od.ses_SESSION_ID i, claim := d.fry.twin.claim, seq := n, payload := d.safePayload i, keyGen := g }

/-- The count under which a SAFE frame is pre-sealed: the next one, passed over where it has sealed other bytes under this claim
and key (R185). -/
def Dev.safeCount (d : Dev) (i : Nat) : Nat :=
  let x := d.ses i
  match x.safeSealed with
  | some (o, _) =>
    let f := d.safeFrame i o.seq
    if o ≠ f && o.seq = x.safeNext && o.claim = f.claim && o.keyGen = f.keyGen then x.safeNext + 1 else x.safeNext
  | none => x.safeNext

/-- R196: pre-seal the SAFE frame of a session under its next safe count, the present claim and the present key. A frame that
is being repeated stays as it is until its last repeat; a count never wraps (R184), and a spent key seals nothing (R189). -/
def Dev.presealSafe (d : Dev) (i : Nat) : Dev :=
  let x := d.ses i
  let n := d.safeCount i
  let f := d.safeFrame i n
  match x.keyOf f.keyGen with
  | none => d
  | some k =>
    if x.state.live && d.cfgB Od.ses_SAFE_ENABLE i && decide (x.safeLeft = 0) && !d.usageSpent i && decide (n < 2 ^ 48) &&
        !x.safeSealed.any (fun o => o.1 == f) then
      (d.setSes i { x with safeSealed := some (f, f.seal k.k x.responder), safeNext := n }).useKey i f.keyGen
    else d

/-- Emit a KEYUPD under the next generation and the next control count, which does not wrap (R184, R187). -/
def Dev.emitKeyUpd (d : Dev) (i : Nat) (u : KeyUpdate) (reply : Bool) : Dev :=
  let x := d.ses i
  if 2 ^ 48 ≤ x.ctlNext then d.setSes i { x with upd := some u }
  else
    (((d.setSes i { x with upd := some u, ctlNext := x.ctlNext + 1 }).frameOut i
      { type := 8, flags := u.gen % 2, session := d.cfgN Od.ses_SESSION_ID i, claim := d.fry.twin.claim, seq := x.ctlNext,
        payload := u.payload reply, keyGen := u.gen }).useKey i u.gen).presealSafe i

/-- R187: the keys of the generation after the newest one. -/
def Session.derive (x : Session) : Option SessionKeys :=
  let k? := match x.nextKeys with
    | some k => some k
    | none => x.keys
  k?.map (fun k =>
    let okm := hkdfExpand k.u (ascii "TQV9640 SFF update" ++ toBe 4 (k.gen + 1)) 64
    { gen := k.gen + 1, k := okm.take 32, u := okm.drop 32 })

/-- The switch sequence of an update whose older key the session still holds; none where one key seals every frame. -/
def Session.switchSeq (x : Session) : Option Nat :=
  match x.nextKeys, x.upd with
  | some _, some u => some u.switch
  | _, _ => none

/-- The content of a KEYS message before it is wrapped (R179, R185, R230; log entry 158): the newest keys, the sequence from which
they seal domain 0 (all ones where they seal it already), and the resumption secret. -/
def Session.keysBytes (x : Session) (i : Nat) : Option Bytes :=
  let newest : Option SessionKeys := match x.nextKeys with
    | some k => some k
    | none => x.keys
  newest.map (fun k => toBe 2 i ++ toBe 4 k.gen ++ k.k ++ k.u ++ toBe 6 (x.switchSeq.getD (2 ^ 48 - 1)) ++ (x.resume.map (fun r => r.secret)).getD [])

/-- R179: the active unit gives its peer a session's keys. -/
def Dev.replKeys (d : Dev) (i : Nat) : Dev :=
  if d.replicates && !d.twinSession i then
    match (d.ses i).keysBytes i with
    | some b => (d.sendTwin 4 b).replSession i
    | none => d
  else d

/-- Send KEYUPD for the next generation, or repeat an unanswered one (R187, R188). The switch sequence is 1 024 above the
transmit counter. -/
def Dev.sendKeyUpd (d : Dev) (i : Nat) (rebase : Bool) : Dev :=
  let x := d.ses i
  let fresh : KeyUpdate := { gen := x.newestGen + 1, switch := if rebase then 0 else x.tx + 1024, rebase := rebase, attempts := 1,
                             sentAt := d.now, startedAt := d.now }
  match x.upd, x.updating with
  | some u, true => d.emitKeyUpd i { u with attempts := u.attempts + 1, sentAt := d.now } false
  | _, _ => ((d.setSes i { x with nextKeys := x.derive }).emitKeyUpd i fresh false).replKeys i

/-- Count a frame sealed under a key; a compatibility session starts its update 4 096 frames early (R189). -/
def Dev.countSeal (d : Dev) (i gen : Nat) : Dev :=
  let d1 := d.useKey i gen
  if d.cfgB Od.ses_COMPAT i && decide (d.cfg Od.ses_USAGE_LIMIT i - 4096 ≤ ((d1.ses i).keyUses : Int)) && !(d1.ses i).updating then
    d1.sendKeyUpd i false
  else d1

/-- The oldest CMD of a session that is dispatched and unacknowledged: items, and launched frames sent. -/
def Dev.oldestCmd (d : Dev) (i : Nat) : Option Nat :=
  let items := d.que.man.items.filterMap (fun e =>
    if e.2.state = .dispatched && d.cfg Od.que_TARGET e.2.queue = 1 && d.sesOf (d.cfgN Od.que_SESSION e.2.queue) = some i
    then e.2.sff else none)
  let frames := d.lch.entries.filterMap (fun e =>
    match e.2.image.target with
    | .frame s _ _ => if e.2.sent && d.sesOf s = some i then e.2.sff else none
    | _ => none)
  match items ++ frames with
  | [] => none
  | a :: t => some (t.foldl min a)

/-- R192, R231: whether a domain-0 sequence is too far ahead of the oldest unacknowledged CMD. -/
def Dev.flowBlocked (d : Dev) (i seq : Nat) (again : Bool := false) : Bool :=
  match d.oldestCmd i with
  | none => false
  | some o =>
    let n := if d.fry.twin.role = .active && !again then max seq (d.ses i).ceiling else seq
    decide (o + 1024 ≤ n)

/-- R241: while ISOLATED no domain-0 counter passes its last replicated ceiling plus 2^28 - 1. -/
def Dev.isolatedCeiling (d : Dev) (i : Nat) : Bool :=
  d.fry.twin.isolated && decide ((d.ses i).ceiling + 2 ^ 28 - 1 ≤ (d.ses i).tx)

/-- Whether a session may seal domain-0 frames that no launch entry sends (R82, R188, R189, R241, R508): a launch-only session
carries no others. -/
def Dev.maySeal0 (d : Dev) (i : Nat) : Bool :=
  let x := d.ses i
  (match x.state with
    | .opened | .stalled | .closing => true
    | _ => false) && !d.usageSpent i && !d.isolatedCeiling i && !d.flt.chipSafe && !d.standsBy i && decide (d.cfg Od.ses_ROLE i ≠ 1)

/-- Whether a frame that is not journalled may go out now (R192): one that the sender's window holds back is not sent (log entry
152). -/
def Dev.maySend0 (d : Dev) (i : Nat) : Bool := d.maySeal0 i && !d.flowBlocked i (d.ses i).tx

/-- Take the next domain-0 count of a session (R188, R195, R231): at 2^47 a key update is due, at 2^48 - 1 the session is
EXHAUSTED; reservations and the replicated ceiling are kept ahead of the counter. -/
def Dev.takeTx (d : Dev) (i : Nat) : Nat × Dev :=
  let x := d.ses i
  let n := x.tx
  let d1 := d.setSes i { x with tx := n + 1,
                                txReserved := if x.txReserved ≤ n + 1 then ((n + 1) / 2 ^ 24 + 1) * 2 ^ 24 else x.txReserved }
  let d2 := if 2 ^ 47 ≤ n + 1 && !x.rekeyWarned then
      let e := (d1.onSes i (fun y => { y with rekeyWarned := true })).raise 18 0xE3 i
      if d.cfgB Od.ses_REKEY_AUTO i && !(e.ses i).updating then e.sendKeyUpd i false else e
    else d1
  let d3 := if 2 ^ 48 - 1 ≤ n + 1 then d2.sesState i .exhausted else d2
  let d4 := if x.ceiling < n + 1 + 128 && !d.fry.twin.isolated then (d3.onSes i (fun y => { y with ceiling := n + 1 + 256 })).replSession i else d3
  (n, if d4.isolatedCeiling i && !d.isolatedCeiling i then d4.raise 21 0xFB i else d4)

/-- Emit a sealed domain-0 frame with a given sequence. -/
def Dev.putFrame (d : Dev) (i type flags seq : Nat) (payload : Bytes) (time : Option Ticks := none)
    (stamps : List (Nat × Nat × BVal) := []) : Dev :=
  let x := d.ses i
  let g := x.genAt seq
  let fl := g % 2 + flags + (if time.isSome then 8 else 0) + 16 * stamps.length
  d.frameOut i
    { type := type, flags := fl, session := d.cfgN Od.ses_SESSION_ID i, claim := d.fry.twin.claim, seq := seq,
      time := time, stamps := stamps, payload := payload, keyGen := g }

/-- Seal a domain-0 frame with a given sequence, and emit it. -/
def Dev.sendFrame (d : Dev) (i type flags seq : Nat) (payload : Bytes) (time : Option Ticks := none)
    (stamps : List (Nat × Nat × BVal) := []) : Dev :=
  (d.putFrame i type flags seq payload time stamps).countSeal i ((d.ses i).genAt seq)

/-- Send a domain-0 frame that is not journalled (ACK, NACK, DATA, MGMT …), where the session may seal one (R183). -/
def Dev.send0 (d : Dev) (i type flags : Nat) (payload : Bytes) : Dev :=
  if d.maySend0 i then
    let (n, d1) := d.takeTx i
    d1.sendFrame i type flags n payload
  else d

/-- Send a domain-2 frame (HEARTBEAT, CLAIM) under the next control count (R183, R184, R187). -/
def Dev.send2 (d : Dev) (i type : Nat) (payload : Bytes) : Dev :=
  let x := d.ses i
  if !x.state.live || d.usageSpent i || d.standsBy i || d.flt.chipSafe || decide (2 ^ 48 ≤ x.ctlNext) then d
  else
    let g := x.ctlGen
    ((d.setSes i { x with ctlNext := x.ctlNext + 1 }).frameOut i
      { type := type, flags := g % 2, session := d.cfgN Od.ses_SESSION_ID i, claim := d.fry.twin.claim, seq := x.ctlNext,
        payload := payload, keyGen := g }).countSeal i g

/-- ACK one sequence (R186, R191): result 0 ACCEPTED, 1 DUPLICATE; ACK_NOW as the partner asked. -/
def Dev.sendAck (d : Dev) (i seq result : Nat) (ackNow : Bool := false) : Dev := d.send0 i 1 (2 * b2n ackNow) (toBe 6 seq ++ [BitVec.ofNat 8 result, 0])

/-- NACK one sequence with a reason (R186). -/
def Dev.sendNack (d : Dev) (i seq reason : Nat) : Dev := d.send0 i 11 0 (toBe 6 seq ++ [BitVec.ofNat 8 reason, 0])

/-- Emit the pre-sealed SAFE frame as it stands: no key, counter or limit is consulted (R185, R196). -/
def Dev.emitSafe (d : Dev) (i : Nat) : Dev :=
  match (d.ses i).safeSealed with
  | none => d
  | some (f, bytes) => d.wireOut i f bytes

/-- R196: send the SAFE frame and schedule its repeats. -/
def Dev.sendSafe (d : Dev) (i : Nat) : Dev :=
  if (d.ses i).safeSealed.isNone then d
  else
    let d1 := d.emitSafe i
    d1.onSes i (fun x => { x with safeLeft := d.cfgN Od.ses_SAFE_REPEAT i, safeAt := d.now + 100 * us })

/-- R190: mark a received domain-0 sequence as decided. -/
def Session.mark (x : Session) (seq : Nat) : Session :=
  if x.high < seq + 1024 && seq ∉ x.window then { x with window := insSorted (fun n => (n : Int)) seq x.window } else x

/-- R190: advance the window to a sequence, leaving its bit clear; R195: keep the receive reservation ahead. -/
def Session.advance (x : Session) (seq : Nat) : Session :=
  if x.high < seq then
    { x with high := seq, window := x.window.filter (fun s => decide (seq < s + 1024)),
             rxReserved := if x.rxReserved ≤ seq then (seq / 2 ^ 24 + 1) * 2 ^ 24 else x.rxReserved }
  else x

/-- R191: a received sequence is decided; the window is replicated. -/
def Dev.markSeq (d : Dev) (i seq : Nat) : Dev := (d.onSes i (fun x => x.mark seq)).replSession i

end Sys2Proof.Machine
end

