-- ==== Sys2Proof/Machine/QueueCore.lean ====
section
/-!
DEFINITION. Items: their cells, journal writes, outcomes and completion records (R117, R120–R122, R133–R135, R148, R149).
-/
namespace Sys2Proof.Machine

def Dev.man (d : Dev) : Manifest := d.que.man

def Dev.onMan (d : Dev) (f : Manifest → Manifest) : Dev := { d with que.man := f d.que.man }

def Dev.item (d : Dev) (h : Nat) : Option Item := d.que.man.items.find h

def Dev.setItem (d : Dev) (h : Nat) (x : Item) : Dev := { d with que.man.items := d.que.man.items.ins h x }

def Dev.onItem (d : Dev) (h : Nat) (f : Item → Item) : Dev :=
  match d.item h with
  | some x => d.setItem h (f x)
  | none => d

/-- The items of a queue in sequence order. -/
def Dev.itemsOf (d : Dev) (q : Nat) : List (Nat × Item) :=
  sortBy (fun e => (e.2.seq : Int)) (d.que.man.items.filter (fun e => e.2.queue == q))

/-! ## Cells (R134, R135, R205, R518) -/

/-- R518: the 16-bit first-order Reed–Muller codeword of a 5-bit value: bit i is c XOR parity(a AND i). -/
def rmCode (v : BitVec 5) : Nat :=
  let c := bitOf v.toNat 4
  let a := v.toNat % 16
  (List.range 16).foldl (fun w i => if xor c (parityOf 4 (a &&& i)) then w + 2 ^ i else w) 0

/-- R134, R518: the 5-bit values that may stand for an item state: every one whose codeword is not 0x0000 or 0xFFFF. -/
def stateValues : List (BitVec 5) := ((List.range 32).filter (fun v => decide (v % 16 ≠ 0))).map (BitVec.ofNat 5)

/-- One value of a list after another, each taken out of it: the index of each counts what is left. -/
def pickFrom (l : List (BitVec 5)) : List Nat → List (BitVec 5)
  | [] => []
  | k :: rest =>
    let v := l.getD (k % l.length) 1
    v :: pickFrom (l.erase v) rest

/-- The values of the item states by their numbers, and that of a stream's cells: all different (log entry 7). -/
def stateCodes : List (BitVec 5) := pickFrom stateValues ((List.range 9).map Config.itemStatePick)

def itemStateValue (n : Nat) : BitVec 5 := stateCodes.getD n 1

/-- The number of an item's state in its codeword: the seven states of `ItemState`, then RETIRED. -/
def Item.stateNumber (x : Item) : Nat :=
  if x.retired then 7
  else match x.state with
    | .accepted => 0
    | .dispatched => 1
    | .confirmed => 2
    | .cancelled => 3
    | .expired => 4
    | .rejected => 5
    | .failed => 6

/-- R134: whether an item has an attribute cell. -/
def needsAttr (d : Dev) (q : Nat) (kind : ItemKind) (source : ItemSource) (expiry : Bool) : Bool :=
  kind == .launchEntry || decide (d.cfg Od.que_CONVOY q ≠ 0xFFFF) || decide (d.cfg Od.que_TARGET q = 1) ||
    source == .ingress || expiry

/-- R134: cells of an item: 2 for a LAUNCH_ENTRY, else 1 + A + ceil(max(0, L - 16) / 30). -/
def cellsOf (kind : ItemKind) (attr : Bool) (len : Nat) : Nat :=
  match kind with
  | .launchEntry => 2
  | _ => 1 + b2n attr + ((len - 16) + 29) / 30

/-- Occupied runs of cells, rising: items and the two stream cells of each stream. -/
def Manifest.runs (m : Manifest) : List (Nat × Nat) :=
  sortBy (fun e => (e.1 : Int)) (m.items.map (fun e => (e.1, e.2.cells)) ++ m.streamCells.map (fun e => (e.2, 2)))

def Manifest.reserved (m : Manifest) : Nat := m.items.foldl (fun a e => a + e.2.reserve) 0

/-- MAN_FILL (R164): cells occupied, reserved ones included. -/
def Manifest.fill (m : Manifest) : Nat := m.runs.foldl (fun a e => a + e.2) 0 + m.reserved

/-- The first free run of `n` cells at or after `p`, over runs in rising order. -/
def runAfter (runs : List (Nat × Nat)) (n p : Nat) : Nat :=
  runs.foldl (fun p e => if e.1 < p + n && p < e.1 + e.2 then e.1 + e.2 else p) p

/-- R134: search forward from the cell after the last allocation, wrapping to cell 0; a run never wraps. -/
def Manifest.alloc (m : Manifest) (n : Nat) : Option Nat :=
  if 131072 < m.fill + n then none
  else
    let start := (m.lastAlloc + 1) % 131072
    let a := runAfter m.runs n start
    if a + n ≤ 131072 then some a
    else
      let b := runAfter m.runs n 0
      if b + n ≤ 131072 then some b else none

/-- KIND in a head cell (R135). -/
def ItemKind.code : ItemKind → Nat
  | .command => 0
  | .launchEntry => 1
  | .launchPost => 2

/-- A launch handle as records and cells hold it: bits [16:0] (R58, R120, R135). An item for which no launch slot is free has no
handle; its cells and records hold 0 there (log entry 142). -/
def handleBits (h : Nat) : Nat := h % 131072

/-- The SFF sequence in an attribute cell: the item's own, or that of the CMD it came in; 0 when none (R135). -/
def Item.cellSff (x : Item) : Nat :=
  match x.sff, x.ingress with
  | some n, _ => n
  | none, some (_, n) => n
  | none, none => 0

/-- R135: the cells of an item. -/
def Item.cellBytes (x : Item) : List Bytes :=
  let attr := decide (x.cells = cellsOf x.kind true x.body.length)
  let expiry := match x.expiry with
    | some t => timeLe t
    | none => List.replicate 12 0
  let head := toLe 2 (rmCode (itemStateValue x.stateNumber)) ++ toLe 2 (x.queue + 16384 * x.kind.code) ++
    toLe 6 x.seq ++ [BitVec.ofNat 8 (x.cells + 16 * b2n attr + 32 * b2n x.single), BitVec.ofNat 8 x.reason] ++
    toLe 4 (if x.kind = .launchPost then handleBits x.handle else x.tag) ++ padTo 16 x.body
  let attrCell := if x.kind = .launchEntry then
      toLe 2 0 ++ padTo 12 (x.body.drop 16) ++ toLe 2 x.detail ++ toLe 4 (handleBits x.handle) ++ toLe 6 x.cseq ++ toLe 2 0 ++ toLe 4 0
    else toLe 2 0 ++ toLe 6 x.cseq ++ toLe 6 x.cellSff ++ toLe 2 0 ++ expiry ++ toLe 4 0
  let rest := if x.kind = .launchEntry then []
    else (List.range ((x.body.length - 16 + 29) / 30)).map (fun i => toLe 2 0 ++ padTo 30 (x.body.drop (16 + 30 * i)))
  head :: (if attr then [attrCell] else []) ++ rest

/-- R230: the RECORD of an item's cells, or of the cell that it has left, under a journal count. -/
def Dev.recordOut (d : Dev) (n h : Nat) : Dev :=
  match d.item h with
  | none => d.sendTwin 1 (toBe 8 n ++ toBe 4 h ++ [0, 0, 0, 0])
  | some x => (d.sendTwin 1 (toBe 8 n ++ toBe 4 h ++ [BitVec.ofNat 8 x.cells, 0, 0, 0] ++ x.cellBytes.flatten)).onItem h (fun y => { y with journal := n })

/-- R128, R133, R230, R235: one manifest update; items without cells are not journalled. A joined active unit sends the RECORDs of
the items under one count and waits for their acknowledgement; one that resynchronises its peer sends them alike. -/
def Dev.journalAll (d : Dev) (hs : List Nat) : Dev :=
  let l := hs.filter (fun h => decide (h < 131072))
  if l.isEmpty then d
  else
    let n := d.fry.twin.journal + 1
    let d1 := { d with fry.twin.journal := n }
    if d.replicates then
      let d2 := l.foldl (fun e h => e.recordOut n h) d1
      if d.fry.twin.role = .active then d2.onMan (fun m => { m with unackedAt := m.unackedAt ++ [(n, d.now)] }) else d2
    else d1

/-- The manifest write of one item. -/
def Dev.journal (d : Dev) (h : Nat) : Dev := d.journalAll [h]

/-- R205: the two stream cells of a stream: a codeword and the extension marker, NEXT_EPOCH, the last sealed epoch (all ones
where there is none), its LAST_SEQ and its CHAIN, and the next certificate number (log entry 155). The rule names the content, not its places (log entry 88). -/
def Stream.cellBytes (x : Stream) : List Bytes :=
  let body := padTo 60 (toLe 8 x.nextEpoch ++ toLe 8 (x.sealedEpoch.getD (2 ^ 64 - 1)) ++ toLe 6 x.sealedSeq ++ padTo 32 x.sealedChain ++ toLe 6 x.certNo)
  [toLe 2 (rmCode (itemStateValue 8)) ++ body.take 30, toLe 2 0 ++ body.drop 30]

/-- R134, R205: cell `c` of a journal copy: a cell of the item or of the stream whose run holds it, or a free cell. -/
def journalCell (items : Tab Item) (streams : List (Nat × Stream)) (c : Nat) : Bytes :=
  match items.find? (fun e => decide (e.1 ≤ c) && decide (c < e.1 + e.2.cells)), streams.find? (fun e => decide (e.1 ≤ c) && decide (c < e.1 + 2)) with
  | some (h, x), _ => padTo 32 ((x.cellBytes.drop (c - h)).headD [])
  | none, some (h, x) => padTo 32 ((x.cellBytes.drop (c - h)).headD [])
  | none, none => padTo 32 [0xFF, 0xFF]

/-- The streams whose cells a unit's own manifest holds, by head cell. -/
def Dev.ownStreams (d : Dev) : List (Nat × Stream) := d.que.man.streamCells.map (fun e => (e.2, d.net.streams.get {} e.1))

/-- A stream as its mirrored cells describe it (R205). -/
def streamOfCopy (c : StreamCopy) : Stream :=
  { nextEpoch := c.next, sealedEpoch := c.sealedEpoch, sealedSeq := c.lastSeq, sealedChain := c.chain, lastChain := c.chain, certNo := c.cert }

/-- Whether the journal copy of this unit is its mirror (R137, R140): as standby and while it fills it, and as STALE unless it was
active until then and still has its manifest. -/
def Dev.keepsMirror (d : Dev) : Bool :=
  match d.fry.twin.role with
  | .standby | .syncing => true
  | .stale => d.que.man.items.isEmpty
  | _ => false

/-- R205: a manifest write of a stream's cells, replicated as those of an item. -/
def Dev.journalStream (d : Dev) (s : Nat) : Dev :=
  match d.man.streamCells.find s with
  | none => d
  | some c =>
    let n := d.fry.twin.journal + 1
    let d1 := { d with fry.twin.journal := n }
    if d.replicates then
      let d2 := d1.sendTwin 1 (toBe 8 n ++ toBe 4 c ++ [2, 0, 0, 0] ++ (d.net.streams.get {} s).cellBytes.flatten)
      if d.fry.twin.role = .active then d2.onMan (fun m => { m with unackedAt := m.unackedAt ++ [(n, d.now)] }) else d2
    else d1

/-! ## Completion records -/

/-- FLAGS of a completion record (R120), the phase taken from the ring position. -/
def recFlags (log2 pos : Nat) (replay : Bool) (x : Item) : Nat :=
  (1 - pos / 2 ^ log2 % 2) + 2 * b2n replay + 4 * b2n x.single + 8 * b2n x.migrated + 16 * b2n x.takeover

/-- The record of an item (R120): TYPE 1 ACCEPT or 2 TERMINAL. -/
def itemRec (x : Item) (type log2 pos : Nat) (replay : Bool) : CplRec :=
  { type := type, outcome := if type = 2 then x.state.outcome else 0, reason := if type = 2 then x.reason else 0,
    flags := recFlags log2 pos replay x, tag := if x.source = .host || x.source = .lane then x.tag else 0, seq := x.seq,
    detail := if x.kind = .launchEntry then x.detail else 0,
    at_ := if type = 1 then x.acceptedAt else x.outcomeAt, ref := if x.kind = .launchEntry then handleBits x.handle else 0 }

/-- Write a record of an item at the ring's tail. A TERMINAL record uses the item's reserved slot and retires it. -/
def Dev.putRec (d : Dev) (h type : Nat) (replay : Bool) : Dev :=
  match d.item h with
  | none => d
  | some x =>
    let q := d.queue x.queue
    let d1 := d.setQueue x.queue { q with cplTail := q.cplTail + 1, cplReserved := if type = 2 then q.cplReserved - 1 else q.cplReserved }
    let d2 := if type = 2 then (d1.setItem h { x with retired := true, termPos := some q.cplTail }).journal h else d1
    (d2.emitCpl x.queue q.cplTail (itemRec x type q.cplLog2 q.cplTail replay)).signalSource x.queue

/-- Whether a queue's rings are open. -/
def Queue.isOpen (x : Queue) : Bool := x.ringValid && decide (x.state ≠ .off)

/-- R148, R149: write waiting replay records, then waiting TERMINAL records, as slots allow. A replayed ACCEPT record
needs a free slot, a TERMINAL record its reserved one. -/
def Dev.pumpRecs : Nat → Nat → Dev → Dev
  | 0, _, d => d
  | k + 1, q, d =>
    let x := d.queue q
    if !x.isOpen then d
    else
      match x.replay with
      | r :: rest =>
        if x.cplTail - x.cplHead < 2 ^ x.cplLog2 then
          let d1 := (d.setQueue q { x with replay := rest }).bump Od.qst_REPLAYED q
          match r.item with
          | some h => Dev.pumpRecs k q (d1.putRec h r.type true)
          | none => Dev.pumpRecs k q d1
        else d
      | [] =>
        match x.waiting with
        | r :: rest =>
          if x.cplTail - x.cplHead < 2 ^ x.cplLog2 then
            let d1 := d.setQueue q { x with waiting := rest }
            match r.item with
            | some h => Dev.pumpRecs k q (d1.putRec h r.type r.replay)
            | none => Dev.pumpRecs k q d1
          else d
        | [] => d

/-- The GAP records of stream gaps that waited for a slot. -/
def Dev.pumpGaps (d : Dev) (q : Nat) : Dev :=
  (d.queue q).gaps.foldl (fun x g =>
    if (x.queue q).cplFree = 0 then x
    else (((x.onQueue q (fun y => { y with cplTail := y.cplTail + 1, gaps := y.gaps.drop 1 })).emitCpl
      q (x.queue q).cplTail (gapRec (x.queue q) (x.queue q).cplTail g x.now)).signalSource q)) d

/-- Write what waits for a queue's completion ring, and its held GAP records. -/
def Dev.pump (d : Dev) (q : Nat) : Dev :=
  let x := d.queue q
  let d1 := Dev.pumpRecs (x.replay.length + x.waiting.length) q d
  if !(d1.queue q).isOpen then d1
  else
    let d2 := d1.pumpGaps q
    match (d2.queue q).gap with
    | some g => d2.writeGap q g
    | none => d2

/-- The queue sequence of a waiting record's item. -/
def Dev.recSeq (d : Dev) (r : WaitRec) : Nat :=
  match r.item.bind d.item with
  | some x => x.seq
  | none => 0

/-- A TERMINAL record falls due: written at once, or after the replay, in sequence order, or the reopening (R148, R149). -/
def Dev.queueTerminal (d : Dev) (h : Nat) (replay : Bool) : Dev :=
  match d.item h with
  | none => d
  | some x =>
    let q := d.queue x.queue
    if !q.isOpen then d
    else (d.setQueue x.queue { q with waiting := insSorted (fun r => (d.recSeq r : Int)) { type := 2, item := some h, replay := replay } q.waiting }).pump x.queue

/-- Give an item its outcome: the manifest write, then its TERMINAL record (R133). An item that has one keeps it. -/
def Dev.endItem (d : Dev) (h : Nat) (st : ItemState) (reason : Nat) : Dev :=
  match d.item h with
  | none => d
  | some x =>
    if x.state.isEnd then d
    else
      let d1 := (d.setItem h { x with state := st, reason := reason, outcomeAt := d.now, reserve := 0, unacked := false }).journal h
      let d2 := if st = .failed then d1.bump Od.qst_FAILED x.queue else d1
      let d2 := if x.unacked && (decide (x.source = .host) || decide (x.source = .lane)) then
          d2.onQueue x.queue (fun y => { y with cplReserved := y.cplReserved - 1 })
        else d2
      d2.queueTerminal h false

/-- Record a launch item's outcome word so far, then give it its outcome. -/
def Dev.endLaunchItem (d : Dev) (h : Nat) (st : ItemState) (reason flags : Nat) : Dev :=
  (d.onItem h (fun x => { x with detail := flags })).endItem h st reason

/-- A REFUSED record (R120, R123): it takes a slot that is not reserved, which R117 sees to. -/
def Dev.refuse (d : Dev) (q tag reason : Nat) : Dev :=
  let x := d.queue q
  let d1 := (d.setQueue q { x with lastRefusal := reason }).bump Od.qst_REFUSED q
  if x.ringValid && decide (0 < x.cplFree) then
    ((d1.onQueue q (fun y => { y with cplTail := y.cplTail + 1 })).emitCpl q x.cplTail
      { type := 3, outcome := 0, reason := reason, flags := 1 - x.cplTail / 2 ^ x.cplLog2 % 2, tag := tag, seq := 0,
        detail := 0, at_ := d.now, ref := 0 }).signalSource q
  else d1

/-- Restored items are held (R145). -/
def Dev.held (d : Dev) (x : Item) : Bool := d.man.restoreHold && x.restored

end Sys2Proof.Machine
end

