-- ==== Sys2Proof/Machine/AdmitCore.lean ====
section
/-!
DEFINITION. Admission of an offered item: its decoding, the refusal causes in their order, the numbers it takes, and the
acceptance of everything but launch entries (R117–R119, R123–R128, R131, R134, R136, R139).
-/
namespace Sys2Proof.Machine

/-- What reaches admission: a descriptor, a verified CMD frame or a post. -/
structure Offer where
  source : ItemSource
  kind : ItemKind
  /-- KIND may come from this source at all (R119) -/
  kindOk : Bool := true
  /-- R118: reserved fields, KIND and LENGTH are in order -/
  formatOk : Bool := true
  /-- the body fetch succeeded and passed its access check -/
  fetched : Bool := true
  tag : Nat := 0
  body : Bytes := []
  expiry : Option Ticks := none
  handle : Nat := 0
  ingress : Option (Nat × Nat) := none
  ackNow : Bool := false
deriving DecidableEq, Repr

/-- R118, R119: decode a 64-byte descriptor; `body` is what the fetch of BUF_ADDR answered where INLINE is 0: LENGTH bytes, or
the fetch has failed. -/
def decodeOffer (source : ItemSource) (desc : Bytes) (body : Option Bytes) : Offer :=
  let code := leAt desc 0 2
  let fl := leAt desc 2 1
  let len := leAt desc 16 2
  let inl := bitOf fl 0
  let exp := bitOf fl 1
  let kind : ItemKind := if code = 2 then .launchEntry else if code = 3 then .launchPost else .command
  let t := timeOfLe (sliceB desc 20 12)
  let lenOk := match code with
    | 1 => decide (1 ≤ len ∧ len ≤ 240) && (!inl || decide (len ≤ 32))
    | 2 => decide (len = 32) && inl
    | _ => true
  { source := source, kind := kind, kindOk := decide (code = 1 ∨ code = 2),
    formatOk := decide (1 ≤ code ∧ code ≤ 5) && decide (fl < 4) && decide (leAt desc 3 1 = 0) &&
      decide (leAt desc 18 2 = 0) && lenOk && (!exp || (t.isSome && decide (code ≠ 2))),
    fetched := inl || body.any (fun b => decide (len ≤ b.length)),
    tag := leAt desc 4 4,
    body := if inl then sliceB desc 32 len else (body.getD []).take len,
    expiry := if exp then t else none }

/-- Whether a queue is of class DURABLE (R108). -/
def Dev.durable (d : Dev) (q : Nat) : Bool := decide (d.cfg Od.que_CLASS q = 0)

/-- R138, R139: some save area is ERASED. -/
def Manifest.hasErased (m : Manifest) : Bool := decide (m.areaA = .erased) || decide (m.areaB = .erased)

/-- R57, R109: a queue takes a kind from a source; launch entries come of durable items alone. -/
def Dev.kindAllowed (d : Dev) (q : Nat) (o : Offer) : Bool :=
  let src := match o.source with
    | .host => 0
    | .ingress => 1
    | .lane => 2
    | .launch => 3
  let launchTarget := decide (d.cfg Od.que_TARGET q = 3)
  o.kindOk && bitOf (d.cfgN Od.que_SOURCES q) src && decide (d.cfg Od.que_CLASS q ≠ 2) &&
    (match o.kind with
      | .launchEntry => launchTarget && d.durable q && decide (o.source ≠ .launch) && decide (o.source ≠ .ingress)
      | .command => !launchTarget && decide (o.source ≠ .launch)
      | .launchPost => !launchTarget && decide (o.source = .launch))

/-- The cells an offer needs, and those its posting will need (R134). -/
def Dev.cellsWanted (d : Dev) (q : Nat) (o : Offer) : Nat × Nat :=
  if !d.durable q then (0, 0)
  else
    let own := cellsOf o.kind (needsAttr d q o.kind o.source o.expiry.isSome) o.body.length
    let post :=
      if o.kind = .launchEntry && bitsOf (leAt o.body 0 4) 12 10 = 2 then
        let tq := leAt o.body 20 2
        if d.durable tq then cellsOf .launchPost (needsAttr d tq .launchPost .launch false) 16 else 0
      else 0
    (own, post)

/-- R284: the body of a host descriptor that is not INLINE lies inside the window of the queue's function. -/
def Dev.bodyInWindow (d : Dev) (q : Nat) (desc : Bytes) : Bool :=
  bitOf (leAt desc 2 1) 0 || d.inWindow (d.pfOf q) (leAt desc 8 8) (leAt desc 16 2)

/-- R151: the queue's target is a lane that is disabled. -/
def Dev.laneDisabled (d : Dev) (q : Nat) : Bool := decide (d.cfg Od.que_TARGET q = 2) && !d.cfgB Od.lan_ENABLE (d.cfgN Od.que_LANE q)

/-- The first of R123's causes that applies before the manifest is searched, in its order. Chip safe state refuses with
NOT_OPEN (R508), and so does a device whose acceptance is not enabled yet (R617, log entry 20), and a disabled lane (R151). -/
def Dev.refusal (d : Dev) (q : Nat) (o : Offer) : Option Nat :=
  let x := d.queue q
  let m := d.man
  let dur := d.durable q
  if d.isStandby then some 0x07
  else if m.saving then some 0x0A
  else if dur && m.restoreHold then some 0x09
  else if x.state = .off || x.state = .draining || x.state = .cancelling || d.flt.chipSafe || !m.accepting || d.laneDisabled q then some 0x01
  else if dur && !m.holdupOk then some 0x05
  else if dur && !m.hasErased then some 0x04
  else if !o.formatOk then some 0x02
  else if !d.kindAllowed q o then some 0x03
  else if !o.fetched then some 0x08
  else none

/-- R117, R149: two free completion slots beyond those reserved, and no replay under way. -/
def Queue.slotsFree (x : Queue) : Bool := decide (2 ≤ x.cplFree) && x.replay.isEmpty && x.waiting.isEmpty

/-- Whether a queue takes an item in: it has the slots, the unit does not yield, and PROTECTED is not
throttled below the floor, while which admissions wait (R117, R239, R604, R615). -/
def Dev.mayAdmit (d : Dev) (q : Nat) : Bool :=
  (d.queue q).slotsFree && d.fry.twin.yieldAt.isNone && !d.fry.twin.yieldAsked && !(d.pwr.limited && d.pwr.throttle == 5)

/-- R134: the place of an item: a run of cells, or a number beyond the cells for an item that is not journalled. -/
def Dev.place (d : Dev) (own post : Nat) : Option Nat :=
  if own = 0 then d.man.items.freeKey 131072 4294967296
  else if 131072 < d.man.fill + own + post then none
  else d.man.alloc own

/-- R124, R136: the next sequence of a queue, with the flash reservation kept ahead of it. -/
def Dev.takeSeq (d : Dev) (q : Nat) : Nat × Dev :=
  let x := d.queue q
  let d1 := d.setQueue q { x with nextSeq := x.nextSeq + 1 }
  let r := d.man.reservations.get 0 q
  (x.nextSeq, if r ≤ x.nextSeq then
      d1.onMan (fun m => { m with reservations := m.reservations.put 0 q ((x.nextSeq / 2 ^ 24 + 1) * 2 ^ 24) })
    else d1)

/-- R126, R127: the next sequence of a queue's convoy, from the 0 of NEXT_CSEQ's default; 0 outside a convoy (log entry 21). -/
def Dev.takeCseq (d : Dev) (q : Nat) : Nat × Dev :=
  let c := d.cfgN Od.que_CONVOY q
  if 1023 < c then (0, d)
  else
    let n := (d.que.convoys.get {} c).next
    (n, { d with que.convoys := d.que.convoys.put {} c { next := n + 1 } })

/-- R128: the SFF sequence of an item of a SESSION queue, where the session can give one. -/
def Dev.takeSff (d : Dev) (q : Nat) : Option Nat × Dev :=
  if d.cfg Od.que_TARGET q ≠ 1 then (none, d)
  else
    match d.sesOf (d.cfgN Od.que_SESSION q) with
    | none => (none, d)
    | some i =>
      if (d.ses i).state = .exhausted || d.isolatedCeiling i then (none, d)
      else
        let (n, d1) := d.takeTx i
        (some n, d1)

/-- Whether a record of an item's acceptance goes into the completion ring (R121). -/
def ItemSource.hasAccept (s : ItemSource) : Bool := decide (s = .host) || decide (s = .lane)

/-- Create the item of an offer at a place: sequences assigned, slots reserved. A joined active unit waits for MIRROR_ACK; any
other acceptance is SINGLE (R120, R128, R132). -/
def Dev.placeItem (d : Dev) (q : Nat) (o : Offer) (place own post : Nat) : Dev :=
  let (seq, d1) := d.takeSeq q
  let (cseq, d2) := d1.takeCseq q
  let (sff, d3) := d2.takeSff q
  let joined := decide (d.fry.twin.role = .active) && decide (own ≠ 0)
  let x : Item := { queue := q, seq := seq, kind := o.kind, source := o.source, unacked := joined, single := !joined,
                    tag := o.tag, body := o.body, expiry := o.expiry, cseq := cseq, sff := sff, ingress := o.ingress, ackNow := o.ackNow,
                    handle := o.handle, cells := own, acceptedAt := d.now, reserve := post }
  let d4 := d3.onQueue q (fun y => { y with cplReserved := y.cplReserved + 1 + b2n o.source.hasAccept })
  let d5 := d4.setItem place x
  if own = 0 then d5 else d5.onMan (fun m => { m with lastAlloc := place + own - 1, acceptedSince := true })

/-- Create an item and write its record. A queue that is not DURABLE is not journalled. -/
def Dev.makeItem (d : Dev) (q : Nat) (o : Offer) (place own post : Nat) : Dev := (d.placeItem q o place own post).journal place

/-- The acceptance of an item becomes final: counted, and acknowledged as its source asks (R121, R128, R191). -/
def Dev.ackItem (d : Dev) (h : Nat) : Dev :=
  match d.item h with
  | none => d
  | some x =>
    let d1 := (d.setItem h { x with unacked := false, acceptedAt := d.now }).bump Od.qst_ACCEPTED x.queue
    if x.source.hasAccept then
      (d1.onQueue x.queue (fun y => { y with cplReserved := y.cplReserved - 1 })).putRec h 1 false
    else
      match x.ingress with
      | some (i, seq) => (d1.markSeq i seq).sendAck i seq 0 x.ackNow
      | none => d1

/-- The body of a posting as its cells hold it: POST_WORD and the scheduled instant (R118, R135). -/
def postBody (word : Nat) (instant : Ticks) : Bytes := toLe 4 word ++ timeLe instant

/-- What an attempt to post answers (R86): the place of the posted item, and whether its acceptance waits for the mirror. -/
inductive PostAnswer where
  | posted (p : Nat) (wait : Bool)
  | closed | wait
deriving DecidableEq, Repr

/-- R86: try to post for a launch item. The cells reserved by the launch item are taken by the posting, which is written
together with the launch item's outcome. -/
def Dev.tryPost (d : Dev) (item q word : Nat) (instant : Ticks) (handle : Nat) : PostAnswer × Dev :=
  let o : Offer := { source := .launch, kind := .launchPost, body := postBody word instant, handle := handle }
  match d.refusal q o with
  | some r =>
    if r = 0x01 || r = 0x03 then (.closed, d) else (.wait, d)
  | none =>
    if !d.mayAdmit q then (.wait, d)
    else
      let d1 := d.onItem item (fun x => { x with reserve := 0 })
      let (own, _) := d1.cellsWanted q o
      match d1.place own 0 with
      | none => (.wait, d)
      | some p =>
        (.posted p (decide (d.fry.twin.role = .active) && decide (own ≠ 0)), d1.placeItem q o p own 0)

end Sys2Proof.Machine
end

