-- ==== Sys2Proof/Machine/BearingCore.lean ====
section
/-!
DEFINITION. A Bearing's parameters, calibration, evaluation and quality (R23, R28, R33, R36, R43, R44, R46, R49).
-/
namespace Sys2Proof.Machine

def Dev.brg (d : Dev) (b : Nat) : Bearing := d.cmp.bearings.get {} b

def Dev.setBrg (d : Dev) (b : Nat) (x : Bearing) : Dev := { d with cmp.bearings := d.cmp.bearings.put {} b x }

def Dev.onBrg (d : Dev) (b : Nat) (f : Bearing → Bearing) : Dev := d.setBrg b (f (d.brg b))

/-- TYPE codes (R21). -/
def Dev.brgType (d : Dev) (b : Nat) : Nat := d.cfgN Od.brg_TYPE b

def Dev.isVirtual (d : Dev) (b : Nat) : Bool := decide (d.brgType b = 6)

/-- ROTARY or LINEAR in quadrature encoding (R42, R64). -/
def Dev.isQuad (d : Dev) (b : Nat) : Bool :=
  (decide (d.brgType b = 1) || decide (d.brgType b = 2)) && decide (d.cfg Od.brg_ENCODING b = 0)

def Dev.isSsi (d : Dev) (b : Nat) : Bool :=
  (decide (d.brgType b = 1) || decide (d.brgType b = 2)) && decide (d.cfg Od.brg_ENCODING b = 1)

/-- R26: whether the device drives BRGk_A, as the clock of an SSI encoder. -/
def Dev.brgDrivesA (d : Dev) (b : Nat) : Bool := decide (d.cfg Od.brg_ENCODING b = 1)

/-- A number of Q32.32 as a rational count of its unit 2^-32. -/
def q32 : Int := 2 ^ 32

/-- The calibration table is valid: it has points and the position is referenced (R43). -/
def Dev.calValid (d : Dev) (b : Nat) (x : Bearing) : Bool := decide (0 < d.cfg Od.cal_CAL_POINTS b) && x.ref

/-- One entry of CAL_TABLE, I32 little-endian (R54). -/
def calEntry (t : Bytes) (i : Nat) : Int := signedOf 32 (leAt t (4 * i) 4)

/-- BIN_DROOP[b] where the chip has spent 100 µs in the bin (R610). -/
def Power.binDroop (p : Power) (b : Nat) : Option Int :=
  match p.binSum.find b with
  | some (s, n) => if 100 ≤ n then some (s / n) else none
  | none => none

/-- R25: the load bin latched for the epoch in which an instant lies. -/
def Power.binAt (p : Power) (t : Ticks) : Nat := p.binLog.foldl (fun b e => if t < e.1 then e.2 else b) p.bin

/-- The ΔV of R44, in 0.1 mV: DROOP itself while the bin's mean is invalid. -/
def Power.deltaV (p : Power) (b : Nat) : Int :=
  match p.binDroop b with
  | some m => p.droop - m
  | none => p.droop

/-- R44: whether a calibration table is within its envelope at a speed. -/
def Dev.inEnvelope (d : Dev) (b : Nat) (vel : Rat) : Bool :=
  let v := absRat vel
  decide ((d.cfg Od.cal_CAL_VLOW b : Rat) ≤ v) && decide (v ≤ (d.cfg Od.cal_CAL_VHIGH b : Rat)) &&
    decide (d.pwr.tPins - d.cfg Od.cal_CAL_TEMP b ≤ 1500) && decide (d.cfg Od.cal_CAL_TEMP b - d.pwr.tPins ≤ 1500) &&
    decide (d.cfg Od.cal_CAL_LOADBIN b = (d.pwr.bin : Int))

/-- u_env of R44: 0 inside the envelope. -/
def Dev.uEnv (d : Dev) (b : Nat) (x : Bearing) (vel : Rat) : Rat :=
  if !d.calValid b x || d.inEnvelope b vel then 0
  else
    let pen := if d.cfg Od.cal_CAL_PENALTY b = 0 then 2 * d.cfg Od.cal_CAL_RESID b else d.cfg Od.cal_CAL_PENALTY b
    let dv := d.pwr.deltaV (d.cfgN Od.cal_CAL_LOADBIN b)
    (pen : Rat) + absRat vel / (sec : Int) * (d.cfg Od.cal_DROOP_COEF b : Int) * absRat (dv : Int) / 10000

/-- The noise floor of R33. -/
def Dev.noiseFloor (d : Dev) (b : Nat) (x : Bearing) : Rat :=
  if d.brgType b = 3 then (max x.resid (2 ^ 12) : Int)
  else if d.calValid b x then (d.cfg Od.cal_CAL_RESID b : Int)
  else if d.cfg Od.brg_LINE_ERR b ≠ 0 then (d.cfg Od.brg_LINE_ERR b : Int)
  else ((d.cfg Od.brg_UNIT_NUM b * q32 : Int) : Rat) / ((d.cfg Od.brg_UNIT_DEN b * 16 : Int) : Rat)

/-- u_src of R33: 0 for a local Bearing; else the largest uncertainty reported in the fit window, plus the distance run
in the time uncertainty for a NETWORK Bearing. -/
def Dev.uSrc (d : Dev) (b : Nat) (x : Bearing) (vel : Rat) : Rat :=
  match d.brgType b with
  | 4 => ((x.hist.foldl (fun a s => max a s.u) 0 : Int) : Rat) + absRat vel / (sec : Int) * (d.timeUnc : Int)
  | 5 => ((x.hist.foldl (fun a s => max a s.u) 0 : Int) : Rat)
  | _ => 0

/-- What a FERRY Bearing has from its source (R46). -/
def Dev.remoteOf (d : Dev) (b : Nat) : Option RemoteCfg := if d.brgType b = 5 then (d.brg b).remote else none

/-- The tracker parameters of a Bearing as its objects stand (R32, R33, R46). A FERRY Bearing uses its source's. -/
def Dev.trkNow (d : Dev) (b : Nat) : TrkCfg :=
  let x := d.brg b
  let vel : Rat := match x.fit with
    | some f => f.c1 * (sec : Int)
    | none => 0
  match d.remoteOf b with
  | some r => { r.trk with uSrc := d.uSrc b x vel }
  | none =>
    let mains := decide (d.brgType b = 3)
    { order := d.cfgN Od.brg_FIT_ORDER b, n := d.cfgN Od.brg_FIT_N b, acqM := d.cfgN Od.brg_ACQ_M b,
      vmin := if mains then max (d.cfg Od.brg_VMIN b) (15 * q32) else d.cfg Od.brg_VMIN b,
      vmax := if mains then min (d.cfg Od.brg_VMAX b) (70 * q32) else d.cfg Od.brg_VMAX b,
      gate := d.cfg Od.brg_EDGE_GATE b, k := d.cfg Od.brg_UNC_K b, floor := d.noiseFloor b x,
      uSrc := d.uSrc b x vel, uEnv := d.uEnv b x vel,
      count := if mains then ((q32 : Int) : Rat) / 6
               else ((d.cfg Od.brg_UNIT_NUM b * q32 : Int) : Rat) / (d.cfg Od.brg_UNIT_DEN b : Int),
      widen := x.widen }

/-- The tracker parameters in use: a changed VMAX, EDGE_GATE or UNC_K applies from the first sample after the change (R53;
the other parameters change only while the Bearing is OFF or by a chart, and follow the same rule, log entry 124). -/
def Dev.trk (d : Dev) (b : Nat) : TrkCfg :=
  let c := d.trkNow b
  match (d.brg b).latched with
  | some l => { c with order := l.order, n := l.n, acqM := l.acqM, vmin := l.vmin, vmax := l.vmax, gate := l.gate, k := l.k }
  | none => c

/-- COMMIT_HORIZON of a Bearing, the source's for a FERRY Bearing (R46). -/
def Dev.horizon (d : Dev) (b : Nat) : Ticks :=
  match d.remoteOf b with
  | some r => r.horizon
  | none => d.cfg Od.brg_COMMIT_HORIZON b

/-- The share bound of R47. -/
def Dev.shareBound (d : Dev) (b : Nat) : Ticks :=
  match d.remoteOf b with
  | some r => r.glitch + 200 * ns
  | none => d.cfg Od.brg_GLITCH_WIDTH b + 200 * ns

/-- Whether the flotilla shares a Bearing (R46). -/
def Dev.brgShared (d : Dev) (b : Nat) : Bool := decide (d.brgType b = 5) || d.cfgB Od.pub_PUB_FERRY b

/-- R28, R43: the position of a count, corrected where the table applies. -/
def Dev.posOfCount (d : Dev) (b : Nat) (x : Bearing) (n : Int) : BVal :=
  let p := scaleCount x.base n (d.cfg Od.brg_UNIT_NUM b) (d.cfg Od.brg_UNIT_DEN b)
  if d.calValid b x then
    wrap64 (p - calCorrection (d.cfg Od.cal_CAL_POINTS b) (d.cfg Od.cal_CAL_PERIOD b) (d.cfg Od.brg_ORIGIN b)
      (calEntry (d.oct Od.cal_CAL_TABLE b)) p)
  else p

/-- The quality byte (R49). -/
def qualityByte (st : BState) (coarse env unl still unref : Bool) : Nat :=
  st.code + 8 * b2n coarse + 16 * b2n env + 32 * b2n unl + 64 * b2n still + 128 * b2n unref

/-- A Bearing as evaluated: position, quality, and whether it has a fit. -/
structure BEval where
  pos : BVal
  state : BState
  coarse : Bool
  env : Bool
  still : Bool
  unref : Bool
deriving DecidableEq, Repr

/-- The quality byte of an evaluated Bearing. R36 gives 0x80 for a Bearing that is OFF or of TYPE NONE, whatever R49 says of
UNLOCKED (log entry 125). -/
def BEval.quality (e : BEval) (unl : Bool) : Nat :=
  if e.state = .off then 0x80 else qualityByte e.state e.coarse e.env unl e.still e.unref

/-- The fit current at a chip time: the newest one made from a sample not later than it (R36, R198). -/
def Bearing.fitAt (x : Bearing) (t : Ticks) : Option Fit :=
  match x.fit with
  | none => none
  | some f => if f.t0 ≤ t then some f else
    match x.fits.find? (fun g => decide (g.t0 ≤ t)) with
    | some g => some g
    | none => some f

/-- R36 for a Bearing with its own tracker. -/
def Dev.evalOwn (d : Dev) (b : Nat) (t : Ticks) : BEval :=
  let x := d.brg b
  let e : BEval := { pos := 0, state := x.state, coarse := true, env := x.envOut, still := x.still, unref := !x.ref }
  if x.state = .off || d.brgType b = 0 then { pos := 0, state := .off, coarse := false, env := false, still := false, unref := true }
  else
    match x.state, x.fitAt t with
    | .tracking, some f => { e with pos := f.posAt t, coarse := false }
    | .coasting, some f => { e with pos := f.posAt t, coarse := false }
    | _, _ =>
      match x.newest with
      | none => { e with pos := 0, unref := true }
      | some s => { e with pos := if x.ref || !(d.isQuad b || d.isSsi b) then s.x
                                  else scaleCount x.base x.count (d.cfg Od.brg_UNIT_NUM b) (d.cfg Od.brg_UNIT_DEN b) }

/-- R23, R36: the value of a Bearing at a chip time; a VIRTUAL Bearing goes through its source. The first argument bounds
the chain of sources. -/
def Dev.evalFuel : Nat → Dev → Nat → Ticks → BEval
  | 0, d, b, t => d.evalOwn b t
  | k + 1, d, b, t =>
    if d.isVirtual b then
      let x := d.brg b
      if x.state = .off then { pos := 0, state := .off, coarse := false, env := false, still := false, unref := true }
      else
        let src := d.cfgN Od.vbr_V_SOURCE b
        let e := Dev.evalFuel k d src t
        if e.state = .off then { pos := 0, state := .lost, coarse := true, env := false, still := false, unref := true }
        else { e with pos := wrap64 (roundAway (((d.cfg Od.vbr_V_A b * e.pos : Int) : Rat) / (q32 : Int)) + d.cfg Od.vbr_V_B b) }
    else d.evalOwn b t

/-- The value of a Bearing at a chip time (R36). -/
def Dev.eval (d : Dev) (b : Nat) (t : Ticks) : BEval := Dev.evalFuel 16 d b t

/-- The state that a Bearing reports (R23). -/
def Dev.brgState (d : Dev) (b : Nat) : BState := (d.eval b d.now).state

/-- A Bearing stamp: number, quality byte, value (R49, R182). -/
def Dev.stamp (d : Dev) (b : Nat) (t : Ticks) : Nat × Nat × BVal :=
  let e := d.eval b t
  (b, e.quality d.unlocked, e.pos)

/-- The Bearing whose tracker a Bearing rests on, the fit as that Bearing sees it, and the parameters that apply. `sel`
says which of the tracker's fits is meant. -/
def Dev.fitBy (sel : Bearing → Option Fit) : Nat → Dev → Nat → Option (Fit × TrkCfg × Ticks)
  | 0, _, _ => none
  | k + 1, d, b =>
    if d.isVirtual b then
      match Dev.fitBy sel k d (d.cfgN Od.vbr_V_SOURCE b) with
      | none => none
      | some (f, c, lim) =>
        let a := d.cfg Od.vbr_V_A b
        let ra := absRat (mkRat a (2 ^ 32))
        some (f.virtual a (d.cfg Od.vbr_V_B b),
          { c with floor := ra * c.floor, uSrc := ra * c.uSrc, uEnv := ra * c.uEnv, count := ra * c.count,
                   vmin := roundAway (ra * (c.vmin : Int)), vmax := c.vmax }, lim)
    else
      let x := d.brg b
      match x.state, sel x with
      | .tracking, some f => some (f, d.trk b, d.cfg Od.brg_PREDICT_LIMIT b)
      | .coasting, some f => some (f, d.trk b, d.cfg Od.brg_PREDICT_LIMIT b)
      | _, _ => none

/-- The newest fit of a Bearing. -/
def Dev.fitFuel (k : Nat) (d : Dev) (b : Nat) : Option (Fit × TrkCfg × Ticks) := Dev.fitBy Bearing.fit k d b

/-- R37: the prediction for a target of a Bearing, where it is tracking at speed. -/
def Dev.predict (d : Dev) (b : Nat) (goal : BVal) (dir : Dir) : Option Pred :=
  match Dev.fitFuel 17 d b with
  | none => none
  | some (f, c, lim) =>
    if absRat f.vel < (c.vmin : Int) then none else f.predict c lim d.now goal dir

end Sys2Proof.Machine
end

