-- ==== Sys2Proof/Machine/ObjectCore.lean ====
section
/-!
DEFINITION. Rows of the object dictionary by address, values from bytes, and the switching of overlay layers (R256, R257,
R269, R274, R276).
-/
namespace Sys2Proof.Machine

/-- The row that lists an index and subindex (R256). -/
def rowOf (index sub : Nat) : Option OdRow :=
  Od.rows.find? (fun r => r.index == index && decide (r.sub ≤ sub) && decide (sub < r.sub + r.count))

/-- Whether an index is listed at all. -/
def indexListed (index : Nat) : Bool := Od.rows.any (fun r => r.index == index)

/-- Whether an instance exists for an index. -/
def instExists (index inst : Nat) : Bool :=
  match Od.instances index with
  | some (first, count) => decide (first ≤ inst) && decide (inst < first + count)
  | none => false

/-- R257: a value of a row's type from its bytes. -/
def OdRow.value (r : OdRow) (b : Bytes) : OdValue :=
  if r.type.isBytes then .bytes b
  else if r.type = .time then .num ((timeOfLe b).getD 0)
  else if r.type.signed then .num (signedOf (8 * r.type.size r.len) (leNat b))
  else .num (leNat b)

/-- R257: the bytes of a value of a row's type. -/
def OdRow.bytes (r : OdRow) (v : OdValue) : Bytes :=
  match v with
  | .bytes b => b
  | .num n => if r.type = .time then timeLe n else toLe (r.type.size r.len) (patternOf (8 * r.type.size r.len) n)

/-- A power of two. -/
def powerOfTwo (n : Nat) : Bool := (List.range 64).any (fun k => n == 2 ^ k)

/-- Values beyond a range's two ends that an object refuses, or that it takes beside them (R23, R104, R109, R202, R205, R284, R376). -/
def acceptsValue (index sub : Nat) (v : Int) : Bool :=
  match index, sub with
  | 0x2000, 3 | 0x2000, 4 => decide (v ≠ 0)
  | 0x2108, 3 => decide (v = 0)
  | 0x2140, 1 => decide (v ≠ 1)
  | 0x2140, 3 => decide (v = 0xFFFF ∨ v ≤ 238)
  | 0x3000, 6 => decide (v = 0xFFFF ∨ v ≤ 1023)
  | 0x4110, 13 | 0x4110, 15 | 0x4110, 18 => powerOfTwo v.toNat
  | 0xA000, 2 => powerOfTwo v.toNat
  | 0xB010, 2 => decide (v = 0xFF ∨ v ≤ 3)
  | _, _ => true

/-- R257: whether an object takes a value at all. -/
def OdRow.accepts (r : OdRow) (i : Nat) (v : OdValue) : Bool :=
  match v, r.range with
  | .num n, some (lo, hi) => decide (lo ≤ n ∧ n ≤ hi) && acceptsValue r.index (r.sub + i) n
  | .num n, none => acceptsValue r.index (r.sub + i) n
  | .bytes b, _ => decide (b.length ≤ r.len)

/-- Store a value under a key. -/
def OdValues.put (s : OdValues) (k : Nat) (v : OdValue) : OdValues :=
  match v with
  | .num n => { s with nums := s.nums.ins k n }
  | .bytes b => { s with octs := s.octs.ins k b }

/-- The values that an image's object records list (R269). -/
def valuesOf (records : List ObjRecord) : OdValues :=
  records.foldl (fun s r =>
    match rowOf r.index r.sub with
    | none => s
    | some row => (List.range r.count).foldl (fun s i => s.put (odKey r.index r.sub (r.first + i)) (row.value r.value)) s) {}

/-- The digest of the active chart, or zeros (R278). -/
def Dev.chartDigest (d : Dev) : Bytes :=
  match d.obj.activeSlot with
  | none => List.replicate 32 0
  | some s => match d.obj.charts.find s with
    | some i => i.digest
    | none => List.replicate 32 0

/-- The stored overlay with a set, a layer and a digest prefix (R65, R275). -/
def Dev.overlayOf (d : Dev) (set layer head4 : Nat) : Option Image :=
  (d.obj.overlays.find? (fun e => e.2.set == set && e.2.layer == layer && beNat (e.2.digest.take 4) == head4)).map (fun e => e.2)

def OdStore.layer (s : OdStore) (n : Nat) : Layer := if n = 1 then s.mode else if n = 2 then s.maint else s.trial

def OdStore.setLayer (s : OdStore) (n : Nat) (l : Layer) : OdStore :=
  if n = 1 then { s with mode := l } else if n = 2 then { s with maint := l } else { s with trial := l }

/-- R276: switch a layer to a stored set, or clear it (set 0); OVERLAY_SWITCHED or OVERLAY_CLEARED is raised. -/
def Dev.switchLayer (d : Dev) (set layer head4 handle : Nat) (at_ : Ticks) : Dev :=
  let old := d.od.layer layer
  if set = 0 then
    ({ d with od := d.od.setLayer layer { since := at_, handle := handle, switches := old.switches + 1 } }).raise 23 0x121 layer
  else
    match d.overlayOf set layer head4 with
    | none => d
    | some i =>
      ({ d with od := d.od.setLayer layer { set := set, digest := i.digest, base := i.base, since := at_, handle := handle,
                                            switches := old.switches + 1, vals := valuesOf i.records } }).raise 23 0x120 layer

/-- R192, R194: the times of a session agree among themselves. -/
def Dev.sessionTimesOk (d : Dev) (i : Nat) : Bool :=
  let hb := d.cfg Od.ses_HB_PERIOD i
  let limit := d.cfg Od.ses_HB_TIMEOUT i
  let first := d.cfg Od.ses_RETX_TIME i
  let last := d.cfg Od.ses_RETX_MAX i
  decide (3 * hb ≤ limit ∧ limit ≤ 100 * hb) && decide (first ≤ last ∧ last ≤ sec)

/-- R275: the effective configuration that a change of a layer would produce keeps every rule among OVL objects. -/
def Dev.layerOk (d : Dev) (layer : Nat) (vals : OdValues) : Bool :=
  let e : Dev := { d with od := d.od.setLayer layer { vals := vals } }
  let of (y : Dev) : List Nat := [Od.ses_HB_PERIOD, Od.ses_HB_TIMEOUT, Od.ses_RETX_TIME, Od.ses_RETX_MAX].flatMap y.listedInsts
  (dedup (of d ++ of e)).all e.sessionTimesOk

/-! ## Charts as a switch sees them (R269, R272) -/

/-- The stored chart of a slot. -/
def Dev.chartIn (d : Dev) (slot : Nat) : Option Image := d.obj.charts.find slot

/-- R269: a chart's UNITS section lists this unit, or there is none. -/
def Dev.unitListed (d : Dev) (i : Image) : Bool :=
  match i.units with
  | none => true
  | some l => l.any (fun u => u == padTo 16 (d.oct Od.idn_UNIT_ID 0))

/-- R272, R273: a participant holds the chart with this digest in this slot and accepts it. -/
def Dev.chartCheck (d : Dev) (slot digest : Nat) : Bool :=
  match d.chartIn slot with
  | none => false
  | some i => decide (beNat i.digest = digest) && d.unitListed i && decide (d.obj.floors.get 0 1 ≤ i.secVersion)

end Sys2Proof.Machine
end

