-- ==== Sys2Proof/Machine/LaunchCore.lean ====
section
/-!
DEFINITION. Launch entries and pins: their parameters, pin levels and edges, calibration, and how an entry ends
(R58–R61, R66–R68, R71, R78–R82, R89–R93, R648).
-/
namespace Sys2Proof.Machine

def Dev.entry (d : Dev) (h : Nat) : Option Entry := d.lch.entries.find h

def Dev.setEntry (d : Dev) (h : Nat) (e : Entry) : Dev := { d with lch.entries := d.lch.entries.ins h e }

def Dev.delEntry (d : Dev) (h : Nat) : Dev := { d with lch.entries := d.lch.entries.del h }

def Dev.onEntry (d : Dev) (h : Nat) (f : Entry → Entry) : Dev :=
  match d.entry h with
  | some e => d.setEntry h (f e)
  | none => d

def Dev.pin (d : Dev) (n : Nat) : Pin := d.lch.pins.get {} n

def Dev.setPin (d : Dev) (n : Nat) (p : Pin) : Dev := { d with lch.pins := d.lch.pins.put {} n p }

def Dev.onPin (d : Dev) (n : Nat) (f : Pin → Pin) : Dev := d.setPin n (f (d.pin n))

/-! ## Launch outcome flags (R61) -/

def flLate : Nat := 0
def flCoarse : Nat := 1
def flUncertain : Nat := 2
def flEnvelope : Nat := 3
def flUnlocked : Nat := 4
def flDeferred : Nat := 5
def flCorrected : Nat := 6
def flNetLate : Nat := 7
def flReversal : Nat := 8
def flTakeover : Nat := 9
def flMigrated : Nat := 10
def flStandby : Nat := 11
def flNoTarget : Nat := 12
def flSense : Nat := 13
def flReleased : Nat := 14

/-- Set one bit of an entry's outcome word. -/
def Entry.flag (e : Entry) (b : Nat) : Entry := { e with flags := setBit e.flags b }

/-! ## Instants -/

/-- The launch slot nearest to an instant (R9, the worked example of the launch chapter). -/
def slotOf (t : Ticks) : Int := (t + 2048) / slot

/-- The instant of a launch slot. -/
def slotTime (n : Int) : Ticks := n * slot

/-- Whether an image's trigger is a Bearing's. -/
def EntryImage.onBearing (i : EntryImage) : Bool := decide (i.trig ≠ .time)

def EntryImage.isPin (i : EntryImage) : Bool :=
  match i.target with
  | .pin .. => true
  | _ => false

def EntryImage.isFrame (i : EntryImage) : Bool :=
  match i.target with
  | .frame .. => true
  | _ => false

def EntryImage.isOverlay (i : EntryImage) : Bool :=
  match i.target with
  | .overlay .. => true
  | _ => false

/-- Whether an entry is past its commit: COMMITTED or ACTING. An entry waiting AT_SAMPLE or HELD has no committed instant
(R14, R71, R75). -/
def EState.isCommitted : EState → Bool
  | .committed | .acting => true
  | _ => false

/-- The Bearing whose tracker a Bearing rests on, through the chain of VIRTUAL sources (R23). -/
def Dev.rootFuel : Nat → Dev → Nat → Nat
  | 0, _, b => b
  | k + 1, d, b => if d.isVirtual b then Dev.rootFuel k d (d.cfgN Od.vbr_V_SOURCE b) else b

def Dev.rootBrg (d : Dev) (b : Nat) : Nat := Dev.rootFuel 16 d b

/-- R68: the commit lead of an image. -/
def Dev.leadOf (d : Dev) (i : EntryImage) : Ticks :=
  let base := if i.onBearing then d.horizon i.brg else d.cfg Od.lch_TIME_HORIZON 0
  if i.isOverlay then max base (d.cfg Od.lch_OVL_DECIDE 0) else base

/-- R47, R68: the delay of a commit point against a Bearing that rests on a shared or NETWORK one. A NETWORK Bearing that the
flotilla shares as well takes the share bound alone (log entry 133). -/
def Dev.brgDelay (d : Dev) (b : Nat) : Ticks :=
  let r := d.rootBrg b
  if d.brgShared r then d.shareBound r
  else if d.brgType r = 4 then d.cfg Od.lbr_NET_COMMIT_DELAY r
  else 0

/-- R47, R68: the delay of an image's commit point. -/
def Dev.commitDelay (d : Dev) (i : EntryImage) : Ticks := if i.onBearing then d.brgDelay i.brg else 0

/-- The commit point of a prediction (R35, R47, R68). -/
def Dev.commitPoint (d : Dev) (i : EntryImage) (p : Pred) : Ticks := p.at_ - d.leadOf i + d.commitDelay i

/-- The newest sample's chip time of the tracker behind a Bearing. -/
def Dev.sampleTime (d : Dev) (b : Nat) : Ticks :=
  match (d.brg (d.rootBrg b)).newest with
  | some s => s.t
  | none => 0

/-! ## Pin calibration (R92, R93) -/

/-- A bin has been measured: at manufacture, or since the start, which the stored bits of VALID hold. -/
def Dev.binMeasured (d : Dev) (n b : Nat) : Bool :=
  bitOf (d.cfgN Od.pcl_VALID n) b || decide (d.cfg Od.pcl_FACT_BIN n = (b : Int))

def Dev.binTemp (d : Dev) (n b : Nat) : Int :=
  if bitOf (d.cfgN Od.pcl_VALID n) b then d.cfgAt Od.pcl_BIN_TEMP b n else d.cfg Od.pcl_FACT_TEMP n

/-- R92: measured, and within 10 °C of the die temperature. -/
def Dev.binValid (d : Dev) (n b : Nat) : Bool :=
  d.binMeasured n b && decide (d.pwr.tPins - d.binTemp n b ≤ 1000) && decide (d.binTemp n b - d.pwr.tPins ≤ 1000)

/-- The nearest bin of a list to a bin number, the lower of two equally near ones. -/
def nearestBin (cur : Nat) (l : List Nat) : Option Nat :=
  (sortBy (fun b => ((8 * (max b cur - min b cur) + b : Nat) : Int)) l).head?

/-- The bin whose delay is used: the current one where valid, else the nearest valid one, else the nearest measured one. -/
def Dev.binUsed (d : Dev) (n : Nat) : Nat :=
  let cur := d.pwr.bin
  if d.binValid n cur then cur
  else
    match nearestBin cur ((List.range 4).filter (d.binValid n)) with
    | some b => b
    | none => (nearestBin cur ((List.range 4).filter (d.binMeasured n))).getD cur

/-- R93: whether the pin is outside its calibration envelope, and its uncertainty. -/
def Dev.pinOutside (d : Dev) (n : Nat) : Bool := !d.binValid n d.pwr.bin

def Dev.pinUnc (d : Dev) (n : Nat) : Ticks :=
  if !d.pinOutside n then 16384
  else
    let b := d.binUsed n
    16384 + (d.cfg Od.pcl_DROOP_COEF n * d.pwr.deltaV b).natAbs / 10000 +
      ((d.pwr.tPins - d.binTemp n b).natAbs * 65536 / 10000 : Nat)

/-- R93: the delay from the launch logic to the ball for a rising or a falling edge: that of the bin used, and the droop term
while the current bin is not valid. -/
def Dev.pinDelay (d : Dev) (n : Nat) (rising : Bool) : Ticks :=
  let b := d.binUsed n
  let own := bitOf (d.cfgN Od.pcl_VALID n) b
  let base := if rising then (if own then d.cfgAt Od.pcl_RISE b n else d.cfg Od.pcl_FACT_RISE n)
    else (if own then d.cfgAt Od.pcl_FALL b n else d.cfg Od.pcl_FACT_FALL n)
  base + (if d.pinOutside n then roundAway (((d.cfg Od.pcl_DROOP_COEF n * d.pwr.deltaV b : Int) : Rat) / 10000) else 0)

/-- R93: CAL_ENVELOPE once on entry into the condition. -/
def Dev.notePinEnv (d : Dev) (n : Nat) : Dev :=
  let out := d.pinOutside n
  let p := d.pin n
  let d1 := d.setPin n { p with envOut := out }
  if out && !p.envOut then d1.raise 16 0xCA n else d1

/-! ## Pin levels (R78, R80, R81, R89, R508, R509) -/

/-- The level that the launch logic holds. -/
def Pin.active (p : Pin) : Bool := p.base || decide (0 < p.pulses)

def levelOf (b : Bool) : Level := if b then .active else .inactive

/-- R239: the unit has passed the instant Y of its own yield. -/
def Dev.yielding (d : Dev) : Bool :=
  match d.fry.twin.yieldAt with
  | some y => decide (d.fry.twin.role = .active) && decide (y ≤ d.now)
  | none => false

/-- What a pin drives. -/
def Dev.pinLevel (d : Dev) (n : Nat) : Level :=
  let p := d.pin n
  if p.state = .off || d.cfg Od.pin_MODE n = 0 || !d.holdsClaim then .highZ
  else if d.flt.chipSafe && decide (d.fry.twin.role = .active) then .highZ
  else if d.flt.safe || d.flt.chipSafe || d.man.saving then
    match d.cfg Od.pin_SAFE_LEVEL n with
    | 0 => .inactive
    | 1 => .active
    | 2 => p.frozen.getD (levelOf p.active)
    | _ => .highZ
  else p.frozen.getD (levelOf p.active)

/-- R78: the level at the ball, by POLARITY. -/
def Dev.ballOf (d : Dev) (n : Nat) (l : Level) : Ball :=
  match l, d.cfgB Od.pin_POLARITY n with
  | .highZ, _ => .highZ
  | .active, false | .inactive, true => .high
  | _, _ => .low

/-- Drive the changes of pin levels between two states of the device: the listed pins whose ball level differs change now. -/
def Dev.drivePins (old new : Dev) : Dev :=
  (dedup (old.lch.pins.map (fun e => e.1) ++ new.lch.pins.map (fun e => e.1))).foldl (fun d n =>
    let l := new.ballOf n (new.pinLevel n)
    if old.ballOf n (old.pinLevel n) = l then d else d.emit (.pinEdge n new.now new.now l)) new

/-- Whether PIN and FRAME entries due are suppressed (R81, R506, R508). -/
def Dev.suppressed (d : Dev) : Bool := d.flt.safe || d.flt.chipSafe

/-- R79: the slot at which an edge of a pin may be placed: not less than 2 ns after its last one. -/
def Pin.edgeAt (p : Pin) (t : Ticks) : Ticks :=
  match p.lastEdge with
  | none => t
  | some l => if t < l + 2 * ns then l + 2 * ns else t

/-- Place an edge of a pin at an instant: the level changes at the ball, issued earlier by the pin's delay (R93), and the
sense path is to report it. -/
def Dev.placeEdge (d : Dev) (n : Nat) (t : Ticks) (handle : Option Nat) (isEnd : Bool) : Dev :=
  let p := d.pin n
  let d1 := d.setPin n { p with lastEdge := some t, sense := p.sense ++ [{ sched := t, handle := handle, isEnd := isEnd }] }
  if d.holdsClaim then
    let l := d.ballOf n (levelOf p.active)
    let d2 := (d1.bump Od.pst_EDGES n).emit (.pinEdge n t (t - d.pinDelay n (decide (l = .high))) l)
    let d3 := d2.notePinEnv n
    if d.cfgB Od.pin_SENSE_ENABLE n then d3.set Od.pst_LAST_SCHED n t else d3
  else d1

/-! ## Ends and dispatches -/

/-- R59, R135: an entry that commits makes its item DISPATCHED; the outcome word as far as known goes with it. -/
def Dev.dispatchEntry (d : Dev) (e : Entry) : Dev :=
  match d.item e.item with
  | some x =>
    if x.state = .accepted then (d.setItem e.item { x with state := .dispatched, dispatchedAt := d.now, detail := e.flags }).journal e.item else d
  | none => d

/-- R59: an entry that is held, or predicted again, after its commit makes its item ACCEPTED. -/
def Dev.undispatchEntry (d : Dev) (e : Entry) : Dev :=
  match d.item e.item with
  | some x => if x.state = .dispatched then (d.setItem e.item { x with state := .accepted, detail := e.flags }).journal e.item else d
  | none => d

/-- R59, R60: an entry ends: its item takes the outcome with the flags, and the slot is free. -/
def Dev.endEntry (d : Dev) (h : Nat) (st : ItemState) (reason : Nat) : Dev :=
  match d.entry h with
  | none => d
  | some e => (d.endLaunchItem e.item st reason e.flags).delEntry h

/-- An entry completes under its target's rule (R77). A confirmed PULSE leaves its pulse end behind. -/
def Dev.confirmEntry (d : Dev) (h : Nat) : Dev := d.endEntry h .confirmed 0

/-! ## The rate of a slice and of the chip (R76) -/

/-- Actions or commits counted under a key in the present microsecond. -/
def Dev.rateUsed (d : Dev) (k : Nat) : Nat :=
  match d.lch.rate.find k with
  | some (u, n) => if u = d.now / us then n else 0
  | none => 0

/-- Whether a slice and the chip may act (base 0), or commit (base 32), once more in the present microsecond. The two are
counted apart (log entry 134). -/
def Dev.rateFree (d : Dev) (h : Nat) (base : Nat := 0) : Bool :=
  decide (d.rateUsed (base + h / 8192) < 64) && decide (d.rateUsed (base + 16) < 1024)

/-- Count an action or a commit of a handle. -/
def Dev.spendRate (d : Dev) (h : Nat) (base : Nat := 0) : Dev :=
  { d with lch.rate := (d.lch.rate.ins (base + h / 8192) (d.now / us, d.rateUsed (base + h / 8192) + 1)).ins (base + 16)
                         (d.now / us, d.rateUsed (base + 16) + 1) }

/-- Count the actions of some handles, as far as the rate allows: those that may act. -/
def Dev.takeRate (d : Dev) (hs : List Nat) : List Nat × Dev :=
  hs.foldl (fun acc h => if acc.2.rateFree h then (acc.1 ++ [h], acc.2.spendRate h) else acc) ([], d)

/-! ## Frames (R82, R83, R192) -/

/-- The payload of a template with an argument (R83, R106). -/
def Dev.templatePayload (d : Dev) (t arg : Nat) : Bytes :=
  let p := padTo (d.cfgN Od.tpl_LENGTH t) (d.oct Od.tpl_PAYLOAD t)
  let off := d.cfgN Od.tpl_ARG_OFFSET t
  if off = 0xFFFF then p else (overlayB p off (toBe 2 arg)).take p.length

/-- Send the frame of an entry (R83): its template, argument and stamps, under the sequence taken at commit. -/
def Dev.sendLaunched (d : Dev) (e : Entry) (session template arg : Nat) : Dev :=
  match d.sesOf session, e.sff with
  | some i, some seq =>
    let st := d.cfgN Od.tpl_STAMPS template
    let coarse := if bitOf e.flags flCoarse then (if bitOf e.quality 3 then e.quality else e.quality + 8) else e.quality
    let stamp : List (Nat × Nat × BVal) :=
      if bitOf st 1 then
        [if e.image.onBearing then (e.image.brg, coarse, e.goal.getD 0) else (0xFF, 0, 0)]
      else []
    d.sendFrame i (d.cfgN Od.tpl_TYPE template) 4 seq (d.templatePayload template arg)
      (if bitOf st 0 then some e.committedAt else none) stamp
  | _, _ => d

end Sys2Proof.Machine
end

