-- ==== Sys2Proof/Machine/LaunchOps.lean ====
section
/-!
DEFINITION. From prediction to action: predictions, commit, the late policies, the actions of each target, overlays across
chips, and everything due at a slot (R35, R66–R88, R93–R95, R275).
-/
namespace Sys2Proof.Machine

/-! ## Overlays across chips (R94, R95, R275) -/

/-- The participants of an exchange: the flotilla's chips, and the twin's master (16) where a NETWORK twin is joined. -/
def Dev.ovlMembers (d : Dev) : List Nat :=
  (List.range 8).filter (fun n => bitOf (d.cfgN Od.flo_MEMBERS 0) n || n == d.fry.flo.ownId) ++
    (if d.fry.twin.joined && d.cfg Od.twn_TWIN_MODE 0 = 2 then [16] else [])

/-- R272, R275: what a participant checks before it answers READY. Layer 0 is a chart switch: slot and digest. -/
def Dev.ovlCheck (d : Dev) (i : EntryImage) : Bool :=
  match i.target with
  | .overlay slot 0 digest => d.chartCheck slot digest
  | .overlay set layer digest =>
    (layer ≠ 2 || d.permitted 1 (.layer layer)) &&
      (if set = 0 then d.layerOk layer {}
       else
        match d.overlayOf set layer digest with
        | none => false
        | some o => decide (o.base = d.chartDigest) && o.records.all (fun r =>
            match rowOf r.index r.sub with
            | some row => row.accepts (r.sub - row.sub) (row.value r.value)
            | none => false) && d.layerOk layer (valuesOf o.records))
  | _ => false

def Dev.ovlPart (d : Dev) (chip h : Nat) : Option OvlPart := d.lch.parts.find? (fun p => p.chip == chip && p.handle == h)

def Dev.onPart (d : Dev) (chip h : Nat) (f : OvlPart → OvlPart) : Dev :=
  { d with lch.parts := d.lch.parts.map (fun p => if p.chip == chip && p.handle == h then f p else p) }

def Dev.delPart (d : Dev) (chip h : Nat) : Dev :=
  { d with lch.parts := d.lch.parts.filter (fun p => !(p.chip == chip && p.handle == h)) }

/-- A chip takes part in an exchange: it holds the trigger and predicts on its own. -/
def Dev.joinExchange (d : Dev) (chip h : Nat) (i : EntryImage) (l : Option Pred) : Dev :=
  let d1 := d.delPart chip h
  let d2 : Dev := { d1 with lch.parts := d1.lch.parts ++ [{ chip := chip, handle := h, image := i, pred := l }] }
  match i.target with
  | .overlay slot 0 _ => { d2 with obj.switch := some { slot := slot, instant := i.trigger, committed := false, asker := d.obj.switch.bind (fun c => c.asker) } }
  | _ => d2

/-- Send a message of the exchange. -/
def Dev.sendOvl (d : Dev) (dst : Nat) (m : OvlMsg) : Dev := d.emit (.overlay dst (if dst = 16 then m.across else m))

/-- The master opens an exchange and forwards PREPARE to every other participant (R94 step 1). For an entry of the twin's
flotilla its own chips take part. -/
def Dev.openExchange (d : Dev) (chip h : Nat) (i : EntryImage) : Dev :=
  let ms := d.ovlMembers.filter (fun m => decide (chip < 16) || decide (m ≠ 16))
  let ex := d.lch.masterEx.filter (fun x => !(x.chip == chip && x.handle == h))
  let d1 := { d with lch.masterEx := ex ++ [{ chip := chip, handle := h, image := i, members := ms }] }
  (ms.filter (fun m => m ≠ d.fry.flo.ownId && m ≠ chip)).foldl (fun e m => e.sendOvl m (.prepare chip h i)) d1

/-- The accepting chip starts the exchange of an overlay entry. A standby's own copy starts none. -/
def Dev.prepare (d : Dev) (h : Nat) (i : EntryImage) (l : Option Pred) : Dev :=
  if d.isStandby then d
  else
    let own := d.fry.flo.ownId
    let d1 := d.joinExchange own h i l
    if d.isMaster then d1.openExchange own h i else d1.sendOvl d.fry.flo.master (.prepare own h i)

/-- Change an exchange that is not decided. -/
def Dev.onExchange (d : Dev) (chip h : Nat) (f : OvlExchange → OvlExchange) : Dev :=
  { d with lch.masterEx := d.lch.masterEx.map (fun x => if x.chip == chip && x.handle == h && x.decided.isNone then f x else x) }

/-- What a master answers for its chips in an exchange of the twin's flotilla (R94): REFUSE where one refuses, READY where all
are ready for the same instant; nothing yet, or never, otherwise. -/
def OvlExchange.joint (x : OvlExchange) : Option OvlAnswer :=
  if x.answers.any (fun a => decide (a.2 = .refuse)) then some .refuse
  else match x.answers with
    | (_, .ready l) :: _ => if x.members.all (fun m => x.answers.any (fun a => a.1 == m && decide (a.2 = .ready l))) then some (.ready l) else none
    | _ => none

/-- The master takes an answer. In an exchange of the twin's flotilla it answers the asking master once its own chips agree. -/
def Dev.takeAnswer (d : Dev) (chip h from_ : Nat) (a : OvlAnswer) : Dev :=
  let d1 := d.onExchange chip h (fun x =>
    if from_ ∈ x.members && x.answers.all (fun y => y.1 ≠ from_) then { x with answers := x.answers ++ [(from_, a)] } else x)
  if chip < 16 then d1
  else
    match (d1.lch.masterEx.find? (fun x => x.chip == chip && x.handle == h && x.decided.isNone)).bind OvlExchange.joint with
    | some b => (d1.onExchange chip h (fun x => { x with decided := some (if b = .refuse then .abortRefused else .commit) })).sendOvl 16 (.answer chip h b)
    | none => d1

/-- A participant commits L and answers its master (R94 step 2). The decision is taken twice: where the two disagree, it answers
REFUSE (R517). -/
def Dev.answerPart (d : Dev) (chip h : Nat) (l : Ticks) : Dev :=
  match d.ovlPart chip h with
  | none => d
  | some p =>
    let a : OvlAnswer := if d.ovlCheck p.image && !d.lch.switchDisagrees then .ready l else .refuse
    let d0 := if d.lch.switchDisagrees then d.fault 0x04A 0xFFFF none [] else d
    let d1 := d0.onPart chip h (fun p => { p with l := some l, answered := true })
    let own := d.fry.flo.ownId
    if d.isMaster then d1.takeAnswer chip h own a else d1.sendOvl d.fry.flo.master (.answer chip h a)

/-! ## Late entries (R71) -/

/-- The quality byte of an entry's Bearing now. -/
def Dev.qualityNow (d : Dev) (i : EntryImage) : Nat :=
  if i.onBearing then (d.eval i.brg d.now).quality d.unlocked else 0

/-- R82: a launched frame takes its sequence at commit, where its session can give one. -/
def Dev.takeFrameSeq (d : Dev) (h : Nat) (e : Entry) : Dev :=
  match e.image.target, e.sff with
  | .frame s _ _, none =>
    match d.sesOf s with
    | none => d
    | some i =>
      if (d.ses i).state.live && decide ((d.ses i).state ≠ .exhausted) && !d.isolatedCeiling i then
        let (n, d1) := d.takeTx i
        d1.setEntry h { e with sff := some n }
      else d
  | _, _ => d

/-- The entry commits to an instant: its item is DISPATCHED, and flags and sequence are taken; the quality byte is the one at
the commit point (R59, R61, R82, R83). -/
def Dev.commitAt (d : Dev) (h : Nat) (e : Entry) (l u : Ticks) : Dev :=
  let env := (e.image.onBearing && (d.eval e.image.brg d.now).env) ||
    (match e.image.target with
      | .pin n _ _ _ => d.pinOutside n
      | _ => false)
  let e1 := if env then e.flag flEnvelope else e
  let e2 := if d.unlocked then e1.flag flUnlocked else e1
  let early := e.image.isFrame && decide (l - 400 * ns ≤ d.now)
  let e3 := { e2 with state := .committed, instant := l, unc := u,
                      quality := if e.state.isCommitted || e.state = .atSample then e.quality else d.qualityNow e.image,
                      sealed := early, sealClaim := d.fry.twin.claim }
  ((d.setEntry h e3).takeFrameSeq h e3).dispatchEntry e3

/-- R67: the uncertainty tested at commit. -/
def Dev.commitUnc (d : Dev) (i : EntryImage) (p : Pred) : Ticks :=
  let base := if i.onBearing then p.unc else if d.unlocked then d.timeUnc else 0
  match i.target with
  | .pin n _ _ _ => base + d.pinUnc n
  | _ => base

/-- R12: the instant at which a late action was due: the committed one, else the prediction or trigger it held where that has
passed, else now (log entry 131). -/
def Dev.dueAt (d : Dev) (e : Entry) : Ticks :=
  if e.state.isCommitted || e.state = .atSample then e.committedAt
  else match e.pred with
    | some p => if p.at_ ≤ d.now then p.at_ else d.now
    | none => d.now

/-- R67: the uncertainty of an entry that acts now: the one tested, else that of its prediction, and of no prediction the
pin's and chip time's part (log entry 132). -/
def Dev.uncOf (d : Dev) (e : Entry) : Ticks :=
  if e.state.isCommitted || e.state = .atSample then e.unc else d.commitUnc e.image (e.pred.getD { at_ := d.now, unc := 0 })

/-- Whether the launch slices commit at all (R140, R145, R508). -/
def Dev.commits (d : Dev) : Bool := !d.flt.chipSafe && !d.man.saving && !d.man.restoreHold

/-- Begin, or repeat, the exchange for an instant still to come (R74, R95): now + OVL_DECIDE + 10 µs. The entry waits for it as
a TIME entry, and commits under R68. -/
def Dev.relaunchOverlay (d : Dev) (h : Nat) (e : Entry) : Dev :=
  let l := d.now + d.cfg Od.lch_OVL_DECIDE 0 + 10 * us
  let i := { e.image with trig := .time, dir := .rise, brg := 0, trigger := l }
  ((d.setEntry h { e with image := i, goal := none, state := .predicted, pred := some { at_ := l, unc := 0 } }).undispatchEntry e).prepare h i
    (some { at_ := l, unc := 0 })

/-- R71: a late entry. LAUNCH_LATE makes it due now, or repeats an overlay's exchange (R95). HELD counts the entries that have
become held (log entry 135). -/
def Dev.late (d : Dev) (h : Nat) : Dev :=
  match d.entry h with
  | none => d
  | some e =>
    let d1 := d.bump Od.lch_LATE_COUNT 0
    match e.image.late with
    | .launch =>
      let e1 := e.flag flLate
      if e.image.isOverlay then d1.relaunchOverlay h e1
      else d1.commitAt h { e1 with committedAt := d.dueAt e, blocked := false } d.now (d.uncOf e)
    | .drop => (d1.bump Od.lch_DROPPED 0).endEntry h .expired 0x20
    | .hold =>
      ((d1.bump Od.lch_HELD 0).undispatchEntry e).setEntry h
        { e with state := .held, blocked := false, pred := none, committedAt := d.dueAt e, unc := d.uncOf e }

/-! ## Commit (R71) -/

/-- R87: the permit that an overlay entry of the maintenance layer needs. -/
def Dev.layerPermit (d : Dev) (i : EntryImage) : Bool :=
  match i.target with
  | .overlay _ layer _ => layer ≠ 2 || d.permitted 1 (.layer layer)
  | _ => true

/-- The commit test of R71 for a prediction. The quality byte, and a frame's sequence, are taken here (R82, R83). -/
def Dev.commit (d : Dev) (h : Nat) (p : Pred) : Dev :=
  match d.entry h with
  | none => d
  | some e0 =>
    let l := p.at_
    let u := d.commitUnc e0.image p
    let e := { e0 with committedAt := l, unc := u, quality := d.qualityNow e0.image }
    if e.image.onBearing && d.brgState e.image.brg = .lost then (d.setEntry h e).late h
    else if !d.layerPermit e.image then d.endEntry h .rejected 0x28
    else
      let excess := decide (e.image.early < u) || decide (e.image.lateTol < u)
      match excess, e.image.unc with
      | true, .drop => (d.bump Od.lch_DROPPED 0).endEntry h .expired 0x21
      | true, .holdForEdge =>
        let e1 := { e with state := .atSample, instant := l }
        (d.setEntry h e1).takeFrameSeq h e1
      | _, _ =>
        let e1 := if excess then e.flag flUncertain else e
        if l + e.image.lateTol < d.now then (d.setEntry h e1).late h
        else if e.image.isOverlay then
          if l - d.cfg Od.lch_OVL_DECIDE 0 + d.commitDelay e.image < d.now then (d.setEntry h e1).late h
          else (d.commitAt h e1 l u).answerPart d.fry.flo.ownId h l
        else d.commitAt h e1 l u

/-- Commit an entry whose commit point has passed, where the rate allows another commit in this microsecond (R76). -/
def Dev.maybeCommit (d : Dev) (h : Nat) : Dev :=
  match d.entry h with
  | some e =>
    match e.state, e.pred with
    | .predicted, some p => if d.commits && decide (d.commitPoint e.image p ≤ d.now) && d.rateFree h 32 then (d.spendRate h 32).commit h p else d
    | _, _ => d
  | none => d

/-! ## Arming and prediction (R35, R66, R70) -/

/-- The integer part of a Bearing value times 2^32 (R66). -/
def wholePart (p : BVal) : BVal := p / 2 ^ 32 * 2 ^ 32

/-- R66: resolve a BEARING_N trigger against a position. -/
def resolveN (trigger : Int) (rise : Bool) (p : BVal) : BVal :=
  let n := trigger / 2 ^ 32
  let f := trigger % 2 ^ 32
  let base := wrap64 (wholePart p + f)
  if rise then
    let b := if bvAfter base p then base else wrap64 (base + 2 ^ 32)
    wrap64 (b + n * 2 ^ 32)
  else
    let b := if decide (serial base p < 0) then base else wrap64 (base - 2 ^ 32)
    wrap64 (b - n * 2 ^ 32)

/-- R88, R135: the stored image once armed, with a resolved trigger in place of BEARING_N. -/
def rawArmed (raw : Bytes) (armed : Bool) (goal : Option BVal) : Bytes :=
  let c := leAt raw 0 4
  let c1 := if armed then setBit c 20 else clrBit c 20
  match goal with
  | some g => if bitsOf c 3 0 = 3 then overlayB (overlayB raw 0 (toLe 4 (c1 - 1))) 4 (toLe 8 (patternOf 64 g)) else overlayB raw 0 (toLe 4 c1)
  | none => overlayB raw 0 (toLe 4 c1)

/-- Resolve an entry's target where it can be resolved (R66): at once, or once the position is referenced. -/
def Dev.resolveEntry (d : Dev) (e : Entry) : Entry :=
  match e.goal with
  | some _ => e
  | none =>
    match e.image.trig with
    | .time => e
    | .bearing => { e with goal := some e.image.trigger }
    | .bearingN =>
      let v := d.eval e.image.brg d.now
      if v.unref then e
      else
        let g := resolveN e.image.trigger (decide (e.image.dir = .rise)) v.pos
        { e with goal := some g, raw := rawArmed e.raw true (some g) }

/-- Store an armed entry's image with its item, as one manifest write (R88, R135). -/
def Dev.storeImage (d : Dev) (e : Entry) : Dev :=
  match d.item e.item with
  | some x => if x.body = e.raw then d else (d.setItem e.item { x with body := e.raw }).journal e.item
  | none => d

/-- R35: the prediction that follows from the newest sample replaces, keeps or withdraws the one held. A first one inside the
horizon commits with the others that are due (`Dev.afterSample`). -/
def Dev.repredict1 (d : Dev) (h : Nat) : Dev :=
  match d.entry h with
  | none => d
  | some e0 =>
    if (e0.state ≠ .waiting && e0.state ≠ .predicted) || !e0.image.onBearing then d
    else
      let e := d.resolveEntry e0
      let d1 := d.setEntry h e
      let d2 := if e.raw = e0.raw then d1 else d1.storeImage e
      match e.goal with
      | none => d2
      | some g =>
        match d.predict e.image.brg g e.image.dir with
        | none => d2.setEntry h { e with state := .waiting, pred := none }
        | some p =>
          if d.sampleTime e.image.brg < p.at_ - d.leadOf e.image then d2.setEntry h { e with state := .predicted, pred := some p }
          else if e.pred.isSome then d2
          else d2.setEntry h { e with state := .predicted, pred := some p }

/-- An entry becomes armed, or is accepted armed (R42, R66, R70, R73). An overlay entry starts its exchange now: at acceptance,
or when an ARM arms it (R94; log entry 136). -/
def Dev.armEntry (d : Dev) (h : Nat) : Dev :=
  match d.entry h with
  | none => d
  | some e0 =>
    let e := d.resolveEntry { e0 with state := .waiting }
    let d0 := (d.setEntry h e).storeImage e
    let d1 := if e.image.isOverlay then d0.prepare h e.image none else d0
    if !e.image.onBearing then
      (d1.setEntry h { e with state := .predicted, pred := some { at_ := e.image.trigger, unc := 0 } }).maybeCommit h
    else
      match d.brgState e.image.brg with
      | .lost => if d.commits then d1.late h else d1
      | .acquiring => if e.image.acq = .reject then d1.endEntry h .rejected 0x22 else d1
      | _ =>
        match e.goal with
        | none => d1
        | some g =>
          match d.predict e.image.brg g e.image.dir with
          | none => d1
          | some p => (d1.setEntry h { e with state := .predicted, pred := some p }).maybeCommit h

/-! ## Pin actions (R77–R81, R648) -/

/-- The effect of an action on a pin's base level and pulse count. -/
def Pin.apply (p : Pin) (a : PinAct) : Pin :=
  match a with
  | .set => { p with base := true }
  | .clear => { p with base := false }
  | .toggle => { p with base := !p.base }
  | .pulse => { p with pulses := p.pulses + 1 }

/-- The action of a PIN entry. -/
def Entry.pinAct (e : Entry) : Option PinAct :=
  match e.image.target with
  | .pin _ a _ _ => some a
  | _ => none

/-- R78: whether a Bearing was rising when it crossed a target. -/
def Dev.risingNow (d : Dev) (b : Nat) : Bool :=
  match Dev.fitFuel 17 d b with
  | some (f, _, _) => decide (0 ≤ f.c1)
  | none => decide (0 ≤ (d.brg (d.rootBrg b)).dir)

/-- R79: a pulse end is not placed less than 2 ns after the pulse's start. -/
def clampEnd (start a : Ticks) : Ticks := if a < start + 2 * ns then start + 2 * ns else a

/-- R78: the pulse end of an entry that started at `start`, where L is `l`. -/
def Dev.pulseEnd (d : Dev) (h : Nat) (e : Entry) (l start : Ticks) (bearing : Bool) (width : Nat) : PulseEnd :=
  if !bearing then
    { handle := h, at_ := some (clampEnd start (l + width * slot)), brg := 0, goal := 0, dir := .rise,
      start := start, committed := true }
  else
    let w : Int := width * 65536
    let goal0 := e.goal.getD 0
    let rising := match e.image.dir with
      | .rise => true
      | .fall => false
      | .either => d.risingNow e.image.brg
    let g := wrap64 (if rising then goal0 + w else goal0 - w)
    let dir : Dir := if rising then .rise else .fall
    match d.brgState e.image.brg with
    | .lost | .off => { handle := h, at_ := some (start + 2 * ns), brg := e.image.brg, goal := g, dir := dir, start := start, committed := true }
    | _ => { handle := h, at_ := (d.predict e.image.brg g dir).map (fun p => clampEnd start p.at_), brg := e.image.brg, goal := g,
             dir := dir, start := start, committed := false }

/-- Complete one PIN entry of a slot: the one whose edge was placed waits for the sense path (R77); a unit that does not
hold the claim completes it locally with STANDBY (R80). -/
def Dev.finishPin (d : Dev) (h n : Nat) (edge : Bool) : Dev :=
  match d.entry h with
  | none => d
  | some e =>
    if !d.holdsClaim then
      d.setEntry h { e.flag flStandby with state := .acting, standbyDone := true, noEdge := !edge }
    else if edge && d.cfgB Od.pin_SENSE_ENABLE n then d.setEntry h { e with state := .acting, senseDue := true }
    else d.confirmEntry h

/-- A pulse end's slot has come by an instant. -/
def PulseEnd.dueBy (x : PulseEnd) (t : Ticks) : Bool :=
  match x.at_ with
  | some a => decide (slotTime (slotOf a) ≤ t)
  | none => false

/-- Everything due on one pin at one slot (R76, R78, R79): pulse ends, then the entries in ascending handle order. An
entry that its deferral makes late is dropped under DROP and the slot is taken again without it. -/
def Dev.pinSlot : Nat → Dev → Nat → Ticks → List Nat → Dev
  | 0, d, _, _, _ => d
  | k + 1, d, n, t, hs =>
    let p0 := d.pin n
    let due := p0.ends.filter (fun x => x.dueBy t)
    let keep := p0.ends.filter (fun x => !x.dueBy t)
    let p1 := { p0 with ends := keep, pulses := p0.pulses - due.length }
    let (p2, last) := hs.foldl (fun (acc : Pin × Option Nat) h =>
      match (d.entry h).bind Entry.pinAct with
      | none => acc
      | some a =>
        let q := acc.1.apply a
        (q, if q.active = acc.1.active then acc.2 else some h)) (p1, none)
    let edge := decide (p2.active ≠ p0.active)
    let t' := if edge then p0.edgeAt t else t
    let deferred := decide (t < t')
    let credited := if edge then last else none
    let lateBy := match credited.bind d.entry with
      | some e => decide (e.instant + e.image.lateTol < t') && !bitOf e.flags flLate
      | none => false
    match credited, lateBy, (credited.bind d.entry).map (fun e => e.image.late) with
    | some h, true, some .drop =>
      Dev.pinSlot k (((d.bump Od.lch_LATE_COUNT 0).bump Od.lch_DROPPED 0).endEntry h .expired 0x20) n t (hs.filter (fun x => x ≠ h))
    | _, _, _ =>
      let acts := hs.filterMap (fun h => (d.entry h).bind Entry.pinAct)
      let d1 := d.setPin n p2
      let d2 := if acts.contains .set && acts.contains .clear then d1.bump Od.pst_CONFLICTS n else d1
      let d3 := match credited with
        | some h =>
          let e1 := d2.onEntry h (fun e =>
            let e := if deferred then e.flag flDeferred else e
            if lateBy then e.flag flLate else e)
          let e2 := if deferred then e1.bump Od.pst_DEFERRALS n else e1
          if lateBy then e2.bump Od.lch_LATE_COUNT 0 else e2
        | none => if edge && deferred then d2.bump Od.pst_DEFERRALS n else d2
      let d4 := if edge then d3.placeEdge n t' credited credited.isNone else d3
      let d5 := hs.foldl (fun x h =>
        match x.entry h with
        | none => x
        | some e =>
          match e.image.target with
          | .pin _ .pulse bw w =>
            let start := if credited = some h then t' else t
            x.onPin n (fun p => { p with ends := p.ends ++ [x.pulseEnd h e t start bw w] })
          | _ => x) d4
      hs.foldl (fun x h => x.finishPin h n (decide (credited = some h))) d5

/-! ## The other targets -/

/-- R82–R84, R192: a launched frame leaves at its instant. -/
def Dev.actFrame (d : Dev) (h : Nat) (e0 : Entry) (session template arg : Nat) : Dev :=
  let d0 := d.takeFrameSeq h e0
  match d0.entry h with
  | none => d0
  | some e =>
    match d0.sesOf session, e.sff with
    | none, _ => d0.endEntry h .failed 0x30
    | some i, sff =>
      if !(d0.ses i).state.live then d0.endEntry h .failed 0x30
      else
        match sff with
        | none => d0.setEntry h { e with blocked := true }
        | some seq =>
          if d0.flowBlocked i seq || d0.usageSpent i then d0.setEntry h { e with blocked := true }
          else
            let d1 := d0.sendLaunched e session template arg
            if d.isStandby then
              d1.setEntry h { e.flag flStandby with state := .acting, standbyDone := true, sent := true }
            else if d.cfg Od.tpl_TYPE template = 0 then
              (d1.setEntry h { e with state := .acting, sent := true }).onItem e.item (fun x =>
                { x with sff := some seq, retxAt := d.now + d.cfg Od.ses_RETX_TIME i, retxGap := d.cfg Od.ses_RETX_TIME i, dispatchedAt := d.now })
            else d1.confirmEntry h

/-- R77, R86, R130: the posting is made: one manifest update holds the posted item and the launch item's CONFIRMED. The entry
is complete once the posted item is accepted, which in a joined twin is at the mirror's acknowledgement. -/
def Dev.posted (d : Dev) (h : Nat) (e : Entry) (p : Nat) (wait : Bool) : Dev :=
  let d1 := (d.onItem e.item (fun x => { x with state := .confirmed, reason := 0, outcomeAt := d.now, reserve := 0, detail := e.flags })).journalAll
    [p, e.item]
  if wait then d1.setEntry h { e with state := .acting, posting := some p }
  else ((d1.ackItem p).queueTerminal e.item false).delEntry h

/-- R86, R130: a posting at its instant. A standby posts nothing of its own. -/
def Dev.actPost (d : Dev) (h : Nat) (e : Entry) (queue word : Nat) : Dev :=
  if d.isStandby then d.setEntry h { e.flag flStandby with state := .acting, standbyDone := true }
  else
    match d.tryPost e.item queue word e.committedAt h with
    | (.posted p wait, d1) => d1.posted h e p wait
    | (.closed, d1) => d1.endEntry h .failed 0x31
    | (.wait, d1) => d1.setEntry h { e with blocked := true }

/-- R88: arm or disarm a target entry. -/
def Dev.actArm (d : Dev) (h target : Nat) (arm : Bool) : Dev :=
  if d.isStandby then d.onEntry h (fun e => { e.flag flStandby with state := .acting, standbyDone := true })
  else
  let noTarget := (d.onEntry h (fun e => e.flag flNoTarget)).confirmEntry h
  match d.entry target with
  | none => noTarget
  | some t =>
    if arm then
      if t.state = .unarmed then
        let t1 := { t with image := { t.image with armed := true }, raw := rawArmed t.raw true none }
        ((d.confirmEntry h).setEntry target t1).armEntry target
      else noTarget
    else if t.state = .waiting || t.state = .predicted || t.state = .atSample then
      let t1 := { t with image := { t.image with armed := false }, raw := rawArmed t.raw false none, state := .unarmed, pred := none }
      (((d.confirmEntry h).delPart d.fry.flo.ownId target).setEntry target t1).storeImage t1
    else noTarget

/-- A participant switches its overlay at L; the entry of this chip is confirmed (R77, R94 step 5). -/
def Dev.switchPart (d : Dev) (p : OvlPart) (late : Bool) : Dev :=
  match p.image.target with
  | .overlay set layer digest =>
    let l := p.l.getD d.now
    let d1 := d.drivePins (((if p.chip = d.fry.flo.ownId then d.spendRate p.handle else d).delPart p.chip p.handle).switchLayer set layer digest
      p.handle (if late then d.now else l))
    if p.chip = d.fry.flo.ownId && !d.isStandby then
      (if late then d1.onEntry p.handle (fun e => e.flag flLate) else d1).confirmEntry p.handle
    else d1
  | _ => d

/-- R517: at L the two takings of the switch disagree. There is no switch, and the chip is as one that has received no COMMIT
(R95). -/
def Dev.noSwitch (d : Dev) (p : OvlPart) : Dev :=
  (d.onPart p.chip p.handle (fun q => { q with decision := none })).fault 0x04A 0xFFFF none []

/-! ## What is due (R76) -/

/-- Something due: a participant's overlay, or an entry. -/
inductive DueRef where
  | part (chip h : Nat)
  | entry (h : Nat)
deriving DecidableEq, Repr

/-- The order of R76 as one number: slot, step, then layer and handle. -/
def dueKey (t : Ticks) (step minor : Nat) : Int := slotOf t * 2 ^ 40 + ((step * 2 ^ 36 + minor : Nat) : Int)

/-- Everything due now, with its place in the order. -/
def Dev.dueList (d : Dev) : List (Int × DueRef) :=
  if d.man.saving || d.man.parked then []
  else
    let parts := if d.flt.chipSafe then [] else d.lch.parts.filterMap (fun p =>
      match p.decision, p.l, p.image.target with
      | some .commit, some l, .overlay _ layer _ =>
        if slotTime (slotOf l) ≤ d.now && (p.chip ≠ d.fry.flo.ownId || d.rateFree p.handle) then some (dueKey l 0 (layer * 2 ^ 20 + p.handle), DueRef.part p.chip p.handle) else none
      | _, _, _ => none)
    let entries := d.lch.entries.filterMap (fun e =>
      if e.2.state = .committed && !e.2.blocked && !e.2.image.isOverlay && decide (slotTime (slotOf e.2.instant) ≤ d.now) &&
          d.rateFree e.1 && (!d.flt.chipSafe || e.2.image.isPin || e.2.image.isFrame) then
        let step := match e.2.image.target with
          | .arm .. => 1
          | _ => 2
        some (dueKey e.2.instant step e.1, DueRef.entry e.1)
      else none)
    parts ++ entries

/-- The first thing due. -/
def Dev.nextDue (d : Dev) : Option DueRef :=
  match d.dueList with
  | [] => none
  | a :: t => some (t.foldl (fun (x y : Int × DueRef) => if y.1 < x.1 then y else x) a).2

/-- The instant at which a due entry acts: its slot, or the next slot after now where it has been delayed. -/
def Dev.actTime (d : Dev) (e : Entry) : Ticks :=
  let t := slotTime (slotOf e.instant)
  if d.now < t + slot then t else slotTime ((d.now + slot - 1) / slot)

/-- Act on one entry that is due. -/
def Dev.actEntry (d : Dev) (h : Nat) : Dev :=
  match d.entry h with
  | none => d
  | some e =>
    let t := d.actTime e
    let pinOrFrame := e.image.isPin || e.image.isFrame
    if pinOrFrame && d.suppressed then d.endEntry h .failed 0x2C
    else if pinOrFrame && d.flt.hold then d.setEntry h { e with blocked := true }
    else if e.image.isPin && d.yielding then d.setEntry h { e with blocked := true }
    else if e.instant + e.image.lateTol < t && !bitOf e.flags flLate then d.late h
    else
      let d1 := d.spendRate h
      match e.image.target with
      | .pin n _ _ _ =>
        if (d.pin n).state = .off || (d.pin n).idleDue then d1.endEntry h .rejected 0x25
        else
          let group := (d.lch.entries.filter (fun x =>
            x.2.state = .committed && !x.2.blocked && slotOf x.2.instant == slotOf e.instant &&
              (match x.2.image.target with
                | .pin m _ _ _ => m == n
                | _ => false))).map (fun x => x.1)
          let (hs, d2) := d.takeRate group
          Dev.pinSlot (hs.length + 1) d2 n t hs
      | .frame s tp arg => d1.actFrame h e s tp arg
      | .post q w => d1.actPost h e q w
      | .arm target a => d1.actArm h target a
      | .overlay .. => d1

/-- Act on everything due, in the order of R76. The first argument bounds the number of actions. -/
def Dev.runDueFuel : Nat → Dev → Dev
  | 0, d => d
  | k + 1, d =>
    match d.nextDue with
    | none => d
    | some (.entry h) => Dev.runDueFuel k (d.actEntry h)
    | some (.part c h) =>
      match d.ovlPart c h with
      | some p => Dev.runDueFuel k (if d.lch.switchDisagrees then d.noSwitch p else d.switchPart p false)
      | none => d

/-- Everything due now takes effect (R76). -/
def Dev.runDue (d : Dev) : Dev := Dev.runDueFuel (3 * (d.lch.entries.length + d.lch.parts.length) + 2) d

/-- Entries blocked by a cause that may have cleared try again (R86, R192). Hold outputs and a yield keep theirs. -/
def Dev.retryBlocked (d : Dev) : Dev :=
  ({ d with lch.entries := d.lch.entries.mapVals (fun _ e =>
      if e.blocked && !e.image.isPin && !(e.image.isFrame && d.flt.hold) then { e with blocked := false } else e) }).runDue

/-! ## After a sample (R35, R71, R72) -/

/-- The position of the newest sample, and the one before it, as a Bearing sees them. -/
def Dev.samplePosFuel : Nat → Dev → Nat → Option (BVal × Option BVal)
  | 0, _, _ => none
  | k + 1, d, b =>
    if d.isVirtual b then
      let f := fun (x : BVal) => wrap64 (roundAway (((d.cfg Od.vbr_V_A b * x : Int) : Rat) / (q32 : Int)) + d.cfg Od.vbr_V_B b)
      (Dev.samplePosFuel k d (d.cfgN Od.vbr_V_SOURCE b)).map (fun (x, y) => (f x, y.map f))
    else
      match (d.brg b).hist with
      | s :: p :: _ => some (s.x, some p.x)
      | s :: [] => some (s.x, none)
      | [] => (d.brg b).newest.map (fun s => (s.x, none))

/-- R42, R71: a sample is at or after a target in a direction; for EITHER, the target lies between two samples. -/
def reached (dir : Dir) (goal x : BVal) (prev : Option BVal) : Bool :=
  match dir with
  | .rise => decide (0 ≤ serial x goal)
  | .fall => decide (serial x goal ≤ 0)
  | .either =>
    serial x goal = 0 ||
      match prev with
      | some p => decide (serial p goal < 0 ∧ 0 < serial x goal) || decide (0 < serial p goal ∧ serial x goal < 0)
      | none => false

/-- R42, R71: an entry that waits for a sample acts at this one, with COARSE; `acq` says that the sample came while its Bearing
was ACQUIRING. An overlay can no longer be coordinated for this instant: it is late (R76, R95). -/
def Dev.atSample1 (d : Dev) (acq : Bool) (h : Nat) : Dev :=
  match d.entry h with
  | none => d
  | some e =>
    let edge := e.state = .waiting && e.image.acq = .edge && acq && (d.brg e.image.brg).ref
    match (e.state = .atSample || edge : Bool), e.goal, Dev.samplePosFuel 17 d e.image.brg with
    | true, some g, some (x, prev) =>
      if d.commits && e.image.onBearing && reached e.image.dir g x prev then
        let e1 := { e with committedAt := d.dueAt e, unc := d.uncOf e }
        if e.image.isOverlay then (d.setEntry h (e1.flag flCoarse)).late h
        else d.commitAt h (e1.flag flCoarse) d.now e1.unc
      else d
    | _, _, _ => d

/-- R72: a sample between commit and L - 200 ns corrects a track-to-edge instant, within ±u of the committed one. -/
def Dev.correct1 (d : Dev) (h : Nat) : Dev :=
  match d.entry h with
  | none => d
  | some e =>
    if e.state = .committed && e.image.tte && decide (d.now ≤ e.instant - 200 * ns) && !bitOf e.flags flLate &&
        !bitOf e.flags flCoarse then
      match e.goal with
      | none => d
      | some g =>
        match d.predict e.image.brg g e.image.dir with
        | none => d
        | some p =>
          let lo := e.committedAt - e.unc
          let hi := e.committedAt + e.unc
          d.setEntry h { e.flag flCorrected with instant := if p.at_ < lo then lo else if hi < p.at_ then hi else p.at_ }
    else d

/-- R35, R78: predict the pulse ends of a pin again. -/
def Dev.repredictEnds (d : Dev) (root n : Nat) : Dev :=
  d.onPin n (fun p => { p with ends := p.ends.map (fun x =>
    if x.committed || d.rootBrg x.brg ≠ root then x
    else
      match d.predict x.brg x.goal x.dir with
      | none => { x with at_ := none }
      | some q =>
        if d.sampleTime x.brg < q.at_ - d.horizon x.brg || x.at_.isNone then { x with at_ := some (clampEnd x.start q.at_) } else x) })

/-- A BEARING_N trigger of a copied image is resolved at once where the position is referenced (R66, R68). -/
def Dev.resolveImage (d : Dev) (i : EntryImage) : EntryImage :=
  match i.trig with
  | .bearingN =>
    let v := d.eval i.brg d.now
    if v.unref then i else { i with trig := .bearing, trigger := resolveN i.trigger (decide (i.dir = .rise)) v.pos }
  | _ => i

/-- The prediction of a copied image. -/
def Dev.predictImage (d : Dev) (i : EntryImage) : Option Pred :=
  match i.trig with
  | .time => some { at_ := i.trigger, unc := 0 }
  | .bearing => d.predict i.brg i.trigger i.dir
  | .bearingN => none

/-- The participants' copies of overlay entries are resolved and predicted again (R66, R94 step 2). -/
def Dev.repredictParts (d : Dev) (root : Nat) : Dev :=
  { d with lch.parts := d.lch.parts.map (fun p0 =>
      if p0.answered || !p0.image.onBearing || d.rootBrg p0.image.brg ≠ root then p0
      else
        let p := { p0 with image := d.resolveImage p0.image }
        match d.predictImage p.image with
        | none => { p with pred := none }
        | some q => if d.sampleTime p.image.brg < q.at_ - d.leadOf p.image || p.pred.isNone then { p with pred := some q } else p) }

/-- The handles of the entries that rest on a tracker. -/
def Dev.entriesOn (d : Dev) (root : Nat) : List Nat :=
  (d.lch.entries.filter (fun e => e.2.image.onBearing && d.rootBrg e.2.image.brg == root)).map (fun e => e.1)

/-- The entries among some whose commit point has passed, in order of commit point, then of handle (R82). -/
def Dev.commitOrder (d : Dev) (hs : List Nat) : List Nat :=
  (sortBy (fun (e : Ticks × Nat) => e.1 * 2 ^ 17 + (e.2 : Int)) (hs.filterMap (fun h =>
    match d.entry h with
    | some e => match e.state, e.pred with
      | .predicted, some p => if d.commitPoint e.image p ≤ d.now then some (d.commitPoint e.image p, h) else none
      | _, _ => none
    | none => none))).map (fun e => e.2)

/-- Everything that an accepted sample of a Bearing does to the launch table and the pins (R35, R42, R71, R72, R78); `acq` says
that the Bearing was ACQUIRING when it came. Only entries committed before it are corrected by it. -/
def Dev.afterSample (d : Dev) (b : Nat) (acq : Bool) : Dev :=
  let hs := d.entriesOn b
  let old := hs.filter (fun h => (d.entry h).any (fun e => decide (e.state = .committed)))
  let d1 := hs.foldl (fun x h => x.atSample1 acq h) d
  let d2 := hs.foldl (fun x h => x.repredict1 h) d1
  let d3 := (d2.commitOrder hs).foldl (fun x h => x.maybeCommit h) d2
  let d4 := old.foldl (fun x h => x.correct1 h) d3
  let d5 := (d4.lch.pins.map (fun e => e.1)).foldl (fun x n => x.repredictEnds b n) d4
  (d5.repredictParts b).runDue

/-- R73, R78: a Bearing, or one that rests on it, has entered LOST or been taken to OFF: uncommitted armed entries are
late, and pulse ends against it that are not committed fall due at once. -/
def Dev.launchLost (d : Dev) (b : Nat) : Dev :=
  let hs := (d.entriesOn b).filter (fun h => match d.entry h with
    | some e => e.state = .waiting || e.state = .predicted || e.state = .atSample
    | none => false)
  let d1 := if d.commits then hs.foldl (fun x h => x.late h) d else d
  ({ d1 with lch.pins := d1.lch.pins.mapVals (fun _ p =>
      { p with ends := p.ends.map (fun (x : PulseEnd) =>
          if x.committed || d.rootBrg x.brg ≠ b then x else { x with at_ := some d.now, committed := true }) }) }).runDue

/-- R40, R73: committed entries due after a reversal carry REVERSAL; their number is reported unless the Bearing is STILL. -/
def Dev.launchReversal (d : Dev) (b : Nat) (still : Bool) : Dev :=
  let hs := (d.entriesOn b).filter (fun h => match d.entry h with
    | some e => e.state = .committed && decide (d.now < e.instant)
    | none => false)
  let d1 := hs.foldl (fun x h => x.onEntry h (fun e => e.flag flReversal)) d
  if hs.isEmpty || still then d1 else d1.raise b 0xC2 b [(hs.length : Int)]

/-- The slot at which due pulse ends act: that of the first, or the next slot after now where it has passed. -/
def Dev.endSlot (d : Dev) (l : List PulseEnd) : Ticks :=
  let first := (l.filterMap (fun x => x.at_)).foldl min d.now
  let t := slotTime (slotOf first)
  if d.now < t + slot then t else slotTime ((d.now + slot - 1) / slot)

/-- Apply the pulse ends of a pin that are due (R78, R648): kept under hold outputs, discarded under safe outputs. -/
def Dev.endPulses (d : Dev) (n : Nat) : Dev :=
  let p := d.pin n
  let due := p.ends.filter (fun x => x.dueBy d.now)
  if due.isEmpty || d.man.saving then d
  else if d.suppressed then d.setPin n { p with ends := p.ends.filter (fun x => !x.dueBy d.now) }
  else if d.flt.hold || d.yielding then d
  else Dev.pinSlot 1 d n (d.endSlot due) []

end Sys2Proof.Machine
end

