-- ==== Sys2Proof/Machine/BearingOps.lean ====
section
/-!
DEFINITION. The compass unit's operations: samples, states, references, calibration captures and disabling
(R25–R56).
-/
namespace Sys2Proof.Machine

/-! ## States (R38) -/

/-- Enter a state, with its event. Leaving TRACKING aborts a running capture (R45). -/
def Dev.brgSetState (d : Dev) (b : Nat) (st : BState) : Dev :=
  let x := d.brg b
  if x.state = st then d
  else
    (d.setBrg b { x with state := st, since := 0, still := x.still && decide (st = .tracking),
                         capture := if x.capture.state = 1 && st ≠ .tracking then { x.capture with state := 3, reason := 3 }
                                    else x.capture }).raise b 0xC0 b

/-- R23: every enabled VIRTUAL Bearing takes its source's state; one whose source is OFF is LOST and unreferenced. -/
def Dev.followVirtual (d : Dev) : Dev :=
  (List.range 16).foldl (fun d v =>
    if d.isVirtual v && decide ((d.brg v).state ≠ .off) then
      let src := d.brg (d.cfgN Od.vbr_V_SOURCE v)
      match src.state with
      | .off =>
        if (d.brg v).state = .lost then d
        else (d.onBrg v (fun x => { x with ref := false, lastCause := 10 })).brgSetState v .lost
      | .lost =>
        if (d.brg v).state = .lost then d
        else (d.onBrg v (fun x => { x with lastCause := 10 })).brgSetState v .lost
      | st => d.brgSetState v st
    else d) d

/-- R38: a Bearing enters LOST with a cause, its reference kept or cleared, and its entries are handled (R73). -/
def Dev.brgLost (d : Dev) (b cause : Nat) (clear : Bool) : Dev :=
  let x := d.brg b
  if x.state = .off then d
  else
    (((d.setBrg b { x with ref := x.ref && !clear, lastCause := cause, hist := [], fit := none }).brgSetState b .lost).followVirtual).launchLost b

/-- R38: samples are missing; the Bearing extrapolates. `cause` is what LAST_CAUSE shows when the coast expires. -/
def Dev.brgCoast (d : Dev) (b cause last : Nat) : Dev :=
  ((d.bump Od.bst_COAST_EVENTS b).onBrg b (fun x =>
    { x with coastAt := d.now, coastCause := cause, lastCause := last })).brgSetState b .coasting |>.followVirtual

/-! ## Samples -/

/-- The newest fits, back to the first one older than an instant: what R36 needs of the past. -/
def keepFits (t : Ticks) : List Fit → List Fit
  | [] => []
  | g :: r => if t ≤ g.t0 then g :: keepFits t r else [g]

/-- One tracker step: the refit after a push. -/
def Dev.refit (d : Dev) (b : Nat) : Dev :=
  let x := d.brg b
  let c := d.trk b
  let need := if x.state = .acquiring then max c.acqM (c.order + 2) else c.order + 2
  if x.hist.length < need then d
  else
    match fitOf c.order c.floor x.hist with
    | none => d
    | some f => d.setBrg b { x with fit := some f, fits := f :: keepFits (f.t0 - 100 * us) x.fits }

/-- R38: the qualifying sample of an ACQUIRING Bearing. -/
def Dev.qualify (d : Dev) (b : Nat) : Dev :=
  let x := d.brg b
  let c := d.trk b
  match x.state, x.fit with
  | .acquiring, some f =>
    if max c.acqM (c.order + 2) ≤ x.since && decide ((c.vmin : Rat) ≤ absRat f.vel) && x.ref then d.brgSetState b .tracking else d
  | _, _ => d

/-- R44: the ENVELOPE flag, with its event on entry. -/
def Dev.noteEnvelope (d : Dev) (b : Nat) : Dev :=
  let x := d.brg b
  match x.fit with
  | none => d
  | some f =>
    let outside := match d.remoteOf b with
      | some r => decide (r.trk.uEnv ≠ 0)
      | none => d.calValid b x && !d.inEnvelope b f.vel
    if outside = x.envOut then d
    else
      let d1 := d.setBrg b { x with envOut := outside }
      if outside then d1.raise b 0xC7 b else d1

/-- R44: a change of bin or temperature, seen by all the Bearings. -/
def Dev.noteEnvelopes (d : Dev) : Dev := (List.range 16).foldl (fun y b => y.noteEnvelope b) d

/-- R39, R45, R56: what the new speed says: STILL, OVERSPEED, and the drift of a running capture. -/
def Dev.noteSpeed (d : Dev) (b : Nat) : Dev :=
  let x := d.brg b
  let c := d.trk b
  match x.fit with
  | none => d
  | some f =>
    let v := absRat f.vel
    let excess := decide ((c.vmax : Rat) < v)
    let drift := decide (absRat (x.capture.speed : Int) < 100 * absRat (f.vel - (x.capture.speed : Int)))
    let cap := if x.capture.state = 1 && drift then { x.capture with state := 3, reason := 1 } else x.capture
    let d1 := d.setBrg b { x with still := decide (x.state = .tracking) && decide (v < (c.vmin : Int)), overspeed := excess, capture := cap }
    if excess && !x.overspeed then d1.raise b 0xC1 b else d1

/-- Push a sample into the history of the tracker's pseudo-code. -/
def Bearing.push (x : Bearing) (n : Nat) (s : Sample) : Bearing :=
  { x with hist := (s :: x.hist).take n, since := x.since + 1, newest := some s }

/-- R38: whether a sample of a COASTING Bearing lies within unc_x + 1 count of the extrapolation. -/
def Bearing.inGate (x : Bearing) (c : TrkCfg) (s : Sample) : Bool :=
  match x.fit with
  | none => false
  | some f =>
    decide (absRat (serial s.x (f.posAt s.t) : Int) ≤ f.uncX c ((s.t - f.t0 : Int) : Rat) + c.count)

/-- Move the origin of a Bearing's positions: history, fit and base shift alike (R30, R29). -/
def Bearing.rebase (x : Bearing) (delta : Int) : Bearing :=
  { x with base := wrap64 (x.base + delta), hist := x.hist.map (fun s => { s with x := wrap64 (s.x + delta) }),
           fit := x.fit.map (fun f => { f with x0 := wrap64 (f.x0 + delta) }),
           newest := x.newest.map (fun s => { s with x := wrap64 (s.x + delta) }) }

/-- R30: a waiting POSITION_SET gives this sample its position and references the Bearing. -/
def Bearing.placed (x : Bearing) (raw : BVal) (s : Sample) : Bearing × Sample :=
  match x.posSet with
  | none => (x, s)
  | some v => ({ x.rebase (serial v raw) with posSet := none, ref := true, widen := 0 }, { s with x := v })

/-- What a sample changes once the tracker has taken it (R38, R39, R44, R56). -/
def Dev.tracked (d : Dev) (b : Nat) : Dev :=
  ((((d.refit b).qualify b).noteSpeed b).noteEnvelope b).followVirtual

/-- R46: the configuration that goes with every shared sample, in the model's own form (log entry 24): tracker parameters,
horizon, glitch width, floor, direction of the counted edge, and calibration. -/
def Dev.shareConfig (d : Dev) (b : Nat) : Bytes :=
  let c := d.trk b
  let i64 := fun (v : Int) => toBe 8 (patternOf 64 v)
  [BitVec.ofNat 8 c.order, BitVec.ofNat 8 c.n, BitVec.ofNat 8 c.acqM, BitVec.ofNat 8 (patternOf 8 (d.brg b).dir)] ++ i64 c.vmin ++ i64 c.vmax ++
    i64 c.gate ++ i64 c.k ++ i64 (roundAway c.floor) ++ i64 (roundAway c.uEnv) ++ i64 (d.horizon b) ++ i64 (d.cfg Od.brg_GLITCH_WIDTH b) ++
    i64 (d.cfg Od.brg_LINE_ERR b) ++ i64 (d.cfg Od.cal_CAL_POINTS b) ++ i64 (d.cfg Od.cal_CAL_PERIOD b) ++ i64 (d.cfg Od.cal_CAL_VLOW b) ++
    i64 (d.cfg Od.cal_CAL_VHIGH b) ++ i64 (d.cfg Od.cal_CAL_TEMP b) ++ i64 (d.cfg Od.cal_CAL_LOADBIN b) ++ i64 (d.cfg Od.cal_CAL_RESID b) ++
    i64 (d.cfg Od.cal_CAL_PENALTY b) ++ (d.oct Od.cal_CAL_TABLE b)

/-- R46: a Bearing with PUB_FERRY sends every accepted sample, with its configuration, to every chip of the flotilla. The
content of a BEARING message is the model's own form (log entry 24). -/
def Dev.shareSample (d : Dev) (b : Nat) (s : Sample) : Dev :=
  let x := d.brg b
  if d.cfgB Od.pub_PUB_FERRY b && decide (d.brgType b ≠ 5) then
    d.ferryCast 3 0 ([BitVec.ofNat 8 b, BitVec.ofNat 8 (qualityByte x.state false x.envOut d.unlocked x.still !x.ref)] ++
      timeBe s.t ++ toBe 8 (patternOf 64 s.x) ++ d.shareConfig b)
  else d

/-- R45: a running capture averages a sample's line error, its distance before calibration from the fit. -/
def Capture.add (c : Capture) (points : Nat) (period origin : Int) (raw fitted : BVal) (t : Ticks) (temp : Int) : Capture :=
  let e := serial raw fitted
  let ph : Nat := if period ≤ 0 then 0
    else (roundAway ((((raw - origin) % period * (points : Int) : Int) : Rat) / (period : Rat))).toNat % max points 1
  let (s, n) := c.errors.get (0, 0) ph
  { c with lastX := some raw, lastT := t, firstT := if c.lastX.isNone then t else c.firstT,
           run := (c.lastX.map (fun x => c.run + serial raw x)).getD 0,
           samples := c.samples + 1, errors := c.errors.ins ph (s + e, n + 1), squares := c.squares + e * e, temps := c.temps + temp }

/-- R45: the sample of a Bearing whose capture runs. -/
def Dev.captureSample (d : Dev) (b : Nat) (raw : BVal) (s : Sample) : Dev :=
  let x := d.brg b
  match x.capture.state, x.fit with
  | 1, some f => d.setBrg b { x with capture := x.capture.add (d.cfgN Od.cal_CAL_POINTS b) (d.cfg Od.cal_CAL_PERIOD b) (d.cfg Od.brg_ORIGIN b)
                                                  raw (f.posAt s.t) s.t d.pwr.tPins }
  | _, _ => d

/-- R38: whether what made a Bearing LOST is still present. -/
def Dev.causeStands (d : Dev) (b : Nat) : Bool :=
  let x := d.brg b
  x.causeLive || x.wireLive || x.rateLive ||
    decide (d.cfg Od.brg_QUAD_LIMIT b < ((x.quadTimes.filter (fun u => decide (d.now - ms < u))).length : Int))

/-- A sample reaches the tracker of a Bearing that is not OFF (tracker pseudo-code, R30, R38, R40, R53). `raw` is the
sample's position before calibration; `cut` says that counted edges have changed direction. The turning edge of R40 is the
first edge in the new direction, which stays in the history (log entry 127). -/
def Dev.takeSample (d : Dev) (b : Nat) (raw : BVal) (s0 : Sample) (cut : Bool) : Dev :=
  let x0 := d.brg b
  let stale := match x0.hist with
    | h :: _ => decide (s0.t ≤ h.t)
    | [] => false
  if x0.state = .off then d
  else if stale then d.bump Od.bst_SRC_DISCARDS b
  else
    let (x1, s) := x0.placed raw s0
    let c := d.trkNow b
    let x := { x1 with latched := some c }
    let cutHist := fun (y : Bearing) => if cut then { y with hist := [], fit := none } else y
    let d1 : Dev := match x.state with
      | .lost =>
        if d.cfgB Od.brg_AUTO_REACQ b && !d.causeStands b then
          ((d.setBrg b { x with hist := [], fit := none }).brgSetState b .acquiring).onBrg b (fun y => y.push c.n s)
        else d.setBrg b { x with newest := some s }
      | .coasting =>
        if x.inGate c s then ((d.setBrg b x).brgSetState b .tracking).onBrg b (fun y => (cutHist y).push c.n s)
        else ((d.setBrg b { x with hist := [], fit := none }).brgSetState b .acquiring).onBrg b (fun y => y.push c.n s)
      | _ => d.setBrg b ((cutHist x).push c.n s)
    let d2 : Dev := if cut then d1.launchReversal b x0.still else d1
    let d3 := d2.shareSample b s
    if (d3.brg b).state = .lost then d3 else ((d3.tracked b).captureSample b raw s).afterSample b (decide ((d3.brg b).state = .acquiring))

/-! ## Quadrature inputs (R25, R27, R29) -/

/-- R27, R56: an undecodable transition. -/
def Dev.quadError (d : Dev) (b : Nat) (t : Ticks) : Dev :=
  let d1 := (d.bump Od.bst_QUAD_ERRORS b).onBrg b (fun x =>
    { x with widen := x.widen + 2, quadTimes := t :: x.quadTimes.filter (fun u => decide (t - ms < u)) })
  if d.cfg Od.brg_QUAD_LIMIT b < ((d1.brg b).quadTimes.length : Int) then d1.brgLost b 5 true else d1

/-- R25: the time stamp of an edge, corrected by the input delay of the load bin of the epoch in which it arrived. -/
def Dev.edgeStamp (d : Dev) (b : Nat) (raw : Ticks) : Ticks := raw - d.cfgAt Od.cal_IN_DELAY (d.pwr.binAt raw) b

/-- R27: whether an edge comes within 2.5 ns of the last counted one, on the other input. -/
def Bearing.tooClose (x : Bearing) (ofA : Bool) (raw : Ticks) : Bool :=
  match x.lastEdge with
  | some e => e.ofA != ofA && decide (raw - e.raw < 163840)
  | none => false

/-- R27: the last counted edge is taken back: its count, its direction and its sample (log entry 128). -/
def Bearing.uncount (x : Bearing) : Bearing :=
  match x.lastEdge with
  | none => x
  | some e =>
    let hist := match x.hist with
      | s :: r => if s.t = e.sample then r else s :: r
      | [] => []
    { x with count := x.count - e.step, dir := e.before, hist := hist, since := x.since - (x.hist.length - hist.length),
             lastEdge := none }

/-- R27: an edge that cannot be told from the one before: neither is counted, and the fit stands as before them. -/
def Dev.undecodable (d : Dev) (b : Nat) (raw : Ticks) : Dev :=
  let x := d.brg b
  let y := x.uncount
  let d1 := (d.setBrg b { y with newest := if y.hist.length < x.hist.length then y.hist.head?.or y.newest else y.newest }).set Od.bst_EDGES b
    (d.cfg Od.bst_EDGES b - (if x.lastEdge.isSome then 1 else 0))
  (d1.refit b).quadError b raw

/-- R25, R27: the levels of A and B after a transition that held for a width. -/
def Dev.bearingEdge (d : Dev) (b : Nat) (a c : Bool) (width raw : Ticks) : Dev :=
  let x := d.brg b
  if !d.isQuad b || x.state = .off then d
  else if width < d.cfg Od.brg_GLITCH_WIDTH b then (d.bump Od.bst_GLITCHES b).fault (0x01D + b) b none []
  else
    let ofA := decide (a ≠ x.levelA)
    let d1 := d.setBrg b { x with levelA := a, levelB := c }
    match quadStep x.levelA x.levelB a c with
    | none => (d1.onBrg b (fun y => { y with lastEdge := none })).undecodable b raw
    | some 0 => d1
    | some k =>
      if x.tooClose ofA raw then d1.undecodable b raw else
      let k' := if d.cfgB Od.brg_DIR_INVERT b then -k else k
      let n := x.count + k'
      let edge : LastEdge := { raw := raw, ofA := ofA, step := k', before := x.dir, sample := d.edgeStamp b raw }
      let d2 := (d1.onBrg b (fun y => { y with count := n, dir := k', lastEdge := some edge })).bump Od.bst_EDGES b
      d2.takeSample b (scaleCount x.base n (d.cfg Od.brg_UNIT_NUM b) (d.cfg Od.brg_UNIT_DEN b))
        { t := d.edgeStamp b raw, x := d2.posOfCount b (d2.brg b) n } (decide (x.dir ≠ 0) && decide (x.dir ≠ k'))

/-- R29: the counts per revolution: UNIT_DEN / UNIT_NUM for ROTARY, from CAL_PERIOD for LINEAR; none where not an
integer. -/
def Dev.countsPerRev (d : Dev) (b : Nat) : Option Int :=
  let num := d.cfg Od.brg_UNIT_NUM b
  let den := d.cfg Od.brg_UNIT_DEN b
  if num ≤ 0 then none
  else if d.brgType b = 2 then
    let p := d.cfg Od.cal_CAL_PERIOD b * den
    if p % (num * q32) = 0 && 0 < p then some (p / (num * q32)) else none
  else if den % num = 0 && 0 < den then some (den / num) else none

/-- R29: the deviation of a count from the nearest multiple. -/
def indexDeviation (n cpr : Int) : Int := n - cpr * roundAway ((n : Rat) / (cpr : Rat))

/-- Record an index mismatch; a running capture aborts (R29, R45). -/
def Dev.indexMismatch (d : Dev) (b : Nat) : Dev :=
  (d.onBrg b (fun x => if x.capture.state = 1 then { x with capture := { x.capture with state := 3, reason := 2 } } else x)).raise b 0xC3 b

/-- R29: a qualified rising Z edge. -/
def Dev.indexPulse (d : Dev) (b : Nat) (width : Ticks) : Dev :=
  let x := d.brg b
  let mode := d.cfgN Od.brg_Z_MODE b
  if !d.isQuad b || x.state = .off then d
  else if width < d.cfg Od.brg_GLITCH_WIDTH b then (d.bump Od.bst_GLITCHES b).fault (0x01D + b) b none []
  else if !(x.levelA && x.levelB) || mode = 0 then d
  else if mode = 3 && !x.ref then
    let delta := serial (d.cfg Od.brg_Z_HOME b) (scaleCount x.base x.count (d.cfg Od.brg_UNIT_NUM b) (d.cfg Od.brg_UNIT_DEN b))
    let y := x.rebase delta
    (((d.setBrg b { y with base := d.cfg Od.brg_Z_HOME b, count := 0, ref := true, widen := 0 }).qualify b).followVirtual).afterSample b false
  else
    match d.countsPerRev b with
    | none => d
    | some cpr =>
      let dev := indexDeviation x.count cpr
      let tol := d.cfg Od.brg_Z_TOL b
      let excess := decide (tol < dev) || decide (dev < -tol)
      let d1 := d.setBrg b { x with idxDev := dev, widen := 0 }
      if excess then
        let d2 := d1.indexMismatch b
        if mode = 2 then d2.brgLost b 6 true else d2
      else if mode = 2 && dev ≠ 0 then
        let shift := scaleCount 0 (-dev) (d.cfg Od.brg_UNIT_NUM b) (d.cfg Od.brg_UNIT_DEN b)
        d1.onBrg b (fun y => { (y.rebase shift) with base := y.base, count := y.count - dev })
      else d1

/-! ## SSI, mains and frames (R31, R32, R50) -/

/-- R31: SSI parity over the word and its parity bit. -/
def ssiParityOk (mode bits word : Nat) (parity : Bool) : Bool :=
  match mode with
  | 1 => !xor (parityOf bits word) parity
  | 2 => xor (parityOf bits word) parity
  | _ => true

/-- R31: the count with a given word nearest to the previous count. -/
def unwrapNear (bits : Nat) (prev : Int) (word : Nat) : Int :=
  let m : Int := 2 ^ bits
  let delta := (word - prev) % m
  prev + (if m < 2 * delta then delta - m else delta)

/-- R31: a discarded SSI word. -/
def Dev.ssiDiscard (d : Dev) (b : Nat) : Dev :=
  let x := d.brg b
  let n := x.ssiDisc + 1
  let d1 := (d.setBrg b { x with ssiDisc := n }).bump Od.bst_SRC_DISCARDS b
  if x.state = .tracking && decide (d.cfg Od.ssi_SSI_ERR_LIMIT b ≤ (n : Int)) then d1.brgCoast b 7 x.lastCause else d1

/-- R31: a completed SSI word, latched at a clock edge. -/
def Dev.ssiSample (d : Dev) (b word : Nat) (parity : Bool) (edge : Ticks) : Dev :=
  let x := d.brg b
  let bits := d.cfgN Od.ssi_SSI_BITS b
  if !d.isSsi b || x.state = .off then d
  else if !ssiParityOk (d.cfgN Od.ssi_SSI_PARITY b) bits word parity then d.ssiDiscard b
  else
    let w := (if d.cfg Od.ssi_SSI_CODE b = 1 then grayToBin bits word else word) % 2 ^ bits
    let n := if x.newest.isNone then (w : Int) else unwrapNear bits x.count w
    let num := d.cfg Od.brg_UNIT_NUM b
    let den := d.cfg Od.brg_UNIT_DEN b
    let t := edge + d.cfg Od.ssi_SSI_LATENCY b
    let raw := scaleCount x.base n num den
    let jump := match x.fit with
      | none => false
      | some f =>
        let limit : Rat := absRat (d.cfg Od.brg_VMAX b : Int) * (d.cfg Od.ssi_SSI_PERIOD b : Int) / (sec : Int) +
          (d.cfg Od.brg_Z_TOL b : Int) * (num * q32 : Int) / (if den = 0 then 1 else den : Int)
        decide (limit < absRat (serial (d.posOfCount b x n) (f.posAt t) : Int))
    if jump then d.ssiDiscard b
    else
      let d1 := d.setBrg b { x with count := n, ssiDisc := 0 }
      d1.takeSample b raw { t := t, x := d1.posOfCount b (d1.brg b) n } false

/-- R32: two cycles' crossings of the phases that contribute: in use, and not below AMPLITUDE_MIN. They bound an error run. -/
def Dev.mainsLimit (d : Dev) (b : Nat) : Nat :=
  let p := d.cfgN Od.mns_PHASES b
  let w := (d.brg b).weak
  4 * ((List.range 3).filter (fun i => bitOf p i && !bitOf w i)).length

/-- R32: whether a crossing follows the last one in SEQUENCE: one to three sixths ahead. -/
def mainsInOrder (prev step : Int) : Bool :=
  prev < 0 || (decide ((step - prev) % 6 ≠ 0) && decide ((step - prev) % 6 ≤ 3))

/-- R32: the count, in sixths of a cycle, of a crossing: the next one whose fractional position is the crossing's. -/
def mainsCount (prev count step : Int) : Int :=
  if prev < 0 then step else count + (if (step - count) % 6 = 0 then 6 else (step - count) % 6)

/-- R38: the mains frequency outside its limits. -/
def Dev.mainsOutside (d : Dev) (b : Nat) : Bool :=
  let c := d.trk b
  match (d.brg b).fit with
  | none => false
  | some f => decide (absRat f.vel < (c.vmin : Int)) || decide ((c.vmax : Rat) < absRat f.vel)

/-- R32: a phase's peak is known: below AMPLITUDE_MIN it contributes nothing. -/
def Dev.notePeak (d : Dev) (b phase : Nat) (peak : Nat) : Dev :=
  let low := decide ((peak : Int) < d.cfg Od.mns_AMPLITUDE_MIN b)
  d.onBrg b (fun x => { x with weak := if bitOf x.weak phase = low then x.weak else if low then x.weak + 2 ^ phase else x.weak - 2 ^ phase })

/-- R32, R33: the converter-refined residual of a crossing in BVAL units: its root mean square in ticks at the speed of the
fit (log entry 126). -/
def Bearing.residOf (x : Bearing) (rms : Rat) : Int :=
  match x.fit with
  | some f => roundAway (rms * absRat f.c1)
  | none => 0

/-- R32: a crossing in sequence is a sample. -/
def Dev.mainsTake (d : Dev) (b : Nat) (step : Int) (t : Ticks) (rms : Rat) : Dev :=
  let x := d.brg b
  let n := mainsCount x.mainsStep x.count step
  let raw := scaleCount x.base n 1 6
  let d1 := (d.setBrg b { x with count := n, mainsStep := step, seqErr := 0, resid := x.residOf rms }).takeSample b raw { t := t, x := raw } false
  let err := if d1.mainsOutside b then (d1.brg b).freqErr + 1 else 0
  let d2 := d1.onBrg b (fun y => { y with freqErr := err })
  if d.mainsLimit b ≤ err then (d2.onBrg b (fun y => { y with freqErr := 0 })).brgLost b 9 false else d2

/-- R32: a crossing that contradicts SEQUENCE. -/
def Dev.mainsWrong (d : Dev) (b : Nat) (step : Int) : Dev :=
  let x := d.brg b
  let d1 := d.setBrg b { x with mainsStep := step, seqErr := x.seqErr + 1 }
  if d.mainsLimit b ≤ x.seqErr + 1 then ((d1.onBrg b (fun y => { y with seqErr := 0 })).raise b 0xC4 b).brgLost b 8 false else d1

/-- R32: a comparator edge of a phase, with the converter samples around it and the peak since the last one. -/
def Dev.mainsCrossing (d : Dev) (b phase : Nat) (rising : Bool) (peak : Nat) (l : List (Ticks × Int)) : Dev :=
  if d.brgType b ≠ 3 || (d.brg b).state = .off || !bitOf (d.cfgN Od.mns_PHASES b) phase then d
  else
    let d1 := d.notePeak b phase peak
    match bitOf (d1.brg b).weak phase, mainsZero l with
    | false, some (t, rms) =>
      let step := mainsSixth (d.cfgB Od.mns_SEQUENCE b) phase rising
      if mainsInOrder (d1.brg b).mainsStep step then d1.mainsTake b step t rms else d1.mainsWrong b step
    | _, _ => d1

/-- A published sample of another node's Bearing (R48, R50). -/
structure PubSample where
  bearing : Nat
  quality : Nat
  x : BVal
  instant : Ticks
  vel : Int
  acc : Int
  unc : Int
deriving DecidableEq, Repr

/-- R50: a NETWORK Bearing takes or discards a publisher's frame. -/
def Dev.bearingFrame (d : Dev) (b : Nat) (p : PubSample) : Dev :=
  let x := d.brg b
  let st := p.quality % 8
  if d.brgType b ≠ 4 || x.state = .off || decide (d.cfg Od.nbr_SRC_BEARING b ≠ (p.bearing : Int)) then d
  else if st = 4 then
    if x.state = .lost then d else d.brgLost b 10 false
  else if st ≠ 2 && st ≠ 3 then d
  else if d.cfg Od.nbr_SRC_MAX_UNC b < p.unc then d.bump Od.bst_SRC_DISCARDS b
  else if p.instant ≤ x.netInstant && x.newest.isSome then d
  else
    let raw := wrap64 (x.base + p.x)
    (d.setBrg b { x with netInstant := p.instant, ref := !bitOf p.quality 7 }).takeSample b raw
      { t := p.instant, x := raw, u := p.unc } false

/-- R69, R225: the entries whose commit point passed while a sample was missing carry NET_LATE. -/
def Dev.markNetLate (d : Dev) (b : Nat) (t : Ticks) : Dev :=
  { d with lch.entries := d.lch.entries.mapVals (fun _ e =>
      if e.image.onBearing && d.rootBrg e.image.brg = b && e.state.isCommitted && decide (t < e.committedAt - d.leadOf e.image + d.commitDelay e.image)
      then e.flag flNetLate else e) }

/-- R46, R225: a sample of a shared Bearing, with its source's configuration and reference. -/
def Dev.ferrySample (d00 : Dev) (b : Nat) (r : RemoteCfg) (s : Sample) (lost : Bool) : Dev :=
  let d0 := d00.ferryGot r.chip
  let d := if d0.brgType b = 5 && (d0.brg b).state ≠ .off && !lost && decide (s.t + r.glitch + 200 * ns < d0.now) then
      ((d0.bump Od.lbr_LATE_SAMPLES b).markNetLate b s.t).raise 20 0xF6 b
    else d0
  let x := d.brg b
  if d.brgType b ≠ 5 || x.state = .off then d
  else
    let d1 := d.setBrg b { x with remote := some r, ref := r.ref, causeLive := false }
    if lost then (if x.state = .lost then d1 else d1.brgLost b 10 (!r.ref))
    else
      let raw := wrap64 (x.base + s.x)
      (d1.onBrg b (fun y => { y with dir := if r.dir = 0 then y.dir else r.dir })).takeSample b raw { s with x := raw }
        (decide (r.dir ≠ 0) && decide (x.dir ≠ 0) && decide (x.dir ≠ r.dir))

/-- R38, R56: the Ferry link to the source of a FERRY Bearing is down. -/
def Dev.ferryLinkDown (d : Dev) (b : Nat) : Dev :=
  let x := d.brg b
  if d.brgType b ≠ 5 || x.state = .off || x.state = .lost then d
  else (d.setBrg b { x with causeLive := true }).brgLost b 11 false

/-! ## Time-outs, enabling and disabling -/

/-- R38: how far the predicted position must pass the newest sample before the Bearing coasts, reached at this instant.
A NETWORK Bearing counts publication periods of its own PUB_PERIOD object. -/
def Dev.gatePassed (d : Dev) (b : Nat) : Bool :=
  let x := d.brg b
  let c := d.trk b
  match x.fit, x.newest with
  | some f, some s =>
    if d.brgType b = 4 then decide (s.t + c.gate * d.cfg Od.pub_PUB_PERIOD b ≤ d.now)
    else decide ((c.gate : Rat) * c.count ≤ absRat (serial (f.posAt d.now) s.x : Int))
  | _, _ => false

/-- R38: expected samples are missing. -/
def Dev.edgeTimeout (d : Dev) (b : Nat) : Dev :=
  let x := d.brg b
  if x.state = .tracking && !x.still && !d.isVirtual b && d.gatePassed b then d.brgCoast b 2 1 else d

/-- R38: COAST_TIME has elapsed. -/
def Dev.coastExpired (d : Dev) (b : Nat) : Dev :=
  let x := d.brg b
  if x.state = .coasting && !d.isVirtual b && decide (x.coastAt + d.cfg Od.brg_COAST_TIME b ≤ d.now) then
    d.brgLost b x.coastCause false
  else d

/-- R21, R29: what enabling references at once. -/
def Dev.refAtEnable (d : Dev) (b : Nat) : Bool :=
  match d.brgType b with
  | 1 | 2 => d.isSsi b || decide (d.cfg Od.brg_Z_MODE b ≠ 3)
  | 3 => true
  | _ => false

/-- R56: a wire fault, a rate fault of a Bearing that is not OFF. -/
def Dev.wireLost (d : Dev) (b : Nat) : Dev := (d.brgLost b 3 true).raise b 0xC5 b
def Dev.rateLost (d : Dev) (b : Nat) : Dev := (d.brgLost b 4 true).raise b 0xC6 b

/-- R38: an OFF Bearing of a type other than NONE is enabled; a draining one stays enabled. -/
def Dev.bearingEnable (d : Dev) (b : Nat) : Dev :=
  let x := d.brg b
  if d.brgType b = 0 then d
  else if x.state ≠ .off then d.setBrg b { x with draining := false }
  else
    let y : Bearing := { levelA := x.levelA, levelB := x.levelB, posSet := x.posSet, lastCause := x.lastCause,
                         idxDev := x.idxDev, capture := x.capture, wireLive := x.wireLive, rateLive := x.rateLive,
                         causeLive := x.causeLive, remote := x.remote, fits := x.fits, ref := d.refAtEnable b,
                         base := if d.isQuad b || d.isSsi b then d.cfg Od.brg_ORIGIN b else 0 }
    let d1 := ((d.setBrg b y).brgSetState b .acquiring).followVirtual
    if x.wireLive then d1.wireLost b else if x.rateLive then d1.rateLost b else d1

/-- A write of a Bearing's ENABLE (R38): ON of TYPE NONE is refused with STATE. -/
def Dev.bearingEnableWrite (d : Dev) (b : Nat) : Dev :=
  if d.brgType b = 0 then d.emit (.writeStatus 9) else (d.set Od.brg_ENABLE b 1).bearingEnable b

/-- Entries against a Bearing that are not yet ended. -/
def Dev.brgPending (d : Dev) (b : Nat) : Bool :=
  d.lch.entries.any (fun e => e.2.image.onBearing && e.2.image.brg == b && !e.2.standbyDone)

/-- R51: a Bearing enters OFF. -/
def Dev.bearingOff (d : Dev) (b : Nat) : Dev :=
  let armed := (d.lch.entries.filter (fun e => e.2.image.onBearing && e.2.image.brg == b &&
    (e.2.state = .waiting || e.2.state = .predicted || e.2.state = .atSample))).map (fun e => e.1)
  let unarmed := (d.lch.entries.filter (fun e => e.2.image.onBearing && e.2.image.brg == b && e.2.state = .unarmed)).map (fun e => e.1)
  let d1 := ((d.onBrg b (fun x => { x with draining := false, ref := false, hist := [], fit := none, newest := none, lastCause := 12 })).brgSetState b .off).followVirtual
  let d2 := armed.foldl (fun x h => x.late h) d1
  let d3 := unarmed.foldl (fun x h => x.endEntry h .cancelled 0x2F) d2
  if d.isVirtual b then d3.runDue else d3.launchLost b

/-- R51: ENABLE is written OFF. -/
def Dev.bearingDisable (d : Dev) (b : Nat) : Dev :=
  let x := d.brg b
  if x.state = .off then d
  else if d.cfg Od.brg_DISABLE_MODE b = 0 then d.setBrg b { x with draining := true }
  else d.bearingOff b

/-- R51: a draining Bearing against which nothing is pending enters OFF. -/
def Dev.bearingDrainDone (d : Dev) (b : Nat) : Dev :=
  if (d.brg b).draining && !d.brgPending b then d.bearingOff b else d

/-! ## Position and calibration -/

/-- WIRE_FAULT (R56): a pair is below its threshold, or no longer (R38: the cause has cleared). -/
def Dev.wireFault (d : Dev) (b : Nat) (present : Bool) : Dev :=
  let d1 := d.onBrg b (fun x => { x with wireLive := present })
  if (d.brg b).state = .off || !present then d1 else d1.wireLost b

/-- RATE_FAULT (R56): counted edges are too fast, or no longer (R38). -/
def Dev.rateFault (d : Dev) (b : Nat) (present : Bool) : Dev :=
  let d1 := d.onBrg b (fun x => { x with rateLive := present })
  if (d.brg b).state = .off || !present then d1 else d1.rateLost b

/-- R30: POSITION_SET waits for the next accepted sample. -/
def Dev.positionSet (d : Dev) (b : Nat) (v : BVal) : Dev := d.onBrg b (fun x => { x with posSet := some v })

/-- R45: whether a capture may start. A FERRY Bearing's calibration objects are its source's and reject writes (R46). -/
def Dev.mayCapture (d : Dev) (b : Nat) : Bool :=
  let x := d.brg b
  decide (x.state = .tracking) && x.ref && !d.isVirtual b && decide (d.brgType b ≠ 5)

/-- R45: start a capture; where it may not start the write is refused with STATE. -/
def Dev.calCapture (d : Dev) (b : Nat) : Dev :=
  if !d.mayCapture b then d.emit (.writeStatus 9)
  else
    let v := match (d.brg b).fit with
      | some f => roundAway f.vel
      | none => 0
    d.onBrg b (fun x => { x with capture := { state := 1, reason := 0, speed := v } })

/-- R45: 64 periods have passed from the first sample of a running capture to the newest, which is that of an instant. -/
def Dev.captureComplete (d : Dev) (b : Nat) (at_ : Ticks) : Bool :=
  let c := (d.brg b).capture
  decide (c.state = 1) && decide (0 < c.samples) && decide (64 * d.cfg Od.cal_CAL_PERIOD b ≤ c.run.natAbs) && decide (c.firstT < c.lastT) && decide (c.lastT = at_)

/-- The averaged correction at a point (R45); at a point at which no sample fell, a free value (log entry 129). -/
def Capture.point (c : Capture) (b i : Nat) : Int :=
  match c.errors.find i with
  | some (s, n) => roundAway ((s : Rat) / (n : Rat))
  | none => Config.captureGap b i

/-- CAL_TABLE as captured, I32 little-endian. -/
def Capture.table (c : Capture) (b points : Nat) : Bytes := (List.range points).flatMap (fun i => toLe 4 (patternOf 32 (c.point b i)))

/-- CAL_RESID as captured: the root mean square of what the averages leave (log entry 126). -/
def Capture.resid (c : Capture) : Int :=
  let kept : Rat := c.errors.foldl (fun (a : Rat) e => a + ((e.2.1 * e.2.1 : Int) : Rat) / (e.2.2 : Rat)) 0
  roundAway (sqrtRat (((c.squares : Rat) - kept) / (c.samples : Rat)))

/-- Mean speed in BVAL units per second, and mean die temperature, of a capture. -/
def Capture.meanSpeed (c : Capture) : Int := roundAway (((c.run.natAbs * sec : Int) : Rat) / ((c.lastT - c.firstT : Int) : Rat))
def Capture.meanTemp (c : Capture) : Int := roundAway ((c.temps : Rat) / (c.samples : Rat))

/-- R45: the capture completes and writes the calibration objects. -/
def Dev.calCaptureDone (d : Dev) (b : Nat) (at_ : Ticks) : Dev :=
  if !d.captureComplete b at_ then d
  else
    let c := (d.brg b).capture
    let v := c.meanSpeed
    let d1 := ((((d.setOct Od.cal_CAL_TABLE b (padTo 16384 (c.table b (d.cfgN Od.cal_CAL_POINTS b)))).set Od.cal_CAL_RESID b c.resid).set Od.cal_CAL_VLOW b
      (v - v / 10)).set Od.cal_CAL_VHIGH b (v + v / 10))
    let d2 := (d1.set Od.cal_CAL_TEMP b c.meanTemp).set Od.cal_CAL_LOADBIN b d.pwr.bin
    d2.onBrg b (fun x => { x with capture := { x.capture with state := 2 } })

/-- R48: the payload of a BEARING frame, from the fit current at the publication instant. -/
def Dev.bearingPayload (d : Dev) (b : Nat) (t : Ticks) : Bytes :=
  match Dev.fitBy (fun x => x.fitAt t) 17 d b with
  | none => List.replicate 24 0
  | some (f, c, _) =>
    toBe 8 (patternOf 64 (roundAway f.vel)) ++ toBe 8 (patternOf 64 (roundAway f.acc)) ++
      toBe 8 (patternOf 64 (roundAway (f.uncX c 0)))

/-- R48: publication at a whole multiple of PUB_PERIOD. Only the holder of the higher claim publishes. -/
def Dev.bearingPublish (d : Dev) (b : Nat) (instant : Ticks) : Dev :=
  if instant % d.cfg Od.pub_PUB_PERIOD b ≠ 0 || !d.holdsClaim || d.cfg Od.pub_PUB_PERIOD b ≤ 0 then d
  else
    let subs := (List.range 32).filterMap (fun i => d.sesOf (d.cfgAt Od.pub_PUB_SESSION i b).toNat)
    let payload := d.bearingPayload b instant
    let st := d.stamp b instant
    subs.foldl (fun x i =>
      if x.maySend0 i then
        let (n, x1) := x.takeTx i
        x1.sendFrame i 4 0 n payload (some instant) [st]
      else x) d

end Sys2Proof.Machine
end

