-- ==== Sys2Proof/Machine/OapCore.lean ====
section
/-!
DEFINITION. OAP messages: their form, entries, responses, and where a response goes (R258, R261–R267).
-/
namespace Sys2Proof.Machine

/-! ## Messages (R261, R262) -/

/-- The header of an OAP message. -/
structure OapHead where
  version : Nat
  op : Nat
  flags : Nat
  id : Nat
  status : Nat
  count : Nat
  len : Nat
deriving DecidableEq, Repr

def oapHead (m : Bytes) : OapHead :=
  { version := leAt m 0 1, op := leAt m 1 1, flags := leAt m 2 2, id := leAt m 4 4, status := leAt m 8 2, count := leAt m 10 2, len := leAt m 12 4 }

/-- Whether a request is malformed (FORMAT), or of no operation (UNKNOWN_OP); 0 where it is neither (R5, R261, R266). -/
def oapForm (m : Bytes) : Nat :=
  let h := oapHead m
  if m.length < 16 || h.version ≠ 1 || h.flags ≠ 0 || h.status ≠ 0 || h.len + 16 ≠ m.length then 12
  else if h.op = 0 || 7 < h.op then 13
  else 0

/-- An address entry, with the value that follows it in a WRITE (R262, R263). -/
structure OapEntry where
  index : Nat
  sub : Nat
  final : Bool
  inst : Nat
  off : Nat
  len : Nat
  data : Bytes := []
deriving DecidableEq, Repr

def OapEntry.addr (e : OapEntry) : OdAddr := { index := e.index, sub := e.sub, inst := e.inst }

/-- Zero bytes up to a multiple of 4. -/
def pad4 (l : Bytes) : Bytes := l ++ List.replicate ((4 - l.length % 4) % 4) 0

/-- The address entry at the start of a body. -/
def addrEntry (b : Bytes) : Option OapEntry :=
  if b.length < 16 || 2 ≤ leAt b 3 1 || leAt b 6 2 ≠ 0 then none
  else some { index := leAt b 0 2, sub := leAt b 2 1, final := bitOf (leAt b 3 1) 0, inst := leAt b 4 2, off := leAt b 8 4, len := leAt b 12 4 }

/-- The address entries that make up a body. -/
def addrEntriesOf : Nat → Bytes → Option (List OapEntry)
  | 0, b => if b.isEmpty then some [] else none
  | n + 1, b =>
    match addrEntry b, addrEntriesOf n (b.drop 16) with
    | some e, some l => some (e :: l)
    | _, _ => none

/-- The address entries with values that make up the body of a WRITE. -/
def writeEntriesOf : Nat → Bytes → Option (List OapEntry)
  | 0, b => if b.isEmpty then some [] else none
  | n + 1, b =>
    match addrEntry b with
    | none => none
    | some e =>
      let room := (e.len + 3) / 4 * 4
      if b.length < 16 + room || !allZero (sliceB b (16 + e.len) (room - e.len)) then none
      else
        match writeEntriesOf n (b.drop (16 + room)) with
        | some l => some ({ e with data := sliceB b 16 e.len } :: l)
        | none => none

/-- What follows the address entry of a WRITE_BLOCK: one entry for each subindex. -/
def blockEntriesOf (a : OapEntry) : Nat → Bytes → Option (List OapEntry)
  | 0, b => if b.isEmpty then some [] else none
  | n + 1, b =>
    let k := leAt b 4 4
    let room := (k + 3) / 4 * 4
    if b.length < 8 + room || leAt b 1 3 ≠ 0 || !allZero (sliceB b (8 + k) (room - k)) then none
    else
      match blockEntriesOf a n (b.drop (8 + room)) with
      | some l => some ({ a with sub := leAt b 0 1, len := k, data := sliceB b 8 k } :: l)
      | none => none

/-! ## Responses (R261, R263, R265) -/

/-- What a response carries after its header. -/
structure OapReply where
  status : Nat
  count : Nat := 0
  body : Bytes := []
  cut : Bool := false
deriving DecidableEq, Repr

/-- A response of entries to a request: those that fit, and PARTIAL where some do not (R261). -/
def fitEntries : Nat → List Bytes → List Bytes × Bool
  | _, [] => ([], false)
  | room, e :: t =>
    if e.length ≤ room then
      let (l, p) := fitEntries (room - e.length) t
      (e :: l, p)
    else ([], true)

/-- The response of entries under an overall status. -/
def oapEntries (room status : Nat) (l : List Bytes) : OapReply :=
  let (kept, p) := fitEntries room l
  { status := status, count := kept.length, body := kept.flatten, cut := p }

/-- The response of one entry that holds a status alone. -/
def oapOne (status : Nat) : OapReply := { status := status, count := 1, body := toLe 2 status ++ [0, 0] }

/-- A message of the device. -/
def oapMessage (op id : Nat) (r : OapReply) : Bytes :=
  [1, BitVec.ofNat 8 op] ++ toLe 2 (b2n r.cut) ++ toLe 4 id ++ toLe 2 r.status ++ toLe 2 r.count ++ toLe 4 r.body.length ++ r.body

/-- Bytes that a requester's carrier leaves for a body: 16 KiB in all over the mailbox; over a session its port's MTU less the
frame overhead and, under a UDP encapsulation, the IP and UDP headers (R167, R181, R261). -/
def Dev.oapRoom (d : Dev) (req : Nat) : Nat :=
  if req < 16384 then
    let p := d.cfgN Od.ses_PORT req
    let ip := if d.cfg Od.prt_ENCAP p = 1 then 28 else if d.cfg Od.prt_ENCAP p = 2 then 48 else 0
    d.cfgN Od.prt_MTU p - 36 - ip - 16
  else 16384 - 16

/-- A response or a NOTIFY goes to its requester: into the mailbox, where its request still waits, or in a MGMT frame. -/
def Dev.oapSend (d : Dev) (req : Nat) (m : Bytes) : Dev :=
  if req < 16384 then d.send0 req 10 0 m
  else if req = mailboxReq && d.hif.mbox.busy then { d with hif.mbox := { d.hif.mbox with answer := some m } }
  else d

/-- R265: keep a response; the last 64 of each session and of the mailbox are kept. -/
def Dev.keepResponse (d : Dev) (req id op : Nat) (m : Bytes) : Dev :=
  if mailboxReq < req then d
  else
    let mine := d.obj.responses.filter (fun k => k.requester == req && k.reqId ≠ id)
    let rest := d.obj.responses.filter (fun k => k.requester ≠ req)
    { d with obj.responses := ({ requester := req, reqId := id, op := op, message := m } :: mine.take 63) ++ rest }

/-- A request is answered. -/
def Dev.respond (d : Dev) (req op id : Nat) (r : OapReply) : Dev :=
  let m := oapMessage (op + 0x80) id r
  (d.keepResponse req id op m).oapSend req m

/-- The stored response of a repeated request (R265). -/
def Dev.keptResponse (d : Dev) (req id op : Nat) : Option Bytes :=
  (d.obj.responses.find? (fun k => k.requester == req && k.reqId == id && k.op == op)).map (fun k => k.message)

/-- What a requester leaves when its session is over: shadows, subscriptions and kept responses end (R264, R265, R267). -/
def Dev.endRequesters (d : Dev) : Dev :=
  let here (req : Nat) : Bool := decide (16384 ≤ req) || (d.ses req).state.live
  { d with obj := { d.obj with shadows := d.obj.shadows.filter (fun x => here x.requester), subs := d.obj.subs.filter (fun x => here x.requester),
                               responses := d.obj.responses.filter (fun x => here x.requester) } }

/-! ## Principals (R16, R258) -/

/-- R482: the life-cycle states that grant the SV role. -/
def LcState.service (s : LcState) : Bool :=
  match s with
  | .blank | .testUnlocked | .diagnostic => true
  | _ => false

/-- R258: the role of a session: that of the principal entry which its partner's leaf certificate matches. -/
def Dev.sessionRole (d : Dev) (i : Nat) : Role :=
  let x := d.ses i
  let leaf := sha256 (Config.chainLeaf x.peerCert)
  if x.state ≠ .opened || d.cfg Od.ses_ROLE i ≠ 0 || x.peerCert.isEmpty then .none
  else
    match (List.range 256).find? (fun n => d.cfg Od.prn_ROLE n ≠ 0 && d.oct Od.prn_CERT_HASH n == leaf) with
    | none => .none
    | some n =>
      let r := Role.ofCode (d.cfg Od.prn_ROLE n)
      if r = .sv && !d.cry.lcy.state.service then .none else r

/-- The role of a requester: the mailbox carries MAILBOX_ROLE, a task its ROLE (R258, R374). -/
def Dev.requesterRole (d : Dev) (req : Nat) : Role :=
  if req < 16384 then d.sessionRole req
  else if req = mailboxReq then Role.ofCode (d.cfg Od.mbx_MAILBOX_ROLE 0)
  else Role.ofCode (d.cfg Od.tsk_ROLE (req - mailboxReq - 1))

end Sys2Proof.Machine
end

