-- ==== Sys2Proof/Machine/LaunchSys.lean ====
section
/-!
DEFINITION. Commands of the launch table and the pin stage: commit points, the sense path, releases and cancels, pin enabling,
background recalibration, the entry snapshot, and the overlay messages (R70–R75, R90–R95, R100–R103).
-/
namespace Sys2Proof.Machine

/-! ## Commit points -/

/-- R47, R78: the second instant of a pulse reaches its commit point; a late one ends the pulse at once. -/
def Dev.commitPulse (d : Dev) (n h : Nat) : Dev :=
  if !d.commits then d else
  d.onPin n (fun p => { p with ends := p.ends.map (fun x =>
    match x.at_ with
    | some a =>
      if x.handle == h && !x.committed && decide (a - d.horizon x.brg + d.brgDelay x.brg ≤ d.now) then
        { x with committed := true, at_ := some (clampEnd x.start (if a < d.now then d.now else a)) }
      else x
    | none => x) })

/-- R94 step 2: a participant's copy of another chip's overlay entry reaches its commit point. -/
def Dev.commitPart (d : Dev) (chip h : Nat) : Dev :=
  match d.ovlPart chip h with
  | none => d
  | some p =>
    match p.pred with
    | none => d
    | some q => if !p.answered && d.commits && decide (d.commitPoint p.image q ≤ d.now) && chip ≠ d.fry.flo.ownId then d.answerPart chip h q.at_ else d

/-- R71: something reaches its commit point. -/
def Dev.launchCommit (d : Dev) (r : CommitRef) : Dev :=
  match r with
  | .entry h => (d.maybeCommit h).runDue
  | .pulse n h => d.commitPulse n h
  | .part c h => d.commitPart c h

/-- R70, R83: the launched frame of a committed entry is built and sealed, 400 ns before its instant or at commit. -/
def Dev.frameSeal (d : Dev) (h : Nat) : Dev :=
  match d.entry h with
  | some e =>
    if e.state = .committed && e.image.isFrame && !e.sealed && decide (e.instant - 400 * ns ≤ d.now) then
      d.setEntry h { e with sealed := true, sealClaim := d.fry.twin.claim }
    else d
  | none => d

/-- R71, R86: LATE_TOL passes for an entry that waits for a sample, or for work that a cause still blocks. -/
def Dev.lateTolPassed (d : Dev) (h : Nat) : Dev :=
  match d.entry h with
  | none => d
  | some e =>
    if d.now ≤ e.instant + e.image.lateTol then d
    else if e.state = .atSample then (d.late h).runDue
    else if e.blocked && !e.image.isPin && !(e.image.isFrame && d.flt.hold) &&
        (!bitOf e.flags flLate || (bitOf e.flags flReleased && e.image.late = .hold)) then
      match e.image.late with
      | .launch => (d.bump Od.lch_LATE_COUNT 0).setEntry h (e.flag flLate)
      | _ => d.late h
    else d

/-! ## Release and cancel (R74, R75) -/

/-- R74: a HELD entry acts at once. The scheduled instant of a posting that is released is the release (log entry 137). -/
def Dev.releaseEntry (d : Dev) (h : Nat) : Dev :=
  match d.entry h with
  | none => d
  | some e =>
    if (d.item e.item).any d.held then d.emit (.writeStatus 9)
    else if e.state ≠ .held then d
    else
      let e1 := (e.flag flLate).flag flReleased
      if e.image.isOverlay then d.relaunchOverlay h e1
      else (d.commitAt h { e1 with committedAt := d.now } d.now e.unc).runDue

/-- R74, R75: an uncommitted or held entry ends CANCELLED. -/
def Dev.cancelEntry (d : Dev) (h : Nat) : Dev :=
  match d.entry h with
  | none => d
  | some e =>
    if (d.item e.item).any d.held then d.emit (.writeStatus 9)
    else if e.state.isCommitted then d else (d.delPart d.fry.flo.ownId h).endEntry h .cancelled 0x2E

/-! ## Pins (R90–R92, R648) -/

/-- The entries of a pin. -/
def Dev.pinEntries (d : Dev) (n : Nat) : List (Nat × Entry) :=
  d.lch.entries.filter (fun e => !e.2.standbyDone && (match e.2.image.target with
    | .pin m _ _ _ => m == n
    | _ => false))

/-- R90: a pin as it is enabled from OFF. -/
def Pin.idle (p : Pin) (level : Bool) : Pin :=
  { p with state := .on, base := level, pulses := 0, ends := [], frozen := none, idleDue := false }

/-- R90: ENABLE is written ON. Under hold outputs the pin changes at the release (R648). -/
def Dev.pinEnable (d : Dev) (n : Nat) : Dev :=
  let p := d.pin n
  if !d.admitsWork then d.emit (.writeStatus 9)
  else match p.state with
  | .off =>
    if d.flt.hold then d.setPin n { p with state := .on, ends := [], frozen := some .highZ, idleDue := true }
    else d.drivePins (d.setPin n (p.idle (d.cfgB Od.pin_IDLE_LEVEL n)))
  | _ => d.setPin n { p with state := .on }

/-- R90: a write of ON, which the object keeps where it is admitted. -/
def Dev.pinEnableWrite (d : Dev) (n : Nat) : Dev := if d.admitsWork then (d.set Od.pin_ENABLE n 1).pinEnable n else d.pinEnable n

/-- R90: ENABLE is written OFF. Restored entries under RESTORE_HOLD stay as they are (R145). -/
def Dev.pinDisable (d : Dev) (n : Nat) : Dev :=
  let p := d.pin n
  match p.state with
  | .off => d
  | _ =>
    if d.cfg Od.pin_DISABLE_MODE n = 0 then d.setPin n { p with state := .draining }
    else
      ((d.pinEntries n).filter (fun e => !e.2.state.isCommitted && !(d.item e.2.item).any d.held)).foldl (fun x e => x.endEntry e.1 .cancelled 0x2F)
        (d.setPin n { p with state := .cancelling })

/-- R90, R648: a disabled pin with no entry and no pulse end left enters OFF. -/
def Dev.pinDrainDone (d : Dev) (n : Nat) : Dev :=
  let p := d.pin n
  if (p.state = .draining || p.state = .cancelling) && (d.pinEntries n).isEmpty && p.ends.isEmpty then
    d.drivePins (d.setPin n { p with state := .off, frozen := none, idleDue := false })
  else d

/-- R92: whether an edge of a pin is due within a time. -/
def Dev.edgeDue (d : Dev) (n : Nat) (within : Ticks) : Bool :=
  let p := d.pin n
  !p.ends.isEmpty || (d.pinEntries n).any (fun e =>
    match e.2.state with
    | .atSample => true
    | .committed => decide (e.2.instant ≤ d.now + within)
    | .predicted => match e.2.pred with
      | some q => decide (q.at_ ≤ d.now + within)
      | none => false
    | _ => false)

/-- R92: a running measurement is abandoned once an edge of its pin is due within 2 µs. -/
def Dev.abandonRecals (d : Dev) : Dev :=
  if d.lch.pins.all (fun e => e.2.recal.isNone) then d
  else { d with lch.pins := d.lch.pins.mapVals (fun n p => if p.recal.isSome && d.edgeDue n (2 * us) then { p with recal := none } else p) }

/-- R92: a replica measurement starts on an idle pin. -/
def Dev.pinRecalCheck (d : Dev) (n : Nat) : Dev :=
  let p := d.pin n
  let idle := match p.lastEdge with
    | some t => decide (t + 100 * us ≤ d.now)
    | none => true
  if p.state ≠ .off && d.cfgB Od.pcl_RECAL_ENABLE n && idle && !d.edgeDue n (20 * us) then d.setPin n { p with recal := some d.now }
  else d

/-- R92: a completed measurement is written into the current bin; one that an edge overtook is abandoned. -/
def Dev.pinRecalDone (d : Dev) (n : Nat) (rise fall temp : Int) : Dev :=
  let p := d.pin n
  match p.recal with
  | none => d
  | some s =>
    let moved := match p.lastEdge with
      | some t => decide (s < t)
      | none => false
    let d1 := d.setPin n { p with recal := none }
    if moved || d.edgeDue n (2 * us) then d1
    else
      let b := d.pwr.bin
      (((d1.setAt Od.pcl_RISE b n rise).setAt Od.pcl_FALL b n fall).setAt Od.pcl_BIN_TEMP b n temp).set Od.pcl_VALID n
        (setBit (d.cfgN Od.pcl_VALID n) b)

/-- R91: the sense result of a pin's oldest outstanding edge: the measured instant, or none. -/
def Dev.pinSense (d : Dev) (n : Nat) (measured : Option Ticks) : Dev :=
  let p := d.pin n
  match p.sense with
  | [] => d
  | w :: rest =>
    let d1 := d.setPin n { p with sense := rest }
    let seen := match measured with
      | some m => decide (m - w.sched ≤ 10 * ns) && decide (w.sched - m ≤ 10 * ns)
      | none => false
    match seen, measured with
    | true, some m =>
      let dev := m - w.sched
      let mag : Int := if dev < 0 then -dev else dev
      let d2 : Dev := match w.handle with
        | some h => d1.onEntry h (fun e => if e.standbyDone then { e with seen := some m } else e)
        | none => d1
      if !d.cfgB Od.pin_SENSE_ENABLE n || !d.holdsClaim then d2
      else
        let d3 := (d2.set Od.pst_LAST_DEV n dev).set Od.pst_MAX_ABS_DEV n (max (d.cfg Od.pst_MAX_ABS_DEV n) mag)
        let big := decide (d.cfg Od.pin_SENSE_LIMIT n < mag)
        let d4 : Dev := if big then
            let d5 := (d3.bump Od.pst_DEVIATIONS n).raise 16 0xC8 n [dev]
            match w.handle, w.isEnd with
            | some h, false => d5.onEntry h (fun e => e.flag flSense)
            | _, _ => d5
          else d3
        match w.handle, w.isEnd with
        | some h, false => match d4.entry h with
          | some e => if e.senseDue then d4.confirmEntry h else d4
          | none => d4
        | _, _ => d4
    | _, _ =>
      if !d.cfgB Od.pin_SENSE_ENABLE n || !d.holdsClaim then d1
      else
        let d2 := (d1.bump Od.pst_MISSES n).raise 16 0xC9 n
        match w.handle, w.isEnd with
        | some h, false => match d2.entry h with
          | some e => if e.senseDue then d2.endEntry h .failed 0x2D else d2
          | none => d2
        | _, _ => d2

/-- R100–R103: a coherent snapshot of an entry. -/
def Dev.entrySel (d : Dev) (h : Nat) : Dev :=
  let snap : EntrySnap := match d.entry h with
    | none => {}
    | some e =>
      let (t, u) : Ticks × Ticks := match e.state, e.pred with
        | .predicted, some p => (p.at_, d.commitUnc e.image p)
        | .waiting, _ => (0, 0)
        | .unarmed, _ => (0, 0)
        | .held, _ => (0, e.unc)
        | _, _ => (e.instant, e.unc)
      { state := e.state.code, flags := e.flags, instant := t, unc := u }
  { d with lch.snap := snap }

/-! ## Overlay messages (R94, R95) -/

/-- R94 step 1: a PREPARE reaches this chip; its flotilla's master forwards it. -/
def Dev.overlayPrepare (d : Dev) (chip h : Nat) (i0 : EntryImage) : Dev :=
  let i := d.resolveImage i0
  let d1 := d.joinExchange chip h i (d.predictImage i)
  if d.isMaster then d1.openExchange chip h i else d1

/-- R94: the instant that an exchange is about: what this chip committed, else the first READY. -/
def Dev.exchangeInstant (d : Dev) (x : OvlExchange) : Option Ticks :=
  match (d.ovlPart x.chip x.handle).bind (fun p => p.l) with
  | some l => some l
  | none => x.answers.findSome? (fun a => match a.2 with
    | .ready l => some l
    | .refuse => none)

/-- R94 step 3, R95: what the answers decide. -/
def OvlExchange.verdict (x : OvlExchange) (l : Ticks) : OvlDecision :=
  if x.answers.any (fun a => decide (a.2 = .refuse)) then .abortRefused
  else if x.members.all (fun m => x.answers.any (fun a => a.1 == m && decide (a.2 = .ready l))) then .commit
  else .abortMissing

/-- R272: what is decided about a chart switch; who asked for it is answered. -/
def Dev.switchDecided (d : Dev) (p : OvlPart) (dec : OvlDecision) : Dev :=
  let d1 := d.delPart p.chip p.handle
  match d.obj.switch with
  | none => d1
  | some c =>
    let tell (y : Dev) (status : Nat) : Dev := match c.asker with
      | some (req, id) => y.respond req 6 id (oapOne status)
      | none => y
    match dec, p.l with
    | .commit, some l =>
      let d2 := tell { d1 with obj.switch := some { c with instant := l, committed := true, asker := none } } 0
      if l < d.now then d2.raise 23 0x122 0 [(p.handle : Int)] else d2
    | .commit, none => d
    | _, _ => tell { d1 with obj.switch := none } 22

/-- R94 step 4: the master of the twin's flotilla hands a decision on to its own chips. -/
def Dev.passDecision (d : Dev) (chip h : Nat) (dec : OvlDecision) : Dev :=
  match d.lch.masterEx.find? (fun x => x.chip == chip && x.handle == h && decide (16 ≤ chip)) with
  | none => d
  | some x =>
    (x.members.filter (fun m => m ≠ d.fry.flo.ownId)).foldl (fun e m => e.sendOvl m (.decide chip h dec))
      { d with lch.masterEx := d.lch.masterEx.filter (fun y => !(y.chip == chip && y.handle == h)) }

/-- R94 step 4, R95: a decision reaches this chip. -/
def Dev.decisionReceive (d0 : Dev) (chip h : Nat) (dec : OvlDecision) : Dev :=
  let d := d0.passDecision chip h dec
  match d.ovlPart chip h with
  | none => d
  | some p =>
    let own := chip = d.fry.flo.ownId && !d.isStandby
    if (match p.image.target with
      | .overlay _ 0 _ => true
      | _ => false) then d.switchDecided p dec
    else
    match dec with
    | .commit =>
      match p.l with
      | none => d
      | some l =>
        if l < d.now then (d.switchPart p true).raise 23 0x122 0 [(h : Int)]
        else (d.onPart chip h (fun q => { q with decision := some .commit })).runDue
    | .abortRefused =>
      let d1 := d.delPart chip h
      if own then d1.endEntry h .failed 0x2B else d1
    | .abortMissing =>
      let d1 := d.delPart chip h
      if own && !(d.entry h).any (fun e => decide (e.state = .unarmed)) then d1.late h else d1

/-- R94 step 3: the master decides, from L - OVL_DECIDE on. -/
def Dev.overlayDecide (d : Dev) (chip h : Nat) : Dev :=
  match d.lch.masterEx.find? (fun x => x.chip == chip && x.handle == h && x.decided.isNone) with
  | none => d
  | some x =>
    match d.exchangeInstant x with
    | none => d
    | some l =>
      if !d.isMaster || decide (16 ≤ chip) || decide (d.now < l - d.cfg Od.lch_OVL_DECIDE 0) then d
      else
        let v := x.verdict l
        let d1 := { d with lch.masterEx := d.lch.masterEx.filter (fun y => !(y.chip == chip && y.handle == h)) }
        let d2 := (x.members.filter (fun m => m ≠ d.fry.flo.ownId)).foldl (fun e m => e.sendOvl m (.decide chip h v)) d1
        d2.decisionReceive chip h v

end Sys2Proof.Machine
end

