-- ==== Sys2Proof/Machine/Admit.lean ====
section
/-!
DEFINITION. Launch entry images, the checks at creation, and the admission and acceptance of every kind of item
(R57–R66, R82, R85, R87, R123, R128, R131).
-/
namespace Sys2Proof.Machine

/-! ## Entry images (R62–R65) -/

/-- TARGET_PARAM of an image (R65); none for an undefined code or a non-zero reserved field. -/
def decodeTarget (raw : Bytes) (kind : Nat) : Option Target :=
  let b20 := leAt raw 20 1
  let w := leAt raw 24 4
  match kind with
  | 0 =>
    let act : PinAct := match bitsOf b20 6 5 with
      | 0 => .set
      | 1 => .clear
      | 2 => .toggle
      | _ => .pulse
    if leAt raw 21 3 = 0 && (act = .pulse || w = 0) then some (.pin (bitsOf b20 4 0) act (bitOf b20 7) w) else none
  | 1 =>
    if leAt raw 23 1 = 0 && decide (leAt raw 24 2 ≤ 4095) then some (.frame (leAt raw 20 3) (leAt raw 24 2) (leAt raw 26 2)) else none
  | 2 => if leAt raw 22 2 = 0 && decide (leAt raw 20 2 < 16384) then some (.post (leAt raw 20 2) w) else none
  | 3 =>
    let set := leAt raw 20 2
    let layer := leAt raw 22 1
    if leAt raw 23 1 = 0 && decide (1 ≤ layer ∧ layer ≤ 3) && (set ≠ 0 || w = 0) then some (.overlay set layer (beAt raw 24 4)) else none
  | 4 =>
    let v := leAt raw 20 4
    if bitsOf v 30 17 = 0 && w = 0 then some (.arm (bitsOf v 16 0) (bitOf v 31)) else none
  | _ => none

/-- R62, R63: decode an entry image; none answers BAD_FORMAT. -/
def decodeImage (raw : Bytes) : Option EntryImage :=
  let c := leAt raw 0 4
  let dir? : Option Dir := match bitsOf c 5 4 with
    | 0 => some .rise
    | 1 => some .fall
    | 2 => some .either
    | _ => none
  let late? : Option LatePol := match bitsOf c 14 13 with
    | 0 => some .launch
    | 1 => some .drop
    | 2 => some .hold
    | _ => none
  let unc? : Option UncPol := match bitsOf c 16 15 with
    | 0 => some .flagged
    | 1 => some .holdForEdge
    | 2 => some .drop
    | _ => none
  let acq? : Option AcqPol := match bitsOf c 18 17 with
    | 0 => some .hold
    | 1 => some .edge
    | 2 => some .reject
    | _ => none
  let bv := signedOf 64 (leAt raw 4 8)
  let trig? : Option (Trig × Int) := match bitsOf c 3 0 with
    | 1 => if bitsOf c 9 4 = 0 then (timeOfLe (sliceB raw 4 12)).map (fun t => (.time, t)) else none
    | 2 => if leAt raw 12 4 = 0 then some (.bearing, bv) else none
    | 3 => if leAt raw 12 4 = 0 && decide (0 ≤ bv) then some (.bearingN, bv) else none
    | _ => none
  let unit : Ticks := if bitOf c 21 then us else ns
  match trig?, dir?, late?, unc?, acq?, decodeTarget raw (bitsOf c 12 10) with
  | some (trig, t), some dir, some late, some unc, some acq, some target =>
    if bitsOf c 31 22 = 0 && raw.length = 32 then
      some { trig := trig, dir := dir, brg := bitsOf c 9 6, target := target, late := late, unc := unc, acq := acq,
             tte := bitOf c 19, armed := bitOf c 20, trigger := t, early := leAt raw 16 2 * unit, lateTol := leAt raw 18 2 * unit }
    else none
  | _, _, _, _, _, _ => none

/-! ## Checks at creation (R60, R64, R85, R87) -/

/-- R64: a combination that the layout rules do not allow. A TIME trigger names no Bearing whose type or TRACK_TO_EDGE could be
tested: TTE and ACQ EDGE are accepted with it, and do nothing (log entry 138). In a joined BOARD twin a shared Bearing is of TYPE FERRY on the
other unit (R85). -/
def Dev.policyBroken (d : Dev) (i : EntryImage) : Bool :=
  let ferry := d.brgType i.brg = 5 || (d.fry.twin.joined && d.cfg Od.twn_TWIN_MODE 0 = 1 && d.cfgB Od.pub_PUB_FERRY i.brg)
  let armTarget := match i.target with
    | .arm .. => true
    | _ => false
  let bearingPulse := match i.target with
    | .pin _ .pulse true _ => true
    | _ => false
  (i.late = .hold && (i.isPin || i.isFrame || armTarget)) ||
  (i.trig = .bearingN && i.dir = .either) ||
  (i.tte && (!i.isPin || (i.onBearing && (!d.cfgB Od.brg_TRACK_TO_EDGE i.brg || ferry)))) ||
  (i.acq = .edge && i.onBearing && !d.isQuad i.brg) ||
  (i.trig = .time && bearingPulse)

/-- R82, R209: the session's ROLE is LAUNCH_ONLY. -/
def Dev.launchOnly (d : Dev) (sid : Nat) : Bool :=
  match d.sesOf sid with
  | some i => decide (d.cfg Od.ses_ROLE i = 1)
  | none => false

/-- R85: in a twin, a FRAME or OVERLAY entry names a Bearing that both units share: a NETWORK Bearing in a twin on two boards, one
that is local on one unit and FERRY on the other in a twin on one board. -/
def Dev.sharedEnough (d : Dev) (i : EntryImage) : Bool :=
  if d.cfg Od.twn_TWIN_MODE 0 = 0 || !i.onBearing || !(i.isFrame || i.isOverlay) then true
  else
    if d.cfg Od.twn_TWIN_MODE 0 = 2 then decide (d.brgType i.brg = 4)
    else d.brgShared i.brg && !d.isVirtual i.brg && decide (d.brgType i.brg ≠ 4)

/-- The reason code with which an entry is rejected at creation, in the order of the model (log entry 22). -/
def Dev.entryReason (d : Dev) (i : EntryImage) : Option Nat :=
  let x := d.brg i.brg
  if d.policyBroken i then some 0x26
  else if i.onBearing && (d.brgType i.brg = 0 || x.state = .off || x.draining) then some 0x24
  else
    let target : Option Nat := match i.target with
      | .pin n _ _ _ => if d.cfg Od.pin_MODE n = 0 || (d.pin n).state ≠ .on then some 0x25 else none
      | .frame s _ _ =>
        match d.sesOf s with
        | none => some 0x2A
        | some k => if ((d.ses k).state = .opened || (d.ses k).state = .stalled) && d.launchOnly s then none else some 0x2A
      | .overlay .. => if d.layerPermit i then none else some 0x28
      | _ => none
    match target with
    | some r => some r
    | none =>
      if !d.sharedEnough i then some 0x29
      else if i.onBearing && i.acq = .reject && i.armed && d.brgState i.brg = .acquiring then some 0x22
      else none

/-! ## Handles and entries (R57, R58) -/

/-- A handle is in use by an entry, or kept for an item that is not accepted yet. -/
def Dev.handleTaken (d : Dev) (h : Nat) : Bool :=
  d.lch.entries.has h || d.que.man.items.any (fun e => e.2.kind == .launchEntry && e.2.unacked && e.2.handle == h)

/-- R58: a free handle in a slice, or in the lowest slice that has one. -/
def Dev.freeHandle (d : Dev) (slice : Nat) : Option Nat :=
  match firstFree d.handleTaken 8192 (slice % 16 * 8192) with
  | some h => some h
  | none => firstFree d.handleTaken 131072 0

/-- Create the entry of an accepted LAUNCH_ENTRY item, or reject the item (R57, R58, R60). -/
def Dev.createEntry (d : Dev) (item : Nat) : Dev :=
  match d.item item with
  | none => d
  | some x =>
    match decodeImage x.body with
    | none => d.endItem item .rejected 0x23
    | some i =>
      match d.entryReason i with
      | some r => d.endItem item .rejected r
      | none =>
        if 131072 ≤ x.handle || d.lch.entries.has x.handle then d.endItem item .rejected 0x27
        else
          let e : Entry := { item := item, image := i, raw := x.body, state := if i.armed then .waiting else .unarmed }
          let d1 := d.setEntry x.handle e
          if i.armed then d1.armEntry x.handle else d1

/-! ## Admission and acceptance (R123, R128, R131) -/

/-- R77, R130: the posting of a launch entry is accepted: the entry is complete. -/
def Dev.postAccepted (d : Dev) (h handle : Nat) : Dev :=
  match d.entry handle with
  | some e => if e.posting = some h then (d.queueTerminal e.item false).delEntry handle else d
  | none => d

/-- R151: the queue's target is a lane that is disabled with CANCEL. -/
def Dev.laneCancels (d : Dev) (q : Nat) : Bool := decide (d.cfg Od.que_TARGET q = 2) && (d.lan.get {} (d.cfgN Od.que_LANE q)).cancelled

/-- An item's acceptance is complete: acknowledged, and a launch entry created, or the launch entry that posted it complete. -/
def Dev.completeAccept (d : Dev) (h : Nat) : Dev :=
  match d.item h with
  | none => d
  | some x =>
    let d0 := d.ackItem h
    let d1 := if x.kind = .launchPost then d0.postAccepted h x.handle else d0
    if (d1.queue x.queue).state = .cancelling || d1.laneCancels x.queue then
      d1.endItem h .cancelled (if x.kind = .launchEntry then 0x2F else 0x03)
    else if x.kind = .launchEntry then (d1.createEntry h).runDue
    else d1

/-- What admission answers. -/
inductive AdmitAnswer where
  | accepted (h : Nat)
  | refused (r : Nat)
  | waiting
deriving DecidableEq, Repr

/-- R123, R125, R128: take an offer into a queue. Postings that are due come before it; of other offers of one instant the
order is that in which their commands come (log entry 146). -/
def Dev.admitOffer (d0 : Dev) (q : Nat) (o : Offer) : AdmitAnswer × Dev :=
  let d := d0.runDue
  match d.refusal q o with
  | some r => (.refused r, d)
  | none =>
    if !d.mayAdmit q then (.waiting, d)
    else
      let (own, post) := d.cellsWanted q o
      match d.place own post with
      | none => (.refused 0x06, d)
      | some p =>
        let handle := if o.kind = .launchEntry then (d.freeHandle (d.queue q).pier).getD 131072 else o.handle
        let d1 := d.makeItem q { o with handle := handle } p own post
        (.accepted p, if d.fry.twin.role = .active && own ≠ 0 then d1 else d1.completeAccept p)

/-- R117: a queue whose admission waits for completion slots reads STALLED. -/
def Dev.stallQueue (d : Dev) (q : Nat) : Dev :=
  d.onQueue q (fun x => if x.state = .on && !x.slotsFree then { x with state := .stalled } else x)

/-- A descriptor of the submission ring is admitted, refused or left to wait (R113, R117, R123). R117 comes first: a refusal
writes a record too. -/
def Dev.admitHost (d : Dev) (q : Nat) (desc : Bytes) (body : Option Bytes) : Dev :=
  let x := d.queue q
  if x.devPos = x.hostPos || !x.ringValid || d.cfg Od.que_TARGET q = 0 || d.flt.chipSafe then d
  else if !x.slotsFree then d.stallQueue q
  else
    let o0 := decodeOffer .host desc body
    let o := { o0 with fetched := o0.fetched && d.bodyInWindow q desc }
    match d.admitOffer q o with
    | (.accepted _, d1) => d1.onQueue q (fun y => { y with devPos := y.devPos + 1 })
    | (.refused r, d1) => (d1.refuse q o.tag r).onQueue q (fun y => { y with devPos := y.devPos + 1 })
    | (.waiting, d1) => d1.stallQueue q

/-- As `Dev.admitHost`; a work ring in on-chip memory is read there (R159). -/
def Dev.admitNext (d : Dev) (rd : Nat → Nat → Bytes) (q : Nat) (desc : Bytes) (body : Option Bytes) : Dev :=
  let x := d.queue q
  d.admitHost q (if x.workChip then rd (x.workBase + 64 * (x.devPos % 2 ^ x.workLog2)) 64 else desc) body

/-- R128, R131, R230: the standby confirms journal writes up to a count; the acceptances waiting on them are complete, in the
order of their writes. The round trip is that of the newest write confirmed. -/
def Dev.mirrorAck (d : Dev) (n : Nat) : Dev :=
  let t := d.fry.twin
  if t.role ≠ .active || n ≤ t.ackedJournal || t.journal < n then d
  else
    let done := sortBy (fun e => (e.2.journal : Int)) (d.que.man.items.filter (fun e => e.2.unacked && decide (e.2.journal ≤ n)))
    let d1 := { d with fry.twin.ackedJournal := n }.onMan (fun m => { m with unackedAt := m.unackedAt.filter (fun e => decide (n < e.1)) })
    let d2 := match (d.man.unackedAt.filter (fun e => decide (e.1 ≤ n))).getLast? with
      | none => d1
      | some (_, t0) =>
        let rtt := d.now - t0
        let e := d1.set Od.man_REPL_RTT 0 rtt
        if d.cfg Od.man_REPL_RTT_LIMIT 0 < rtt then e.raise 17 0xD9 0 [rtt] else e
    done.foldl (fun x e => x.completeAccept e.1) d2

end Sys2Proof.Machine
end

