-- ==== Sys2Proof/Machine/QueueOps.lean ====
section
/-!
DEFINITION. Doorbells, dispatch, expiry and cancelling of items; opening, closing and replay of queues; the manifest
scrub (R109–R116, R126, R127, R133, R148, R149, R151, R156).
-/
namespace Sys2Proof.Machine

/-- The item of a queue with a sequence. -/
def Dev.findItem (d : Dev) (q seq : Nat) : Option (Nat × Item) :=
  d.que.man.items.find? (fun e => e.2.queue == q && e.2.seq == seq)

/-! ## Doorbells (R113–R116) -/

/-- R116: a bad doorbell is ignored, counted and reported. -/
def Dev.doorbellError (d : Dev) (q : Nat) : Dev := (d.bump Od.qst_DOORBELL_ERRORS q).queueNotice q 0xD0

/-- Whether the work ring is a delivery ring. -/
def Dev.delivers (d : Dev) (q : Nat) : Bool := decide (d.cfg Od.que_TARGET q = 0)

/-- R133: late confirmations of delivered items whose cells are free already. -/
def Dev.lateTaken (d : Dev) (q upTo : Nat) : Dev :=
  let late := (d.queue q).lateAt.filter (fun p => decide (p < upTo))
  if late.isEmpty then d
  else (d.onQueue q (fun x => { x with lateAt := x.lateAt.filter (fun p => decide (upTo ≤ p)) })).bump Od.qst_LATE_CONFIRMS q late.length

/-- R109, R133: software has taken the delivered items below a position. A late confirmation is counted. -/
def Dev.confirmTaken (d : Dev) (q upTo : Nat) : Dev :=
  (d.itemsOf q).foldl (fun x e =>
    match e.2.deliveredAt with
    | none => x
    | some p =>
      if upTo ≤ p then x
      else if e.2.state = .dispatched then (x.onItem e.1 (fun y => { y with deliveredAt := none })).endItem e.1 .confirmed 0
      else if e.2.state = .failed then (x.onItem e.1 (fun y => { y with deliveredAt := none })).bump Od.qst_LATE_CONFIRMS q
      else x) (d.lateTaken q upTo)

/-- DB_SUB (R113, R114, R116). A queue without valid rings holds nothing that a position could name: its doorbells count as
errors (log entry 140). -/
def Dev.dbSub (d : Dev) (q pos : Nat) : Dev :=
  let x := d.queue q
  if !x.ringValid then d.doorbellError q
  else
    match ringAhead x.workLog2 x.hostPos (pos % 2 ^ 17) with
    | none => d.doorbellError q
    | some n =>
      if d.delivers q then
        if x.devPos - x.hostPos < n then d.doorbellError q
        else (d.setQueue q { x with hostPos := x.hostPos + n }).confirmTaken q (x.hostPos + n)
      else if 2 ^ x.workLog2 - (x.hostPos - x.devPos) < n then d.doorbellError q
      else d.setQueue q { x with hostPos := x.hostPos + n }

/-- R133: what a confirmation that comes after the cells of a FAILED item are free can still be known by: its place in the
delivery ring, its session's sequence (log entry 144). -/
def Dev.noteLate (d : Dev) (x : Item) : Dev :=
  if x.state ≠ .failed then d
  else
    let d1 := match x.deliveredAt with
      | some p => d.onQueue x.queue (fun y => { y with lateAt := y.lateAt ++ [p] })
      | none => d
    match x.sff, (if d.cfg Od.que_TARGET x.queue = 1 then d.sesOf (d.cfgN Od.que_SESSION x.queue) else none) with
    | some n, some i => d1.onSes i (fun y => { y with lateSff := y.lateSff ++ [(n, x.queue)] })
    | _, _ => d1

/-- R133: the cells of retired items whose TERMINAL record has been consumed are freed. -/
def Dev.freeRetired (d : Dev) (q upTo : Nat) : Dev :=
  (d.itemsOf q).foldl (fun x e =>
    match e.2.retired, e.2.termPos with
    | true, some p => if p < upTo then (({ x with que.man.items := x.que.man.items.del e.1 }).noteLate e.2).journal e.1 else x
    | _, _ => x) d

/-- DB_CPL (R115–R117, R133, R149, R296): slots and cells are freed, waiting records are written, and posts that waited
for a slot try again. -/
def Dev.dbCpl (d : Dev) (q pos : Nat) : Dev :=
  let x := d.queue q
  if !x.ringValid then d.doorbellError q
  else
    match ringAhead x.cplLog2 x.cplHead (pos % 2 ^ 17) with
    | none => d.doorbellError q
    | some n =>
      if x.cplTail - x.cplHead < n then d.doorbellError q
      else
        let head := x.cplHead + n
        let x1 := { x with cplHead := head,
                           gapOpen := match x.gapOpen with
                             | some (p, g) => if p < head then none else some (p, g)
                             | none => none }
        let d1 := ((d.setQueue q x1).freeRetired q head).pump q
        let y := d1.queue q
        let d2 := if y.state = .stalled && !y.dmaStall && y.slotsFree then d1.setQueue q { y with state := .on } else d1
        d2.retryBlocked

/-! ## Dispatch (R109, R124, R127, R133) -/

/-- R124: no earlier item of the queue still waits to be dispatched. -/
def Dev.queueOrder (d : Dev) (x : Item) : Bool :=
  d.que.man.items.all (fun e => e.2.queue ≠ x.queue || decide (x.seq ≤ e.2.seq) || e.2.state ≠ .accepted)

/-- R127: the convoy's order lets an item go. -/
def Dev.convoyOrder (d : Dev) (x : Item) : Bool :=
  let c := d.cfgN Od.que_CONVOY x.queue
  if 1023 < c then true
  else
    d.que.man.items.all (fun e =>
      d.cfgN Od.que_CONVOY e.2.queue ≠ c || decide (x.cseq ≤ e.2.cseq) ||
        (if d.cfg Od.cvy_MODE c = 0 then e.2.state ≠ .accepted else e.2.state.isEnd))

/-- The body of an item as its consumer receives it (R118): a posting with its handle. -/
def Item.wireBody (x : Item) : Bytes :=
  match x.kind with
  | .launchPost => padTo 16 x.body ++ toLe 4 x.handle ++ List.replicate 12 0
  | _ => x.body

def Item.kindCode (x : Item) : Nat :=
  match x.kind with
  | .command => 1
  | .launchEntry => 2
  | .launchPost => 3

/-- Mark an item DISPATCHED, as one manifest write; a repeated hand-over starts CONFIRM_TIMEOUT afresh (R133). -/
def Dev.markDispatched (d : Dev) (h : Nat) (f : Item → Item) : Dev :=
  match d.item h with
  | none => d
  | some x =>
    let y := f { x with state := .dispatched, dispatchedAt := d.now, resend := false }
    if x.state = .accepted then (d.setItem h y).journal h else d.setItem h y

/-- Write an item into the delivery ring (R109). -/
def Dev.deliverItem (d : Dev) (h : Nat) (x : Item) : Dev :=
  let q := d.queue x.queue
  if q.workFree = 0 then d
  else
    let d1 := (d.setQueue x.queue { q with devPos := q.devPos + 1 }).markDispatched h (fun y => { y with deliveredAt := some q.devPos })
    (d1.emitWork x.queue q.devPos x.kindCode x.tag x.seq x.wireBody (.delivery x.queue q.devPos x.kindCode x.tag x.seq x.wireBody)).signalSource x.queue

/-- Seal and transmit the CMD frame of an item under its sequence (R109, R183, R193). -/
def Dev.sendCmd (d : Dev) (h i seq : Nat) : Dev :=
  match d.item h with
  | none => d
  | some x =>
    let gap := d.cfg Od.ses_RETX_TIME i
    (d.markDispatched h (fun y => { y with sff := some seq, retxAt := d.now + gap, retxGap := gap,
                                           claim := d.fry.twin.claim, keyGen := (d.ses i).genAt seq })).sendFrame i 0 0 seq x.wireBody

/-- Dispatch to a SESSION target (R109, R128, R188, R192, R505, R506). -/
def Dev.dispatchSession (d : Dev) (h : Nat) (x : Item) : Dev :=
  match d.sesOf (d.cfgN Od.que_SESSION x.queue) with
  | none => d
  | some i =>
    if d.flt.safe || d.flt.chipSafe then d.endItem h .failed 0x08
    else if d.flt.hold || !d.maySeal0 i then d
    else
      match x.sff with
      | some seq => if d.flowBlocked i seq (x.state = .dispatched) then d else d.sendCmd h i seq
      | none =>
        if d.flowBlocked i (d.ses i).tx then d
        else
          let (n, d1) := d.takeTx i
          ((d1.onItem h (fun y => { y with sff := some n })).journal h).sendCmd h i n

/-- Dispatch to a LANE target: a free inbox slot of the running lane takes the item (R109, R339). -/
def Dev.dispatchLane (d : Dev) (h : Nat) (x : Item) : Dev :=
  let n := d.cfgN Od.que_LANE x.queue
  let l := d.lan.get {} n
  if !l.runs || l.cancelled || 8 ≤ l.inbox.length then d
  else
    match l.inbox.freeKey 0 8 with
    | none => d
    | some k =>
      let desc := deliveryDesc x.kindCode x.tag x.seq x.wireBody
      let d1 := { d with lan := d.lan.put {} n { l with
        inbox := l.inbox.ins k { item := h, queue := x.queue, seq := x.seq, bytes := desc, turn := l.handed }, handed := l.handed + 1 } }
      (d1.markDispatched h id).emit (.toLane n k desc)

/-- The next item that a queue may dispatch: first those to be handed over again, then the oldest ACCEPTED one. -/
def Dev.nextItem (d : Dev) (q : Nat) : Option (Nat × Item) :=
  let l := d.itemsOf q
  match l.find? (fun e => e.2.resend && e.2.state == .dispatched) with
  | some e => some e
  | none => l.find? (fun e => e.2.state == .accepted)

/-- QUEUE_DISPATCH (R133): the queue's next item goes to its target where its order allows. A launch entry's item is
dispatched by its commit (R59). -/
def Dev.dispatch (d : Dev) (q : Nat) : Dev :=
  let x := d.queue q
  if d.isStandby || d.man.saving || d.man.parked || d.flt.chipSafe || (x.dmaStall && x.state = .stalled) || !x.replay.isEmpty then d
  else
    match d.nextItem q with
    | none => d
    | some (h, it) =>
      if it.kind = .launchEntry || it.unacked || d.held it then d
      else if it.state = .accepted && (match it.expiry with
          | some t => decide (t ≤ d.now)
          | none => false) then d.endItem h .expired 0x01
      else if !it.resend && !(d.queueOrder it && d.convoyOrder it) then d
      else
        match d.cfg Od.que_TARGET q with
        | 0 => if x.isOpen then d.deliverItem h it else d
        | 1 => d.dispatchSession h it
        | 2 => d.dispatchLane h it
        | _ => d

/-! ## Expiry, time-out, cancel (R133) -/

/-- ITEM_EXPIRY. -/
def Dev.expireItem (d : Dev) (q seq : Nat) : Dev :=
  match d.findItem q seq with
  | some (h, x) =>
    match x.expiry with
    | some t => if x.state = .accepted && !x.unacked && decide (t ≤ d.now) && !d.held x && !d.isStandby then d.endItem h .expired 0x01 else d
    | none => d
  | none => d

/-- Free the inbox slot of an item that ended without its lane (R339). -/
def Dev.lapseSlot (d : Dev) (h : Nat) : Dev :=
  { d with lan := d.lan.mapVals (fun _ l =>
      match l.inbox.find? (fun e => e.2.item == h) with
      | some e => { l with inbox := l.inbox.del e.1 }
      | none => l) }

/-- CONFIRM_TIMEOUT: it does not apply to launch items but for a launched CMD frame, whose retransmission ends with it
(R133, R193). -/
def Dev.confirmTimeout (d : Dev) (q seq : Nat) : Dev :=
  match d.findItem q seq with
  | some (h, x) =>
    if x.state ≠ .dispatched || d.now < x.dispatchedAt + d.cfg Od.que_CONFIRM_TIMEOUT q || d.isStandby || d.held x then d
    else if x.kind = .launchEntry then
      match d.entry x.handle with
      | some e => if e.image.isFrame && e.sent then (d.endEntry x.handle .failed 0x2D).retryBlocked else d
      | none => d
    else ((d.lapseSlot h).endItem h .failed 0x06).retryBlocked
  | none => d

/-- Cancel an ACCEPTED item: a launch entry leaves the table (R59, R133). -/
def Dev.cancelItem (d : Dev) (h : Nat) (x : Item) (reason launchReason : Nat) : Dev :=
  if x.kind = .launchEntry then
    match d.entry x.handle with
    | some e => if e.state.isCommitted then d else d.endEntry x.handle .cancelled launchReason
    | none => d.endItem h .cancelled launchReason
  else d.endItem h .cancelled reason

/-- CANCEL_SEQ (R133, R145). The spec gives no answer for a sequence that names no item, or one that has its outcome: the write
changes nothing and is answered as done (log entry 143). -/
def Dev.cancelSeq (d : Dev) (q seq : Nat) : Dev :=
  match d.findItem q seq with
  | some (h, x) =>
    if d.held x then d.emit (.writeStatus 9)
    else if x.state = .accepted && !x.unacked then d.cancelItem h x 0x02 0x2E
    else if x.state = .dispatched then d.bump Od.qst_CANCEL_LATE q
    else d
  | none => d

/-! ## Opening and closing (R109, R112, R126, R148, R151) -/

/-- Members of a convoy, among the queues that name one. -/
def Dev.convoyMembers (d : Dev) (c : Nat) : List Nat := (d.listedInsts Od.que_CONVOY).filter (fun q => d.cfgN Od.que_CONVOY q == c)

/-- R109, R126, R314: the rules that a queue's configuration must meet to open. -/
def Dev.queueConfigOk (d : Dev) (q : Nat) : Bool :=
  let src := d.cfgN Od.que_SOURCES q
  let c := d.cfgN Od.que_CONVOY q
  !(d.delivers q && bitOf src 0) &&
  (d.cfg Od.que_CLASS q ≠ 2 || (src = 0 && d.delivers q)) &&
  (1023 < c || (d.durable q && decide ((d.convoyMembers c).length ≤ 64))) &&
  (d.cfg Od.que_TARGET q ≠ 2 || d.cfg Od.que_LANE q < 128)

/-- R284: the rings of a queue that lie in host memory lie inside its window, the body areas of a delivery ring included. -/
def Dev.queueWindowOk (d : Dev) (q : Nat) : Bool :=
  let x := d.queue q
  let pf := d.pfOf q
  (x.workChip || d.inWindow pf x.workBase ((if d.delivers q then 320 else 64) * 2 ^ x.workLog2)) &&
    (x.cplChip || d.inWindow pf x.cplBase (32 * 2 ^ x.cplLog2))

/-- R148: what a queue replays when it opens: an ACCEPT record of each HOST or LANE item not yet RETIRED, and a TERMINAL
record of each item with an outcome. -/
def Dev.replayOf (d : Dev) (q : Nat) : List WaitRec :=
  (d.itemsOf q).flatMap (fun e =>
    (if !e.2.retired && e.2.source.hasAccept && !e.2.unacked then [{ type := 1, item := some e.1, replay := true }] else []) ++
    (if e.2.state.isEnd then [{ type := 2, item := some e.1, replay := true }] else []))

/-- R148, R149: replay into the rings just opened; DISPATCHED items of a HOST or LANE target are handed over again. -/
def Dev.replayQueue (d : Dev) (q : Nat) : Dev :=
  let again := d.cfg Od.que_TARGET q ≠ 1
  let r := d.replayOf q
  let d1 := (d.itemsOf q).foldl (fun x e => x.setItem e.1 { e.2 with
    termPos := none, deliveredAt := none, resend := e.2.resend || (again && e.2.state == .dispatched && e.2.kind != .launchEntry) }) d
  let d2 := d1.onQueue q (fun x => { x with fresh := false, replay := r, waiting := [], cplReserved := (d.itemsOf q).length })
  d2.pump q

/-- R126: the pier of a queue that opens: that of the members of its convoy that are open already. -/
def Dev.openPier (d : Dev) (q : Nat) : Nat :=
  let c := d.cfgN Od.que_CONVOY q
  if 1023 < c then (d.queue q).pier
  else match (d.convoyMembers c).find? (fun m => m ≠ q && decide ((d.queue m).state ≠ .off)) with
    | some m => (d.queue m).pier
    | none => (d.queue q).pier

/-- R112: open a queue whose rings are valid and whose ENABLE is ON. -/
def Dev.tryOpen (d : Dev) (q : Nat) : Dev :=
  let x := d.queue q
  if x.state = .off && x.ringValid && d.cfgB Od.que_ENABLE q && d.queueConfigOk q && d.admitsWork && !d.flt.chipSafe then
    if !d.queueWindowOk q then d.raise 33 0x129 q
    else
    let d1 := d.setQueue q { x with state := .on, dmaStall := false, pier := d.openPier q }
    if x.fresh then d1.replayQueue q else d1.pump q
  else d

/-- R158: the base of a ring in on-chip memory has 40 bits. -/
def ringBase (chip : Bool) (b : Nat) : Nat := if chip then b % 2 ^ 40 else b

/-- QUE_RING_CFG (R112, R158, R159). Sizes outside 2^4 to 2^16 do not latch (log entry 23). A write that leaves or makes
RING_VALID 0 takes its size and CHIP fields as well (log entry 139). -/
def Dev.ringCfg (d : Dev) (q v : Nat) : Dev :=
  let x := d.queue q
  let w := bitsOf v 4 0
  let c := bitsOf v 12 8
  if bitOf v 31 then
    if x.ringValid || !(decide (4 ≤ w ∧ w ≤ 16) && decide (4 ≤ c ∧ c ≤ 16)) then d
    else
      (d.setQueue q { x with ringValid := true, workLog2 := w, cplLog2 := c, workChip := bitOf v 16, cplChip := bitOf v 17, lateAt := [],
                             workBase := ringBase (bitOf v 16) x.workBase, cplBase := ringBase (bitOf v 17) x.cplBase,
                             hostPos := 0, devPos := 0, cplTail := 0, cplHead := 0, cplReserved := 0, gapOpen := none,
                             fresh := true }).tryOpen q
  else if x.state ≠ .off then d
  else d.setQueue q { x with ringValid := false, workLog2 := w, cplLog2 := c, workChip := bitOf v 16, cplChip := bitOf v 17,
                             workBase := ringBase (bitOf v 16) x.workBase, cplBase := ringBase (bitOf v 17) x.cplBase }

/-- A write of a queue's ENABLE ON: refused with STATE where a rule of R109 or R126 is broken. -/
def Dev.queueEnable (d : Dev) (q : Nat) : Dev :=
  if !d.queueConfigOk q || !d.admitsWork then d.emit (.writeStatus 9)
  else if (d.queue q).ringValid && !d.queueWindowOk q then (d.raise 33 0x129 q).emit (.writeStatus 9)
  else
    let d1 := d.set Od.que_ENABLE q 1
    let x := d1.queue q
    if x.state = .draining || x.state = .cancelling then d1.setQueue q { x with state := .on } else d1.tryOpen q

/-- Whether every accepted item of a queue has finished. -/
def Dev.queueIdle (d : Dev) (q : Nat) : Bool := (d.itemsOf q).all (fun e => e.2.state.isEnd)

/-- Every item's TERMINAL record has been written, unless failed DMA keeps them from the ring. -/
def Queue.written (x : Queue) : Bool := x.dmaStall || (x.replay.isEmpty && x.waiting.isEmpty)

/-- QUEUE_DRAIN_DONE (R151). -/
def Dev.queueDrainDone (d : Dev) (q : Nat) : Dev :=
  let x := d.queue q
  if (x.state = .draining || x.state = .cancelling || (x.state = .stalled && !d.cfgB Od.que_ENABLE q)) && d.queueIdle q && x.written then
    d.setQueue q { x with state := .off, dmaStall := false }
  else d

/-- Cancel the undispatched items of a queue (R151); those that RESTORE_HOLD holds are cancelled at their release (R145). -/
def Dev.cancelQueue (d : Dev) (q : Nat) : Dev :=
  (d.itemsOf q).foldl (fun x e => if e.2.state = .accepted && !e.2.unacked && !d.held e.2 then x.cancelItem e.1 e.2 0x03 0x2F else x)
    (if d.man.restoreHold then d.onQueue q (fun x => { x with cancelAsked := true }) else d)

/-- Apply a disable mode to a queue (R151). A queue that is OFF holds items of before a restart: CANCEL ends them too. -/
def Dev.applyDisable (d : Dev) (q : Nat) (cancel : Bool) : Dev :=
  let x := d.queue q
  if x.state = .off then (if cancel then d.cancelQueue q else d)
  else if cancel then (d.setQueue q { x with state := .cancelling }).cancelQueue q
  else d.setQueue q { x with state := .draining }

/-- A write of a queue's ENABLE OFF (R151). -/
def Dev.queueDisable (d : Dev) (q : Nat) : Dev :=
  (d.set Od.que_ENABLE q 0).applyDisable q (d.cfg Od.que_DISABLE_MODE q = 1)

/-- R300, R151: the queues that target a session or take CMDs from it. -/
def Dev.queuesOfSession (d : Dev) (i : Nat) : List Nat :=
  let sid := d.cfgN Od.ses_SESSION_ID i
  (d.listedInsts Od.que_SESSION).filter (fun q => d.cfgN Od.que_SESSION q == sid && (d.cfg Od.que_TARGET q = 1 || bitOf (d.cfgN Od.que_SOURCES q) 1))

/-! ## The scrub (R156) -/

/-- A launch entry whose item ended under R156 leaves the table unless it is committed. -/
def Dev.dropEntryOf (d : Dev) (x : Item) : Dev :=
  if x.kind = .launchEntry then
    match d.entry x.handle with
    | some e => if e.state.isCommitted then d else d.delEntry x.handle
    | none => d
  else d

/-- R156: a cell of this unit's mirror is fetched from the twin. A mirror that is not joined is filled anew before it counts. -/
def Dev.scrubMirror (d : Dev) (h : Nat) (f : CellFault) : Dev :=
  match d.fry.twin.mirror.find h, f with
  | none, _ => d
  | some _, .corrected => d.fault 0x010 0xFFFF none []
  | some x, .codeInvalid =>
    let d1 := d.raise 17 0xDD x.queue
    if d.fry.twin.joined then d1.bump Od.man_RECORDS_RECOVERED 0 else d1
  | some _, _ => if d.fry.twin.joined then d.bump Od.man_RECORDS_RECOVERED 0 else d

/-- R156: recover one cell from the twin's copy, or apply its consequences. -/
def Dev.scrubCell (d : Dev) (h : Nat) (f : CellFault) : Dev :=
  if d.keepsMirror then d.scrubMirror h f
  else
  match d.item h with
  | none => d
  | some x =>
    match f with
    | .corrected => d.fault 0x010 0xFFFF none []
    | _ =>
      let d0 := if f = .codeInvalid then d.raise 17 0xDD x.queue else d
      if d.fry.twin.joined && decide (d.fry.twin.role = .active) then d0.bump Od.man_RECORDS_RECOVERED 0
      else
        match f with
        | .headLost =>
          let d1 := (({ d0 with que.man.items := d0.que.man.items.del h }).journal h).dropEntryOf x
          (d1.onQueue x.queue (fun y => { y with cplReserved := if x.retired then y.cplReserved else y.cplReserved - 1 })).raise 17 0xDC x.queue
        | .codeInvalid =>
          if x.state.isEnd then
            let d1 := d0.onQueue x.queue (fun y => { y with cplReserved := if x.retired then y.cplReserved + 1 else y.cplReserved })
            (d1.setItem h { x with retired := false, termPos := none }).queueTerminal h true
          else (d0.dropEntryOf x).endItem h .failed 0x09
        | _ => if x.state.isEnd then d0 else (d0.dropEntryOf x).endItem h .failed 0x09

/-- MANIFEST_SCRUB (R156): the faults found in one pass, in cell order. -/
def Dev.scrub (d : Dev) (found : List (Nat × CellFault)) : Dev := found.foldl (fun x e => x.scrubCell e.1 e.2) d

end Sys2Proof.Machine
end

