-- ==== Sys2Proof/Machine/ManOps.lean ====
section
/-!
DEFINITION. The accept gate, the loss of replication, the save on power failure, and the end of a save-area erase
(R132, R138–R146).
-/
namespace Sys2Proof.Machine

/-! ## The accept gate (R139) -/

/-- Whether both conditions of R139 hold. -/
def Manifest.gate (m : Manifest) : Bool := m.hasErased && m.holdupOk

/-- The gate may have closed or opened: ACCEPT_GATE is raised once at each closing. -/
def Dev.noteGate (d : Dev) : Dev :=
  let m := d.man
  if m.gate then d.onMan (fun m => { m with gateClosed := false })
  else if m.gateClosed then d
  else (d.onMan (fun m => { m with gateClosed := true })).raise 17 0xD8 0xFFFF

def Dev.holdupFall (d : Dev) : Dev := (d.onMan (fun m => { m with holdupOk := false })).noteGate

def Dev.holdupRise (d : Dev) : Dev := (d.onMan (fun m => { m with holdupOk := true })).noteGate

/-! ## Replication lost (R132) -/

/-- The active unit continues alone and sends UNJOIN (R132, R234): acceptances that wait for the standby complete with SINGLE. -/
def Dev.unjoin (d : Dev) : Dev :=
  let d0 := d.sendTwin 5 (toBe 4 d.fry.twin.claim ++ [1, 0, 0, 0])
  let d1 := { d0 with fry.twin.role := .activeSingle, fry.twin.joined := false, fry.twin.resyncSent := false, fry.twin.yieldAsked := false }
  let d2 := d1.onMan (fun m => { m with unackedAt := [] })
  let wait := sortBy (fun e => (e.2.journal : Int)) (d2.que.man.items.filter (fun e => e.2.unacked))
  (wait.foldl (fun x e => (x.onItem e.1 (fun y => { y with single := true })).completeAccept e.1) d2).raise 17 0xDA 0xFFFF

/-- REPLICATION_TIMEOUT. -/
def Dev.replicationTimeout (d : Dev) : Dev :=
  match d.man.unackedAt with
  | (_, t) :: _ => if d.fry.twin.role = .active && decide (t + d.cfg Od.twn_DETECT_TIME 0 ≤ d.now) then d.unjoin else d
  | [] => d

/-! ## Saving (R140–R146) -/

/-- The items that a save holds: those of the journal copy (R134, R140); replications in flight are abandoned and their items are
SINGLE. -/
def Dev.toSave (d : Dev) : Tab Item :=
  if d.keepsMirror then d.fry.twin.mirror
  else Tab.mapVals (d.que.man.items.filter (fun e => decide (e.1 < 131072))) (fun _ x =>
    if x.unacked then { x with unacked := false, single := true } else x)

/-- What a save holds of a stream's cells (R205). -/
def Stream.copy (x : Stream) : StreamCopy :=
  { next := x.nextEpoch, sealedEpoch := x.sealedEpoch, lastSeq := x.sealedSeq, chain := x.sealedChain, cert := x.certNo }

/-- The streams of the journal copy, and where their cells lie. -/
def Dev.streamsToSave (d : Dev) : Tab StreamCopy × Tab Nat :=
  if d.keepsMirror then (d.fry.twin.streamCopies, d.fry.twin.mirrorCells)
  else (d.que.man.streamCells.map (fun e => (e.1, (d.net.streams.get {} e.1).copy)), d.que.man.streamCells)

/-- What a save holds of the whole journal copy. -/
def Dev.journalCopy (d : Dev) : SavedArea :=
  { items := d.toSave, streams := d.streamsToSave.1, cells := d.streamsToSave.2,
    journal := if d.isStandby then d.fry.twin.applied else d.fry.twin.journal }

/-- The streams of a save by head cell. -/
def SavedArea.byCell (a : SavedArea) : List (Nat × Stream) :=
  a.cells.map (fun e => (e.2, streamOfCopy (a.streams.get {} e.1)))

/-- The blocks of 16 cells that hold an occupied cell, in block order (R138, R140). -/
def SavedArea.blocks (a : SavedArea) : List Nat :=
  sortBy (fun b => (b : Int)) (dedup ((a.items.flatMap (fun e => [e.1 / 16, (e.1 + e.2.cells - 1) / 16])) ++
    a.cells.flatMap (fun e => [e.2 / 16, (e.2 + 1) / 16])))

/-- R579: the units that hold the 16 cells of a save block: unit j lies in sector 16 × floor(b / 512) + j of the area, whose first
logical sector is 256 or 768 (R578), at offset 32 × (b mod 512). A unit is named by 512 × sector + offset / 32. -/
def unitOf (area b j : Nat) : Nat := 512 * (256 + 512 * area + (16 * (b / 512) + j)) + b % 512

/-- What a save programs into flash: every unit of every block that holds an occupied cell (R138, R140, R579). -/
def SavedArea.units (a : SavedArea) (area : Nat) : List (Nat × Bytes) :=
  a.blocks.flatMap (fun b => (List.range 16).map (fun j => (unitOf area b j, journalCell a.items a.byCell (16 * b + j))))

/-- R140: the CRC-32C of a save, over the programmed blocks in block order. -/
def SavedArea.crc (a : SavedArea) : Nat :=
  (crc32c (a.blocks.flatMap (fun b => (List.range 16).flatMap (fun j => journalCell a.items a.byCell (16 * b + j))))).toNat

/-- R140 step 3: ports stop and pins go to SAFE_LEVEL. -/
def Dev.stopPorts (d : Dev) : Dev :=
  { d with net.ports := d.net.ports.mapVals (fun _ p => { p with up := false, link := false }),
           fry.ports := d.fry.ports.mapVals (fun _ p => if p.state = .off then p else { p with state := .down }),
           hif.linkUp := false }

/-- PWRFAIL_N recognised, or SHUTDOWN written (R140, R145, R146). -/
def Dev.powerFail (d : Dev) : Dev :=
  let m := d.man
  if m.saving || m.parked then d
  else
    let d0 := { d with pwr.save := true, pwr.grants := [], pwr.classGrant := [], pwr.granted := 0 }
    let d1 := d.drivePins ((d0.stopPorts).onMan (fun m => { m with saving := true, saveStart := d.now }))
    if m.restoreHold then d1.onMan (fun m => { m with parked := true })
    else if m.areaA = .erased || m.areaB = .erased then
      let area := if m.areaA = .erased then 0 else 1
      d1.onMan (fun m => { m with saveArea := area, saveNumber := m.saveNumber + 1,
                                  saveLog := .saveBegin (m.saveNumber + 1) area :: m.saveLog })
    else d1.onMan (fun m => { m with parked := true, saveLog := .saveSkipped :: m.saveLog })

/-- Set the state of a save area. -/
def Manifest.setArea (m : Manifest) (area : Nat) (s : AreaState) : Manifest :=
  if area = 0 then { m with areaA := s } else { m with areaB := s }

def Manifest.area (m : Manifest) (area : Nat) : AreaState := if area = 0 then m.areaA else m.areaB

/-- R138: the newest complete save makes an older one STALE. -/
def Manifest.newestSave (m : Manifest) (area : Nat) : Manifest :=
  let other := 1 - area
  (if m.area other = .valid then m.setArea other .stale else m).setArea area .valid

/-- SAVE_COMPLETE (R140 steps 6 and 7): the blocks stand in the area's units. -/
def Dev.saveComplete (d : Dev) : Dev :=
  let m := d.man
  if !m.saving || m.parked then d
  else
    let a := d.journalCopy
    { d.onMan (fun m => { (m.newestSave m.saveArea) with
        saved := m.saved.ins m.saveArea a, parked := true, lastSave := d.now - m.saveStart, acceptedSince := false,
        saveLog := .saveEnd m.saveNumber m.saveArea a.blocks.length a.crc :: m.saveLog }) with
      fls.units := (a.units m.saveArea).foldl (fun t u => t.ins u.1 u.2) d.fls.units }

/-! ## The end of a save-area erase (R144, R145) -/

/-- R145: restored items are released: those whose queue has been disabled with CANCEL meanwhile are cancelled (R151); entries that passed their commit point meanwhile commit now. -/
def Dev.releaseRestored (d : Dev) : Dev :=
  let d1 := d.onMan (fun m => { m with restoreHold := false,
                                       items := m.items.mapVals (fun _ x => { x with restored := false }) })
  let d2 := { d1 with que.queues := d1.que.queues.mapVals (fun _ q => { q with cancelAsked := false }) }
  let d3 := ((d1.que.queues.filter (fun e => e.2.cancelAsked)).map (fun e => e.1)).foldl Dev.cancelQueue d2
  ((d3.lch.entries.map (fun e => e.1)).foldl (fun x h =>
    match x.entry h with
    | some e =>
      if e.state = .waiting && e.image.onBearing && x.brgState e.image.brg = .lost then x.late h else x.maybeCommit h
    | none => x) d3).runDue

/-- SAVE_AREA_ERASE_DONE: an area is ERASED and verified; a restore that waited for it is recorded, and the source area is
erased in turn. -/
def Dev.areaErased (d : Dev) (area : Nat) : Dev :=
  let m := d.man
  if m.area area ≠ .erasing then d
  else
    let d1 := { d.onMan (fun m => { (m.setArea area .erased) with saved := m.saved.del area }) with
      fls.units := d.fls.units.filter (fun u => !(decide (256 + 512 * area ≤ u.1 / 512) && decide (u.1 / 512 < 512 + 512 * area))) }
    let d2 :=
      if m.restoreHold then
        let src := 1 - area
        (d1.onMan (fun m => { (m.setArea src .erasing) with saveLog := .restored :: m.saveLog })).releaseRestored
      else d1
    d2.noteGate

end Sys2Proof.Machine
end

