-- ==== Sys2Proof/Machine/FlashOps.lean ====
section
/-!
DEFINITION. Flash: erases, wear, retirement, scrubbing, customer data and protection regions (R577–R597).
-/
namespace Sys2Proof.Machine

def Dev.onFls (d : Dev) (f : Flash → Flash) : Dev := { d with fls := f d.fls }

/-- R578: the save area that a logical sector lies in. -/
def saveAreaOf (s : Nat) : Option Nat :=
  if 256 ≤ s && s < 512 then some 0 else if 768 ≤ s && s < 1024 then some 1 else none

/-- The last spare of a bank is used. -/
def Dev.noteSpares (d : Dev) (bank : Nat) : Dev := if d.cfg Od.bnk_SPARES_LEFT bank = 0 then d.raise 32 0xA3 bank else d

/-- R585: a sector is retired to an erased spare of its bank; `unit` is the first unit left erased. Without a spare it stays
in service, and every later program or erase of it fails. -/
def Dev.retireSector (d : Dev) (s unit : Nat) : Dev :=
  let b := s / 512
  if d.cfg Od.bnk_SPARES_LEFT b ≤ 0 then d.onFls (fun f => { f with failed := if s ∈ f.failed then f.failed else s :: f.failed })
  else
    (((((d.bump Od.bnk_SPARES_LEFT b (-1)).bump Od.fls_SPARES_LEFT 0 (-1)).bump Od.fls_RETIRED 0).set Od.wea_STATE s 2).raise 32 0xA2 0xFFFF
      [(s : Int), (unit : Int)]).noteSpares b

/-- An erase of a sector is counted (R584, R593, R595). -/
def Dev.countErase (d : Dev) (s pulses : Nat) : Dev :=
  let d1 := ((d.bump Od.wea_CYCLES s).set Od.wea_LAST_PULSES s pulses).bump Od.bnk_ERASES (s / 512)
  let d2 := if d1.cfg Od.wea_MAX_PULSES s < pulses then d1.set Od.wea_MAX_PULSES s pulses else d1
  if d2.cfg Od.bnk_MAX_CYCLES (s / 512) < d2.cfg Od.wea_CYCLES s then d2.set Od.bnk_MAX_CYCLES (s / 512) (d2.cfg Od.wea_CYCLES s) else d2

/-- R584: the pulses of an erase are counted, and show the sector's wear: above 32 it did not verify, and from 26 on it is
worn. A save-area sector that is worn is retired while its bank has a spare. -/
def Dev.eraseWear (d : Dev) (s pulses : Nat) : Dev :=
  let d0 := d.countErase s (min pulses 32)
  if 32 < pulses then d0.retireSector s 0
  else if 26 ≤ pulses && d0.cfg Od.wea_STATE s = 0 then
    let d1 := (d0.set Od.wea_STATE s 1).raise 32 0xA1 0xFFFF [(s : Int), (pulses : Int)]
    if (saveAreaOf s).isSome && 0 < d1.cfg Od.bnk_SPARES_LEFT (s / 512) then d1.retireSector s 0 else d1
  else d0

/-- R583, R584: an erase of a sector has ended after a number of pulses. -/
def Dev.sectorErased (d : Dev) (s pulses : Nat) : Dev :=
  (d.onFls (fun f => { f with half := f.half.filter (fun x => x ≠ s), bad := f.bad.filter (fun x => x / 512 ≠ s), units := f.units.filter (fun u => u.1 / 512 ≠ s) })).eraseWear s pulses

/-- FLASH_ERASE_ROUND_DONE (R580): sectors of one bank, at most one for each plane, each with its pulses. A sector takes part
that is half-erased or lies in a save area that is being erased. -/
def Dev.eraseRound (d : Dev) (bank : Nat) (l : List (Nat × Nat)) : Dev :=
  l.foldl (fun y e =>
    let s := e.1
    let area := match saveAreaOf s with
      | some a => decide (y.man.area a = .erasing)
      | none => false
    if s / 512 = bank && !(s ∈ y.fls.failed) && (area || decide (s ∈ y.fls.half)) then y.sectorErased s e.2 else y) d

/-- R586: a sector is refreshed through a spare. -/
def Dev.refreshSector (d : Dev) (s pulses : Nat) : Dev :=
  if d.cfg Od.bnk_SPARES_LEFT (s / 512) ≤ 0 then d
  else ((d.eraseWear s pulses).bump Od.fls_REFRESHES 0).raise 32 0xA5 0xFFFF [(s : Int)]

/-- What a read finds in one unit (R584, R586, R587). -/
def Dev.scrubUnit (d : Dev) (x : ScrubFind) : Dev :=
  if x.bits = 0 || 2048 ≤ x.sector || 512 ≤ x.unit then d
  else if x.bits ≤ 2 then
    let d1 := ((d.bump Od.fls_CORRECTED 0).bump Od.wea_CORRECTED x.sector).fault 0x014 x.sector none []
    if x.bits = 2 then d1.refreshSector x.sector x.pulses else d1
  else
    ((d.bump Od.fls_UNCORRECTABLE 0).onFls (fun f => { f with bad := (512 * x.sector + x.unit) :: f.bad })).raise 32 0xA4 x.sector
      [(x.sector : Int), (x.unit : Int)]

/-- FLASH_SCRUB (R586): what the scrub finds, and the sectors whose programming is too old, each with the pulses of its
refresh. -/
def Dev.flashScrub (d : Dev) (found : List ScrubFind) (old : List (Nat × Nat)) : Dev :=
  if d.now < d.fls.lastScrub + d.cfg Od.fls_SCRUB_PERIOD 0 * sec then d
  else old.foldl (fun y e => if e.1 < 2048 then y.refreshSector e.1 e.2 else y) (found.foldl (fun y x => y.scrubUnit x) (d.onFls (fun f => { f with lastScrub := d.now })))

/-! ## Customer data (R589, R590) -/

def Dev.passRegion (d : Dev) (r : Nat) : PassRegion := d.fls.regions.get {} r

def Dev.onPass (d : Dev) (r : Nat) (f : PassRegion → PassRegion) : Dev :=
  d.onFls (fun x => { x with regions := x.regions.put {} r (f (d.passRegion r)) })

/-- A region's MODE as it acts: NONE where it is unlocked or has no password. -/
def Dev.lockMode (d : Dev) (r : Nat) : Nat :=
  let x := d.passRegion r
  if x.locked && x.record.isSome then d.cfgN Od.rgn_MODE r else 0

/-- R590: the strictest mode of the regions that cover a customer sector. -/
def Dev.sectorLock (d : Dev) (c : Nat) : Nat :=
  (List.range 64).foldl (fun m r =>
    let first := d.cfgN Od.rgn_FIRST r
    if first ≤ c && c < first + d.cfgN Od.rgn_COUNT r then max m (d.lockMode r) else m) 0

/-- A customer sector that holds images (R589). -/
def Dev.imageSector (d : Dev) (c : Nat) : Bool := decide (c < d.cfgN Od.fls_CUST_IMAGE_SECTORS 0)

/-- Bytes of a customer sector. -/
def Flash.read (f : Flash) (c off n : Nat) : Bytes := (List.range n).map (fun i => f.data.get 0xFF (16384 * c + off + i))

/-- STATE of a customer sector (R596). -/
def Dev.customerState (d : Dev) (c : Nat) : Nat :=
  if d.imageSector c then 2
  else if d.sectorLock c ≠ 0 then 3
  else if d.fls.data.any (fun e => e.1 / 16384 == c) then 1
  else 0

/-- Bytes of a sector of the save areas (R577, R579). -/
def Flash.saved (f : Flash) (s off n : Nat) : Bytes :=
  (List.range n).map (fun i => (f.units.get [] (512 * s + (off + i) / 32)).getD ((off + i) % 32) 0xFF)

/-- The uncorrectable units of a logical sector that a window covers (R587), or the sector half-erased (R583). -/
def Dev.sectorBad (d : Dev) (s off n : Nat) : Bool :=
  decide (s ∈ d.fls.half) || d.fls.bad.any (fun u => u / 512 == s && decide (u % 512 * 32 < off + n) && decide (off < u % 512 * 32 + 32))

/-- The same of a customer sector. -/
def Dev.customerBad (d : Dev) (c off n : Nat) : Bool := d.sectorBad (1472 + c) off n

/-- DATA at FINAL (R589): the answer is an OAP status. `verify` says that every unit verifies; one that does not is retired. -/
def Dev.dataWrite (d : Dev) (c off : Nat) (b : Bytes) (verify : Bool) : Nat × Dev :=
  let cur := d.fls.read c off b.length
  if 576 ≤ c then (3, d)
  else if 16384 < off + b.length then (7, d)
  else if d.imageSector c || d.sectorLock c ≠ 0 || (1472 + c) ∈ d.fls.failed || (1472 + c) ∈ d.fls.half then (9, d)
  else if (cur.zip b).any (fun e => e.1 ≠ e.2 && e.1 ≠ 0xFF) then (9, d)
  else
    let d1 := d.onFls (fun f => { f with data := (List.range b.length).foldl (fun t i => t.put 0xFF (16384 * c + off + i) (b.getD i 0xFF)) f.data })
    (if verify || 0 < d.cfg Od.bnk_SPARES_LEFT ((1472 + c) / 512) then 0 else 9, if verify then d1 else d1.retireSector (1472 + c) (off / 32))

/-- ERASE (R589): the answer is an OAP status. `cut` says that save mode or a loss of power abandons the erase (R582). -/
def Dev.eraseSector (d : Dev) (c pulses : Nat) (cut : Bool) : Nat × Dev :=
  let s := 1472 + c
  if 576 ≤ c then (3, d)
  else if d.imageSector c || d.sectorLock c ≠ 0 || s ∈ d.fls.failed then (9, d)
  else
    let blank := d.onFls (fun f => { f with data := f.data.filter (fun e => e.1 / 16384 ≠ c) })
    if cut then (0, blank.onFls (fun f => { f with half := if s ∈ f.half then f.half else s :: f.half }))
    else if 32 < pulses && d.cfg Od.bnk_SPARES_LEFT (s / 512) ≤ 0 then (9, (d.countErase s 32).retireSector s 0)
    else (0, blank.sectorErased s pulses)

/-- R583: at a start every half-erased sector is to be erased again; FLASH_ERASE_ROUND_DONE ends that erase. -/
def Dev.resumeErases (d : Dev) : Dev :=
  d.fls.half.foldl (fun (y : Dev) (s : Nat) => (y.bump Od.fls_ERASE_RESUMED 0).raise 32 0xA0 0xFFFF [(s : Int)]) d

/-! ## Protection regions (R590, R591) -/

/-- The password record of a region. -/
def Dev.passRecord (d : Dev) (r : Nat) (p : Bytes) : Bytes := sha256 (padTo 16 (d.oct Od.idn_DIE_ID 0) ++ toLe 1 r ++ p)

/-- A wrong password: counted, and after the third in a row the region answers BUSY for 10 s. -/
def Dev.wrongPassword (d : Dev) (r : Nat) : Dev :=
  let n := (d.passRegion r).wrong + 1
  ((d.onPass r (fun x => { x with wrong := n, lockout := if n % 3 = 0 then some (d.now + 10 * sec) else x.lockout })).bump Od.rgn_FAILS r).raise 32 0xA6 r

/-- Whether a region answers BUSY. -/
def Dev.lockedOut (d : Dev) (r : Nat) : Bool :=
  match (d.passRegion r).lockout with
  | some t => decide (d.now < t)
  | none => false

/-- UNLOCK: the answer is an OAP status; a wrong password is answered STATE (log entry 59). -/
def Dev.unlockRegion (d : Dev) (r : Nat) (p : Bytes) : Nat × Dev :=
  if 64 ≤ r then (3, d)
  else if p.length ≠ 16 then (7, d)
  else if d.lockedOut r then (10, d)
  else match (d.passRegion r).record with
    | none => (0, d.onPass r (fun x => { x with locked := false }))
    | some h => if d.passRecord r p = h then (0, d.onPass r (fun x => { x with locked := false, wrong := 0 })) else (9, d.wrongPassword r)

/-- LOCK. -/
def Dev.lockRegion (d : Dev) (r v : Nat) : Nat × Dev :=
  if 64 ≤ r then (3, d) else if v ≠ 1 then (8, d) else (0, d.onPass r (fun x => { x with locked := true }))

/-- SET_PASSWORD: old and new password; the answer is an OAP status. -/
def Dev.setPassword (d : Dev) (r : Nat) (b : Bytes) : Nat × Dev :=
  let old := b.take 16
  let new := b.drop 16
  if 64 ≤ r then (3, d)
  else if b.length ≠ 32 then (7, d)
  else if d.lockedOut r then (10, d)
  else
    let good := match (d.passRegion r).record with
      | none => allZero old
      | some h => decide (d.passRecord r old = h)
    if !good then (9, d.wrongPassword r)
    else if allZero new then (0, (d.onPass r (fun x => { x with record := none, wrong := 0 })).set Od.rgn_MODE r 0)
    else (0, d.onPass r (fun x => { x with record := some (d.passRecord r new), wrong := 0 }))

/-- PASSWORD_LOCKOUT_END. -/
def Dev.lockoutEnd (d : Dev) (r : Nat) : Dev :=
  match (d.passRegion r).lockout with
  | some t => if t ≤ d.now then d.onPass r (fun x => { x with lockout := none, wrong := 0 }) else d
  | none => d

/-- A write of FIRST (1), COUNT (2) or MODE (3) of a region: the answer is an OAP status (R591). A region without a password
keeps MODE NONE (R590). -/
def Dev.regionField (d : Dev) (r field v : Nat) : Nat × Dev :=
  let x := d.passRegion r
  let images := d.cfgN Od.fls_CUST_IMAGE_SECTORS 0
  let first := if field = 1 then v else d.cfgN Od.rgn_FIRST r
  let count := if field = 2 then v else d.cfgN Od.rgn_COUNT r
  if x.locked && x.record.isSome then (9, d)
  else if field = 3 then
    if 2 < v then (8, d) else if v ≠ 0 && x.record.isNone then (9, d) else (0, d.set Od.rgn_MODE r v)
  else if 576 < first + count || (count ≠ 0 && first < images) then (8, d)
  else (0, d.set (if field = 1 then Od.rgn_FIRST else Od.rgn_COUNT) r v)

/-! ## Registers (R592–R595) -/

/-- FLS_STATUS. No operation but a save-area erase lasts between commands. -/
def Dev.flsStatus (d : Dev) : Nat :=
  let busy (a bank : Nat) := if d.man.area a = .erasing then 2 ^ bank else 0
  let ex := (List.range 4).foldl (fun s b => s + (if d.cfg Od.bnk_SPARES_LEFT b ≤ 0 then 2 ^ b else 0)) 0
  busy 0 0 + busy 1 1 + 256 * ex + 4096 * b2n d.man.saving

/-- FLS_BANK[b]. While a save area is erased, SECTOR reads its first sector (log entry 59). -/
def Dev.flsBank (d : Dev) (b : Nat) : Nat :=
  let op := if b < 2 && decide (d.man.area b = .erasing) then 2 else 0
  op + 16 * d.cfgN Od.bnk_SPARES_LEFT b + 32768 * op

/-- FLS_WEAR. -/
def Dev.flsWear (d : Dev) : Nat :=
  let s := d.fls.wearSel
  let st := if s ∈ d.fls.half then 3 else d.cfgN Od.wea_STATE s
  d.cfgN Od.wea_LAST_PULSES s % 64 + 256 * (d.cfgN Od.wea_MAX_PULSES s % 64) + 65536 * st

end Sys2Proof.Machine
end

