-- ==== Sys2Proof/Machine/AcuOps.lean ====
section
/-!
DEFINITION. Access check units: the check of an access, denials, imprecise notices, and the writes of region registers
(R396–R408).
-/
namespace Sys2Proof.Machine

/-- The kind of an access. -/
inductive AccKind where
  | read | write | fetch
deriving DecidableEq, Repr

/-- A denied access: cause, first byte denied, region matched, and whether the part denied is not the first. -/
structure Denial where
  cause : Nat
  addr : Nat
  region : Option Nat := none
  part2 : Bool := false
deriving DecidableEq, Repr

/-- Enabled regions are those with EN (R405). -/
def Region.en (r : Region) : Bool := bitOf r.attr 0

/-- First and last byte of a region (R402–R404). -/
def Region.lo (r : Region) : Nat := r.base + r.hi % 256 * 2 ^ 32
def Region.top (r : Region) : Nat := r.limit + r.hi / 256 % 256 * 2 ^ 32 + 31

/-- Whether a region grants a kind of access in a mode (R397). -/
def Region.grants (r : Region) (k : AccKind) (task : Bool) : Bool :=
  (match k with
    | .read => bitOf r.attr 1
    | .write => bitOf r.attr 2
    | .fetch => bitOf r.attr 3) && !(task && bitOf r.attr 4)

/-- A region that contains a run of bytes. -/
def regionOf (p : List (Nat × Region)) (lo hi : Nat) : Option (Nat × Region) :=
  p.find? (fun e => decide (e.2.lo ≤ lo) && decide (hi ≤ e.2.top))

/-- The first byte of a run that lies in two regions. -/
def firstShared : List (Nat × Region) → Nat → Nat → Option Nat
  | [], _, _ => none
  | (_, r) :: t, lo, hi =>
    let own := (t.filter (fun e => decide (max (max r.lo e.2.lo) lo ≤ min (min r.top e.2.top) hi))).map (fun e => max (max r.lo e.2.lo) lo)
    (own ++ (firstShared t lo hi).toList).foldl (fun a b => match a with
      | none => some b
      | some x => some (min x b)) none

/-- Check one part that lies in one region or in none. -/
def checkPart (p : List (Nat × Region)) (lo hi : Nat) (k : AccKind) (task : Bool) : Option Denial :=
  match regionOf p lo hi with
  | none => some { cause := 0x20, addr := lo }
  | some (n, r) => if r.grants k task then none else some { cause := 0x22, addr := lo, region := some n }

/-- The parts of a run, cut at the boundaries of the regions it meets (R398). -/
def partsOf (p : List (Nat × Region)) (lo hi : Nat) : List (Nat × Nat) :=
  let cuts := sortBy (fun (n : Nat) => (n : Int)) (dedup ((p.flatMap (fun e => [e.2.lo, e.2.top + 1])).filter (fun b => decide (lo < b) && decide (b ≤ hi))))
  (lo :: cuts).zip (cuts.map (fun b => b - 1) ++ [hi])

/-- R397, R398: check an access of bytes lo to hi. -/
def acuCheck (rs : Tab Region) (lo hi : Nat) (k : AccKind) (task : Bool) : Option Denial :=
  let p := rs.filter (fun e => e.2.en && decide (e.2.lo ≤ hi) && decide (lo ≤ e.2.top))
  if p.isEmpty then some { cause := 0x20, addr := lo }
  else match firstShared p lo hi with
    | some a => some { cause := 0x21, addr := a, region := some (Config.overlapRegion a % 32) }
    | none =>
      if (regionOf p lo hi).isSome then checkPart p lo hi k task
      else
        ((partsOf p lo hi).zipIdx).foldl (fun acc e => match acc with
          | some x => some x
          | none => (checkPart p e.1.1 e.1.2 k task).map (fun x => { x with part2 := decide (0 < e.2) })) none

/-- Ordering of the region that an access lies in (R399): 0 STRICT, 1 DEVICE, 2 RELAXED. -/
def acuOrder (rs : Tab Region) (lo hi : Nat) : Nat :=
  match regionOf (rs.filter (fun e => e.2.en)) lo hi with
  | some (_, r) => bitsOf r.attr 8 7
  | none => 0

def Dev.acu (d : Dev) (m : Nat) : Acu := d.cpu.acu.get {} m

def Dev.setAcu (d : Dev) (m : Nat) (x : Acu) : Dev := { d with cpu.acu := d.cpu.acu.put {} m x }

/-- Regions of a master (R396). -/
def regionCount (m : Nat) : Nat := if 136 ≤ m && m < 140 then 32 else 16

/-- R406, R407: a denial is counted and kept. -/
def Dev.denied (d : Dev) (m : Nat) (x : Denial) (write : Bool) : Dev :=
  let a := d.acu m
  d.setAcu m { a with denials := min (a.denials + 1) 0xFFFFFFFF, lastAddr := x.addr % 2 ^ 40, lastCause := x.cause,
                      lastRegion := x.region.getD 0, lastMatched := x.region.isSome, lastWrite := write }

/-- An ignored write of a region is counted (R401, R405). -/
def Dev.regionIgnored (d : Dev) (m : Nat) : Dev :=
  let a := d.acu m
  d.setAcu m { a with denials := min (a.denials + 1) 0xFFFFFFFF }

/-- R391, R408: a failed posted write reaches the IMPRECISE register. -/
def Dev.noteImprecise (d : Dev) (m addr cause : Nat) : Dev :=
  let a := d.acu m
  let d1 := if a.impValid then d.setAcu m { a with impMore := true }
    else d.setAcu m { a with impValid := true, impAddr := addr % 2 ^ 40, impCause := cause }
  if m < 140 then d1.bump Od.exc_IMPRECISE_NOTICES m else d1

/-- ACU_IMPRECISE_CLEAR (R408). -/
def Dev.impClear (d : Dev) (m : Nat) : Dev :=
  d.setAcu m { d.acu m with impValid := false, impMore := false, impAddr := 0, impCause := 0 }

/-- A write of a region's BASE, LIMIT or HI by firmware (R401–R404): `k` is 0, 1 or 2. -/
def Dev.regionBound (d : Dev) (m r k v : Nat) : Dev :=
  let a := d.acu m
  let x := a.regions.get {} r
  if regionCount m ≤ r then d
  else if x.en || bitOf x.attr 9 then d.regionIgnored m
  else
    let hi := if m < 136 then 0 else v % 65536
    let y := if k = 0 then { x with base := v / 32 * 32 } else if k = 1 then { x with limit := v / 32 * 32 } else { x with hi := hi }
    d.setAcu m { a with regions := a.regions.put {} r y }

/-- ACU_RGN_ATTR (R401, R405). -/
def Dev.regionAttr (d : Dev) (m r v0 : Nat) : Dev :=
  let a := d.acu m
  let x := a.regions.get {} r
  let v := v0 % 1024
  if regionCount m ≤ r then d
  else if bitOf x.attr 9 || bitsOf v 6 5 = 3 || bitsOf v 8 7 = 3 || x.top < x.lo + 31 ||
      ((bitOf v 3 || bitOf v 4) && regionCount m = 16) then d.regionIgnored m
  else d.setAcu m { a with regions := a.regions.put {} r { x with attr := v } }

/-- A read of an ACU frame (R401–R408). -/
def Dev.acuRead (d : Dev) (m off : Nat) : Nat :=
  let a := d.acu m
  if off < 0x200 then
    (let r := off / 16
     let x := a.regions.get {} r
     if regionCount m ≤ r then 0
     else if off % 16 = 0 then x.base
     else if off % 16 = 4 then x.limit
     else if off % 16 = 8 then x.hi
     else if off % 16 = 12 then x.attr else 0)
  else if off = 0x200 then a.denials
  else if off = 0x204 then a.lastAddr % 2 ^ 32
  else if off = 0x208 then a.lastAddr / 2 ^ 32 + 256 * a.lastCause + 65536 * a.lastRegion + 2 ^ 21 * b2n a.lastMatched + 2 ^ 22 * b2n a.lastWrite
  else if off = 0x210 then a.impAddr % 2 ^ 32
  else if off = 0x214 then a.impAddr / 2 ^ 32 + 256 * a.impCause + 65536 * b2n a.impValid + 131072 * b2n a.impMore
  else 0

/-- A write of an ACU frame by resident firmware (R401). -/
def Dev.acuWrite (d : Dev) (m off v : Nat) : Dev :=
  if off < 0x200 then
    (if off % 16 = 12 then d.regionAttr m (off / 16) v else d.regionBound m (off / 16) (off % 16 / 4) v)
  else if off = 0x214 && bitOf v 16 then d.impClear m
  else d

end Sys2Proof.Machine
end

