-- ==== Sys2Proof/Machine/HostOps.lean ====
section
/-!
DEFINITION. The host interface: function resets and the link, failed DMA, vectors, routes and interrupt pins (R280–R310).
-/
namespace Sys2Proof.Machine

def Dev.onHif (d : Dev) (f : HostIf → HostIf) : Dev := { d with hif := f d.hif }

def Dev.onFn (d : Dev) (f : Nat) (g : PcieFn → PcieFn) : Dev := d.onHif (fun h => { h with fns := h.fns.put {} f (g (d.fn f)) })

/-- R282: an access that a function may not make is ignored and counted for it. -/
def Dev.accessDenied (d : Dev) (pf : Nat) : Dev := d.bump Od.hif_ACCESS_DENIED pf

/-- R282, R283: only the function that owns a queue reaches its doorbells. -/
def Dev.doorbell (d : Dev) (pf q : Nat) (f : Dev → Dev) : Dev := if d.pfOf q = pf then f d else d.accessDenied pf

/-! ## Function resets and the link (R300) -/

/-- A queue closes as after a restart: its rings are gone, and its records are kept for the replay on reopening (R148). -/
def Queue.closed (x : Queue) : Queue :=
  { x with state := .off, ringValid := false, waiting := [], replay := [], gapOpen := none, dmaStall := false }

/-- Each queue of a function that has a ring in host memory closes; what waits to be written through the function is
dropped. -/
def Dev.closeFn (d : Dev) (pf : Nat) : Dev :=
  { d with que.queues := Tab.mapVals d.que.queues (fun q x =>
             if d.pfOf q = pf && x.ringValid && !(x.workChip && x.cplChip) then x.closed else x),
           hostHeld := d.hostHeld.filter (fun e => e.1 ≠ pf) }

/-- The mailbox request is abandoned without response, and the subscriptions made over the mailbox end. -/
def Dev.mailboxReset (d : Dev) : Dev :=
  { d with hif.mbox := { d.hif.mbox with busy := false, request := [], answer := none },
           obj.subs := d.obj.subs.filter (fun s => s.requester ≠ mailboxReq), obj.shadows := d.obj.shadows.filter (fun s => s.requester ≠ mailboxReq),
           obj.switch := d.obj.switch.map (fun c => if c.asker.any (fun a => a.1 == mailboxReq) then { c with asker := none } else c) }

/-- What an FLR does to a function, but for its count and event: it is in D0 again, its function mask clear. -/
def Dev.fnReset (d : Dev) (pf : Nat) : Dev :=
  let d1 := (d.closeFn pf).onFn pf (fun _ => {})
  if pf = 0 then d1.mailboxReset else d1

/-- FLR: a Function Level Reset, or Bus Master Enable cleared. The mailbox is lost with an FLR of PF0 only. -/
def Dev.flr (d : Dev) (pf : Nat) (busMaster : Bool) : Dev :=
  ((if busMaster then d.closeFn pf else d.fnReset pf).bump Od.hif_FLRS pf).raise 33 0x12B pf

/-- The PCIe link is gone: all four functions as under FLR. -/
def Dev.hostDown (d : Dev) : Dev :=
  ((List.range 4).foldl Dev.fnReset d).onHif (fun h => { h with linkUp := false, width := 0, speed := 0 })

/-- A failure that the device reports under AER too (R287, R300; log entry 166). -/
def Dev.aer (d : Dev) : Dev := d.bump Od.lnk_AER_UNCORRECTABLE 0

/-- PCIE_LINK_DOWN. -/
def Dev.linkDown (d : Dev) : Dev := if d.hif.linkUp then d.hostDown.aer.raise 33 0x12A 0xFFFF else d

/-- PCIE_LINK_UP: width and speed as HIF_STATUS codes them (R301). -/
def Dev.linkUp (d : Dev) (width : Fin 3) (speed : Fin 5) : Dev :=
  d.onHif (fun h => { h with linkUp := true, width := width.val + 1, speed := speed.val + 1 })

/-- D3HOT. -/
def Dev.toD3hot (d : Dev) (pf : Nat) : Dev := d.onFn pf (fun x => { x with d3hot := true })

/-! ## Failed DMA (R287) -/

/-- What every failed access of a queue's DMA leaves. -/
def Dev.dmaFailed (d : Dev) (q : Nat) : Dev := (d.aer.bump Od.hif_DMA_ERRORS (d.pfOf q)).raise 33 0x128 q

/-- The queue is STALLED until it is disabled and reopened; on reopening it replays (R148). -/
def Dev.dmaStallQueue (d : Dev) (q : Nat) : Dev := d.onQueue q (fun x => { x with state := .stalled, dmaStall := true })

/-- HOST_DMA_ERROR. `chan` is the DMA channel whose access check refuses a write (R285, R396). -/
def Dev.hostDmaError (d : Dev) (rd : Nat → Nat → Bytes) (q : Nat) (f : DmaFail) : Dev :=
  let x := d.queue q
  if !x.isOpen then d
  else
    match f with
    | .descriptor => if x.workChip || x.devPos = x.hostPos || d.delivers q then d else (d.dmaStallQueue q).dmaFailed q
    | .body desc => if x.devPos = x.hostPos || d.delivers q then d else (d.admitNext rd q desc none).dmaFailed q
    | .write chan addr cause => ((d.noteImprecise (140 + chan) addr cause).dmaStallQueue q).dmaFailed q

/-! ## Vectors (R297, R304, R305) -/

/-- VECTOR_FIRE: the count is reached, or the time since the first pending event has passed. -/
def Dev.vectorFire (d : Dev) (v : Nat) : Dev :=
  let x := d.hif.vecs.get {} v
  if x.pending = 0 then d
  else if x.count ≤ x.pending || decide (x.firstAt + (x.time * 100 : Int) * ns ≤ d.now) then d.fireVec v
  else d

/-- The one held message of a vector leaves once nothing holds it. -/
def Dev.releaseVec (d : Dev) (v : Nat) : Dev :=
  let x := d.hif.vecs.get {} v
  if x.held && !d.vecHeld v x then ({ d with hif.vecs := d.hif.vecs.put {} v { x with held := false } }).emit (.msix v) else d

/-- The vectors of a function, lowest first. -/
def Dev.releaseFn (d : Dev) (pf : Nat) : Dev :=
  ((d.hif.vecs.map (fun e => e.1)).filter (fun v => v / 2048 = pf)).foldl Dev.releaseVec d

/-- VECTOR_UNMASK: one vector, a whole function, or a function's return to D0, which first lets go what it held. -/
def Dev.vectorUnmask (d : Dev) (u : Unmask) : Dev :=
  match u with
  | .vector v =>
    let x := d.hif.vecs.get {} v.val
    ({ d with hif.vecs := d.hif.vecs.put {} v.val { x with masked := false } }).releaseVec v.val
  | .function f => (d.onFn f.val (fun x => { x with masked := false })).releaseFn f.val
  | .d0 f =>
    let d1 := d.onFn f.val (fun x => { x with d3hot := false })
    let mine := d1.hostHeld.filter (fun e => e.1 = f.val)
    let d2 : Dev := { d1 with hostHeld := d1.hostHeld.filter (fun e => e.1 ≠ f.val) }
    (mine.foldl (fun (y : Dev) e => y.emit e.2) d2).releaseFn f.val

/-! ## Event registers (R293, R298, R302–R308) -/

/-- The edges of the interrupt pins between two states. -/
def Dev.irqEdges (old new : Dev) : Dev :=
  [1, 2, 3, 4, 5, 6, 7, 8].foldl (fun y p =>
    if new.irqLevel p = old.irqLevel p then y else y.emit (.irqPin p (new.irqLevel p))) new

/-- The function that owns an event source: that of its queue, or PF0 (R283, R293). -/
def Dev.srcPf (d : Dev) (s : Nat) : Nat := d.pfOf s

/-- EVT_PENDING[w] is written through a function: each bit set clears its source; a data function reaches its own sources
only. -/
def Dev.evtPendingClear (d : Dev) (pf w v : Nat) : Dev :=
  let hit := (List.range 32).filter (bitOf v)
  let mine := hit.filter (fun b => pf = 0 || d.srcPf (32 * w + b) = pf)
  let d1 := d.irqEdges (d.onHif (fun h => { h with evtPending := h.evtPending.filter (fun s => !mine.contains (s % 32) || s / 32 ≠ w) }))
  if mine.length = hit.length then d1 else d1.accessDenied pf

/-- EVT_PENDING[w] as read. -/
def Dev.evtPendingWord (d : Dev) (w : Nat) : Nat :=
  (List.range 32).foldl (fun a b => if (32 * w + b) ∈ d.hif.evtPending then a + 2 ^ b else a) 0

/-- A word of EVT_ROUTE is written through a function (R302, R303): reserved bits are not stored, and EVQ names a queue only
where EVQ_EN is set. -/
def Dev.routeWrite (d : Dev) (pf s k v : Nat) : Dev :=
  let old := d.route s
  let new := if k = 0 then old / 2 ^ 32 * 2 ^ 32 + (bitsOf v 13 0 + bitsOf v 19 16 * 65536) else old % 2 ^ 32 + bitsOf v 14 0 * 2 ^ 32
  if (pf ≠ 0 && d.srcPf s ≠ pf) || (k = 0 && pf ≠ 0 && bitsOf v 12 11 ≠ pf) ||
      (k = 1 && bitOf v 14 && d.cfg Od.que_CLASS (bitsOf v 13 0) ≠ 2) then d.accessDenied pf
  else d.irqEdges (d.onHif (fun h => { h with routes := h.routes.ins s new }))

/-- A word of EVT_VEC is written (R304, R305). -/
def Dev.vecWrite (d : Dev) (v k w : Nat) : Dev :=
  let x := d.hif.vecs.get {} v
  { d with hif.vecs := d.hif.vecs.put {} v (if k = 0 then { x with count := w % 65536 } else { x with time := w % 2 ^ 20 }) }

/-- A word of EVT_VEC as read. -/
def Dev.vecRead (d : Dev) (v k : Nat) : Nat :=
  let x := d.hif.vecs.get {} v
  if k = 0 then x.count + 65536 * x.pending else x.time

/-- A word of a function's MSI-X table: message address, message data, vector control. -/
def Dev.msixRead (d : Dev) (v k : Nat) : Nat :=
  let x := d.hif.vecs.get {} v
  if k = 0 then x.msgAddr % 2 ^ 32 else if k = 1 then x.msgAddr / 2 ^ 32 else if k = 2 then x.msgData else b2n x.masked

def Dev.msixWrite (d : Dev) (v k w : Nat) : Dev :=
  let x := d.hif.vecs.get {} v
  let put (y : Vec) : Dev := { d with hif.vecs := d.hif.vecs.put {} v y }
  if k = 0 then put { x with msgAddr := x.msgAddr / 2 ^ 32 * 2 ^ 32 + w / 4 * 4 }
  else if k = 1 then put { x with msgAddr := x.msgAddr % 2 ^ 32 + w * 2 ^ 32 }
  else if k = 2 then put { x with msgData := w }
  else (put { x with masked := bitOf w 0 }).releaseVec v

/-- A word of a function's PBA. -/
def Dev.pbaWord (d : Dev) (pf w : Nat) : Nat :=
  (List.range 32).foldl (fun a b => if (d.hif.vecs.get {} (2048 * pf + 32 * w + b)).held then a + 2 ^ b else a) 0

/-- HIF_STATUS (R301). -/
def Dev.hifStatus (d : Dev) : Nat := b2n d.hif.ready + 2 * b2n d.hif.linkUp + 4 * d.hif.width + 32 * d.hif.speed

/-- EVT_PIN_STATUS (R308). -/
def Dev.irqStatus (d : Dev) : Nat :=
  (List.range 8).foldl (fun a p => if d.irqAsserted (p + 1) then a + 2 ^ p else a) 0

/-! ## The mailbox (R299, R309, R310) -/

/-- MB_STATUS. -/
def Dev.mbStatus (d : Dev) : Nat :=
  let m := d.hif.mbox
  b2n m.busy + 2 * b2n m.responseReady + 65536 * m.response.length

end Sys2Proof.Machine
end

