-- ==== Sys2Proof/Machine/Der.lean ====
section
/-!
DEFINITION. Where the certificates of a chain begin and end: the lengths of DER (R175, R484).
-/
namespace Sys2Proof.Machine

/-- The header and content length of a DER SEQUENCE, as a certificate is one (R175); none where the bytes begin none. -/
def derLength (b : Bytes) : Option Nat :=
  if leAt b 0 1 ≠ 0x30 then none
  else
    let n := leAt b 1 1
    if n < 0x80 then some (2 + n)
    else if n = 0x81 then some (3 + leAt b 2 1)
    else if n = 0x82 then some (4 + beAt b 2 2)
    else none

/-- The certificates of a chain, leaf first; none where it is no sequence of at most `k` certificates (R175). -/
def chainCerts : Nat → Bytes → Option (List Bytes)
  | 0, b => if b.isEmpty then some [] else none
  | k + 1, b =>
    if b.isEmpty then some []
    else
      match derLength b with
      | none => none
      | some n => if b.length < n then none else (chainCerts k (b.drop n)).map (fun l => b.take n :: l)

end Sys2Proof.Machine
end

