-- ==== Sys2Proof/Machine/CipherOps.lean ====
section
/-!
DEFINITION. The cipher cores: locks, registers, keys and jobs (R411–R434, R450).
-/
namespace Sys2Proof.Machine

def Dev.core (d : Dev) (c : Nat) : CipherCore := d.cry.cores.get {} c

def Dev.setCore (d : Dev) (c : Nat) (x : CipherCore) : Dev := { d with cry.cores := d.cry.cores.put {} c x }

/-- Whether a user ID names a lane or a purser (R413, R414). -/
def limitedUser (u : Nat) : Bool := decide (1 ≤ u ∧ u ≤ 0x80) || decide (0x100 ≤ u ∧ u ≤ 0x103)

/-- R413, R414: how a core's pier and limit let a user in. -/
def Dev.coreAdmits (d : Dev) (c u : Nat) : Bool :=
  let p := c / 4
  let held := ((List.range 4).filter (fun k => limitedUser (d.core (4 * p + k)).user)).length
  let laneOk := !decide (1 ≤ u ∧ u ≤ 0x80) || decide (d.pierOf ((u - 1) / 8) = p)
  let out := decide ((d.pier p).state = 1) || decide ((d.pier p).state = 2)
  (limitedUser u || u == 0xF00 || u == 0xFFF) && laneOk && !out && d.cfgB Od.cip_ENABLE c &&
    (!limitedUser u || decide (held < d.cfgN Od.cic_LANE_CORES_MAX p))

/-- R417: a released core is zeroed; the result of its last job stays readable until the core has a new holder. -/
def Dev.releaseCore (d : Dev) (c : Nat) : Dev := d.setCore c { result := (d.core c).result }

/-- A write of 0 to CIP_LOCK by the holder (R417): at once where no job runs, else at the next block boundary. -/
def Dev.freeCore (d : Dev) (c : Nat) : Dev :=
  let x := d.core c
  if x.busy && !x.waitsKey then d.setCore c { x with releasing := true, aborting := true }
  else if x.busy then (d.setCore c { x with result := 10 }).releaseCore c
  else d.releaseCore c

/-- R413–R417: one write of CIP_LOCK by a user. -/
def Dev.lockWrite (d : Dev) (c who v : Nat) : Dev :=
  let x := d.core c
  if v = 0 then (if x.user = who && who ≠ 0 && !x.releasing then d.freeCore c else d)
  else if v ≠ who || x.user ≠ 0 || !d.coreAdmits c who then d
  else d.setCore c { x with user := who, lockedAt := d.now, heldRaised := false, result := 0 }

/-- R416: the order in which users that write in one cycle are served. -/
def lockRank (u : Nat) : Int := if u = 0xFFF then 0 else if u = 0xF00 then 1 else if 0x100 ≤ u then u else 0x1000 + u

/-- CIP_LOCK: the writes of one cycle (R415–R417). -/
def Dev.cipLock (d : Dev) (c : Nat) (writes : List (Nat × Nat)) : Dev :=
  (sortBy (fun e => lockRank e.1) writes).foldl (fun x e => x.lockWrite c e.1 e.2) d

/-- R418: the fault collector takes the lock from its holder; the core is zeroed and released at the job's next block
boundary. -/
def Dev.clearCore (d : Dev) (c : Nat) : Dev :=
  let x := d.core c
  if x.user = 0 then d else (d.setCore c { x with user := 0xFFF }).freeCore c

/-- R418, R394: the locks that a user holds are cleared. -/
def Dev.clearLocks (d : Dev) (user : Nat) : Dev :=
  (d.cry.cores.filter (fun e => e.2.user == user)).foldl (fun x e => x.clearCore e.1) d

/-- Key-store user of a core's holder (R413, R470). -/
def keyUserOf (u : Nat) : KeyUser := if 1 ≤ u && u ≤ 0x80 then .lane (u - 1) else if u = 0xF00 then .engine else .firmware

/-- The OPS bit that a mode needs (R470). -/
def modeOp (mode : Nat) : Nat := if mode = 2 || mode = 5 then 1 else 0

/-- R412: the result with which a job is refused before it starts, in the order of the model (log entry 50): MODE, LENGTH,
ADDRESS, NO_KEY, KEY_POLICY, IV_EXHAUSTED, CTR_WRAP, USAGE_LIMIT. -/
def Dev.jobRefusal (d : Dev) (x : CipherCore) (j : CipherJob) : Option Nat :=
  let gcm := j.mode = 1 || j.mode = 2
  let tagOk := if gcm then decide (12 ≤ j.tagLen ∧ j.tagLen ≤ 16) else if j.mode = 3 then true else decide (8 ≤ j.tagLen ∧ j.tagLen ≤ 16)
  let aad := if gcm then j.aadLen else 0
  let size := 2097152
  let out := j.mode ≤ 3
  let w := if j.ctrWidth = 0 then 32 else if j.ctrWidth = 1 then 64 else 128
  if j.mode = 0 || 5 < j.mode || !tagOk || (j.mode = 3 && j.ctrWidth = 3) || (x.ivLocked && (j.mode = 2 || j.mode = 3)) then some 11
  else if size < j.len || size < aad then some 6
  else if size < j.src + j.len || (gcm && size < j.aadAddr + aad) || (out && size < j.dst + j.len) ||
      (j.mode ≠ 3 && size < j.tagAddr + j.tagLen) then some 7
  else match x.key with
    | none => some 8
    | some k =>
      if x.keySource ≠ 1 && (d.keyUse x.keyh [modeOp j.mode] (keyUserOf x.user)).isNone && x.keySource = 2 then some 5
      else if k.length ≠ (if j.key256 then 32 else 16) then some (if x.keySource = 2 then 5 else 8)
      else if j.mode = 1 && x.ivExhausted then some 2
      else if j.mode = 3 && decide (2 ^ w < beNat j.iv % 2 ^ w + (j.len + 15) / 16) then some 3
      else if (j.mode = 1 || j.mode = 4) && decide (x.useLimit ≤ x.uses) then some 4
      else none

/-- A job ends with a result; a core that is being released or has been disabled is then zeroed (R417, R418). -/
def Dev.endJob (d : Dev) (c r : Nat) : Dev :=
  let x := d.core c
  let d1 := d.setCore c { x with busy := false, waitsKey := false, done := true, result := r, job := none, aborting := false }
  let d2 := if r = 2 || r = 3 || r = 4 || r = 5 then d1.bump Od.cip_REFUSALS c else d1
  if x.releasing || x.closing then d2.releaseCore c else d2

/-- A job whose key is there starts, or is refused. The first seal under IV_AUTO locks the IV registers (R420). -/
def Dev.beginJob (d : Dev) (c : Nat) : Dev :=
  let x := d.core c
  match x.job with
  | none => d
  | some j =>
    match d.jobRefusal x j with
    | some r => d.endJob c r
    | none => d.setCore c { x with waitsKey := false, job := some { j with key := x.key.getD [] }, ivLocked := x.ivLocked || (j.ivAuto && decide (j.mode = 1)) }

/-- A key is loaded (R419): USES and the IV conditions clear, and USE_LIMIT takes the slot's limit. A START that waited
begins. -/
def Dev.keyLoaded (d : Dev) (c : Nat) (key : Option Bytes) (source keyh limit : Nat) : Dev :=
  let x := d.core c
  let d1 := d.setCore c { x with key := key, keySource := if key.isNone then 0 else source, keyh := keyh, loading := none, uses := 0,
                                 useLimit := limit, ivLocked := false, ivExhausted := false }
  if x.waitsKey then d1.beginJob c else d1

/-- R419: a core holds no key and loads none; a START that waited for one ends with NO_KEY. -/
def Dev.keyGone (d : Dev) (c : Nat) : Dev :=
  let x := d.core c
  let d1 := d.setCore c { x with key := none, keySource := 0, keyh := 0, loading := none }
  if x.waitsKey then d1.beginJob c else d1

/-- R419: a policy refusal leaves no key, with result KEY_POLICY. -/
def Dev.keyRefused (d : Dev) (c : Nat) : Dev :=
  let d1 := d.keyGone c
  (d1.setCore c { d1.core c with result := 5 }).bump Od.cip_REFUSALS c

/-- CIP_KEYH (R419): 0 unloads the key; the key store's refusal leaves none. -/
def Dev.keyhWrite (d : Dev) (c keyh : Nat) : Dev :=
  let x := d.core c
  if keyh = 0 then d.keyGone c
  else
    match d.keyUse keyh [0, 1] (keyUserOf x.user) with
    | some (_, k) =>
      if k.type = 1 || k.type = 2 then d.setCore c { x with key := none, keySource := 0, keyh := 0, loading := some keyh }
      else d.keyRefused c
    | none => d.keyRefused c

/-- CIP_KEY_LOADED: the slot load completes; a slot that has gone meanwhile gives no key. -/
def Dev.slotLoaded (d : Dev) (c : Nat) : Dev :=
  let x := d.core c
  match x.loading with
  | none => d
  | some h =>
    match d.keyUse h [0, 1] (keyUserOf x.user) with
    | some (_, k) => d.keyLoaded c (some k.key) 2 h k.useLimit
    | none => (d.keyLoaded c none 0 0 0xFFFFFFFF).setCore c { (d.keyLoaded c none 0 0 0xFFFFFFFF).core c with result := 5 }

/-- A word of CIP_KEY0–CIP_KEY7, by a store (RAW) or from a slot (PORT); the last word of the key size loads it (R419). -/
def Dev.keyWord (d : Dev) (c i v source : Nat) : Dev :=
  let x := d.core c
  let regs := overlayB x.keyRegs (4 * i) (toBe 4 v)
  let d1 := d.setCore c { x with keyRegs := regs }
  if i = (if x.key256 then 7 else 3) then
    d1.keyLoaded c (some (regs.take (if x.key256 then 32 else 16))) source 0 0xFFFFFFFF
  else d1

/-- CIP_CTRL: its fields, and START (R411, R427). -/
def Dev.ctrlWrite (d : Dev) (c v : Nat) : Dev :=
  let x0 := d.core c
  let x := { x0 with mode := bitsOf v 2 0, key256 := bitOf v 3, ctrWidth := bitsOf v 5 4, ivAuto := bitOf v 6, tagLen := bitsOf v 12 8 }
  if !bitOf v 31 || x0.busy then d.setCore c x
  else
    let j : CipherJob := { mode := x.mode, key256 := x.key256, ctrWidth := x.ctrWidth, ivAuto := x.ivAuto, tagLen := x.tagLen,
                           aadAddr := x.aadAddr, aadLen := x.aadLen, src := x.src, dst := x.dst, len := x.len,
                           tagAddr := x.tagAddr, iv := x.iv }
    let d1 := d.setCore c { x with busy := true, done := false, job := some j, waitsKey := x.loading.isSome }
    if x.loading.isSome then d1 else d1.beginJob c

/-- A write of a core's register by its holder (R426–R434). -/
def Dev.coreReg (d : Dev) (c off v : Nat) : Dev :=
  let x := d.core c
  if off = 0x004 then d.ctrlWrite c v
  else if off = 0x008 then (if bitOf v 1 then d.setCore c { x with done := false } else d)
  else if off = 0x00C then d.keyhWrite c v
  else if off = 0x010 then d.setCore c { x with aadAddr := v % 2 ^ 21 }
  else if off = 0x014 then d.setCore c { x with aadLen := v % 2 ^ 22 }
  else if off = 0x018 then d.setCore c { x with src := v % 2 ^ 21 }
  else if off = 0x01C then d.setCore c { x with dst := v % 2 ^ 21 }
  else if off = 0x020 then d.setCore c { x with len := v % 2 ^ 22 }
  else if off = 0x024 then d.setCore c { x with tagAddr := v % 2 ^ 21 }
  else if 0x030 ≤ off && off ≤ 0x03C then
    (if x.ivLocked then d else d.setCore c { x with iv := overlayB x.iv (off - 0x030) (toBe 4 v) })
  else if off = 0x044 then (if v < x.useLimit then d.setCore c { x with useLimit := v } else d)
  else if 0x080 ≤ off && off ≤ 0x09C then d.keyWord c ((off - 0x080) / 4) v 1
  else d

/-- A write into a core's registers by a user: the answer says whether the target took it. CIP_LOCK is never a target
error; any other register takes writes of the holder only, and none from it while the core is closing (R415, R418). -/
def Dev.coreWrite (d : Dev) (c who off v : Nat) : Bool × Dev :=
  let x := d.core c
  if off = 0 then (true, d.lockWrite c who (v % 4096))
  else if who = 0 || x.user ≠ who || x.closing || x.releasing then (false, d)
  else (true, d.coreReg c off v)

/-- A read of a core's register (R415, R426–R434); unlisted offsets and key registers read 0. -/
def Dev.coreRead (d : Dev) (c off : Nat) : Nat :=
  let x := d.core c
  if off = 0x000 then x.user + 4096 * b2n x.releasing
  else if off = 0x004 then x.mode + 8 * b2n x.key256 + 16 * x.ctrWidth + 64 * b2n x.ivAuto + 256 * x.tagLen + 2 ^ 31 * b2n x.busy
  else if off = 0x008 then b2n x.busy + 2 * b2n x.done + 4 * b2n x.key.isSome + 8 * b2n x.ivLocked + 16 * b2n x.ivExhausted +
    32 * x.keySource + 256 * x.result
  else if off = 0x010 then x.aadAddr
  else if off = 0x014 then x.aadLen
  else if off = 0x018 then x.src
  else if off = 0x01C then x.dst
  else if off = 0x020 then x.len
  else if off = 0x024 then x.tagAddr
  else if 0x030 ≤ off && off ≤ 0x03C then beAt x.iv (off - 0x030) 4
  else if off = 0x040 then x.uses
  else if off = 0x044 then x.useLimit
  else 0

/-- System address of an offset in the buffer of a core's pier (R318, R412). -/
def coreBuf (c off : Nat) : Nat := 0x0200000000 + 0x400000 * (c / 4) + off

/-- What a job writes when it runs to its end: result, output at DST, tag at TAG_ADDR, next IV bytes (R411, R420–R423). -/
def jobOutput (j : CipherJob) (key : Bytes) (data aad tag : Bytes) : Nat × Option Bytes × Option Bytes × Bytes :=
  let rk := roundKeys key
  match j.mode with
  | 1 =>
    let ct := gcmCrypt rk j.iv data
    (0, some ct, some ((gcmTag rk j.iv aad ct).take j.tagLen), j.iv)
  | 2 =>
    if (gcmTag rk j.iv aad data).take j.tagLen = tag then (0, some (gcmCrypt rk j.iv data), none, j.iv)
    else (1, some (List.replicate data.length 0), none, j.iv)
  | 3 =>
    let w := if j.ctrWidth = 0 then 32 else if j.ctrWidth = 1 then 64 else 128
    (0, some (ctrMode rk w j.iv data), none, ctrAdd w j.iv ((data.length + 15) / 16))
  | 4 => (0, none, some ((cmac rk data).take j.tagLen), j.iv)
  | _ => (if (cmac rk data).take j.tagLen = tag then 0 else 1, none, none, j.iv)

/-- Registers of a core after a job that ran to its end (R420–R422). Once IV_LOCKED, every seal advances the counter, also one
started with IV_AUTO clear: no key loaded under IV_AUTO seals two messages under one IV (log entry 50). -/
def CipherCore.afterJob (x : CipherCore) (j : CipherJob) (r : Nat) (iv : Bytes) : CipherCore :=
  let counted := r = 0 && (j.mode = 1 || j.mode = 4)
  let ctr := beAt x.iv 4 8
  let last := decide (ctr = 2 ^ 64 - 1)
  let auto := (j.ivAuto || x.ivLocked) && decide (j.mode = 1) && decide (r = 0)
  { x with uses := if counted then x.uses + 1 else x.uses,
           iv := if auto then (if last then x.iv else overlayB x.iv 4 (toBe 8 (ctr + 1)))
                 else if j.mode = 3 && r = 0 then iv else x.iv,
           ivExhausted := x.ivExhausted || (auto && last) }

/-- CIPHER_JOB_DONE (R411–R424): the running job ends. `read` gives the bytes of memory; `blocks` says how many blocks a job
that is cut short had written; `mismatch` is the verdict of the dual rails. -/
def Dev.jobDone (d : Dev) (c : Nat) (read : Nat → Nat → Bytes) (blocks : Nat) (mismatch : Bool) : Dev :=
  let x := d.core c
  match x.job with
  | some j =>
    if !x.busy || x.waitsKey then d
    else
      let data := read (coreBuf c j.src) j.len
      let aad := if j.mode = 1 || j.mode = 2 then read (coreBuf c j.aadAddr) j.aadLen else []
      let tag := read (coreBuf c j.tagAddr) j.tagLen
      let (r, out, tagOut, iv) := jobOutput j j.key data aad tag
      let put (y : Dev) (a : Nat) (b : Option Bytes) : Dev := match b with
        | some b => { y with bufOut := y.bufOut ++ [.put (coreBuf c a) b] }
        | none => y
      if mismatch || x.aborting then
        let part := out.map (fun o => if j.mode = 2 then List.replicate (min (16 * blocks) o.length) (0 : Byte) else o.take (16 * blocks))
        let d1 := (((put d j.dst part).bump Od.cip_JOBS c).endJob c (if mismatch then 9 else 10))
        if mismatch then
          let d2 := d1.raise 24 1 c
          { d2 with flt.todo := d2.flt.todo ++ [.pier (c / 4) 2] }
        else d1
      else
        let d1 := put (put d j.dst out) j.tagAddr tagOut
        let d2 := (d1.setCore c (x.afterJob j r iv)).bump Od.cip_JOBS c
        let d3 := if r = 0 then d2.bump Od.cip_BYTES c j.len else d2.bump Od.cip_TAG_FAILS c
        d3.endJob c r
  | none => d

/-- CIPHER_SELFTEST (R425): a free core runs its tests; one that fails takes its pier out. -/
def Dev.coreSelftest (d : Dev) (c : Nat) (pass : Bool) : Dev :=
  if (d.core c).user ≠ 0 || pass then d
  else
    let d1 := d.raise 24 2 c
    { d1 with flt.todo := d1.flt.todo ++ [.pier (c / 4) 4] }

/-- CIPHER_LOCK_HELD (R417): raised once for a lock. -/
def Dev.lockHeld (d : Dev) (c : Nat) : Dev :=
  let x := d.core c
  if limitedUser x.user && !x.heldRaised && decide (x.lockedAt + d.cfg Od.cic_LOCK_HOLD_LIMIT (c / 4) < d.now) then
    (d.setCore c { x with heldRaised := true }).raise 24 3 c [(x.user : Int)]
  else d

/-- CIPHER_ENABLE (R418): OFF applies DISABLE_MODE to a held core. -/
def Dev.coreEnable (d : Dev) (c : Nat) (on : Bool) : Dev :=
  let d1 := d.set Od.cip_ENABLE c (b2i on)
  let x := d1.core c
  if on || x.user = 0 then d1
  else if !x.busy then d1.releaseCore c
  else if d.cfg Od.cip_DISABLE_MODE c = 1 then (d1.setCore c { x with closing := true }).freeCore c
  else d1.setCore c { x with closing := true }

/-- R474: the key of a slot leaves every core that holds it: its job ends ABORTED at the block boundary. -/
def Dev.unloadSlot (d : Dev) (slot : Nat) : Dev :=
  (d.cry.cores.filter (fun e => e.2.keySource ≠ 0 && e.2.keyh % 4096 == slot && e.2.keyh ≠ 0)).foldl (fun y e =>
    let x := y.core e.1
    y.setCore e.1 { x with aborting := x.aborting || (x.busy && !x.waitsKey), key := none, keySource := 0, keyh := 0 }) d

/-- STATE of a core (R449). -/
def Dev.coreState (d : Dev) (c : Nat) : Nat :=
  let x := d.core c
  let st := (d.pier (c / 4)).state
  if st = 2 then 4 else if st = 1 then 5
  else if x.user ≠ 0 then (if x.busy then 2 else 1)
  else if d.cfgB Od.cip_ENABLE c then 0 else 3

end Sys2Proof.Machine
end

