-- ==== Sys2Proof/Machine/BignumOps.lean ====
section
/-!
DEFINITION. The big-number engine: its lock, operand slots, commands and BN_JOB (R451–R462).
-/
namespace Sys2Proof.Machine

/-- Bits of a size code (R462). -/
def bnBits (code : Nat) : Nat :=
  match code with
  | 0 => 256
  | 1 => 384
  | 2 => 2048
  | 3 => 3072
  | _ => 4096

def Dev.bgn (d : Dev) : BigNum := d.cry.bgn

def Dev.onBgn (d : Dev) (f : BigNum → BigNum) : Dev := { d with cry.bgn := f d.cry.bgn }

def slotValid (w : Nat) : Bool := bitOf w 16
def slotSecret (w : Nat) : Bool := bitOf w 15
def slotCode (w : Nat) : Nat := bitsOf w 14 12
def slotBase (w : Nat) : Nat := 64 * bitsOf w 10 0
def slotBytes (w : Nat) : Nat := bnBits (slotCode w) / 8

def BigNum.slot (x : BigNum) (s : Nat) : Nat := x.slots.get 0 s

/-- The value of an operand slot (R452). -/
def BigNum.value (x : BigNum) (s : Nat) : Nat :=
  let w := x.slot s
  beNat ((List.range (slotBytes w)).map (fun i => x.mem.get 0 (slotBase w + i)))

/-- Store a value in an operand slot. -/
def BigNum.store (x : BigNum) (s v : Nat) : BigNum :=
  let w := x.slot s
  { x with mem := ((toBe (slotBytes w) v).zipIdx).foldl (fun m e => Tab.put 0 m (slotBase w + e.2) e.1) x.mem }

/-- R451: on release everything is zeroed; RELEASING reads 1 meanwhile, which the model passes over (log entry 51). -/
def BigNum.released (x : BigNum) : BigNum := { x with user := 0, queue := [], mem := [], slots := [], cache := [] }

/-- BGN_LOCK (R451, R459): the protocol of R415 with a purser's user ID. -/
def Dev.bgnLock (d : Dev) (writes : List (Nat × Nat)) : Dev :=
  (sortBy (fun e => lockRank e.1) writes).foldl (fun y e =>
    let x := y.bgn
    let u := e.1
    let v := e.2
    if v = 0 then
      (if x.user = u && u ≠ 0 then y.onBgn BigNum.released else y)
    else if v ≠ u || x.user ≠ 0 || !(decide (0x100 ≤ u ∧ u ≤ 0x103)) then y
    else y.onBgn (fun b => { b with user := u })) d

/-- R451, R418: the lock of a holder whose domain is reset is cleared. -/
def Dev.clearBgn (d : Dev) (user : Nat) : Dev := if d.bgn.user = user then d.onBgn BigNum.released else d

/-- Two valid slots overlap. -/
def slotsOverlap (a b : Nat) : Bool :=
  slotValid a && slotValid b && decide (slotBase a < slotBase b + slotBytes b) && decide (slotBase b < slotBase a + slotBytes a)

/-- BGN_SLOT (R452, R462): a descriptor is set, or rejected and counted. -/
def Dev.bgnSlot (d : Dev) (s v : Nat) : Dev :=
  let x := d.bgn
  let w := v % 2 ^ 17 - (if bitOf v 11 then 2048 else 0)
  if !x.queue.isEmpty || 4 < slotCode w || 131072 < slotBase w + slotBytes w ||
      x.slots.any (fun e => e.1 ≠ s && slotsOverlap e.2 w) then d.bump Od.bgn_DESC_REJECTS 0
  else d.onBgn (fun b => { b with slots := b.slots.put 0 s w, cache := b.cache.filter (fun e => e.1 ≠ s) })

/-- The byte of the operand window at an offset (R453): bytes of a SECRET slot read 0. -/
def BigNum.windowByte (x : BigNum) (a : Nat) : Byte :=
  if x.slots.any (fun e => slotValid e.2 && slotSecret e.2 && decide (slotBase e.2 ≤ a) && decide (a < slotBase e.2 + slotBytes e.2)) then 0
  else x.mem.get 0 a

/-- A write through the operand window; bytes of a SECRET slot keep their value (R453). -/
def Dev.windowWrite (d : Dev) (a : Nat) (b : Bytes) : Dev :=
  d.onBgn (fun x => { x with mem := b.zipIdx.foldl (fun m e =>
    if x.slots.any (fun s => slotValid s.2 && slotSecret s.2 && decide (slotBase s.2 ≤ a + e.2) && decide (a + e.2 < slotBase s.2 + slotBytes s.2))
    then m else Tab.put 0 m (a + e.2) e.1) x.mem })

/-- BGN_CMD (R456, R460): a command is queued; a full queue is a target error (the answer is false); a command written while
ERROR is 1 is discarded. -/
def Dev.bgnCmd (d : Dev) (v : Nat) : Bool × Dev :=
  let x := d.bgn
  if x.error then (true, d.bump Od.bgn_DISCARDED 0)
  else if 16 ≤ x.queue.length then (false, d)
  else
    let c : BgnCmd := { op := bitsOf v 3 0, dst := bitsOf v 9 4, a := bitsOf v 15 10, b := bitsOf v 21 16, m := bitsOf v 27 22, arg := x.cmdExt }
    (true, d.onBgn (fun b => { b with queue := b.queue ++ [c] }))

/-- BGN_STATUS (R461). -/
def BigNum.status (x : BigNum) : Nat :=
  b2n (!x.queue.isEmpty) + 2 * (16 - x.queue.length) + 64 * b2n x.error + 256 * x.result + 65536 * (x.completed % 65536)

/-- A write into the BGN block by a user (R415, R451, R459–R462): whether the target took it. -/
def Dev.bgnWrite (d : Dev) (who off v : Nat) : Bool × Dev :=
  if off = 0 then (true, d.bgnLock [(who, v % 4096)])
  else if who = 0 || d.bgn.user ≠ who then (false, d)
  else if off = 4 then d.bgnCmd v
  else if off = 8 then (true, d.onBgn (fun b => { b with cmdExt := v }))
  else if off = 0xC then (true, if bitOf v 6 then d.onBgn (fun b => { b with error := false }) else d)
  else if 0x100 ≤ off && off < 0x200 then (true, d.bgnSlot ((off - 0x100) / 4) v)
  else if 0x10000 ≤ off && off < 0x30000 then (true, d.windowWrite (off - 0x10000) (toLe 4 v))
  else (true, d)

/-- A read of the BGN block. -/
def Dev.bgnRead (d : Dev) (off : Nat) : Nat :=
  let x := d.bgn
  if off = 0 then x.user
  else if off = 8 then x.cmdExt
  else if off = 0xC then x.status
  else if 0x100 ≤ off && off < 0x200 then x.slot ((off - 0x100) / 4)
  else if 0x10000 ≤ off && off < 0x30000 then leNat ((List.range 4).map (fun i => x.windowByte (off - 0x10000 + i)))
  else 0

/-! ## Commands (R454–R456) -/

/-- Modular power by squaring, over the bits of the exponent. -/
def powMod (a m : Nat) : Nat → Nat → Nat
  | 0, _ => 1 % m
  | k + 1, e =>
    let h := powMod a m k (e / 2)
    if e % 2 = 1 then h * h % m * (a % m) % m else h * h % m

/-- The extended Euclidean algorithm on fuel: the greatest common divisor of two numbers and the coefficient of the first. -/
def egcd : Nat → Int → Int → Int → Int → Int × Int
  | 0, r0, _, s0, _ => (r0, s0)
  | k + 1, r0, r1, s0, s1 => if r1 = 0 then (r0, s0) else egcd k r1 (r0 % r1) s1 (s0 - r0 / r1 * s1)

/-- The inverse of a number modulo another, where there is one. -/
def invMod (bits a m : Nat) : Option Nat :=
  let r := egcd (2 * bits) (a % m : Nat) (m : Nat) 1 0
  if r.1 = 1 then some (r.2 % (m : Int)).toNat else none

/-- A command fails: ERROR and RESULT, and every later queued command is discarded (R456). -/
def Dev.bgnFail (d : Dev) (r : Nat) : Dev :=
  (d.bump Od.bgn_DISCARDED 0 ((d.bgn.queue.length : Int) - 1)).onBgn (fun x => { x with queue := [], error := true, result := r })

/-- A command ends OK. -/
def Dev.bgnOk (d : Dev) (f : BigNum → BigNum) : Dev :=
  (d.onBgn (fun x => f { x with queue := x.queue.drop 1, result := 0, completed := x.completed + 1 })).bump Od.bgn_COMMANDS 0

/-- What a command needs of its slots: the result with which it fails, in the order SLOT, SIZE, NO_MOD (log entry 52). -/
def BigNum.slotsWrong (x : BigNum) (used : List Nat) (modulus : Option Nat) : Option Nat :=
  if used.any (fun s => !slotValid (x.slot s)) then some 6
  else if used.any (fun s => slotCode (x.slot s) ≠ slotCode (x.slot (used.headD 0))) then some 1
  else match modulus with
    | some m => if x.cache.any (fun e => e.1 == m) then none else some 2
    | none => none

/-- The prepared modulus of a slot, and the cache with it used last (R455). -/
def BigNum.modulus (x : BigNum) (s : Nat) : Nat := ((x.cache.find? (fun e => e.1 == s)).map (fun e => e.2)).getD 1

def BigNum.touch (x : BigNum) (s : Nat) : BigNum :=
  { x with cache := (x.cache.filter (fun e => e.1 == s)) ++ (x.cache.filter (fun e => e.1 ≠ s)) }

/-- Run a command on the values of its operands: RANGE where `check` fails, else the result of `f`. -/
def Dev.bgnArith (d : Dev) (c : BgnCmd) (binary range : Bool) (f : Nat → Nat → Nat → Nat) : Dev :=
  let x := d.bgn
  let used := if binary then [c.dst, c.a, c.b, c.m] else [c.dst, c.a, c.m]
  match x.slotsWrong used (some c.m) with
  | some r => d.bgnFail r
  | none =>
    let m := x.modulus c.m
    let a := x.value c.a
    let b := x.value c.b
    if range && (decide (m ≤ a) || (binary && decide (m ≤ b))) then d.bgnFail 3
    else d.bgnOk (fun y => (y.touch c.m).store c.dst (f a b m))

/-- Run the front of the engine's queue where it is of the OP named. -/
def Dev.bgnRun (d : Dev) (op : Nat) (f : Dev → BgnCmd → Dev) : Dev :=
  match d.bgn.queue with
  | c :: _ => if c.op = op then f d c else d
  | [] => d

/-- R⁻¹ modulo an odd modulus. -/
def rInv (bits m : Nat) : Nat := (invMod (bits + 2) (2 ^ bits % m) m).getD 0

def Dev.bgnBits (d : Dev) (c : BgnCmd) : Nat := bnBits (slotCode (d.bgn.slot c.dst))

def Dev.bgnAdd (d : Dev) : Dev := d.bgnRun 1 (fun d c => d.bgnArith c true true (fun a b m => (a + b) % m))
def Dev.bgnSub (d : Dev) : Dev := d.bgnRun 2 (fun d c => d.bgnArith c true true (fun a b m => (a + m - b) % m))
def Dev.bgnMul (d : Dev) : Dev := d.bgnRun 3 (fun d c => d.bgnArith c true true (fun a b m => a * b * rInv (d.bgnBits c) m % m))
def Dev.bgnToMont (d : Dev) : Dev := d.bgnRun 4 (fun d c => d.bgnArith c false false (fun a _ m => a * 2 ^ d.bgnBits c % m))
def Dev.bgnFromMont (d : Dev) : Dev := d.bgnRun 5 (fun d c => d.bgnArith c false true (fun a _ m => a * rInv (d.bgnBits c) m % m))

/-- INV (R455): a GCD other than 1 zeroes DST and ends with NOT_INVERTIBLE. -/
def Dev.bgnInv (d : Dev) : Dev :=
  d.bgnRun 6 (fun d c =>
    let x := d.bgn
    match x.slotsWrong [c.dst, c.a, c.m] (some c.m) with
    | some r => d.bgnFail r
    | none =>
      match invMod (d.bgnBits c) (x.value c.a) (x.modulus c.m) with
      | some v => d.bgnOk (fun y => (y.touch c.m).store c.dst v)
      | none => (d.onBgn (fun y => y.store c.dst 0)).bgnFail 5)

/-- EXP (R454, R455): the ladder runs over every bit of the exponent slot. -/
def Dev.bgnExp (d : Dev) : Dev := d.bgnRun 7 (fun d c => d.bgnArith c true false (fun a b m => powMod a m (d.bgnBits c) b))

/-- EXP_BLIND (R455): the exponent is B + r·ORD with a fresh 64-bit r, a free value (log entry 2). It waits while
the generator starts, and ends with RNG where it has failed (R466). -/
def Dev.bgnExpBlind (d : Dev) : Dev :=
  d.bgnRun 8 (fun d c =>
    let x := d.bgn
    match x.slotsWrong [c.dst, c.a, c.b, c.m, c.arg % 64] (some c.m) with
    | some r => d.bgnFail r
    | none =>
      match d.cry.rng.state with
      | .starting => d
      | .failed => d.bgnFail 8
      | _ =>
        let (n, d1) := (d.rngRequest 21).take
        let e := x.value c.b + (Config.freeWord n).toNat * x.value (c.arg % 64)
        d1.bgnOk (fun y => (y.touch c.m).store c.dst (powMod (x.value c.a) (x.modulus c.m) (d.bgnBits c + 65) e)))

def Dev.bgnCopy (d : Dev) : Dev :=
  d.bgnRun 9 (fun d c =>
    match d.bgn.slotsWrong [c.dst, c.a] none with
    | some r => d.bgnFail r
    | none => d.bgnOk (fun y => y.store c.dst (y.value c.a)))

/-- SET_MOD (R455): an even modulus is refused; the cache keeps the four prepared last used. -/
def Dev.bgnSetMod (d : Dev) : Dev :=
  d.bgnRun 10 (fun d c =>
    let v := d.bgn.value c.m
    match d.bgn.slotsWrong [c.m] none with
    | some r => d.bgnFail r
    | none =>
      if v % 2 = 0 then d.bgnFail 4
      else d.bgnOk (fun y => { y with cache := ((c.m, v) :: y.cache.filter (fun e => e.1 ≠ c.m)).take 4 }))

/-- RANDOM (R454): size + 64 drawn bits modulo M − 1, plus 1. It waits while the generator starts, and ends with RNG where it
has failed (R466). -/
def Dev.bgnRandom (d : Dev) : Dev :=
  d.bgnRun 11 (fun d c =>
    match d.bgn.slotsWrong [c.dst, c.m] (some c.m) with
    | some r => d.bgnFail r
    | none =>
      match d.cry.rng.state with
      | .starting => d
      | .failed => d.bgnFail 8
      | _ =>
        let (b, d1) := d.drawFrom 21 (d.bgnBits c / 8 + 8)
        d1.bgnOk (fun y => (y.touch c.m).store c.dst (leNat b % (y.modulus c.m - 1) + 1)))

/-- The value of a key as an operand: its bytes, most significant first. An ECDSA key is used in no other way, so each load is
one of its operations (R471; log entry 114). -/
def Dev.loadOperand (d : Dev) (s keyh : Nat) : Sum Nat Dev :=
  let w := d.bgn.slot s
  if !slotValid w || !slotSecret w then .inl 6
  else if 1 < slotCode w then .inl 1
  else match d.keyUse keyh [7] .firmware with
    | none => .inl 7
    | some (n, k) =>
      if k.key.length ≠ slotBytes w then .inl 1
      else if k.spent then .inl 7
      else .inr ((d.countUse n).onBgn (fun y => y.store s (beNat k.key)))

/-- LOAD_KEY (R454). -/
def Dev.bgnLoadKey (d : Dev) : Dev :=
  d.bgnRun 12 (fun d c =>
    match d.loadOperand c.dst c.arg with
    | .inl r => d.bgnFail r
    | .inr d1 => d1.bgnOk id)

/-- STORE_KEY (R454): the key of the slot that KEYH names becomes the operand's value. -/
def Dev.bgnStoreKey (d : Dev) : Dev :=
  d.bgnRun 13 (fun d c =>
    let w := d.bgn.slot c.a
    if !slotValid w || !slotSecret w then d.bgnFail 6
    else if 1 < slotCode w then d.bgnFail 1
    else match d.keyUse c.arg [7] .firmware with
      | none => d.bgnFail 7
      | some (s, k) =>
        if k.key.length ≠ slotBytes w then d.bgnFail 1
        else
          let v := toBe (slotBytes w) (d.bgn.value c.a)
          (({ d with cry.keys.slots := d.cry.keys.slots.ins s { k with key := v } } : Dev).writeRecord s).bgnOk id)

/-! ## BN_JOB (R458) -/

/-- BN_JOB: the answer is an OAP status. A malformed request is refused with RANGE. -/
def Dev.bnJob (d : Dev) (req : Bytes) : Nat × Dev :=
  let code := leAt req 0 1
  if d.bgn.job.state = 1 then (10, d)
  else if 4 < code || leAt req 1 3 ≠ 0 || req.length < 4 + 3 * (bnBits code / 8) then (8, d)
  else (0, d.onBgn (fun x => { x with job := { state := 1, request := req, result := [] } }))

/-- BN_JOB_DONE: DONE with the power, or FAILED for a modulus that SET_MOD refuses. -/
def Dev.bnJobDone (d : Dev) : Dev :=
  let j := d.bgn.job
  if j.state ≠ 1 then d
  else
    let n := bnBits (leAt j.request 0 1) / 8
    let base := beAt j.request 4 n
    let e := beAt j.request (4 + n) n
    let m := beAt j.request (4 + 2 * n) n
    if m % 2 = 0 then d.onBgn (fun x => { x with job := { j with state := 3 } })
    else d.onBgn (fun x => { x with job := { j with state := 2, result := toBe n (powMod base m (8 * n) e) } })

end Sys2Proof.Machine
end

