-- ==== Sys2Proof/Machine/HashOps.lean ====
section
/-!
DEFINITION. The hash array: its rings, jobs and completions (R435–R448, R450).
-/
namespace Sys2Proof.Machine

def Dev.hring (d : Dev) (r : Nat) : HashRing := d.cry.hash.rings.get {} r

def Dev.setHring (d : Dev) (r : Nat) (x : HashRing) : Dev := { d with cry.hash.rings := d.cry.hash.rings.put {} r x }

/-- HSH_JQ_TAIL (R116, R439, R447): new jobs, or a bad position, which is ignored. -/
def Dev.hashTail (d : Dev) (r pos : Nat) : Dev :=
  let x := d.hring r
  if !x.valid then d
  else match ringAhead x.jobLog2 x.jobTail (pos % 2 ^ 17) with
    | none => d
    | some n => if 2 ^ x.jobLog2 - (x.jobTail - x.jobHead) < n then d else d.setHring r { x with jobTail := x.jobTail + n }

/-- HSH_CQ_HEAD (R116, R439, R447). -/
def Dev.hashHead (d : Dev) (r pos : Nat) : Dev :=
  let x := d.hring r
  if !x.valid then d
  else match ringAhead x.cplLog2 x.cplHead (pos % 2 ^ 17) with
    | none => d
    | some n => if x.cplTail - x.cplHead < n then d else d.setHring r { x with cplHead := x.cplHead + n }

/-- Jobs of a ring that have started and not ended. -/
def Dev.ringRunning (d : Dev) (r : Nat) : Nat := (d.cry.hash.running.filter (fun j => j.ring == r)).length

/-- A completion record (R439): its bytes at its ring position. -/
def Dev.hashRecord (d : Dev) (r tag status compressions : Nat) : Dev :=
  let x := d.hring r
  let rec' := toLe 8 tag ++ [BitVec.ofNat 8 status, BitVec.ofNat 8 (1 - x.cplTail / 2 ^ x.cplLog2 % 2), 0, 0] ++ toLe 4 (min compressions 0xFFFFFFFF)
  let a := x.cplBase + 16 * (x.cplTail % 2 ^ x.cplLog2)
  let d1 := (d.setHring r { x with cplTail := x.cplTail + 1 }).bump Od.hsh_COMPRESSIONS 0 compressions
  if r = 7 then d1.emitPf 0 (.dma a rec') else { d1 with bufOut := d1.bufOut ++ [.put a rec'] }

/-- HSH_RING_CFG (R439, R446): latch the rings; clearing RING_VALID ends each unstarted job ABORTED. `tags` are the TAGs of the
unstarted descriptors, as they stand in the ring. Rings 5 and 6 are reserved, and ring 7's lie in PF0's window (R284, R438). -/
def Dev.hashCfg (d : Dev) (r v : Nat) (tags : List Nat) : Dev :=
  let x := d.hring r
  let j := bitsOf v 3 0
  let c := bitsOf v 11 8
  if r = 5 || r = 6 then d
  else if bitOf v 31 then
    if x.valid || !(decide (4 ≤ j ∧ j ≤ 12) && decide (4 ≤ c ∧ c ≤ 12)) ||
        (r = 7 && !(d.inWindow 0 x.jobBase (64 * 2 ^ j) && d.inWindow 0 x.cplBase (16 * 2 ^ c))) then d
    else d.setHring r { x with valid := true, jobLog2 := j, cplLog2 := c, jobTail := 0, jobHead := 0, cplTail := 0, cplHead := 0 }
  else if x.valid then
    let n := x.jobTail - x.jobHead
    let free := 2 ^ x.cplLog2 - (x.cplTail - x.cplHead) - d.ringRunning r
    let d1 := (List.range (min n free)).foldl (fun y i => y.hashRecord r (tags.getD i 0) 6 0) d
    d1.setHring r { d1.hring r with valid := false, jobHead := x.jobTail, jobLog2 := j, cplLog2 := c }
  else d.setHring r { x with jobLog2 := j, cplLog2 := c }

/-- HSH_JQ_BASE and HSH_CQ_BASE words (R445): 0 job low, 1 job high, 2 completion low, 3 completion high. -/
def Dev.hashBase (d : Dev) (r k v : Nat) : Dev :=
  let x := d.hring r
  let lo (b : Nat) := b / 2 ^ 32 * 2 ^ 32 + v / 4096 * 4096
  let hi (b : Nat) := b % 2 ^ 32 + v * 2 ^ 32
  if x.valid then d
  else if k = 0 then d.setHring r { x with jobBase := lo x.jobBase }
  else if k = 1 then d.setHring r { x with jobBase := hi x.jobBase }
  else if k = 2 then d.setHring r { x with cplBase := lo x.cplBase }
  else d.setHring r { x with cplBase := hi x.cplBase }

/-- The key user of a ring (R438). -/
def ringUser (r : Nat) : KeyUser := if r = 7 then .host else if r = 4 then .engine else .firmware

/-- The purser whose access check unit checks a ring's addresses (R396, R438; log entry 50). -/
def ringMaster (r : Nat) : Nat := if r < 4 then 136 + r else 136

/-- The key of a job (R437, R438): `Sum.inl` carries the status that refuses it. -/
def Dev.hashKey (d : Dev) (r op fl keyh : Nat) (aux : Option Bytes) : Sum Nat (Bytes × Nat) :=
  let src := fl % 4
  let opBit := if op = 2 then 2 else if op = 3 || op = 4 then 3 else 4
  if src = 1 then
    match d.keyUse keyh [opBit] (ringUser r) with
    | some (s, k) => if (op = 5 || op = 6) && k.spent then .inl 2 else .inr (if op = 6 then k.pub else k.key, s)
    | none => .inl 2
  else if src = 2 then
    if r = 7 || 3 < r then .inl 8
    else match d.cry.hash.ports.find r with
      | some (_, k) => .inr (k, 0)
      | none => .inl 5
  else if src = 3 then
    match aux with
    | some k => .inr (k, 0)
    | none => .inl 4
  else .inr ([], 0)

/-- OUT_LEN of a job (R437). -/
def outLenOk (op param n : Nat) : Bool :=
  match op with
  | 1 | 2 | 3 => n == 32
  | 4 => decide (1 ≤ n ∧ n ≤ 8160)
  | 5 => n == (if param % 4 = 1 then 7856 else 17088)
  | _ => n == 0

/-- The form of a descriptor (R436, R437). -/
def hashFormOk (op param fl cls : Nat) (desc : Bytes) : Bool :=
  let slh := op = 5 || op = 6
  decide (1 ≤ op ∧ op ≤ 6) && decide (fl < 32) && decide (cls ≤ 2) && allZero (sliceB desc 56 8) &&
    (if slh then (param % 4 = 1 || param % 4 = 2) && decide (param % 128 < 4) else param = 0) &&
    (op = 5 || !bitOf fl 3) && (op = 6 || !bitOf fl 4) && (!bitOf fl 2 || (op ≠ 5 && op ≠ 6)) &&
    (op ≠ 1 || fl % 4 = 0) && (op ≠ 5 || fl % 4 = 1) && ((op ≠ 2 && op ≠ 4) || fl % 4 ≠ 0) &&
    (op ≠ 6 || fl % 4 = b2n (!bitOf fl 4)) &&
    (!bitOf fl 2 || allZero (sliceB desc 32 8))

/-- Compressions of a SHA-256 chain over `n` bytes. -/
def shaCount (n : Nat) : Nat := (n + 72) / 64

/-- Compressions of an HMAC over `n` bytes. -/
def hmacCount (k n : Nat) : Nat := (if 64 < k then shaCount k else 0) + shaCount (64 + n) + 2

/-- The message that an SLH-DSA job signs or checks (R436): M' with the empty context, or the caller's own. -/
def slhMessage (param : Nat) (m : Bytes) : Bytes := if 128 ≤ param then m else slhPure m

/-- R440, R444, R600, R604: a hash job draws on SIGN in class BULK and on GENERAL in any other; while that class is granted
nothing of what it demands, the groups hold their cores idle and the job waits (log entry 168). -/
def Dev.hashIdle (d : Dev) (cls : Nat) : Bool :=
  let c := if cls = 2 then 2 else 4
  decide (0 < d.pwr.classDemand.get 0 c) && decide (d.pwr.classGrant.get 0 c = 0)

/-- HASH_SHA256 to SLH_VERIFY (R436–R443): the next job of a ring starts, where it is of the kind named and a completion slot
is free beyond those reserved. `selfOk` is the verdict of the array's check of its own signature, `agree` says that the two
comparators of a verification agree. -/
def Dev.hashStart (d : Dev) (r op : Nat) (f : HashFetch) (selfOk agree : Bool) : Dev :=
  let x := d.hring r
  let desc := f.desc
  if !x.valid || x.jobHead = x.jobTail || leAt desc 0 1 ≠ op || d.cfgN Od.hsh_CORES_IN_SERVICE 0 = 0 ||
      2 ^ x.cplLog2 ≤ (x.cplTail - x.cplHead) + d.ringRunning r || d.flt.chipSafe || d.hashIdle (leAt desc 3 1) then d
  else
    let d0 := d.setHring r { x with jobHead := x.jobHead + 1 }
    let param := leAt desc 1 1
    let fl := leAt desc 2 1
    let keyh := leAt desc 4 4
    let outKeyh := if bitOf fl 2 then some (leAt desc 44 4) else none
    let outLen := leAt desc 40 4
    let job (status : Nat) (out : Bytes) (n : Nat) : HashJob :=
      { ring := r, op := op, param := param, tag := leAt desc 48 8, status := status, out := out, outAddr := leAt desc 32 8,
        outKeyh := outKeyh, keyh := if fl % 4 = 1 then keyh else 0, compressions := n }
    let start (y : Dev) (j : HashJob) : Dev := { y with cry.hash.running := y.cry.hash.running ++ [j] }
    if !hashFormOk op param fl (leAt desc 3 1) desc then start d0 (job 5 [] 0)
    else if r = 7 && fl % 4 = 2 then start d0 (job 8 [] 0)
    else if !outLenOk op param outLen || (fl % 4 = 3 && !decide (1 ≤ leAt desc 20 4 ∧ leAt desc 20 4 ≤ 4096)) ||
        (op = 6 && leAt desc 20 4 ≠ (if param % 4 = 1 then 7856 else 17088)) then start d0 (job 3 [] 0)
    else
      match f.input, d0.hashKey r op fl keyh f.aux with
      | none, _ => start d0 (job 4 [] 0)
      | _, .inl s => start d0 (job s [] 0)
      | some m, .inr (k, s) =>
        let outOk := match outKeyh with
          | some h => (d0.keyUse h [2, 3, 0, 1] (ringUser r)).isSome
          | none => true
        if op = 6 && (f.aux.isNone || (bitOf fl 4 && f.pk.isNone)) then start d0 (job 4 [] 0)
        else if !outOk then start d0 (job 2 [] 0)
        else
          let d1 := if fl % 4 = 1 && op = 5 then d0.countUse s else d0
          match op with
          | 1 => start d1 (job 0 (sha256 m) (shaCount m.length))
          | 2 => start d1 (job 0 (hmac k m) (hmacCount k.length m.length))
          | 3 => start d1 (job 0 (hkdfExtract k m) (hmacCount k.length m.length))
          | 4 => start d1 (job 0 (hkdfExpand k m outLen) ((outLen + 31) / 32 * hmacCount k.length (m.length + 33)))
          | 5 =>
            if !bitOf fl 3 && d1.cry.rng.state == .failed then start d1 (job 7 [] 0)
            else
              let (n, d2) := (if bitOf fl 3 then d1 else d1.rngRequest 23).take
              let sig := (Config.pkSign (100 * (param % 4) + b2n (bitOf fl 3) + 10 * (if bitOf fl 3 then 0 else n + 1)) k (slhMessage param m)).take outLen
              let used := (Config.freeNat n) % ((if param % 4 = 1 then 2250000 else 125000) + 1)
              if selfOk then start d2 (job 0 (padTo outLen sig) used) else start d2 (job 7 (List.replicate outLen 0) used)
          | _ =>
            let (n, d2) := d1.take
            let used := (Config.freeNat n) % ((if param % 4 = 1 then 2500 else 7500) + 1)
            let key := if bitOf fl 4 then f.pk.getD [] else k
            let good := Config.pkVerify (param % 4) key (slhMessage param m) (f.aux.getD [])
            start d2 (job (if !agree then 7 else if good then 0 else 1) [] used)

/-- HASH_JOB_DONE (R439, R442, R443): a running job ends: its output, its counters, its events and its record. -/
def Dev.hashDone (d : Dev) (i : Nat) : Dev :=
  match d.cry.hash.running[i]? with
  | none => d
  | some j =>
    let d1 := { d with cry.hash.running := d.cry.hash.running.eraseIdx i }
    let d2 :=
      if j.out.isEmpty || (j.status ≠ 0 && j.status ≠ 7) then d1
      else match j.outKeyh with
        | some h => { d1 with cry.keys.slots := d1.cry.keys.slots.upd (h % 4096) (fun k => { k with key := j.out.take (leAt k.policy 6 1) }) }
        | none =>
          if j.ring = 7 then d1.emitPf 0 (.dma j.outAddr j.out) else { d1 with bufOut := d1.bufOut ++ [.put j.outAddr j.out] }
    let d3 := if j.op = 5 && j.status = 0 then d2.bump Od.hsh_SIGNATURES 0
      else if j.op = 6 && (j.status = 0 || j.status = 1) then d2.bump Od.hsh_VERIFICATIONS 0 else d2
    let d4 := if j.op = 6 && j.status = 1 then d3.bump Od.hsh_SIG_INVALID 0 else d3
    let d5 := if j.status = 7 && (j.op = 6 || !j.out.isEmpty) then (d4.bump Od.hsh_FAULTS 0).raise 24 (if j.op = 6 then 0x12 else 0x11) j.ring else d4
    d5.hashRecord j.ring j.tag j.status j.compressions

/-- HASH_SELFTEST (R435): a core that fails is removed. -/
def Dev.hashSelftest (d : Dev) (core : Nat) (pass : Bool) : Dev :=
  if pass || core ∈ d.cry.hash.retired then d
  else
    (({ d with cry.hash.retired := insSorted (fun x => (x : Int)) core d.cry.hash.retired }).bump Od.hsh_CORES_IN_SERVICE 0 (-1)).raise 24 0x10 core

end Sys2Proof.Machine
end

