-- ==== Sys2Proof/Machine/KeyOps.lean ====
section
/-!
DEFINITION. The key store's actions and the erasures (R469–R477, R479).
-/
namespace Sys2Proof.Machine

def Dev.keySlot (d : Dev) (s : Nat) : KeySlot := d.cry.keys.slots.get {} s

/-- R474: a running LOAD_KEY or STORE_KEY of the slot ends ABORTED. -/
def Dev.abortBgn (d : Dev) (s : Nat) : Dev :=
  d.bgn.queue.head?.elim d (fun c => if (c.op = 12 || c.op = 13) && c.arg % 4096 = s then d.bgnFail 9 else d)

/-- R474: every copy of a slot's key leaves the engines: cores abort and unload, jobs end ABORTED, ports are zeroed. -/
def Dev.dropCopies (d : Dev) (s : Nat) : Dev :=
  let d1 := (d.unloadSlot s).abortBgn s
  { d1 with cry.hash.running := d1.cry.hash.running.map (fun j => if j.keyh ≠ 0 && j.keyh % 4096 == s && j.status == 0 then { j with status := 6, out := [] } else j),
            cry.hash.ports := d1.cry.hash.ports.filter (fun e => e.2.1 % 4096 ≠ s) }

/-- The checks common to GENERATE and IMPORT: RANGE for a malformed policy, STATE for a slot that may not take a key. -/
def Dev.keySlotRefusal (d : Dev) (s rsv : Nat) (policy : Bytes) : Option Nat :=
  if rsv ≠ 0 || 4096 ≤ s || !policyOk policy || (bitOf (leAt policy 5 1) 0 && 1024 ≤ s) then some 8
  else if s < 64 || (d.keySlot s).full then some 9
  else none

/-- KEY_GENERATE (R472): the answer is an OAP status. -/
def Dev.keyGenerate (d : Dev) (req : Bytes) : Nat × Dev :=
  let s := leAt req 0 2
  let policy := sliceB req 4 16
  if req.length ≠ 20 then (7, d)
  else match d.keySlotRefusal s (leAt req 2 2) policy with
    | some r => (r, d)
    | none =>
      if d.cry.rng.state = .failed then (9, d)
      else
        let (k, d1) := d.drawFrom 24 (leAt policy 6 1)
        (0, (d1.dropCopies s).fillSlot s policy k (publicKey (leAt policy 0 1) k))

/-- KEY_IMPORT (R472). -/
def Dev.keyImport (d : Dev) (req : Bytes) : Nat × Dev :=
  let s := leAt req 0 2
  let policy := sliceB req 4 16
  if req.length ≠ 84 then (7, d)
  else match d.keySlotRefusal s (leAt req 2 2) policy with
    | some r => (r, d)
    | none =>
      let k := sliceB req 20 (leAt policy 6 1)
      (0, (d.dropCopies s).fillSlot s policy k (publicKey (leAt policy 0 1) k))

/-- R472: a policy only narrows another: OPS, USERS and STATES lose bits, LANE goes from 0xFF to one lane, USE_LIMIT falls. -/
def narrows (old new : Bytes) : Bool :=
  let sub (a n : Nat) := leAt new a n &&& leAt old a n == leAt new a n
  sub 1 1 && sub 2 2 && sub 4 1 && leAt new 0 1 == leAt old 0 1 && sliceB new 5 3 == sliceB old 5 3 &&
    decide (leAt new 8 4 ≤ leAt old 8 4) && (leAt new 12 1 == leAt old 12 1 || (leAt old 12 1 == 0xFF && leAt new 12 1 != 0xFF)) &&
    allZero (sliceB new 13 3)

/-- KEY_RESTRICT (R472). -/
def Dev.keyRestrict (d : Dev) (req : Bytes) : Nat × Dev :=
  let s := leAt req 0 2
  let policy := sliceB req 4 16
  let x := d.keySlot s
  if req.length ≠ 20 then (7, d)
  else if leAt req 2 2 ≠ 0 || 4096 ≤ s then (8, d)
  else if s < 64 || !x.full || !narrows x.policy policy then (9, d)
  else
    (0, ({ d with cry.keys.slots := d.cry.keys.slots.ins s { x with policy := policy } } : Dev).writeRecord s)

/-- KEY_DESTROY (R474). -/
def Dev.keyDestroy (d : Dev) (s : Nat) : Nat × Dev :=
  if 4096 ≤ s then (8, d)
  else if s < 64 then (9, d)
  else
    let d1 := d.dropCopies s
    (0, { d1 with cry.keys.slots := d1.cry.keys.slots.del s, cry.keys.records := d1.cry.keys.records.filter (fun r => r.slot ≠ s) })

/-- R474: a life-cycle transition unloads every key whose STATES excludes the new state. -/
def Dev.gateKeys (d : Dev) (st : LcState) : Dev :=
  (d.cry.keys.slots.filter (fun e => !statesAdmit e.2.states st)).foldl (fun y e => y.dropCopies e.1) d

/-- R476: an erasure, volatile or full. A full one programs the wrap salt to zeros, and no wrapped record is readable any more. -/
def Dev.eraseKeys (d : Dev) (full : Bool) : Dev :=
  let ks := d.cry.keys
  let d1 := { d with
    cry.keys := { ks with slots := [], salt := if full then List.replicate 32 0 else ks.salt, erased := true, fullErase := full },
    cry.cores := d.cry.cores.mapVals (fun _ (x : CipherCore) => { user := x.user, result := if x.busy then 10 else x.result }),
    cry.hash := { d.cry.hash with ports := [], running := d.cry.hash.running.map (fun (j : HashJob) =>
      if j.keyh ≠ 0 && j.status == 0 then { j with status := 6, out := [] } else j) },
    cry.bgn := { d.cry.bgn with mem := [], cache := [] },
    cry.rng := { clients := [], excluded := [], state := .starting },
    net.sessions := d.net.sessions.mapVals (fun _ (s : Session) => { s with keys := none, nextKeys := none }) }
  let d2 := if full then { d1 with ctl.tag.key := List.replicate 16 0, net.sessions := d1.net.sessions.mapVals (fun _ (s : Session) => { s with resume := none }) } else d1
  (d2.bump Od.kac_ERASURES 0).raise 25 0x30 0 [b2i full]

/-- KEY_STATUS (R477). -/
def Dev.keyStatus (d : Dev) : Nat :=
  (d.cry.keys.slots.filter (fun e => e.2.full)).length + 65536 * b2n d.cry.keys.loaded + 131072 * b2n d.cry.keys.erased + 262144 * b2n d.cry.keys.fullErase

/-- RNG_STATUS (R468). -/
def Dev.rngStatus (d : Dev) : Nat :=
  d.cry.rng.state.code + 4 * d.cry.rng.groups.foldl (fun a g => a + 2 ^ g) 0

/-- R476: where there is no wrap salt, the region is erased and a new salt generated. -/
def Dev.saltStart (d : Dev) : Dev :=
  if allZero d.cry.keys.salt then
    let (b, d1) := d.drawFrom 24 32
    { d1 with cry.keys.salt := b, cry.keys.records := [] }
  else d

/-- R471, R473: one record at a start. It fills its slot unless a record of a higher generation has; USES restarts at the
reservation. One whose CRC or tag fails raises KEY_RECORD_BAD. -/
def Dev.loadRecord (d : Dev) (wk : Bytes) (r : KeyRecord) : Dev :=
  match recordOpen wk r.raw with
  | none => d.raise 25 0x32 r.slot
  | some (policy, key) =>
    if (d.keySlot r.slot).full && decide (r.generation < (d.keySlot r.slot).generation) then d
    else { d with cry.keys.slots := d.cry.keys.slots.ins r.slot { generation := r.generation, full := true, policy := policy, key := key, uses := r.reserved,
                                                                  pub := publicKey (leAt policy 0 1) key } }

/-- R473: at a start each slot takes its record with the highest generation that checks. -/
def Dev.loadKeys (dev : Dev) : Dev :=
  let d := dev.saltStart
  let d1 := d.cry.keys.records.foldl (fun y r => y.loadRecord d.wrapKey r) d
  { d1 with cry.keys.loaded := true }

end Sys2Proof.Machine
end

