-- ==== Sys2Proof/Machine/LifeOps.lean ====
section
/-!
DEFINITION. The life-cycle logic: nonces, requests and their checks, transitions, anchors, the chain, debug scopes, the unit
identity and Efuth records (R480–R499).
-/
namespace Sys2Proof.Machine

def Dev.lcy (d : Dev) : LifeCycle := d.cry.lcy

def Dev.onLcy (d : Dev) (f : LifeCycle → LifeCycle) : Dev := { d with cry.lcy := f d.cry.lcy }

/-- R480: the state that a word stands for. -/
def LcState.ofWord (w : Nat) : LcState :=
  match w with
  | 0xAAAAAAAA => .blank
  | 0xCCCCCCCC => .testUnlocked
  | 0xF0F0F0F0 => .manufactured
  | 0x66666666 => .provisioned
  | 0x5A5A5A5A => .operational
  | 0x3C3C3C3C => .diagnostic
  | 0x96969696 => .decommissioned
  | 0x55555555 => .scrap
  | _ => .lost

/-- R480: the word of a state; LOST has none and is never written. -/
def LcState.word : LcState → Nat
  | .lost => 0
  | .blank => 0xAAAAAAAA
  | .testUnlocked => 0xCCCCCCCC
  | .manufactured => 0xF0F0F0F0
  | .provisioned => 0x66666666
  | .operational => 0x5A5A5A5A
  | .diagnostic => 0x3C3C3C3C
  | .decommissioned => 0x96969696
  | .scrap => 0x55555555

def LcState.ofCode (n : Nat) : LcState :=
  match n with
  | 1 => .blank
  | 2 => .testUnlocked
  | 3 => .manufactured
  | 4 => .provisioned
  | 5 => .operational
  | 6 => .diagnostic
  | 7 => .decommissioned
  | 8 => .scrap
  | _ => .lost

/-- R482: states without Sollatu's owner: the die number names the unit and anchor 1 acts (R483, R484). -/
def LcState.early : LcState → Bool
  | .blank | .testUnlocked | .manufactured => true
  | _ => false

/-- R483: a trust anchor; anchors 0 and 1 are in fuses (log entry 5). -/
def Dev.anchor (d : Dev) (n : Nat) : Anchor :=
  if n = 0 then { state := 1, rights := 0x10, pub := Config.factoryBytes (odKey 0x1110 3 0) }
  else if n = 1 then { state := 1, rights := 0x60, pub := Config.factoryBytes (odKey 0x1110 3 1) }
  else d.lcy.anchors.get {} n

/-! ## Nonces (R485) -/

/-- The nonce of the client DRBG of resident purser firmware on PU0 becomes the outstanding one. -/
def Dev.lcNonce (d : Dev) (tap : Bool) : Dev :=
  if !d.rngUp then d
  else
    let (b, d1) := d.drawFrom 0 32
    (d1.onLcy (fun x => { x with nonce := some (b, d.now) })).emit (if tap then .jtag 256 (leNat b) else .readValue (.bytes b))

/-- The outstanding nonce. -/
def Dev.nonce (d : Dev) : Option Bytes :=
  match d.lcy.nonce with
  | some (b, t) => if d.now < t + 600 * sec then some b else none
  | none => none

/-- NONCE_EXPIRY. -/
def Dev.nonceExpiry (d : Dev) : Dev := d.onLcy (fun x => if d.nonce.isNone then { x with nonce := none } else x)

/-! ## Requests (R484, R486, R487) -/

/-- A life-cycle request by its fields. -/
structure LcReq where
  kind : Nat
  from_ : Nat
  to_ : Nat
  unit : Bytes
  nonce : Bytes
  keyId : Nat
  expires : Bytes
  scope : Nat
  payload : Bytes
  signed : Bytes
  sig : Bytes
deriving DecidableEq, Repr

def lcReqOf (b : Bytes) : LcReq :=
  let n := leAt b 60 4
  { kind := leAt b 5 1, from_ := leAt b 6 1, to_ := leAt b 7 1, unit := sliceB b 8 16, nonce := sliceB b 24 32, keyId := leAt b 56 4,
    expires := sliceB b 64 12, scope := leAt b 76 4, payload := sliceB b 96 n, signed := b.take (96 + n), sig := sliceB b (96 + n) 7856 }

/-- An anchor entry: number, state, rights, key (R484). -/
def anchorEntries : Nat → Bytes → List (Nat × Anchor)
  | 0, _ => []
  | k + 1, b =>
    if b.isEmpty then []
    else (leAt b 0 1, { state := leAt b 1 1, rights := leAt b 2 2, pub := sliceB b 4 32 }) :: anchorEntries k (b.drop 36)

/-- R483, R484: anchor entries are well formed; owner anchors never hold FIRMWARE. -/
def anchorsFormOk (p : Bytes) : Bool :=
  decide (p.length % 36 = 0) && decide (1 ≤ p.length / 36 ∧ p.length / 36 ≤ 14) &&
    (anchorEntries 14 p).all (fun e => decide (2 ≤ e.1 ∧ e.1 ≤ 15 ∧ e.2.state ≤ 2 ∧ e.2.rights < 256) && !bitOf e.2.rights 4)

/-- R484: the form of a request. -/
def lcFormOk (b : Bytes) (r : LcReq) : Bool :=
  decide (b.length = 96 + leAt b 60 4 + 7856) && decide (leAt b 60 4 ≤ 32768) && decide (b.take 4 = ascii "LCRQ") && decide (leAt b 4 1 = 1) &&
    allZero (sliceB b 80 16) && (timeOfLe r.expires).isSome && (r.kind == 1 || r.to_ == 0) && decide (r.scope < 32) && (r.kind == 2 || r.scope == 0) &&
    (match r.kind with
      | 1 => if r.from_ = 3 && r.to_ = 4 then anchorsFormOk r.payload else r.payload.isEmpty
      | 2 => r.payload.isEmpty
      | 3 => anchorsFormOk r.payload
      | 4 => !r.payload.isEmpty && (chainCerts 3 r.payload).isSome
      | _ => false)

/-- Who signs a transition (R486). -/
inductive Signer where
  | anchor1 | claim | owner | ownerOr1
deriving DecidableEq, Repr

/-- A row of R486: who signs, and the token it takes: 0 none, 1 test, 2 diagnostic. -/
def lcRow (from_ to_ : Nat) : Option (Signer × Nat) :=
  match from_, to_ with
  | 1, 2 | 3, 2 => some (.anchor1, 1)
  | 2, 3 => some (.anchor1, 0)
  | 3, 4 => some (.claim, 0)
  | 4, 5 | 5, 4 | 6, 5 => some (.owner, 0)
  | 5, 6 => some (.owner, 2)
  | 4, 7 | 5, 7 | 6, 7 => some (.owner, 0)
  | 7, 8 => some (.ownerOr1, 0)
  | 1, 8 | 2, 8 | 3, 8 => some (.anchor1, 0)
  | _, _ => none

/-- The key that may sign a request, where KEY_ID names an anchor with the right (R483, R486, R487). The claim of a unit is
signed by the key that its entry for anchor 2 installs. -/
def Dev.lcSigner (d : Dev) (r : LcReq) : Option Bytes :=
  let a := d.anchor r.keyId
  let st := d.lcy.state
  let right := if r.kind = 2 then 6 else if r.kind = 3 then 7 else 5
  let holds := decide (r.keyId < 16) && decide (a.state = 1) && bitOf a.rights right
  let owner := holds && decide (2 ≤ r.keyId)
  let one := holds && decide (r.keyId = 1)
  let ok := match r.kind, lcRow r.from_ r.to_ with
    | 1, some (.anchor1, _) => one && st.early
    | 1, some (.owner, _) => owner
    | 1, some (.ownerOr1, _) => owner || one
    | 1, some (.claim, _) => false
    | 2, _ => if st.early then one else owner
    | _, _ => owner || (one && st.early)
  if r.kind = 1 && lcRow r.from_ r.to_ = some (.claim, 0) then
    match (anchorEntries 14 r.payload).find? (fun e => e.1 == 2) with
    | some e => if r.keyId = 2 && e.2.state = 1 && bitOf e.2.rights 5 && bitOf e.2.rights 7 then some e.2.pub else none
    | none => none
  else if ok then some a.pub else none

/-- Anchors after installing entries. -/
def installAnchors (t : Tab Anchor) (l : List (Nat × Anchor)) : Tab Anchor := l.foldl (fun t e => t.put {} e.1 e.2) t

/-- R483: some active owner anchor holds ANCHORS. -/
def anchorsLeft (t : Tab Anchor) : Bool := t.any (fun e => decide (e.2.state = 1) && bitOf e.2.rights 7)

/-- A supply, clock or temperature monitor has raised an event in the last 100 ms, or a tamper alarm is pending (R487). -/
def Dev.monitorNoise (d : Dev) : Bool :=
  (match d.flt.lastMonitor with
    | some t => decide (d.now < t + 100 * ms)
    | none => false) || d.flt.active.has 0x046 || d.flt.active.has 0x047

/-- Tokens left of a kind. -/
def LifeCycle.tokens (x : LifeCycle) (k : Nat) : Nat := if k = 1 then x.testTokens else if k = 2 then x.diagTokens else 1

/-- R487: the result with which a request is refused, 0 for none, in the order of the table; whether it was verified against
the nonce; and whether the two passes disagreed. -/
def Dev.lcCheck (d : Dev) (b : Bytes) (r : LcReq) (agree : Bool) : Nat × Bool × Bool :=
  let x := d.lcy
  let unit := if x.state.early then d.oct Od.idn_DIE_ID 0 else d.oct Od.idn_UNIT_ID 0
  let late := match timeOfLe r.expires with
    | some t => decide (t ≠ 0) && decide (t < d.now)
    | none => false
  let row := lcRow r.from_ r.to_
  let entries := anchorEntries 14 r.payload
  if !lcFormOk b r || x.state = .lost then (1, false, false)
  else if r.unit ≠ unit then (2, false, false)
  else if d.nonce ≠ some r.nonce then (3, false, false)
  else if late then (4, true, false)
  else
    let refuse (n : Nat) := (n, true, false)
    match d.lcSigner r with
    | none => refuse 5
    | some pub =>
      if (r.kind = 3 || (r.kind = 1 && !entries.isEmpty)) && !anchorsLeft (installAnchors x.anchors entries) then refuse 5
      else if !agree then (6, true, true)
      else if !Config.pkVerify algSlh128s pub (slhPure r.signed) r.sig then refuse 6
      else if r.from_ ≠ x.state.code || (r.kind = 1 && row.isNone) then refuse 7
      else if r.kind = 2 && !(x.state = .blank || x.state = .testUnlocked || x.state = .diagnostic) then refuse 7
      else if r.kind = 1 && x.tokens ((row.map (fun e => e.2)).getD 0) = 0 then refuse 8
      else if !d.man.holdupOk then refuse 9
      else if d.monitorNoise then refuse 10
      else if r.kind = 1 && !(LcState.ofCode r.to_).full && (d.man.items.any (fun e => decide (e.1 < 131072)) || !d.fry.twin.mirror.isEmpty) then refuse 11
      else if x.busy then refuse 12
      else if r.kind = 4 && Config.chainKey r.payload ≠ d.oct Od.idn_IDENTITY_PUBLIC 0 then refuse 1
      else (0, true, false)

/-- A request is refused with a result: LC_RESULT and LC_REFUSED; a disagreement of the two passes raises LC_DECISION (R487,
R517). -/
def Dev.lcRefuse (d : Dev) (r : Nat) (disagree : Bool) : Dev :=
  let d1 := (d.onLcy (fun x => { x with result := r })).raise 26 0x41 0xFFFF [(r : Int)]
  if disagree then d1.fault 0x048 0xFFFF none [] else d1

/-- The bytes hold a request of another KIND of R484 than a command's: such a command changes nothing (log entry 1). -/
def lcOther (b : Bytes) (kind : Nat) : Bool :=
  let k := leAt b 5 1
  decide (k ≠ kind) && decide (1 ≤ k ∧ k ≤ 4)

/-- Check a request; where it passes, carry it out. The answer is the result. -/
def Dev.lcRequest (d : Dev) (b : Bytes) (agree : Bool) (act : LcReq → Dev → Dev) : Nat × Dev :=
    let r := lcReqOf b
    let (res, used, disagree) := d.lcCheck b r agree
    let d1 := if used then d.onLcy (fun x => { x with nonce := none }) else d
    if res = 0 then (0, act r (d1.onLcy (fun x => { x with result := 0 }))) else (res, d1.lcRefuse res disagree)

/-- The OAP answer of a life-cycle request: a refused one is answered STATE, and LC_RESULT says why (log entry 59). -/
def lcAnswered (r : Nat × Dev) : Dev := answered ((if r.1 = 0 then 0 else 9), r.2)

/-! ## What the requests do (R488, R492, R495) -/

/-- R488, step 4: a token fuse is burnt. -/
def LifeCycle.burn (x : LifeCycle) (k : Nat) : LifeCycle :=
  if k = 1 then { x with testTokens := x.testTokens - 1 } else if k = 2 then { x with diagTokens := x.diagTokens - 1 } else x

/-- The loss of VDD_AON: everything but fuses, the life-cycle store and flash is gone; the rest is reset at the next start. -/
def Dev.aonLost (d : Dev) : Dev :=
  { d with sys.phase := .off, que.man.retention := false, cry.lcy.nonce := none }

/-- LC_TRANSITION from step 4 on (R488, R489). `cut` is the step in which VDD_AON is lost, where it is. -/
def Dev.lcTransition (d : Dev) (b : Bytes) (agree : Bool) (cut : Option Nat) : Dev :=
  if lcOther b 1 then d else lcAnswered (d.lcRequest b agree (fun r d =>
    let st := LcState.ofCode r.to_
    let token := ((lcRow r.from_ r.to_).map (fun e => e.2)).getD 0
    let burnt := d.onLcy (fun x => x.burn token)
    match cut with
    | some k =>
      if k < 4 then d.aonLost
      else if k = 4 then burnt.aonLost
      else if k < 7 then (burnt.onLcy (fun x => { x with word := 0xFFFFFFFF })).aonLost
      else (burnt.onLcy (fun x => { x with word := st.word, oweRecord := true, anchors := installAnchors x.anchors (anchorEntries 14 r.payload) })).aonLost
    | none =>
      let d1 := burnt.onLcy (fun x => { x with
        word := st.word, state := st, busy := true, oweRecord := true,
        anchors := installAnchors x.anchors (anchorEntries 14 r.payload) })
      ((({ d1 with sys.restartAs := some 4 }).gateKeys st).bump Od.lcy_TRANSITIONS 0).raise 26 0x40 0xFFFF [(r.from_ : Int), (r.to_ : Int)]))

/-- LC_ANCHORS (R488). -/
def Dev.lcAnchors (d : Dev) (b : Bytes) (agree : Bool) : Dev :=
  if lcOther b 3 then d else lcAnswered (d.lcRequest b agree (fun r d =>
    (d.onLcy (fun x => { x with anchors := installAnchors x.anchors (anchorEntries 14 r.payload) })).raise 26 0x45 0xFFFF))

/-- LC_CHAIN (R492). -/
def Dev.lcChain (d : Dev) (b : Bytes) (agree : Bool) : Dev :=
  if lcOther b 4 then d else lcAnswered (d.lcRequest b agree (fun r d => (d.onLcy (fun x => { x with chain := r.payload })).setOct Od.idn_DEVICE_CHAIN 0 (padTo 30720 r.payload)))

/-- DBG_AUTH (R495): the result is shifted out of the TAP. In DIAGNOSTIC a volatile erasure comes first. -/
def Dev.dbgAuth (d : Dev) (b : Bytes) (agree : Bool) : Dev :=
  if lcOther b 2 then d else
  let (res, d1) := d.lcRequest b agree (fun r d =>
    let d1 := if d.lcy.state = .diagnostic then d.eraseKeys false else d
    let t := (timeOfLe r.expires).getD 0
    (d1.onLcy (fun x => { x with scopes := x.scopes ||| r.scope, scopesEnd := if t = 0 then none else some t })).raise 26 0x43 0xFFFF [(r.scope : Int)])
  d1.emit (.jtag 8 res)

/-- DEBUG_EXPIRY. -/
def Dev.debugExpiry (d : Dev) : Dev :=
  match d.lcy.scopesEnd with
  | some t => if t ≤ d.now then d.onLcy (fun x => { x with scopes := 0, scopesEnd := none }) else d
  | none => d

/-! ## The TAP (R495) -/

/-- IDCODE: version 1, part 0x9640, Sollatu's manufacturer code, and the 1 of IEEE 1149.1. -/
def idcode : Nat := 0x10000000 + 0x9640 * 4096 + (Config.jtagMaker % 2048) * 2 + 1

/-- A TAP instruction takes the place of the last one. -/
def Dev.tap (d : Dev) (extest : Bool) (f : LifeCycle → LifeCycle) (bits out : Nat) : Dev :=
  (d.onLcy (fun x => f { x with extest := extest })).emit (.jtag bits out)

/-- BYPASS: the one-bit register delays what is shifted in by one bit. -/
def Dev.bypass (d : Dev) (bits : List Bool) : Dev :=
  d.tap false id bits.length ((false :: bits.dropLast).foldr (fun b a => 2 * a + b2n b) 0 % 2 ^ bits.length)

/-! ## Identity and records (R490, R491, R493, R494) -/

/-- A firmware slot's policy: TYPE, users the session engine and resident firmware, OPS SIGN, STATES, WRAPPED. -/
def firmwarePolicy (type states : Nat) : Bytes := toLe 1 type ++ [5, 0x10, 0] ++ toLe 1 states ++ [1, 64, 0, 0xFF, 0xFF, 0xFF, 0xFF, 0xFF, 0, 0, 0]

/-- Generate a firmware key pair in a slot from client 24; its public key. -/
def Dev.firmwareKey (d : Dev) (slot type states : Nat) : Bytes × Dev :=
  let (k, d1) := d.drawFrom 24 64
  let pub := publicKey type k
  (pub, d1.fillSlot slot (firmwarePolicy type states) k pub)

/-- R493: the first 320 bytes of an Efuth record. -/
def Dev.recordHead (d : Dev) (kind signSlot : Nat) (challenge : Bytes) : Bytes :=
  let x := d.lcy
  let flags := b2n (decide (x.scopes ≠ 0)) + 2 * b2n d.unlocked + 4 * b2n d.flt.tamperMark + 8 * b2n (decide (4 ≤ d.flt.maxSince))
  let layer (l : Layer) : Bytes := if l.set = 0 then List.replicate 32 0 else padTo 32 l.digest
  ascii "EFRC" ++ toLe 1 1 ++ toLe 1 kind ++ toLe 1 x.state.code ++ toLe 1 flags ++ padTo 16 (d.oct Od.idn_UNIT_ID 0) ++ padTo 32 challenge ++
    timeLe d.now ++ ascii "B0" ++ toLe 1 x.testTokens ++ toLe 1 x.diagTokens ++ toLe 4 (d.cfgN Od.idn_FW_VERSION 0) ++
    padTo 32 (d.oct Od.idn_FW_DIGEST 0) ++ padTo 32 d.chartDigest ++ layer d.od.mode ++ layer d.od.maint ++ layer d.od.trial ++
    toLe 4 (d.obj.floors.get 0 1) ++ toLe 4 (d.obj.floors.get 0 5) ++ toLe 4 d.fry.twin.claim ++ toLe 1 d.fry.twin.role.code ++
    toLe 1 (d.fry.flo.ownId) ++ [0, 0] ++ toLe 4 signSlot ++ padTo 32 (d.oct Od.idn_IDENTITY_PUBLIC 0) ++ padTo 32 (d.oct Od.idn_ATTEST_PUBLIC 0)

/-- R493: a signed record. -/
def Dev.efuthRecord (d : Dev) (kind signSlot : Nat) (challenge : Bytes) : Bytes :=
  let head := d.recordHead kind signSlot challenge
  head ++ padTo 17088 (Config.pkSign algSlh128f (d.keySlot signSlot).key (slhPure head))

/-- R489: the attestation key can sign. -/
def Dev.attestKey (d : Dev) : Bool := (d.keySlot 1).full && statesAdmit (d.keySlot 1).states d.lcy.state

/-- R490: at the first start in MANUFACTURED the birth key is generated in slot 2. -/
def Dev.makeBirthKey (d : Dev) : Dev :=
  if d.lcy.state = .manufactured && !(d.keySlot 2).full then
    let (pub, d1) := d.firmwareKey 2 6 0x06
    d1.setOct Od.idn_BIRTH_PUBLIC 0 pub
  else d

/-- R491: at the first start in PROVISIONED with slot 0 EMPTY the unit generates its identity. A unit that has had one gets
no other. -/
def Dev.makeIdentity (d : Dev) : Dev :=
  if d.lcy.state = .provisioned && !(d.keySlot 0).full && d.lcy.provisionRecord.isEmpty then
    let (pub, d1) := d.firmwareKey 0 5 0x0C
    let (att, d2) := d1.firmwareKey 1 6 0x3C
    let d3 := ((d2.setOct Od.idn_IDENTITY_PUBLIC 0 pub).setOct Od.idn_ATTEST_PUBLIC 0 att).setOct Od.idn_UNIT_ID 0 ((sha256 pub).take 16)
    let r := d3.efuthRecord 2 2 (List.replicate 32 0)
    (d3.onLcy (fun x => { x with provisionRecord := r })).setOct Od.lcy_PROVISION_RECORD 0 r
  else d

/-- R494: the TRANSITION record owed since the last transition. -/
def Dev.makeTransitionRecord (d : Dev) : Dev :=
  if d.lcy.oweRecord && d.attestKey then
    let r := d.efuthRecord 3 1 (List.replicate 32 0)
    (d.onLcy (fun x => { x with transitionRecord := r, oweRecord := false })).setOct Od.lcy_TRANSITION_RECORD 0 r
  else d

/-- BIRTH_CERT (R490): the answer is an OAP status. -/
def Dev.birthCert (d : Dev) (cert : Bytes) (agree : Bool) : Nat × Dev :=
  let x := d.lcy
  if x.state ≠ .manufactured || !x.birthCert.isEmpty then (9, d)
  else if !agree then (12, d.fault 0x007 0xFFFF none [])
  else if 4096 < cert.length || Config.chainKey cert ≠ d.oct Od.idn_BIRTH_PUBLIC 0 || !Config.certSigned (d.anchor 1).pub cert then (12, d)
  else (0, (d.onLcy (fun x => { x with birthCert := cert })).setOct Od.idn_BIRTH_CERT 0 (padTo 4096 cert))

/-- ATTEST_CHALLENGE (R494): the answer is an OAP status. -/
def Dev.attestChallenge (d : Dev) (c : Bytes) : Nat × Dev :=
  if c.length ≠ 32 then (7, d)
  else if d.lcy.attest = 1 then (10, d)
  else if !d.attestKey then (9, d.onLcy (fun x => { x with attest := 3 }))
  else (0, d.onLcy (fun x => { x with attest := 1, challenge := c }))

/-- ATTEST_DONE (R494). A key that has left its slot or its states meanwhile signs nothing. -/
def Dev.attestDone (d : Dev) : Dev :=
  if d.lcy.attest ≠ 1 then d
  else if !d.attestKey then d.onLcy (fun x => { x with attest := 3 })
  else
    let r := d.efuthRecord 1 1 d.lcy.challenge
    ((d.onLcy (fun x => { x with attest := 2, attestRecord := r })).setOct Od.lcy_ATTEST_RECORD 0 r).raise 26 0x44 0xFFFF

/-- LCY_STATUS (R496). -/
def Dev.lcyStatus (d : Dev) : Nat :=
  let x := d.lcy
  x.state.code + 16 * b2n x.busy + 32 * b2n (decide (x.scopes ≠ 0)) + 64 * b2n d.nonce.isSome + 256 * x.testTokens + 65536 * x.diagTokens

end Sys2Proof.Machine
end

