-- ==== Sys2Proof/Machine/LaneOps.lean ====
section
/-!
DEFINITION. Lanes as the device sees them: their images, start, stop, faults and pending events (R314–R317, R324, R338,
R339, R343–R348, R394).
-/
namespace Sys2Proof.Machine

def Dev.lane (d : Dev) (n : Nat) : LaneIo := d.lan.get {} n

def Dev.setLane (d : Dev) (n : Nat) (x : LaneIo) : Dev := { d with lan := d.lan.put {} n x }

def Dev.onLane (d : Dev) (n : Nat) (f : LaneIo → LaneIo) : Dev := d.setLane n (f (d.lane n))

def Dev.dh (d : Dev) (n : Nat) : DhCore := d.cpu.dh.get {} n

def Dev.setDh (d : Dev) (n : Nat) (c : DhCore) : Dev := { d with cpu.dh := d.cpu.dh.put {} n c }

/-- Master number of a lane's deckhand (R396). -/
def Dev.laneMaster (d : Dev) (n : Nat) : Nat := 8 * d.pierOf (n / 8) + n % 8

/-- Where the model keeps a lane's private data memory (log entry 3). -/
def laneMem (n : Nat) : Nat := 2 ^ 40 + 65536 * n

/-- EVP (R324). -/
def Dev.evp (d : Dev) (n : Nat) : Nat :=
  let x := d.lane n
  b2n (x.records.any (fun r => !r.taken)) + 2 * b2n (x.inbox.any (fun e => !e.2.taken)) +
    4 * b2n (d.cry.cores.any (fun e => e.2.user == n + 1 && e.2.done)) + 8 * b2n x.migrated + 16 * b2n x.soft

/-! ## Images (R315, R316) -/

/-- A decoded lane program (R316). -/
structure LaneImage where
  entry : Nat
  featReq : Nat
  /-- region requests: base, size as log2, rights -/
  regions : List (Nat × Nat × Nat)
  code : List (BitVec 14)
  codeOk : Bool
  data : Bytes
deriving DecidableEq, Repr

/-- Decode a KIND 3 body. -/
def laneImage (b : Bytes) : LaneImage :=
  let words := leAt b 2 2
  let n := leAt b 12 1
  let code := (List.range words).map (fun i => leAt b (16 + 8 * n + 2 * i) 2)
  { entry := leAt b 0 2, featReq := leAt b 8 4,
    regions := (List.range n).map (fun i => (leAt b (16 + 8 * i) 4, leAt b (20 + 8 * i) 1, leAt b (21 + 8 * i) 1)),
    code := code.map (fun w => BitVec.ofNat 14 w), codeOk := code.all (fun w => decide (w < 2 ^ 14)),
    data := sliceB b (16 + 8 * n + 2 * words) (leAt b 4 4) }

/-- A region request lies inside one of the regions of R318 and does not overlap the inbox. -/
def laneRequestOk (r : Nat × Nat × Nat) : Bool :=
  let lo := r.1
  let hi := r.1 + 2 ^ r.2.1
  decide (r.2.2 < 4) && (decide (hi ≤ 0x7000) || (decide (0x01000000 ≤ lo) && decide (hi ≤ 0x01200000)) ||
    (decide (0x02000000 ≤ lo) && decide (hi ≤ 0x02004000)))

/-- R316: the device takes an image. -/
def laneImageOk (b : Bytes) : Bool :=
  let i := laneImage b
  let words := leAt b 2 2
  decide (1 ≤ words ∧ words ≤ 12288) && decide (leAt b 4 4 ≤ 28672) && decide (leAt b 12 1 ≤ 12) && leAt b 13 3 = 0 &&
    decide (b.length = 16 + 8 * leAt b 12 1 + 2 * words + leAt b 4 4) && i.codeOk && decide (i.entry < words) &&
    decide (i.featReq &&& 0x000100FF = i.featReq) && i.regions.all laneRequestOk

/-- The stored image that a lane is assigned (R315). -/
def Dev.imageOfLane (d : Dev) (n : Nat) : Option Image :=
  let g := d.oct Od.lan_IMAGE_DIGEST n
  if allZero g then none else d.obj.customer.find? (fun i => i.kind == 3 && i.digest == g)

/-! ## Start and stop (R317, R344, R347) -/

/-- The regions that the resident firmware sets for a lane (R316, R399; log entry 54): data memory above the vector table,
inbox, frame records, cipher cores, then the image's requests in the pier buffer; the other requests lie in regions set already. -/
def laneRegions (n : Nat) (reqs : List (Nat × Nat × Nat)) : Tab Region :=
  let reg (lo len rights order : Nat) : Region := { base := lo, limit := lo + max len 32 - 32, attr := 1 + 2 * rights + 128 * order }
  [(0, reg 0x20 0x6FE0 3 0), (1, reg 0x7000 0x1000 1 0), (2, reg (0x01000000 + recordArea (n % 8)) 0x20000 1 2), (3, reg 0x02000000 0x4000 3 1)] ++
    ((reqs.filter (fun r => decide (0x01000000 ≤ r.1) && decide (r.1 < 0x02000000))).zipIdx).map (fun e =>
      (4 + e.2, reg e.1.1 (2 ^ e.1.2.1) (e.1.2.2 % 4) 2))

/-- The start delay of a shadow (R344, R466): 2 to 17 cycles from the pier's client, a free value; 17 without output. -/
def Dev.shadowDelay (d : Dev) (n : Nat) : Nat × Dev :=
  if d.rngUp then
    let (k, d1) := (d.rngRequest (4 + d.pierOf (n / 8))).take
    (2 + Config.freeNat k % 16, d1)
  else (17, d)

/-- Load a lane's image and start it from ENTRY with fresh registers and data memory (R244, R347). -/
def Dev.laneStart (d : Dev) (n : Nat) (migrated : Bool) : Dev :=
  match d.imageOfLane n with
  | none => d
  | some im =>
    let i := laneImage im.body
    let paired := d.cfgB Od.lan_PAIRED n && decide (n % 2 = 0)
    let (lag, d1) := if paired then d.shadowDelay n else (0, d)
    let d2 := d1.setDh n { pc := BitVec.ofNat 14 i.entry }
    let d3 := d2.setLane n { state := .running, origin := 2, watchdog := some (d.now + d.cfg Od.lan_WDOG_TIME n), migrated := migrated,
                             shadowLag := lag, image := im.digest, code := i.code, entry := i.entry }
    let m := d3.laneMaster n
    let d4 := d3.setAcu m { d3.acu m with regions := laneRegions n i.regions }
    let d5 := { d4 with bufOut := d4.bufOut ++ [.clear (laneMem n) 0x7000, .put (laneMem n) i.data] }
    if paired then d5.setLane (n + 1) { state := .running, origin := 3, image := im.digest, code := i.code, entry := i.entry } else d5

/-- Queues that target a lane. -/
def Dev.queuesOfLane (d : Dev) (n : Nat) : List Nat :=
  (d.listedInsts Od.que_TARGET).filter (fun q => decide (d.cfg Od.que_TARGET q = 2) && d.cfgN Od.que_LANE q == n)

/-- Whether a disabled lane may stop: its inbox is empty and, under DRAIN, no accepted item of its queues remains (R347); a lane
that has faulted takes none of them. -/
def Dev.laneMayStop (d : Dev) (n : Nat) : Bool :=
  let x := d.lane n
  x.inbox.isEmpty && (x.cancelled || x.halted || (d.queuesOfLane n).all (fun q => (d.itemsOf q).all (fun e => e.2.state.isEnd)))

/-- LANE_STOP (R347): the lane's records and cipher locks are released. -/
def Dev.laneStop (d : Dev) (n : Nat) : Dev :=
  if (d.lane n).state = .disabling && d.laneMayStop n then
    let d1 := (d.setLane n {}).clearLocks (n + 1)
    if (d1.lane (n + 1)).origin = 3 && n % 2 = 0 then d1.setLane (n + 1) {} else d1
  else d

/-- LANE_ENABLE (R347): the answer is an OAP status. A lane without a stored image, and a shadow, cannot start. OFF and then
ON starts a lane that has faulted anew (R392, R394). -/
def Dev.laneEnable (d : Dev) (n : Nat) (on : Bool) : Nat × Dev :=
  let x := d.lane n
  if on then
    if 128 ≤ n || (d.imageOfLane n).isNone || x.origin = 3 then (9, d)
    else
      let d1 := d.set Od.lan_ENABLE n 1
      (0, match x.state with
        | .off => d1.laneStart n false
        | .disabling => if x.halted then d1.laneStart n false else d1.setLane n { x with state := .running, cancelled := false }
        | _ => d1)
  else
    let d1 := d.set Od.lan_ENABLE n 0
    let cancel := decide (d.cfg Od.lan_DISABLE_MODE n = 1)
    if x.state = .off then (0, d1)
    else
      let d2 := d1.setLane n { x with state := .disabling, cancelled := cancel, records := if cancel then x.records else x.records.filter (fun r => r.taken) }
      let d3 := if cancel then
          (d2.queuesOfLane n).foldl Dev.cancelQueue d2
        else d2
      (0, d3.laneStop n)

/-- A lane that waits takes up its program again once an event is pending (R330). -/
def Dev.wakeLanes (d : Dev) : Dev :=
  { d with lan := d.lan.mapVals (fun n x =>
      if x.inWait && decide (d.evp n ≠ 0) then { x with inWait := false, watchdog := some (d.now + x.wdLeft) } else x) }

/-! ## Faults (R343, R348, R394) -/

/-- R394: a fault other than an event is counted and raised, and the lane's cipher locks are cleared. -/
def Dev.laneFault (d : Dev) (n cause : Nat) : Dev :=
  (((d.bump Od.lst_FAULTS n).set Od.lst_LAST_FAULT n cause).raise (64 + n) 1 n [(cause : Int)]).clearLocks (n + 1)

/-- R394: the lane enters FAULTED. -/
def Dev.laneFaulted (d : Dev) (n : Nat) : Dev :=
  d.onLane n (fun x => { x with state := .faulted, halted := true, inWait := false, watchdog := none, records := [] })

/-- MISUSE, with LANE_MISUSE where R340 raises it. -/
def Dev.laneMisuse (d : Dev) (n : Nat) (event : Bool) : Dev :=
  let d1 := d.bump Od.lst_MISUSE n
  if event then d1.raise (64 + n) 3 n else d1

/-- LANE_WATCHDOG (R343). -/
def Dev.laneWatchdog (d : Dev) (n : Nat) : Dev :=
  let x := d.lane n
  match x.watchdog with
  | some t =>
    if x.runs && !x.inWait && decide (t ≤ d.now) then
      let d1 := d.raise (64 + n) 2 n
      { d1 with flt.todo := d1.flt.todo ++ [.pier (d.pierOf (n / 8)) 3] }
    else d
  | none => d

/-- A pair whose shadow differs or lags is taken out with its pier (R344). -/
def Dev.pairMismatch (d : Dev) (n : Nat) : Dev := { d with flt.todo := d.flt.todo ++ [.pier (d.pierOf (n / 8)) 5] }

/-- PAIRED_LANE_LAG (R344): the shadow lags by more than 64 cycles. -/
def Dev.pairedLag (d : Dev) (n lag : Nat) : Dev :=
  if (d.lane n).runs && (d.lane (n + 1)).origin = 3 && n % 2 = 0 && decide (64 < lag) then d.pairMismatch n else d

/-- Reset of a lane's domain (R507): ENABLE OFF with CANCEL, then ON. -/
def Dev.laneReset (d : Dev) (n : Nat) : Dev :=
  if (d.lane n).origin ≠ 2 then d
  else
    let d1 := (d.queuesOfLane n).foldl Dev.cancelQueue d
    let d2 := ((d1.lane n).inbox).foldl (fun y e => (y.lapseSlot e.2.item).endItem e.2.item .failed 0x06) d1
    ((d2.setLane n {}).clearLocks (n + 1)).laneStart n false

end Sys2Proof.Machine
end

