-- ==== Sys2Proof/Machine/TwinCore.lean ====
section
/-!
DEFINITION. Twin claims and the step-down of an active unit (R232, R240, R242).
-/
namespace Sys2Proof.Machine

/-- R232: note a claim seen on any path, and keep the ceiling 512 epochs ahead of the highest. -/
def Dev.seeClaim (d : Dev) (c : Nat) : Dev :=
  let t := d.fry.twin
  let seen := max t.seen c
  let e := seen / 2
  { d with fry.twin.seen := seen, fry.twin.ceiling := if t.ceiling ≤ e + 512 then e + 1024 else t.ceiling }

/-- R242: items accepted with SINGLE after the last MIRROR_ACK end FAILED with TWIN_DIVERGED, reported by queue. -/
def Dev.diverge (d : Dev) : Dev :=
  let bad := d.que.man.items.filter (fun e => e.2.single && !e.2.state.isEnd && decide (d.fry.twin.lastAck < e.2.acceptedAt))
  let d1 := bad.foldl (fun x e =>
    (if e.2.kind = .launchEntry then ({ x with lch.entries := x.lch.entries.del e.2.handle }) else x).endItem e.1 .failed 0x60) d
  let qs := dedup (bad.map (fun e => e.2.queue))
  qs.foldl (fun x q =>
    let seqs := (bad.filter (fun e => e.2.queue == q)).map (fun e => e.2.seq)
    (x.bump Od.twn_DIVERGED 0 seqs.length).raise 21 0xFA q
      [(q : Int), ((seqs.foldl min (seqs.headD 0) : Nat) : Int), ((seqs.foldl max 0 : Nat) : Int)]) d1

/-- R240: an active unit that sees a higher claim releases its pins, stops sealing and admissions, and becomes STALE. -/
def Dev.stepDown (d : Dev) (c : Nat) : Dev :=
  let d0 := d.seeClaim c
  match d.fry.twin.role with
  | .active | .activeSingle =>
    let d1 := d0.diverge
    let d2 := { d1 with fry.twin.role := .stale, fry.twin.joined := false, fry.twin.isolated := false, fry.twin.yieldAt := none, fry.twin.yieldAsked := false }
    (d0.drivePins d2).raise 21 0xF9 0xFFFF [(c : Int)]
  | _ => d0

/-- A claim seen on some path: one above the unit's own makes it step down. -/
def Dev.noteClaim (d : Dev) (c : Nat) : Dev :=
  if d.fry.twin.claim < c then d.stepDown c else d.seeClaim c

end Sys2Proof.Machine
end

