-- ==== Sys2Proof/Machine/Setup.lean ====
section
/-!
DEFINITION. Opening and closing of sessions: the set-up messages, their fragments, and what a closing session does to its
items (R151, R172–R180, R195, R209).
-/
namespace Sys2Proof.Machine

/-! ## Messages (R175) -/

/-- The length of an uncompressed public key on a curve. -/
def pubLen (curve : Nat) : Nat := if curve = 2 then 97 else 65

/-- The fields of an OPEN message. -/
structure OpenMsg where
  sid : Nat
  mode : Nat
  curve : Nat
  flags : Nat
  ni : Bytes
  pub : Bytes
  next : Nat
  /-- the certificate chain of FRESH, or the resumption ID of RESUME -/
  rest : Bytes
  /-- the length that the fields come to -/
  len : Nat
deriving DecidableEq, Repr

def OpenMsg.legacy (o : OpenMsg) : Bool := bitOf o.flags 0

def parseOpen (m : Bytes) : OpenMsg :=
  let curve := leAt m 4 1
  let p := pubLen curve
  let mode := leAt m 3 1
  { sid := beAt m 0 3, mode := mode, curve := curve, flags := leAt m 5 1, ni := sliceB m 6 32, pub := sliceB m 38 p,
    next := beAt m (38 + p) 6,
    rest := if mode = 1 then sliceB m (46 + p) (beAt m (44 + p) 2) else sliceB m (44 + p) 16,
    len := if mode = 1 then 46 + p + beAt m (44 + p) 2 else 60 + p }

/-- R5: an OPEN whose flags hold a reserved bit, or whose fields do not make up the message, is malformed. -/
def OpenMsg.malformed (o : OpenMsg) (m : Bytes) : Bool := decide (1 < o.flags) || decide (o.len ≠ m.length)

/-- Whether the device knows the form, the curve and the key of an OPEN. -/
def OpenMsg.ok (o : OpenMsg) : Bool :=
  (decide (o.mode = 1) || decide (o.mode = 2)) && (decide (o.curve = 1) || decide (o.curve = 2)) &&
    decide (o.ni.length = 32) && decide (o.pub.length = pubLen o.curve)

/-- The 12 bytes of receive state (R175): highest received, lowest unacknowledged CMD (the transmit counter where there is
none). -/
def Dev.rxState (d : Dev) (i : Nat) : Bytes :=
  toBe 6 (d.ses i).high ++ toBe 6 ((d.oldestCmd i).getD (d.ses i).tx)

/-- The name under which the model's signature function knows the device's set-up key (R176). -/
def Dev.setupKey (d : Dev) (i : Nat) (legacy : Bool) : Nat × Bytes :=
  if legacy then (algEcdsaP256, toLe 4 (d.cfgN Od.ses_LEGACY_KEY i)) else (algSlh128s, ascii "IDENTITY")

/-- R176: the text that is signed: pure SLH-DSA, or ECDSA. -/
def setupText (legacy : Bool) (t : Bytes) : Bytes :=
  let m := ascii "TQV9640 SFF setup" ++ t
  if legacy then m else slhPure m

/-- The proof at the end of ANSWER and CONFIRM: a signature for FRESH, an HMAC for RESUME. -/
def Dev.setupProof (d : Dev) (i : Nat) (fresh legacy : Bool) (r t : Bytes) : Bytes :=
  if fresh then
    let (alg, key) := d.setupKey i legacy
    Config.pkSign alg key (setupText legacy t)
  else hmac r t

/-- Whether the partner's proof verifies. -/
def setupVerify (fresh legacy : Bool) (chain r t p : Bytes) : Bool :=
  if fresh then Config.pkVerify (if legacy then algEcdsaP256 else algSlh128s) (Config.chainKey chain) (setupText legacy t) p
  else decide (p = hmac r t)

/-- R175, R176: a chain of one to three certificates and at most 30 KiB, which ends at an anchor of the chart, with none expired at
chip time and none listed as revoked in the chart. -/
def Dev.chainValid (d : Dev) (chain : Bytes) : Bool :=
  (match chainCerts 3 chain with
    | some (c :: cs) => (c :: cs).all (fun x => !Config.certRevoked d.chartDigest x)
    | _ => false) &&
  decide (chain.length ≤ 30720) && Config.chainAnchored d.chartDigest chain && decide (d.now < Config.chainExpires chain)

/-- R176: the partner's chain holds, and its leaf is the one the session names. -/
def Dev.chainGood (d : Dev) (i : Nat) (chain : Bytes) : Bool :=
  d.chainValid chain &&
    (allZero (d.oct Od.ses_PEER_CERT_HASH i) || decide (sha256 (Config.chainLeaf chain) = d.oct Od.ses_PEER_CERT_HASH i))

/-- R177: the keys of generation 0 and the new resumption secret. -/
def setupKeys (z ni nr rOld sid t2 : Bytes) (fresh : Bool) : SessionKeys × Bytes :=
  let prk := hkdfExtract (ni ++ nr) (if fresh then z else z ++ rOld)
  let okm := hkdfExpand prk (ascii "TQV9640 SFF keys" ++ sid ++ t2) 96
  ({ gen := 0, k := okm.take 32, u := sliceB okm 32 32 }, okm.drop 64)

/-- R177: the record of a resumption secret. -/
def Dev.resumeRecord (d : Dev) (i : Nat) (r : Bytes) : Resumption :=
  { id := (sha256 (ascii "TQV9640 resume" ++ r)).take 16, secret := r, expires := d.now + d.cfg Od.ses_RESUME_LIFETIME i * sec }

/-- The most content that one set-up frame carries on a port (R167, R174): 1 200 bytes, or what its MTU leaves. -/
def Dev.fragmentLen (d : Dev) (p : Nat) : Nat := min 1200 (d.cfgN Od.prt_MTU p - d.carrierLen p - 28)

/-- R174: one frame of the set-up channel: type MGMT, session and sequence 0, FRAGMENT, no tag; the fragment header and content. -/
def setupBytes (claim exchange msg index count : Nat) (content : Bytes) : Bytes :=
  sffHeader 1 10 0x40 0 claim 0 0 (content.length + 8) 0 ++ toBe 4 exchange ++
    [BitVec.ofNat 8 msg, BitVec.ofNat 8 index, BitVec.ofNat 8 count, 0] ++ content

/-- Send a set-up message on a port, fragment by fragment (R174). -/
def Dev.setupOut (d : Dev) (p : Nat) (mac ip : Bytes) (exchange msg : Nat) (content : Bytes) : Dev :=
  let n := d.fragmentLen p
  let count := max 1 ((content.length + n - 1) / n)
  (List.range count).foldl (fun y k =>
    let b := setupBytes y.fry.twin.claim exchange msg k count (sliceB content (n * k) n)
    y.portOut p b.length (.setupFrame p (y.linkHead p mac ip) exchange msg k b)) d

/-- Send a set-up message to the partner of a session. -/
def Dev.setupTo (d : Dev) (i exchange msg : Nat) (content : Bytes) : Dev :=
  d.setupOut (d.sesPort i) (d.oct Od.ses_PEER_MAC i) (d.oct Od.ses_PEER_IP i) exchange msg content

/-- Send a set-up message of a session's exchange and keep it for retransmission (R174). -/
def Dev.sendSetup (d : Dev) (i msg : Nat) (content : Bytes) : Dev :=
  let x := d.ses i
  match x.setup with
  | none => d
  | some u => (d.setSes i { x with setup := some { u with sentMsg := msg, sent := content, lastSent := d.now } }).setupTo i u.exchange msg content

/-! ## Closing (R151, R173, R180) -/

/-- End the launched CMD frames of a session that are sent and unacknowledged. -/
def Dev.endSent (d : Dev) (i reason : Nat) : Dev :=
  (d.lch.entries.filter (fun e => match e.2.image.target with
    | .frame s _ _ => d.sesOf s == some i && e.2.sent
    | _ => false)).foldl (fun x e => x.endEntry e.1 .failed reason) d

/-- End the DISPATCHED items of the queues that target a session. -/
def Dev.endDispatched (d : Dev) (i reason : Nat) : Dev :=
  let sid := d.cfgN Od.ses_SESSION_ID i
  (d.que.man.items.filter (fun e => e.2.state == .dispatched && d.cfg Od.que_TARGET e.2.queue = 1 &&
    d.cfgN Od.que_SESSION e.2.queue == sid && e.2.kind != .launchEntry)).foldl (fun x e => x.endItem e.1 .failed reason) d

/-- R60: launched frames of a session that is gone. -/
def Dev.endFrames (d : Dev) (i : Nat) : Dev :=
  (d.lch.entries.filter (fun e => match e.2.image.target with
    | .frame s _ _ => d.sesOf s == some i && (e.2.state == .committed || e.2.sent)
    | _ => false)).foldl (fun x e => x.endEntry e.1 .failed (if e.2.sent then 0x2D else 0x30)) d

def Dev.port (d : Dev) (p : Nat) : Port := d.net.ports.get {} p

def Dev.onPort (d : Dev) (p : Nat) (f : Port → Port) : Dev := { d with net.ports := d.net.ports.put {} p (f (d.port p)) }

/-- Sessions carried on a port. -/
def Dev.sessionsOn (d : Dev) (p : Nat) : List Nat :=
  (d.net.sessions.filter (fun e => e.2.state ≠ .closed && d.sesPort e.1 == p)).map (fun e => e.1)

/-- R151: draining ports whose sessions have closed go OFF. -/
def Dev.portsDone (d : Dev) : Dev :=
  (d.net.ports.filter (fun e => e.2.draining)).foldl (fun y e =>
    if (y.sessionsOn e.1).isEmpty then y.onPort e.1 (fun x => { x with up := false, draining := false }) else y) d

/-- A session is CLOSED: its keys are gone and what it had dispatched fails with SESSION_DOWN (R122, R173). -/
def Dev.sessionClosed (d : Dev) (i : Nat) : Dev :=
  let x := d.ses i
  let d1 := (d.setSes i { x with keys := none, nextKeys := none, upd := none, overlapEnd := none, safeSealed := none, safeLeft := 0,
                                 nextUses := 0, setup := none, rebasing := false, closeAsked := false }).sesState i .closed
  ((d1.endDispatched i 0x07).endFrames i).portsDone

/-- Refuse an exchange of a session (R175). -/
def Dev.refuseTo (d : Dev) (i exchange reason : Nat) : Dev := d.setupTo i exchange 4 [BitVec.ofNat 8 reason]

/-- Refuse an exchange to the address it came from (R175). -/
def Dev.refuseFrom (d : Dev) (f : Fragment) (reason : Nat) : Dev := d.setupOut f.port f.mac f.ip f.exchange 4 [BitVec.ofNat 8 reason]

/-- An exchange of a session fails here: REFUSE, SETUP_FAILED and the reason kept (R176, R211). A certificate that does not hold
closes the session; a signature that fails ends the exchange alone, and a session whose keys it has not replaced goes on (R173). -/
def Dev.setupFailed (d : Dev) (i reason : Nat) : Dev :=
  let x := d.ses i
  let d1 : Dev := match x.setup with
    | some u => d.refuseTo i u.exchange reason
    | none => d
  let d2 := (d1.onSes i (fun y => { y with lastRefuse := reason, setup := none })).raise 18 0xE1 i [(reason : Int)]
  if x.keys.isSome then (if reason = 1 then d2.sessionClosed i else d2.sesState i .opened) else d2.sesState i .closed

/-! ## Opening (R173–R180, R195, R209) -/

/-- A session's home pier, chosen at set-up (R168, R315): that of the lane that lists it, the one that PIER names, else the active
logical pier with the fewest sessions. -/
def Dev.homePier (d : Dev) (i : Nat) : Nat :=
  match d.laneOfSession (d.cfgN Od.ses_SESSION_ID i) with
  | some l => l / 8
  | none =>
    if d.cfg Od.ses_PIER i ≠ 255 then d.cfgN Od.ses_PIER i
    else
      let load := fun (p : Nat) => (d.net.sessions.filter (fun e => e.1 ≠ i && e.2.state ≠ .closed && e.2.pier == p)).length
      let ps : List Nat := sortBy (fun (n : Nat) => (n : Int)) ((d.activePiers.map (fun p => (d.pier p).logical)).filter (fun l => decide (l < 16)))
      (ps.foldl (fun (b : Nat × Nat) p => if load p < b.2 then (p, load p) else b) (ps.headD 0, load (ps.headD 0))).1

/-- Exchanges in progress (R178). -/
def Dev.setupLoad (d : Dev) : Nat := (d.net.sessions.filter (fun e => e.2.setup.isSome)).length

/-- Start an exchange as initiator: FRESH, or RESUME where a record exists and has not expired. -/
def Dev.openSession (d : Dev) (i : Nat) (wantFresh : Bool) : Dev :=
  if d.standsBy i || !d.admitsWork || d.cfg Od.ses_SESSION_ID i = 0 || d.man.saving || d.cry.rng.state = .failed then d
  else
    let x := d.ses i
    let rec? := x.resume.filter (fun r => decide (d.now < r.expires))
    let fresh := wantFresh || rec?.isNone
    let curve := d.cfgN Od.ses_CURVE i
    let legacy := d.cfgB Od.ses_LEGACY i
    let (ex, d1) := d.drawFrom 22 4
    let (ni, d2) := d1.drawFrom 22 32
    let (eph, d3) := d2.drawFrom 22 (if curve = 2 then 48 else 32)
    let chain := d.cry.lcy.chain
    let open_ := toBe 3 (d.cfgN Od.ses_SESSION_ID i) ++ [if fresh then 1 else 2, BitVec.ofNat 8 curve, BitVec.ofNat 8 (b2n legacy)] ++ ni ++
      padTo (pubLen curve) (Config.publicOf curve eph) ++ toBe 6 x.tx ++
      (if fresh then toBe 2 chain.length ++ chain else (rec?.map (fun r => r.id)).getD [])
    let u : Setup := { exchange := beNat ex, fresh := fresh, initiator := true, expect := 2, openMsg := open_, answerMsg := [],
                       z := [], ni := ni, nr := [], eph := eph, legacy := legacy, startedAt := d.now, lastSent := d.now }
    ((d3.onSes i (fun y => { y with setup := some u, exchange := u.exchange, pier := d3.homePier i })).sesState i (if fresh then .opening else .resuming)).sendSetup i 1 open_

/-- R180: a FRESH opening sets the receive state from the partner's next sequence, and ends what was dispatched. -/
def Dev.applyFresh (d : Dev) (i next claim : Nat) : Dev :=
  ((d.onSes i (fun x => { x with high := next - 1, window := [], rxFloor := 0, claim := claim, claimCtl := claim, ctlFrom := 0, safeLast := 0 })).endDispatched i 0x41).endSent i 0x41

/-- Install the keys that an exchange agreed on (R177). The session awaits its first sealed frame. -/
def Dev.installKeys (d : Dev) (i : Nat) (u : Setup) (t2 : Bytes) : Dev :=
  let x := d.ses i
  let rOld := (x.resume.map (fun r => r.secret)).getD []
  let (k, r) := setupKeys u.z u.ni u.nr rOld (toBe 3 (d.cfgN Od.ses_SESSION_ID i)) t2 u.fresh
  let d1 := d.setSes i { x with keys := some k, nextKeys := none, upd := none, overlapEnd := none, keyUses := 0, nextUses := 0,
                                safeSealed := none, responder := !u.initiator, rebasing := false, resume := some (d.resumeRecord i r), setup := some { u with expect := 0 },
                                certExpires := if u.fresh then some (Config.chainExpires u.chain) else x.certExpires,
                                peerCert := if u.fresh then u.chain else x.peerCert }
  let d2 := if u.fresh then d1.applyFresh i u.peerNext u.peerClaim else d1
  d2.replKeys i

/-- The payload of a HEARTBEAT (R186). -/
def Dev.hbPayload (d : Dev) (i : Nat) : Bytes :=
  let x := d.ses i
  toBe 6 x.high ++ toBe 6 ((d.oldestCmd i).getD x.tx) ++ toBe 6 x.tx ++ [0, 0] ++ toBe 4 ((x.keys.map (fun k => k.gen)).getD 0)

/-- R175: the first valid tag from the partner opens the session; DISPATCHED items are sent again (R148, R195). -/
def Dev.sessionOpened (d : Dev) (i : Nat) : Dev :=
  let sid := d.cfgN Od.ses_SESSION_ID i
  let d1 := (d.onSes i (fun x => { x with setup := none, lastHbRx := d.now })).sesState i .opened
  let d2 := d1.onMan (fun m => { m with items := m.items.mapVals (fun _ x =>
    if x.state = .dispatched && d.cfg Od.que_TARGET x.queue = 1 && d.cfgN Od.que_SESSION x.queue = sid && x.kind ≠ .launchEntry
    then { x with resend := true } else x) })
  let d3 := if (d2.ses i).closeAsked then d2.sesState i .closing else d2
  (d3.presealSafe i).retryBlocked

/-! ## The link (R167) -/

/-- What the link makes of a frame (R167): taken, counted in CRC_ERRORS or in FORMAT_DROPS, or not an SFF frame of the port at
all, which is no business of the sessions. -/
inductive LinkVerdict where
  | taken | crc | format | other
deriving DecidableEq, Repr

/-- R167, R208: the link's tests, for a frame of a length. A frame longer than the MTU and one whose UDP checksum fails are counted
in FORMAT_DROPS (log entry 150). -/
def Dev.linkVerdict (d : Dev) (p len : Nat) (crcOk : Bool) (c : RxCarrier) : LinkVerdict :=
  if !crcOk then .crc
  else
    let ours : Option Bool := match c, d.cfgN Od.prt_ENCAP p with
      | .ethernet e, 0 => if e = d.cfgN Od.prt_ETHERTYPE p then some true else none
      | .udp v6 port fragment options checksumOk, n =>
        if n = 0 || v6 != decide (n = 2) || (port ≠ d.cfgN Od.prt_UDP_PORT p && !fragment) then none
        else some (!fragment && !options && checksumOk)
      | _, _ => none
    match ours with
    | none => .other
    | some ok => if ok && decide (d.carrierLen p + len ≤ d.cfgN Od.prt_MTU p) then .taken else .format

/-- A frame of a port as the link takes it: the device, and whether the frame goes on to the sessions. CRC_ERRORS is a merging
source (R208, R500). -/
def Dev.linkTake (d : Dev) (p len : Nat) (crcOk : Bool) (c : RxCarrier) : Bool × Dev :=
  if !(d.port p).up then (false, d)
  else
    match d.linkVerdict p len crcOk c with
    | .taken => (true, d.bump Od.prt_RX_FRAMES p)
    | .crc => (false, (d.bump Od.prt_CRC_ERRORS p).fault (if p < 16 then 0x02E else 0x02F) p none [])
    | .format => (false, (d.bump Od.prt_RX_FRAMES p).bump Od.prt_FORMAT_DROPS p)
    | .other => (false, d)

/-! ## Fragments (R174) -/

/-- The time after which an incomplete message is discarded. -/
def setupTimeout : Ticks := 200 * ms

/-- R5, R174, R182: a frame of the set-up channel is well formed: its base header, its fragment header and its length. -/
def Fragment.formed (f : Fragment) : Bool :=
  decide (f.version = 1) && decide (f.flags = 0x40) && decide (f.seq = 0) && decide (f.extLen = 0) && decide (f.zero = 0) &&
    decide (f.length = f.bytes.length + 8) && decide (f.reserved = 0) && decide (f.bytes.length ≤ 1200) && decide (0 < f.count) &&
    decide (f.count ≤ 64) && decide (f.index < f.count)

/-- Take a fragment in; the whole message once it is complete. -/
def Dev.reassemble (d : Dev) (msg : Nat) (f : Fragment) : Option Bytes × Dev :=
  if !f.formed then (none, d.bump Od.prt_FORMAT_DROPS f.port)
  else
    let same := fun (r : Reassembly) => r.port == f.port && r.exchange == f.exchange && r.message == msg
    let old := (d.net.reasm.find? same).getD { port := f.port, exchange := f.exchange, message := msg, total := f.count, got := [], startedAt := d.now }
    let got := Tab.ins old.got f.index f.bytes
    let others := d.net.reasm.filter (fun r => !same r)
    if (List.range old.total).all (fun k => Tab.has got k) then
      (some (((List.range old.total).filterMap (fun k => Tab.find got k)).flatten), { d with net.reasm := others })
    else (none, { d with net.reasm := others ++ [{ old with got := got }] })

/-- SETUP_TIMEOUT: incomplete messages older than the limit are discarded. -/
def Dev.setupExpire (d : Dev) : Dev :=
  { d with net.reasm := d.net.reasm.filter (fun r => decide (d.now < r.startedAt + setupTimeout)) }

/-- SETUP_RETRANSMIT: the last message of an exchange is sent again after 20 ms without the next one. -/
def Dev.setupRetransmit (d : Dev) (i : Nat) : Dev :=
  let x := d.ses i
  match x.setup with
  | none => d
  | some u =>
    if u.lastSent + 20 * ms ≤ d.now && (u.expect ≠ 0 || u.initiator) && !u.sent.isEmpty then d.sendSetup i u.sentMsg u.sent else d

/-! ## The four messages -/

/-- A complete OPEN (R174–R178, R211). -/
def Dev.openReceived (d : Dev) (f : Fragment) (m : Bytes) : Dev :=
  let o := parseOpen m
  match d.sesOf o.sid with
  | none => if o.malformed m then d.bump Od.prt_FORMAT_DROPS f.port else d.refuseFrom f 4
  | some i =>
    let x := d.ses i
    let rec? := x.resume.filter (fun r => decide (d.now < r.expires) && decide (r.id = o.rest))
    let refuse := fun (reason : Nat) =>
      (d.refuseFrom f reason).onSes i (fun y => { y with lastRefuse := reason })
    if d.standsBy i || d.man.saving then d
    else if o.malformed m then d.bump Od.prt_FORMAT_DROPS f.port
    else if !d.admitsWork || !d.cfgB Od.ses_ENABLE i then d.refuseFrom f 4
    else if !o.ok || o.curve ≠ d.cfgN Od.ses_CURVE i || (o.legacy && !d.cfgB Od.ses_LEGACY i) then refuse 6
    else if x.setup.any (fun u => u.initiator && u.exchange ≠ f.exchange) then refuse 3
    else if (256 ≤ d.setupLoad && x.setup.isNone) || d.cry.rng.state = .failed then refuse 7
    else if o.mode = 2 && rec?.isNone then refuse 5
    else if o.mode = 1 && d.cry.lcy.chain.isEmpty then refuse 1
    else if o.mode = 1 && !d.chainGood i o.rest then
      (refuse 1).raise 18 0xE1 i [1]
    else
      let fresh := decide (o.mode = 1)
      let (nr, d1) := d.drawFrom 22 32
      let (eph, d2) := d1.drawFrom 22 (if o.curve = 2 then 48 else 32)
      let chain := d.cry.lcy.chain
      let body := nr ++ padTo (pubLen o.curve) (Config.publicOf o.curve eph) ++ toBe 6 x.tx ++ d.rxState i ++
        (if fresh then toBe 2 chain.length ++ chain else [])
      let t1 := sha256 (m ++ body)
      let ans := body ++ d.setupProof i fresh o.legacy ((rec?.map (fun r => r.secret)).getD []) t1
      let u : Setup := { exchange := f.exchange, fresh := fresh, initiator := false, expect := 3, openMsg := m, answerMsg := ans,
                         z := Config.ecdh o.curve eph o.pub, ni := o.ni, nr := nr, eph := eph, legacy := o.legacy,
                         chain := if fresh then o.rest else [], peerClaim := f.claim, peerNext := o.next, startedAt := d.now, lastSent := d.now }
      ((d2.onSes i (fun y => { y with setup := some u, exchange := u.exchange, pier := d2.homePier i })).sesState i (if fresh then .opening else .resuming)).sendSetup i 2 ans

/-- The session whose exchange a message belongs to. -/
def Dev.exchangeOf (d : Dev) (f : Fragment) (expect : Nat) : Option (Nat × Setup) :=
  d.net.sessions.findSome? (fun e => match e.2.setup with
    | some u => if u.exchange == f.exchange && u.expect == expect then some (e.1, u) else none
    | none => none)

/-- A complete ANSWER (R175): verified, then CONFIRM. -/
def Dev.answerReceived (d : Dev) (f : Fragment) (m : Bytes) : Dev :=
  match d.exchangeOf f 2 with
  | none => d
  | some (i, u) =>
    if !u.initiator || d.standsBy i then d
    else
      let curve := d.cfgN Od.ses_CURVE i
      let p := pubLen curve
      let chainLen := if u.fresh then 2 + beAt m (50 + p) 2 else 0
      let signed := m.take (50 + p + chainLen)
      let proof := m.drop (50 + p + chainLen)
      let chain := if u.fresh then sliceB m (52 + p) (beAt m (50 + p) 2) else []
      let r := ((d.ses i).resume.map (fun r => r.secret)).getD []
      let t1 := sha256 (u.openMsg ++ signed)
      if u.fresh && !d.chainGood i chain then d.setupFailed i 1
      else if !setupVerify u.fresh u.legacy chain r t1 proof then d.setupFailed i 2
      else
        let rx := d.rxState i
        let t2 := sha256 (u.openMsg ++ m ++ rx)
        let u' : Setup := { u with answerMsg := m, nr := m.take 32, z := Config.ecdh curve u.eph (sliceB m 32 p), chain := chain,
                                   peerClaim := f.claim, peerNext := beAt m (32 + p) 6 }
        let d1 := d.onSes i (fun y => { y with peerHigh := beAt m (38 + p) 6, setup := some u' })
        (d1.installKeys i u' t2).sendSetup i 3 (rx ++ d.setupProof i u.fresh u.legacy r t2)

/-- A complete CONFIRM (R175): verified, keys derived, and a HEARTBEAT as the first sealed frame. -/
def Dev.confirmReceived (d : Dev) (f : Fragment) (m : Bytes) : Dev :=
  match d.exchangeOf f 3 with
  | none => d
  | some (i, u) =>
    if u.initiator || d.standsBy i then d
    else
      let r := ((d.ses i).resume.map (fun r => r.secret)).getD []
      let t2 := sha256 (u.openMsg ++ u.answerMsg ++ m.take 12)
      if !setupVerify u.fresh u.legacy u.chain r t2 (m.drop 12) then d.setupFailed i 2
      else
        let d1 := (d.onSes i (fun y => { y with peerHigh := beAt m 0 6 })).installKeys i u t2
        let x := d1.ses i
        ((d1.setSes i { x with ctlNext := x.ctlNext + 1, lastHbTx := d.now }).frameOut i
          { type := 6, flags := 0, session := d.cfgN Od.ses_SESSION_ID i, claim := d.fry.twin.claim, seq := x.ctlNext,
            payload := d1.hbPayload i, keyGen := 0 }).useKey i 0

/-- A REFUSE (R175, R177): CLOSE ends the session that the exchange set up; RESUME_UNKNOWN makes the initiator open FRESH;
any other ends the exchange, and a session whose keys it has not replaced goes on. -/
def Dev.refuseReceived (d : Dev) (f : Fragment) (m : Bytes) : Dev :=
  let reason := leAt m 0 1
  let named := fun (e : Nat × Session) => e.2.setup.any (fun u => u.exchange == f.exchange) ||
    (decide (reason = 8) && e.2.state.live && e.2.exchange == f.exchange)
  match d.net.sessions.find? named with
  | none => d
  | some (i, x) =>
    let agreed := x.setup.any (fun u => u.expect == 0)
    let d1 := d.onSes i (fun y => { y with lastRefuse := reason, setup := none })
    if reason = 8 then d1.sessionClosed i
    else if reason = 5 then (d1.onSes i (fun y => { y with resume := none })).openSession i true
    else if x.keys.isSome && !agreed then d1.sesState i .opened
    else (d1.onSes i (fun y => { y with keys := none })).sesState i .closed

/-- SETUP_OPEN, SETUP_ANSWER, SETUP_CONFIRM and SETUP_REFUSE: a fragment arrives, and a complete message is handled. -/
def Dev.setupFragment (d : Dev) (msg : Nat) (f : Fragment) : Dev :=
  let (ok, d0) := d.linkTake f.port (28 + f.bytes.length) f.crcOk f.carrier
  if !ok then d0
  else
  match d0.reassemble msg f with
  | (none, d1) => d1
  | (some m, d1) =>
    match msg with
    | 1 => d1.openReceived f m
    | 2 => d1.answerReceived f m
    | 3 => d1.confirmReceived f m
    | _ => d1.refuseReceived f m

/-! ## Enabling, disabling, reopening -/

/-- ENABLE of a session written ON (R174, R209). -/
def Dev.sessionOn (d : Dev) (i : Nat) : Dev :=
  let d1 := d.set Od.ses_ENABLE i 1
  let x := d1.ses i
  match x.state with
  | .closed =>
    let d2 := d1.setSes i { x with closeAsked := false }
    if d.cfgB Od.ses_INITIATE i then d2.openSession i false else d2
  | .closing => (d1.setSes i { x with closeAsked := false }).sesState i .opened
  | _ => d1

/-- R60: entries with a FRAME target on a session disabled with CANCEL, as far as they have not committed, end CANCELLED. -/
def Dev.cancelFrames (d : Dev) (i : Nat) : Dev :=
  (d.lch.entries.filter (fun e => match e.2.image.target with
    | .frame s _ _ => d.sesOf s == some i && !e.2.state.isCommitted && !(d.item e.2.item).any (fun x => d.held x)
    | _ => false)).foldl (fun x e => x.endEntry e.1 .cancelled 0x2F) d

/-- ENABLE of a session written OFF (R151): its mode goes to every queue that targets it or takes CMDs from it. A session whose set-up
is under way, with items that are DISPATCHED, goes on with it and then closes. -/
def Dev.sessionOff (d : Dev) (i : Nat) (cancel : Bool) : Dev :=
  let d1 := (d.queuesOfSession i).foldl (fun x q => x.applyDisable q cancel) d
  let d2 := if cancel then d1.cancelFrames i else d1
  let d3 := d2.onSes i (fun x => { x with closeAsked := true, closeCancel := cancel })
  if (d2.ses i).state.live then d3.sesState i .closing
  else if (d2.ses i).state = .closed then d2
  else if (d.queuesOfSession i).all (fun q => d2.queueIdle q) then d2.sessionClosed i
  else d3

/-- SESSION_ENABLE. -/
def Dev.sessionEnable (d : Dev) (i : Nat) (on : Bool) : Dev :=
  if on then d.sessionOn i else (d.set Od.ses_ENABLE i 0).sessionOff i (decide (d.cfg Od.ses_DISABLE_MODE i = 1))

/-- A closing session whose queues have finished their items closes, and tells its partner. -/
def Dev.closeDone (d : Dev) (i : Nat) : Dev :=
  let x := d.ses i
  if (x.state = .closing || (x.closeAsked && x.state ≠ .closed)) && (d.queuesOfSession i).all (fun q => d.queueIdle q) then
    ((d.refuseTo i x.exchange 8).sessionClosed i)
  else d

/-- REOPEN (R209). -/
def Dev.reopen (d : Dev) (i : Nat) (fresh : Bool) : Dev := if d.cfgB Od.ses_ENABLE i then d.openSession i fresh else d

/-- CERTIFICATE_EXPIRY (R173, R211). -/
def Dev.certExpiry (d : Dev) (i : Nat) : Dev :=
  let x := d.ses i
  match x.certExpires with
  | some t =>
    if t ≤ d.now && x.state ≠ .closed then
      (((d.refuseTo i x.exchange 1).onSes i (fun y => { y with lastRefuse := 1 })).raise 18 0xE1 i [1]).sessionClosed i
    else d
  | none => d

end Sys2Proof.Machine
end

