-- ==== Sys2Proof/Machine/SessionOps.lean ====
section
/-!
DEFINITION. Receiving frames, and everything a session does with time: heartbeats, retransmission, key updates, rebases and
SAFE frames (R173, R182, R186–R196).
-/
namespace Sys2Proof.Machine

/-! ## The receiver rules (R190) -/

/-- R187: the switch of the partner's key has been seen. -/
def Session.sawSwitch (x : Session) (type seq : Nat) (now overlap : Ticks) : Session :=
  if x.nextKeys.isSome && x.overlapEnd.isNone && decide (domainOf type = 0) && decide (x.rxSwitch ≤ seq) && !x.updating
  then { x with overlapEnd := some (now + overlap) } else x

/-- R187: the key that KEY_PHASE selects, of the current and the next one. -/
def Session.keyFor (x : Session) (phase : Nat) : Option SessionKeys :=
  match x.keys with
  | none => none
  | some k => if k.gen % 2 = phase then some k else x.nextKeys.orElse (fun _ => x.derive)

/-- R244: a frame that came while its session's slice was moving (log entry 161). -/
def Dev.redirected (d : Dev) (i : Nat) (arrival : Ticks) : Bool :=
  (d.fry.redirect.find (d.ses i).pier).any (fun w => decide (w.1 ≤ arrival) && decide (arrival < w.2))

/-- R190, as far as rule 1: the session of a frame and its opened payload, and the device with the drop counted. The first valid
tag opens a session that waits for it (R175). -/
def Dev.openFrame (d : Dev) (type : Nat) (f : RxFrame) : Option (Nat × Bytes) × Dev :=
  let (ok, d0) := d.linkTake f.port f.len f.crcOk f.carrier
  if !ok then (none, d0)
  else
  match d0.sesOf f.session with
  | none => (none, d0.bump Od.prt_UNKNOWN_SESSION f.port)
  | some i =>
    if d0.redirected i f.arrival then (none, { d0 with fry.redirectDrops := d0.fry.redirectDrops + 1 })
    else
    let x := d0.ses i
    let waiting := x.setup.any (fun u => u.expect == 0)
    if !f.formed type then (none, d0.bump Od.prt_FORMAT_DROPS f.port)
    else
      match if x.state.live || waiting then (x.keyFor (f.flags % 2)).bind (fun k => f.openWith type k.k (!x.responder)) else none with
      | none => (none, d0.bump Od.prt_TAG_FAILS f.port)
      | some p =>
        if payloadFormed type p then (some (i, p), if waiting then d0.sessionOpened i else d0)
        else (none, d0.bump Od.prt_FORMAT_DROPS f.port)

/-- R190 from rule 2 on, for an opened frame: whether it is handled. A standby takes BEARING frames alone (R85, R129; log entry
113). -/
def Dev.takeFrame (d : Dev) (i type : Nat) (f : RxFrame) : Bool × Dev :=
  let y := if d.standsBy i then d.ses i else (d.ses i).sawSwitch type f.seq d.now (d.cfg Od.ses_KEY_OVERLAP i)
  let d1 := d.setSes i y
  if d.standsBy i && type ≠ 4 then (false, d1)
  else if type = 5 then
    if y.safeLast < f.seq then (true, (d1.setSes i { y with safeLast := f.seq }).replSession i) else (false, d1)
  else if domainOf type = 2 && f.claim = y.claimCtl && decide (f.seq < y.ctlFrom) then (false, d1)
  else
    let y2 := if domainOf type = 2 then { y with claimCtl := f.claim, ctlFrom := f.seq + 1 } else y
    let d2 := d1.setSes i y2
    if domainOf type = 0 && decide (f.seq + 1024 ≤ y2.high) then (false, d2.bump Od.sst_STALE i)
    else if domainOf type = 0 && decide (f.seq ≤ y2.high) && decide (f.seq ∈ y2.window) then
      if type = 0 then (false, (d2.bump Od.sst_DUPLICATES i).sendAck i f.seq 1 (bitOf f.flags 1)) else (false, d2)
    else if f.claim < y2.claim then (false, (d2.bump Od.sst_CLAIM_REJECTS i).sendNack i f.seq 1)
    else
      let d3 := if y2.claim < f.claim then
          ((d2.onSes i (fun z => { z with claim := f.claim })).replSession i).raise 18 0xE2 i [(f.claim : Int)]
        else d2
      (true, if domainOf type = 0 then d3.onSes i (fun z => z.advance f.seq) else d3)

/-- R190: run a frame through the receiver rules. `some (i, p)`: session `i` handles the frame, whose payload is `p`. -/
def Dev.receive (d : Dev) (type : Nat) (f : RxFrame) : Option (Nat × Bytes) × Dev :=
  match d.openFrame type f with
  | (none, d1) => (none, d1)
  | (some (i, p), d1) => let (ok, d2) := d1.takeFrame i type f
    (if ok then some (i, p) else none, d2)

/-! ## Frame records for lanes (R337, R338) -/

/-- A frame record (R338). -/
def frameRecord (f : RxFrame) (type : Nat) (payload : Bytes) (unlocked : Bool) : Bytes :=
  let e := f.ext
  timeLe f.arrival ++ [BitVec.ofNat 8 f.port, BitVec.ofNat 8 type] ++ toLe 2 payload.length ++ toLe 4 f.session ++ toLe 6 f.seq ++
    [BitVec.ofNat 8 (e.length / 4), BitVec.ofNat 8 (b2n unlocked)] ++ List.replicate 4 0 ++ e ++ payload

/-- The place of a new record among the records of a lane: the first free run of 64-byte units in its area (log entry 28). -/
def Dev.recordPlace (d : Dev) (lane len : Nat) : Option Nat :=
  let base := recordArea (lane % 8)
  let used := sortBy (fun (e : Nat × Nat) => (e.1 : Int)) ((d.lan.get {} lane).records.map (fun r => (r.offset / 64, (r.bytes.length + 63) / 64)))
  let p := runAfter used ((len + 63) / 64) (base / 64)
  if p * 64 + len ≤ base + 0x20000 then some (p * 64) else none

/-- R338: hand a frame record to a lane, or drop it with FRAME_DROP; whether it was delivered. -/
def Dev.deliverFrame (d : Dev) (type : Nat) (f : RxFrame) (payload : Bytes) : Bool × Dev :=
  match d.laneOfSession f.session with
  | none => (false, d)
  | some l =>
    let x := d.lan.get {} l
    let bytes := frameRecord f type payload d.unlocked
    let ok := decide (x.state = .running) && decide (x.records.length < 64)
    match ok, d.recordPlace l bytes.length with
    | true, some off =>
      (true, { d with lan := d.lan.put {} l { x with records := x.records ++ [{ offset := off, bytes := bytes, arrival := f.arrival, type := type, hasTime := f.timeExt }] },
                      bufOut := d.bufOut ++ [.put (0x0200000000 + 0x400000 * d.pierOf (l / 8) + off) bytes] })
    | _, _ => (false, (d.bump Od.lst_FRAME_DROPS l).raise (64 + l) 4 l)

/-! ## The types (R186, R191, R195) -/

/-- The queue that takes a session's CMDs. -/
def Dev.ingressQueue (d : Dev) (i : Nat) : Option Nat :=
  (d.queuesOfSession i).find? (fun q => bitOf (d.cfgN Od.que_SOURCES q) 1)

/-- Mark a sequence as decided, and answer NACK. -/
def Dev.decideNack (d : Dev) (i seq reason : Nat) : Dev := (d.markSeq i seq).sendNack i seq reason

/-- CMD_RECEIVE (R190, R191, R195, R123). -/
def Dev.cmdReceive (d : Dev) (f : RxFrame) : Dev :=
  match d.receive 0 f with
  | (none, d1) => d1
  | (some (i, p), d1) =>
    if f.seq < (d1.ses i).rxFloor then (d1.bump Od.sst_IN_DOUBT i).decideNack i f.seq 4
    else
      match d1.ingressQueue i with
      | none => d1.decideNack i f.seq 6
      | some q =>
        if p.length = 0 || 240 < p.length then d1.decideNack i f.seq 5
        else
          let o : Offer := { source := .ingress, kind := .command, body := p, ingress := some (i, f.seq), ackNow := bitOf f.flags 1 }
          match d1.admitOffer q o with
          | (.accepted _, d2) => d2
          | (.waiting, d2) => d2.sendNack i f.seq 3
          | (.refused r, d2) =>
            let d3 := (d2.onQueue q (fun x => { x with lastRefusal := r })).bump Od.qst_REFUSED q
            if r = 0x02 then d3.decideNack i f.seq 5
            else if r = 0x03 then d3.decideNack i f.seq 6
            else d3.sendNack i f.seq 3

/-- The device item behind an SFF sequence of a session: an item of a queue that targets it. -/
def Dev.itemOfSff (d : Dev) (i seq : Nat) : Option (Nat × Item) :=
  let sid := d.cfgN Od.ses_SESSION_ID i
  d.que.man.items.find? (fun e => e.2.sff == some seq && d.cfg Od.que_TARGET e.2.queue = 1 && d.cfgN Od.que_SESSION e.2.queue == sid)

/-- The launched frame behind an SFF sequence of a session. -/
def Dev.frameOfSff (d : Dev) (i seq : Nat) : Option (Nat × Entry) :=
  d.lch.entries.find? (fun e => e.2.sff == some seq && e.2.sent && (match e.2.image.target with
    | .frame s _ _ => d.sesOf s == some i
    | _ => false))

/-- R191: the partner acknowledges one sequence. -/
def Dev.ackOne (d : Dev) (i seq : Nat) : Dev :=
  match d.frameOfSff i seq with
  | some (h, _) => d.confirmEntry h
  | none =>
    match d.itemOfSff i seq with
    | none =>
      match (d.ses i).lateSff.find? (fun e => e.1 == seq) with
      | some e => (d.onSes i (fun x => { x with lateSff := x.lateSff.filter (fun y => y.1 ≠ seq) })).bump Od.qst_LATE_CONFIRMS e.2
      | none => d
    | some (h, x) =>
      if x.state = .dispatched then d.endItem h .confirmed 0
      else if x.state = .failed then d.bump Od.qst_LATE_CONFIRMS x.queue
      else d

/-- ACK_RECEIVE. -/
def Dev.ackReceive (d : Dev) (f : RxFrame) : Dev :=
  match d.receive 1 f with
  | (none, d1) => d1
  | (some (i, p), d1) =>
    (((ackEntries 64 p).foldl (fun x e => x.ackOne i e.1) d1).markSeq i f.seq).retryBlocked

/-- R191: the partner refuses one sequence. A launched frame's only other end is NOT_CONFIRMED (R77). -/
def Dev.nackOne (d : Dev) (i seq reason : Nat) : Dev :=
  if reason = 1 then d.stepDown (max (d.fry.twin.claim + 1) d.fry.twin.seen)
  else
    match d.frameOfSff i seq with
    | some (h, _) => if reason = 3 then d else d.endEntry h .failed 0x2D
    | none =>
      match d.itemOfSff i seq with
      | none => d
      | some (h, x) =>
        if x.state ≠ .dispatched then d
        else
          match reason with
          | 2 => d.endItem h .rejected 0x05
          | 5 => d.endItem h .rejected 0x40
          | 6 => d.endItem h .rejected 0x45
          | 4 => d.endItem h .failed 0x44
          | 3 =>
            if d.cfg Od.ses_BUSY_LIMIT i ≤ ((x.busy + 1 : Nat) : Int) then d.endItem h .failed 0x43
            else d.setItem h { x with busy := x.busy + 1 }
          | _ => d

/-- NACK_RECEIVE. -/
def Dev.nackReceive (d : Dev) (f : RxFrame) : Dev :=
  match d.receive 11 f with
  | (none, d1) => d1
  | (some (i, p), d1) =>
    (((ackEntries 64 p).foldl (fun x e => x.nackOne i e.1 e.2) d1).markSeq i f.seq).retryBlocked

/-- DATA_RECEIVE and SAFE_RECEIVE: delivered to the session's lane (R190, R191, R338). -/
def Dev.dataReceive (d : Dev) (type : Nat) (f : RxFrame) : Dev :=
  match d.receive type f with
  | (none, d1) => d1
  | (some (i, p), d1) => let (ok, d2) := d1.deliverFrame type f p
    if type = 5 || !ok then d2 else d2.markSeq i f.seq

/-- HEARTBEAT_RECEIVE (R173, R186). -/
def Dev.heartbeatReceive (d : Dev) (f : RxFrame) : Dev :=
  match d.receive 6 f with
  | (none, d1) => d1
  | (some (i, p), d1) =>
    let d2 := d1.onSes i (fun x => { x with lastHbRx := d.now, peerHigh := beAt p 0 6 })
    let x := d2.ses i
    if x.state = .stalled && !(x.upd.any (fun u => !u.replied && decide (3 ≤ u.attempts))) then d2.sesState i .opened else d2

/-- CLAIM_RECEIVE: the receiver rules adopt a higher claim; its payload names it too (R186, R190). -/
def Dev.claimReceive (d : Dev) (f : RxFrame) : Dev :=
  match d.receive 7 f with
  | (none, d1) => d1
  | (some (i, p), d1) =>
    let c := beAt p 0 4
    if (d1.ses i).claim < c then ((d1.onSes i (fun x => { x with claim := c })).replSession i).raise 18 0xE2 i [(c : Int)] else d1

/-- R188: a rebase restarts both counters and the window under the new generation; what is not dispatched takes new
sequences. -/
def Dev.rebased (d : Dev) (i : Nat) : Dev :=
  let x := d.ses i
  let sid := d.cfgN Od.ses_SESSION_ID i
  let keys := match x.nextKeys with
    | some k => some k
    | none => x.keys
  let d1 := d.setSes i { x with tx := 0, high := 0, window := [], rxFloor := 0, keys := keys, nextKeys := none, overlapEnd := none,
                                upd := none, rebasing := false, ceiling := 256, txReserved := 16777216, rxReserved := 16777216,
                                rekeyWarned := false, keyUses := 0, nextUses := 0 }
  let hs := (d1.que.man.items.filter (fun e => e.2.state == .accepted && e.2.sff.isSome && d.cfg Od.que_TARGET e.2.queue = 1 &&
    d.cfgN Od.que_SESSION e.2.queue == sid)).map (fun e => e.1)
  let d2 := hs.foldl (fun y h => (y.onItem h (fun z => { z with sff := none })).journal h) d1
  ((d2.sesState i .opened).replKeys i).presealSafe i

/-- KEYUPD_RECEIVE (R187, R188): an update of the partner is installed and answered; a REPLY completes ours. -/
def Dev.keyupdReceive (d : Dev) (f : RxFrame) : Dev :=
  match d.receive 8 f with
  | (none, d1) => d1
  | (some (i, p), d1) =>
    let gen := beAt p 0 4
    let sw := beAt p 4 6
    let fl := leAt p 10 1
    let rebase := bitOf fl 0
    let reply := bitOf fl 1
    let x := d1.ses i
    match x.upd, decide (gen = x.newestGen), decide (gen = x.newestGen + 1) with
    | some u, true, _ =>
      if u.gen ≠ gen then d1
      else
        let d2 := d1.setSes i { x with upd := some { u with replied := true }, rxSwitch := sw, keyUses := x.nextUses, nextUses := 0 }
        let d3 := if x.state = .stalled then d2.sesState i .opened else d2
        if reply then
          if u.rebase then d3.rebased i else (d3.replKeys i).presealSafe i
        else d3.emitKeyUpd i { u with replied := true } true
    | _, _, true =>
      if reply then d1
      else
        let u : KeyUpdate := { gen := gen, switch := if rebase then 0 else x.tx + 1024, rebase := rebase, attempts := 1,
                               sentAt := d.now, startedAt := d.now, replied := true }
        let d2 := (d1.setSes i { x with nextKeys := x.derive, rxSwitch := sw, keyUses := 0, nextUses := 0, overlapEnd := none }).emitKeyUpd i u true
        if rebase then d2.rebased i else (d2.replKeys i).presealSafe i
    | _, _, _ => d1

/-- JQUERY_RECEIVE (R186): a query of 8 bytes is answered; an answer needs nothing. -/
def Dev.jqueryReceive (d : Dev) (f : RxFrame) : Dev :=
  match d.receive 9 f with
  | (none, d1) => d1
  | (some (i, p), d1) =>
    let d2 := d1.markSeq i f.seq
    if p.length ≠ 8 then d2
    else
      let seq := beAt p 0 6
      let x := d2.ses i
      let held := d2.que.man.items.find? (fun e => e.2.ingress == some (i, seq))
      let (res, st, oc) : Nat × Nat × Nat := match held with
        | some (_, it) => (0, it.stateNumber, it.state.outcome)
        | none =>
          if seq ∈ x.window then (1, 0, 0)
          else if seq < x.rxFloor || seq + 1024 ≤ x.high then (3, 0, 0)
          else (2, 0, 0)
      d2.send0 i 9 0 (toBe 6 seq ++ [BitVec.ofNat 8 res, BitVec.ofNat 8 st, BitVec.ofNat 8 oc, 0, 0, 0])

/-- BEARING_FRAME_RECEIVE (R50): every NETWORK Bearing with this source takes the sample. -/
def Dev.bearingReceive (d : Dev) (f : RxFrame) : Dev :=
  match d.receive 4 f with
  | (none, d1) => d1
  | (some (i, p), d1) =>
    let d2 := d1.markSeq i f.seq
    match f.time, f.stamps with
    | some t, (n, q, x) :: _ =>
      let sm : PubSample := { bearing := n, quality := q, x := x, instant := t, vel := signedOf 64 (beAt p 0 8),
                              acc := signedOf 64 (beAt p 8 8), unc := signedOf 64 (beAt p 16 8) }
      let late := fun (y : Dev) (b : Nat) =>
        -- R69: a sample that comes more than NET_COMMIT_DELAY after its instant is counted, and marks the entries whose
        -- commit point passed meanwhile
        if t + y.cfg Od.lbr_NET_COMMIT_DELAY b < y.now then
          (y.bump Od.lbr_LATE_SAMPLES b).markNetLate b t
        else y
      (List.range 16).foldl (fun y b =>
        if y.brgType b = 4 && y.cfgN Od.nbr_SRC_SESSION b = f.session && y.cfgN Od.nbr_SRC_BEARING b = n && (y.brg b).state ≠ .off
        then (late y b).bearingFrame b sm else y) d2
    | _, _ => d2

/-! ## Time (R173, R186–R188, R193, R196) -/

/-- HEARTBEAT_SEND. -/
def Dev.heartbeatSend (d : Dev) (i : Nat) : Dev :=
  let x := d.ses i
  if x.state.live && decide (x.lastHbTx + d.cfg Od.ses_HB_PERIOD i ≤ d.now) && !d.standsBy i then
    (d.onSes i (fun y => { y with lastHbTx := d.now })).send2 i 6 (d.hbPayload i)
  else d

/-- HB_TIMEOUT. -/
def Dev.hbTimeout (d : Dev) (i : Nat) : Dev :=
  let x := d.ses i
  if x.state = .opened && decide (x.lastHbRx + d.cfg Od.ses_HB_TIMEOUT i ≤ d.now) && !d.standsBy i then d.sesState i .stalled else d

/-- R193: the interval after a retransmission: RETX_TIME after a first one, then twice the last one, up to RETX_MAX. -/
def Dev.nextGap (d : Dev) (i : Nat) (gap : Ticks) : Ticks :=
  if gap = 0 then d.cfg Od.ses_RETX_TIME i else min (2 * gap) (d.cfg Od.ses_RETX_MAX i)

/-- RETX_TIME (R185, R193): the frame of a DISPATCHED item goes out again with its sequence: the identical bytes, or resealed
where the claim or the key has changed. -/
def Dev.retransmit (d : Dev) (q seq : Nat) : Dev :=
  match d.findItem q seq with
  | none => d
  | some (h, x) =>
    match x.state, x.sff with
    | .dispatched, some n =>
      if d.now < x.retxAt || d.isStandby then d
      else if x.kind = .launchEntry then
        match d.entry x.handle with
        | some e =>
          match e.image.target with
          | .frame s t a =>
            match d.sesOf s with
            | some i =>
              let gap := d.nextGap i x.retxGap
              if (d.ses i).state.live && e.sent then
                ((d.setItem h { x with retxAt := d.now + gap, retxGap := gap }).bump Od.sst_RETRANSMISSIONS i).sendLaunched e s t a
              else d
            | none => d
          | _ => d
        | none => d
      else
        match d.sesOf (d.cfgN Od.que_SESSION q) with
        | some i =>
          let gap := d.nextGap i x.retxGap
          let y := { x with retxAt := d.now + gap, retxGap := gap, claim := d.fry.twin.claim, keyGen := (d.ses i).genAt n }
          let d1 := (d.setItem h y).bump Od.sst_RETRANSMISSIONS i
          if x.claim = y.claim && x.keyGen = y.keyGen then
            if (d.ses i).state.live && !d.flt.chipSafe then d1.putFrame i 0 0 n x.wireBody else d
          else if d.maySeal0 i then d1.sendFrame i 0 0 n x.wireBody
          else d
        | none => d
    | _, _ => d

/-- REKEY (R187). -/
def Dev.rekey (d : Dev) (i : Nat) : Dev :=
  let x := d.ses i
  if x.state.live && !x.updating && x.keys.isSome && !d.standsBy i then d.sendKeyUpd i false else d

/-- KEYUPD_RETRY (R187): three attempts at 10 ms, then STALLED and one attempt every HB_PERIOD. -/
def Dev.keyupdRetry (d : Dev) (i : Nat) : Dev :=
  let x := d.ses i
  match x.upd with
  | none => d
  | some u =>
    let wait := if u.attempts ≤ 3 then 10 * ms else d.cfg Od.ses_HB_PERIOD i
    if u.replied || d.now < u.sentAt + wait || d.standsBy i then d
    else
      let d1 := if u.attempts = 3 && x.state = .opened then d.sesState i .stalled else d
      d1.sendKeyUpd i u.rebase

/-- KEY_OVERLAP (R187): the older key is dropped, here and at the standby, and the SAFE frame resealed. -/
def Dev.keyOverlap (d : Dev) (i : Nat) : Dev :=
  let x := d.ses i
  match x.overlapEnd, x.nextKeys with
  | some t, some k =>
    if t ≤ d.now then ((d.setSes i { x with keys := some k, nextKeys := none, overlapEnd := none }).replKeys i).presealSafe i else d
  | _, _ => d

/-- REBASE_START (R188). -/
def Dev.rebaseStart (d : Dev) (i : Nat) : Dev :=
  let x := d.ses i
  if x.state = .exhausted && !x.rebasing && (d.oldestCmd i).isNone && !d.standsBy i then
    (d.onSes i (fun y => { y with rebasing := true, upd := none })).sendKeyUpd i true
  else d

/-- REBASE_TIMEOUT (R188). -/
def Dev.rebaseTimeout (d : Dev) (i : Nat) : Dev :=
  let x := d.ses i
  match x.upd with
  | some u =>
    if x.rebasing && !u.replied && decide (u.startedAt + sec ≤ d.now) then
      ((d.setSes i { x with rebasing := false, upd := none, nextKeys := none }).endDispatched i 0x42).endSent i 0x42
    else d
  | none => d

/-- SAFE_SEND. -/
def Dev.safeSend (d : Dev) (i : Nat) : Dev :=
  if (d.ses i).state.live && d.cfgB Od.ses_SAFE_ENABLE i then d.sendSafe i else d

/-- SAFE_REPEAT (R196): the identical bytes again; after the last, the next count is pre-sealed. -/
def Dev.safeRepeat (d : Dev) (i : Nat) : Dev :=
  let x := d.ses i
  if x.safeLeft = 0 || d.now < x.safeAt then d
  else
    let d1 := d.emitSafe i
    if x.safeLeft = 1 then ((d1.setSes i { x with safeLeft := 0, safeNext := x.safeNext + 1 }).presealSafe i).replSession i
    else d1.setSes i { x with safeLeft := x.safeLeft - 1, safeAt := d.now + 100 * us }

/-! ## Ports and time (R166–R171) -/

/-- The lanes that a port uses in a mode (R166). -/
def portLanes (p mode : Nat) : List Nat :=
  match mode with
  | 0 => []
  | 6 => [p, p + 1]
  | 7 => [p, p + 1, p + 2, p + 3]
  | _ => [p]

/-- R166: a MODE is allowed on a port. -/
def Dev.portModeOk (d : Dev) (p mode : Nat) : Bool :=
  (mode ≠ 6 || decide (p % 2 = 0)) && (mode ≠ 7 || decide (p % 4 = 0)) &&
    (List.range 32).all (fun q => q == p || (portLanes q (d.cfgN Od.prt_MODE q)).all (fun l => l ∉ portLanes p mode))

/-- R151: a port is disabled; its mode goes to its sessions. -/
def Dev.portOff (d : Dev) (p : Nat) (cancel : Bool) : Dev :=
  let d1 := (d.sessionsOn p).foldl (fun x i => x.sessionOff i cancel) d
  if (d1.sessionsOn p).isEmpty then d1.onPort p (fun x => { x with up := false, draining := false })
  else d1.onPort p (fun x => { x with draining := true })

/-- PORT_ENABLE. -/
def Dev.portEnable (d : Dev) (p : Nat) (on : Bool) : Dev :=
  if on then
    if d.cfg Od.prt_MODE p = 0 then d
    else (d.set Od.prt_ENABLE p 1).onPort p (fun x => { x with up := true, draining := false })
  else (d.set Od.prt_ENABLE p 0).portOff p (decide (d.cfg Od.prt_DISABLE_MODE p = 1))

/-- PORT_LINK (R208): a link that comes up completes the handling of a port fault. -/
def Dev.portLink (d : Dev) (p : Nat) (up : Bool) : Dev :=
  if (d.port p).link = up then d
  else ((d.onPort p (fun x => { x with link := up })).raise 19 0xE9 p [(b2n up : Int)])

/-- Enter a time state (R170, R171). Holdover that REF10M_IN steers takes its frequency from that input: the estimate is a free value
(log entry 35). -/
def Dev.timeState (d : Dev) (st : TimeState) : Dev :=
  let t := d.net.time
  if t.state = st then d
  else
    let r := d.cfg Od.tim_REF_SOURCE 0
    let (n, d0) := if st = .holdover && (r = 2 || r = 3) then d.take else (0, d)
    let steer := if st = .holdover && (r = 2 || r = 3) then Config.freeInt n else t.steer
    ({ d0 with net.time := { t with state := st, enteredAt := d.now, entryUnc := d.timeUnc, steer := steer } }).raise 19 0xE8 0xFFFF [(st.code : Int)]

/-- R170: PROFILE 0 makes the device its own time base; with any other it is grandmaster by election alone. -/
def Dev.timeProfile (d : Dev) : Dev :=
  if d.cfg Od.tim_PROFILE 0 = 0 then d.timeState .grandmaster
  else if d.net.time.state = .grandmaster && !d.net.time.elected then d.timeState .free
  else d

/-- Lexicographic order of the data sets that the best master clock algorithm compares (R169; log entry 154). -/
def betterClock : List Nat → List Nat → Bool
  | a :: l, b :: m => if a = b then betterClock l m else decide (a < b)
  | _, _ => false

/-- This device's own data set: its priorities, and what the spec leaves to the implementation (R169; log entry 154). -/
def Dev.ownClock (d : Dev) : List Nat :=
  [d.cfgN Od.tim_PRIORITY1 0, Config.clockClass, Config.clockAccuracy, Config.clockVariance, d.cfgN Od.tim_PRIORITY2 0, Config.clockIdentity]

/-- Whether the message is one of the time domain: its port takes part, its domain is the device's (R169). -/
def Dev.syncTaken (d : Dev) (m : SyncMsg) : Bool :=
  bitOf (d.cfgN Od.tim_TIME_PORTS 0) m.port && decide (m.domain = d.cfgN Od.tim_DOMAIN_NUMBER 0) && (d.port m.port).up

/-- R170: a sync interval that passed without a message breaks the run of consecutive ones (log entry 154). -/
def TimeSync.missed (t : TimeSync) (now : Ticks) : Bool := decide (t.lastSync + 2 * t.syncInterval ≤ now)

/-- TIME_SYNC_MESSAGE (R169, R170): a master better than this device and no worse than the present one steers chip time; where this
device is the best clock of what it hears, it is grandmaster. -/
def Dev.syncMessage (d : Dev) (m : SyncMsg) : Dev :=
  let t := d.net.time
  if d.cfg Od.tim_PROFILE 0 = 0 then d.timeState .grandmaster
  else if !d.syncTaken m then d
  else if betterClock d.ownClock m.master then
    (if t.master.isEmpty || t.master = m.master || t.lost d.now then
      ({ d with net.time := { t with elected := true, good := 0, master := [] } }).timeState .grandmaster
     else d)
  else if !t.master.isEmpty && betterClock t.master m.master && !t.lost d.now then d
  else
    let small := decide (m.offset < d.cfg Od.tim_LOCK_THRESHOLD 0) && decide (-m.offset < d.cfg Od.tim_LOCK_THRESHOLD 0)
    let run := if t.state = .grandmaster || t.master ≠ m.master || t.missed d.now then 0 else t.good
    let good := if small then run + 1 else 0
    let d1 := { d with net.time := { t with offset := m.offset, servoUnc := m.unc, gm := m.gm, steps := m.steps, pathDelay := m.pathDelay,
                                            syncInterval := m.interval, lastSync := d.now, good := good, master := m.master, elected := false } }
    match t.state with
    | .locked => d1
    | _ => if d.cfg Od.tim_LOCK_COUNT 0 ≤ (good : Int) then d1.timeState .locked else d1.timeState .acquiring

/-- SYNC_LOSS. -/
def Dev.syncLoss (d : Dev) : Dev :=
  let t := d.net.time
  if t.state = .locked && t.lost d.now then
    ({ d with net.time := { t with good := 0 } }).timeState .holdover
  else if t.state = .acquiring && t.missed d.now then { d with net.time := { t with good := 0 } }
  else d

/-- HOLDOVER_LIMIT. -/
def Dev.holdoverLimit (d : Dev) : Dev :=
  let t := d.net.time
  if t.state = .holdover && decide (t.enteredAt + d.cfg Od.tim_HOLDOVER_LIMIT 0 < d.now) then d.timeState .free else d

/-- PPS_IN (R171): in holdover the edge steers the frequency; the estimate is not in the spec and is a free value (log
entry 35). -/
def Dev.ppsIn (d : Dev) (stamp : Ticks) : Dev :=
  let r := d.cfg Od.tim_REF_SOURCE 0
  if d.net.time.state = .holdover && (r = 1 || r = 3) then
    let (n, d1) := d.take
    { d1 with net.time := { d1.net.time with pps := some stamp, steer := Config.freeInt n } }
  else d

/-- PPS_OUT (R171). -/
def Dev.ppsOut (d : Dev) : Dev := if d.cfgB Od.tim_PPS_OUT_ENABLE 0 && decide (d.now % sec = 0) then d.emit .ppsOut else d

end Sys2Proof.Machine
end

