-- ==== Sys2Proof/Machine/StreamOps.lean ====
section
/-!
DEFINITION. Streams: record stamps, delivery, gaps, epochs and their signatures, certificates (R197–R207, R210).
-/
namespace Sys2Proof.Machine

def Dev.str (d : Dev) (s : Nat) : Stream := d.net.streams.get {} s

def Dev.setStr (d : Dev) (s : Nat) (x : Stream) : Dev := { d with net.streams := d.net.streams.put {} s x }

def Dev.onStr (d : Dev) (s : Nat) (f : Stream → Stream) : Dev := d.setStr s (f (d.str s))

/-! ## Record stamps (R198, R199) -/

/-- A Bearing stamp in a stamp header: number 0xFF and zeros when absent. -/
def stampBytes (s : Option (Nat × Nat × BVal)) : Bytes :=
  match s with
  | some (n, q, x) => [BitVec.ofNat 8 n, BitVec.ofNat 8 q, 0, 0] ++ toBe 8 (patternOf 64 x)
  | none => 0xFF :: List.replicate 11 0

/-- The stamp header, IN_RECORD_AREA as given. -/
def StreamIn.header (r : StreamIn) (stream : Nat) (area : Bool) : Bytes :=
  toBe 6 r.seq ++ toBe 2 r.data.length ++ timeBe r.at_ ++ stampBytes r.stampA ++ stampBytes r.stampB ++ toBe 2 stream ++
    [BitVec.ofNat 8 (r.flags + 8 * b2n area), 0]

/-- Stamp a record at its instant (R198). -/
def Dev.stampRecord (d : Dev) (s : Nat) (f : RxFrame) (data : Bytes) : StreamIn :=
  let source := d.cfgB Od.str_STAMP_AT s
  let given := match f.time with
    | some t => if source && decide (t ≤ f.arrival) && decide (f.arrival ≤ t + 100 * us) then some t else none
    | none => none
  let at_ := given.getD f.arrival
  let stamp := fun (b : Nat) => if b < 16 then some (d.stamp b at_) else none
  { seq := f.seq, at_ := at_, arrival := f.arrival, stampA := stamp (d.cfgN Od.str_BEARING_A s), stampB := stamp (d.cfgN Od.str_BEARING_B s),
    flags := b2n d.unlocked + 2 * b2n given.isSome + 4 * b2n (source && given.isNone), data := data }

/-! ## Trees (R201) -/

def recordLeaf (header data : Bytes) : Bytes := sha256 (0x00 :: header ++ data)

def gapLeaf (first count : Nat) : Bytes := sha256 (0x03 :: toBe 6 first ++ toBe 6 count)

def treeNode (l r : Bytes) : Bytes := sha256 (0x01 :: l ++ r)

/-- The largest power of 2 below a number, from a power on; the first argument bounds the doublings. -/
def splitBelow : Nat → Nat → Nat → Nat
  | 0, k, _ => k
  | j + 1, k, n => if 2 * k < n then splitBelow j (2 * k) n else k

/-- The root of a tree; the first argument bounds its depth. -/
def treeRoot : Nat → List Bytes → Bytes
  | _, [] => []
  | _, [l] => l
  | 0, l :: _ => l
  | k + 1, ls =>
    let s := splitBelow 16 1 ls.length
    treeNode (treeRoot k (ls.take s)) (treeRoot k (ls.drop s))

/-! ## Epochs (R201–R205) -/

/-- Epoch flags (R202). -/
def epTakeover : Nat := 0
def epGaps : Nat := 1
def epUnlocked : Nat := 2
def epExtended : Nat := 3
def epEnvelope : Nat := 4

/-- The epoch that takes the next leaf: the open one, or one opened here, numbered NEXT_EPOCH (log entry 31). -/
def Dev.openEpoch (d : Dev) (s : Nat) : Epoch × Dev :=
  let x := d.str s
  match x.cur with
  | some e => (e, d)
  | none =>
    let prev := if x.lastChain.isEmpty then List.replicate 32 0 else x.lastChain
    let e : Epoch := { number := x.nextEpoch, openAt := d.now, prevChain := prev,
                       flags := (if x.takeoverNext then 2 ^ epTakeover else 0) + (if d.net.signBehind then 2 ^ epExtended else 0) }
    let cert := x.cert.map (fun c => if c.first.isNone then { c with first := some (e.number, prev) } else c)
    (e, (d.setStr s { x with cur := some e, nextEpoch := x.nextEpoch + 1, takeoverNext := false, cert := cert }).set Od.ssr_EPOCH s e.number |>.journalStream s)

/-- Whether a stamp carries ENVELOPE (R49). -/
def stampEnvelope (s : Option (Nat × Nat × BVal)) : Bool :=
  match s with
  | some (_, q, _) => bitOf q 4
  | none => false

/-- The stamp that a certificate request selects. -/
def StreamRec.sel (r : StreamRec) (selector : Nat) : Option BVal :=
  (if selector = 1 then r.stampA else r.stampB).map (fun p => p.2.2)

/-- R207: one leaf of a covered epoch enters the request's count. -/
def CertReq.fold (c : CertReq) (r : StreamRec) : CertReq :=
  if 0 < r.missing then (if c.firstRec.isSome then { c with pendMiss := c.pendMiss + r.missing } else c)
  else
    match r.sel c.selector with
    | none => c
    | some v =>
      let before := bvBefore v c.to_
      let c1 := if c.firstRec.isNone && !bvBefore v c.from_ then { c with firstRec := some r.seq } else c
      let c2 := if c1.firstRec.isSome then
          (if before then { c1 with records := c1.records + c1.pendRec + 1, missing := c1.missing + c1.pendMiss, pendRec := 0, pendMiss := 0 }
           else { c1 with pendRec := c1.pendRec + 1 })
        else c1
      if before then { c2 with lastRec := some r.seq } else { c2 with reachedTo := true }

/-- The first 188 bytes of an epoch record (R202). -/
def epochHead (unit : Bytes) (stream : Nat) (e : Epoch) : Bytes :=
  let rs := e.recs.reverse
  let whole := rs.filter (fun r => r.missing = 0)
  let first := whole.head?
  let last := whole.getLast?
  let lastSeq := match e.recs with
    | r :: _ => r.seq + (r.missing - 1)
    | [] => 0
  let t := fun (r : Option StreamRec) => timeBe ((r.map (fun x => x.at_)).getD e.openAt)
  let st := fun (r : Option StreamRec) (f : StreamRec → Option (Nat × Nat × BVal)) => stampBytes (r.bind f)
  [1, 1] ++ toBe 2 e.flags ++ toBe 2 stream ++ [0, 0] ++ toBe 8 e.number ++ padTo 16 unit ++
    toBe 6 ((rs.head?.map (fun r => r.seq)).getD 0) ++ toBe 6 lastSeq ++ toBe 4 rs.length ++
    toBe 4 (rs.foldl (fun a r => a + r.missing) 0) ++ t first ++ t last ++
    st first (fun r => r.stampA) ++ st last (fun r => r.stampA) ++ st first (fun r => r.stampB) ++ st last (fun r => r.stampB) ++
    treeRoot 17 (rs.map (fun r => r.leaf)) ++ e.prevChain

/-- SIGN_BEHIND (R203): raised with 4 096 epochs waiting, over with fewer than 2 048 (log entry 32). -/
def Dev.noteSigning (d : Dev) (s : Nat) : Dev :=
  let n := d.net.streams.foldl (fun a e => a + e.2.waiting.length) 0
  if !d.net.signBehind && 4096 ≤ n then ({ d with net.signBehind := true }).raise 18 0xE5 s
  else if d.net.signBehind && n < 2048 then { d with net.signBehind := false }
  else d

/-- The certificate's first 196 bytes, its issue instant still zero (R206). A bound that no record meets is a free value. -/
def Dev.certBody (d : Dev) (s : Nat) (c : CertReq) (e : Epoch) (chain : Bytes) : Bytes × Dev :=
  let (fa, d1) := d.draw 6
  let (fb, d2) := d1.draw 6
  let (n0, prev) := c.first.getD (e.number, e.prevChain)
  let brg := if c.selector = 1 then d.cfgN Od.str_BEARING_A s else d.cfgN Od.str_BEARING_B s
  let bound := fun (r : Option Nat) (free : Bytes) => match r with
    | some n => toBe 6 n
    | none => free
  ([1, 2] ++ toBe 2 c.flags ++ toBe 2 s ++ [BitVec.ofNat 8 brg, 0] ++ toBe 8 n0 ++ toBe 8 e.number ++ padTo 16 (d.oct Od.idn_UNIT_ID 0) ++
    toBe 8 (patternOf 64 c.from_) ++ toBe 8 (patternOf 64 c.to_) ++ bound c.firstRec fa ++ bound c.lastRec fb ++ toBe 8 c.records ++
    toBe 8 c.missing ++ prev ++ chain ++ List.replicate 12 0 ++ padTo 32 c.ref ++ toBe 4 (d.cfgN Od.str_SIGN_KEY s), d2)

/-- Close a stream's open epoch: its record waits for its signature, and a certificate request takes it in. -/
def Dev.closeEpoch (d : Dev) (s : Nat) : Dev :=
  let x := d.str s
  match x.cur with
  | none => d
  | some e =>
    let head := epochHead (d.oct Od.idn_UNIT_ID 0) s e
    let chain := sha256 (0x02 :: head)
    let lastSeq := match e.recs with
      | r :: _ => r.seq + (r.missing - 1)
      | [] => 0
    let rec_ : EpochRec := { number := e.number, lastSeq := lastSeq, chain := chain, body := head ++ chain ++ toBe 4 (d.cfgN Od.str_SIGN_KEY s) }
    let x1 := { x with cur := none, lastChain := chain, waiting := x.waiting ++ [rec_] }
    let d1 := (d.setStr s x1).set Od.ssr_SIGN_WAITING s x1.waiting.length
    let d2 := match x.cert with
      | none => d1
      | some c =>
        let c1 := e.recs.reverse.foldl CertReq.fold { c with flags := c.flags ||| e.flags }
        if c1.reachedTo then
          let (body, d2) := d1.certBody s c1 e chain
          d2.onStr s (fun y => { y with cert := none, certSigning := some body, certState := 2 })
        else d1.onStr s (fun y => { y with cert := some c1 })
    d2.noteSigning s

/-- Add a leaf to the open epoch, which closes when it holds EPOCH_RECORDS leaves (R201). -/
def Dev.addLeaf (d : Dev) (s : Nat) (r : StreamRec) (flags : Nat) : Dev :=
  let (e, d1) := d.openEpoch s
  let e1 := { e with recs := r :: e.recs, flags := e.flags ||| flags }
  let d2 := d1.onStr s (fun x => { x with cur := some e1 })
  if d.cfg Od.str_EPOCH_RECORDS s ≤ (e1.recs.length : Int) then d2.closeEpoch s else d2

/-! ## Delivery and gaps (R197, R200) -/

/-- A gap: a GAP record in the stream's queue, a gap leaf, MISSING, STREAM_GAP. -/
def Dev.streamLoss (d : Dev) (s first count : Nat) : Dev :=
  let q := d.cfgN Od.str_QUEUE s
  let d1 := if q < 16384 && (d.queue q).isOpen then d.streamGapRec q { first := first, count := count } else d
  let d2 := (d1.bump Od.ssr_MISSING s count).raise 18 0xE4 s [(first : Int), (count : Int)]
  d2.addLeaf s { seq := first, at_ := d.now, stampA := none, stampB := none, leaf := gapLeaf first count, missing := count } (2 ^ epGaps + (if d.unlocked then 2 ^ epUnlocked else 0))

/-- A record goes to the stream's queue, to FWD_SESSION and into the tree. A full delivery ring loses it (log entry 33). -/
def Dev.streamRecord (d : Dev) (s : Nat) (r : StreamIn) : Dev :=
  let q := d.cfgN Od.str_QUEUE s
  let x := d.queue q
  let open_ := decide (q < 16384) && x.isOpen
  if open_ && x.workFree = 0 then d.streamLoss s r.seq 1
  else
    let area := decide (q < 16384) && decide (208 < r.data.length)
    let hdr := r.header s area
    let d1 := if open_ then
        let d0 := if area then d.emitPf (d.pfOf (d.cfgN Od.str_QUEUE s)) (.dma (d.cfgN Od.str_RECORD_BASE s + d.cfgN Od.str_RECORD_SLOT s * (r.seq % d.cfgN Od.str_RECORD_SLOTS s)) r.data) else d
        ((d0.setQueue q { x with devPos := x.devPos + 1, noticeSeq := x.noticeSeq + 1 }).emitWork q x.devPos 4 s x.noticeSeq (if area then hdr else hdr ++ r.data)
          (.delivery q x.devPos 4 s x.noticeSeq (if area then hdr else hdr ++ r.data))).signalSource q
      else d
    let d2 := match d1.sesOf (d.cfgN Od.str_FWD_SESSION s) with
      | some i =>
        if d1.maySend0 i then
          let (n, d2) := d1.takeTx i
          d2.sendFrame i 3 0 n (toBe 2 s ++ toBe 6 r.seq ++ r.data) (some r.at_) (r.stampA.toList ++ r.stampB.toList)
        else d1
      | none => d1
    let fl := (if bitOf r.flags 0 then 2 ^ epUnlocked else 0) + (if stampEnvelope r.stampA || stampEnvelope r.stampB then 2 ^ epEnvelope else 0)
    (d2.bump Od.ssr_RECORDS s).addLeaf s
      { seq := r.seq, at_ := r.at_, stampA := r.stampA, stampB := r.stampB, leaf := recordLeaf hdr r.data, missing := 0 } fl

/-- Records received ahead that are now in order. -/
def Dev.streamDrain : Nat → Dev → Nat → Dev
  | 0, d, _ => d
  | k + 1, d, s =>
    let x := d.str s
    match x.next with
    | none => d
    | some n =>
      match x.ahead.find n with
      | none => d
      | some r => Dev.streamDrain k ((d.setStr s { x with next := some (n + 1), ahead := x.ahead.del n }).streamRecord s r) s

/-- The first record after a takeover or a cold restart: a gap covers everything since the last sealed epoch (R204, R205). -/
def Dev.streamResume (d : Dev) (s seq : Nat) : Dev :=
  let x := d.str s
  if !x.gapNext then d
  else
    let first := if x.sealedEpoch.isSome then x.sealedSeq + 1 else 0
    let d1 := d.setStr s { x with gapNext := false }
    if first < seq then d1.streamLoss s first (seq - first) else d1

/-- Bytes of records that wait in the buffer of the pier that serves a session (R197). -/
def Dev.streamHeld (d : Dev) (pier : Nat) : Nat :=
  (d.net.streams.filter (fun e => match d.sesOf (d.cfgN Od.str_SRC_SESSION e.1) with
    | some i => decide ((d.ses i).pier = pier)
    | none => false)).foldl (fun a e => a + (e.2.ahead.map (fun r => r.2.data.length)).sum) 0

/-- A record of a stream arrives (R197). One that waits for a missing one and finds no room in the pier buffer is lost, and its
sequence is missing in its turn. -/
def Dev.streamArrive (d : Dev) (s : Nat) (f : RxFrame) (data : Bytes) : Dev :=
  let d0 := if (d.str s).next.isNone then (d.streamResume s f.seq).onStr s (fun x => { x with next := some f.seq }) else d
  let x := d0.str s
  let n := x.next.getD f.seq
  let pier := ((d0.sesOf f.session).map (fun i => (d0.ses i).pier)).getD 0
  if f.seq < n then d0.bump Od.ssr_LATE_RECORDS s
  else if x.ahead.has f.seq then d0
  else if f.seq ≠ n && decide (Config.streamRoom < d0.streamHeld pier + data.length) then d0
  else
    let r := d0.stampRecord s f data
    Dev.streamDrain (x.ahead.length + 1) (d0.setStr s { x with ahead := x.ahead.ins f.seq r }) s

/-- The streams that a session feeds. -/
def Dev.streamsOf (d : Dev) (sid : Nat) : List Nat :=
  (d.net.streams.filter (fun e => e.2.on && d.cfgN Od.str_SRC_SESSION e.1 == sid)).map (fun e => e.1)

/-- STREAM_RECEIVE (R190, R197). -/
def Dev.streamReceive (d : Dev) (f : RxFrame) : Dev :=
  match d.receive 3 f with
  | (none, d1) => d1
  | (some (i, p), d1) => (d1.streamsOf f.session).foldl (fun y s => y.streamArrive s f p) (d1.markSeq i f.seq)

/-- STREAM_GAP: the missing sequences below the lowest one received ahead are a gap once REORDER_TIME has passed (R197). -/
def Dev.streamGap (d : Dev) (s : Nat) : Dev :=
  let x := d.str s
  match x.next, x.ahead with
  | some n, (k, r) :: rest =>
    let since := rest.foldl (fun a e => min a e.2.arrival) r.arrival
    if x.on && decide (n < k) && decide (since + d.cfg Od.str_REORDER_TIME s ≤ d.now) then
      Dev.streamDrain x.ahead.length ((d.setStr s { x with next := some k }).streamLoss s n (k - n)) s
    else d
  | _, _ => d

/-- Records of a stream that the device loses itself: those it holds out of order (R197, R244). -/
def Dev.streamDropAhead (d : Dev) (s : Nat) : Dev :=
  let x := d.str s
  match x.next, x.ahead.getLast? with
  | some n, some (k, _) => (d.setStr s { x with next := some (k + 1), ahead := [] }).streamLoss s n (k + 1 - n)
  | _, _ => d

/-! ## Closing, sealing, enabling (R201–R203, R205) -/

/-- EPOCH_CLOSE: EPOCH_TIME has passed since the epoch opened, twice that where the epoch is EXTENDED. -/
def Dev.epochClose (d : Dev) (s : Nat) : Dev :=
  match (d.str s).cur with
  | none => d
  | some e =>
    let len := d.cfg Od.str_EPOCH_TIME s * (if bitOf e.flags epExtended then 2 else 1)
    if e.openAt + len ≤ d.now && !d.isStandby then d.closeEpoch s else d

/-- The name under which the signature function knows a key handle. -/
def keyName (h : Nat) : Bytes := ascii "KEY" ++ toLe 4 h

/-- EPOCH_SEALED: the oldest closed epoch is signed, written to the seal area and announced (R202, R205). -/
def Dev.epochSealed (d : Dev) (s : Nat) : Dev :=
  let x := d.str s
  match x.waiting with
  | [] => d
  | e :: rest =>
    if d.isStandby then d
    else
      let sig := padTo 17088 (Config.pkSign algSlh128f (keyName (d.cfgN Od.str_SIGN_KEY s)) (slhPure e.body))
      let d1 := (((d.setStr s { x with waiting := rest, sealedEpoch := some e.number, sealedSeq := e.lastSeq, sealedChain := e.chain }).setOct
        Od.ssr_CHAIN s e.chain).set Od.ssr_SIGN_WAITING s rest.length).journalStream s
      ((d1.emitPf (d.pfOf (d.cfgN Od.str_QUEUE s)) (.dma (d.cfgN Od.str_SEAL_BASE s + 32768 * (e.number % d.cfgN Od.str_SEAL_SLOTS s)) (e.body ++ sig))).raise
        18 0xE6 s [(e.number : Int)]).noteSigning s

/-- R207: a request that can no longer be met is REFUSED. -/
def Dev.certRefused (d : Dev) (s : Nat) : Dev :=
  d.onStr s (fun x => if x.cert.isSome then { x with cert := none, certState := 4 } else x)

/-- R203: the signatures each second that the enabled streams and one more ask for, against SIGN_BUDGET. -/
def Dev.signBudgetOk (d : Dev) (s : Nat) : Bool :=
  let on := (d.net.streams.filter (fun e => e.2.on && e.1 != s)).map (fun e => e.1)
  let total : Rat := (s :: on).foldl (fun a k => a + mkRat sec (d.cfgN Od.str_EPOCH_TIME k)) 0
  decide (total ≤ ((d.cfg Od.str_SIGN_BUDGET 0 : Int) : Rat))

/-- The host areas of a stream lie inside their window (R207, R284). -/
def Dev.streamWindowOk (d : Dev) (s : Nat) : Bool :=
  let pf := d.pfOf (d.cfgN Od.str_QUEUE s)
  d.inWindow pf (d.cfgN Od.str_SEAL_BASE s) (32768 * (d.cfgN Od.str_SEAL_SLOTS s + d.cfgN Od.str_CERT_SLOTS s)) &&
    (decide (16384 ≤ d.cfgN Od.str_QUEUE s) || d.inWindow pf (d.cfgN Od.str_RECORD_BASE s) (d.cfgN Od.str_RECORD_SLOT s * d.cfgN Od.str_RECORD_SLOTS s))

/-- STREAM_ENABLE: the write's answer (0 OK, else an OAP status) and its effect (R203, R205, R207). A stream that is
disabled closes its open epoch (log entry 34). -/
def Dev.streamEnable (d : Dev) (s : Nat) (on : Bool) : Nat × Dev :=
  let x := d.str s
  if on then
    if x.on then (0, d)
    else if !d.signBudgetOk s then (9, d)
    else if !d.streamWindowOk s then (9, d.raise 33 0x129 s)
    else
      let d1 := d.set Od.str_ENABLE s 1
      let d2 := d1.onStr s (fun y => { y with on := true, next := none, ahead := [] })
      if d2.man.streamCells.has s then (0, d2)
      else
        match d2.man.alloc 2 with
        | some c => (0, (d2.onMan (fun m => { m with streamCells := m.streamCells.ins s c, lastAlloc := c + 1 })).journalStream s)
        | none => (9, d)
  else
    let d1 := ((d.set Od.str_ENABLE s 0).certRefused s).closeEpoch s
    (0, d1.onStr s (fun y => { y with on := false, ahead := [], next := none }))

/-! ## Certificates (R206, R207) -/

/-- CERT_REQUEST: the write's answer and its effect. -/
def Dev.certRequest (d : Dev) (s selector : Nat) (from_ to_ : BVal) (ref : Bytes) : Nat × Dev :=
  let x := d.str s
  if selector = 0 && x.certState = 1 then (0, d.setStr s { x with cert := none, certState := 0 })
  else if x.certState = 1 || x.certState = 2 then (10, d)
  else if selector = 0 then (0, d)
  else if 2 < selector then (8, d)
  else
    let brg := if selector = 1 then d.cfgN Od.str_BEARING_A s else d.cfgN Od.str_BEARING_B s
    if brg = 0xFF || !bvBefore from_ to_ || !x.on then (0, d.setStr s { x with certState := 4 })
    else
      (0, d.setStr s { x with certState := 1, cert := some { selector := selector, from_ := from_, to_ := to_, ref := ref,
                                                             first := x.cur.map (fun e => (e.number, e.prevChain)) } })

/-- CERT_ISSUED: the certificate is signed, written to its slot and to CERT_LAST, and announced. -/
def Dev.certIssued (d : Dev) (s : Nat) : Dev :=
  let x := d.str s
  match x.certSigning with
  | none => d
  | some b =>
    let body := overlayB b 148 (timeBe d.now)
    let cert := body ++ padTo 17088 (Config.pkSign algSlh128f (keyName (d.cfgN Od.str_SIGN_KEY s)) (slhPure body))
    let slot := d.cfgN Od.str_SEAL_SLOTS s + x.certNo % d.cfgN Od.str_CERT_SLOTS s
    let d1 := (d.setStr s { x with certSigning := none, certState := 3, certNo := x.certNo + 1, certLast := cert }).journalStream s
    (d1.emitPf (d.pfOf (d.cfgN Od.str_QUEUE s)) (.dma (d.cfgN Od.str_SEAL_BASE s + 32768 * slot) cert)).raise 18 0xE7 s [(x.certNo : Int)]

end Sys2Proof.Machine
end

