-- ==== Sys2Proof/Machine/FerryOps.lean ====
section
/-!
DEFINITION. Ferry ports and the flotilla: training, resending, time across the board, the master (R212–R225).
-/
namespace Sys2Proof.Machine

/-! ## Ports (R213–R215, R219–R221) -/

/-- The lanes that work give the width: 4, else lanes 0–1 or 2–3, else one (R214). -/
def FerryTrained.width (r : FerryTrained) : Nat :=
  if r.lane0 && r.lane1 && r.lane2 && r.lane3 then 4
  else if (r.lane0 && r.lane1) || (r.lane2 && r.lane3) then 2
  else if r.lane0 || r.lane1 || r.lane2 || r.lane3 then 1
  else 0

/-- R38, R225: FERRY Bearings whose source no route reaches. -/
def Dev.ferryBearingsDown (d : Dev) : Dev :=
  (List.range 16).foldl (fun e b =>
    match (e.brg b).remote with
    | some r => if (e.ferryRoute r.chip).isNone then e.ferryLinkDown b else e
    | none => e) d

/-- R224: alignment starts over where the path to the master has changed. -/
def Dev.repath (old new : Dev) : Dev :=
  if old.ferryRoute old.fry.flo.master = new.ferryRoute new.fry.flo.master then new
  else { new with fry.flo := { new.fry.flo with aligned := min new.fry.flo.aligned 1, inside := 0 } }

/-- FERRY_PORT_ENABLE. -/
def Dev.ferryEnable (d : Dev) (p : Nat) (on : Bool) : Dev :=
  let x := d.fport p
  if on then
    if x.state = .off || x.state = .fault then (d.set Od.fry_ENABLE p 1).setFPort p { x with state := .training, trainStart := d.now, width := 0 }
    else d.set Od.fry_ENABLE p 1
  else d.repath (((d.set Od.fry_ENABLE p 0).setFPort p {}).ferryBearingsDown)

/-- A port that is training or, being DOWN, trains again (R213, R219; log entry 41). -/
def FerryPort.trains (x : FerryPort) : Bool :=
  match x.state with
  | .training | .auth | .down => true
  | _ => false

/-- FERRY_TRAINING_TIMEOUT. -/
def Dev.ferryTrainTimeout (d : Dev) (p : Nat) : Dev :=
  let x := d.fport p
  if x.trains && decide (x.trainStart + 20 * ms ≤ d.now) then
    (d.bump Od.fry_TRAININGS p).setFPort p { x with state := .training, trainStart := d.now }
  else d

/-- A port is held in FAULT (R215, R217, R220, R221). -/
def Dev.ferryFault (d : Dev) (p code : Nat) : Dev :=
  d.repath (((d.setFPort p { d.fport p with state := .fault, width := 0, replay := [], waiting := [] }).raise 20 code p).ferryBearingsDown)

/-- R221: the peer's ID is this chip's own, or that of another chip met on another port. -/
def Dev.idConflict (d : Dev) (p : Nat) (r : FerryTrained) : Bool :=
  decide (r.peerId = d.fry.flo.ownId) ||
    d.fry.ports.any (fun e => e.1 != p && e.2.peerValid && e.2.peerId == r.peerId && e.2.peerUnit != r.peerUnit)

/-- R215: the peer is listed for the ID it announced, and its signature holds. -/
def Dev.ferryAuth (d : Dev) (r : FerryTrained) : Bool :=
  r.authOk && decide (d.octAt Od.flo_MEMBER_UNIT_ID r.peerId 0 = r.peerUnit) && decide (r.peerId < 8)

/-- Frames of the replay buffer leave again, in order, from the oldest (R217). -/
def Dev.resend (d : Dev) (p : Nat) : Dev :=
  let x := d.fport p
  if x.replay.isEmpty then d
  else
    let d1 := d.setFPort p { x with replay := x.replay.map (fun f => { f with sentAt := d.now, resends := f.resends + 1 }) }
    let d2 := x.replay.foldl (fun e f => e.linkEmit p f.cls f.msg f.dst f.seq f.payload) d1
    (d2.bump Od.fry_RETRIES p x.replay.length).fault (0x015 + p) p none []

/-- R215: the keys of the two directions, the sender's first; the first half of the expansion seals what the chip with the lower
ID sends (log entry 160). -/
def Dev.linkKeys (d : Dev) (eph pub : Bytes) (peer : Nat) : Bytes × Bytes :=
  let okm := hkdfExpand (hkdfExtract [] (Config.ecdh 1 eph pub)) (ascii "TQV9640 Ferry link") 64
  if d.fry.flo.ownId < peer then (okm.take 32, okm.drop 32) else (okm.drop 32, okm.take 32)

/-- FERRY_PORT_UP: steps 4 to 8 of training complete, unless a check holds the port in FAULT. -/
def Dev.ferryUp (d : Dev) (p : Nat) (r : FerryTrained) : Dev :=
  let x := d.fport p
  if !x.trains || r.width = 0 then d
  else if d.idConflict p r then d.ferryFault p 0xF5
  else if d.wiring p ≠ some (r.peerId, r.peerPort) then d.ferryFault p 0xF4
  else if !d.ferryAuth r then d.ferryFault p 0xF2
  else
    let (eph, d0) := d.draw 32
    let (tx, rx) := d.linkKeys eph r.peerPub r.peerId
    let dk := (d0.fillSlot (linkSlot p false) linkPolicy tx []).fillSlot (linkSlot p true) linkPolicy rx []
    let d1 := dk.setFPort p { x with state := .up, width := r.width, peerId := r.peerId, peerValid := true, peerPort := r.peerPort,
                                     peerUnit := r.peerUnit, peerChart := r.peerChart, lastRx := d.now, lastTx := d.now, txCount := 0 }
    let d2 := if x.width = r.width then d1 else d1.raise 20 0xF1 p [(r.width : Int)]
    d.repath ((d2.resend p).linkPump p)

/-- The port leads to the flotilla master on the shortest path (R223). -/
def Dev.toMaster (d : Dev) (p : Nat) : Bool := d.ferryRoute d.fry.flo.master == some p

/-- FERRY_DOWN: a frame resent 32 times, or 2 µs without a valid frame (R219). -/
def Dev.ferryDown (d : Dev) (p : Nat) : Dev :=
  let x := d.fport p
  if x.state = .up && (x.replay.any (fun f => decide (32 ≤ f.resends)) || decide (x.lastRx + 2 * us ≤ d.now)) then
    d.repath (((d.setFPort p { x with state := .down, trainStart := d.now,
                                      replay := x.replay.map (fun f => { f with resends := 0 }) }).raise 20 0xF0 p).ferryBearingsDown)
  else d

/-! ## Frames received (R217) -/

/-- A valid frame has come with an acknowledgement: what it covers leaves the buffer, and frames that waited go out. -/
def Dev.ferryAck (d : Dev) (p ack : Nat) : Dev :=
  let x := d.fport p
  let keep := match x.replay with
    | [] => []
    | f :: _ => x.replay.drop (min x.replay.length ((ack + 65536 - f.seq) % 65536))
  (d.setFPort p { x with lastRx := d.now, replay := keep }).linkPump p

/-- R217: a frame in sequence is checked, acknowledges, and is passed up; one whose CRC fails or whose sequence is not the one
expected is discarded and answered with NAK, and its tag is not looked at. -/
def Dev.ferryTake (d : Dev) (p : Nat) (l : LinkRx) (f : Dev → Dev) : Dev :=
  let x := d.fport p
  if x.state ≠ .up then d
  else if !l.crcOk || l.seq ≠ x.rxSeq then d.linkFrame p 2
  else if !l.tagOk then d.ferryFault p 0xF3
  else f ((d.setFPort p { x with rxSeq := (x.rxSeq + 1) % 65536 }).ferryAck p l.ack)

/-- A frame whose tag fails puts its port in FAULT (R217). -/
def Dev.ferryTag (d : Dev) (p : Nat) (tagOk : Bool) (f : Dev → Dev) : Dev :=
  if (d.fport p).state ≠ .up then d else if tagOk then f d else d.ferryFault p 0xF3

/-- FERRY_NAK. -/
def Dev.ferryNak (d : Dev) (p ack : Nat) (tagOk : Bool) : Dev := d.ferryTag p tagOk (fun e => (e.ferryAck p ack).resend p)

/-- FERRY_IDLE. -/
def Dev.ferryIdle (d : Dev) (p ack : Nat) (tagOk : Bool) : Dev := d.ferryTag p tagOk (fun e => e.ferryAck p ack)

/-- FERRY_IDLE_SEND. -/
def Dev.ferryIdleSend (d : Dev) (p : Nat) : Dev :=
  let x := d.fport p
  if x.state = .up && decide (x.lastTx + 200 * ns ≤ d.now) then
    d.linkFrame p 1
  else d

/-- FERRY_RESEND_TIMEOUT. -/
def Dev.ferryResendTimeout (d : Dev) (p : Nat) : Dev :=
  let x := d.fport p
  match x.replay with
  | f :: _ => if x.state = .up && decide (f.sentAt + 500 * ns ≤ d.now) then d.resend p else d
  | [] => d

/-! ## The master and time (R222–R224) -/

/-- This chip holds an active chart. -/
def Dev.chartValid (d : Dev) : Bool := d.obj.activeSlot.isSome

/-- Members whose TIME frames have come within 10 µs, with their chart validity. -/
def Dev.heardNow (d : Dev) : List (Nat × Bool) :=
  (d.fry.flo.heard.filter (fun e => decide (d.now ≤ e.2.1 + 10 * us) && (d.ferryRoute e.1).isSome)).map (fun e => (e.1, e.2.2))

/-- R222: the member with the lowest ID that has a valid chart and is reachable; this chip where there is none. -/
def Dev.electMaster (d : Dev) : Nat :=
  let own := d.fry.flo.ownId
  let cand := (if d.chartValid then [own] else []) ++ (d.heardNow.filter (fun e => e.2)).map (fun e => e.1)
  match cand with
  | [] => own
  | a :: t => t.foldl min a

/-- The master changes: MASTER_CHANGED, alignment starts over (R222, R224). A new master goes on from its own chip time. -/
def Dev.setMaster (d : Dev) (m : Nat) : Dev :=
  let reach := d.heardNow.map (fun e => e.1)
  let d1 := { d with fry.flo.reachable := reach }
  if d.fry.flo.master = m then d1
  else
    ({ d1 with fry.flo := { d1.fry.flo with master := m, aligned := min d1.fry.flo.aligned 1, inside := 0,
                                            hops := if m = d.fry.flo.ownId then 0 else d1.fry.flo.hops } }).raise 20 0xF7 0xFFFF [(m : Int)]

/-- The content of a TIME frame: what a neighbour learns of this chip and of what it reaches. Neither layout nor message number
is in the spec (log entry 42). -/
def Dev.timeBytes (d : Dev) : Bytes :=
  timeBe d.now ++ [BitVec.ofNat 8 (b2n d.chartValid), BitVec.ofNat 8 d.timeNow.code, BitVec.ofNat 8 d.fry.flo.hops] ++ toBe 8 (patternOf 64 d.timeUnc) ++
    d.heardNow.flatMap (fun e => [BitVec.ofNat 8 (e.1 + 128 * b2n e.2)])

/-- FERRY_TIME_SEND (R222, R223). -/
def Dev.ferryTimeSend (d : Dev) (p : Nat) : Dev :=
  let x := d.fport p
  if x.state = .up && decide (x.timeSent + us ≤ d.now) then
    (d.setFPort p { x with timeSent := d.now }).ferryOut p 0 0 x.peerId d.timeBytes
  else d

/-- A filtered offset inside a bound given in picoseconds. -/
def withinPs (o : Int) (ps : Nat) : Bool := decide (o * 1000 ≤ ps * 65536) && decide (-o * 1000 ≤ ps * 65536)

/-- R224: ALIGNED after 64 exchanges within 50 ps; ALIGNING again beyond 150 ps. -/
def Flotilla.align (f : Flotilla) (o : Int) : Flotilla :=
  let n := if withinPs o 50 then f.inside + 1 else 0
  let st := if f.aligned = 2 then (if withinPs o 150 then 2 else 1) else if 64 ≤ n then 2 else 1
  { f with offset := o, inside := n, aligned := st }

/-- R223: the offset of the far chip before the filter. -/
def Dev.farOffset (d : Dev) (p : Nat) (x : TimeExchange) : Int :=
  ((x.t2 - x.t1) - (x.t4 - x.t3)) / 2 - d.cfg Od.fry_ASYMMETRY p

/-- R222: what a neighbour announces of itself and of the members that it hears from the other side. -/
def Flotilla.hear (f : Flotilla) (now : Ticks) (x : TimeExchange) : Flotilla :=
  { f with heard := ((x.src, x.chartValid) :: x.beyond.filter (fun e => e.1 ≠ f.ownId && e.1 ≠ x.src)).foldl (fun t e => t.ins e.1 (now, e.2)) f.heard }

/-- A TIME exchange in sequence: the neighbour is heard, the master elected anew, and on the path to the master the offset
steers chip time (R222–R224). -/
def Dev.exchanged (d : Dev) (p : Nat) (x : TimeExchange) : Dev :=
  let d1 := (d.setFPort p { d.fport p with farOffset := d.farOffset p x }).set Od.fry_ROUND_TRIP p ((x.t4 - x.t1) - (x.t3 - x.t2))
  let d2 := { d1 with fry.flo := d1.fry.flo.hear d.now x }
  let d3 := d2.setMaster d2.electMaster
  if d3.isMaster || !d3.toMaster p then d3
  else { d3 with fry.flo := { d3.fry.flo.align x.filtered with hops := x.hops + 1, masterState := x.timeState, masterUnc := x.timeUnc } }

/-- FERRY_TIME_EXCHANGE. -/
def Dev.timeExchange (d : Dev) (p : Nat) (x : TimeExchange) : Dev := d.ferryTake p x.link (fun e => e.exchanged p x)

/-- R95, R222: overlay exchanges that lose their master before the decision end as with a missing answer. -/
def Dev.dropParts (d : Dev) : Dev :=
  (d.lch.parts.filter (fun p => p.decision.isNone)).foldl (fun e p => e.decisionReceive p.chip p.handle .abortMissing) d

/-- MASTER_LOST. -/
def Dev.masterLost (d : Dev) : Dev :=
  let f := d.fry.flo
  let silent := match f.heard.find f.master with
    | some (t, _) => decide (t + 10 * us ≤ d.now)
    | none => true
  if f.master = f.ownId || !silent then d
  else ({ d with fry.flo.heard := f.heard.del f.master } |> fun e => (e.dropParts).setMaster e.electMaster)

end Sys2Proof.Machine
end

