-- ==== Sys2Proof/Machine/TwinOps.lean ====
section
/-!
DEFINITION. The twin pair: heartbeats, the mirror, roles, takeover, handover, isolation (R226–R242).
-/
namespace Sys2Proof.Machine

def Dev.twin (d : Dev) : Twin := d.fry.twin

def Dev.onTwin (d : Dev) (f : Twin → Twin) : Dev := { d with fry.twin := f d.fry.twin }

/-- Whether the device has a twin at all (R226). -/
def Dev.twinMode (d : Dev) : Nat := d.cfgN Od.twn_TWIN_MODE 0

/-! ## Heartbeats (R228) -/

/-- This unit drives its launch pins (R80, R228, R251, R508). -/
def Dev.drivesPins (d : Dev) : Bool := d.holdsClaim && !(d.flt.chipSafe && decide (d.twin.role = .active))

/-- R228: a heartbeat. PINS_DRIVEN, YIELD and the other flags as the unit stands. -/
def Dev.hbBytes (d : Dev) : Bytes :=
  let t := d.twin
  let fl := b2n t.joined + 2 * b2n (decide (t.role = .stale)) + 4 * b2n (t.yieldAt.isSome && decide (t.role = .active)) + 8 * b2n d.drivesPins + 16 * b2n t.isolated
  toBe 4 t.claim ++ [BitVec.ofNat 8 t.role.code, BitVec.ofNat 8 fl] ++ toBe 2 t.hbSeq ++
    toBe 8 (if d.isStandby && t.role ≠ .waiting then t.applied else t.journal)

/-- TWIN_HEARTBEAT_SEND: on both paths (R226–R229). -/
def Dev.twinHbSend (d : Dev) : Dev :=
  let t := d.twin
  if t.role = .alone || d.now < t.hbSentAt + us || d.flt.chipSafe then d
  else
    let b := d.hbBytes
    let d1 := d.onTwin (fun t => { t with hbSeq := (t.hbSeq + 1) % 65536, hbSentAt := d.now })
    if d.twinMode = 1 then (d1.ferrySend 1 1 d.twinId b).emit (.twhb (hbBurst b))
    else (d1.twinData 1 1 1 b).twinData 2 1 1 b

/-- The instant of the last heartbeat on either path. -/
def Twin.lastHb (t : Twin) : Option Ticks :=
  match t.hb1, t.hb2 with
  | some a, some b => some (max a b)
  | some a, none => some a
  | none, b => b

/-- Both paths have been silent for DETECT_TIME. -/
def Dev.silent (d : Dev) : Bool :=
  match d.twin.lastHb with
  | some h => decide (h + d.cfg Od.twn_DETECT_TIME 0 ≤ d.now)
  | none => true

/-! ## The mirror (R230, R237) -/

/-- R80, R237, R238: a standby's launch table follows the items of its mirror. -/
def Dev.mirrorEntry (d : Dev) (head : Nat) (x : Item) : Dev :=
  if x.kind ≠ .launchEntry || d.twin.role ≠ .standby then d
  else if x.state.isEnd then
    match d.entry x.handle with
    | some e => if e.item = head then d.delEntry x.handle else d
    | none => d
  else
    match decodeImage x.body with
    | none => d
    | some i =>
      let fresh : Entry := { item := head, image := i, raw := x.body, flags := x.detail, state := if i.armed then .waiting else .unarmed }
      match d.entry x.handle with
      | none => let d1 := d.setEntry x.handle fresh; if i.armed then d1.armEntry x.handle else d1
      | some e =>
        if e.item = head && e.raw ≠ x.body && !e.state.isCommitted && !e.standbyDone then
          let d1 := d.setEntry x.handle { fresh with flags := e.flags }
          if i.armed then d1.armEntry x.handle else d1
        else d

/-- R237: the standby sends its own copy of a CMD at the moment its mirror records the item DISPATCHED. -/
def Dev.mirrorSend (d : Dev) (x : Item) (was : Option ItemState) : Dev :=
  match x.sff with
  | some seq =>
    if d.twin.role = .standby && x.state = .dispatched && was ≠ some .dispatched && x.kind ≠ .launchEntry && d.cfg Od.que_TARGET x.queue = 1 then
      match d.sesOf (d.cfgN Od.que_SESSION x.queue) with
      | some i => if (d.ses i).state.live then d.sendFrame i 0 0 seq x.wireBody else d
      | none => d
    else d
  | none => d

/-- Cells of a RECORD or RESYNC message enter the mirror; the queue and convoy counters keep ahead of what is mirrored. -/
def Dev.mirrorPut (d : Dev) (c : CellRec) : Dev :=
  match c with
  | .free h => d.onTwin (fun t => { t with mirror := t.mirror.del h })
  | .stream n head c => d.onTwin (fun t => { t with
      streamCopies := t.streamCopies.ins n c, mirrorCells := t.mirrorCells.ins n head })
  | .item h x =>
    let was := (d.twin.mirror.find h).map (fun y => y.state)
    let d1 := d.onTwin (fun t => { t with mirror := t.mirror.ins h x, mirrorAlloc := h + x.cells - 1 })
    let d2 := d1.onQueue x.queue (fun q => { q with nextSeq := max q.nextSeq (x.seq + 1) })
    let cv := d.cfgN Od.que_CONVOY x.queue
    let d3 := if cv < 1024 then
        { d2 with que.convoys := d2.que.convoys.ins cv { next := max (d2.que.convoys.get {} cv).next (x.cseq + 1) } }
      else d2
    (d3.mirrorSend x was).mirrorEntry h x

/-- REPL_RECORD (R230): applied in order and acknowledged. A further RECORD under the count last applied belongs to the same
update (R130). -/
def Dev.replRecord (d : Dev) (n : Nat) (c : CellRec) : Dev :=
  match d.twin.role with
  | .standby | .syncing =>
    if d.twin.role = .standby && n ≠ d.twin.applied + 1 && n ≠ d.twin.applied then d
    else
      let d1 := (d.mirrorPut c).onTwin (fun t => { t with applied := max t.applied n, behindSince := if t.peerJournal ≤ n then none else t.behindSince })
      d1.sendTwin 2 (toBe 8 (max d.twin.applied n))
  | _ => d

/-- REPL_SESSION_STATE (R173, R230, R231): the counters, and the state of the session; one that is not open has no keys here either. -/
def Dev.replSessionState (d : Dev) (i : Nat) (c : SessionCopy) : Dev :=
  match d.twin.role with
  | .standby | .syncing =>
    let d1 := (d.onTwin (fun t => { t with copies := t.copies.ins i c, claim := max t.claim c.claim })).seeClaim c.claim
    let d2 := d1.onSes i (fun x => { x with safeNext := max x.safeNext c.safeNext, state := c.state })
    if c.state.live then d2.presealSafe i
    else d2.onSes i (fun x => { x with keys := none, nextKeys := none, upd := none, overlapEnd := none, safeSealed := none, safeLeft := 0 })
  | _ => d

/-- REPL_KEYS (R179, R230): the keys, unwrapped with the twin transport key, are installed; the session seals and checks
as the active unit does (R185), from the same sequence on. Which end initiated it the standby takes from INITIATE (log entry 157). -/
def Dev.replKeysIn (d : Dev) (i : Nat) (k : SessionKeys) (sw : Option Nat) (r : Bytes) : Dev :=
  match d.twin.role with
  | .standby | .syncing =>
    let d1 := d.onSes i (fun x =>
      let y : Session := { x with resume := if r.isEmpty then x.resume else some (d.resumeRecord i r), responder := !d.cfgB Od.ses_INITIATE i,
                                  state := if x.state.live then x.state else .opened }
      match sw, x.keys with
      | some n, some _ =>
        let u : KeyUpdate := { gen := k.gen, switch := n, rebase := false, attempts := 1, sentAt := d.now, startedAt := d.now, replied := true }
        { y with nextKeys := some k, overlapEnd := none, upd := some u }
      | _, _ => { y with keys := some k, nextKeys := none, upd := none, overlapEnd := none })
    d1.presealSafe i
  | _ => d

/-! ## Roles (R233–R235) -/

/-- Enter SYNCING: the unit's own journal and launch entries are given up for the copy that is to come. -/
def Dev.startSync (d : Dev) : Dev :=
  let d1 := d.onTwin (fun t => { t with role := .syncing, mismatch := false, mirror := [], streamCopies := [], mirrorCells := [], copies := [], resyncDone := false, resyncBlock := 0,
                                        joined := false, behindSince := none, applied := t.peerJournal })
  { (d1.onMan (fun m => { m with items := [] })) with lch.entries := [] }

/-- A SYNCING unit whose mirror is complete and current is STANDBY (R234): its launch table is built from the mirror. -/
def Dev.trySynced (d : Dev) : Dev :=
  let t := d.twin
  if t.role = .syncing && t.resyncDone && decide (t.peerJournal ≤ t.applied) then
    let d1 := (d.onTwin (fun t => { t with role := .standby, joined := true })).twinKey
    t.mirror.foldl (fun e x => e.mirrorEntry x.1 x.2) d1
  else d

/-- Half a block of the manifest as RESYNC carries it (R134, R230, R235): the cells of items and streams, and free cells. -/
def Dev.halfBlock (d : Dev) (block half : Nat) : Bytes :=
  (List.range 8).flatMap (fun i => journalCell d.que.man.items d.ownStreams (16 * block + 8 * half + i))

/-- A value that a unit has written, as the twin's other unit takes it over (R260; log entry 165). -/
def Dev.replicaValue (d : Dev) (index sub inst : Nat) (b : Bytes) : Dev :=
  d.emit (.replica 0 (toLe 2 index ++ [BitVec.ofNat 8 sub, 0] ++ toLe 2 inst ++ [0, 0] ++ b))

/-- R260: the values that this unit has changed, as far as they are not VOL, go to its peer during resync. -/
def Dev.sendValues (d : Dev) : Dev :=
  let keep (k : Nat) : Option OdRow := (rowOf (k / 2 ^ 32) (k / 2 ^ 24 % 256)).filter (fun r => r.persist == .chart || r.persist == .ovl)
  let d1 := d.od.direct.nums.foldl (fun e x => match keep x.1 with
    | some r => e.replicaValue r.index (x.1 / 2 ^ 24 % 256) (x.1 % 2 ^ 24) (r.bytes (.num x.2))
    | none => e) d
  d.od.direct.octs.foldl (fun e x => match keep x.1 with
    | some r => e.replicaValue r.index (x.1 / 2 ^ 24 % 256) (x.1 % 2 ^ 24) x.2
    | none => e) d1

/-- R235: the active unit copies session state and keys, and the values it has changed, then every block of its manifest. -/
def Dev.sendResync (d : Dev) : Dev :=
  let d1 := d.onTwin (fun t => { t with resyncSent := true, resyncBlock := 8192 })
  let d2 := (d1.net.sessions.foldl (fun e x => if x.2.state.live then e.replKeys x.1 else e) d1).sendValues
  (List.range 16384).foldl (fun e k => e.sendTwin 7 (toBe 4 (k / 2) ++ [BitVec.ofNat 8 (k % 2), 0, 0, 0] ++ e.halfBlock (k / 2) (k % 2))) d2

/-- A unit without a joined peer becomes active under the stored ceiling plus 1 (R232, R234). -/
def Dev.becomeActive (d : Dev) : Dev :=
  let t := d.twin
  let c := 2 * (t.ceiling + 1) + d.unitBit
  let d1 := (d.onTwin (fun t => { t with role := .activeSingle, claim := c, joined := false, resyncSent := false })).seeClaim c
  d.drivePins d1

/-- R226: the charts of the pair differ. -/
def Dev.chartMismatch (d : Dev) (digest : Bytes) : Bool := decide (digest ≠ d.chartDigest)

/-- R226: a mismatch prevents the join, and is raised once until the charts agree. -/
def Dev.refuseJoin (d : Dev) : Dev :=
  if d.twin.mismatch then d else (d.onTwin (fun t => { t with mismatch := true })).raise 21 0xFC 0xFFFF

/-- R234: of two WAITING units, whether this one goes on: the higher journal, the higher claim ceiling, unit bit 1. -/
def Dev.winsJoin (d : Dev) (h : TwinHeartbeat) : Bool :=
  let t := d.twin
  if t.journal ≠ h.journal then decide (h.journal < t.journal)
  else if t.ceiling ≠ h.ceiling then decide (h.ceiling < t.ceiling)
  else decide (d.unitBit = 1)

/-- R234: the role changes that a heartbeat brings. -/
def Dev.hearPeer (d : Dev) (h : TwinHeartbeat) : Dev :=
  let active := decide (h.role = .active) || decide (h.role = .activeSingle)
  match d.twin.role with
  | .waiting =>
    if !(active || decide (h.role = .waiting)) then d
    else if d.chartMismatch h.digest then d.refuseJoin
    else if active then d.startSync
    else if d.winsJoin h then d.becomeActive else d.startSync
  | .stale => if !active then d else if d.chartMismatch h.digest then d.refuseJoin else d.startSync
  | .activeSingle =>
    if d.chartMismatch h.digest then d.refuseJoin
    else
    match h.role with
    | .syncing => if d.twin.resyncSent then d else d.sendResync
    | .standby =>
      if h.joined then (d.onTwin (fun t => { t with role := .active, joined := true, mismatch := false, isolated := false, resyncSent := false,
                                                    ackedJournal := t.journal, lastAck := d.now })).twinKey else d
    | _ => d.onTwin (fun t => { t with resyncSent := false })
  | .syncing => d.trySynced
  | _ => d

/-- R228, R234: the standby's journal count against the active's. -/
def Dev.noteJournal (d : Dev) (h : TwinHeartbeat) : Dev :=
  d.onTwin (fun t => { t with
    peerJournal := h.journal,
    behindSince := if t.role = .standby && decide (t.applied < h.journal) then (match t.behindSince with
      | some s => some s
      | none => some d.now) else none })

/-- R84: a frame sealed under another claim is resealed when 400 ns remain before its instant; otherwise it goes out 400 ns
after the instant, and its entry is late. -/
def Dev.resealFrames (d : Dev) : Dev :=
  let c := d.fry.twin.claim
  (d.lch.entries.filter (fun e => e.2.state = .committed && e.2.image.isFrame && e.2.sealed && !e.2.sent && e.2.sealClaim != c)).foldl
    (fun y e =>
      if y.now + 400 * ns ≤ e.2.instant then y.onEntry e.1 (fun x => { x with sealClaim := c })
      else (y.onEntry e.1 (fun x => { x.flag flLate with sealClaim := c, instant := x.instant + 400 * ns })).bump Od.lch_LATE_COUNT 0) d

/-- R232: both units seal under the active unit's claim. -/
def Dev.followClaim (d : Dev) (h : TwinHeartbeat) : Dev :=
  if d.isStandby && decide (d.twin.claim < h.claim) then
    d.net.sessions.foldl (fun e x => e.presealSafe x.1) (d.onTwin (fun t => { t with claim := h.claim })).resealFrames
  else d

/-- TWIN_HEARTBEAT_RECEIVE. -/
def Dev.twinHbReceive (d : Dev) (h : TwinHeartbeat) : Dev :=
  if d.twin.role = .alone || !h.crcOk then d
  else
    let d1 := (if h.path = 1 then d.twinGot else d).onTwin (fun t =>
      if h.path = 1 then { t with hb1 := some d.now, path1 := true, peerClaim := h.claim, peerRole := h.role, isolated := false }
      else { t with hb2 := some d.now, path2 := true, peerClaim := h.claim, peerRole := h.role, isolated := false })
    (((d1.noteClaim h.claim).noteJournal h).followClaim h).hearPeer h

/-- HEARTBEAT_PATH_LOST (R247): replication moves to the other path (R227). -/
def Dev.pathLost (d : Dev) (path : Nat) : Dev :=
  let t := d.twin
  let last := if path = 1 then t.hb1 else t.hb2
  let up := if path = 1 then t.path1 else t.path2
  match last with
  | some s =>
    if up && decide (s + d.cfg Od.twn_DETECT_TIME 0 ≤ d.now) then
      (d.onTwin (fun t => if path = 1 then { t with path1 := false } else { t with path2 := false })).raise 21 0xFE 0xFFFF [(path : Int)]
    else d
  | none => d

/-- RESYNC (R230, R235). -/
def Dev.resync (d : Dev) (block half : Nat) (cells : List CellRec) : Dev :=
  if d.twin.role ≠ .syncing then d
  else
    let d1 := cells.foldl (fun e c => e.mirrorPut c) d
    let d2 := d1.onTwin (fun t => { t with resyncBlock := if half = 1 then max t.resyncBlock (block + 1) else t.resyncBlock,
                                           resyncDone := t.resyncDone || (block == 8191 && half == 1) })
    d2.trySynced

/-- UNJOIN (R234): the standby's mirror is no longer kept current. -/
def Dev.unjoinReceive (d : Dev) (c : Nat) : Dev :=
  match d.twin.role with
  | .standby => (d.onTwin (fun t => { t with role := .stale, joined := false })).noteClaim c
  | _ => d.noteClaim c

/-- MIRROR_STALE. -/
def Dev.mirrorStale (d : Dev) : Dev :=
  match d.twin.role, d.twin.behindSince with
  | .standby, some s =>
    if s + d.cfg Od.twn_DETECT_TIME 0 ≤ d.now then d.onTwin (fun t => { t with role := .stale, joined := false }) else d
  | _, _ => d

/-- R517: raising the claim is a decision taken twice. Where the two takings disagree there is no raise; the decision is taken again 1 µs
later, which is the command given again. -/
def Dev.claimRaise (d : Dev) (agree : Bool) (f : Dev → Dev) : Dev := if agree then f d else d.fault 0x049 0xFFFF none []

/-- JOIN_TIME. The unit's claim is a decision taken twice (R517). -/
def Dev.joinTime (d : Dev) (agree : Bool) : Dev :=
  if d.twin.role = .waiting && decide (d.twin.waitingSince + d.cfg Od.twn_JOIN_TIME 0 ≤ d.now) then d.claimRaise agree Dev.becomeActive else d

/-- BOTH_PATHS_SILENT (R234, R241). -/
def Dev.bothSilent (d : Dev) : Dev :=
  if d.twin.role = .active && d.silent then
    d.unjoin.onTwin (fun t => { t with isolated := true, isolatedAt := d.now, path1 := false, path2 := false })
  else d

/-! ## Takeover (R236–R238) -/

/-- R231, R232: the counters that a new active unit goes on from. -/
def Dev.takeSessions (d : Dev) : Dev :=
  d.twin.copies.foldl (fun e c =>
    e.onSes c.1 (fun x => { x with lastHbRx := d.now, tx := c.2.ceiling + 2 ^ 28, ceiling := c.2.ceiling + 2 ^ 28 + 256, high := max x.high c.2.high,
                                   window := c.2.window, safeLast := max x.safeLast c.2.safeLast, safeNext := max x.safeNext c.2.safeNext })) d

/-- R204, R205: streams go on from the mirrored cells; their first epoch carries TAKEOVER and a gap. -/
def Dev.takeStreams (d : Dev) : Dev :=
  { d with net.streams := d.net.streams.mapVals (fun n x =>
      match d.twin.streamCopies.find n with
      | some c => { x with cur := none, waiting := [], nextEpoch := c.next, sealedEpoch := c.sealedEpoch, sealedSeq := c.lastSeq,
                           sealedChain := c.chain, lastChain := c.chain, certNo := max x.certNo c.cert, next := none, ahead := [],
                           takeoverNext := true, gapNext := true }
      | none => { x with takeoverNext := true, gapNext := true }) }

/-- R238: the level effect of a TOGGLE or of a PULSE still running is taken back before the action is carried out anew (log
entry 44). -/
def Pin.undo (p : Pin) (h : Nat) (a : PinAct) : Pin :=
  match a with
  | .toggle => { p with base := !p.base }
  | .pulse =>
    if p.ends.any (fun x => x.handle == h) then { p with ends := p.ends.filter (fun x => x.handle != h), pulses := p.pulses - 1 } else p
  | _ => p

/-- R130, R238: the entries that this unit completed with STANDBY and that have no outcome in its mirror. `h0` is the instant of
the last heartbeat. A posting that the mirror holds under the entry's handle and instant is not made again. -/
def Dev.settleStandby (d : Dev) (h0 : Ticks) : Dev :=
  (d.lch.entries.filter (fun e => e.2.standbyDone)).foldl (fun y e =>
    let h := e.1
    let en := { (e.2.flag flTakeover) with standbyDone := false, flags := clrBit (setBit e.2.flags flTakeover) flStandby }
    match d.item e.2.item with
    | none => y.delEntry h
    | some it =>
      if it.state.isEnd then y.delEntry h
      else
        let y1 := y.setEntry h en
        match e.2.image.target with
        | .pin n a _ _ =>
          if e.2.seen.isSome || e.2.noEdge || decide (e.2.instant ≤ h0) then y1.confirmEntry h
          else (y1.onPin n (fun p => p.undo h a)).setEntry h { en with state := .committed }
        | .frame _ t _ =>
          if d.cfg Od.tpl_TYPE t = 0 then
            (y1.setEntry h { en with state := .acting, sent := true }).onItem e.2.item (fun x =>
              { x with sff := e.2.sff, retxAt := d.now, retxGap := 0, dispatchedAt := d.now })
          else y1.confirmEntry h
        | .post _ w =>
          if y1.que.man.items.any (fun x => x.2.kind == .launchPost && x.2.handle == h && x.2.body == postBody w e.2.committedAt) then y1.confirmEntry h
          else y1.setEntry h { en with state := .committed }
        | .arm _ _ => y1.setEntry h { en with state := .committed }
        | _ => y1.confirmEntry h) d

/-- R236 step 7: every item of the new manifest carries TAKEOVER; DISPATCHED session items are sent again. -/
def Dev.takeItems (d : Dev) : Dev :=
  let ms := d.twin.mirror.mapVals (fun _ x =>
    { x with takeover := true, deliveredAt := none, termPos := none, claim := d.twin.claim, journal := 0, unacked := false,
             resend := x.state == .dispatched && x.kind != .launchEntry })
  d.onMan (fun m => { m with items := ms, lastAlloc := d.twin.mirrorAlloc, streamCells := d.twin.mirrorCells, unackedAt := [] })

/-- R148: a takeover replays into every queue whose rings are open. -/
def Dev.replayOpen (d : Dev) : Dev :=
  (d.que.queues.filter (fun e => e.2.isOpen)).foldl (fun e q =>
    e.replayQueue q.1) { d with que.queues := d.que.queues.mapVals (fun _ q => if q.ringValid && !q.isOpen then { q with fresh := true } else q) }

/-- R186, R236 step 4: CLAIM on every OPEN session. -/
def Dev.sendClaims (d : Dev) (old : Nat) : Dev :=
  (d.net.sessions.filter (fun e => e.2.state == .opened)).foldl (fun e s => e.send2 s.1 7 (toBe 4 d.twin.claim ++ toBe 4 old)) d

/-- Launch items of the new manifest that have no entry here get one. -/
def Dev.takeEntries (d : Dev) : Dev :=
  (d.que.man.items.filter (fun e => e.2.kind == .launchEntry && !e.2.state.isEnd && (d.entry e.2.handle).isNone)).foldl
    (fun y e => y.createEntry e.1) d

/-- The standby takes over (R236, R238, R239): claim raised, mirror becomes manifest, outputs resume. -/
def Dev.takeOver (d : Dev) : Dev :=
  let t := d.twin
  let c := 2 * (t.seen / 2 + 1) + d.unitBit
  let h0 := t.lastHb.getD d.now
  let d1 := (d.onTwin (fun t => { t with role := .activeSingle, claim := c, joined := false, yieldAt := none, resyncSent := false,
                                         journal := t.applied, isolated := false })).seeClaim c
  let d2 := (((d1.takeItems.takeSessions).takeStreams).bump Od.twn_TAKEOVERS 0).raise 21 0xF8 0xFFFF [(c : Int)]
  let d3 := d2.sendClaims t.claim
  let d4 := (d3.settleStandby h0).takeEntries
  let d5 := d.drivePins d4
  let d6 := d5.net.sessions.foldl (fun e s => e.presealSafe s.1) d5
  (d6.replayOpen.resealFrames).runDue

/-- TAKEOVER: a STANDBY takes over; a STALE unit that hears no one says so (R247). -/
def Dev.takeoverDue (d : Dev) (agree : Bool) : Dev :=
  if !d.silent then d
  else
    match d.twin.role with
    | .standby => d.claimRaise agree Dev.takeOver
    | .stale =>
      if d.twin.path1 || d.twin.path2 then
        (d.onTwin (fun t => { t with path1 := false, path2 := false })).raise 21 0xFF 0xFFFF
      else d
    | _ => d

/-! ## Handover (R239) -/

/-- Steps 2 and 3 of a yield: once every write in flight is replicated, YIELD names Y on both paths. TWHB carries heartbeats
alone, in which YIELD is a flag (R228, R229). -/
def Dev.yieldGo (d : Dev) : Dev :=
  if !d.twin.yieldAsked || d.twin.role ≠ .active || !d.man.unackedAt.isEmpty then d
  else
    let y := d.now + 2 * us
    let msg := toBe 4 d.twin.claim ++ timeBe y
    let d1 := d.onTwin (fun t => { t with yieldAsked := false, yieldAt := some y })
    if d.twinMode = 1 then d1.sendTwin 6 msg else (d1.twinData 1 2 6 msg).twinData 2 2 6 msg

/-- YIELD: the active unit stops admissions, and yields. -/
def Dev.yieldNow (d : Dev) : Dev :=
  if d.twin.role ≠ .active || d.twin.yieldAt.isSome then d
  else (d.onTwin (fun t => { t with yieldAsked := true })).yieldGo

/-- YIELD_RECEIVE. -/
def Dev.yieldReceive (d : Dev) (c : Nat) (y : Ticks) : Dev :=
  if d.twin.role = .standby && decide (d.twin.claim ≤ c) then d.onTwin (fun t => { t with yieldAt := some y }) else d

/-- YIELD_INSTANT: at Y the standby takes over. -/
def Dev.yieldInstant (d : Dev) (agree : Bool) : Dev :=
  match d.twin.role, d.twin.yieldAt with
  | .standby, some y => if y ≤ d.now then d.claimRaise agree Dev.takeOver else d
  | _, _ => d

/-- YIELD_FAILED: the yield is abandoned, and what fell due from Y on is acted on under its late policy. -/
def Dev.yieldFailed (d : Dev) : Dev :=
  match d.twin.role, d.twin.yieldAt with
  | .active, some y =>
    if y + us ≤ d.now then
      let d1 := d.onTwin (fun t => { t with yieldAt := none })
      let d2 := { d1 with lch.entries := d1.lch.entries.mapVals (fun _ e => if e.blocked && e.image.isPin then { e with blocked := false } else e) }
      (((List.range 32).foldl (fun e n => e.endPulses n) d2.runDue).retryBlocked).raise 21 0xFD 0xFFFF
    else d
  | _, _ => d

/-! ## Isolation (R241) -/

/-- ISOLATION_CONFIRM: no claim above the unit's own, and every OPEN session has sent a heartbeat since. -/
def Dev.isolationConfirm (d : Dev) : Dev :=
  let t := d.twin
  if t.isolated && decide (t.isolatedAt + d.cfg Od.twn_ISOLATION_CONFIRM 0 ≤ d.now) && decide (t.seen ≤ t.claim) &&
      d.net.sessions.all (fun e => e.2.state ≠ .opened || decide (t.isolatedAt ≤ e.2.lastHbTx)) then
    d.onTwin (fun t => { t with isolated := false })
  else d

/-- PEER_DEAD. -/
def Dev.peerDead (d : Dev) : Dev := d.onTwin (fun t => { t with isolated := false })

end Sys2Proof.Machine
end

