-- ==== Sys2Proof/Machine/PierOps.lean ====
section
/-!
DEFINITION. The retirement of a pier, the move of its work to the spare, and its spread over the others (R243–R246, R154).
-/
namespace Sys2Proof.Machine

/-- R61, R154: a PIN entry whose edge is placed is CONFIRMED; every other entry of the slice that has not acted carries MIGRATED,
and those due by now act, late ones under their late policy (R71). -/
def Dev.migrateEntries (d : Dev) (l : Nat) : Dev :=
  let mine := d.lch.entries.filter (fun e => e.1 / 8192 == l)
  let d1 := mine.foldl (fun y e =>
    if e.2.image.isPin && decide (e.2.state = .acting) then y.confirmEntry e.1
    else if e.2.state = .acting then y
    else y.onEntry e.1 (fun x => x.flag flMigrated)) d
  d1.runDue

/-- R244, R245: the items of a logical pier's queues carry MIGRATED; the DISPATCHED ones are handed over again. -/
def Dev.migrateQueues (d : Dev) (l : Nat) : Dev :=
  (d.que.queues.filter (fun e => e.2.pier == l && (decide (e.2.state ≠ .off) || !(d.itemsOf e.1).isEmpty))).foldl (fun y e =>
    let its := y.itemsOf e.1
    let y1 := its.foldl (fun z i => z.setItem i.1 { i.2 with migrated := true, resend := i.2.resend || (i.2.state == .dispatched && i.2.kind != .launchEntry && decide (y.cfg Od.que_TARGET e.1 ≠ 0)), retxAt := y.now }) y
    let n := (its.filter (fun i => i.2.state == .dispatched)).length
    (y1.bump Od.qst_REPLAYED e.1 n).queueNotice e.1 0xD1 [(n : Int)]) d

/-- R245: the items that are DISPATCHED to a lane of a logical pier are handed to the same lane number again. -/
def Dev.reHandLanes (d : Dev) (l : Nat) : Dev :=
  d.onMan (fun m => { m with items := m.items.mapVals (fun _ x =>
    if x.state == .dispatched && decide (d.cfg Od.que_TARGET x.queue = 2) && d.cfgN Od.que_LANE x.queue / 8 == l
    then { x with migrated := true, resend := true } else x) })

/-- R244: the lanes of a logical pier start again from ENTRY with fresh data memory; their inbox items and records are gone. -/
def Dev.migrateLanes (d : Dev) (l : Nat) (keep : Bool) : Dev :=
  (List.range 8).foldl (fun y k =>
    let n := 8 * l + k
    let x := y.lane n
    if x.origin ≠ 2 then y
    else if keep && x.runs then
      let y1 := y.laneStart n true
      if x.state = .disabling then y1.onLane n (fun z => { z with state := .disabling, cancelled := x.cancelled }) else y1
    else if keep then y.setLane n { x with inbox := [], records := [] }
    else y.setLane n {}) (d.reHandLanes l)

/-- R244: stream records held in the failed pier's buffer are lost, and their streams report them. -/
def Dev.migrateStreams (d : Dev) (l : Nat) : Dev :=
  d.net.streams.foldl (fun y e =>
    match y.sesOf (y.cfgN Od.str_SRC_SESSION e.1) with
    | some i => if (y.ses i).pier = l then y.streamDropAhead e.1 else y
    | none => y) d

/-- The cipher cores of a physical pier are cleared (R244, R418). -/
def Dev.clearPierCores (d : Dev) (p : Nat) : Dev := (List.range 4).foldl (fun y k => y.setCore (4 * p + k) {}) d

/-- Queues served by a logical pier. -/
def Dev.pierLoad (d : Dev) (l : Nat) : Nat :=
  (d.que.queues.filter (fun e => e.2.pier == l)).length + (d.net.sessions.filter (fun e => e.2.pier == l)).length

/-- The least loaded of some logical piers. -/
def Dev.leastLoaded (d : Dev) (ls : List Nat) : Nat :=
  (ls.foldl (fun (b : Nat × Nat) p => if d.pierLoad p < b.2 then (p, d.pierLoad p) else b) (ls.headD 0, d.pierLoad (ls.headD 0))).1

/-- R246: the queues of a failed pier are spread, least loaded first, a convoy's queues together. -/
def Dev.spreadQueues (d : Dev) (l : Nat) (ls : List Nat) : Dev :=
  (d.que.queues.filter (fun e => e.2.pier == l)).foldl (fun y e =>
    if (y.queue e.1).pier ≠ l then y
    else
      let t := y.leastLoaded ls
      let c := y.cfgN Od.que_CONVOY e.1
      let group := if c ≤ 1023 then (y.convoyMembers c) else [e.1]
      (if e.1 ∈ group then group else e.1 :: group).foldl (fun z q => z.onQueue q (fun x => { x with pier := t })) y) d

/-- R246: sessions are spread; those named would take their pier beyond its rate and are disabled with CANCEL. -/
def Dev.spreadSessions (d : Dev) (l : Nat) (ls excess : List Nat) : Dev :=
  (d.net.sessions.filter (fun e => e.2.pier == l)).foldl (fun y e =>
    if e.1 ∈ excess then (y.sessionOff e.1 true).raise 22 0x57 e.1
    else y.onSes e.1 (fun x => { x with pier := y.leastLoaded ls })) d

/-- R246: entries beyond the launch slots that remain end REJECTED with TABLE_FULL, the highest handles first (log entry 55). -/
def Dev.trimEntries (d : Dev) (l : Nat) : Dev :=
  let room := 8192 * d.activePiers.length
  let excess := d.lch.entries.length - room
  ((d.lch.entries.filter (fun e => e.1 / 8192 == l)).reverse.take excess).foldl (fun y e => y.endEntry e.1 .rejected 0x27) d

/-- PIER_RETIRE (R243–R246): `fin` is the instant of step 7, and `over` names the sessions that no remaining pier can carry. -/
def Dev.pierRetire (d : Dev) (p cause : Nat) (excess : List Nat) (fin : Ticks) : Dev :=
  let x := d.pier p
  if x.state = 2 || cause = 0 || 5 < cause then d
  else
    let d1 := d.fault (0x080 + 5 * p + (cause - 1)) p none [(cause : Int)]
    let d2 := if d.fry.twin.role = .active && d.cfgB Od.twn_YIELD_ON_PIER 0 then d1.yieldNow else d1
    let l := x.logical
    let d3 := (({ d2 with fry.piers := d2.fry.piers.ins p { state := 2, cause := cause, logical := 31 } }).clearPierCores p).raise 22 0x56 p [(cause : Int)]
    let d4 := { d3 with cpu.acu := d3.cpu.acu.filter (fun e => !(decide (8 * p ≤ e.1) && decide (e.1 < 8 * p + 8))) }
    if x.state = 1 || l = 31 then d4
    else
      let late := if d.now ≤ fin && fin ≤ d.now + 50 * us then fin else d.now
      let d4 := { d4 with fry.redirect := d4.fry.redirect.ins l (d.now, late) }
      match d4.activePiers, (List.range 17).find? (fun s => (d4.pier s).state = 1) with
      | _, some s =>
        let d5 := { d4 with fry.piers := d4.fry.piers.ins s { state := 3, cause := 0, logical := l } }
        ((((d5.migrateStreams l).migrateLanes l true).migrateQueues l).at_ late).migrateEntries l
      | ls, none =>
        let logs := ls.map (fun q => (d4.pier q).logical)
        let d5 := (((d4.migrateStreams l).migrateLanes l false).migrateQueues l).at_ late
        let d6 := ((d5.spreadQueues l logs).spreadSessions l logs excess).migrateEntries l
        let d7 := { d6 with fry.piers := d6.fry.piers.mapVals (fun _ y => if y.state = 0 then { y with state := 3 } else y) }
        d7.trimEntries l

end Sys2Proof.Machine
end

