-- ==== Sys2Proof/Machine/FaultOps.lean ====
section
/-!
DEFINITION. What severities do: holding, safe outputs, chip safe state, retirements and domain resets; the collector's
registers; FAULT_N; and the tamper monitors (R503–R524).
-/
namespace Sys2Proof.Machine

def Dev.onFlt (d : Dev) (f : Faults → Faults) : Dev := { d with flt := f d.flt }

/-! ## Event sources by number (R500) -/

/-- The fault source that a number of R500 names: from 0x100 on SOURCE_MAP says which event it is (log entry 6). -/
def Dev.sourceOf (d : Dev) (n : Nat) : Nat :=
  if n < 0x100 then n else eventSrc (d.cfgN Od.fmp_FUNCTION n) (d.cfgN Od.fmp_CODE n)

/-- Function and code of an event source. -/
def eventOf (src : Nat) : Option (Nat × Nat) :=
  if 65536 ≤ src then some ((src - 65536) / 4096, (src - 65536) % 4096) else none

/-- Reset domains (R507), with the codes of DOMAIN. PORT_LINK is the network port event, and FERRY_DOWN to FERRY_WIRING are
the Ferry port events (log entry 115). -/
inductive Domain where
  | lane | bearing | purser | port | ferryPort | host | chip
deriving DecidableEq, Repr

def domainOfSource (src : Nat) : Domain :=
  if src = 0x005 || src = 0x006 then .purser
  else match eventOf src with
    | some (f, c) =>
      if f < 16 then .bearing
      else if f = 19 && c = 0xE9 then .port
      else if f = 20 && decide (c < 0xF5) then .ferryPort
      else if f = 33 || f = 34 then .host
      else if f = 64 then .lane
      else if f = 192 then .purser
      else .chip
    | none => .chip

/-! ## Outputs (R505, R506, R508, R509) -/

/-- R505: hold outputs. Safe outputs supersede it. -/
def Dev.holdOutputs (d : Dev) : Dev := if d.flt.safe then d else d.onFlt (fun f => { f with hold := true })

/-- The unit's outputs are its own to make safe: every role but those of the standby (R509). -/
def Dev.ownsOutputs (d : Dev) : Bool := !d.isStandby

/-- R506: DISPATCHED items of SESSION targets end FAILED with SAFE_STATE. -/
def Dev.failSessionItems (d : Dev) : Dev :=
  (d.man.items.filter (fun e => decide (e.2.state = .dispatched) && decide (d.cfg Od.que_TARGET e.2.queue = 1))).foldl
    (fun y e => y.endItem e.1 .failed 0x08) d

/-- R506: SAFE frames of the sessions with SAFE_ENABLE. -/
def Dev.sendAllSafe (d : Dev) : Dev :=
  d.net.sessions.foldl (fun y e => if y.cfgB Od.ses_SAFE_ENABLE e.1 then y.sendSafe e.1 else y) d

/-- Pins of SAFE_LEVEL HOLD keep the level they drive; pulse ends are discarded (R506, R648). -/
def Dev.freezePins (d : Dev) : Dev :=
  { d with lch.pins := d.lch.pins.mapVals (fun n p =>
      { p with frozen := if d.cfg Od.pin_SAFE_LEVEL n = 2 then some (d.pinLevel n) else p.frozen, ends := [], sense := p.sense.filter (fun s => !s.isEnd) }) }

/-- R506: safe outputs. -/
def Dev.safeOutputs (d : Dev) : Dev :=
  if d.flt.safe then d
  else
    let d1 := d.freezePins.onFlt (fun f => { f with hold := false, safe := true })
    let d2 := d.drivePins d1
    if d.ownsOutputs then d2.failSessionItems.sendAllSafe else d2

/-- R508, R509: chip safe state. An ACTIVE unit releases its pins and sends no SAFE frame; the other unit takes its items over. -/
def Dev.enterChipSafe (d : Dev) : Dev :=
  if d.flt.chipSafe then d
  else
    let d0 := if d.fry.twin.role = .active then
        let d1 := d.freezePins.onFlt (fun f => { f with hold := false, safe := true, chipSafe := true })
        d.drivePins d1
      else
        let d1 := d.safeOutputs
        d1.drivePins (d1.onFlt (fun f => { f with chipSafe := true }))
    let d1 := { d0 with que.queues := d0.que.queues.mapVals (fun _ (x : Queue) => { x with state := .off }) }
    d1.driveFaultN

/-! ## Retirements and resets (R504, R507) -/

/-- R151, R504: a port that faults is disabled with CANCEL. -/
def Dev.retirePort (d : Dev) (p : Nat) : Dev := if p < 32 then (d.set Od.prt_ENABLE p 0).portOff p true else d

/-- R504: a hash core leaves service. -/
def Dev.retireHashCore (d : Dev) (c : Nat) : Dev :=
  if c < 48 && !(c ∈ d.cry.hash.retired) then
    ({ d with cry.hash.retired := insSorted (fun x => (x : Int)) c d.cry.hash.retired }).bump Od.hsh_CORES_IN_SERVICE 0 (-1)
  else d

/-- R466, R504: an oscillator group is excluded. -/
def Dev.excludeGroup (d : Dev) (g : Nat) : Dev :=
  if g < 4 && !d.cry.rng.excluded.has g then
    { d with cry.rng.excluded := d.cry.rng.excluded.ins g d.now, cry.rng.groups := d.cry.rng.groups.filter (fun x => x ≠ g) }
  else d

/-- R504: a Bearing enters LOST with its reference cleared; LAST_CAUSE stays. -/
def Dev.retireBearing (d : Dev) (b : Nat) : Dev := if b < 16 then d.brgLost b (d.brg b).lastCause true else d

/-- R504: retire the unit of a source. A class that names none acts as level 1, and so does an event that names no unit of
its class (log entry 115). -/
def Dev.retireUnit (d : Dev) (src inst : Nat) : Dev :=
  let pier (p cause : Nat) : Dev := if p < 17 then d.pierRetire p cause [] d.now else d
  let ferry (p : Nat) : Dev := if p < 8 then d.setFPort p { d.fport p with state := .fault, width := 0, replay := [], waiting := [] } else d
  if 0x080 ≤ src && src < 0x0D5 then pier ((src - 0x080) / 5) ((src - 0x080) % 5 + 1)
  else if src = 0x011 then pier inst 1
  else if src = 0x014 then (if inst < 2048 then d.retireSector inst 0 else d)
  else if 0x015 ≤ src && src < 0x01D then ferry (src - 0x015)
  else if 0x01D ≤ src && src < 0x02D then d.retireBearing (src - 0x01D)
  else if src = 0x02E || src = 0x02F then d.retirePort inst
  else match eventOf src with
    | some (f, code) =>
      if f < 16 then d.retireBearing f
      else if f = 19 && code = 0xE9 then d.retirePort inst
      else if f = 20 && decide (code < 0xF5) then ferry inst
      else if f = 24 && code < 0x10 then pier (inst / 4) (if code = 2 then 4 else 2)
      else if f = 24 && code = 0x10 then d.retireHashCore inst
      else if f = 25 && code = 0x20 then d.excludeGroup inst
      else if f = 32 && code = 0xA4 then (if inst < 2048 then d.retireSector inst 0 else d)
      else if f = 64 && code = 2 then (if inst < 136 then pier (d.pierOf (inst / 8)) 3 else d)
      else d
    | none => d

/-- R507: a Bearing is disabled with CANCEL and enabled again. -/
def Dev.resetBearing (d : Dev) (b : Nat) : Dev := if b < 16 && (d.brg b).state ≠ .off then (d.bearingOff b).bearingEnable b else d

/-- R507: a purser restarts from resident firmware; its tasks end FAULTED, its cipher and big-number locks are cleared. -/
def Dev.resetPurser (d : Dev) (p : Nat) : Dev :=
  if 4 ≤ p then d
  else
    let stop (t : Task) : Task :=
      if t.purser = p && (t.state = .ready || t.state = .running || t.state = .waiting) then { t with state := .faulted } else t
    let d1 := { d with cpu := { d.cpu with tasks := d.cpu.tasks.mapVals (fun _ t => stop t), pu := d.cpu.pu.ins p {}, resident := d.cpu.resident.del p } }
    ((d1.clearLocks (0x100 + p)).clearBgn (0x100 + p))

/-- R507: a Ferry port goes DOWN and trains again. -/
def Dev.resetFerryPort (d : Dev) (p : Nat) : Dev :=
  let x := d.fport p
  if p < 8 && x.state ≠ .off && x.state ≠ .fault then
    (d.setFPort p { x with state := .down, trainStart := d.now, replay := x.replay.map (fun f => { f with resends := 0 }) }).ferryBearingsDown
  else d

/-- R507: a network port trains again; its sessions keep their state. -/
def Dev.resetPort (d : Dev) (p : Nat) : Dev := if p < 32 then d.portLink p false else d

def Dev.resetDomain (d : Dev) (src inst : Nat) : Dev :=
  match domainOfSource src with
  | .lane => if inst < 136 then d.laneReset inst else d
  | .bearing => d.resetBearing (match eventOf src with
      | some (f, _) => f
      | none => 16)
  | .purser => d.resetPurser (match eventOf src with
      | some _ => (d.cpu.tasks.get {} inst).purser
      | none => inst)
  | .port => d.resetPort inst
  | .ferryPort => d.resetFerryPort inst
  | .host => d.hostDown
  | .chip => { d with sys.restartAs := some 5 }

/-! ## The collector (R505, R506, R510, R512, R522, R523) -/

/-- RELEASE_HOLD (R90, R505, R648): pins enabled meanwhile are set; PIN and FRAME entries that fell due are late. The answer is an OAP status. -/
def Dev.releaseHold (d : Dev) : Nat × Dev :=
  if d.flt.active.any (fun e => e.2 == 3) then (9, d)
  else if !d.flt.hold then (0, d)
  else
    let fell := fun (e : Entry) => e.blocked || (e.state = .committed && decide (slotTime (slotOf e.instant) ≤ d.now))
    let waiting := d.lch.entries.filter (fun e => (e.2.image.isPin || e.2.image.isFrame) && fell e.2)
    let dh := d.onFlt (fun f => { f with hold := false })
    let di := d.drivePins { dh with lch.pins := dh.lch.pins.mapVals (fun n p => if p.idleDue then p.idle (d.cfgB Od.pin_IDLE_LEVEL n) else p) }
    let d0 := (List.range 32).foldl (fun y n => y.endPulses n) di
    let d1 := waiting.foldl (fun y e => (y.onEntry e.1 (fun x => { x with blocked := false })).late e.1) d0
    (0, (d1.raise 22 0x53 0xFFFF).runDue)

/-- RELEASE_SAFE (R506, R648). The answer is an OAP status. -/
def Dev.releaseSafe (d : Dev) : Nat × Dev :=
  if d.flt.active.any (fun e => e.2 == 4) then (9, d)
  else if !d.flt.safe then (0, d)
  else
    let d1 := { d with lch.pins := d.lch.pins.mapVals (fun n p =>
      { p with base := (match d.pinLevel n with
          | .active => true
          | .inactive => false
          | .highZ => d.cfgB Od.pin_IDLE_LEVEL n), pulses := 0, ends := [], frozen := none }) }
    (0, (d.drivePins (d1.onFlt (fun f => { f with safe := false }))).raise 22 0x54 0xFFFF)

/-- FAULT_N is released. -/
def Dev.faultnHigh (d : Dev) : Dev :=
  if d.flt.faultnDriven then (d.onFlt (fun f => { f with faultnDriven := false })).emit (.faultN false) else d

/-- FAULT_N is locked low: chip safe state, and recovery (R508, R510, R621). -/
def Dev.faultnLocked (d : Dev) : Bool := d.flt.chipSafe || decide (d.sys.phase = .recovery)

/-- FCU_FAULTN is written (R522). -/
def Dev.fcuFaultn (d : Dev) (v : Nat) : Dev :=
  if bitOf v 0 && !d.faultnLocked then
    let d1 := d.onFlt (fun f => { f with faultnHold := false })
    if d.flt.faultnUntil ≤ d.now then d1.faultnHigh else d1
  else d

/-- FAULTN_MIN_LOW (R510): the pin follows HOLD. -/
def Dev.faultnMinLow (d : Dev) : Dev :=
  if d.flt.faultnUntil ≤ d.now && !d.flt.faultnHold && !d.faultnLocked then d.faultnHigh else d

/-- MERGE_WINDOW (R512). -/
def Dev.mergeWindow (d : Dev) (src : Nat) : Dev :=
  match d.flt.merges.find src with
  | some m => if m.start + d.cfg Od.flt_MERGE_WINDOW src ≤ d.now then (d.collectorCheck (collectorWords src)).endMerge src else d
  | none => d

/-- FCU_ACTIVE[w] is written (R523): each bit set acknowledges a source and ends its merge. -/
def Dev.fcuActive (d : Dev) (w v : Nat) : Dev :=
  ((List.range 32).filter (bitOf v)).foldl (fun y b =>
    let src := d.sourceOf (32 * w + b)
    (y.onFlt (fun f => { f with active := f.active.del src })).endMerge src) d

/-- FCU_ACTIVE[w] as read. -/
def Dev.fcuActiveWord (d : Dev) (w : Nat) : Nat :=
  (List.range 32).foldl (fun a b => if d.flt.active.has (d.sourceOf (32 * w + b)) then a + 2 ^ b else a) 0

/-- FCU_STATUS (R521). -/
def Dev.fcuStatus (d : Dev) : Nat :=
  let f := d.flt
  f.active.foldl (fun a e => max a e.2) 0 + 8 * b2n f.hold + 16 * b2n f.safe + 32 * b2n f.chipSafe + 64 * b2n f.collectorFault +
    128 * b2n f.faultnDriven + 256 * b2n f.faultnSensed

/-- STATE of 0x6001. -/
def Faults.stateCode (f : Faults) : Nat := if f.chipSafe then 3 else if f.safe then 2 else if f.hold then 1 else 0

/-- EXT_FAULT (R510): FAULT_N has been low for a time, or is seen high again. -/
def Dev.extFault (d : Dev) (lowFor : Option Ticks) : Dev :=
  match lowFor with
  | none => d.onFlt (fun f => { f with faultnSensed := false })
  | some w =>
    if d.flt.faultnDriven then d
    else
      let d1 := d.onFlt (fun f => { f with faultnSensed := true })
      if w < us then d1 else d1.fault 0x003 0xFFFF (some (22, 0x55)) []

/-! ## Tamper monitors (R515, R516) -/

/-- R516: tamper level 1. -/
def Dev.tamper1 (d : Dev) (cls : Nat) : Dev :=
  ((d.onFlt (fun f => { f with level1 := true, tamperMark := true })).bump Od.tmp_LEVEL1_COUNT cls).fault 0x046 cls (some (27, 0x60)) [(cls : Int)]

/-- R516: tamper level 2. -/
def Dev.tamper2 (d : Dev) (cls : Nat) : Dev :=
  (d.onFlt (fun f => { f with level2 := true, tamperMark := true })).fault 0x047 cls (some (27, 0x61)) [(cls : Int)]

/-- Events of a monitor within a time, the one at this instant among them. -/
def within (l : List Ticks) (now w : Ticks) : Nat := (l.filter (fun t => decide (now - w < t))).length

/-- One event of a monitor: counted, a fault of its own source, and the levels whose counts it reaches (R515). `one` and
`two` are the window and count of the levels. -/
def Dev.monitorEvent (d : Dev) (cls mon src inst : Nat) (one two : Option (Ticks × Nat)) : Dev :=
  let l := d.now :: ((d.flt.monitor.get [] mon).filter (fun t => decide (d.now - sec < t)))
  let n1 := match one with
    | some (w, _) => within l d.now w
    | none => 0
  let d1 := (d.onFlt (fun f => { f with monitor := f.monitor.ins mon l, lastMonitor := if cls < 5 then some d.now else f.lastMonitor })).bump Od.tmp_EVENTS cls
  let d2 := if d1.cfg Od.tmp_IN_WINDOW cls < n1 then d1.set Od.tmp_IN_WINDOW cls n1 else d1
  let d3 := d2.fault src inst (some (27, 0x62)) [(src : Int)]
  let d4 := if one.any (fun e => e.2 == n1) then d3.tamper1 cls else d3
  if two.any (fun e => e.2 == within l d.now e.1) then d4.tamper2 cls else d4

/-- SLOW_SUPPLY. -/
def Dev.slowSupply (d : Dev) (rail : Nat) (levels : Bool) : Dev :=
  if d.flt.armed then d.monitorEvent 1 (8 + rail) (0x038 + rail) rail (if levels then some (sec, 8) else none) none else d

/-- SUPPLY_GLITCH: an excursion of 1 to 100 ns. After PWRFAIL_N a falling one counts as a slow event only (R515). -/
def Dev.supplyGlitch (d : Dev) (rail : Nat) (rising : Bool) (width : Ticks) : Dev :=
  if !d.flt.armed || width < ns || 100 * ns < width then d
  else if d.man.saving && !rising then d.slowSupply rail false
  else d.monitorEvent 0 rail (0x030 + rail) rail (some (10 * us, 4)) (some (10 * ms, 32))

/-- CLOCK_GLITCH. -/
def Dev.clockGlitch (d : Dev) : Dev :=
  if d.flt.armed then d.monitorEvent 2 16 0x040 0xFFFF (some (10 * us, 2)) (some (10 * ms, 16)) else d

/-- REFCLK_LOSS: no tamper class (R515). -/
def Dev.refclkLoss (d : Dev) (gap : Ticks) : Dev := if gap < 50 * ns then d else d.fault 0x041 0xFFFF (some (27, 0x62)) [0x041]

/-- TEMPERATURE_HIGH and TEMPERATURE_LOW, at the end of the 1 ms. -/
def Dev.temperature (d : Dev) (high : Bool) : Dev :=
  if d.flt.armed then d.monitorEvent (if high then 3 else 4) (if high then 17 else 18) (if high then 0x042 else 0x043) 0xFFFF (some (us, 1)) none else d

/-- SHIELD_EVENT (R516): latched while the other rails are off. -/
def Dev.shieldEvent (d : Dev) (short rails : Bool) : Dev :=
  if !rails then d.onFlt (fun f => { f with shieldLatched := true, level2 := true })
  else (d.onFlt (fun f => { f with shieldOk := false })).monitorEvent 5 19 (if short then 0x045 else 0x044) 0xFFFF none (some (us, 1))

/-- MONITOR_ARM (R515). -/
def Dev.monitorArm (d : Dev) (inRange : Bool) : Dev :=
  if inRange && decide (d.sys.releasedAt + ms ≤ d.now) then d.onFlt (fun f => { f with armed := true, shieldOk := (f.monitor.get [] 19).isEmpty }) else d

/-- TMP_STATUS (R524). -/
def Dev.tmpStatus (d : Dev) : Nat :=
  let f := d.flt
  let rails := (List.range 8).foldl (fun a n =>
    if within (f.monitor.get [] n) d.now (10 * ms) + within (f.monitor.get [] (8 + n)) d.now sec = 0 then a else a + 2 ^ n) 0
  b2n f.armed + 2 * b2n f.level1 + 4 * b2n f.level2 + 8 * b2n f.shieldOk + 16 * rails

end Sys2Proof.Machine
end

