-- ==== Sys2Proof/Machine/Codes.lean ====
section
/-!
DEFINITION. States held as codewords: what an invalid code does (R518, R519). No command of the model makes one (log entry 170).
-/
namespace Sys2Proof.Machine

/-- R193: the first retransmission interval of a launched frame. -/
def Dev.entryRetx (d : Dev) (i : EntryImage) : Ticks :=
  match i.target with
  | .frame s _ _ => (d.sesOf s).elim 0 (fun k => d.cfg Od.ses_RETX_TIME k)
  | _ => 0

/-- An accepted launch entry gets its place in the launch table again; one whose frame has gone waits for its answer. -/
def Dev.restoreEntry (d : Dev) (item : Nat) : Dev :=
  match d.item item with
  | none => d
  | some x =>
    match decodeImage x.body with
    | none => d
    | some i =>
      if x.sff.isSome && decide (x.state = .dispatched) then
        (d.setEntry x.handle { item := item, image := i, raw := x.body, flags := x.detail, state := .acting, sent := true, sff := x.sff }).onItem item
          (fun y => { y with retxAt := d.now, retxGap := d.entryRetx i })
      else
        let d1 := d.setEntry x.handle { item := item, image := i, raw := x.body, flags := x.detail, state := if i.armed then .waiting else .unarmed }
        if i.armed then d1.armEntry x.handle else d1

/-- R519: the codeword of a launch entry's commit state is invalid. The entry is rebuilt from its manifest record; a PIN entry
whose edge is placed is CONFIRMED, and any other follows its late policy (R154). -/
def Dev.rebuildEntry (d : Dev) (h : Nat) : Dev :=
  match d.entry h with
  | none => d
  | some e =>
    let d1 := (d.setEntry h { e with codeBad := false }).fault 0x051 (h / 8192) none []
    if e.image.isPin && decide (e.state = .acting) then d1.confirmEntry h
    else ((d1.restoreEntry e.item).onEntry h (fun x => x.flag flMigrated)).runDue

/-- R519: the codeword of the flash controller's state is invalid: the erase under way is abandoned, and the area it was in is
half-erased. -/
def Dev.flashCode (d : Dev) : Dev :=
  let half (a : AreaState) : AreaState := if a = .erasing then .halfErased else a
  (({ d with fls.codeBad := false } : Dev).onMan (fun m => { m with areaA := half m.areaA, areaB := half m.areaB })).fault 0x052 0xFFFF none []

/-- Some state's codeword is invalid. -/
def Dev.codesBad (d : Dev) : Bool := d.fry.twin.roleBad || d.fls.codeBad || d.lch.entries.any (fun e => e.2.codeBad)

/-- R518, R519: every read of such a state checks its code. -/
def Dev.codeCheck (d : Dev) : Dev :=
  if d.codesBad then
    let d1 := if d.fry.twin.roleBad then (d.onTwin (fun t => { t with roleBad := false })).fault 0x050 0xFFFF none [] else d
    let d2 := if d1.fls.codeBad then d1.flashCode else d1
    (d2.lch.entries.filter (fun e => e.2.codeBad)).foldl (fun y e => y.rebuildEntry e.1) d2
  else d

end Sys2Proof.Machine
end

