-- ==== Sys2Proof/Machine/CardLink.lean ====
section
/-!
DEFINITION. Card places, the T=1 block protocol as the device sends it, and the sending of a Kolzel command (R554–R558).
-/
namespace Sys2Proof.Machine

/-! ## Places -/

def Dev.cardSlot (d : Dev) (x : Nat) : CardSlot := d.per.slots.get {} x

def Dev.onSlot (d : Dev) (x : Nat) (f : CardSlot → CardSlot) : Dev := { d with per.slots := d.per.slots.put {} x (f (d.cardSlot x)) }

def Dev.cid (d : Dev) (c : Nat) : CidSlot := d.ctl.rd.cids.get {} c

def Dev.onCid (d : Dev) (c : Nat) (f : CidSlot → CidSlot) : Dev := { d with ctl.rd.cids := d.ctl.rd.cids.put {} c (f (d.cid c)) }

/-- The dialogue at a place: 0–1 slots, 2–5 CIDs 1–4, 6–11 the other unit's. -/
def Dev.dlg (d : Dev) (p : Nat) : Dialogue :=
  if p < 2 then (d.cardSlot p).dlg else if p < 6 then (d.cid (p - 1)).dlg else d.per.remote.get {} p

def Dev.onDlg (d : Dev) (p : Nat) (f : Dialogue → Dialogue) : Dev :=
  if p < 2 then d.onSlot p (fun x => { x with dlg := f x.dlg })
  else if p < 6 then d.onCid (p - 1) (fun x => { x with dlg := f x.dlg })
  else { d with per.remote := d.per.remote.put {} p (f (d.dlg p)) }

/-- Whether a place holds a contactless card. -/
def isBadge (p : Nat) : Bool := decide (2 ≤ p % 6)

/-- The state that a slot's registers show changes with its dialogue (R572). -/
def Dev.slotState (d : Dev) (p : Nat) (st : CardState) : Dev := if p < 2 then d.onSlot p (fun x => { x with state := st }) else d

/-! ## T=1 (R554–R556) -/

/-- Fi and f max in units of 0.5 MHz, by the high half of TA1, and Di by its low half (ISO/IEC 7816-3; log entry 61). -/
def fiOf (n : Nat) : Option (Nat × Nat) :=
  match n with
  | 0 => some (372, 8)
  | 1 => some (372, 10)
  | 2 => some (558, 12)
  | 3 => some (744, 16)
  | 4 => some (1116, 24)
  | 5 => some (1488, 32)
  | 6 => some (1860, 40)
  | 9 => some (512, 10)
  | 10 => some (768, 15)
  | 11 => some (1024, 20)
  | 12 => some (1536, 30)
  | 13 => some (2048, 40)
  | _ => none

def diOf (n : Nat) : Option Nat :=
  match n with
  | 1 => some 1
  | 2 => some 2
  | 3 => some 4
  | 4 => some 8
  | 5 => some 16
  | 6 => some 32
  | 7 => some 64
  | 8 => some 12
  | 9 => some 20
  | _ => none

/-- One elementary time unit. -/
def T1Link.etu (l : T1Link) : Ticks := (l.fi : Int) * sec / ((l.di : Int) * l.clk)

/-- The time of one character, guard time included (R554). -/
def T1Link.char (l : T1Link) : Ticks := (if l.guardN = 255 then 11 else 12 + (l.guardN : Int)) * l.etu

/-- BWT (ISO/IEC 7816-3; log entry 61). -/
def T1Link.bwt (l : T1Link) : Ticks := 11 * l.etu + (2 ^ l.bwi * 960 * 372 : Nat) * sec / l.clk

/-- The check of a block: LRC, or CRC. -/
def T1Link.edc (l : T1Link) (body : Bytes) : Bytes :=
  if l.crc then toLe 2 (crcX25 body).toNat else [body.foldl (fun a b => a ^^^ b) 0]

/-- A block leaves; the device then waits BWT for an answer, or a multiple of it after S(WTX). -/
def Dev.sendBlock (d : Dev) (x pcb : Nat) (inf : Bytes) (mult : Nat := 1) : Dev :=
  let l := (d.cardSlot x).link
  let body : Bytes := [0, BitVec.ofNat 8 pcb, BitVec.ofNat 8 inf.length] ++ inf
  let blk := body ++ l.edc body
  (d.onSlot x (fun s => { s with link.last := blk, link.deadline := d.now + (blk.length : Int) * l.char + (mult : Int) * l.bwt })).emit (.card x blk)

/-- The next I-block of the command under way. -/
def Dev.sendChunk (d : Dev) (x : Nat) : Dev :=
  let l := (d.cardSlot x).link
  let inf := l.left.take l.ifsc
  let rest := l.left.drop l.ifsc
  let d1 := d.sendBlock x (64 * b2n l.ns + (if rest.isEmpty then 0 else 32)) inf
  let dur := ((4 + b2n l.crc + inf.length : Nat) : Int) * l.char
  d1.onSlot x (fun s => { s with link.left := rest, link.ns := (!l.ns), link.sentAt := (if rest.isEmpty then some (d.now + dur) else none) })

/-- Start a command of the T=1 link. -/
def Dev.sendApdu (d : Dev) (x : Nat) (apdu : Bytes) : Dev :=
  let l : T1Link := { (d.cardSlot x).link with cmd := apdu, left := apdu, recv := [], reply := none }
  let l1 : T1Link := { l with sentAt := none, errors := 0, resynced := false, resyncing := false, since := d.now }
  (d.onSlot x (fun s => { s with link := l1 })).sendChunk x

/-! ## Kolzel commands (R558) -/

/-- The bytes of a Kolzel command: CLA, INS, P1, P2, Lc and data where there are any, Le (log entry 60). -/
def kolzelApdu (cla ins p1 : Nat) (data : Bytes) : Bytes :=
  [BitVec.ofNat 8 cla, BitVec.ofNat 8 ins, BitVec.ofNat 8 p1, 0] ++
    (if data.isEmpty then [] else BitVec.ofNat 8 data.length :: data) ++ [0]

/-- Send a Kolzel command to a card, whose response the dialogue then awaits. A card of the other unit is reached through
that unit (R571). -/
def Dev.kolzel (d : Dev) (p : Nat) (st : KolzelStep) (apdu : Bytes) : Dev :=
  let d1 := d.onDlg p (fun x => { x with step := st })
  if p < 2 then d1.sendApdu p apdu
  else if p < 6 then (d1.onCid (p - 1) (fun x => { x with last := apdu, retries := 0 })).emit (.card p apdu)
  else d1.emit (.replica 2 (BitVec.ofNat 8 p :: apdu))

/-- The response that a place has given: its data and status word. From a slot it is what T=1 has put together. -/
def Dev.response (d : Dev) (p : Nat) (resp : Bytes) : Option (Bytes × Nat) :=
  let r := if p < 2 then (d.cardSlot p).link.reply else some resp
  match r with
  | none => none
  | some b => if b.length < 2 then some ([], 0) else some (b.take (b.length - 2), beAt b (b.length - 2) 2)

/-- R560: the last character of the final I-block has been sent to a slot's card. -/
def Dev.allSent (d : Dev) (x : Nat) : Bool :=
  match (d.cardSlot x).link.sentAt with
  | some t => decide (t ≤ d.now)
  | none => false

end Sys2Proof.Machine
end

