-- ==== Sys2Proof/Machine/PermitOps.lean ====
section
/-!
DEFINITION. The permit ledger, grants and their ends, JOURNAL_QUERY, operator inputs and indicators (R560–R576).
-/
namespace Sys2Proof.Machine

/-! ## The ledger (R569–R571) -/

/-- A card identifier, or its place, as 16 bytes. -/
def LedgerRec.flags (r : LedgerRec) : Nat :=
  b2n r.twoPerson + 2 * b2n r.cl1 + 4 * b2n r.cl2 + 8 * b2n r.bindPresence + 16 * b2n r.bindInput

/-- R569: the 128 bytes of a record. -/
def ledgerBytes (n : Nat) (r : LedgerRec) : Bytes :=
  let b := toLe 4 n ++ toLe 1 r.state.code ++ toLe 1 r.endReason ++ toLe 1 r.role ++ toLe 1 r.flags ++ toLe 2 r.rule ++
    toLe 2 r.actions ++ padTo 16 r.holder ++ padTo 16 r.second ++ timeLe r.granted ++ timeLe r.validUntil ++ timeLe r.endedAt ++
    padTo 32 r.scope ++ toLe 4 r.counter ++ toLe 4 r.counter2 ++ toLe 4 0
  b ++ toLe 4 (crc32c b).toNat

/-- R570: live entries. -/
def LedgerState.live (s : LedgerState) : Bool :=
  match s with
  | .pending | .active | .inDoubt => true
  | _ => false

def Dev.liveEntries (d : Dev) : Tab LedgerRec := d.per.ledger.filter (fun e => e.2.state.live)

/-- Only the active unit of a twin grants, ends and settles permits (R571), and its pursers halt in chip safe state (R508). -/
def Dev.permitsHere (d : Dev) : Bool :=
  !d.flt.chipSafe && (match d.fry.twin.role with
    | .alone | .active | .activeSingle => true
    | _ => false)

/-- Append a record; a joined standby receives it first (R571). -/
def Dev.ledgerPut (d : Dev) (n : Nat) (r : LedgerRec) : Dev :=
  let d1 := if d.fry.twin.role = .active then d.emit (.replica 1 (ledgerBytes n r)) else d
  { d1 with per.ledger := d1.per.ledger.ins n r }

/-- R567: a permit ends with a reason. -/
def Dev.endPermit (d : Dev) (n reason : Nat) : Dev :=
  match d.per.ledger.find n with
  | none => d
  | some r => (d.ledgerPut n { r with state := .ended, endReason := reason, endedAt := d.now, waits := [] }).raise 31 0x91 r.rule [(n : Int), (reason : Int)]

/-- End every ACTIVE permit that a test picks. -/
def Dev.endPermits (d : Dev) (reason : Nat) (p : LedgerRec → Bool) : Dev :=
  if !d.permitsHere then d
  else (d.per.ledger.filter (fun e => decide (e.2.state = .active) && p e.2)).foldl (fun y e => y.endPermit e.1 reason) d

/-- A grant is refused (log entry 63). -/
def Dev.grantRefused (d : Dev) (rule : Nat) : Dev := (d.bump Od.prm_REFUSALS 0).raise 31 0x92 rule

/-! ## Conditions of a rule (R561, R565, R566) -/

/-- CREDENTIALS (R537). -/
def Dev.credentials (d : Dev) : Nat := (d.ctl.rd.cids.filter (fun e => decide (e.2.state = .credential))).length

/-- CREDENTIALS of the aerial at which a place lies. -/
def Dev.credentialsAt (d : Dev) (p : Nat) : Nat :=
  if p < 6 then d.credentials
  else (d.per.remote.filter (fun e => decide (8 ≤ e.1) && e.2.holder.isSome)).length

/-- R561: IN_DOUBT entries of a card, oldest first. -/
def Dev.inDoubtOf (d : Dev) (cardId : Bytes) : List Nat :=
  (d.per.ledger.filter (fun e => decide (e.2.state = .inDoubt) && (e.2.holder == cardId || (e.2.twoPerson && e.2.second == cardId)))).map (·.1)

/-- The card at a place, where a grant may be made from it: identified, nothing under way, no entry in doubt, and not one of
several badges (R537, R561). -/
def Dev.grantCard (d : Dev) (p : Nat) : Option CardHolder :=
  let x := d.dlg p
  match x.holder with
  | none => none
  | some h =>
    if x.step ≠ .idle || !(d.inDoubtOf h.cardId).isEmpty || (isBadge p && 1 < d.credentialsAt p) then none else some h

/-- CREDENTIAL of a rule admits a place (log entry 62). -/
def Dev.credentialOk (d : Dev) (rule p : Nat) : Bool :=
  match d.cfgN Od.rul_CREDENTIAL rule with
  | 0 => !isBadge p
  | 1 => isBadge p
  | _ => true

/-- Places whose card may stand first, or second, in a grant of a rule. -/
def Dev.placesFor (d : Dev) (rule roleMin : Nat) : List (Nat × CardHolder) :=
  (List.range 12).filterMap (fun p =>
    match d.grantCard p with
    | some h => if d.credentialOk rule p && decide (roleMin ≤ h.role) then some (p, h) else none
    | none => none)

/-- R565, R566: the cards of a grant: one, or two of different persons identified within the window, not both badges. -/
def Dev.cardsFor (d : Dev) (rule : Nat) (pick : Nat → Bool) : Option (List (Nat × CardHolder)) :=
  let firsts := d.placesFor rule (d.cfgN Od.rul_ROLE_MIN rule)
  if d.cfgB Od.rul_TWO_PERSON rule then
    let seconds := d.placesFor rule (d.cfgN Od.rul_SECOND_ROLE rule)
    let ok (a b : Nat × CardHolder) : Bool :=
      decide (a.1 ≠ b.1) && a.2.cardId != b.2.cardId && a.2.name != b.2.name && !(isBadge a.1 && isBadge b.1) &&
        decide ((if a.2.at_ ≤ b.2.at_ then b.2.at_ - a.2.at_ else a.2.at_ - b.2.at_) ≤ d.cfg Od.rul_TWO_PERSON_WINDOW rule) &&
        (pick a.1 || pick b.1)
    let pairs := (sortBy (fun (a : Nat × CardHolder) => a.2.at_) firsts).flatMap (fun a => (seconds.filter (ok a)).map (fun b => [a, b]))
    pairs.head?
  else ((firsts.filter (fun a => pick a.1)).map (fun a => [a])).head?

/-- The input of a rule is ACTIVE, or the rule has none. -/
def Dev.ruleInput (d : Dev) (rule : Nat) : Bool :=
  let k := d.cfgN Od.rul_INPUT rule
  decide (k = 0xFF) || (decide (k < 8) && decide ((d.per.inputs.get {} k).state = .active))

/-! ## Grants (R560, R567) -/

/-- The data of RECORD_GRANT. -/
def Dev.grantData (d : Dev) (n : Nat) (r : LedgerRec) : Bytes :=
  toBe 4 n ++ padTo 16 (d.oct Od.idn_UNIT_ID 0) ++ toBe 2 r.rule ++ timeBe r.granted ++ timeBe r.validUntil ++ [0, 0]

/-- Send RECORD_GRANT to the next card of an entry. -/
def Dev.sendGrant (d : Dev) (n : Nat) (r : LedgerRec) : Dev :=
  match r.waits with
  | [] => d
  | p :: _ =>
    let data := d.grantData n r
    ((d.slotState p .writing).onDlg p (fun x => { x with entry := some n, sent := data })).kolzel p .grant (kolzelApdu 0x80 0x20 0 data)

/-- A rule has a permit, or a grant under way. -/
def Dev.ruleTaken (d : Dev) (rule : Nat) : Bool :=
  d.per.ledger.any (fun e => e.2.rule == rule && (decide (e.2.state = .active) || decide (e.2.state = .pending)))

/-- R567: a grant from cards: the PENDING entry, then the first card write. A rule grants one permit at a time, the ledger
holds 256 live entries, and the decision is taken twice (R517). -/
def Dev.grant (d : Dev) (rule : Nat) (cards : List (Nat × CardHolder)) (agree : Bool) : Dev :=
  if d.ruleTaken rule then d.grantRefused rule
  else if !agree then (d.fault 0x007 0xFFFF none []).grantRefused rule
  else if 256 ≤ d.liveEntries.length then (({ d with per.full := true }).bump Od.prm_REFUSALS 0).raise 31 0x96 rule
  else
    match cards with
    | [] => d
    | (p, h) :: more =>
      let n := d.per.nextNumber
      let bind := d.cfgN Od.rul_BIND rule
      let r : LedgerRec := {
        state := .pending, role := h.role, twoPerson := !more.isEmpty, cl1 := isBadge p, cl2 := more.any (fun e => isBadge e.1),
        bindPresence := bitOf bind 0, bindInput := bitOf bind 1, rule := rule, actions := d.cfgN Od.rul_ACTIONS rule,
        holder := h.cardId, second := ((more.head?).map (fun e => e.2.cardId)).getD [],
        granted := d.now, validUntil := d.now + d.cfg Od.rul_DURATION rule * sec,
        scope := d.oct Od.rul_SCOPE rule, waits := p :: more.map (·.1) }
      ({ d with per.nextNumber := n + 1, per.full := false }.ledgerPut n r).sendGrant n r

/-- Try the rules that are due with a card, while nothing is under way with it. -/
def Dev.tryDue (d : Dev) (p : Nat) (agree : Bool) : Dev :=
  if !d.permitsHere then d
  else
    (d.dlg p).due.foldl (fun y r =>
      if (y.grantCard p).isNone then y
      else
        let z := y.onDlg p (fun x => { x with due := x.due.filter (fun k => k ≠ r) })
        if z.cfg Od.rul_TRIGGER r = 0 && z.cfgB Od.rul_ACTIONS r && z.ruleInput r && !z.ruleTaken r then
          (match z.cardsFor r (fun q => q == p) with
            | some cs => z.grant r cs agree
            | none => z)
        else z) d

/-- R565: a change makes the last condition of rules of TRIGGER AUTO true: those that a test names become due with the
cards at the places that another test names. -/
def Dev.autoGrants (d : Dev) (rules : Nat → Bool) (pick : Nat → Bool) (agree : Bool) : Dev :=
  (((List.range 12).filter pick).filter (fun p => (d.dlg p).holder.isSome)).foldl (fun y p =>
    (y.onDlg p (fun x => { x with due := dedup (x.due ++ (List.range 64).filter rules) })).tryDue p agree) d

/-- A place's card is free again after a write or a query. -/
def Dev.placeIdle (d : Dev) (p : Nat) : Dev :=
  (d.slotState p .identified).onDlg p (fun x => { x with step := .idle, entry := none, sent := [] })

/-- R560: a RECORD_GRANT ends without a permit: ROLLED_BACK, or IN_DOUBT. -/
def Dev.grantFailed (d : Dev) (n : Nat) (doubt : Bool) : Dev :=
  match d.per.ledger.find n with
  | none => d
  | some r =>
    if r.state ≠ .pending then d
    else if doubt then (d.ledgerPut n { r with state := .inDoubt, waits := [] }).raise 31 0x93 r.rule [(n : Int)]
    else (d.ledgerPut n { r with state := .rolledBack, waits := [] }).grantRefused r.rule

/-- R560, R566, R567: a card's response to RECORD_GRANT. Under 0x9000 with a valid signature the next card is asked, or the
permit takes effect. -/
def Dev.grantAnswer (d : Dev) (p : Nat) (resp : Bytes) (agree : Bool) : Dev :=
  let x := d.dlg p
  match x.entry, d.response p resp with
  | some n, some (data, sw) =>
    if x.step ≠ .grant then d
    else match d.per.ledger.find n with
    | none => d
    | some r =>
      if r.state ≠ .pending then d.placeIdle p
      else if sw = 0 then (d.placeIdle p).grantFailed n (2 ≤ p || d.allSent p)
      else if sw ≠ 0x9000 then (d.placeIdle p).grantFailed n false
      else
        let counter := beAt data 0 4
        let key := match x.holder with
          | some h => Config.chainKey h.chain
          | none => []
        let good := decide (data.length = 68) && Config.pkVerify 20 key (x.sent ++ data.take 4) (data.drop 4)
        let d1 := d.placeIdle p
        if !agree then (d1.fault 0x007 0xFFFF none []).grantFailed n true
        else if !good then d1.grantFailed n true
        else
          let first := r.counter == 0 && (match x.holder with
            | some h => h.cardId == r.holder
            | none => true)
          let r1 := { r with waits := r.waits.drop 1, counter := if first then counter else r.counter,
                             counter2 := if first then r.counter2 else counter }
          if r1.waits.isEmpty then
            ((d1.ledgerPut n { r1 with state := .active }).bump Od.prm_GRANTS 0).raise 31 0x90 r.rule [(n : Int)]
          else ({ d1 with per.ledger := d1.per.ledger.ins n r1 }).sendGrant n r1
  | _, _ => d

/-- RECORD_GRANT: the response is handled, then the rules that waited for the card are tried. A unit that is not active hands the
response to the other (R571). -/
def Dev.recordGrant (d : Dev) (p : Nat) (resp : Bytes) (agree : Bool) : Dev :=
  if !d.permitsHere && p < 6 && (d.dlg p).step = .grant && (d.dlg p).entry.isNone then
    match d.response p resp with
    | some (data, sw) => (d.placeIdle p).emit (.replica 2 (BitVec.ofNat 8 (p + 6) :: (data ++ toBe 2 sw)))
    | none => d
  else (d.grantAnswer p resp agree).tryDue p agree

/-! ## JOURNAL_QUERY (R561, R562) -/

/-- Ask a card for the next of its entries in doubt; when none is left the card takes part in grants. -/
def Dev.nextQuery (d : Dev) (p : Nat) (agree : Bool) : Dev :=
  match (d.dlg p).queries with
  | n :: rest =>
    ((d.slotState p .querying).onDlg p (fun x => { x with entry := some n, queries := rest })).kolzel p .query
      (kolzelApdu 0x80 0x22 0 (toBe 4 n ++ padTo 16 (d.oct Od.idn_UNIT_ID 0)))
  | [] => (d.placeIdle p).autoGrants (fun _ => true) (fun q => q == p) agree

/-- A settlement reaches the ledger. -/
def Dev.settleEntry (d : Dev) (n : Nat) (cardId : Bytes) (committed : Bool) (counter : Nat) : Dev :=
  match d.per.ledger.find n with
  | none => d
  | some r =>
    if r.state ≠ .inDoubt then d
    else
      let r1 : LedgerRec := if committed then
          (if r.holder == cardId then { r with state := .settledCommitted, counter := counter } else { r with state := .settledCommitted, counter2 := counter })
        else { r with state := .settledRolledBack }
      (d.ledgerPut n r1).raise 31 0x94 r.rule [(n : Int)]

/-- JOURNAL_QUERY: a card's answer. A unit that is not active hands it on (R571). -/
def Dev.journalQuery (d : Dev) (p : Nat) (resp : Bytes) (agree : Bool) : Dev :=
  let x := d.dlg p
  match x.entry, x.holder, d.response p resp with
  | some n, some h, some (data, sw) =>
    if x.step ≠ .query then d
    else
      let ok := decide (sw = 0x9000) && decide (data.length = 5) && decide (beAt data 0 1 ≤ 2)
      let d1 := if !ok then d
        else if d.permitsHere then d.settleEntry n h.cardId (beAt data 0 1 = 0) (beAt data 1 4)
        else d.emit (.replica 2 (BitVec.ofNat 8 (p + 6) :: data))
      (d1.onDlg p (fun y => { y with entry := none })).nextQuery p agree
  | _, _, _ => d

/-- A card has been identified: its entries in doubt come first (R561); a unit that is not active tells the other (R571), and
asks its cards itself. -/
def Dev.identified (d : Dev) (p : Nat) (agree : Bool) : Dev :=
  match (d.dlg p).holder with
  | none => d
  | some h =>
    let d1 := if d.permitsHere || 6 ≤ p then d
      else d.emit (.replica 2 (BitVec.ofNat 8 (p + 6) :: (h.cardId ++ toLe 1 h.role ++ toLe 1 h.name.length ++ h.name ++ h.chain)))
    (d1.onDlg p (fun x => { x with queries := if 6 ≤ p then [] else d.inDoubtOf h.cardId })).nextQuery p agree

/-- R560, R561, R567: a card has gone: a write under way ends by the point reached, permits bound to its presence end. -/
def Dev.holderGone (d : Dev) (p : Nat) (sent : Bool) : Dev :=
  let x := d.dlg p
  let d1 := d.onDlg p (fun _ => {})
  let d2 := if !d.permitsHere && p < 6 && x.holder.isSome then d1.emit (.replica 2 [BitVec.ofNat 8 (p + 6), BitVec.ofNat 8 (b2n sent)])
    else if x.step = .grant then
      (match x.entry with
        | some n => d1.grantFailed n sent
        | none => d1)
    else d1
  match x.holder with
  | none => d2
  | some h => d2.endPermits 2 (fun r => r.bindPresence && (r.holder == h.cardId || (r.twoPerson && r.second == h.cardId)))

/-- R571: what the other unit of the twin reports of its cards, at the unit that grants. -/
def Dev.remoteCard (d : Dev) (w : Replicated) (agree : Bool) : Dev :=
  match w with
  | .identified p h => if d.permitsHere then (d.onDlg (p.val + 6) (fun _ => { holder := some { h with at_ := d.now } })).identified (p.val + 6) agree else d
  | .gone p sent => if d.permitsHere then d.holderGone (p.val + 6) sent else d
  | .settled n cardId committed counter =>
    if d.permitsHere then
      ([6, 7, 8, 9, 10, 11].filter (fun q => match (d.dlg q).holder with
        | some h => h.cardId == cardId
        | none => false)).foldl (fun y q => y.tryDue q agree) (d.settleEntry n cardId committed counter)
    else d
  | .ledger n r => if d.isStandby then { d with per.ledger := d.per.ledger.ins n r, per.nextNumber := max d.per.nextNumber (n + 1) } else d
  | .apdu p bytes => if d.isStandby then (d.slotState p.val .writing).kolzel p.val .grant bytes else d
  | .object _ _ => d

/-! ## Commands on permits (R562, R565, R575) -/

/-- PERMIT_REQUEST: the answer is an OAP status. -/
def Dev.permitRequest (d : Dev) (rule : Nat) (agree : Bool) : Nat × Dev :=
  if 64 ≤ rule then (8, d)
  else if d.cfg Od.rul_TRIGGER rule ≠ 1 || !d.ruleInput rule then (9, d.grantRefused rule)
  else match d.cardsFor rule (fun _ => true) with
    | none => (9, d.grantRefused rule)
    | some cs =>
      let n := d.per.nextNumber
      let d1 := d.grant rule cs agree
      (if d1.per.nextNumber = n then 9 else 0, d1)

/-- REVOKE: an SO may end any live entry; OP and EN while a card of one of its holders is identified. -/
def Dev.revoke (d : Dev) (n : Nat) (role : Role) : Nat × Dev :=
  match d.per.ledger.find n with
  | none => (9, d)
  | some r =>
    let here := (List.range 12).any (fun p => match (d.dlg p).holder with
      | some h => h.cardId == r.holder || (r.twoPerson && h.cardId == r.second)
      | none => false)
    let may := match role with
      | .so => true
      | .op | .en => here
      | _ => false
    if !r.state.live || !may then (9, d)
    else (0, (r.waits.take 1).foldl (fun y p => if (y.dlg p).entry = some n then y.placeIdle p else y) (d.endPermit n 4))

/-- CLEAR_IN_DOUBT. -/
def Dev.clearInDoubt (d : Dev) (n : Nat) : Nat × Dev :=
  match d.per.ledger.find n with
  | some r => if r.state = .inDoubt then (0, d.ledgerPut n { r with state := .abandoned }) else (9, d)
  | none => (9, d)

/-- PERMIT_EXPIRY. -/
def Dev.permitExpiry (d : Dev) (n : Nat) : Dev :=
  match d.per.ledger.find n with
  | some r => if d.permitsHere && decide (r.state = .active) && decide (r.validUntil ≤ d.now) then d.endPermit n 1 else d
  | none => d

/-- R558: a card identifier is listed in CARD_REVOKED. -/
def Dev.cardRevoked (d : Dev) (cardId : Bytes) : Bool :=
  let l := d.oct Od.can_CARD_REVOKED 0
  (List.range 64).any (fun k => sliceB l (16 * k) 16 == cardId) && !allZero cardId

/-- R558: the chart admits a chain: at most three certificates, none expired, and the chain ends at a CARD_ANCHOR. -/
def Dev.cardAdmitted (d : Dev) (chain : Bytes) : Bool :=
  (chainCerts 3 chain).isSome && decide (d.now < Config.chainExpires chain) && (List.range 4).any (fun i =>
    let a := d.octAt Od.can_CARD_ANCHOR i 0
    !allZero a && Config.cardChain a chain)

/-- R567: permits whose card is revoked, or whose present card's chain the chart no longer admits, end. -/
def Dev.anchorCheck (d : Dev) : Dev :=
  let dropped := (List.range 12).filterMap (fun p => match (d.dlg p).holder with
    | some h => if d.cardAdmitted h.chain then none else some h.cardId
    | none => none)
  let bad (id : Bytes) : Bool := d.cardRevoked id || dropped.contains id
  d.endPermits 6 (fun r => bad r.holder || (r.twoPerson && bad r.second))

/-- At a start the ledger's newest records stand, with the changes of R570. -/
def Dev.ledgerStart (d : Dev) : Dev :=
  d.per.ledger.foldl (fun y e =>
    match e.2.state with
    | .pending => (y.ledgerPut e.1 { e.2 with state := .inDoubt, waits := [] }).raise 31 0x93 e.2.rule [(e.1 : Int)]
    | .active =>
      if e.2.bindPresence || e.2.bindInput then y.endPermit e.1 5
      else if e.2.validUntil ≤ y.now then y.endPermit e.1 1
      else y
    | _ => y) d

/-! ## Operator inputs (R563) -/

def Dev.input (d : Dev) (k : Nat) : OpInput := d.per.inputs.get {} k

def Dev.setInput (d : Dev) (k : Nat) (x : OpInput) : Dev := { d with per.inputs := d.per.inputs.put {} k x }

/-- An input leaves ACTIVE: permits bound to it end. -/
def Dev.inputReleased (d : Dev) (k : Nat) : Dev := d.endPermits 3 (fun r => r.bindInput && d.cfgN Od.rul_INPUT r.rule == k)

/-- OPI_CHANGE: the filtered level of channel A or B of an input. -/
def Dev.opiChange (d : Dev) (k : Nat) (chanB high agree : Bool) : Dev :=
  let x := d.input k
  let act := if chanB && decide (d.cfg Od.opi_MODE k = 1) then !high else high
  let y := if chanB then { x with b := act } else { x with a := act }
  let both := y.a && y.b
  let none_ := !y.a && !y.b
  match x.state with
  | .discrepant => d.setInput k { y with releasedAt := if none_ then some (x.releasedAt.getD d.now) else none }
  | .inactive =>
    if both then (d.setInput k { y with state := .active, since := none }).autoGrants (fun r => d.cfgN Od.rul_INPUT r == k) (fun _ => true) agree
    else if none_ then d.setInput k y
    else d.setInput k { y with state := .pending, since := some d.now, fromInactive := true }
  | .active =>
    if both then d.setInput k y
    else if none_ then (d.setInput k { y with state := .inactive, since := none }).inputReleased k
    else (d.setInput k { y with state := .pending, since := some d.now, fromInactive := false }).inputReleased k
  | .pending =>
    if none_ then d.setInput k { y with state := .inactive, since := none }
    else if both then
      if x.fromInactive then (d.setInput k { y with state := .active, since := none }).autoGrants (fun r => d.cfgN Od.rul_INPUT r == k) (fun _ => true) agree
      else d.setInput k { y with since := none }
    else d.setInput k { y with since := some (x.since.getD d.now) }

/-- DISC_TIME: the channels have disagreed for it, or both have been released for it. -/
def Dev.discTime (d : Dev) (k : Nat) : Dev :=
  let x := d.input k
  let w := d.cfg Od.opi_DISC_TIME k
  match x.state with
  | .pending =>
    (match x.since with
      | some t => if t + w ≤ d.now then ((d.setInput k { x with state := .discrepant, since := none }).bump Od.opi_DISCREPANCIES k).raise 31 0x95 k else d
      | none => d)
  | .discrepant =>
    (match x.releasedAt with
      | some t => if t + w ≤ d.now then d.setInput k { x with state := .inactive, releasedAt := none } else d
      | none => d)
  | _ => d

/-! ## Indicators (R564) -/

/-- What an indicator shows: 0 off, 1 on, 2 SLOW, 3 FAST. -/
def Dev.indicator (d : Dev) (k : Nat) : Nat :=
  let mode := d.cfgN Od.opi_IND_MODE k
  let src := d.cfgN Od.opi_IND_SOURCE k
  let safe := d.flt.hold || d.flt.safe || d.flt.chipSafe
  if d.flt.chipSafe then b2n (mode == 6)
  else match mode with
    | 0 => 0
    | 1 => 1
    | 2 => 2
    | 3 => 3
    | 4 =>
      let has (st : LedgerState) : Bool := d.per.ledger.any (fun e => e.2.rule == src && decide (e.2.state = st))
      let first := !(d.placesFor src (d.cfgN Od.rul_ROLE_MIN src)).isEmpty
      let cards := (d.cardsFor src (fun _ => true)).isSome
      let two := d.cfgB Od.rul_TWO_PERSON src
      let inp := decide (d.cfgN Od.rul_INPUT src ≠ 0xFF)
      let met := b2n (if two then first else cards) + b2n (two && cards) + b2n (inp && d.ruleInput src)
      let all := 1 + b2n two + b2n inp
      if has .active then 1 else if has .pending || (0 < met && met + 1 == all) then 3 else if has .inDoubt then 2 else 0
    | 5 =>
      (match (d.input src).state with
        | .active => 1
        | .discrepant => 3
        | _ => 0)
    | 6 => b2n safe
    | _ => 0

/-- Whether an indicator is driven on now: a blinking one for half of its period. -/
def Dev.indicatorOn (d : Dev) (k : Nat) : Bool :=
  let half (p : Ticks) : Bool := decide ((d.now + Config.blinkPhase) % p < p / 2)
  match d.indicator k with
  | 0 => false
  | 1 => true
  | 2 => half sec
  | _ => half (sec / 4)

/-! ## Registers (R572–R574) -/

/-- CRD_STATUS[x]. -/
def Dev.crdStatus (d : Dev) (x : Nat) : Nat :=
  let s := d.cardSlot x
  let etu := if s.powered then min 255 (s.link.etu / (16 * ns)).toNat else 0
  s.state.code + 8 * s.cls + 32 * b2n s.det + 65536 * etu

/-- OPI_STATUS. -/
def Dev.opiStatus (d : Dev) : Nat :=
  (List.range 8).foldl (fun a k => a + (d.input k).state.code * 4 ^ k + b2n (d.indicatorOn k) * 2 ^ (16 + k)) 0

/-- Entries in a ledger state. -/
def Dev.countEntries (d : Dev) (st : LedgerState) : Nat := (d.per.ledger.filter (fun e => decide (e.2.state = st))).length

/-- PMT_STATUS. -/
def Dev.pmtStatus (d : Dev) : Nat :=
  d.liveEntries.length + 512 * min 255 (d.countEntries .active) + 131072 * min 255 (d.countEntries .inDoubt) + 33554432 * b2n d.per.full

end Sys2Proof.Machine
end

