-- ==== Sys2Proof/Machine/CardOps.lean ====
section
/-!
DEFINITION. Contact cards: activation, answer-to-reset, PPS, the T=1 blocks received, removal, and the Kolzel dialogue up
to identification (R553–R558, R572–R576).
-/
namespace Sys2Proof.Machine

/-! ## Supplies (R553, R557, R598) -/

/-- Units of the auxiliary ledger in use. -/
def Dev.auxUsed (d : Dev) : Nat := d.pwr.auxField + (d.per.slots.filter (fun e => e.2.powered)).length

/-- Units that are free. -/
def Dev.auxFree (d : Dev) : Nat := d.cfgN Od.pwr_AUX_LIMIT 0 - d.auxUsed

def vccName (x : Nat) : String := if x = 0 then "CRD0_VCC" else "CRD1_VCC"
def rstName (x : Nat) : String := if x = 0 then "CRD0_RST" else "CRD1_RST"
def clkName (x : Nat) : String := if x = 0 then "CRD0_CLK" else "CRD1_CLK"
def ioName (x : Nat) : String := if x = 0 then "CRD0_IO" else "CRD1_IO"

/-- A slot's supply comes on in its class; then the clock starts at 4 MHz, IO is released, and RST goes high (R553). -/
def Dev.slotOn (d : Dev) (x : Nat) : Dev :=
  (((d.emit (.line (vccName x) (d.cardSlot x).cls)).emit (.line (clkName x) 4000000)).emit (.line (ioName x) 1)).emit (.line (rstName x) 1)

/-- RST low, CLK stopped low, IO low, VCC off, in this order (R557). -/
def Dev.slotOff (d : Dev) (x : Nat) : Dev :=
  (((d.emit (.line (rstName x) 0)).emit (.line (clkName x) 0)).emit (.line (ioName x) 0)).emit (.line (vccName x) 0)

/-- Slots that wait for a unit of the auxiliary ledger take one each while any is free. -/
def Dev.powerSlots (d : Dev) : Dev :=
  [0, 1].foldl (fun y x =>
    let s := y.cardSlot x
    if s.state = .activating && !s.powered && 0 < y.auxFree then
      (y.onSlot x (fun s => { s with powered := true })).slotOn x
    else y) d

def Dev.rd (d : Dev) : Reader := d.ctl.rd

def Dev.onRd (d : Dev) (f : Reader → Reader) : Dev := { d with ctl.rd := f d.ctl.rd }

/-- Cards that the reader serves. -/
def Dev.activeCids (d : Dev) : List Nat := (d.rd.cids.filter (fun e => decide (e.2.state ≠ .free))).map (·.1)

/-- The field goes off and releases its grant. -/
def Dev.fieldOff (d : Dev) : Dev :=
  if d.rd.field then
    ((({ d with pwr.auxField := 0 }).onRd (fun r => { r with field := false, polling := false, detected := false })).emit (.line "RF_FIELD" 0)).powerSlots
  else d

/-- R557: deactivation: RST low, CLK low, IO low, VCC off. -/
def Dev.deactivate (d : Dev) (x : Nat) : Dev :=
  let s := d.cardSlot x
  let d1 := d.onSlot x (fun s => { s with powered := false, cls := 0, link := {} })
  (if s.powered then d1.slotOff x else d1).powerSlots

/-- The supply classes enabled, in the order C, B, A. -/
def Dev.classesOf (d : Dev) (x : Nat) : List Nat := [3, 2, 1].filter (fun c => bitOf (d.cfgN Od.crx_CLASSES x) (c - 1))

/-- The card is refused. -/
def Dev.refuseCard (d : Dev) (x : Nat) : Dev :=
  ((d.deactivate x).onSlot x (fun s => { s with state := .refused, dlg := {} })).raise 30 0x82 x

/-- Activate in a class. -/
def Dev.activateIn (d : Dev) (x c : Nat) : Dev :=
  ((d.deactivate x).onSlot x (fun s => { s with state := .activating, cls := c, tried := c :: s.tried })).powerSlots

/-- R553: activate in the next enabled class; with none left the card is refused. -/
def Dev.activate (d : Dev) (x : Nat) : Dev :=
  match (d.classesOf x).filter (fun c => !(d.cardSlot x).tried.contains c) with
  | c :: _ => d.activateIn x c
  | [] => d.refuseCard x

/-- CARD_DETECT. -/
def Dev.cardDetect (d : Dev) (x : Nat) : Dev :=
  if (d.cardSlot x).det then d
  else
    let d1 := (d.onSlot x (fun s => { s with det := true })).raise 30 0x80 x
    if d1.cfgB Od.crx_ENABLE x then d1.activate x else d1

/-- ENABLE of a slot is written: a card that is present is activated, or the session with it ends (R557; log entry 116). -/
def Dev.crdEnable (d : Dev) (x : Nat) : Dev :=
  let s := d.cardSlot x
  if d.cfgB Od.crx_ENABLE x then (if s.det && decide (s.state = .empty) then d.activate x else d)
  else if s.state = .empty then d
  else ((d.deactivate x).holderGone x (d.allSent x)).onSlot x (fun y => { det := y.det })

/-- CARD_REMOVED. -/
def Dev.cardRemoved (d : Dev) (x : Nat) : Dev :=
  if !(d.cardSlot x).det then d
  else
    let sent := d.allSent x
    let d1 := (d.deactivate x).holderGone x sent
    (d1.onSlot x (fun _ => {})).raise 30 0x81 x

/-- CARD_OVERCURRENT (R636, R647): the card is deactivated, and CARD_PROTOCOL raised. -/
def Dev.cardOvercurrent (d : Dev) (x : Nat) : Dev :=
  if !(d.cardSlot x).powered then d
  else
    let sent := d.allSent x
    (((d.deactivate x).holderGone x sent).onSlot x (fun s => { s with state := .refused })).raise 30 0x83 x

/-- R556: deactivation after block errors. -/
def Dev.protocolFail (d : Dev) (x : Nat) : Dev :=
  let sent := d.allSent x
  let d1 := ((d.deactivate x).holderGone x sent).onSlot x (fun s => { s with state := .refused })
  (d1.bump Od.crx_PROTOCOL_ERRORS x).raise 30 0x83 x

/-! ## The answer-to-reset (R553, R554) -/

/-- What an answer-to-reset gives. -/
structure Atr where
  ta1 : Nat := 0x11
  ta2 : Option Nat := none
  tc1 : Nat := 0
  ifsc : Option Nat := none
  tb : Option Nat := none
  edc : Option Nat := none
  classes : Option Nat := none
  protocols : List Nat := []
deriving DecidableEq, Repr

/-- Note an interface byte: its group, the protocol it is for, which of TA, TB, TC it is. -/
def Atr.note (a : Atr) (i t which v : Nat) : Atr :=
  match which with
  | 0 =>
    if i = 1 then { a with ta1 := v }
    else if i = 2 then { a with ta2 := some v }
    else if t = 1 then { a with ifsc := some (a.ifsc.getD v) }
    else if t = 15 then { a with classes := some (a.classes.getD v) }
    else a
  | 1 => if 2 < i && t = 1 then { a with tb := some (a.tb.getD v) } else a
  | _ =>
    if i = 1 then { a with tc1 := v }
    else if 2 < i && t = 1 then { a with edc := some (a.edc.getD v) }
    else a

/-- The interface bytes from group `i` on, with the presence bits of the group; then what is left. -/
def Atr.groups : Nat → Nat → Nat → Nat → Bytes → Atr → Option (Atr × Bytes)
  | 0, _, _, _, _, _ => none
  | fuel + 1, i, t, y, l, a =>
    let step (st : Option (Atr × Bytes)) (w : Nat) : Option (Atr × Bytes) :=
      match st with
      | none => none
      | some (a, l) => if bitOf y w then (match l with
          | b :: r => some (a.note i t w b.toNat, r)
          | [] => none) else some (a, l)
    match step (step (step (some (a, l)) 0) 1) 2 with
    | none => none
    | some (a1, l1) =>
      if bitOf y 3 then
        (match l1 with
          | b :: r => Atr.groups fuel (i + 1) (b.toNat % 16) (b.toNat / 16) r { a1 with protocols := a1.protocols ++ [b.toNat % 16] }
          | [] => none)
      else some (a1, l1)

/-- A well-formed answer-to-reset whose TCK checks. -/
def parseAtr (l : Bytes) : Option Atr :=
  match l with
  | ts :: t0 :: rest =>
    if ts ≠ 0x3B && ts ≠ 0x3F then none
    else match Atr.groups 33 1 0 (t0.toNat / 16) rest {} with
      | none => none
      | some (a, tail) =>
        let k := t0.toNat % 16
        let tck := a.protocols.any (fun t => t ≠ 0)
        if tail.length ≠ k + b2n tck then none
        else if tck && (l.drop 1).foldl (fun x b => x ^^^ b) 0 ≠ 0 then none
        else some a
  | _ => none

/-- The request of R555: it proposes TA1 where Di is at most 32 and Fi is known, and the defaults otherwise. -/
def ppsRequest (ta1 : Nat) : Bytes × Option (Nat × Nat × Nat) :=
  match fiOf (ta1 / 16), diOf (ta1 % 16) with
  | some (fi, f), some di =>
    if di ≤ 32 then
      let b : Bytes := [0xFF, 0x11, BitVec.ofNat 8 ta1]
      (b ++ [b.foldl (fun x y => x ^^^ y) 0], some (fi, di, f))
    else ([0xFF, 0x01, 0xFE], none)
  | _, _ => ([0xFF, 0x01, 0xFE], none)

/-- S(IFS request) with IFSD 254, the first block (R556). -/
def Dev.sendIfs (d : Dev) (x : Nat) : Dev :=
  (d.onSlot x (fun s => { s with state := .identifying, link.ifsPending := true, link.since := d.now })).sendBlock x 0xC1 [254]

/-- ATR_RECEIVE. -/
def Dev.atrReceive (d : Dev) (x : Nat) (atr : Option Bytes) : Dev :=
  let s := d.cardSlot x
  if s.state ≠ .activating || !s.powered then d
  else match atr.bind parseAtr with
    | none => d.refuseCard x
    | some a =>
      let excluded := match a.classes with
        | some m => !bitOf m (s.cls - 1)
        | none => false
      if !a.protocols.contains 1 then d.refuseCard x
      else if excluded then (d.deactivate x).activate x
      else
        let l : T1Link := { guardN := a.tc1, ifsc := a.ifsc.getD 32, bwi := (a.tb.getD 0x4D) / 16, cwi := (a.tb.getD 0x4D) % 16,
                            crc := bitOf (a.edc.getD 0) 0, ta1 := a.ta1 }
        match a.ta2 with
        | some v =>
          (match fiOf (a.ta1 / 16), diOf (a.ta1 % 16) with
            | some (fi, _), some di =>
              if v % 16 ≠ 1 || bitOf v 4 || 32 < di then d.refuseCard x
              else (d.onSlot x (fun s => { s with link := { l with fi := fi, di := di } })).sendIfs x
            | _, _ => d.refuseCard x)
        | none =>
          if s.ppsTried then (d.onSlot x (fun s => { s with link := l })).sendIfs x
          else (d.onSlot x (fun s => { s with state := .pps, link := { l with since := d.now } })).emit (.card x (ppsRequest a.ta1).1)

/-- ATR_TIMEOUT: a mute card: the next class. -/
def Dev.atrTimeout (d : Dev) (x : Nat) : Dev :=
  let s := d.cardSlot x
  if s.state ≠ .activating || !s.powered then d else (d.deactivate x).activate x

/-- PPS_ANSWER: none where the answer fails to come. -/
def Dev.ppsAnswer (d : Dev) (x : Nat) (ans : Option Bytes) : Dev :=
  let s := d.cardSlot x
  if s.state ≠ .pps then d
  else
    let (req, par) := ppsRequest s.link.ta1
    if ans = some req then
      let cap (f : Nat) : Nat := min (f * 500000) (d.cfgN Od.crx_CLK_MAX x)
      let l := s.link
      let l1 := match par with
        | some (fi, di, f) => { l with fi := fi, di := di, clk := cap f }
        | none => match fiOf (l.ta1 / 16) with
          | some (_, f) => { l with clk := cap f }
          | none => l
      ((d.onSlot x (fun s => { s with link := l1 })).emit (.line (clkName x) l1.clk)).sendIfs x
    else
      let c := s.cls
      ((d.bump Od.crx_PPS_FAILS x).onSlot x (fun s => { s with ppsTried := true })).activateIn x c

/-! ## Blocks received (R556) -/

/-- A bad block, or none in time: an R-block up to three times, then S(RESYNCH) once, then deactivation. -/
def Dev.blockError (d : Dev) (x code : Nat) : Dev :=
  let l := (d.cardSlot x).link
  if l.resyncing then d.protocolFail x
  else if l.errors < 3 then
    (d.onSlot x (fun s => { s with link.errors := l.errors + 1 })).sendBlock x (0x80 + 16 * b2n l.nr + code) []
  else if l.resynced then d.protocolFail x
  else (d.onSlot x (fun s => { s with link.resynced := true, link.resyncing := true })).sendBlock x 0xC0 []

/-- The block last sent is sent again. -/
def Dev.resendBlock (d : Dev) (x : Nat) : Dev :=
  let l := (d.cardSlot x).link
  if l.errors < 3 then
    let until_ := d.now + (l.last.length : Int) * l.char + l.bwt
    (d.onSlot x (fun s => { s with link.errors := l.errors + 1, link.deadline := until_ })).emit (.card x l.last)
  else d.blockError x 0

/-- A block whose check holds: PCB and INF. -/
def Dev.goodBlock (d : Dev) (x pcb : Nat) (inf : Bytes) : Dev :=
  let s := d.cardSlot x
  let l := s.link
  if pcb = 0xE0 then
    if l.resyncing then
      let d1 := d.onSlot x (fun s => { s with link.resyncing := false, link.errors := 0, link.ns := false, link.nr := false, link.left := l.cmd, link.recv := [] })
      if l.ifsPending then d1.sendBlock x 0xC1 [254] else d1.sendChunk x
    else d.blockError x 2
  else if l.resyncing then d.blockError x 2
  else if pcb = 0xE1 then
    if l.ifsPending && inf == [254] then
      (d.onSlot x (fun s => { s with link.ifsPending := false, link.errors := 0 })).kolzel x .select (kolzelApdu 0x00 0xA4 0x04 Config.kolzelAid)
    else d.blockError x 2
  else if pcb = 0xC1 then
    (match inf with
      | [n] => if 1 ≤ n.toNat ∧ n.toNat ≤ 254 then (d.onSlot x (fun s => { s with link.ifsc := n.toNat })).sendBlock x 0xE1 inf else d.blockError x 2
      | _ => d.blockError x 2)
  else if pcb = 0xC2 then
    (d.onSlot x (fun s => { s with link.left := [], link.recv := [], link.reply := some [] })).sendBlock x 0xE2 []
  else if pcb = 0xC3 then
    (match inf with
      | [n] =>
        if d.now - l.since + (n.toNat : Int) * l.bwt ≤ d.cfg Od.crx_WTX_MAX x then d.sendBlock x 0xE3 inf n.toNat else d
      | _ => d.blockError x 2)
  else if pcb < 0x80 then
    if l.left.isEmpty && !l.cmd.isEmpty && l.reply.isNone && bitOf pcb 6 == l.nr && decide (l.recv.length + inf.length ≤ 4096) then
      let d1 := d.onSlot x (fun s => { s with link.nr := (!l.nr), link.errors := 0, link.recv := l.recv ++ inf })
      if bitOf pcb 5 then d1.sendBlock x (0x80 + 16 * b2n (!l.nr)) []
      else d1.onSlot x (fun s => { s with link.reply := some (l.recv ++ inf), link.resynced := false })
    else d.blockError x 2
  else if pcb < 0xC0 then
    if bitOf pcb 4 == l.ns && !l.left.isEmpty then (d.onSlot x (fun s => { s with link.errors := 0 })).sendChunk x
    else d.resendBlock x
  else d.blockError x 2

/-- Whether a slot's link runs. -/
def CardSlot.linkUp (s : CardSlot) : Bool :=
  s.powered && (match s.state with
    | .identifying | .identified | .writing | .querying => true
    | _ => false)

/-- T1_BLOCK_RECEIVE: the characters of a block; none where one of them had a parity error or came late. -/
def Dev.t1Block (d : Dev) (x : Nat) (blk : Option Bytes) : Dev :=
  let s := d.cardSlot x
  if !s.linkUp then d
  else match blk with
    | none => d.blockError x 1
    | some b =>
      let n := 1 + b2n s.link.crc
      let len := beAt b 2 1
      if b.length ≠ 3 + len + n || len = 255 then d.blockError x 2
      else if b.drop (3 + len) ≠ s.link.edc (b.take (3 + len)) then d.blockError x 1
      else if beAt b 0 1 ≠ 0 then d.blockError x 2
      else d.goodBlock x (beAt b 1 1) (sliceB b 3 len)

/-- BWT_TIMEOUT. -/
def Dev.bwtTimeout (d : Dev) (x : Nat) : Dev :=
  let s := d.cardSlot x
  if !s.linkUp || s.link.reply.isSome || d.now < s.link.deadline then d else d.blockError x 2

/-! ## Kolzel identification (R558) -/

/-- A card fails SELECT, IDENTIFY or AUTHENTICATE: a slot's is deactivated and refused, a badge is deselected (R536). -/
def Dev.cardFails (d : Dev) (p : Nat) : Dev :=
  if p < 2 then d.refuseCard p
  else
    let d1 := ((d.onCid (p - 1) (fun _ => {})).emit (.card p [0xC2])).onRd (fun r => { r with tooMany := false })
    if d1.activeCids.isEmpty && !d1.rd.polling then d1.fieldOff else d1

/-- KOLZEL_SELECT. -/
def Dev.kolzelSelect (d : Dev) (p : Nat) (resp : Bytes) : Dev :=
  match d.response p resp with
  | none => d
  | some (_, sw) =>
    if (d.dlg p).step ≠ .select then d
    else if sw ≠ 0x9000 then d.cardFails p
    else d.kolzel p .identify (kolzelApdu 0x80 0x10 0 [])

/-- What IDENTIFY answers. -/
def parseIdentify (data : Bytes) (now : Ticks) : Option CardHolder :=
  let n := beAt data 16 1
  let role := beAt data (17 + n) 1
  if data.length < 18 + n || 64 < n || role < 2 || 4 < role then none
  else some { cardId := data.take 16, name := sliceB data 17 n, role := role, chain := data.drop (18 + n), at_ := now }

/-- KOLZEL_IDENTIFY: the challenge is drawn by resident firmware (log entry 60). -/
def Dev.kolzelIdentify (d : Dev) (p : Nat) (resp : Bytes) : Dev :=
  match d.response p resp with
  | none => d
  | some (data, sw) =>
    if (d.dlg p).step ≠ .identify then d
    else if sw ≠ 0x9000 then d.cardFails p
    else match parseIdentify data d.now with
      | none => d.cardFails p
      | some h =>
        let (c, d1) := d.drawFrom 0 32
        (d1.onDlg p (fun x => { x with found := some h, challenge := c })).kolzel p .authenticate
          (kolzelApdu 0x80 0x12 0 (c ++ padTo 16 (d.oct Od.idn_UNIT_ID 0)))

/-- KOLZEL_AUTHENTICATE: chain, revocation and signature are verified, each verdict twice (R517). -/
def Dev.kolzelAuthenticate (d : Dev) (p : Nat) (resp : Bytes) (agree : Bool) : Dev :=
  let x := d.dlg p
  match d.response p resp, x.found with
  | some (data, sw), some h =>
    if x.step ≠ .authenticate then d
    else
      let m := x.challenge ++ padTo 16 (d.oct Od.idn_UNIT_ID 0) ++ h.cardId
      let good := decide (sw = 0x9000) && decide (data.length = 64) && d.cardAdmitted h.chain && !d.cardRevoked h.cardId &&
        Config.pkVerify 20 (Config.chainKey h.chain) m data
      if !agree then (d.fault 0x007 0xFFFF none []).cardFails p
      else if !good then d.cardFails p
      else
        let h1 := { h with at_ := d.now }
        if p < 2 then
          ((d.slotState p .identified).onDlg p (fun y => { y with step := .idle, found := none, holder := some h1 })).identified p agree
        else d.onDlg p (fun y => { y with step := .idle, found := some h1, verified := true })
  | _, _ => d

end Sys2Proof.Machine
end

