-- ==== Sys2Proof/Machine/ReaderOps.lean ====
section
/-!
DEFINITION. The contactless reader: field, pings, baseline, polls with anticollision, presence, credentials (R528–R538,
R548–R552).
-/
namespace Sys2Proof.Machine

/-! ## The field (R528, R529) -/

/-- Whether the auxiliary ledger can make the grant of a field-on: card slots that wait come first (R598). -/
def Dev.fieldGrant (d : Dev) : Bool :=
  decide (d.cfgN Od.cls_FIELD_GRANT 0 ≤ d.auxFree) && !d.per.slots.any (fun e => decide (e.2.state = .activating) && !e.2.powered)

/-- R528: with the grant made, the device listens for an external field; where it finds none its own goes on. -/
def Dev.fieldOn (d : Dev) (ext : Bool) : Dev :=
  let d1 := d.onRd (fun r => { r with waiting := none })
  if ext then
    let d2 := (d1.onRd (fun r => { r with extField := true })).bump Od.cls_EXTERNAL_FIELDS 0
    if d.rd.extField then d2 else d2.raise 29 0x74 0
  else
    (({ d1 with pwr.auxField := d.cfgN Od.cls_FIELD_GRANT 0 }).onRd (fun r => { r with field := true, extField := false })).emit
      (.line "RF_FIELD" (d.cfgN Od.cls_FIELD_LEVEL 0 + 1))

/-! ## Pings and the baseline (R530–R532) -/

/-- The deviation of a measured value from the baseline in a unit, `unit` parts of the baseline's value. -/
def deviation (v base unit : Int) : Int := if base = 0 then 0 else (v * 65536 - base) * unit / base

/-- Start a full poll: the field stays on. -/
def Dev.startPoll (d : Dev) (detected : Bool) : Dev := d.onRd (fun r => { r with polling := true, detected := detected })

/-- R530: a ping measures the carrier. A detection leads to a full poll at once; any other ping feeds the filter and ends. -/
def Dev.measurePing (d : Dev) (ampl phase : Int) : Dev :=
  let r := d.rd
  let da := deviation ampl r.ampl 1000
  let dp := phase - r.phase / 65536
  let hit := decide (d.cfg Od.cls_DETECT_AMPL 0 < da.natAbs) || decide (d.cfg Od.cls_DETECT_PHASE 0 < dp.natAbs)
  let d1 := (d.bump Od.cls_PINGS 0).onRd (fun r => { r with amplDev := da, phaseDev := dp })
  if hit then (d1.bump Od.cls_DETECTIONS 0).startPoll true
  else (d1.onRd (fun r => { r with ampl := r.ampl + (ampl * 65536 - r.ampl) / 64, phase := r.phase + (phase * 65536 - r.phase) / 64 })).fieldOff

/-- A granted field-on does what it is for. -/
def Dev.useField (d : Dev) (u : FieldUse) (ext : Bool) (ampl phase : Int) : Dev :=
  let d1 := d.fieldOn ext
  if !d1.rd.field then d1
  else match u with
    | .ping => d1.measurePing ampl phase
    | .poll => d1.startPoll false

/-- A field-on is asked for; it waits where the grant cannot be made. -/
def Dev.askField (d : Dev) (u : FieldUse) (ext : Bool) (ampl phase : Int) : Dev :=
  if d.fieldGrant then d.useField u ext ampl phase else d.onRd (fun r => { r with waiting := some (u, d.now) })

/-- CLS_PING: a ping instant. Without a baseline a full poll runs instead. -/
def Dev.clsPing (d : Dev) (ext : Bool) (ampl phase : Int) : Dev :=
  let r := d.rd
  if !r.on || r.field || r.waiting.isSome then d
  else if r.valid then d.askField .ping ext ampl phase
  else d.askField .poll ext ampl phase

/-- RF_GRANT. -/
def Dev.rfGrant (d : Dev) (ext : Bool) (ampl phase : Int) : Dev :=
  match d.rd.waiting with
  | some (u, _) => if d.rd.on && d.fieldGrant then d.useField u ext ampl phase else d
  | none => d

/-- RF_STARVED. -/
def Dev.rfStarved (d : Dev) : Dev :=
  match d.rd.waiting with
  | some (_, t) =>
    if t + d.cfg Od.cls_RF_WAIT_MAX 0 ≤ d.now then (d.onRd (fun r => { r with waiting := none })).raise 29 0x75 0 else d
  | none => d

/-- R531: the baseline starts again. -/
def Reader.noBaseline (r : Reader) : Reader := { r with pings := 0, valid := false, sumAmpl := 0, sumPhase := 0, falseRow := 0 }

/-- R531: a poll that found no card is one baseline ping; the sixteenth completes the baseline. -/
def Dev.baselinePing (d : Dev) (ampl phase : Int) : Dev :=
  let r := d.rd
  let n := r.pings + 1
  let sa := r.sumAmpl + ampl
  let sp := r.sumPhase + phase
  if n < 16 then d.onRd (fun r => { r with pings := n, sumAmpl := sa, sumPhase := sp })
  else
    (d.onRd (fun r => { r with pings := 16, valid := true, sumAmpl := 0, sumPhase := 0, ampl := sa * 65536 / 16, phase := sp * 65536 / 16, falseRow := 0 })).raise
      29 0x73 0

/-! ## Anticollision (R533) -/

/-- The bits of a byte string as they go over the air. -/
def airBits (l : Bytes) : List Bool := l.flatMap (fun b => (List.range 8).map (fun i => b.getLsbD i))

/-- The 40 bits with which a card answers at a cascade level: UID part and BCC. -/
def levelBits (uid : Bytes) (level : Nat) : List Bool :=
  let part : Bytes :=
    if uid.length ≤ 4 then uid
    else if uid.length ≤ 7 then (if level = 0 then 0x88 :: uid.take 3 else uid.drop 3)
    else if level = 0 then 0x88 :: uid.take 3
    else if level = 1 then 0x88 :: sliceB uid 3 3
    else uid.drop 6
  airBits (part ++ [part.foldl (fun a b => a ^^^ b) 0])

/-- Cascade levels of a UID. -/
def levelsOf (uid : Bytes) : Nat := if uid.length ≤ 4 then 1 else if uid.length ≤ 7 then 2 else 3

/-- The bytes that a string of bits fills, the last of them with zeros after its bits. -/
def airBytes : Nat → List Bool → Bytes
  | 0, _ => []
  | n + 1, l => BitVec.ofNat 8 ((List.range 8).foldl (fun a i => a + b2n (l.getD i false) * 2 ^ i) 0) :: airBytes n (l.drop 8)

/-- SEL of a cascade level. -/
def selOf (level : Nat) : Byte := BitVec.ofNat 8 (0x93 + 2 * level)

/-- An anticollision command that gives the first bits of a level. -/
def anticollFrame (level : Nat) (known : List Bool) : Bytes :=
  let n := known.length
  [selOf level, BitVec.ofNat 8 ((2 + n / 8) * 16 + n % 8)] ++ airBytes ((n + 7) / 8) known

/-- A frame with CRC_A. -/
def framedA (b : Bytes) : Bytes := b ++ toLe 2 (crcA b).toNat

/-- One level: from bit `k` on, at each collided bit follow the branch; answers the cards left and the commands that name
the bits known after each collision. -/
def anticollBits (first : Bool) (level : Nat) : Nat → Nat → List FieldCard → List FieldCard × List Bytes
  | 0, _, l => (l, [])
  | fuel + 1, k, l =>
    let bits (c : FieldCard) : List Bool := levelBits c.uid level
    let bit (c : FieldCard) : Bool := (bits c).getD k false
    let ones := l.filter bit
    let zeros := l.filter (fun c => !bit c)
    if ones.isEmpty || zeros.isEmpty then anticollBits first level fuel (k + 1) l
    else
      let m := if first then ones else zeros
      let (r, fs) := anticollBits first level fuel (k + 1) m
      (r, (m.take 1).map (fun c => anticollFrame level ((bits c).take (k + 1))) ++ fs)

/-- The levels of one anticollision round: the card selected, the collisions counted, and the commands sent. -/
def anticollLevels (first : Bool) : Nat → Nat → List FieldCard → Option FieldCard × Nat × List Bytes
  | 0, _, l => (l.head?, 0, [])
  | fuel + 1, level, l =>
    let (m, fs) := anticollBits first level 40 0 l
    match m with
    | [] => (none, fs.length, anticollFrame level [] :: fs)
    | c :: _ =>
      let sent := anticollFrame level [] :: fs ++ [framedA ([selOf level, 0x70] ++ airBytes 5 (levelBits c.uid level))]
      if levelsOf c.uid ≤ level + 1 then (some c, fs.length, sent)
      else
        let (r, k, gs) := anticollLevels first fuel (level + 1) m
        (r, fs.length + k, sent ++ gs)

/-- COLLISIONS (R533, R534). -/
def Dev.collide (d : Dev) (n : Nat) : Dev :=
  (List.range n).foldl (fun y _ => y.fault 0x02D 0 none []) (d.bump Od.cls_COLLISIONS 0 n)

/-! ## Polls (R533–R536) -/

/-- Frames that the reader sends to cards that have no CID yet. -/
def Dev.toField (d : Dev) (fs : List Bytes) : Dev := fs.foldl (fun y f => y.emit (.card 6 f)) d

/-- The lowest free CID. -/
def Dev.freeCid (d : Dev) : Option Nat := [1, 2, 3, 4].find? (fun c => decide ((d.cid c).state = .free))

/-- A selected card is taken: RATS (FSD 256), a CID, a rate, and the Kolzel dialogue begins. One that refuses CIDs, or that stands beside
one, is not taken. The frames of Type B, and those in which commands travel to a card, are not put together (log entry 171). -/
def Dev.takeCard (d : Dev) (c : FieldCard) : Dev :=
  let others := d.activeCids
  if (c.noCid && !others.isEmpty) || others.any (fun k => (d.cid k).noCid) then d
  else match d.freeCid with
    | none => d
    | some k =>
      let x : CidSlot := { state := .identifying, type := if c.typeB then 2 else 1, uid := c.uid, rate := min c.rate (d.cfgN Od.cls_RATE_MAX 0), noCid := c.noCid }
      ((d.toField (if c.typeB then [] else [framedA [0xE0, BitVec.ofNat 8 (0x80 + k)]])).onCid k (fun _ => x)).kolzel (k + 1) .select (kolzelApdu 0x00 0xA4 0x04 Config.kolzelAid)

/-- Type A: rounds of REQA until no card answers or four are active. -/
def Dev.pollA : Nat → List FieldCard → Dev → Dev
  | 0, _, d => d
  | fuel + 1, l, d =>
    if l.isEmpty || 4 ≤ d.activeCids.length then d
    else
      let (c, n, sent) := anticollLevels (d.cfg Od.cls_ANTICOLL_FIRST 0 = 1) 3 0 l
      let d1 := (d.toField sent).collide n
      match c with
      | none => d1
      | some c =>
        let d2 := if c.isoDep then d1.takeCard c else (d1.bump Od.cls_NOT_ISO_DEP 0).toField [framedA [0x50, 0x00]]
        Dev.pollA fuel (l.filter (fun x => x.uid ≠ c.uid)) (if d2.activeCids.length < 4 then d2.toField [[0x26]] else d2)

/-- CLS_POLL: what is in the field, the answers that were unreadable, whether any is left after N = 16 slots, and the
carrier measured. -/
def Dev.clsPoll (d : Dev) (cards : List FieldCard) (unread : Nat) (stuck : Bool) (ampl phase : Int) : Dev :=
  let types := d.cfgN Od.cls_TYPES 0
  if !d.rd.on || !d.rd.field then d
  else
    let busy := !d.activeCids.isEmpty
    let r := d.rd
    let fresh := cards.filter (fun c => !d.rd.cids.any (fun e => decide (e.2.state ≠ .free) && e.2.uid == c.uid))
    let a := if bitOf types 0 then fresh.filter (fun c => !c.typeB) else []
    let b := if bitOf types 1 && !stuck then fresh.filter (fun c => c.typeB) else []
    let d0 := if bitOf types 0 && d.activeCids.length < 4 then d.toField [[0x26]] else d
    let d1 := Dev.pollA (a.length + 1) a (d0.collide unread)
    let d2 := b.foldl (fun y c => if 4 ≤ y.activeCids.length then y else y.takeCard c) d1
    let d3 := d2.onRd (fun r => { r with polling := false, detected := false, tooMany := decide (4 ≤ d2.activeCids.length) })
    let found := !(a.isEmpty && b.isEmpty) || 0 < unread
    if busy then d3
    else if found then (if d3.activeCids.isEmpty then d3.fieldOff else d3).onRd (fun r => { r with falseRow := 0 })
    else if !r.valid then ((d3.bump Od.cls_PINGS 0).baselinePing ampl phase).fieldOff
    else if r.detected then
      (if 8 ≤ r.falseRow + 1 then (d3.onRd Reader.noBaseline).bump Od.cls_FALSE_DETECTIONS 0
        else d3.onRd (fun r => { r with falseRow := r.falseRow + 1 })).fieldOff
    else d3.fieldOff

/-! ## Credentials (R536–R538) -/

/-- A badge is no longer served: its permits and writes end, and the refusal of several badges may lift. -/
def Dev.cidGone (d : Dev) (c : Nat) (sent agree : Bool) : Dev :=
  let was := decide ((d.cid c).state = .credential)
  let d1 := (d.holderGone (c + 1) sent).onCid c (fun _ => {})
  let d2 := if was then d1.raise 29 0x71 c else d1
  let d3 := d2.onRd (fun r => { r with tooMany := false })
  let d4 := if was && decide (d3.credentials = 1) then d3.autoGrants (fun _ => true) (fun p => decide (2 ≤ p ∧ p < 6)) agree else d3
  if d4.activeCids.isEmpty && !d4.rd.polling then d4.fieldOff else d4

/-- CARD_ARRIVED: a badge whose AUTHENTICATE has been verified becomes a credential. -/
def Dev.cardArrived (d : Dev) (c : Nat) (agree : Bool) : Dev :=
  let x := d.cid c
  match x.dlg.found with
  | some h =>
    if !x.dlg.verified then d
    else
      let d1 := d.onCid c (fun y => { y with state := .credential, missed := 0, dlg := { step := .idle, holder := some h } })
      let d2 := d1.raise 29 0x70 c [(leNat h.cardId : Int)]
      let d3 := if d2.credentials = 2 then d2.raise 29 0x72 0 else d2
      d3.identified (c + 1) agree
  | none => d

/-- PRESENCE_CHECK: a badge answers R(NAK), or does not; the second failure in a row ends it. -/
def Dev.presenceCheck (d : Dev) (c : Nat) (answered agree : Bool) : Dev :=
  let x := d.cid c
  if x.state ≠ .credential || x.dlg.step ≠ .idle then d
  else if answered then d.onCid c (fun y => { y with missed := 0 })
  else if x.missed = 0 then d.onCid c (fun y => { y with missed := 1 })
  else d.cidGone c false agree

/-- FWT_TIMEOUT: a block is sent again up to three times, then the badge is deemed gone; `sent` says whether the final block
of the command had been sent. -/
def Dev.fwtTimeout (d : Dev) (c : Nat) (sent agree : Bool) : Dev :=
  let x := d.cid c
  if x.state = .free || x.dlg.step = .idle then d
  else if x.retries < 3 then (d.onCid c (fun y => { y with retries := x.retries + 1 })).emit (.card (c + 1) x.last)
  else d.cidGone c sent agree

/-- The deselection of every badge; one with a Kolzel write under way stays until the write ends (R538). -/
def Dev.deselectAll (d : Dev) : Dev :=
  d.activeCids.foldl (fun y c =>
    if (y.cid c).dlg.step = .grant then y.onCid c (fun x => { x with state := .deselecting })
    else (y.cidGone c false true).emit (.card (c + 1) [0xC2])) d

/-- CLS_ENABLE. -/
def Dev.clsEnable (d : Dev) (on : Bool) : Dev :=
  let d1 := d.set Od.cls_ENABLE 0 (b2i on)
  if on then
    if d.rd.on then d1 else d1.onRd (fun r => ({ r with on := true, waiting := none }).noBaseline)
  else
    let d2 := d1.deselectAll.onRd (fun r => ({ r with on := false, waiting := none, polling := false, detected := false }).noBaseline)
    if d2.activeCids.isEmpty then d2.fieldOff else d2

/-- A badge that was to be deselected goes when its write has ended (R538). -/
def Dev.readerSettle (d : Dev) : Dev :=
  d.activeCids.foldl (fun y c =>
    if decide ((y.cid c).state = .deselecting) && decide ((y.cid c).dlg.step ≠ .grant) then (y.cidGone c false true).emit (.card (c + 1) [0xC2]) else y) d

/-- The field is cut off (R540): exchanges end as a field loss. -/
def Dev.fieldCut (d : Dev) (sent : Bool) : Dev :=
  ((d.activeCids.foldl (fun y c => y.cidGone c sent true) d).fieldOff).onRd (fun r => { r with waiting := none })

/-! ## Registers (R548–R550) -/

/-- STATE of CLS_STATUS. -/
def Dev.clsState (d : Dev) : Nat :=
  let r := d.rd
  if !r.on then 0
  else if !d.activeCids.isEmpty then 4
  else if !r.valid then 1
  else if r.polling then 3
  else 2

def Dev.clsStatus (d : Dev) : Nat :=
  d.clsState + 8 * b2n d.rd.field + 16 * d.credentials + 128 * b2n (decide (1 < d.credentials)) + 256 * b2n d.rd.tooMany + 512 * b2n d.rd.extField

def Dev.clsLastPing (d : Dev) : Nat := patternOf 16 d.rd.amplDev + 65536 * patternOf 16 d.rd.phaseDev

def Dev.clsBaseline (d : Dev) : Nat := d.rd.pings + 32 * b2n d.rd.valid

end Sys2Proof.Machine
end

