-- ==== Sys2Proof/Machine/TagOps.lean ====
section
/-!
DEFINITION. Tag mode: activation, the commands over the air, the pages and their markers, VHARV (R539–R547).
-/
namespace Sys2Proof.Machine

def Dev.tag (d : Dev) : TagLogic := d.ctl.tag

def Dev.onTag (d : Dev) (f : TagLogic → TagLogic) : Dev := { d with ctl.tag := f d.ctl.tag }

/-- R539: tag mode. -/
def Dev.tagMode (d : Dev) : Bool :=
  d.tag.enable && (match d.sys.phase with
    | .off | .inReset => true
    | _ => false)

/-! ## Pages (R543) -/

/-- R543: the sixteen bytes of a marker. One that is half written is left to the free value (log entry 67). -/
def TagSlot.marker (x : TagSlot) (broken : Bytes) : Bytes :=
  match x.mark with
  | .erased => List.replicate 16 0xFF
  | .broken => broken
  | m =>
    let b := toLe 4 (if m = .committed then 0x5AA5C33C else 0) ++ toLe 2 x.wsn ++ x.mac
    if m = .committed then b ++ toLe 2 (crc16 b).toNat
    else b ++ toLe 2 (crc16 (toLe 4 0x5AA5C33C ++ toLe 2 x.wsn ++ x.mac)).toNat

def Dev.tagSlot (d : Dev) (p s : Nat) : TagSlot := d.tag.slots.get {} (2 * p + s)

/-- Serial comparison modulo 2^16: `a` is later than `b`. -/
def wsnAfter (a b : Nat) : Bool := let k := (a + 65536 - b) % 65536; decide (0 < k ∧ k < 32768)

/-- The slot that holds a page's content. -/
def Dev.tagValid (d : Dev) (p : Nat) : Option Nat :=
  let v (s : Nat) : Bool := decide ((d.tagSlot p s).mark = .committed)
  match v 0, v 1 with
  | true, true => some (if wsnAfter (d.tagSlot p 1).wsn (d.tagSlot p 0).wsn then 1 else 0)
  | true, false => some 0
  | false, true => some 1
  | false, false => none

/-- A page's content and WSN; a page that nothing has written is zeros. -/
def Dev.tagPage (d : Dev) (p : Nat) : Bytes × Nat :=
  match d.tagValid p with
  | some s => ((d.tagSlot p s).data, (d.tagSlot p s).wsn)
  | none => (List.replicate 64 0, 0)

def Dev.putTagSlot (d : Dev) (p s : Nat) (x : TagSlot) : Dev := d.onTag (fun g => { g with slots := g.slots.put {} (2 * p + s) x })

/-- R543: at power-up a second valid slot is retired. -/
def Dev.tagRetire (d : Dev) (p : Nat) : Dev :=
  match d.tagValid p with
  | some s =>
    let o := d.tagSlot p (1 - s)
    if o.mark = .committed then d.putTagSlot p (1 - s) { o with mark := .retired } else d
  | none => d

/-- Steps 3, 4 and 6 of R544: the other slot is written, its marker, and the old slot retired. -/
def Dev.tagCommit (d : Dev) (p wsn : Nat) (mac data : Bytes) : Dev :=
  let s := match d.tagValid p with
    | some 0 => 1
    | _ => 0
  let d1 := d.putTagSlot p s { mark := .committed, wsn := wsn, mac := mac, data := data }
  let o := d1.tagSlot p (1 - s)
  if o.mark = .committed then d1.putTagSlot p (1 - s) { o with mark := .retired } else d1

/-- TAG_PAGE: a host write (R546). -/
def Dev.tagPageWrite (d : Dev) (p : Nat) (data : Bytes) : Nat × Dev :=
  if data.length ≠ 64 then (7, d) else (0, d.tagCommit p (((d.tagPage p).2 + 1) % 65536) (List.replicate 8 0) data)

/-! ## VHARV (R547) -/

/-- VHARV follows what it may. -/
def Dev.setVharv (d : Dev) (on : Bool) : Dev :=
  if d.tag.vharv = on then d else (d.onTag (fun g => { g with vharv := on })).emit (.line "VHARV" (if on then d.tag.level else 0))

/-- VHARV_RECOVER: the reservoir has recovered while the tag is in a field. -/
def Dev.vharvRecover (d : Dev) : Dev :=
  if d.tagMode && d.tag.active && d.tag.low then (d.onTag (fun g => { g with low := false })).setVharv (d.tag.level ≠ 0) else d

/-! ## Commands over the air (R541, R544, R545) -/

/-- TAG_ACTIVATION: ATQA 0x0044, the UID, SAK 0x20 and the ATS. The sizes and waiting time of R541 are those of the ATS bytes
TL, T0 with FSCI 7, TA1, TB1 with FWI 6, TC1 (log entry 61). -/
def Dev.tagActivation (d : Dev) : Dev :=
  if !d.tagMode then d
  else
    let uid : Bytes := BitVec.ofNat 8 Config.tagMaker :: sliceB (d.oct Od.idn_DIE_ID 0) 10 6
    ((d.onTag (fun g => { g with active := true, low := false })).setVharv (d.tag.level ≠ 0)).emit
      (.tag ([0x44, 0x00] ++ uid ++ [0x20] ++ [0x05, 0x77, 0x80, 0x60, 0x00]))

/-- PAGE_CFG of a page's group. -/
def TagLogic.groupCfg (g : TagLogic) (p : Nat) : Nat := beAt g.cfg (p / 8) 1

/-- TAG_GET_INFO, and a block whose command is unknown or whose length is wrong. -/
def Dev.tagGetInfo (d : Dev) (inf : Bytes) : Dev :=
  if !(d.tagMode && d.tag.active) then d
  else if inf == [0x01] then d.emit (.tag (0x00 :: d.tag.info))
  else d.emit (.tag [0x15])

/-- TAG_READ of one or two pages: its fields. -/
def Dev.tagRead (d : Dev) (fields : Bytes) : Dev :=
  let p := beAt fields 0 1
  let n := beAt fields 1 1
  if !(d.tagMode && d.tag.active) then d
  else if fields.length ≠ 2 then d.emit (.tag [0x15])
  else if n = 0 || 2 < n || 128 < p + n then d.emit (.tag [0x13])
  else if !(List.range n).all (fun k => bitOf (d.tag.groupCfg (p + k)) 0) then d.emit (.tag [0x14])
  else d.emit (.tag (0x00 :: (List.range n).flatMap (fun k => (d.tagPage (p + k)).1)))

/-- What the checks of a WRITE answer: a status, or none for a new write that reaches the energy check. -/
def Dev.tagWriteCheck (d : Dev) (p wsn : Nat) (data mac : Bytes) : Option Nat :=
  let g := d.tag
  let good := mac == (cmac (roundKeys g.key) (padTo 16 (d.oct Od.idn_DIE_ID 0) ++ toBe 1 p ++ toBe 2 wsn ++ data)).take 8
  let w := (d.tagPage p).2
  if data.length ≠ 64 || mac.length ≠ 8 then some 0x15
  else if 128 ≤ p then some 0x13
  else if bitsOf (g.groupCfg p) 2 1 ≠ 1 then some 0x14
  else if allZero g.key || !good then some 0x11
  else if wsn = (w + 1) % 65536 then none
  else match d.tagValid p with
    | some s => if wsn = w && mac == (d.tagSlot p s).mac then some 0x00 else some 0x12
    | none => some 0x12

/-- TAG_WRITE, with the field held to its end. -/
def Dev.tagWrite (d : Dev) (p wsn : Nat) (data mac : Bytes) (energy : Bool) : Dev :=
  if !(d.tagMode && d.tag.active) then d
  else match d.tagWriteCheck p wsn data mac with
    | some st => d.emit (.tag [BitVec.ofNat 8 st])
    | none =>
      if !energy then ((d.onTag (fun g => { g with low := true })).setVharv false).emit (.tag [0x10])
      else
        let d1 := ((d.setVharv false).tagCommit p wsn mac data).emit (.tag [0x00])
        (d1.onTag (fun g => { g with changed := if p ∈ g.changed then g.changed else p :: g.changed })).setVharv (d.tag.level ≠ 0 && !d.tag.low)

/-- TAG_FIELD_LOSS: the field collapses, during a WRITE or outside one. -/
def Dev.tagFieldLoss (d : Dev) (w : Option (Nat × Nat × Bytes × Bytes × TagCut)) : Dev :=
  if !d.tagMode then d
  else
    let off (y : Dev) : Dev := (y.setVharv false).onTag (fun g => { g with active := false, low := false })
    match w with
    | none => off d
    | some (p, wsn, data, mac, cut) =>
      if !d.tag.active || (d.tagWriteCheck p wsn data mac).isSome then off d
      else
        let s := match d.tagValid p with
          | some 0 => 1
          | _ => 0
        let new (y : Dev) : Dev := y.onTag (fun g => { g with changed := if p ∈ g.changed then g.changed else p :: g.changed })
        match cut with
        | .beforeStep2 => off d
        | .step3 => off (d.putTagSlot p s {})
        | .step4 => off (d.putTagSlot p s { mark := .broken })
        | .step5 => off (new (d.putTagSlot p s { mark := .committed, wsn := wsn, mac := mac, data := data }))
        | .step6 => off ((new (d.putTagSlot p s { mark := .committed, wsn := wsn, mac := mac, data := data })).emit (.tag [0x00]))

/-! ## What the running device keeps there (R542, R546, R551) -/

/-- The INFO block but for the instant of its update. -/
def Dev.infoHead (d : Dev) : Bytes :=
  ascii "TQVT" ++ [1, BitVec.ofNat 8 d.cry.lcy.state.code, 0, 0] ++ padTo 16 (d.oct Od.idn_DIE_ID 0) ++ padTo 16 (d.oct Od.idn_UNIT_ID 0) ++
    toLe 4 (if d.sys.runSlot = 0 then d.sys.slotA.version else d.sys.slotB.version) ++ padTo 4 d.chartDigest

/-- Copies of the objects that govern tag mode, and the INFO block where its content has changed. -/
def Dev.tagSync (d : Dev) (start : Bool) : Dev :=
  let d1 := d.onTag (fun g => { g with enable := d.cfgB Od.tag_TAG_ENABLE 0, level := d.cfgN Od.tag_VHARV_LEVEL 0, cfg := d.oct Od.tag_PAGE_CFG 0 })
  let h := d1.infoHead
  if start || d1.tag.info.take 48 ≠ h then d1.onTag (fun g => { g with info := h ++ timeLe d.now ++ [0, 0, 0, 0] }) else d1

/-- A start (R540, R543, R546): second valid slots retire, and the pages changed since the last run are counted. -/
def Dev.tagStart (d : Dev) : Dev :=
  let d1 := (List.range 128).foldl Dev.tagRetire (d.setVharv false)
  let n := d1.tag.changed.length
  let d2 := ((d1.onTag (fun g => { g with active := false, low := false, changed := [] })).set Od.tag_OFFLINE_WRITES 0 n).tagSync true
  if n = 0 then d2 else d2.raise 29 0x76 0 [(n : Int)]

end Sys2Proof.Machine
end

