-- ==== Sys2Proof/Machine/Severity.lean ====
section
/-!
DEFINITION. What follows every command: the severities of the faults it raised take effect (R503–R514), and closings and
waits that can now end do.
-/
namespace Sys2Proof.Machine

/-- R514: chip safe state stands over every domain reset, and CHIP over every other domain. -/
def Dev.overruled (d : Dev) (l : List FaultAct) (a : FaultAct) : Bool :=
  match a with
  | .resetDomain src _ =>
    d.flt.chipSafe || FaultAct.chipSafe ∈ l ||
      (domainOfSource src != .chip && l.any (fun x => match x with
        | .resetDomain s _ => domainOfSource s == .chip
        | _ => false))
  | .hold => FaultAct.safe ∈ l || FaultAct.chipSafe ∈ l
  | .erase full => !full && FaultAct.erase true ∈ l
  | _ => false

/-- Carry out one action. -/
def Dev.carryOut (d : Dev) (a : FaultAct) : Dev :=
  match a with
  | .retire src inst => d.retireUnit src inst
  | .pier p cause => d.pierRetire p cause [] d.now
  | .hold => d.holdOutputs
  | .safe => d.safeOutputs
  | .resetDomain src inst => d.resetDomain src inst
  | .chipSafe => d.enterChipSafe
  | .erase full => d.eraseKeys full

/-- R511: handling ends at once for retirements, hold and safe outputs, and for a domain reset when the domain is back in
service. -/
def Dev.endHandling (d : Dev) : Dev :=
  d.handledAll (fun src sev inst =>
    sev ≤ 4 || (sev == 5 && (match domainOfSource src with
      | .lane | .bearing | .purser => true
      | .ferryPort => 8 ≤ inst || (d.fport inst).state == .up || (d.fport inst).state == .off
      | .port => 32 ≤ inst || (d.port inst).link
      | .host => d.hif.linkUp && d.hif.ready
      | .chip => false)))

/-- Carry out the actions noted, and those that they give rise to. -/
def Dev.actFuel : Nat → Dev → Dev
  | 0, d => d
  | k + 1, d =>
    match d.flt.todo with
    | [] => d
    | l =>
      let d1 := d.onFlt (fun f => { f with todo := [] })
      Dev.actFuel k (((l.filter (fun a => !d.overruled l a)).foldl Dev.carryOut d1).endHandling)

/-- The always-on block's copies and INFO block follow what governs them while the device runs (R542, R551). -/
def Dev.upkeep (d : Dev) : Dev :=
  match d.sys.phase with
  | .starting | .running => d.tagSync false
  | _ => d

/-- R618: the unit that holds the claim accepts once its start is complete; the accept gate and RESTORE_HOLD refuse under
reasons of their own. -/
def Dev.noteAccepting (d : Dev) : Dev :=
  let ok := decide (d.sys.phase = .running) && (match d.fry.twin.role with
    | .alone | .activeSingle | .active => true
    | _ => false)
  d.onMan (fun m => { m with accepting := ok })

/-- A SHUTDOWN that waited for a handover takes effect once the unit has yielded, or its yield has failed (R146, R239). -/
def Dev.shutdownDue (d : Dev) : Dev :=
  if d.man.shutdown && (decide (d.fry.twin.role ≠ .active) || (d.fry.twin.yieldAt.isNone && !d.fry.twin.yieldAsked)) then
    (d.onMan (fun m => { m with shutdown := false })).powerFail
  else d

/-- Sessions that are closing and lanes that are stopping end when nothing of theirs is left; a waiting lane wakes; a replica
measurement that an edge overtakes is abandoned (R92). -/
def Dev.closeUp (d : Dev) : Dev :=
  let d1 := (d.net.sessions.filter (fun e => e.2.ending)).foldl (fun y e => y.closeDone e.1) d
  let d2 := (d1.lan.filter (fun e => decide (e.2.state = .disabling))).foldl (fun y e => y.laneStop e.1) d1
  d2.wakeLanes.readerSettle.anchorCheck.endRequesters.upkeep.yieldGo.noteAccepting.shutdownDue.abandonRecals

/-- What follows a command. Each pass of actions can retire a pier, reset a domain or escalate; the chip runs out of them
within a few passes, and actions still noted after 64 passes wait for the next command. -/
def Dev.settle (d : Dev) : Dev := (Dev.actFuel 64 d.codeCheck).endHandling.closeUp

end Sys2Proof.Machine
end

