-- ==== Sys2Proof/Machine/State.lean ====
section
/-!
DEFINITION. The machine's state, the reasons a command can stop, and the state after reset.
-/
namespace Sys2Proof.Machine

/-- Why a command faults. No command of this block does: the spec describes what every one of them answers. -/
inductive Fault where
deriving DecidableEq, Repr

/-- Why a command is refused. -/
inductive Refusal where
  /-- raised by the arm of a command whose meaning is not modelled; safe: the machine stops -/
  | notModelled (mnemonic : String)
deriving DecidableEq, Repr

/-- The block: the device, its memories, and the commands that wait, first in, first out. -/
structure State where
  dev : Dev := {}
  /-- every on-chip memory byte, by system address; an unlisted byte reads as 0 (log entry 3) -/
  mem : Tab Byte := []
  pending : List Instr := []
deriving DecidableEq, Repr

/-- The state right after power-on reset. -/
def State.reset : State := {}

end Sys2Proof.Machine
end

