-- ==== Sys2Proof/Machine/Run.lean ====
section
/-!
DEFINITION. How a command's effect on the device becomes the next state.
-/
namespace Sys2Proof.Machine

/-- The device answers ordinary commands: it is powered, out of reset and not saving (R140, R616, R617). -/
def Dev.acts (d : Dev) : Bool :=
  (match d.sys.phase with
    | .starting | .running => true
    | _ => false) && !d.man.saving && !d.man.parked

/-- As `Dev.acts`, or the device runs recovery or minimal firmware (R481, R621). -/
def Dev.boots (d : Dev) : Bool :=
  d.acts || (match d.sys.phase with
    | .recovery | .minimal => true
    | _ => false)

/-- A device after a command: its memory writes go to memory. -/
def State.withDev (s : State) (d : Dev) : State :=
  { s with dev := { d with bufOut := [] }, mem := memWriteAll s.mem d.bufOut }

/-- A command that reaches the device at a chip time: its effect, then what follows from it. A device that does not answer
ordinary commands keeps its state but for chip time. -/
def State.run (s : State) (t : Ticks) (f : Dev → Dev) : Host.Outcome State Fault Refusal :=
  .next (if s.dev.acts then s.withDev (f (s.dev.at_ t)).settle else { s with dev := s.dev.at_ t })

/-- A write of an object that the device answers with STATE in chip safe state (R508). -/
def State.write (s : State) (t : Ticks) (f : Dev → Dev) : Host.Outcome State Fault Refusal :=
  s.run t (fun d => if d.flt.chipSafe then d.emit (.writeStatus 9) else f d)

/-- A write of an object that is not VOL, or of an action object: a unit of a twin that does not hold the claim answers
STANDBY (R260). -/
def State.action (s : State) (t : Ticks) (f : Dev → Dev) : Host.Outcome State Fault Refusal :=
  s.write t (fun d => if d.isStandby then d.emit (.writeStatus 15) else f d)

/-- Work that stops in chip safe state (R508). -/
def State.work (s : State) (t : Ticks) (f : Dev → Dev) : Host.Outcome State Fault Refusal :=
  s.run t (fun d => if d.flt.chipSafe then d else f d)

/-- What reaches the tag logic: it works while the device does not run (R539). -/
def State.tagRun (s : State) (t : Ticks) (f : Dev → Dev) : Host.Outcome State Fault Refusal :=
  .next { s with dev := f (s.dev.at_ t) }

/-- A command that recovery and minimal firmware answer too. -/
def State.boot (s : State) (t : Ticks) (f : Dev → Dev) : Host.Outcome State Fault Refusal :=
  .next (if s.dev.boots then s.withDev (f (s.dev.at_ t)).settle else { s with dev := s.dev.at_ t })

/-- An object write that minimal firmware answers, and that recovery and chip safe state answer with STATE (R508, R621). -/
def State.bootWrite (s : State) (t : Ticks) (f : Dev → Dev) : Host.Outcome State Fault Refusal :=
  s.boot t (fun d => if d.flt.chipSafe || decide (d.sys.phase = .recovery) then d.emit (.writeStatus 9) else f d)

/-- What the always-on block sees in every state in which it is powered (R515, R516). -/
def State.watch (s : State) (t : Ticks) (f : Dev → Dev) : Host.Outcome State Fault Refusal :=
  .next (if s.dev.sys.phase = .off then { s with dev := s.dev.at_ t } else s.withDev (f (s.dev.at_ t)).settle)

/-- A TAP instruction: boundary scan works in every state in which the device is powered (R495). -/
def State.tap (s : State) (t : Ticks) (f : Dev → Dev) : Host.Outcome State Fault Refusal :=
  .next (if s.dev.sys.phase = .off then { s with dev := s.dev.at_ t } else { s with dev := f (s.dev.at_ t) })

/-- As `State.run`, for a command that reads memory. -/
def State.runM (s : State) (t : Ticks) (f : Dev → (Nat → Nat → Bytes) → Dev) : Host.Outcome State Fault Refusal :=
  s.run t (fun d => f d (memRead s.mem))

/-- The device is on its way into save mode: up to 8 µs from recognition its ports still answer (R140, steps 1 to 3; log entry
148). -/
def Dev.stopping (d : Dev) (t : Ticks) : Bool :=
  (match d.sys.phase with
    | .starting | .running => true
    | _ => false) && d.man.saving && !d.man.parked && decide (t ≤ d.man.saveStart + 8 * us)

/-- As `State.runM`, for an admission: a device that has recognised a power failure still refuses it, and does nothing else
(R123, R140). -/
def State.offerWith (s : State) (t : Ticks) (f : Dev → (Nat → Nat → Bytes) → Dev) : Host.Outcome State Fault Refusal :=
  if s.dev.stopping t then .next (s.withDev (f (s.dev.at_ t) (memRead s.mem))) else s.runM t f

/-- As `State.run`, for a command that works on memory as well. -/
def State.runS (s : State) (t : Ticks) (f : State → State) : Host.Outcome State Fault Refusal :=
  .next (if s.dev.acts then
      let s1 := f { s with dev := s.dev.at_ t }
      { (s1.withDev s1.dev.settle) with pending := s.pending }
    else { s with dev := s.dev.at_ t })

end Sys2Proof.Machine
end

