-- ==== Sys2Proof/Machine/Bearings.lean ====
section
/-!
DEFINITION. The sixteen Bearings: commands of the compass unit (R21–R56, R225).
-/
namespace Sys2Proof.Machine

/-- BEARING_EDGE. A transition of a quadrature input: the levels of A and B after it, the width of the pulse it ends, its raw instant (R27). -/
def execBearingEdge (b : Fin 16) (a c : Bool) (width raw t : Ticks) (s : State) : Host.Outcome State Fault Refusal :=
  s.run t (fun d => d.bearingEdge b a c width raw)

/-- INDEX_PULSE. A rising Z edge with its width (R29). -/
def execIndexPulse (b : Fin 16) (width t : Ticks) (s : State) : Host.Outcome State Fault Refusal :=
  s.run t (fun d => d.indexPulse b width)

/-- SSI_SAMPLE. An SSI word, its parity bit, the instant of its latching edge (R31). -/
def execSsiSample (b : Fin 16) (word : Nat) (parity : Bool) (edge t : Ticks) (s : State) : Host.Outcome State Fault Refusal :=
  s.run t (fun d => d.ssiSample b word parity edge)

/-- MAINS_CROSSING. A comparator edge of a mains phase: direction, peak since the last one, and the converter samples before and after it, eight
in all (R32, R33). -/
def execMainsCrossing (b : Fin 16) (phase : Fin 3) (rising : Bool) (peak : Nat) (before after : List (Ticks × Int)) (t : Ticks) (s : State) : Host.Outcome State Fault Refusal :=
  s.run t (fun d => d.mainsCrossing b phase rising peak (before ++ after))

/-- WIRE_FAULT. A pair of the input is open, shorted or unpowered (R56). -/
def execWireFault (b : BearingSign) (t : Ticks) (s : State) : Host.Outcome State Fault Refusal :=
  s.run t (fun d => d.wireFault b.b b.present)

/-- RATE_FAULT. Counted edges came faster than 100 M each second for 1 µs (R56). -/
def execRateFault (b : BearingSign) (t : Ticks) (s : State) : Host.Outcome State Fault Refusal :=
  s.run t (fun d => d.rateFault b.b b.present)

/-- EDGE_TIMEOUT. The gate of a Bearing has passed without a sample (R38, R41). -/
def execEdgeTimeout (b : Fin 16) (t : Ticks) (s : State) : Host.Outcome State Fault Refusal :=
  s.run t (fun d => d.edgeTimeout b)

/-- COAST_EXPIRED. COAST_TIME has passed (R38). -/
def execCoastExpired (b : Fin 16) (t : Ticks) (s : State) : Host.Outcome State Fault Refusal :=
  s.run t (fun d => d.coastExpired b)

/-- BEARING_ENABLE. ENABLE is written ON (R38). -/
def execBearingEnable (b : Fin 16) (t : Ticks) (s : State) : Host.Outcome State Fault Refusal :=
  s.action t (fun d => d.bearingEnableWrite b)

/-- BEARING_DISABLE. ENABLE is written OFF or DRAIN (R51). -/
def execBearingDisable (b : Fin 16) (t : Ticks) (s : State) : Host.Outcome State Fault Refusal :=
  s.action t (fun d => (d.set Od.brg_ENABLE b 0).bearingDisable b)

/-- BEARING_DRAIN_DONE. A draining Bearing has no entry left (R51). -/
def execBearingDrainDone (b : Fin 16) (t : Ticks) (s : State) : Host.Outcome State Fault Refusal :=
  s.run t (fun d => d.bearingDrainDone b)

/-- POSITION_SET. POSITION_SET is written (R30). -/
def execPositionSet (b : Fin 16) (v : BVal) (t : Ticks) (s : State) : Host.Outcome State Fault Refusal :=
  s.write t (fun d => d.positionSet b v)

/-- CAL_CAPTURE. A calibration capture is started (R45). -/
def execCalCapture (b : Fin 16) (t : Ticks) (s : State) : Host.Outcome State Fault Refusal :=
  s.write t (fun d => d.calCapture b)

/-- CAL_CAPTURE_DONE. The sample at an instant has brought a capture to its 64 periods (R45). -/
def execCalCaptureDone (b : Fin 16) (at_ t : Ticks) (s : State) : Host.Outcome State Fault Refusal :=
  s.run t (fun d => d.calCaptureDone b at_)

/-- BEARING_PUBLISH. A publication instant of a Bearing (R48). -/
def execBearingPublish (b : Fin 16) (instant t : Ticks) (s : State) : Host.Outcome State Fault Refusal :=
  s.run t (fun d => d.bearingPublish b instant)

/-- BEARING_FRAME_RECEIVE. A BEARING frame (R50). -/
def execBearingFrameReceive (f : RxFrame) (t : Ticks) (s : State) : Host.Outcome State Fault Refusal :=
  s.run t (fun d => d.bearingReceive f)

/-- FERRY_BEARING_SAMPLE. A FERRY Bearing's sample from the chip that measures it, with that Bearing's parameters, or the word that it is LOST (R46, R225). -/
def execFerryBearingSample (b : Fin 16) (r : RemoteCfg) (x : Sample) (lost : Bool) (t : Ticks) (s : State) : Host.Outcome State Fault Refusal :=
  s.run t (fun d => d.ferrySample b r x lost)

end Sys2Proof.Machine
end

