-- ==== Sys2Proof/Machine/Carding.lean ====
section
/-!
DEFINITION. Commands of the contactless reader, of tag mode, of the contact-card slots, of operator inputs and of permits (R527–R576). Card places: 0–1 the slots, 2–5 the contactless CIDs 1–4, 6–11 the same places of the twin's other unit.
-/
namespace Sys2Proof.Machine

/-- CLS_ENABLE. ENABLE of the reader is written (R538). -/
def execClsEnable (on : Bool) (t : Ticks) (s : State) : Host.Outcome State Fault Refusal :=
  s.action t (fun d => d.clsEnable on)

/-- CLS_PING. A ping instant: whether an external field is present, the amplitude and the phase that the ping measures (R528, R530). -/
def execClsPing (ext : Bool) (ampl phase : Int) (t : Ticks) (s : State) : Host.Outcome State Fault Refusal :=
  s.work t (fun d => d.clsPing ext ampl phase)

/-- CLS_POLL. A full poll ends: what is in the field, the unreadable answers, whether some are left after sixteen slots, and the carrier it measured (R533–R535). -/
def execClsPoll (cards : List FieldCard) (unread : Nat) (stuck : Bool) (ampl phase : Int) (t : Ticks) (s : State) : Host.Outcome State Fault Refusal :=
  s.work t (fun d => d.clsPoll cards unread stuck ampl phase)

/-- RF_GRANT. A waiting field-on gets its grant; whether an external field is present, and what a ping then measures (R528, R529). -/
def execRfGrant (ext : Bool) (ampl phase : Int) (t : Ticks) (s : State) : Host.Outcome State Fault Refusal :=
  s.work t (fun d => d.rfGrant ext ampl phase)

/-- RF_STARVED. RF_WAIT_MAX has passed (R529). -/
def execRfStarved (t : Ticks) (s : State) : Host.Outcome State Fault Refusal :=
  s.work t (fun d => d.rfStarved)

/-- PRESENCE_CHECK. A presence check of CID c + 1, whether the badge answers, and whether the two passes of a grant decision that follows agree (R536). -/
def execPresenceCheck (c : Fin 4) (answered agree : Bool) (t : Ticks) (s : State) : Host.Outcome State Fault Refusal :=
  s.work t (fun d => d.presenceCheck (c + 1) answered agree)

/-- CARD_ARRIVED. The identification of the badge of CID c + 1 completes (R536). -/
def execCardArrived (c : Fin 4) (agree : Bool) (t : Ticks) (s : State) : Host.Outcome State Fault Refusal :=
  s.work t (fun d => d.cardArrived (c + 1) agree)

/-- TAG_GET_INFO. GET_INFO, or a block of an unknown command (R541). -/
def execTagGetInfo (inf : Bytes) (t : Ticks) (s : State) : Host.Outcome State Fault Refusal :=
  s.tagRun t (fun d => d.tagGetInfo inf)

/-- TAG_READ. READ, with its fields (R541). -/
def execTagRead (fields : Bytes) (t : Ticks) (s : State) : Host.Outcome State Fault Refusal :=
  s.tagRun t (fun d => d.tagRead fields)

/-- TAG_WRITE. WRITE, with its fields and whether the energy check passes (R544). -/
def execTagWrite (page : Byte) (wsn : BitVec 16) (data mac : Bytes) (energy : Bool) (t : Ticks) (s : State) : Host.Outcome State Fault Refusal :=
  s.tagRun t (fun d => d.tagWrite page.toNat wsn.toNat data mac energy)

/-- TAG_FIELD_LOSS. The field collapses: during a WRITE, with its fields and the point reached, or outside one (R545). -/
def execTagFieldLoss (w : Option (Nat × Nat × Bytes × Bytes × TagCut)) (t : Ticks) (s : State) : Host.Outcome State Fault Refusal :=
  s.tagRun t (fun d => d.tagFieldLoss w)

/-- TAG_ACTIVATION. A handheld reader activates the tag (R541). -/
def execTagActivation (t : Ticks) (s : State) : Host.Outcome State Fault Refusal :=
  s.tagRun t Dev.tagActivation

/-- VHARV_RECOVER. The reservoir has recovered (R547). -/
def execVharvRecover (t : Ticks) (s : State) : Host.Outcome State Fault Refusal :=
  s.tagRun t Dev.vharvRecover

/-- TAG_PAGE. TAG_PAGE of a page is written by the host (R546). -/
def execTagPage (p : Fin 128) (data : Bytes) (t : Ticks) (s : State) : Host.Outcome State Fault Refusal :=
  s.write t (fun d => answered (d.tagPageWrite p data))

/-- CARD_DETECT. CRDx_DET has shown a card for DET_FILTER (R553). -/
def execCardDetect (x : Fin 2) (t : Ticks) (s : State) : Host.Outcome State Fault Refusal :=
  s.work t (fun d => d.cardDetect x)

/-- CARD_REMOVED. CRDx_DET has shown removal for 10 µs (R557). -/
def execCardRemoved (x : Fin 2) (t : Ticks) (s : State) : Host.Outcome State Fault Refusal :=
  s.run t (fun d => d.cardRemoved x)

/-- ATR_RECEIVE. The answer-to-reset; none where a character of it is not well formed (R554). -/
def execAtrReceive (x : Fin 2) (atr : Option Bytes) (t : Ticks) (s : State) : Host.Outcome State Fault Refusal :=
  s.work t (fun d => d.atrReceive x atr)

/-- ATR_TIMEOUT. 40 000 clocks have passed with no answer-to-reset (R553). -/
def execAtrTimeout (x : Fin 2) (t : Ticks) (s : State) : Host.Outcome State Fault Refusal :=
  s.work t (fun d => d.atrTimeout x)

/-- PPS_ANSWER. The PPS answer; none where it fails to come (R555). -/
def execPpsAnswer (x : Fin 2) (ans : Option Bytes) (t : Ticks) (s : State) : Host.Outcome State Fault Refusal :=
  s.work t (fun d => d.ppsAnswer x ans)

/-- T1_BLOCK_RECEIVE. The bytes of a T=1 block; none where a character had a parity error or came late (R556). -/
def execT1BlockReceive (x : Fin 2) (blk : Option Bytes) (t : Ticks) (s : State) : Host.Outcome State Fault Refusal :=
  s.work t (fun d => d.t1Block x blk)

/-- BWT_TIMEOUT. The block waiting time has passed (R556). -/
def execBwtTimeout (x : Fin 2) (t : Ticks) (s : State) : Host.Outcome State Fault Refusal :=
  s.work t (fun d => d.bwtTimeout x)

/-- KOLZEL_SELECT. The response to SELECT of the card at a place; from a slot it is what T=1 has put together (R558). -/
def execKolzelSelect (p : Fin 6) (resp : Bytes) (t : Ticks) (s : State) : Host.Outcome State Fault Refusal :=
  s.work t (fun d => d.kolzelSelect p resp)

/-- KOLZEL_IDENTIFY. The response to IDENTIFY (R558). -/
def execKolzelIdentify (p : Fin 6) (resp : Bytes) (t : Ticks) (s : State) : Host.Outcome State Fault Refusal :=
  s.work t (fun d => d.kolzelIdentify p resp)

/-- KOLZEL_AUTHENTICATE. The response to AUTHENTICATE, and whether the two passes of the verdict agree (R558, R517). -/
def execKolzelAuthenticate (p : Fin 6) (resp : Bytes) (agree : Bool) (t : Ticks) (s : State) : Host.Outcome State Fault Refusal :=
  s.work t (fun d => d.kolzelAuthenticate p resp agree)

/-- RECORD_GRANT. The response to RECORD_GRANT, and whether the two passes of the verdict agree (R560). -/
def execRecordGrant (p : Fin 12) (resp : Bytes) (agree : Bool) (t : Ticks) (s : State) : Host.Outcome State Fault Refusal :=
  s.work t (fun d => d.recordGrant p resp agree)

/-- JOURNAL_QUERY. The response to JOURNAL_QUERY, and whether the two passes of a grant decision that follows agree (R561). -/
def execJournalQuery (p : Fin 6) (resp : Bytes) (agree : Bool) (t : Ticks) (s : State) : Host.Outcome State Fault Refusal :=
  s.work t (fun d => d.journalQuery p resp agree)

/-- OPI_CHANGE. The filtered level of a channel of an input changes; whether the two passes of a grant decision that follows agree (R563). -/
def execOpiChange (k : Fin 8) (chanB high agree : Bool) (t : Ticks) (s : State) : Host.Outcome State Fault Refusal :=
  s.run t (fun d => d.opiChange k chanB high agree)

/-- DISC_TIME. DISC_TIME of an input has passed (R563). -/
def execDiscTime (k : Fin 8) (t : Ticks) (s : State) : Host.Outcome State Fault Refusal :=
  s.run t (fun d => d.discTime k)

/-- PERMIT_REQUEST. PERMIT_REQUEST is written (R565). -/
def execPermitRequest (rule : Nat) (agree : Bool) (t : Ticks) (s : State) : Host.Outcome State Fault Refusal :=
  s.action t (fun d => answered (d.permitRequest rule agree))

/-- REVOKE. REVOKE is written by a principal of a role (R575). -/
def execRevoke (n : Word32) (role : Role) (t : Ticks) (s : State) : Host.Outcome State Fault Refusal :=
  s.action t (fun d => answered (d.revoke n.toNat role))

/-- CLEAR_IN_DOUBT. CLEAR_IN_DOUBT is written (R562). -/
def execClearInDoubt (n : Word32) (t : Ticks) (s : State) : Host.Outcome State Fault Refusal :=
  s.action t (fun d => answered (d.clearInDoubt n.toNat))

/-- PERMIT_EXPIRY. Chip time reaches VALID_UNTIL of an entry (R567). -/
def execPermitExpiry (n : Nat) (t : Ticks) (s : State) : Host.Outcome State Fault Refusal :=
  s.work t (fun d => d.permitExpiry n)

/-- FWT_TIMEOUT. The frame waiting time passes with no answer from the badge of CID c + 1; whether the final block of the command had been sent (R535, R560). -/
def execFwtTimeout (c : Fin 4) (sent agree : Bool) (t : Ticks) (s : State) : Host.Outcome State Fault Refusal :=
  s.work t (fun d => d.fwtTimeout (c + 1) sent agree)

/-- CARD_OVERCURRENT. CRDx_VCC has exceeded 120 mA (R636). -/
def execCardOvercurrent (x : Fin 2) (t : Ticks) (s : State) : Host.Outcome State Fault Refusal :=
  s.run t (fun d => d.cardOvercurrent x)

end Sys2Proof.Machine
end

