-- ==== Sys2Proof/Machine/HashFetch.lean ====
section
/-!
DEFINITION. How the hash array fetches a job's descriptor and data (R438).
-/
namespace Sys2Proof.Machine

/-- Bytes at a system address, checked by the access check unit of the submitting master; none where it denies them. -/
def Dev.fetchBytes (d : Dev) (read : Nat → Nat → Bytes) (m a n : Nat) : Option Bytes :=
  if n = 0 then some []
  else match acuCheck (d.acu m).regions a (a + n - 1) .read false with
    | none => some (read a n)
    | some _ => none

/-- The fetch of a ring's next job. Ring 7's descriptor and data lie in host memory and come with the command; where its
addresses leave PF0's window, the fetch fails (R284, R438). The other rings fetch from system addresses. -/
def Dev.hashFetch (d : Dev) (read : Nat → Nat → Bytes) (r : Nat) (host : HashFetch) : HashFetch :=
  let x := d.hring r
  let ok (a n : Nat) := n = 0 || d.inWindow 0 a n
  if r = 7 then
    let e := host.desc
    let outOk := leAt e 40 4 = 0 || bitOf (leAt e 2 1) 2 || ok (leAt e 32 8) (leAt e 40 4)
    { host with input := if ok (leAt e 8 8) (leAt e 16 4) && outOk then host.input else none,
                aux := if ok (leAt e 24 8) (leAt e 20 4) then host.aux else none,
                pk := if ok (leAt e 32 8) 32 then host.pk else none }
  else
    let m := ringMaster r
    let e := read (x.jobBase + 64 * (x.jobHead % 2 ^ x.jobLog2)) 64
    let out := leAt e 32 8
    let n := leAt e 40 4
    let outOk := n = 0 || bitOf (leAt e 2 1) 2 || (acuCheck (d.acu m).regions out (out + n - 1) .write false).isNone
    { desc := e, input := if outOk then d.fetchBytes read m (leAt e 8 8) (leAt e 16 4) else none,
      aux := d.fetchBytes read m (leAt e 24 8) (leAt e 20 4),
      pk := if bitOf (leAt e 2 1) 4 then d.fetchBytes read m (leAt e 32 8) 32 else none }

/-- TAGs of the jobs of a ring that have not started. -/
def Dev.hashTags (d : Dev) (read : Nat → Nat → Bytes) (r : Nat) (host : List Nat) : List Nat :=
  let x := d.hring r
  if r = 7 then host
  else (List.range (x.jobTail - x.jobHead)).map (fun i => leNat (read (x.jobBase + 64 * ((x.jobHead + i) % 2 ^ x.jobLog2) + 48) 8))

end Sys2Proof.Machine
end

