-- ==== Sys2Proof/Machine/Ciphering.lean ====
section
/-!
DEFINITION. Commands of the cipher cores and the hash array (R411–R450).
-/
namespace Sys2Proof.Machine

/-- CIP_LOCK. The writes of CIP_LOCK in one cycle: user ID of each writing master and value written (R415–R417). -/
def execCipLock (c : Fin 68) (writes : List (Nat × Nat)) (t : Ticks) (s : State) : Host.Outcome State Fault Refusal :=
  s.run t (fun d => d.cipLock c writes)

/-- CIP_KEYH. A write of CIP_KEYH by a user (R419). -/
def execCipKeyh (c : Fin 68) (user : Nat) (keyh : Word32) (t : Ticks) (s : State) : Host.Outcome State Fault Refusal :=
  s.run t (fun d => (d.coreWrite c user 0x00C keyh.toNat).2)

/-- CIP_KEY_LOADED. A slot key load completes (R419). -/
def execCipKeyLoaded (c : Fin 68) (t : Ticks) (s : State) : Host.Outcome State Fault Refusal :=
  s.run t (fun d => d.slotLoaded c)

/-- CIP_GCM_SEAL. A write of CIP_CTRL with START and MODE GCM_SEAL (R411, R420, R422). -/
def execCipGcmSeal (c : Fin 68) (user : Nat) (ctrl : Word32) (t : Ticks) (s : State) : Host.Outcome State Fault Refusal :=
  s.run t (fun d => if bitsOf ctrl.toNat 2 0 = 1 && bitOf ctrl.toNat 31 then (d.coreWrite c user 0x004 ctrl.toNat).2 else d)

/-- CIP_GCM_OPEN. A write of CIP_CTRL with START and MODE GCM_OPEN (R411, R423). -/
def execCipGcmOpen (c : Fin 68) (user : Nat) (ctrl : Word32) (t : Ticks) (s : State) : Host.Outcome State Fault Refusal :=
  s.run t (fun d => if bitsOf ctrl.toNat 2 0 = 2 && bitOf ctrl.toNat 31 then (d.coreWrite c user 0x004 ctrl.toNat).2 else d)

/-- CIP_CTR. A write of CIP_CTRL with START and MODE CTR (R421). -/
def execCipCtr (c : Fin 68) (user : Nat) (ctrl : Word32) (t : Ticks) (s : State) : Host.Outcome State Fault Refusal :=
  s.run t (fun d => if bitsOf ctrl.toNat 2 0 = 3 && bitOf ctrl.toNat 31 then (d.coreWrite c user 0x004 ctrl.toNat).2 else d)

/-- CIP_CMAC_GEN. A write of CIP_CTRL with START and MODE CMAC_GEN (R411, R422). -/
def execCipCmacGen (c : Fin 68) (user : Nat) (ctrl : Word32) (t : Ticks) (s : State) : Host.Outcome State Fault Refusal :=
  s.run t (fun d => if bitsOf ctrl.toNat 2 0 = 4 && bitOf ctrl.toNat 31 then (d.coreWrite c user 0x004 ctrl.toNat).2 else d)

/-- CIP_CMAC_VERIFY. A write of CIP_CTRL with START and MODE CMAC_VERIFY (R411, R423). -/
def execCipCmacVerify (c : Fin 68) (user : Nat) (ctrl : Word32) (t : Ticks) (s : State) : Host.Outcome State Fault Refusal :=
  s.run t (fun d => if bitsOf ctrl.toNat 2 0 = 5 && bitOf ctrl.toNat 31 then (d.coreWrite c user 0x004 ctrl.toNat).2 else d)

/-- CIPHER_JOB_DONE. The running job ends; `blocks` says how many blocks a job cut short had written, `mismatch` is the verdict of its rails (R412, R417, R420–R424). -/
def execCipherJobDone (c : Fin 68) (blocks : Nat) (mismatch : Bool) (t : Ticks) (s : State) : Host.Outcome State Fault Refusal :=
  s.runM t (fun d read => d.jobDone c read blocks mismatch)

/-- CIPHER_SELFTEST. A known-answer test of a free core (R425). -/
def execCipherSelftest (c : Fin 68) (pass : Bool) (t : Ticks) (s : State) : Host.Outcome State Fault Refusal :=
  s.run t (fun d => d.coreSelftest c pass)

/-- CIPHER_LOCK_HELD. A lock has been held for LOCK_HOLD_LIMIT (R417). -/
def execCipherLockHeld (c : Fin 68) (t : Ticks) (s : State) : Host.Outcome State Fault Refusal :=
  s.run t (fun d => d.lockHeld c)

/-- CIPHER_ENABLE. A core's ENABLE is written (R418). -/
def execCipherEnable (c : Fin 68) (on : Bool) (t : Ticks) (s : State) : Host.Outcome State Fault Refusal :=
  s.action t (fun d => d.coreEnable c on)

/-- HSH_JQ_TAIL. The job ring's producer position is written (R439, R447). -/
def execHshJqTail (r : Fin 8) (pos : Word32) (t : Ticks) (s : State) : Host.Outcome State Fault Refusal :=
  s.run t (fun d => d.hashTail r pos.toNat)

/-- HSH_CQ_HEAD. The consumed position of a completion ring is written (R439, R447). -/
def execHshCqHead (r : Fin 8) (pos : Word32) (t : Ticks) (s : State) : Host.Outcome State Fault Refusal :=
  s.run t (fun d => d.hashHead r pos.toNat)

/-- HSH_RING_CFG. HSH_RING_CFG is written; `tags` are the TAGs of ring 7's unstarted jobs in host memory (R439, R446). -/
def execHshRingCfg (r : Fin 8) (v : Word32) (tags : List Nat) (t : Ticks) (s : State) : Host.Outcome State Fault Refusal :=
  s.runM t (fun d read => d.hashCfg r v.toNat (d.hashTags read r tags))

/-- HASH_SHA256. A ring's next job, a SHA256 job, starts; `f` is what a fetch from host memory answers (R436, R437). -/
def execHashSha256 (r : Fin 8) (f : HashFetch) (t : Ticks) (s : State) : Host.Outcome State Fault Refusal :=
  s.runM t (fun d read => d.hashStart r 1 (d.hashFetch read r f) true true)

/-- HASH_HMAC. A ring's next job, an HMAC job, starts (R436, R437). -/
def execHashHmac (r : Fin 8) (f : HashFetch) (t : Ticks) (s : State) : Host.Outcome State Fault Refusal :=
  s.runM t (fun d read => d.hashStart r 2 (d.hashFetch read r f) true true)

/-- HKDF_EXTRACT. A ring's next job, an HKDF_EXTRACT job, starts (R436, R437). -/
def execHkdfExtract (r : Fin 8) (f : HashFetch) (t : Ticks) (s : State) : Host.Outcome State Fault Refusal :=
  s.runM t (fun d read => d.hashStart r 3 (d.hashFetch read r f) true true)

/-- HKDF_EXPAND. A ring's next job, an HKDF_EXPAND job, starts (R436, R437). -/
def execHkdfExpand (r : Fin 8) (f : HashFetch) (t : Ticks) (s : State) : Host.Outcome State Fault Refusal :=
  s.runM t (fun d read => d.hashStart r 4 (d.hashFetch read r f) true true)

/-- SLH_SIGN. A ring's next job, an SLH_SIGN job, starts; `selfOk` is the verdict of the array's own check of the signature (R436, R442). -/
def execSlhSign (r : Fin 8) (f : HashFetch) (selfOk : Bool) (t : Ticks) (s : State) : Host.Outcome State Fault Refusal :=
  s.runM t (fun d read => d.hashStart r 5 (d.hashFetch read r f) selfOk true)

/-- SLH_VERIFY. A ring's next job, an SLH_VERIFY job, starts; `agree` says that the two comparators agree (R436, R443). -/
def execSlhVerify (r : Fin 8) (f : HashFetch) (agree : Bool) (t : Ticks) (s : State) : Host.Outcome State Fault Refusal :=
  s.runM t (fun d read => d.hashStart r 6 (d.hashFetch read r f) true agree)

/-- HASH_JOB_DONE. The i-th of the jobs under way ends (R439). -/
def execHashJobDone (i : Nat) (t : Ticks) (s : State) : Host.Outcome State Fault Refusal :=
  s.run t (fun d => d.hashDone i)

/-- HASH_SELFTEST. A known-answer test of a hash core (R435). -/
def execHashSelftest (core : Fin 48) (pass : Bool) (t : Ticks) (s : State) : Host.Outcome State Fault Refusal :=
  s.run t (fun d => d.hashSelftest core pass)

end Sys2Proof.Machine
end

