-- ==== Sys2Proof/Machine/Flags.lean ====
section
/-!
DEFINITION. The flag computations that both instruction sets share, at a width (R323, R328, R350, R357, R358).
-/
namespace Sys2Proof.Machine

/-- The four condition flags (R323, R350). -/
structure Flags where
  c : Bool := false
  z : Bool := false
  n : Bool := false
  v : Bool := false
deriving DecidableEq, Repr

/-- N and Z of a result; the others keep their values. -/
def Flags.nz (f : Flags) (w r : Nat) : Flags := { f with z := decide (r = 0), n := bitOf r (w - 1) }

/-- A result and its flags. -/
abbrev AluOut := Nat × Flags

/-- a + b + carry: NZCV, V by two's-complement overflow (R328). -/
def aluAdd (w a b cin : Nat) : AluOut :=
  let r := (a + b + cin) % 2 ^ w
  (r, { c := decide (2 ^ w ≤ a + b + cin), z := decide (r = 0), n := bitOf r (w - 1),
        v := decide (signedOf w a + signedOf w b + (cin : Int) ≠ signedOf w r) })

/-- a − b − borrow: C is 1 when no borrow occurs (R328). -/
def aluSub (w a b bin : Nat) : AluOut :=
  let r := (a + 2 * 2 ^ w - b - bin) % 2 ^ w
  (r, { c := decide (b + bin ≤ a), z := decide (r = 0), n := bitOf r (w - 1),
        v := decide (signedOf w a - signedOf w b - (bin : Int) ≠ signedOf w r) })

/-- A logical result: NZ. -/
def aluLogic (w r : Nat) (f : Flags) : AluOut := (r, f.nz w r)

/-- Shift left: C is the last bit out; a shift by 0 leaves it (R328). -/
def aluLsl (w a k : Nat) (f : Flags) : AluOut :=
  let r := a * 2 ^ k % 2 ^ w
  (r, { f.nz w r with c := if k = 0 then f.c else bitOf a (w - k) })

/-- Shift right with zero fill. -/
def aluLsr (w a k : Nat) (f : Flags) : AluOut :=
  let r := a / 2 ^ k
  (r, { f.nz w r with c := if k = 0 then f.c else bitOf a (k - 1) })

/-- Shift right with sign fill. -/
def aluAsr (w a k : Nat) (f : Flags) : AluOut :=
  let r := patternOf w (signedOf w a / (2 ^ k : Int))
  (r, { f.nz w r with c := if k = 0 then f.c else bitOf a (k - 1) })

/-- Rotate right: C is the top bit of the result; a rotation by 0 leaves it. -/
def aluRor (w a k : Nat) (f : Flags) : AluOut :=
  let r := (a / 2 ^ k + a * 2 ^ (w - k)) % 2 ^ w
  (r, { f.nz w r with c := if k = 0 then f.c else bitOf r (w - 1) })

/-- The conditions of R331 on the flags; code 14, EV, asks for events, which a purser has none of its own for. -/
def Flags.holds (f : Flags) (ev : Bool) (cc : Nat) : Bool :=
  match cc with
  | 0 => f.z
  | 1 => !f.z
  | 2 => f.c
  | 3 => !f.c
  | 4 => f.n
  | 5 => !f.n
  | 6 => f.v
  | 7 => !f.v
  | 8 => f.c && !f.z
  | 9 => !f.c || f.z
  | 10 => f.n == f.v
  | 11 => f.n != f.v
  | 12 => !f.z && f.n == f.v
  | 13 => f.z || f.n != f.v
  | 14 => ev
  | _ => true

end Sys2Proof.Machine
end

