-- ==== Sys2Proof/Machine/Operands.lean ====
section
/-!
DEFINITION. Operand forms of the two instruction sets: the arithmetic operations they share, immediates, branch targets
and task-state block fields (R326–R332, R354–R360, R380, R381).
-/
namespace Sys2Proof.Machine

/-- The operations of R328, but for the products. -/
inductive AluOp where
  | mov | add | sub | adc | sbc | and | or | xor | cmp | tst | lsl | lsr | asr | ror
deriving DecidableEq, Repr

/-- Whether an operation writes its destination (R328). -/
def AluOp.writes : AluOp → Bool
  | .cmp | .tst => false
  | _ => true

/-- R328: result and flags at a width; `k` is the shift count, taken from the second operand's low bits. -/
def aluDo (op : AluOp) (w a b k : Nat) (f : Flags) : AluOut :=
  match op with
  | .mov => (b, f)
  | .add => aluAdd w a b 0
  | .sub => aluSub w a b 0
  | .adc => aluAdd w a b (b2n f.c)
  | .sbc => aluSub w a b (1 - b2n f.c)
  | .and => aluLogic w (a &&& b) f
  | .or => aluLogic w (a ||| b) f
  | .xor => aluLogic w (a ^^^ b) f
  | .cmp => aluSub w a b 0
  | .tst => aluLogic w (a &&& b) f
  | .lsl => aluLsl w a k f
  | .lsr => aluLsr w a k f
  | .asr => aluAsr w a k f
  | .ror => aluRor w a k f

/-- The exact product as an unsigned number of 2w bits (R333, R362). -/
def productOf (signed : Bool) (w out a b : Nat) : Nat :=
  if signed then patternOf out (signedOf w a * signedOf w b) else a * b % 2 ^ out

/-- R327: the bits of an immediate whose own field has `w` bits, and how many they are. -/
def limmBits (w own : Nat) (l : List (BitVec 11)) : Nat × Nat :=
  match l with
  | [] => (own, w)
  | [a] => (a.toNat * 2 ^ w + own, w + 11)
  | a :: b :: _ => (a.toNat * 2 ^ (w + 11) + b.toNat * 2 ^ w + own, w + 22)

/-- R327: a sign-extended immediate. -/
def limmSigned (w own : Nat) (l : List (BitVec 11)) : Int := signedOf (limmBits w own l).2 (limmBits w own l).1

/-- R327: LOOP's unsigned immediate. -/
def limmUnsigned (w own : Nat) (l : List (BitVec 11)) : Nat := (limmBits w own l).1

/-- A precise fault: cause code (R378), FAULT_ADDR and FAULT_INFO (R380, R381), and the access check's denial, if one
caused it, with whether the access was a write. -/
structure CoreFault where
  cause : Nat
  addr : Nat := 0
  info : Nat := 0
  twice : Nat := 0
  imm : Nat := 0
  source : Nat := 0
deriving DecidableEq, Repr

/-- Exception vectors of a cause code (R377, R378): 1 illegal opcode, 2 misaligned, 3 bus error; the others differ. -/
def faultVector (cause : Nat) : Nat :=
  if cause < 0x10 then 1 else if cause = 0x10 then 2 else 3

def dhVector (cause : Nat) : Nat := if cause = 0x41 then 4 else faultVector cause

def puVector (cause : Nat) : Nat :=
  if cause = 0x30 then 4 else if cause = 0x40 then 5 else if cause = 0x41 then 6 else faultVector cause

/-- The value of an extended TIME in network order (R182), its nanoseconds as they stand. -/
def timeOfBe (l : Bytes) : Ticks := (((beAt l 0 6 * 1000000000 + beAt l 6 4) * 65536 + beAt l 10 2 : Nat) : Int)

end Sys2Proof.Machine
end

