-- ==== Sys2Proof/Machine/DhCode.lean ====
section
/-!
DEFINITION. The words of a deckhand's instructions, and the words that are none (R326, R327, R330, R331, R335, R337).
-/
namespace Sys2Proof.Machine

/-- A program word. -/
abbrev DhWord := BitVec 14

/-- The LIMM words before an instruction: class 11, bit 11, payload. -/
def limmWords (l : List (BitVec 11)) : List DhWord := l.map (fun x => BitVec.ofNat 14 (0x3800 + x.toNat))

/-- The op codes of R328. -/
def AluOp.code : AluOp → Nat
  | .mov => 0
  | .add => 1
  | .sub => 2
  | .adc => 3
  | .sbc => 4
  | .and => 5
  | .or => 6
  | .xor => 7
  | .cmp => 8
  | .tst => 9
  | .lsl => 10
  | .lsr => 11
  | .asr => 12
  | .ror => 13

/-- Class 00 RR: op, d, s. -/
def dhRrCode (op : Nat) (d s : Fin 16) : List DhWord := [BitVec.ofNat 14 (256 * op + 16 * d + s)]

/-- Class 01 RI: op, d, imm6. -/
def dhRiCode (op : Nat) (d : Fin 16) (own : BitVec 6) (l : List (BitVec 11)) : List DhWord :=
  limmWords l ++ [BitVec.ofNat 14 (0x1000 + 1024 * op + 64 * d + own.toNat)]

/-- Class 10: BR, or CALL. -/
def dhBrCode (call : Bool) (own : BitVec 10) (l : List (BitVec 11)) : List DhWord :=
  limmWords l ++ [BitVec.ofNat 14 (0x2000 + 1024 * b2n call + own.toNat)]

/-- Class 10: LOOP. -/
def dhLoopCode (s : Fin 16) (own : BitVec 6) (l : List (BitVec 11)) : List DhWord :=
  limmWords l ++ [BitVec.ofNat 14 (0x2800 + 64 * s + own.toNat)]

/-- Class 10: SKcc (`k` = 0), JR (1) and CALLR (2). -/
def dhControlCode (k : Nat) (v : Fin 16) : List DhWord := [BitVec.ofNat 14 (0x2C00 + 256 * k + v)]

/-- Class 10: SYS. -/
def dhSysCode (code : Nat) : List DhWord := [BitVec.ofNat 14 (0x2F00 + code)]

/-- Class 11: a load or store of width code 0 byte, 1 half, 2 word. -/
def dhMemCode (store : Bool) (width : Nat) (r : Fin 16) (base : Fin 8) (l : List (BitVec 11)) : List DhWord :=
  limmWords l ++ [BitVec.ofNat 14 (0x3000 + 512 * b2n store + 128 * width + 16 * base + r)]

/-- Class 11: MFS, or MTS. -/
def dhMoveCode (write : Bool) (sr r : Fin 16) : List DhWord := [BitVec.ofNat 14 (0x3400 + 256 * b2n write + 16 * sr + r)]

/-- Class 11: a misc, or a unit, sub-op. -/
def dhSubCode (unit : Bool) (sub : Nat) (r : Fin 16) : List DhWord := [BitVec.ofNat 14 (0x3600 + 256 * b2n unit + 16 * sub + r)]

/-! ## Reserved encodings (R326, R327, R335, R337) -/

/-- A word, no LIMM, that no table lists: width 11; non-zero [7:4] in SKcc, JR and CALLR; SYS codes and sub-ops that are not
listed; a register where r must be 0. -/
def dhReserved (w : Nat) : Bool :=
  match w / 4096, w / 1024 % 4 with
  | 2, 3 => if w / 256 % 4 = 3 then decide (4 ≤ w % 256) else decide (w / 16 % 16 ≠ 0)
  | 3, 0 => decide (w / 128 % 4 = 3)
  | 3, 1 =>
    let sub := w / 16 % 16
    if w / 512 % 2 = 0 then false
    else if w / 256 % 2 = 0 then decide (14 ≤ sub) || ((sub = 6 || sub = 8 || sub = 13) && decide (w % 16 ≠ 0))
    else decide (13 ≤ sub) || (sub = 12 && decide (w % 16 ≠ 0))
  | _, _ => false

/-- The instructions that accept a LIMM (R327). -/
def dhTakesLimm (w : Nat) : Bool :=
  match w / 4096, w / 1024 % 4 with
  | 1, k => decide (k ≠ 3)
  | 2, k => decide (k ≠ 3)
  | 3, k => decide (k = 0)
  | _, _ => false

def isLimm (w : DhWord) : Bool := decide (w.toNat / 2048 = 7)

/-- The illegal encoding that a program starts with: its words, and its cause code (R378). -/
def dhIllegal (code : List DhWord) : Option (Nat × Nat) :=
  let k := (code.takeWhile isLimm).length
  if 3 ≤ k then some (3, 0x02)
  else match code[k]? with
    | none => none
    | some w => if dhReserved w.toNat || (k ≠ 0 && !dhTakesLimm w.toNat) then some (k + 1, 0x01) else none

end Sys2Proof.Machine
end

