-- ==== Sys2Proof/Machine/DhOps.lean ====
section
/-!
DEFINITION. A deckhand's instruction: how it is stepped, skipped and looped, its memory accesses, and the exceptions it
takes (R317–R324, R330–R333, R342–R345, R377–R395).
-/
namespace Sys2Proof.Machine

/-! ## Registers -/

def State.onDev (s : State) (f : Dev → Dev) : State := { s with dev := f s.dev }

def State.onDh (s : State) (n : Nat) (f : DhCore → DhCore) : State := s.onDev (fun d => d.setDh n (f (d.dh n)))

/-- A general register as a number (R321). -/
def DhCore.get (c : DhCore) (r : Fin 16) : Nat := c.g[r].toNat

def DhCore.put (c : DhCore) (r : Fin 16) (v : Nat) : DhCore := { c with g := c.g.set r (BitVec.ofNat 32 v) }

def DhCore.flags (c : DhCore) : Flags := { c := c.c, z := c.z, n := c.n, v := c.v }

def DhCore.setFlags (c : DhCore) (f : Flags) : DhCore := { c with c := f.c, z := f.z, n := f.n, v := f.v }

/-- STAT (R323). -/
def DhCore.stat (c : DhCore) : Nat :=
  b2n c.c + 2 * b2n c.z + 4 * b2n c.n + 8 * b2n c.v + 16 * b2n c.ee + 256 * b2n (decide (c.lpc ≠ 0))

/-- Write STAT's fields that can be written. -/
def DhCore.setStat (c : DhCore) (v : Nat) : DhCore :=
  { c with c := bitOf v 0, z := bitOf v 1, n := bitOf v 2, v := bitOf v 3, ee := bitOf v 4 }

/-- A product completes into MHI:MLO (R333). -/
def DhCore.product (c : DhCore) (p : BitVec 64) : DhCore := { c with mlo := p.setWidth 32, mhi := (p >>> 32).setWidth 32 }

/-- Every product in flight completes, in the order of its issue (R386). -/
def DhCore.drained (c : DhCore) : DhCore := { c.products.foldl DhCore.product c with products := [] }

/-- The oldest product in flight completes (R333). -/
def DhCore.completeProduct (c : DhCore) : DhCore :=
  match c.products with
  | [] => c
  | p :: t => { c.product p with products := t }

/-! ## Task-state blocks (R379, R380, R382) -/

/-- R379: a deckhand's TSB address is valid. -/
def Dev.dhTsbOk (d : Dev) (n a : Nat) : Bool :=
  decide (a ≠ 0) && decide (a % 16 = 0) && decide (0x20 ≤ a) && decide (a + 128 ≤ 0x7000) &&
    (d.acu (d.laneMaster n)).regions.any (fun e => e.2.en && decide (e.2.lo ≤ a) && decide (a + 127 ≤ e.2.top) &&
      e.2.grants .read false && e.2.grants .write false)

/-- R380: the 128 bytes of a TSB. -/
def dhTsb (c : DhCore) (f : CoreFault) (vector original evp : Nat) : Bytes :=
  (c.g.toList.flatMap (fun x => toLe 4 x.toNat)) ++ toLe 4 c.pc.toNat ++ toLe 4 c.stat ++ toLe 4 c.mlo.toNat ++ toLe 4 c.mhi.toNat ++
    toLe 4 c.lps.toNat ++ toLe 4 c.lpe.toNat ++ toLe 4 c.lpc.toNat ++ toLe 4 c.brs.toNat ++ toLe 4 c.brd.toNat ++ toLe 4 c.brc.toNat ++
    toLe 4 (f.cause + 256 * vector + 2 ^ 24 * original) ++ toLe 4 f.addr ++ toLe 4 f.info ++ toLe 4 evp ++ List.replicate 8 0

/-- R382: load the register fields of a TSB. TSBP and what is not in a TSB stay. -/
def DhCore.load (c : DhCore) (b : Bytes) : DhCore :=
  let w : Nat → Word32 := fun o => BitVec.ofNat 32 (leAt b o 4)
  { c.setStat (leAt b 68 4) with
    g := Vector.ofFn (fun (i : Fin 16) => w (4 * i)), pc := BitVec.ofNat 14 (leAt b 64 4), mlo := w 72, mhi := w 76,
    lps := w 80, lpe := w 84, lpc := w 88, brs := w 92, brd := w 96, brc := w 100, skip := false, shadow := false }

/-! ## Taking an exception (R385–R394) -/

/-- A lane leaves WAIT: its watchdog runs on from where it stopped (R342, R343). -/
def LaneIo.leaveWait (x : LaneIo) (now : Ticks) : LaneIo :=
  if x.inWait then { x with inWait := false, watchdog := some (now + x.wdLeft) } else x

/-- R392: a double fault. The last-resort TSB takes the running state, and the lane parks. -/
def State.dhDouble (s : State) (n : Nat) (f : CoreFault) : State :=
  s.onDev (fun d =>
    let m := d.laneMaster n
    let tsb := dhTsb (d.dh n) { f with cause := 0x60 } 0 f.cause (d.evp n)
    let d1 := ((d.setOct Od.exc_LAST_RESORT m (padTo 256 tsb)).bump Od.exc_DOUBLE_FAULTS m).clearLocks (n + 1)
    (d1.onLane n (fun x => { x with state := .parked, halted := true, inWait := false, watchdog := none })).fault 0x004 n (some (64 + n, 5)) [])

/-- R386: a deckhand takes an exception; its PC is the saved PC. -/
def State.dhTake (s : State) (n : Nat) (f : CoreFault) : State :=
  let m := s.dev.laneMaster n
  let s1 := s.onDev (fun d =>
    let d1 := (d.setDh n { (d.dh n).drained with skip := false, shadow := false }).bump Od.exc_EXCEPTIONS m
    let d2 := d1.onLane n (fun x => x.leaveWait d.now)
    if f.cause = 0x41 then d2 else d2.laneFault n f.cause)
  let c := s1.dev.dh n
  let tsbp := c.tsbp.toNat
  let v := dhVector f.cause
  let h := memNat s1.mem (laneMem n + 4 * v) 4
  let saved := { s1 with mem := memWrite s1.mem (laneMem n + tsbp) (dhTsb c f v 0 (s1.dev.evp n)) }
  if c.handler || !s1.dev.dhTsbOk n tsbp then s1.dhDouble n f
  else if h = 0 then (if v = 4 then s else saved.onDev (fun d => d.laneFaulted n))
  else if !s1.dev.dhTsbOk n h then s1.dhDouble n f
  else
    saved.onDh n (fun c => { c.load (memRead saved.mem (laneMem n + h) 128) with ee := false, lpc := 0, handler := true })

/-- The lane executes its program, outside WAIT. A shadow executes what its lane does, and chip safe state halts every lane
(R344, R508). -/
def Dev.dhRuns (d : Dev) (n : Nat) : Bool :=
  let x := d.lane n
  x.runs && !decide (x.origin = 3) && !x.inWait && !d.flt.chipSafe

/-- R390, R391: a pending imprecise notice is taken at a boundary, outside handler state and shadows. -/
def State.dhNotice (s : State) (n : Nat) : State :=
  let c := s.dev.dh n
  let x := s.dev.lane n
  if c.notice && !c.handler && !c.shadow && x.runs && !s.dev.flt.chipSafe then
    (s.onDh n (fun c => { c with notice := false })).dhTake n { cause := 0x2C, addr := (s.dev.acu (s.dev.laneMaster n)).impAddr, info := 1 }
  else s

/-- Whether the lane would take an event exception at an element boundary (R385, R387, R390). -/
def State.dhEventDue (s : State) (n : Nat) : Bool :=
  let c := s.dev.dh n
  decide (s.dev.evp n ≠ 0) && c.ee && !c.handler && !c.shadow && decide (memNat s.mem (laneMem n + 16) 4 ≠ 0)

/-- DH_EVENT_EXCEPTION: an event is taken at the boundary, in WAIT too (R342, R385, R390). -/
def State.dhEvent (s : State) (n : Nat) : State :=
  let x := s.dev.lane n
  if x.runs && !decide (x.origin = 3) && !s.dev.flt.chipSafe && !(s.dev.dh n).notice && s.dhEventDue n then s.dhTake n { cause := 0x41 }
  else s

/-- The lane's program holds an instruction at its PC: as far as the program reaches, its words are these (R317, R326). -/
def Dev.dhHolds (d : Dev) (n : Nat) (w : List DhWord) : Bool :=
  (((d.lane n).code.drop (d.dh n).pc.toNat).take w.length).isPrefixOf w

/-- A command of a deckhand's instruction: the lane executes it where its program holds the instruction's words at the PC. -/
def State.runDh (s : State) (t : Ticks) (n : Nat) (w : List DhWord) (f : State → State) : Host.Outcome State Fault Refusal :=
  s.runS t (fun s => if s.dev.dhHolds n w then f s else s)

/-! ## Stepping an instruction -/

/-- How an instruction's own work ends. -/
inductive DhEnd where
  /-- it completes in sequence -/
  | seq (s : State)
  /-- it transfers control to a word address -/
  | jump (s : State) (pc : Nat)
  | fault (s : State) (f : CoreFault)
  /-- a block operation leaves at an element boundary for an event -/
  | event (s : State)
  /-- it waits and stays to be executed -/
  | stay

/-- Count cycles (R345, R346). -/
def State.dhCycles (s : State) (n k : Nat) : State := s.onDev (fun d => d.bump Od.lst_CYCLES n k)

/-- R332: an instruction of `len` words completes in sequence. -/
def DhCore.seq (c : DhCore) (len : Nat) : DhCore :=
  let last := c.pc.toNat + len - 1
  if c.lpc.toNat ≠ 0 && decide (c.lpe.toNat = last) then
    (if 1 < c.lpc.toNat then { c with lpc := c.lpc - 1, pc := c.lps.setWidth 14 } else { c with lpc := 0, pc := BitVec.ofNat 14 (last + 1) })
  else { c with pc := BitVec.ofNat 14 (last + 1) }

/-- One instruction of a lane: `len` words with its LIMMs, `cycles` of R345 (log entry 1). -/
def State.deckhand (s : State) (n len cycles : Nat) (body : State → DhEnd) : State :=
  let c := s.dev.dh n
  let words := (s.dev.lane n).code.length
  let s0 := s.onDh n (fun c => { c with shadow := false })
  if !s.dev.dhRuns n then s
  else if c.skip then (((s0.onDh n (fun c => { c with skip := false })).dhCycles n 1).onDh n (fun c => c.seq len)).dhNotice n
  else if words < c.pc.toNat + len then s0.dhTake n { cause := 0x23, addr := max c.pc.toNat words }
  else match body s0 with
    | .seq s1 => ((s1.dhCycles n (cycles + (len - 1))).onDh n (fun c => c.seq len)).dhNotice n
    | .jump s1 pc => ((s1.dhCycles n (cycles + (len - 1))).onDh n (fun c => { c with pc := BitVec.ofNat 14 pc })).dhNotice n
    | .fault s1 f => s1.dhTake n f
    | .event s1 => s1.dhTake n { cause := 0x41 }
    | .stay => s

/-- An instruction that only changes its lane's registers. -/
def State.dhReg (s : State) (n len cycles : Nat) (f : DhCore → DhCore) : State :=
  s.deckhand n len cycles (fun s => .seq (s.onDh n f))

/-! ## The instructions of R328–R332 -/

/-- An RR operation. -/
def DhCore.rr (op : AluOp) (d s : Fin 16) (c : DhCore) : DhCore :=
  let r := aluDo op 32 (c.get d) (c.get s) (c.get s % 32) c.flags
  let c1 := c.setFlags r.2
  if op.writes then c1.put d r.1 else c1

/-- An RI operation on an immediate (R329). -/
def DhCore.ri (op : AluOp) (d : Fin 16) (imm : Int) (c : DhCore) : DhCore :=
  let r := aluDo op 32 (c.get d) (patternOf 32 imm) 0 c.flags
  let c1 := c.setFlags r.2
  if op.writes then c1.put d r.1 else c1

/-- SHI (R329). -/
def DhCore.shi (d : Fin 16) (imm : BitVec 6) (c : DhCore) : DhCore :=
  let r := aluDo (if bitOf imm.toNat 5 then .lsr else .lsl) 32 (c.get d) 0 (imm.toNat % 32) c.flags
  (c.setFlags r.2).put d r.1

/-- An instruction with LIMMs (R327): more than two raise ILLEGAL_PREFIX. -/
def State.dhLimm (s : State) (n : Nat) (l : List (BitVec 11)) (cycles : Nat) (body : State → DhEnd) : State :=
  s.deckhand n (1 + l.length) cycles (fun s => if 2 < l.length then .fault s { cause := 0x02 } else body s)

/-- The address after an instruction, on 14 bits (R330). -/
def DhCore.next (c : DhCore) (len : Nat) : Nat := (c.pc.toNat + len) % 2 ^ 14

/-- A taken BR or CALL (R330). -/
def State.dhBranch (s : State) (n : Nat) (own : BitVec 10) (l : List (BitVec 11)) (link : Bool) : State :=
  s.dhLimm n l 2 (fun s =>
    let c := s.dev.dh n
    let nx := c.next (1 + l.length)
    let s1 := if link then s.onDh n (fun c => c.put 15 nx) else s
    .jump s1 (patternOf 14 (nx + limmSigned 10 own.toNat l)))

/-- JR, CALLR and RET: `link` says whether G15 takes the return address. -/
def State.dhJump (s : State) (n : Nat) (r : Fin 16) (link : Bool) : State :=
  s.deckhand n 1 3 (fun s =>
    let c := s.dev.dh n
    .jump (if link then s.onDh n (fun c => c.put 15 (c.next 1)) else s) (c.get r))

/-- LOOP (R332). -/
def State.dhLoop (s : State) (n : Nat) (r : Fin 16) (own : BitVec 6) (l : List (BitVec 11)) : State :=
  s.dhLimm n l 2 (fun s =>
    let c := s.dev.dh n
    let imm := limmUnsigned 6 own.toNat l
    let a := c.pc.toNat + l.length
    let k := c.g[r]
    if imm = 0 then .fault s { cause := 0x04 }
    else
      let s1 := s.onDh n (fun c => { c with lps := BitVec.ofNat 32 (a + 1), lpe := BitVec.ofNat 32 (a + imm), lpc := k })
      if k = 0 then .jump s1 (a + imm + 1) else .seq s1)

/-- SKcc (R331). -/
def State.dhSkip (s : State) (n : Nat) (cc : Nat) : State :=
  s.deckhand n 1 1 (fun s =>
    let ev := decide (s.dev.evp n ≠ 0)
    .seq (s.onDh n (fun c => { c with skip := c.flags.holds ev cc, shadow := true })))

/-- WAIT (R330): it ends at once where an event is pending. -/
def State.dhWait (s : State) (n : Nat) : State :=
  s.deckhand n 1 0 (fun s =>
    if s.dev.evp n ≠ 0 then .seq s
    else .seq (s.onDev (fun d => d.onLane n (fun x =>
      { x with inWait := true, wdLeft := (x.watchdog.getD d.now) - d.now, watchdog := none }))))

/-- TRET (R382, R387, R388): it resumes the TSB at TSBP. An invalid one is a fault, which nothing can save. -/
def State.dhTret (s : State) (n : Nat) : State :=
  s.deckhand n 1 12 (fun s =>
    let c := s.dev.dh n
    let a := c.tsbp.toNat
    if s.dev.dhTsbOk n a then
      let s1 := s.onDh n (fun c => { c.drained.load (memRead s.mem (laneMem n + a) 128) with handler := false })
      .jump s1 (s1.dev.dh n).pc.toNat
    else .fault s { cause := if a % 16 ≠ 0 then 0x10 else 0x20, addr := a, info := 4 })

/-! ## Memory (R318–R320, R334, R396–R399) -/

/-- FAULT_INFO of an access (R380). -/
def dhInfo (write : Bool) (w : Nat) (block : Bool) (x : Option Denial) : Nat :=
  b2n write + 2 * (if w = 4 then 2 else if w = 2 then 1 else 0) + 8 * b2n block +
    (match x with
      | some { region := some r, .. } => 16 * (r % 16) + 256
      | _ => 0)

/-- Alignment and access check of an access (R319, R397); a denial is counted. -/
def State.dhCheck (s : State) (n a w : Nat) (write block : Bool) : Option (State × CoreFault) :=
  if !block && a % w ≠ 0 then some (s, { cause := 0x10, addr := a, info := dhInfo write w block none })
  else
    let m := s.dev.laneMaster n
    match acuCheck (s.dev.acu m).regions a (a + w - 1) (if write then .write else .read) false with
    | none => none
    | some x => some (s.onDev (fun d => d.denied m x write), { cause := x.cause, addr := x.addr, info := dhInfo write w block (some x) })

/-- One byte of a deckhand's data space (R318); none where nothing answers. -/
def State.dhByte (s : State) (n a : Nat) : Option Byte :=
  let p := s.dev.pierOf (n / 8)
  if a < 0x7000 then some (memByte s.mem (laneMem n + a))
  else if a < 0x8000 then
    some ((((s.dev.lane n).inbox.find ((a - 0x7000) / 512)).bind (fun x => x.bytes[(a - 0x7000) % 512]?)).getD 0)
  else if 0x01000000 ≤ a && a < 0x01200000 then some (memByte s.mem (0x0200000000 + 0x400000 * p + (a - 0x01000000)))
  else if 0x02000000 ≤ a && a < 0x02004000 then
    some (BitVec.ofNat 8 (s.dev.coreRead (4 * p + (a - 0x02000000) / 4096) (a % 4096 / 4 * 4) / 256 ^ (a % 4)))
  else none

/-- Bytes of a deckhand's data space. -/
def State.dhBytes (s : State) (n a w : Nat) : Option Bytes := (List.range w).mapM (fun i => s.dhByte n (a + i))

/-- A load of `w` bytes, zero-extended (R334). -/
def State.dhLoad (s : State) (n a w : Nat) (block : Bool) : Sum (State × CoreFault) Nat :=
  match s.dhCheck n a w false block with
  | some x => .inl x
  | none => match s.dhBytes n a w with
    | some b => .inr (leNat b)
    | none => .inl (s, { cause := 0x28, addr := a, info := dhInfo false w block none })

/-- A store of `w` bytes (R320, R334): to a core's registers it is posted unless its region is STRICT, and its failure
then waits for its notice; the registers take whole words. -/
def State.dhStore (s : State) (n a w v : Nat) (block : Bool) : Sum (State × CoreFault) State :=
  let p := s.dev.pierOf (n / 8)
  let failed : Sum (State × CoreFault) State :=
    if acuOrder (s.dev.acu (s.dev.laneMaster n)).regions a (a + w - 1) = 0 then
      .inl (s, { cause := 0x28, addr := a, info := dhInfo true w block none })
    else .inr (s.onDh n (fun c => { c with posted := c.posted ++ [(a, 0x2C)] }))
  match s.dhCheck n a w true block with
  | some x => .inl x
  | none =>
    if a < 0x7000 then .inr { s with mem := memPut s.mem (laneMem n + a) w v }
    else if 0x01000000 ≤ a && a < 0x01200000 then .inr { s with mem := memPut s.mem (0x0200000000 + 0x400000 * p + (a - 0x01000000)) w v }
    else if 0x02000000 ≤ a && a < 0x02004000 && w = 4 then
      (match s.dev.coreWrite (4 * p + (a - 0x02000000) / 4096) (n + 1) (a % 4096) v with
        | (true, d) => .inr { s with dev := d }
        | (false, _) => failed)
    else failed

/-- A request of a paired lane is carried out once its shadow has produced the same one; `shadow` says whether it has
(R344). Its cycles rise by the shadow's delay. -/
def State.dhPaired (s : State) (n : Nat) (shadow : Bool) (body : State → DhEnd) : DhEnd :=
  if (s.dev.lane (n + 1)).origin = 3 && n % 2 = 0 then
    (if shadow then body (s.dhCycles n (s.dev.lane n).shadowLag) else .seq (s.onDev (fun d => d.pairMismatch n)))
  else body s

/-- Effective address (R334). -/
def DhCore.ea (c : DhCore) (base : Fin 8) (l : List (BitVec 11)) : Nat :=
  patternOf 32 ((c.get ⟨8 + base, by omega⟩ : Int) + limmSigned 0 0 l)

/-- Cycles of a load (R345). -/
def dhLoadCycles (a : Nat) : Nat := if a < 0x8000 then 2 else if a < 0x02000000 then 12 else 20

def State.dhLd (s : State) (n w : Nat) (r : Fin 16) (base : Fin 8) (l : List (BitVec 11)) : State :=
  let a := (s.dev.dh n).ea base l
  s.dhLimm n l (dhLoadCycles a) (fun s =>
    match s.dhLoad n a w false with
    | .inl (s1, f) => .fault s1 f
    | .inr v => .seq (s.onDh n (fun c => c.put r v)))

def State.dhSt (s : State) (n w : Nat) (r : Fin 16) (base : Fin 8) (l : List (BitVec 11)) (shadow : Bool) : State :=
  s.dhLimm n l 1 (fun s =>
    let c := s.dev.dh n
    s.dhPaired n shadow (fun s =>
      match s.dhStore n (c.ea base l) w (c.get r % 256 ^ w) false with
      | .inl (s1, f) => .fault s1 f
      | .inr s1 => .seq s1))

/-! ## Special registers (R322–R325) -/

/-- MFS of a special register; none for numbers 14 and 15. -/
def Dev.dhMfs (d : Dev) (n : Nat) (sr : Fin 16) : Option Nat :=
  let c := d.dh n
  match sr.val with
  | 0 => some c.stat
  | 1 => some c.mlo.toNat
  | 2 => some c.mhi.toNat
  | 3 => some c.lps.toNat
  | 4 => some c.lpe.toNat
  | 5 => some c.lpc.toNat
  | 6 => some c.brs.toNat
  | 7 => some c.brd.toNat
  | 8 => some c.brc.toNat
  | 9 => some c.tsbp.toNat
  | 10 => some n
  | 11 => some (d.pierOf (n / 8))
  | 12 => some c.tsnap.toNat
  | 13 => some (d.evp n)
  | _ => none

/-- MTS of a special register that takes writes. -/
def DhCore.mts (sr : Fin 16) (v : Nat) (c : DhCore) : DhCore :=
  let w : Word32 := BitVec.ofNat 32 v
  match sr.val with
  | 0 => c.setStat v
  | 1 => { c with mlo := w }
  | 2 => { c with mhi := w }
  | 3 => { c with lps := w }
  | 4 => { c with lpe := w }
  | 5 => { c with lpc := w }
  | 6 => { c with brs := w }
  | 7 => { c with brd := w }
  | 8 => { c with brc := w }
  | 9 => { c with tsbp := w }
  | _ => c

def State.dhMfsI (s : State) (n : Nat) (r sr : Fin 16) : State :=
  s.deckhand n 1 1 (fun s =>
    match s.dev.dhMfs n sr with
    | some v => .seq (s.onDh n (fun c => c.put r v))
    | none => .fault s { cause := 0x01 })

/-- MTS: EVP takes its two W1C bits; DHID, PIERID and TSNAP are not writable (R322, R324). -/
def State.dhMtsI (s : State) (n : Nat) (sr r : Fin 16) (shadow : Bool) : State :=
  s.deckhand n 1 1 (fun s =>
    if 14 ≤ sr.val then .fault s { cause := 0x01 }
    else if 10 ≤ sr.val && sr.val ≤ 12 then .fault s { cause := 0x03 }
    else s.dhPaired n shadow (fun s =>
      let v := (s.dev.dh n).get r
      if sr = 13 then
        .seq (s.onDev (fun d => d.onLane n (fun x => { x with migrated := x.migrated && !bitOf v 3, soft := x.soft && !bitOf v 4 })))
      else .seq (s.onDh n (DhCore.mts sr v))))

/-- R325. -/
def dhFeat (k : Fin 4) : Nat := if k = 0 then 0x000100FF else if k = 1 then 0x00102020 else if k = 2 then 0x00002408 else 0

/-! ## Block operations (R335, R336) -/

/-- What one element of a block operation does: the state after it, or that it ends here, or its fault. -/
inductive BlockStep where
  | more (s : State)
  /-- the operation ends at this element, which stays -/
  | last (s : State)
  | fault (s : State) (f : CoreFault)

/-- Element by element until BRC is 0, the element ends it, or an event is due after `upTo` elements. -/
def dhBlockFuel (n : Nat) (step : State → BlockStep) (done : State → State) : Nat → Option Nat → State → DhEnd
  | 0, _, s => .seq (done s)
  | k + 1, upTo, s =>
    if (s.dev.dh n).brc = 0 then .seq (done s)
    else if upTo = some 0 && s.dhEventDue n then .event s
    else match step s with
      | .more s1 => dhBlockFuel n step done k (upTo.map (fun u => u - 1)) s1
      | .last s1 => .seq s1
      | .fault s1 f => .fault s1 f

/-- Cycles of a block operation on `k` bytes, `per` of them a cycle (R345). -/
def dhBlockCycles (c : DhCore) (per : Nat) (dst : Bool) : Nat :=
  let k := c.brc.toNat
  let buf := decide (0x01000000 ≤ c.brs.toNat) && decide (c.brs.toNat < 0x01200000)
  let bufD := dst && decide (0x01000000 ≤ c.brd.toNat) && decide (c.brd.toNat < 0x01200000)
  2 + (k + per - 1) / per + (if buf || bufD then 12 else 0)

/-- A block operation: `step` is one element, `done` sets the flags when BRC has reached 0. -/
def State.dhBlock (s : State) (n per : Nat) (dst : Bool) (upTo : Option Nat) (step : State → BlockStep) (done : State → State) : State :=
  let c := s.dev.dh n
  let u := if c.shadow && upTo = some 0 then none else upTo
  s.deckhand n 1 (dhBlockCycles c per dst) (fun s => dhBlockFuel n step done (c.brc.toNat + 1) u s)

/-- Advance the block registers by `k` bytes. -/
def DhCore.advance (c : DhCore) (src dst : Bool) (k : Nat) : DhCore :=
  let w : Word32 := BitVec.ofNat 32 k
  { c with brs := if src then c.brs + w else c.brs, brd := if dst then c.brd + w else c.brd, brc := c.brc - w }

/-- MOVS: one byte. -/
def dhMovsStep (n : Nat) (s : State) : BlockStep :=
  let c := s.dev.dh n
  match s.dhLoad n c.brs.toNat 1 true with
  | .inl (s1, f) => .fault s1 f
  | .inr v => match s.dhStore n c.brd.toNat 1 v true with
    | .inl (s1, f) => .fault s1 f
    | .inr s1 => .more (s1.onDh n (fun c => c.advance true true 1))

/-- FILS: one byte. -/
def dhFilsStep (n : Nat) (r : Fin 16) (s : State) : BlockStep :=
  let c := s.dev.dh n
  match s.dhStore n c.brd.toNat 1 (c.get r % 256) true with
  | .inl (s1, f) => .fault s1 f
  | .inr s1 => .more (s1.onDh n (fun c => c.advance false true 1))

/-- CMPS: one byte of each string; at a difference Z clears and C tells their order. -/
def dhCmpsStep (n : Nat) (s : State) : BlockStep :=
  let c := s.dev.dh n
  match s.dhLoad n c.brs.toNat 1 true, s.dhLoad n c.brd.toNat 1 true with
  | .inl (s1, f), _ => .fault s1 f
  | _, .inl (s1, f) => .fault s1 f
  | .inr a, .inr b =>
    if a = b then .more (s.onDh n (fun c => c.advance true true 1))
    else .last (s.onDh n (fun c => { c with z := false, c := decide (b ≤ a) }))

/-- SCNS: one byte. -/
def dhScnsStep (n : Nat) (r : Fin 16) (s : State) : BlockStep :=
  let c := s.dev.dh n
  match s.dhLoad n c.brs.toNat 1 true with
  | .inl (s1, f) => .fault s1 f
  | .inr v =>
    if v = c.get r % 256 then .last (s.onDh n (fun c => { c with z := true }))
    else .more (s.onDh n (fun c => c.advance true false 1))

/-- CRCS: one byte into the CRC in Gr. -/
def dhCrcsStep (n : Nat) (r : Fin 16) (s : State) : BlockStep :=
  let c := s.dev.dh n
  match s.dhLoad n c.brs.toNat 1 true with
  | .inl (s1, f) => .fault s1 f
  | .inr v => .more (s.onDh n (fun c => { c with g := c.g.set r (crcByte polyC c.g[r] (BitVec.ofNat 8 v)) }.advance true false 1))

/-- Ones' complement sum of 16 bits. -/
def onesAdd (a b : Nat) : Nat := if 65536 ≤ a + b then (a + b + 1) % 65536 else a + b

/-- SUMS: one network-order word, or an odd last byte with a zero after it. -/
def dhSumsStep (n : Nat) (r : Fin 16) (s : State) : BlockStep :=
  let c := s.dev.dh n
  let k := if c.brc = 1 then 1 else 2
  match s.dhLoad n c.brs.toNat k true with
  | .inl (s1, f) => .fault s1 f
  | .inr v => .more (s.onDh n (fun c => (c.put r (onesAdd (c.get r % 65536) (v % 256 * 256 + v / 256))).advance true false k))

/-! ## Imprecise notices (R320, R391) -/

/-- A failed posted store of a core reaches its IMPRECISE register; the first one while none is held becomes a pending
notice. -/
def Dev.coreNotice (d : Dev) (m addr cause : Nat) (pend : Dev → Dev) : Dev :=
  let first := !(d.acu m).impValid
  let d1 := d.noteImprecise m addr cause
  if first then pend d1 else d1

/-- Deliver the notices of the failed posted stores of a lane, oldest first. -/
def Dev.dhDeliver (d : Dev) (n : Nat) : Dev :=
  let l := (d.dh n).posted
  l.foldl (fun y e => y.coreNotice (y.laneMaster n) e.1 e.2 (fun z => z.setDh n { z.dh n with notice := true }))
    (d.setDh n { d.dh n with posted := [] })

/-- FENCE (R320): every notice for earlier stores is pending when it completes. -/
def State.dhFence (s : State) (n : Nat) (shadow : Bool) : State :=
  s.deckhand n 1 2 (fun s => s.dhPaired n shadow (fun s => .seq (s.onDev (fun d => d.dhDeliver n))))

end Sys2Proof.Machine
end

