-- ==== Sys2Proof/Machine/DhUnits.lean ====
section
/-!
DEFINITION. A deckhand's unit operations: queue posts, inbox items, frame records, Bearings and cipher cores (R337–R341).
-/
namespace Sys2Proof.Machine

/-- R337: a register pair starts at an even register. -/
def Fin16.pair (r : Fin 16) : Bool := decide (r.val % 2 = 0)

/-- The register `k` after another. -/
def regAfter (r : Fin 16) (k : Nat) : Fin 16 := Fin.ofNat 16 (r.val + k)

/-- A unit operation: its register form is checked (R337), and its request waits for the shadow of a pair (R344). -/
def State.dhUnit (s : State) (n cycles : Nat) (ok shadow : Bool) (body : State → DhEnd) : State :=
  s.deckhand n 1 cycles (fun s => if ok then s.dhPaired n shadow body else .fault s { cause := 0x04 })

/-- Set Z. -/
def State.dhZ (s : State) (n : Nat) (z : Bool) : State := s.onDh n (fun c => { c with z := z })

/-- Bytes that a unit operation reads from the lane's data space, as one checked access. -/
def State.dhFetch (s : State) (n a w : Nat) : Sum (State × CoreFault) Bytes :=
  match s.dhCheck n a w false true with
  | some (s1, f) => .inl (s1, { f with info := f.info - 8 })
  | none => match s.dhBytes n a w with
    | some b => .inr b
    | none => .inl (s, { cause := 0x28, addr := a })

/-- The body of a descriptor that is not INLINE, read from the lane's data space; none where its access check fails. -/
def State.dhBody (s : State) (n : Nat) (desc : Bytes) : Option Bytes :=
  let a := leAt desc 8 8
  let w := leAt desc 16 2
  if a + w ≤ 2 ^ 32 && (s.dhCheck n a (max w 1) false true).isNone then s.dhBytes n a w else none

/-- A refusal is counted and kept by the queue that a lane names, where there is such a queue (R123, R165). -/
def Dev.countRefused (d : Dev) (q k : Nat) : Dev :=
  if q < 16384 then (d.onQueue q (fun x => { x with lastRefusal := k })).bump Od.qst_REFUSED q else d

/-- Offer a descriptor as a LANE-source item and answer the lane (R131, R337, R340). -/
def State.dhOffer (s : State) (n : Nat) (r : Fin 16) (q : Nat) (o : Offer) : DhEnd :=
  match s.dev.admitOffer q o with
  | (.accepted _, d) => .seq (({ s with dev := d }.onDh n (fun c => c.put r 0)).dhZ n false)
  | (.refused k, d) =>
    .seq (({ s with dev := d.countRefused q k }.onDh n (fun c => c.put r k)).dhZ n true)
  | (.waiting, _) => .stay

/-- Cycles of a QPOST or LPOST: at most 180, a free value (R345). -/
def State.dhPostCycles (s : State) : Nat := 1 + Config.freeNat s.dev.free % 180

/-- QPOST. -/
def State.dhQpost (s : State) (n : Nat) (r : Fin 16) (shadow : Bool) : State :=
  { s with dev := s.dev.take.2 }.dhUnit n s.dhPostCycles (Fin16.pair r) shadow (fun s =>
    let c := s.dev.dh n
    match s.dhFetch n (c.get (regAfter r 1)) 64 with
    | .inl (s1, f) => .fault s1 f
    | .inr desc => s.dhOffer n r (c.get r) (decodeOffer .lane desc (s.dhBody n desc)))

/-- LPOST: a LAUNCH_ENTRY descriptor of the image, TAG 0. -/
def State.dhLpost (s : State) (n : Nat) (r : Fin 16) (shadow : Bool) : State :=
  { s with dev := s.dev.take.2 }.dhUnit n s.dhPostCycles (Fin16.pair r) shadow (fun s =>
    let c := s.dev.dh n
    match s.dhFetch n (c.get (regAfter r 1)) 32 with
    | .inl (s1, f) => .fault s1 f
    | .inr img => s.dhOffer n r (c.get r) { source := .lane, kind := .launchEntry, body := img })

/-- The next untaken inbox item, in the order of handing over (R339). -/
def LaneIo.nextSlot (x : LaneIo) : Option (Nat × InboxSlot) :=
  (sortBy (fun e => (e.2.turn : Int)) (x.inbox.filter (fun e => !e.2.taken))).head?

/-- QTAKE. -/
def State.dhQtake (s : State) (n : Nat) (r : Fin 16) (shadow : Bool) : State :=
  s.dhUnit n 4 (Fin16.pair r) shadow (fun s =>
    match (s.dev.lane n).nextSlot with
    | none => .seq (s.dhZ n true)
    | some (k, e) =>
      let s1 := s.onDev (fun d => d.onLane n (fun x => { x with inbox := x.inbox.ins k { e with taken := true } }))
      .seq ((s1.onDh n (fun c => (c.put r (0x7000 + 512 * k)).put (regAfter r 1) e.queue)).dhZ n false))

/-- The inbox slot at an address that the lane holds (R340). -/
def LaneIo.heldSlot (x : LaneIo) (a : Nat) : Option (Nat × InboxSlot) :=
  if 0x7000 ≤ a && a < 0x8000 && a % 512 = 0 then
    (match x.inbox.find ((a - 0x7000) / 512) with
      | some e => if e.taken then some ((a - 0x7000) / 512, e) else none
      | none => none)
  else none

/-- End the item of a held slot and free the slot; a slot that is not held is misuse (R339, R340). -/
def Dev.dhEndSlot (d : Dev) (n a : Nat) (f : Dev → Nat → Dev) : Dev :=
  match (d.lane n).heldSlot a with
  | none => d.laneMisuse n true
  | some (k, e) => f (d.onLane n (fun x => { x with inbox := x.inbox.del k })) e.item

/-- QCONF. -/
def State.dhQconf (s : State) (n : Nat) (r : Fin 16) (shadow : Bool) : State :=
  s.dhUnit n 4 true shadow (fun s =>
    .seq (s.onDev (fun d => (d.dhEndSlot n ((d.dh n).get r) (fun y h => y.endItem h .confirmed 0)))))

/-- QREJ: reason 0x04, or 0x05 for any other value. -/
def State.dhQrej (s : State) (n : Nat) (r : Fin 16) (shadow : Bool) : State :=
  s.dhUnit n 4 (Fin16.pair r) shadow (fun s =>
    let v := (s.dev.dh n).get (regAfter r 1)
    .seq (s.onDev (fun d => (d.dhEndSlot n ((d.dh n).get r) (fun y h => y.endItem h .rejected (if v = 4 then 4 else 5))))))

/-- FTAKE: the oldest record that is not taken. -/
def State.dhFtake (s : State) (n : Nat) (r : Fin 16) (shadow : Bool) : State :=
  s.dhUnit n 4 (Fin16.pair r) shadow (fun s =>
    match (s.dev.lane n).records.find? (fun e => !e.taken) with
    | none => .seq (s.dhZ n true)
    | some e =>
      let s1 := s.onDev (fun d => d.onLane n (fun x =>
        { x with lastArrival := some e.arrival, records := x.records.map (fun y => if y = e then { y with taken := true } else y) }))
      .seq ((s1.onDh n (fun c => (c.put r (0x01000000 + e.offset)).put (regAfter r 1) e.bytes.length)).dhZ n false))

/-- The frame record at an address that the lane holds. -/
def LaneIo.heldRecord (x : LaneIo) (a : Nat) : Option FrameRec :=
  x.records.find? (fun e => e.taken && 0x01000000 + e.offset == a)

def LaneIo.dropRecord (x : LaneIo) (e : FrameRec) : LaneIo := { x with records := x.records.filter (fun y => y.offset ≠ e.offset) }

/-- FDONE. -/
def State.dhFdone (s : State) (n : Nat) (r : Fin 16) (shadow : Bool) : State :=
  s.dhUnit n 2 true shadow (fun s =>
    .seq (s.onDev (fun d => match (d.lane n).heldRecord ((d.dh n).get r) with
      | none => d.laneMisuse n true
      | some e => d.onLane n (fun x => x.dropRecord e))))

/-- The stamps of a record's extensions (R182). -/
def stampsOf : Nat → Bytes → List (Nat × Nat × BVal)
  | 0, _ => []
  | k + 1, b =>
    if b.length < 12 then []
    else (leAt b 0 1, leAt b 1 1, signedOf 64 (beAt b 4 8)) :: stampsOf k (b.drop 12)

/-- FFWD: the record's extensions and payload, as they stand in the pier buffer, leave on a session that is OPEN (R337). -/
def State.dhFfwd (s : State) (n : Nat) (r : Fin 16) (shadow : Bool) : State :=
  s.dhUnit n 6 (Fin16.pair r) shadow (fun s =>
    let c := s.dev.dh n
    match (s.dev.lane n).heldRecord (c.get r), s.dev.sesOf (c.get (regAfter r 1)) with
    | some e, some i =>
      if (s.dev.ses i).state = .opened && s.dev.maySend0 i then
        let ext := 4 * leAt e.bytes 26 1
        let raw := memRead s.mem (0x0200000000 + 0x400000 * s.dev.pierOf (n / 8) + e.offset + 32) (e.bytes.length - 32)
        let time := if e.hasTime then some (timeOfBe (raw.take 12)) else none
        let stamps := stampsOf 8 ((raw.take ext).drop (if e.hasTime then 12 else 0))
        .seq ((s.onDev (fun d =>
          let (q, d1) := d.takeTx i
          (d1.sendFrame i e.type 0 q (raw.drop ext) time stamps).onLane n (fun x => x.dropRecord e))).dhZ n false)
      else .seq (s.dhZ n true)
    | _, _ => .seq (s.dhZ n true))

/-- R341: a Bearing at an instant; before the kept fits it is the oldest fit's newest sample, with COARSE. -/
def Dev.evalAt (d : Dev) (b : Nat) (t : Ticks) : BEval :=
  let e := d.eval b t
  let x := d.brg b
  match x.fits.getLast? with
  | some f => if t < f.t0 && !x.fits.any (fun g => decide (g.t0 ≤ t)) && !d.isVirtual b && e.state ≠ .off then { e with pos := f.x0, coarse := true } else e
  | none => e

/-- BVRD; a Bearing that is OFF gives quality 0x80 (R341). -/
def State.dhBvrd (s : State) (n : Nat) (r : Fin 16) (shadow : Bool) : State :=
  s.dhUnit n 30 (decide (r.val = 0) || decide (r.val = 4) || decide (r.val = 8)) shadow (fun s =>
    let v := (s.dev.dh n).get r
    let b := v % 16
    let t := if bitOf v 4 then (s.dev.lane n).lastArrival.getD s.dev.now else s.dev.now
    let e := s.dev.evalAt b t
    let p := patternOf 64 e.pos
    .seq (s.onDh n (fun c => ((c.put r (p / 2 ^ 32)).put (regAfter r 1) (p % 2 ^ 32)).put (regAfter r 2)
      (if e.state = .off then 0x80 else e.quality s.dev.unlocked))))

/-- The cipher core that Gr names, in the lane's pier (R337). -/
def Dev.dhCore (d : Dev) (n : Nat) (r : Fin 16) : Nat := 4 * d.pierOf (n / 8) + (d.dh n).get r % 4

/-- CLOCK. -/
def State.dhClock (s : State) (n : Nat) (r : Fin 16) (shadow : Bool) : State :=
  s.dhUnit n 8 true shadow (fun s =>
    let k := s.dev.dhCore n r
    let s1 := s.onDev (fun d => d.lockWrite k (n + 1) (n + 1))
    .seq (s1.dhZ n (decide ((s1.dev.core k).user ≠ n + 1))))

/-- CFREE: a core that the lane does not hold counts in MISUSE (R340). -/
def State.dhCfree (s : State) (n : Nat) (r : Fin 16) (shadow : Bool) : State :=
  s.dhUnit n 2 true shadow (fun s =>
    let k := s.dev.dhCore n r
    if (s.dev.core k).user = n + 1 then .seq ((s.onDev (fun d => d.lockWrite k (n + 1) 0)).dhZ n false)
    else .seq ((s.onDev (fun d => d.laneMisuse n false)).dhZ n true))

/-- LEVT: Gr in DETAIL bytes 20–23. -/
def State.dhLevt (s : State) (n : Nat) (r : Fin 16) (shadow : Bool) : State :=
  s.dhUnit n 4 true shadow (fun s => .seq (s.onDev (fun d => d.raise (64 + n) 0x100 n [((d.dh n).get r : Int)])))

/-- WDOG (R343). -/
def State.dhWdog (s : State) (n : Nat) (shadow : Bool) : State :=
  s.dhUnit n 1 true shadow (fun s =>
    .seq (s.onDev (fun d => d.onLane n (fun x => { x with watchdog := some (d.now + d.cfg Od.lan_WDOG_TIME n) }))))

/-- SNAP (R335): nanoseconds to Gr; seconds and fraction to TSNAP. -/
def DhCore.snap (r : Fin 16) (now : Ticks) (c : DhCore) : DhCore :=
  let b := timeLe now
  { c.put r (leAt b 2 4) with tsnap := BitVec.ofNat 32 (leAt b 6 2 * 65536 + leAt b 0 2) }

end Sys2Proof.Machine
end

