-- ==== Sys2Proof/Machine/Deckhands.lean ====
section
/-!
DEFINITION. The deckhand instruction set, lanes and access check units (R314–R348, R377–R408).
-/
namespace Sys2Proof.Machine

/-- DH_MOV. Lane n copies Gs to Gd (R328). -/
def execDhMov (n : Fin 128) (d r : Fin 16) (t : Ticks) (s : State) : Host.Outcome State Fault Refusal :=
  s.runDh t n (dhRrCode 0 d r) (fun s => s.dhReg n 1 1 (DhCore.rr .mov d r))

/-- DH_ADD. Lane n adds Gs to Gd (R328). -/
def execDhAdd (n : Fin 128) (d r : Fin 16) (t : Ticks) (s : State) : Host.Outcome State Fault Refusal :=
  s.runDh t n (dhRrCode 1 d r) (fun s => s.dhReg n 1 1 (DhCore.rr .add d r))

/-- DH_SUB. Lane n subtracts Gs from Gd (R328). -/
def execDhSub (n : Fin 128) (d r : Fin 16) (t : Ticks) (s : State) : Host.Outcome State Fault Refusal :=
  s.runDh t n (dhRrCode 2 d r) (fun s => s.dhReg n 1 1 (DhCore.rr .sub d r))

/-- DH_ADC. Lane n adds Gs and C to Gd (R328). -/
def execDhAdc (n : Fin 128) (d r : Fin 16) (t : Ticks) (s : State) : Host.Outcome State Fault Refusal :=
  s.runDh t n (dhRrCode 3 d r) (fun s => s.dhReg n 1 1 (DhCore.rr .adc d r))

/-- DH_SBC. Lane n subtracts Gs and the borrow from Gd (R328). -/
def execDhSbc (n : Fin 128) (d r : Fin 16) (t : Ticks) (s : State) : Host.Outcome State Fault Refusal :=
  s.runDh t n (dhRrCode 4 d r) (fun s => s.dhReg n 1 1 (DhCore.rr .sbc d r))

/-- DH_AND. Lane n ands Gs into Gd (R328). -/
def execDhAnd (n : Fin 128) (d r : Fin 16) (t : Ticks) (s : State) : Host.Outcome State Fault Refusal :=
  s.runDh t n (dhRrCode 5 d r) (fun s => s.dhReg n 1 1 (DhCore.rr .and d r))

/-- DH_OR. Lane n ors Gs into Gd (R328). -/
def execDhOr (n : Fin 128) (d r : Fin 16) (t : Ticks) (s : State) : Host.Outcome State Fault Refusal :=
  s.runDh t n (dhRrCode 6 d r) (fun s => s.dhReg n 1 1 (DhCore.rr .or d r))

/-- DH_XOR. Lane n exclusive-ors Gs into Gd (R328). -/
def execDhXor (n : Fin 128) (d r : Fin 16) (t : Ticks) (s : State) : Host.Outcome State Fault Refusal :=
  s.runDh t n (dhRrCode 7 d r) (fun s => s.dhReg n 1 1 (DhCore.rr .xor d r))

/-- DH_CMP. Lane n compares Gd with Gs (R328). -/
def execDhCmp (n : Fin 128) (d r : Fin 16) (t : Ticks) (s : State) : Host.Outcome State Fault Refusal :=
  s.runDh t n (dhRrCode 8 d r) (fun s => s.dhReg n 1 1 (DhCore.rr .cmp d r))

/-- DH_TST. Lane n tests Gd and Gs (R328). -/
def execDhTst (n : Fin 128) (d r : Fin 16) (t : Ticks) (s : State) : Host.Outcome State Fault Refusal :=
  s.runDh t n (dhRrCode 9 d r) (fun s => s.dhReg n 1 1 (DhCore.rr .tst d r))

/-- DH_LSL. Lane n shifts Gd left by Gs[4:0] (R328). -/
def execDhLsl (n : Fin 128) (d r : Fin 16) (t : Ticks) (s : State) : Host.Outcome State Fault Refusal :=
  s.runDh t n (dhRrCode 10 d r) (fun s => s.dhReg n 1 1 (DhCore.rr .lsl d r))

/-- DH_LSR. Lane n shifts Gd right by Gs[4:0] with zero fill (R328). -/
def execDhLsr (n : Fin 128) (d r : Fin 16) (t : Ticks) (s : State) : Host.Outcome State Fault Refusal :=
  s.runDh t n (dhRrCode 11 d r) (fun s => s.dhReg n 1 1 (DhCore.rr .lsr d r))

/-- DH_ASR. Lane n shifts Gd right by Gs[4:0] with sign fill (R328). -/
def execDhAsr (n : Fin 128) (d r : Fin 16) (t : Ticks) (s : State) : Host.Outcome State Fault Refusal :=
  s.runDh t n (dhRrCode 12 d r) (fun s => s.dhReg n 1 1 (DhCore.rr .asr d r))

/-- DH_ROR. Lane n rotates Gd right by Gs[4:0] (R328). -/
def execDhRor (n : Fin 128) (d r : Fin 16) (t : Ticks) (s : State) : Host.Outcome State Fault Refusal :=
  s.runDh t n (dhRrCode 13 d r) (fun s => s.dhReg n 1 1 (DhCore.rr .ror d r))

/-- DH_MULU. Lane n issues the unsigned product Gd × Gs (R328, R333). -/
def execDhMulu (n : Fin 128) (d r : Fin 16) (t : Ticks) (s : State) : Host.Outcome State Fault Refusal :=
  s.runDh t n (dhRrCode 14 d r) (fun s => s.dhReg n 1 1 (fun c => { c with products := c.products ++ [BitVec.ofNat 64 (productOf false 32 64 (c.get d) (c.get r))] }))

/-- DH_MULS. Lane n issues the signed product Gd × Gs (R328, R333). -/
def execDhMuls (n : Fin 128) (d r : Fin 16) (t : Ticks) (s : State) : Host.Outcome State Fault Refusal :=
  s.runDh t n (dhRrCode 15 d r) (fun s => s.dhReg n 1 1 (fun c => { c with products := c.products ++ [BitVec.ofNat 64 (productOf true 32 64 (c.get d) (c.get r))] }))

/-- DH_PRODUCT_COMPLETE. The oldest product in flight is written into MHI:MLO (R333). -/
def execDhProductComplete (n : Fin 128) (t : Ticks) (s : State) : Host.Outcome State Fault Refusal :=
  s.runS t (fun s => s.onDh n DhCore.completeProduct)

/-- DH_MOVI. Lane n loads an immediate; `l` are the payloads of the LIMMs before it (R327, R329). -/
def execDhMovi (n : Fin 128) (d : Fin 16) (own : BitVec 6) (l : List (BitVec 11)) (t : Ticks) (s : State) : Host.Outcome State Fault Refusal :=
  s.runDh t n (dhRiCode 0 d own l) (fun s => s.dhLimm n l 1 (fun s => .seq (s.onDh n (DhCore.ri .mov d (limmSigned 6 own.toNat l)))))

/-- DH_ADDI. Lane n adds an immediate (R327, R329). -/
def execDhAddi (n : Fin 128) (d : Fin 16) (own : BitVec 6) (l : List (BitVec 11)) (t : Ticks) (s : State) : Host.Outcome State Fault Refusal :=
  s.runDh t n (dhRiCode 1 d own l) (fun s => s.dhLimm n l 1 (fun s => .seq (s.onDh n (DhCore.ri .add d (limmSigned 6 own.toNat l)))))

/-- DH_CMPI. Lane n compares with an immediate (R327, R329). -/
def execDhCmpi (n : Fin 128) (d : Fin 16) (own : BitVec 6) (l : List (BitVec 11)) (t : Ticks) (s : State) : Host.Outcome State Fault Refusal :=
  s.runDh t n (dhRiCode 2 d own l) (fun s => s.dhLimm n l 1 (fun s => .seq (s.onDh n (DhCore.ri .cmp d (limmSigned 6 own.toNat l)))))

/-- DH_SHI. Lane n shifts by an immediate (R329). -/
def execDhShi (n : Fin 128) (d : Fin 16) (imm : BitVec 6) (t : Ticks) (s : State) : Host.Outcome State Fault Refusal :=
  s.runDh t n (dhRiCode 3 d imm []) (fun s => s.dhReg n 1 1 (DhCore.shi d imm))

/-- DH_BR. Lane n branches (R327, R330). -/
def execDhBr (n : Fin 128) (own : BitVec 10) (l : List (BitVec 11)) (t : Ticks) (s : State) : Host.Outcome State Fault Refusal :=
  s.runDh t n (dhBrCode false own l) (fun s => s.dhBranch n own l false)

/-- DH_CALL. Lane n calls (R327, R330). -/
def execDhCall (n : Fin 128) (own : BitVec 10) (l : List (BitVec 11)) (t : Ticks) (s : State) : Host.Outcome State Fault Refusal :=
  s.runDh t n (dhBrCode true own l) (fun s => s.dhBranch n own l true)

/-- DH_JR. Lane n jumps to Gs (R330). -/
def execDhJr (n : Fin 128) (r : Fin 16) (t : Ticks) (s : State) : Host.Outcome State Fault Refusal :=
  s.runDh t n (dhControlCode 1 r) (fun s => s.dhJump n r false)

/-- DH_CALLR. Lane n calls Gs (R330). -/
def execDhCallr (n : Fin 128) (r : Fin 16) (t : Ticks) (s : State) : Host.Outcome State Fault Refusal :=
  s.runDh t n (dhControlCode 2 r) (fun s => s.dhJump n r true)

/-- DH_RET. Lane n returns through G15 (R330). -/
def execDhRet (n : Fin 128) (t : Ticks) (s : State) : Host.Outcome State Fault Refusal :=
  s.runDh t n (dhSysCode 0) (fun s => s.dhJump n 15 false)

/-- DH_TRET. Lane n resumes the TSB at TSBP (R330, R382, R388). -/
def execDhTret (n : Fin 128) (t : Ticks) (s : State) : Host.Outcome State Fault Refusal :=
  s.runDh t n (dhSysCode 1) (fun s => s.dhTret n)

/-- DH_WAIT. Lane n stops fetching until EVP ≠ 0 (R330). -/
def execDhWait (n : Fin 128) (t : Ticks) (s : State) : Host.Outcome State Fault Refusal :=
  s.runDh t n (dhSysCode 2) (fun s => s.dhWait n)

/-- DH_NOP. Lane n does nothing (R330). -/
def execDhNop (n : Fin 128) (t : Ticks) (s : State) : Host.Outcome State Fault Refusal :=
  s.runDh t n (dhSysCode 3) (fun s => s.deckhand n 1 1 .seq)

/-- DH_SKCC. Lane n skips the next instruction where the condition holds (R331). -/
def execDhSkcc (n : Fin 128) (cc : Fin 16) (t : Ticks) (s : State) : Host.Outcome State Fault Refusal :=
  s.runDh t n (dhControlCode 0 cc) (fun s => s.dhSkip n cc)

/-- DH_LOOP. Lane n sets up its loop (R332). -/
def execDhLoop (n : Fin 128) (r : Fin 16) (own : BitVec 6) (l : List (BitVec 11)) (t : Ticks) (s : State) : Host.Outcome State Fault Refusal :=
  s.runDh t n (dhLoopCode r own l) (fun s => s.dhLoop n r own l)

/-- DH_LDB. Lane n loads Gr from G[8 + base] + imm (R334). -/
def execDhLdb (n : Fin 128) (r : Fin 16) (base : Fin 8) (l : List (BitVec 11)) (t : Ticks) (s : State) : Host.Outcome State Fault Refusal :=
  s.runDh t n (dhMemCode false 0 r base l) (fun s => s.dhLd n 1 r base l)

/-- DH_LDH. Lane n loads Gr from G[8 + base] + imm (R334). -/
def execDhLdh (n : Fin 128) (r : Fin 16) (base : Fin 8) (l : List (BitVec 11)) (t : Ticks) (s : State) : Host.Outcome State Fault Refusal :=
  s.runDh t n (dhMemCode false 1 r base l) (fun s => s.dhLd n 2 r base l)

/-- DH_LDW. Lane n loads Gr from G[8 + base] + imm (R334). -/
def execDhLdw (n : Fin 128) (r : Fin 16) (base : Fin 8) (l : List (BitVec 11)) (t : Ticks) (s : State) : Host.Outcome State Fault Refusal :=
  s.runDh t n (dhMemCode false 2 r base l) (fun s => s.dhLd n 4 r base l)

/-- DH_STB. Lane n stores Gr to G[8 + base] + imm; `shadow` says that the shadow of a pair has produced the same request (R334, R344). -/
def execDhStb (n : Fin 128) (r : Fin 16) (base : Fin 8) (l : List (BitVec 11)) (shadow : Bool) (t : Ticks) (s : State) : Host.Outcome State Fault Refusal :=
  s.runDh t n (dhMemCode true 0 r base l) (fun s => s.dhSt n 1 r base l shadow)

/-- DH_STH. Lane n stores Gr to G[8 + base] + imm; `shadow` says that the shadow of a pair has produced the same request (R334, R344). -/
def execDhSth (n : Fin 128) (r : Fin 16) (base : Fin 8) (l : List (BitVec 11)) (shadow : Bool) (t : Ticks) (s : State) : Host.Outcome State Fault Refusal :=
  s.runDh t n (dhMemCode true 1 r base l) (fun s => s.dhSt n 2 r base l shadow)

/-- DH_STW. Lane n stores Gr to G[8 + base] + imm; `shadow` says that the shadow of a pair has produced the same request (R334, R344). -/
def execDhStw (n : Fin 128) (r : Fin 16) (base : Fin 8) (l : List (BitVec 11)) (shadow : Bool) (t : Ticks) (s : State) : Host.Outcome State Fault Refusal :=
  s.runDh t n (dhMemCode true 2 r base l) (fun s => s.dhSt n 4 r base l shadow)

/-- DH_MFS. Lane n reads a special register (R322). -/
def execDhMfs (n : Fin 128) (r sr : Fin 16) (t : Ticks) (s : State) : Host.Outcome State Fault Refusal :=
  s.runDh t n (dhMoveCode false sr r) (fun s => s.dhMfsI n r sr)

/-- DH_MTS. Lane n writes a special register (R322–R324). -/
def execDhMts (n : Fin 128) (sr r : Fin 16) (shadow : Bool) (t : Ticks) (s : State) : Host.Outcome State Fault Refusal :=
  s.runDh t n (dhMoveCode true sr r) (fun s => s.dhMtsI n sr r shadow)

/-- DH_RDFEAT. Lane n reads a feature register (R325, R335). -/
def execDhRdfeat (n : Fin 128) (r : Fin 16) (k : Fin 4) (t : Ticks) (s : State) : Host.Outcome State Fault Refusal :=
  s.runDh t n (dhSubCode false k r) (fun s => s.dhReg n 1 1 (fun c => c.put r (dhFeat k)))

/-- DH_BSW16. Lane n exchanges bytes 0 and 1 of Gr and clears the others (R335). -/
def execDhBsw16 (n : Fin 128) (r : Fin 16) (t : Ticks) (s : State) : Host.Outcome State Fault Refusal :=
  s.runDh t n (dhSubCode false 4 r) (fun s => s.dhReg n 1 1 (fun c => c.put r (c.get r % 256 * 256 + c.get r / 256 % 256)))

/-- DH_BSW32. Lane n reverses the bytes of Gr (R335). -/
def execDhBsw32 (n : Fin 128) (r : Fin 16) (t : Ticks) (s : State) : Host.Outcome State Fault Refusal :=
  s.runDh t n (dhSubCode false 5 r) (fun s => s.dhReg n 1 1 (fun c => c.put r (leNat (toBe 4 (c.get r)))))

/-- DH_MOVS. Lane n copies BRC bytes; `upTo` names an element boundary at which an event exception is due (R335, R336). -/
def execDhMovs (n : Fin 128) (upTo : Option Nat) (t : Ticks) (s : State) : Host.Outcome State Fault Refusal :=
  s.runDh t n (dhSubCode false 6 0) (fun s => s.dhBlock n 8 true upTo (dhMovsStep n) id)

/-- DH_FILS. Lane n fills BRC bytes with Gr[7:0]; `upTo` names an element boundary at which an event exception is due (R335, R336). -/
def execDhFils (n : Fin 128) (r : Fin 16) (upTo : Option Nat) (t : Ticks) (s : State) : Host.Outcome State Fault Refusal :=
  s.runDh t n (dhSubCode false 7 r) (fun s => s.dhBlock n 8 true upTo (dhFilsStep n r) id)

/-- DH_CMPS. Lane n compares two strings; `upTo` names an element boundary at which an event exception is due (R335, R336). -/
def execDhCmps (n : Fin 128) (upTo : Option Nat) (t : Ticks) (s : State) : Host.Outcome State Fault Refusal :=
  s.runDh t n (dhSubCode false 8 0) (fun s => s.dhBlock n 8 true upTo (dhCmpsStep n) (fun s => s.dhZ n true))

/-- DH_SCNS. Lane n scans for Gr[7:0]; `upTo` names an element boundary at which an event exception is due (R335, R336). -/
def execDhScns (n : Fin 128) (r : Fin 16) (upTo : Option Nat) (t : Ticks) (s : State) : Host.Outcome State Fault Refusal :=
  s.runDh t n (dhSubCode false 9 r) (fun s => s.dhBlock n 8 false upTo (dhScnsStep n r) (fun s => s.dhZ n false))

/-- DH_CRCS. Lane n continues a CRC-32C; `upTo` names an element boundary at which an event exception is due (R335, R336). -/
def execDhCrcs (n : Fin 128) (r : Fin 16) (upTo : Option Nat) (t : Ticks) (s : State) : Host.Outcome State Fault Refusal :=
  s.runDh t n (dhSubCode false 10 r) (fun s => s.dhBlock n 4 false upTo (dhCrcsStep n r) id)

/-- DH_SUMS. Lane n continues a ones' complement sum; `upTo` names an element boundary at which an event exception is due (R335, R336). -/
def execDhSums (n : Fin 128) (r : Fin 16) (upTo : Option Nat) (t : Ticks) (s : State) : Host.Outcome State Fault Refusal :=
  s.runDh t n (dhSubCode false 11 r) (fun s => s.dhBlock n 8 false upTo (dhSumsStep n r) id)

/-- DH_SNAP. Lane n latches chip time (R335). -/
def execDhSnap (n : Fin 128) (r : Fin 16) (t : Ticks) (s : State) : Host.Outcome State Fault Refusal :=
  s.runDh t n (dhSubCode false 12 r) (fun s => s.deckhand n 1 4 (fun s => .seq (s.onDh n (DhCore.snap r s.dev.now))))

/-- DH_FENCE. Lane n waits for its earlier posted stores (R320). -/
def execDhFence (n : Fin 128) (shadow : Bool) (t : Ticks) (s : State) : Host.Outcome State Fault Refusal :=
  s.runDh t n (dhSubCode false 13 0) (fun s => s.dhFence n shadow)

/-- QPOST. Lane n offers a descriptor to a queue (R337, R340). -/
def execQpost (n : Fin 128) (r : Fin 16) (shadow : Bool) (t : Ticks) (s : State) : Host.Outcome State Fault Refusal :=
  s.runDh t n (dhSubCode true 0 r) (fun s => s.dhQpost n r shadow)

/-- LPOST. Lane n offers a launch entry to a queue (R337, R340). -/
def execLpost (n : Fin 128) (r : Fin 16) (shadow : Bool) (t : Ticks) (s : State) : Host.Outcome State Fault Refusal :=
  s.runDh t n (dhSubCode true 1 r) (fun s => s.dhLpost n r shadow)

/-- QTAKE. Lane n takes the next inbox item (R337, R340). -/
def execQtake (n : Fin 128) (r : Fin 16) (shadow : Bool) (t : Ticks) (s : State) : Host.Outcome State Fault Refusal :=
  s.runDh t n (dhSubCode true 2 r) (fun s => s.dhQtake n r shadow)

/-- QCONF. Lane n confirms an item (R337, R340). -/
def execQconf (n : Fin 128) (r : Fin 16) (shadow : Bool) (t : Ticks) (s : State) : Host.Outcome State Fault Refusal :=
  s.runDh t n (dhSubCode true 3 r) (fun s => s.dhQconf n r shadow)

/-- QREJ. Lane n rejects an item (R337, R340). -/
def execQrej (n : Fin 128) (r : Fin 16) (shadow : Bool) (t : Ticks) (s : State) : Host.Outcome State Fault Refusal :=
  s.runDh t n (dhSubCode true 4 r) (fun s => s.dhQrej n r shadow)

/-- FTAKE. Lane n takes the next frame record (R337, R340). -/
def execFtake (n : Fin 128) (r : Fin 16) (shadow : Bool) (t : Ticks) (s : State) : Host.Outcome State Fault Refusal :=
  s.runDh t n (dhSubCode true 5 r) (fun s => s.dhFtake n r shadow)

/-- FDONE. Lane n releases a frame record (R337, R340). -/
def execFdone (n : Fin 128) (r : Fin 16) (shadow : Bool) (t : Ticks) (s : State) : Host.Outcome State Fault Refusal :=
  s.runDh t n (dhSubCode true 6 r) (fun s => s.dhFdone n r shadow)

/-- FFWD. Lane n forwards a frame record (R337, R340). -/
def execFfwd (n : Fin 128) (r : Fin 16) (shadow : Bool) (t : Ticks) (s : State) : Host.Outcome State Fault Refusal :=
  s.runDh t n (dhSubCode true 7 r) (fun s => s.dhFfwd n r shadow)

/-- BVRD. Lane n reads a Bearing (R337, R340). -/
def execBvrd (n : Fin 128) (r : Fin 16) (shadow : Bool) (t : Ticks) (s : State) : Host.Outcome State Fault Refusal :=
  s.runDh t n (dhSubCode true 8 r) (fun s => s.dhBvrd n r shadow)

/-- CLOCK. Lane n locks a cipher core (R337, R340). -/
def execClock (n : Fin 128) (r : Fin 16) (shadow : Bool) (t : Ticks) (s : State) : Host.Outcome State Fault Refusal :=
  s.runDh t n (dhSubCode true 9 r) (fun s => s.dhClock n r shadow)

/-- CFREE. Lane n releases a cipher core (R337, R340). -/
def execCfree (n : Fin 128) (r : Fin 16) (shadow : Bool) (t : Ticks) (s : State) : Host.Outcome State Fault Refusal :=
  s.runDh t n (dhSubCode true 10 r) (fun s => s.dhCfree n r shadow)

/-- LEVT. Lane n raises LANE_EVENT (R337, R340). -/
def execLevt (n : Fin 128) (r : Fin 16) (shadow : Bool) (t : Ticks) (s : State) : Host.Outcome State Fault Refusal :=
  s.runDh t n (dhSubCode true 11 r) (fun s => s.dhLevt n r shadow)

/-- WDOG. Lane n restarts its watchdog (R337, R343). -/
def execWdog (n : Fin 128) (shadow : Bool) (t : Ticks) (s : State) : Host.Outcome State Fault Refusal :=
  s.runDh t n (dhSubCode true 12 0) (fun s => s.dhWdog n shadow)

/-- DH_EVENT_EXCEPTION. An event exception is taken at the boundary (R385, R386, R390). -/
def execDhEventException (n : Fin 128) (t : Ticks) (s : State) : Host.Outcome State Fault Refusal :=
  s.runS t (fun s => s.dhEvent n)

/-- DH_ILLEGAL_OPCODE. Lane n meets an encoding of R326, R327 or R337 that raises an illegal-opcode fault: its words less one, and its cause code less one. -/
def execDhIllegalOpcode (n : Fin 128) (words : Fin 3) (cause : Fin 4) (t : Ticks) (s : State) : Host.Outcome State Fault Refusal :=
  s.runS t (fun s =>
    if dhIllegal ((s.dev.lane n).code.drop (s.dev.dh n).pc.toNat) = some (1 + words.val, 1 + cause.val) then
      s.deckhand n (1 + words) 1 (fun s => .fault s { cause := 1 + cause })
    else s)

/-- LANE_ENABLE. ENABLE of a lane is written (R347). -/
def execLaneEnable (n : Fin 136) (on : Bool) (t : Ticks) (s : State) : Host.Outcome State Fault Refusal :=
  s.action t (fun d => answered (d.laneEnable n on))

/-- LANE_STOP. A disabled lane with no work left stops (R347). -/
def execLaneStop (n : Fin 136) (t : Ticks) (s : State) : Host.Outcome State Fault Refusal :=
  s.run t (fun d => d.laneStop n)

/-- LANE_WATCHDOG. The watchdog of a lane expires (R343). -/
def execLaneWatchdog (n : Fin 128) (t : Ticks) (s : State) : Host.Outcome State Fault Refusal :=
  s.run t (fun d => d.laneWatchdog n)

/-- PAIRED_LANE_LAG. The shadow of a pair lags by a number of cycles (R344). -/
def execPairedLaneLag (n : Fin 128) (lag : Nat) (t : Ticks) (s : State) : Host.Outcome State Fault Refusal :=
  s.run t (fun d => d.pairedLag n lag)

/-- ACU_RGN_ATTR. Resident firmware writes ATTR of a region (R401, R405). -/
def execAcuRgnAttr (m : Fin 174) (r : Fin 32) (v : Word32) (t : Ticks) (s : State) : Host.Outcome State Fault Refusal :=
  s.work t (fun d => d.regionAttr m r v.toNat)

/-- ACU_IMPRECISE_CLEAR. Resident firmware clears VALID of an IMPRECISE register (R408). -/
def execAcuImpreciseClear (m : Fin 174) (t : Ticks) (s : State) : Host.Outcome State Fault Refusal :=
  s.work t (fun d => d.impClear m)

end Sys2Proof.Machine
end

