-- ==== Sys2Proof/Machine/Faulting.lean ====
section
/-!
DEFINITION. Commands of the fault collector and the tamper monitors (R500–R526).
-/
namespace Sys2Proof.Machine

/-- RELEASE_HOLD. RELEASE_HOLD is written (R505). -/
def execReleaseHold (v : Nat) (t : Ticks) (s : State) : Host.Outcome State Fault Refusal :=
  s.run t (fun d => if d.flt.chipSafe then d.emit (.writeStatus 9) else answered (if v = 1 then d.releaseHold else (8, d)))

/-- RELEASE_SAFE. RELEASE_SAFE is written (R506). -/
def execReleaseSafe (v : Nat) (t : Ticks) (s : State) : Host.Outcome State Fault Refusal :=
  s.run t (fun d => if d.flt.chipSafe then d.emit (.writeStatus 9) else answered (if v = 1 then d.releaseSafe else (8, d)))

/-- FCU_FAULTN. A write of FCU_FAULTN (R522). -/
def execFcuFaultn (v : Word32) (t : Ticks) (s : State) : Host.Outcome State Fault Refusal :=
  s.boot t (fun d => d.fcuFaultn v.toNat)

/-- FCU_ACTIVE. A write of FCU_ACTIVE[w] (R523). -/
def execFcuActive (w : Fin 32) (v : Word32) (t : Ticks) (s : State) : Host.Outcome State Fault Refusal :=
  s.boot t (fun d => d.fcuActive w v.toNat)

/-- MERGE_WINDOW. MERGE_WINDOW of a merging source has passed (R512). -/
def execMergeWindow (src : Nat) (t : Ticks) (s : State) : Host.Outcome State Fault Refusal :=
  s.boot t (fun d => d.mergeWindow src)

/-- FAULTN_MIN_LOW. The minimum low time of FAULT_N is over (R510). -/
def execFaultnMinLow (t : Ticks) (s : State) : Host.Outcome State Fault Refusal :=
  s.boot t Dev.faultnMinLow

/-- EXT_FAULT. FAULT_N has been sensed low for a time, or is sensed high again (R510). -/
def execExtFault (lowFor : Option Ticks) (t : Ticks) (s : State) : Host.Outcome State Fault Refusal :=
  s.boot t (fun d => d.extFault lowFor)

/-- SUPPLY_GLITCH. An excursion of a rail beyond ±15 %, with its sense and length (R515). -/
def execSupplyGlitch (rail : Fin 8) (rising : Bool) (width t : Ticks) (s : State) : Host.Outcome State Fault Refusal :=
  s.watch t (fun d => d.supplyGlitch rail rising width)

/-- SLOW_SUPPLY. A rail has been outside ±7 % for a time (R515). While a power failure is saved it counts toward no level (log entry 170). -/
def execSlowSupply (rail : Fin 8) (len t : Ticks) (s : State) : Host.Outcome State Fault Refusal :=
  s.watch t (fun d => if len < 2 * us then d else d.slowSupply rail (!d.man.saving))

/-- CLOCK_GLITCH. A clock period more than 12 % from nominal (R515). -/
def execClockGlitch (t : Ticks) (s : State) : Host.Outcome State Fault Refusal :=
  s.watch t Dev.clockGlitch

/-- REFCLK_LOSS. No REFCLK edge for a time (R515). -/
def execRefclkLoss (gap t : Ticks) (s : State) : Host.Outcome State Fault Refusal :=
  s.watch t (fun d => d.refclkLoss gap)

/-- TEMPERATURE_HIGH. The hottest sensor has been above +150 °C for 1 ms (R515). -/
def execTemperatureHigh (t : Ticks) (s : State) : Host.Outcome State Fault Refusal :=
  s.watch t (fun d => d.temperature true)

/-- TEMPERATURE_LOW. The coldest sensor has been below -70 °C for 1 ms (R515). -/
def execTemperatureLow (t : Ticks) (s : State) : Host.Outcome State Fault Refusal :=
  s.watch t (fun d => d.temperature false)

/-- SHIELD_EVENT. The shield mesh is open, or shorted or wrong in its pattern; whether the other rails are up (R516). -/
def execShieldEvent (short rails : Bool) (t : Ticks) (s : State) : Host.Outcome State Fault Refusal :=
  s.watch t (fun d => d.shieldEvent short rails)

/-- MONITOR_ARM. 1 ms after the release of RESET_N; whether every rail stayed within ±7 % (R515). -/
def execMonitorArm (inRange : Bool) (t : Ticks) (s : State) : Host.Outcome State Fault Refusal :=
  s.boot t (fun d => d.monitorArm inRange)

end Sys2Proof.Machine
end

