-- ==== Sys2Proof/Machine/Ferrying.lean ====
section
/-!
DEFINITION. Ferry ports, the flotilla and the twin pair (R212–R242).
-/
namespace Sys2Proof.Machine

/-- FERRY_PORT_ENABLE. A Ferry port's ENABLE is written (R213). -/
def execFerryPortEnable (p : Fin 8) (on : Bool) (t : Ticks) (s : State) : Host.Outcome State Fault Refusal :=
  s.action t (fun d => d.ferryEnable p on)

/-- FERRY_TRAINING_TIMEOUT. Training has lasted 20 ms (R213). -/
def execFerryTrainingTimeout (p : Fin 8) (t : Ticks) (s : State) : Host.Outcome State Fault Refusal :=
  s.run t (fun d => d.ferryTrainTimeout p)

/-- FERRY_PORT_UP. Training and link authentication have completed, with what they found (R213–R215, R220, R221). -/
def execFerryPortUp (p : Fin 8) (r : FerryTrained) (t : Ticks) (s : State) : Host.Outcome State Fault Refusal :=
  s.run t (fun d => d.ferryUp p r)

/-- FERRY_NAK. A LINK NAK (R217). -/
def execFerryNak (p : Fin 8) (ack : Nat) (tagOk : Bool) (t : Ticks) (s : State) : Host.Outcome State Fault Refusal :=
  s.run t (fun d => d.ferryNak p ack tagOk)

/-- FERRY_IDLE. A LINK IDLE (R219). -/
def execFerryIdle (p : Fin 8) (ack : Nat) (tagOk : Bool) (t : Ticks) (s : State) : Host.Outcome State Fault Refusal :=
  s.run t (fun d => d.ferryIdle p ack tagOk)

/-- FERRY_IDLE_SEND. A port has had nothing to send for 200 ns (R219). -/
def execFerryIdleSend (p : Fin 8) (t : Ticks) (s : State) : Host.Outcome State Fault Refusal :=
  s.run t (fun d => d.ferryIdleSend p)

/-- FERRY_RESEND_TIMEOUT. A frame has gone 500 ns without acknowledgement (R217). -/
def execFerryResendTimeout (p : Fin 8) (t : Ticks) (s : State) : Host.Outcome State Fault Refusal :=
  s.run t (fun d => d.ferryResendTimeout p)

/-- FERRY_DOWN. 32 resends, or 2 µs without a valid frame (R219). -/
def execFerryDown (p : Fin 8) (t : Ticks) (s : State) : Host.Outcome State Fault Refusal :=
  s.run t (fun d => d.ferryDown p)

/-- FERRY_TIME_SEND. A TIME exchange is due on a port (R223). -/
def execFerryTimeSend (p : Fin 8) (t : Ticks) (s : State) : Host.Outcome State Fault Refusal :=
  s.run t (fun d => d.ferryTimeSend p)

/-- FERRY_TIME_EXCHANGE. A TIME exchange has completed on a port (R223, R224). -/
def execFerryTimeExchange (p : Fin 8) (x : TimeExchange) (t : Ticks) (s : State) : Host.Outcome State Fault Refusal :=
  s.run t (fun d => d.timeExchange p x)

/-- MASTER_LOST. The master's TIME frames have been missing for 10 µs (R222). -/
def execMasterLost (t : Ticks) (s : State) : Host.Outcome State Fault Refusal :=
  s.run t (fun d => d.masterLost)

/-- TWIN_HEARTBEAT_SEND. A twin heartbeat is due (R228). -/
def execTwinHeartbeatSend (t : Ticks) (s : State) : Host.Outcome State Fault Refusal :=
  s.run t (fun d => d.twinHbSend)

/-- TWIN_HEARTBEAT_RECEIVE. A twin heartbeat (R228, R229, R234). -/
def execTwinHeartbeatReceive (h : TwinHeartbeat) (t : Ticks) (s : State) : Host.Outcome State Fault Refusal :=
  s.run t (fun d => d.twinHbReceive h)

/-- REPL_RECORD. A RECORD message: its count and its cells (R230). -/
def execReplRecord (n : Nat) (c : CellRec) (t : Ticks) (s : State) : Host.Outcome State Fault Refusal :=
  s.run t (fun d => d.twinGot.replRecord n c)

/-- REPL_SESSION_STATE. A SESSION_STATE message (R230). -/
def execReplSessionState (i : Fin 16384) (c : SessionCopy) (t : Ticks) (s : State) : Host.Outcome State Fault Refusal :=
  s.run t (fun d => d.twinGot.replSessionState i c)

/-- REPL_KEYS. A KEYS message, unwrapped: keys and resumption secret (R179, R230). -/
def execReplKeys (i : Fin 16384) (k : KeysCopy) (r : Bytes) (t : Ticks) (s : State) : Host.Outcome State Fault Refusal :=
  s.run t (fun d => d.twinGot.replKeysIn i k.keys k.switch r)

/-- UNJOIN. An UNJOIN message (R234). -/
def execUnjoin (claim _reason : Nat) (t : Ticks) (s : State) : Host.Outcome State Fault Refusal :=
  s.run t (fun d => d.twinGot.unjoinReceive claim)

/-- RESYNC. A RESYNC message: the half of a block and its cells (R235). -/
def execResync (block half : Nat) (cells : List CellRec) (t : Ticks) (s : State) : Host.Outcome State Fault Refusal :=
  s.run t (fun d => d.twinGot.resync block half cells)

/-- TAKEOVER. Both paths have been silent for DETECT_TIME, and whether the two takings of the claim decision agree (R236). -/
def execTakeover (t : ClaimTime) (s : State) : Host.Outcome State Fault Refusal :=
  s.run t.t (fun d => d.takeoverDue t.agree)

/-- MIRROR_STALE. The mirror has lagged for DETECT_TIME (R234). -/
def execMirrorStale (t : Ticks) (s : State) : Host.Outcome State Fault Refusal :=
  s.run t (fun d => d.mirrorStale)

/-- JOIN_TIME. JOIN_TIME has passed without the peer, and whether the two takings of the claim decision agree (R234). -/
def execJoinTime (t : ClaimTime) (s : State) : Host.Outcome State Fault Refusal :=
  s.run t.t (fun d => d.joinTime t.agree)

/-- YIELD. YIELD is written (R239). -/
def execYield (t : Ticks) (s : State) : Host.Outcome State Fault Refusal :=
  s.write t (fun d => d.yieldNow)

/-- YIELD_RECEIVE. A YIELD message (R239). -/
def execYieldReceive (claim : Nat) (y t : Ticks) (s : State) : Host.Outcome State Fault Refusal :=
  s.run t (fun d => d.twinGot.yieldReceive claim y)

/-- YIELD_INSTANT. Y has come, and whether the two takings of the claim decision agree (R239). -/
def execYieldInstant (t : ClaimTime) (s : State) : Host.Outcome State Fault Refusal :=
  s.run t.t (fun d => d.yieldInstant t.agree)

/-- YIELD_FAILED. No heartbeat has shown the new claim by Y + 1 µs (R239). -/
def execYieldFailed (t : Ticks) (s : State) : Host.Outcome State Fault Refusal :=
  s.run t (fun d => d.yieldFailed)

/-- ISOLATION_CONFIRM. ISOLATION_CONFIRM has passed (R241). -/
def execIsolationConfirm (t : Ticks) (s : State) : Host.Outcome State Fault Refusal :=
  s.run t (fun d => d.isolationConfirm)

/-- PEER_DEAD. PEER_DEAD is written (R241). -/
def execPeerDead (t : Ticks) (s : State) : Host.Outcome State Fault Refusal :=
  s.write t (fun d => d.peerDead)

/-- BOTH_PATHS_SILENT. An ACTIVE unit has heard no heartbeat for DETECT_TIME (R234). -/
def execBothPathsSilent (t : Ticks) (s : State) : Host.Outcome State Fault Refusal :=
  s.run t (fun d => d.bothSilent)

/-- HEARTBEAT_PATH_LOST. One heartbeat path has stopped delivering (R247). -/
def execHeartbeatPathLost (path : Fin 3) (t : Ticks) (s : State) : Host.Outcome State Fault Refusal :=
  s.run t (fun d => d.pathLost path)

/-- PIER_RETIRE. A retirement cause isolates a pier and migrates its slice (R243–R246): `over` names the sessions that no remaining pier can carry, and `fin` is the instant of step 7. -/
def execPierRetire (p : Fin 17) (cause : Fin 6) (excess : List Nat) (fin t : Ticks) (s : State) : Host.Outcome State Fault Refusal :=
  s.run t (fun d => d.pierRetire p cause excess fin)

end Sys2Proof.Machine
end

