-- ==== Sys2Proof/Machine/Flashing.lean ====
section
/-!
DEFINITION. Commands of the flash memory (R577–R597).
-/
namespace Sys2Proof.Machine

/-- FLASH_ERASE_ROUND_DONE. An erase round of a bank ends: its logical sectors with the pulses each took, above 32 for one that did not verify (R580, R584). -/
def execFlashEraseRoundDone (bank : Fin 4) (l : List (Nat × Nat)) (t : Ticks) (s : State) : Host.Outcome State Fault Refusal :=
  s.run t (fun d => d.eraseRound bank l)

/-- FLASH_SCRUB. A scrub: the units in which it finds errors, and the sectors refreshed for age with their pulses (R586, R587). -/
def execFlashScrub (found : List ScrubFind) (old : List (Nat × Nat)) (t : Ticks) (s : State) : Host.Outcome State Fault Refusal :=
  s.run t (fun d => d.flashScrub found old)

/-- DATA. The shadow of a customer sector's DATA is complete: sector, offset, bytes, and whether every unit verifies (R589). -/
def execDataWrite (c off : Nat) (b : Bytes) (verify : Bool) (t : Ticks) (s : State) : Host.Outcome State Fault Refusal :=
  s.write t (fun d => answered (d.dataWrite c off b verify))

/-- ERASE. ERASE of a customer sector is written: its pulses, and whether save mode abandons it (R582, R589). -/
def execEraseSector (c pulses : Nat) (cut : Bool) (t : Ticks) (s : State) : Host.Outcome State Fault Refusal :=
  s.write t (fun d => answered (d.eraseSector c pulses cut))

/-- SET_PASSWORD. SET_PASSWORD of a protection region is written: old and new password (R591). -/
def execSetPassword (r : Nat) (b : Bytes) (t : Ticks) (s : State) : Host.Outcome State Fault Refusal :=
  s.write t (fun d => answered (d.setPassword r b))

/-- UNLOCK. UNLOCK of a protection region is written (R591). -/
def execUnlockRegion (r : Nat) (p : Bytes) (t : Ticks) (s : State) : Host.Outcome State Fault Refusal :=
  s.write t (fun d => answered (d.unlockRegion r p))

/-- LOCK. LOCK of a protection region is written (R591). -/
def execLockRegion (r v : Nat) (t : Ticks) (s : State) : Host.Outcome State Fault Refusal :=
  s.write t (fun d => answered (d.lockRegion r v))

/-- PASSWORD_LOCKOUT_END. 10 s have passed since a third wrong password (R591). -/
def execPasswordLockoutEnd (r : Fin 64) (t : Ticks) (s : State) : Host.Outcome State Fault Refusal :=
  s.run t (fun d => d.lockoutEnd r)

/-- FLS_WEAR_SEL. A write of FLS_WEAR_SEL (R594). -/
def execFlsWearSel (v : Word32) (t : Ticks) (s : State) : Host.Outcome State Fault Refusal :=
  s.run t (fun d => d.onFls (fun f => { f with wearSel := v.toNat % 2048 }))

end Sys2Proof.Machine
end

