-- ==== Sys2Proof/Machine/PowerOps.lean ====
section
/-!
DEFINITION. The power arbiter: demands, budget, grants by class, throttling, shares of a board limit, load bins (R598–R615).
-/
namespace Sys2Proof.Machine

def Dev.onPwr (d : Dev) (f : Power → Power) : Dev := { d with pwr := f d.pwr }

/-! ## Consumers (R599) -/

/-- The core consumers: numbers, worst case of each in 100 mA, classes drawn. Numbers 0–15 are the active piers, 17–22 the
hash groups, 23 the big-number engine, 24–31 the SerDes groups, 32–39 the Ferry ports, 40 PCIe, 41–44 the flash banks, 45
the manifest controller. -/
def consumerOf (k : Nat) : Option (Nat × List Nat) :=
  if k < 16 then some (45, [1, 2, 3, 4, 5])
  else if k < 17 then none
  else if k < 23 then some (12, [1, 2, 4])
  else if k < 24 then some (8, [4])
  else if k < 32 then some (15, [1, 4, 5])
  else if k < 40 then some (10, [4, 5])
  else if k < 41 then some (20, [3, 4, 5])
  else if k < 45 then some (3, [4])
  else if k < 46 then some (6, [5])
  else none

/-- The demands that count: those reported, of classes the consumer draws; before the measured models are in use each
consumer is brought up to its worst case (R609). -/
def Power.demandsOf (p : Power) (reported : List Demand) : List Demand :=
  let ok := reported.filter (fun x => match consumerOf x.consumer with
    | some (_, cs) => x.cls ∈ cs
    | none => false)
  if p.model then ok
  else
    (List.range 46).foldl (fun l k => match consumerOf k with
      | none => l
      | some (w, cs) =>
        let mine := ok.filter (fun x => x.consumer == k)
        let sum := mine.foldl (fun a x => a + x.units) 0
        let c := cs.getD (Config.worstClass k % cs.length) 4
        if sum ≤ w then l ++ mine ++ (if sum < w then [{ consumer := k, cls := c, units := w - sum }] else [])
        else l ++ [{ consumer := k, cls := c, units := w }]) []

/-- Demand of a class. -/
def classUnits (l : List Demand) (c : Nat) : Nat := (l.filter (fun x => x.cls == c)).foldl (fun a x => a + x.units) 0

/-! ## The budget (R601, R602) -/

/-- SAVE_RESERVE and SAFE_RESERVE together, in 100 mA. -/
def reserves : Nat := 100

/-- Units of core current that a power in 0.1 W gives at 0.75 V, after P_OTHER. -/
def currentOf (limit other : Int) : Int := (limit - other) * 4 / 3

/-- The share term, where there is one. -/
def Dev.shareTerm (d : Dev) : Option Int :=
  if d.topology = 0 || d.cfg Od.pwr_BOARD_LIMIT 0 = 0 then none
  else d.pwr.share.map (fun s => currentOf s d.pwr.pOther)

/-- The least of the terms, with its LIMITER code. -/
def Dev.leastTerm (d : Dev) : Int × Nat :=
  let p := d.pwr
  let c := currentOf (d.cfg Od.pwr_POWER_LIMIT 0) p.pOther
  let t := 2000 - max 0 (p.tHot - d.cfg Od.pwr_THERMAL_TARGET 0)
  let a : Int × Nat := if t < c then (t, 1) else (c, 0)
  match d.shareTerm with
  | some s => if s < a.1 then (s, 2) else a
  | none => a

/-- The floor of R601. -/
def floorUnits (l : List Demand) : Nat := reserves + classUnits l 5

/-! ## Grants (R603, R604) -/

/-- Classes 5 to 1 share an amount: each takes the smallest of its demand and the remainder. -/
def grantClasses (l : List Demand) : List Nat → Nat → Tab Nat
  | [], _ => []
  | c :: cs, rest =>
    let g := min (classUnits l c) rest
    (grantClasses l cs (rest - g)).ins c g

/-- Within a class the grant is shared in proportion to the demands. -/
def shareOut (l : List Demand) (g : Tab Nat) : List Demand :=
  l.map (fun x => { x with units := if classUnits l x.cls = 0 then 0 else x.units * g.get 0 x.cls / classUnits l x.cls })

/-- Ports that carry sessions of ROLE STREAM_SOURCE. -/
def Dev.streamPorts (d : Dev) : List Nat :=
  (List.range 32).filter (fun p => d.net.sessions.any (fun e => decide (e.2.state ≠ .closed) && d.cfg Od.ses_ROLE e.1 = 2 && d.cfgN Od.ses_PORT e.1 == p))

/-- STREAM_IN throttled: its ports pause; ten epochs of met demand release them. -/
def Dev.streamFlow (d : Dev) (short : Bool) : Dev :=
  if short then
    let ps := d.streamPorts.filter (fun p => d.cfg Od.prt_FLOW p ≠ 0 && !d.pwr.paused.contains p)
    ps.foldl (fun y p => ((y.onPwr (fun x => { x with paused := p :: x.paused })).bump Od.pwr_PAUSES 0).emit (.line (if d.cfg Od.prt_FLOW p = 1 then "PAUSE" else "PFC") p))
      (d.onPwr (fun x => { x with metEpochs := 0 }))
  else
    let n := d.pwr.metEpochs + 1
    if 10 ≤ n then d.pwr.paused.foldl (fun y p => y.emit (.line "FLOW_END" p)) (d.onPwr (fun x => { x with metEpochs := n, paused := [] }))
    else d.onPwr (fun x => { x with metEpochs := n })

/-! ## Load bins (R610) -/

/-- The bin changes only when MEASURED passes a limit by at least 1 A. -/
def binStep (limit : Nat → Nat) (measured : Nat) : Nat → Nat → Nat
  | 0, b => b
  | fuel + 1, b =>
    if b < 3 && limit (b + 1) + 10 ≤ measured then binStep limit measured fuel (b + 1)
    else if 0 < b && measured + 10 ≤ limit b then binStep limit measured fuel (b - 1)
    else b

def Dev.binLimit (d : Dev) (b : Nat) : Nat :=
  match b with
  | 1 => d.cfgN Od.pwr_BIN_LIMIT1 0
  | 2 => d.cfgN Od.pwr_BIN_LIMIT2 0
  | _ => d.cfgN Od.pwr_BIN_LIMIT3 0

/-- The measurements of an epoch. -/
def Dev.powerMeasure (d : Dev) (r : PowerReading) : Dev :=
  let b := binStep d.binLimit r.measured 3 d.pwr.bin
  let (s, n) := d.pwr.binSum.get (0, 0) b
  d.onPwr (fun p => { p with pOther := r.other, tHot := r.tHot, tPins := r.tPins, load := r.measured, droop := r.droop, bin := b,
                             binLog := if b = p.bin then p.binLog else ((d.now, p.bin) :: p.binLog).filter (fun e => decide (d.now - ms ≤ e.1)),
                             binSum := p.binSum.ins b (s + r.droop, n + 1) })

/-- An event on entry into a condition. -/
def Dev.powerFlag (d : Dev) (was now : Bool) (code : Nat) : Dev := if now && !was then d.raise 28 code 0 else d

/-- POWER_EPOCH (R601, R603, R604, R610). -/
def Dev.powerEpoch (d : Dev) (r : PowerReading) : Dev :=
  let d1 := d.powerMeasure r
  let l := d1.pwr.demandsOf r.demands
  let flr := floorUnits l
  let (term, which) := d1.leastTerm
  let hot := decide (14000 ≤ r.tHot)
  let low := decide (term < (flr : Int))
  let b : Nat := if hot || low then flr else term.toNat
  let thermal := decide (which = 1)
  let total := if d1.flt.chipSafe || d1.pwr.save then 0 else min (b - reserves) (d1.pwr.granted + 40)
  let g := grantClasses l [5, 4, 3, 2, 1] total
  let short := [1, 2, 3, 4, 5].filter (fun c => g.get 0 c < classUnits l c)
  let p0 := d1.pwr
  let d2 := d1.onPwr (fun p => { p with
    limiter := (if hot || low then 3 else which), throttle := short.foldl max 0, safe := d1.flt.chipSafe, limited := low,
    thermalLimited := thermal, critical := hot, budget := b, granted := g.foldl (fun a e => a + e.2) 0, demands := l,
    grants := shareOut l g, classGrant := g, classDemand := ([1, 2, 3, 4, 5].map (fun c => (c, classUnits l c))) })
  let d3 := ((d2.powerFlag p0.limited low 0xB0).powerFlag p0.thermalLimited thermal 0xB1).powerFlag p0.critical hot 0xB2
  let d4 := if short.isEmpty then d3 else d3.bump Od.pwr_THROTTLED_EPOCHS 0
  (short.foldl (fun y c => y.bump Od.pcs_THROTTLED_TIME c us) d4).streamFlow (1 ∈ short)

/-- MODELS_MEASURED, 10 ms after the release of RESET_N (R609). -/
def Dev.modelsMeasured (d : Dev) : Dev :=
  if d.pwr.model || d.now < d.sys.releasedAt + 10 * ms then d else (d.onPwr (fun p => { p with model := true })).raise 28 0xB5 0

/-! ## Sharing a board budget (R605–R608) -/

/-- R605: FLOOR_W and DEMAND_W, rounded down to 0.1 W, and MEASURED_W. -/
def Dev.floorW (d : Dev) : Nat := d.pwr.pOther + floorUnits d.pwr.demands * 3 / 4
def Dev.demandW (d : Dev) : Nat := d.pwr.pOther + (reserves + d.pwr.demands.foldl (fun a x => a + x.units) 0) * 3 / 4
def Dev.measuredW (d : Dev) : Nat := d.pwr.pOther + d.pwr.load * 3 / 4

/-- R606: the shares of the members, by flotilla ID, and whether the floors exceed the limit. -/
def apportion (limit : Nat) (l : List (Nat × ChipDemand)) : List (Nat × Nat) × Bool :=
  let sd := l.foldl (fun a e => a + e.2.demandW) 0
  let sf := l.foldl (fun a e => a + e.2.floorW) 0
  if sd ≤ limit then (l.map (fun e => (e.1, e.2.demandW + (limit - sd) / l.length)), false)
  else if sf ≤ limit then (l.map (fun e => (e.1, e.2.floorW + (limit - sf) * (e.2.demandW - e.2.floorW) / (sd - sf))), false)
  else (l.map (fun e => (e.1, limit * e.2.floorW / sf)), true)

/-- BOARD_SHORT on entry. -/
def Dev.boardShort (d : Dev) (short : Bool) : Dev :=
  (d.powerFlag d.pwr.boardShort short 0xB4).onPwr (fun p => { p with boardShort := short })

/-- A share comes into force. -/
def Dev.takeShare (d : Dev) (v : Nat) : Dev := d.onPwr (fun p => { p with share := some v, lastShare := d.now, shareStale := false })

/-- Whether the chip takes part in the sharing of a board limit. -/
def Dev.sharesBoard (d : Dev) : Bool := decide (d.topology ≠ 0) && d.cfg Od.pwr_BOARD_LIMIT 0 ≠ 0

/-- The master apportions its own BOARD_LIMIT among the demands it holds, and sends one SHARE message. -/
def Dev.masterShares (d : Dev) : Dev :=
  let own : ChipDemand := { floorW := d.floorW, demandW := d.demandW, measuredW := d.measuredW }
  let l := d.floMembers.map (fun m => (m, if m = d.fry.flo.ownId then own else d.pwr.chips.get { floorW := 0, demandW := 0, measuredW := 0 } m))
  let (shares, short) := apportion (d.cfgN Od.pwr_BOARD_LIMIT 0) l
  let of (m : Nat) : Nat := ((shares.find? (fun e => e.1 == m)).map (·.2)).getD 0
  let d1 := (d.ferryCast 4 2 ((List.range 8).flatMap (fun m => toBe 2 (of m)))).takeShare (of d.fry.flo.ownId)
  d1.boardShort short

/-- DEMAND_SEND. The master's own demand needs no message. -/
def Dev.demandSend (d : Dev) : Dev :=
  if !d.sharesBoard || d.isMaster then d
  else d.ferrySend 4 1 d.fry.flo.master (toBe 2 d.floorW ++ toBe 2 d.demandW ++ toBe 2 d.measuredW ++ [0, 0])

/-- DEMAND received from a member. -/
def Dev.demandReceive (d : Dev) (src : Nat) (x : ChipDemand) : Dev :=
  if !d.sharesBoard || !d.isMaster || !d.floMembers.contains src || src = d.fry.flo.ownId then d
  else (d.onPwr (fun p => { p with chips := p.chips.ins src x })).masterShares

/-- SHARE received from the master. -/
def Dev.shareReceive (d : Dev) (shares : List Nat) : Dev :=
  if !d.sharesBoard || d.isMaster then d
  else (d.takeShare (shares.getD d.fry.flo.ownId 0)).boardShort false

/-- SHARE_STALE: 100 µs without a SHARE. -/
def Dev.shareStale (d : Dev) : Dev :=
  let p := d.pwr
  if !d.sharesBoard || d.isMaster || p.shareStale || d.now < p.lastShare + 100 * us then d
  else
    let part := d.cfgN Od.pwr_BOARD_LIMIT 0 / d.floMembers.length
    let v := match p.share with
      | some s => min s part
      | none => part
    ((d.onPwr (fun p => { p with share := some v, shareStale := true })).raise 28 0xB3 0).boardShort (decide (v < d.floorW))

/-! ## Registers (R611–R613) -/

def Dev.pwaStatus (d : Dev) : Nat :=
  let p := d.pwr
  b2n p.model + 2 * p.limiter + 8 * p.throttle + 64 * p.bin + 256 * b2n p.save + 512 * b2n p.safe + 1024 * b2n p.shareStale

/-- A value held at its field's largest. -/
def sat12 (v : Nat) : Nat := min v 4095

def Dev.pwaBudget (d : Dev) : Nat := sat12 d.pwr.budget.toNat + 65536 * sat12 d.pwr.granted
def Dev.pwaLoad (d : Dev) : Nat := sat12 d.pwr.load + 65536 * sat12 d.pwr.droop.toNat
def Dev.pwaClass (d : Dev) (c : Nat) : Nat := sat12 (d.pwr.classDemand.get 0 c) + 65536 * sat12 (d.pwr.classGrant.get 0 c)

/-- At a start the factory bin of each pin has its factory value, and no other bin is valid (R610; log entry 71). -/
def Dev.powerStart (d : Dev) : Dev :=
  let bins := dedup ((List.range 32).map (fun n => d.cfgN Od.pcl_FACT_BIN n))
  { d with pwr := { binSum := bins.foldl (fun t b => t.ins b (100 * Config.factory (odKey Od.pwr_BIN_DROOP.index (Od.pwr_BIN_DROOP.sub + b) 0), 100)) [],
                    lastShare := d.now } }

end Sys2Proof.Machine
end

