-- ==== Sys2Proof/Machine/Live.lean ====
section
/-!
DEFINITION. What objects that mirror the state of a unit read as (R54, R105, R165, R208–R210, R254, R255, R278, R312,
R346, R376, R409, R449, R478, R498, R525, R551, R575, R596, R614, R624). Every other object reads its effective value.
-/
namespace Sys2Proof.Machine

def num (n : Int) : Option OdValue := some (.num n)
def nat (n : Nat) : Option OdValue := some (.num n)
def flag (b : Bool) : Option OdValue := some (.num (b2n b))
def octs (n : Nat) (b : Bytes) : Option OdValue := some (.bytes (padTo n b))

/-! ## Bearings and launching -/

/-- 0x2010: a snapshot of a Bearing, from one fit update. -/
def Dev.liveBearing (d : Dev) (sub b : Nat) : Option OdValue :=
  let x := d.brg b
  let e := d.eval b d.now
  let f := Dev.fitFuel 17 d b
  match sub with
  | 1 => nat e.state.code
  | 2 => nat (e.quality d.unlocked)
  | 3 => flag (!e.unref)
  | 4 => match f with
    | some (g, _, _) => num (g.posAt g.t0)
    | none => num e.pos
  | 5 => match f, x.newest with
    | some (g, _, _), _ => num g.t0
    | none, some s => num s.t
    | none, none => num 0
  | 6 => num (match f with
    | some (g, _, _) => roundAway g.vel
    | none => 0)
  | 7 => num (match f with
    | some (g, _, _) => roundAway g.acc
    | none => 0)
  | 8 => num (match f with
    | some (g, c, _) => roundAway (g.uncX c 0)
    | none => 0)
  | 9 => num (match f with
    | some (g, c, _) => if e.still then 0 else roundAway (g.uncT c 0)
    | none => 0)
  | 10 => num (match f with
    | some (g, _, _) => roundAway (sqrtRat g.s2)
    | none => 0)
  | 14 => num x.idxDev
  | 17 => nat x.lastCause
  | 18 => nat d.pwr.bin
  | _ => none

def Dev.liveCapture (d : Dev) (sub b : Nat) : Option OdValue :=
  match sub with
  | 10 => nat (d.brg b).capture.state
  | 11 => nat (d.brg b).capture.reason
  | _ =>
    match d.remoteOf b with
    | none => none
    | some r =>
      match sub with
      | 1 => nat r.cal.points
      | 2 => num r.cal.period
      | 3 => some (.bytes (padTo 16384 r.cal.table))
      | 4 => num r.cal.vlow
      | 5 => num r.cal.vhigh
      | 6 => num r.cal.temp
      | 7 => nat r.cal.loadbin
      | 8 => num r.cal.resid
      | 9 => num r.cal.penalty
      | _ => none

/-- 0x2110: entries against a Bearing that are not ended. -/
def Dev.livePending (d : Dev) (sub b : Nat) : Option OdValue :=
  match sub with
  | 2 => nat (d.lch.entries.filter (fun e => e.2.image.onBearing && e.2.image.brg == b && !e.2.standbyDone)).length
  | _ => none

/-! ## Queues, convoys and the manifest -/

/-- 0x3001: IN_FLIGHT counts the accepted items without an outcome. -/
def Dev.liveQueue (d : Dev) (sub q : Nat) : Option OdValue :=
  let x := d.queue q
  match sub with
  | 1 => nat x.state.code
  | 2 => nat ((d.itemsOf q).filter (fun e => !e.2.unacked && !e.2.state.isEnd)).length
  | 3 => nat x.nextSeq
  | 12 => nat x.pier
  | _ => none

def Dev.liveConvoy (d : Dev) (sub c : Nat) : Option OdValue :=
  match sub with
  | 2 => nat (d.que.convoys.get {} c).next
  | 3 => nat (d.convoyMembers c).length
  | _ => none

def Dev.liveManifest (d : Dev) (sub : Nat) : Option OdValue :=
  let m := d.man
  match sub with
  | 1 => nat (m.items.filter (fun e => decide (e.1 < 131072))).length
  | 2 => nat (131072 - m.fill)
  | 3 => nat m.areaA.code
  | 4 => nat m.areaB.code
  | 5 => nat ((m.saveLog.findSome? (fun e => match e with
    | .saveEnd _ _ b _ => some b
    | _ => none)).getD 0)
  | 6 => num m.lastSave
  | 7 => nat m.saveNumber
  | _ => none

/-! ## Time, sessions, streams -/

def Dev.liveTime (d : Dev) (sub : Nat) : Option OdValue :=
  let t := d.net.time
  match sub with
  | 16 => nat d.timeNow.code
  | 17 => num t.offset
  | 18 => num d.timeUnc
  | 19 => octs 8 t.gm
  | 20 => nat t.steps
  | 21 => num t.pathDelay
  | _ => none

def Dev.liveSession (d : Dev) (sub i : Nat) : Option OdValue :=
  let x := d.ses i
  match sub with
  | 1 => nat x.state.code
  | 2 => nat x.claim
  | 3 => nat x.tx
  | 4 => nat x.high
  | 5 => nat x.rxFloor
  | 6 => nat ((x.keys.map (fun k => k.gen)).getD 0)
  | 7 => nat x.keyUses
  | 8 => nat (x.safeNext - 1)
  | 14 => nat x.pier
  | 15 => nat x.lastRefuse
  | _ => none

def Dev.liveCert (d : Dev) (sub s : Nat) : Option OdValue :=
  match sub with
  | 2 => nat (d.str s).certState
  | 3 => octs 17284 (d.str s).certLast
  | _ => none

/-! ## Ferry, flotilla, twin -/

def Dev.liveFerry (d : Dev) (sub p : Nat) : Option OdValue :=
  match sub with
  | 4 => nat (d.fport p).state.code
  | 5 => nat (d.fport p).width
  | _ => none

/-- R224: 25 ps for each hop to the master. -/
def Dev.alignUnc (d : Dev) : Ticks := (d.fry.flo.hops : Int) * 25 * ns / 1000

def Dev.liveFlotilla (d : Dev) (sub : Nat) : Option OdValue :=
  let f := d.fry.flo
  match sub with
  | 11 => nat f.ownId
  | 12 => nat f.master
  | 13 => nat f.aligned
  | 14 => num f.offset
  | 15 => num d.alignUnc
  | 16 => nat f.hops
  | _ => none

def Dev.liveTwin (d : Dev) (sub : Nat) : Option OdValue :=
  let t := d.fry.twin
  match sub with
  | 9 => nat t.role.code
  | 10 => nat t.claim
  | 11 => nat t.peerClaim
  | 12 => nat t.ceiling
  | 15 => nat t.resyncBlock
  | 16 => nat (b2n t.path1 + 2 * b2n t.path2)
  | _ => none

/-! ## Charts, overlays, configuration -/

def Dev.liveChart (d : Dev) (sub : Nat) : Option OdValue :=
  match sub with
  | 1 => octs 32 d.chartDigest
  | 2 => nat (d.obj.activeSlot.getD 0)
  | 3 => nat (if d.obj.activeSlot.isNone then 0 else if d.obj.switch.isSome then 2 else 1)
  | 4 => octs 32 ((d.chartIn 0).map (fun i => i.digest) |>.getD [])
  | 5 => octs 32 ((d.chartIn 1).map (fun i => i.digest) |>.getD [])
  | 6 => num ((d.obj.switch.map (fun s => s.instant)).getD 0)
  | 7 => nat (d.obj.floors.get 0 1)
  | 8 => nat (((d.obj.activeSlot.bind d.chartIn).map (fun i => i.imgVersion)).getD 0)
  | _ => none

/-- STATE of an overlay slot. -/
def Dev.overlayState (d : Dev) (s : Nat) : Nat :=
  match d.obj.overlays.find s with
  | none => 0
  | some i =>
    if [d.od.mode, d.od.maint, d.od.trial].any (fun l => decide (l.set ≠ 0) && decide (l.digest = i.digest)) then 2
    else if s ∈ d.obj.orphans then 3
    else 1

def Dev.liveOverlay (d : Dev) (sub s : Nat) : Option OdValue :=
  let i := d.obj.overlays.find s
  match sub with
  | 1 => nat ((i.map (fun i => i.set)).getD 0)
  | 2 => nat ((i.map (fun i => i.layer)).getD 0)
  | 3 => octs 32 ((i.map (fun i => i.digest)).getD [])
  | 4 => octs 32 ((i.map (fun i => i.base)).getD [])
  | 5 => nat (d.overlayState s)
  | _ => none

def Dev.liveLayer (d : Dev) (sub n : Nat) : Option OdValue :=
  let l := if n = 0 then {} else d.od.layer n
  match sub with
  | 1 => nat l.set
  | 2 => octs 32 l.digest
  | 3 => num l.since
  | 4 => nat l.handle
  | 5 => nat l.switches
  | _ => none

/-! ## Host interface -/

/-- LINK_WIDTH from the code of HIF_STATUS (R301, R312). -/
def Dev.linkWidth (d : Dev) : Nat :=
  if !d.hif.linkUp then 0
  else match d.hif.width with
    | 1 => 4
    | 2 => 8
    | 3 => 16
    | _ => 0

def Dev.liveLink (d : Dev) (sub : Nat) : Option OdValue :=
  match sub with
  | 1 => nat d.linkWidth
  | 2 => nat (if d.hif.linkUp then d.hif.speed else 0)
  | _ => none

/-! ## Processors -/

/-- The user ID of a lane (R413). -/
def laneUser (n : Nat) : Nat := n + 1

def Dev.liveLane (d : Dev) (sub n : Nat) : Option OdValue :=
  let x := d.lane n
  match sub with
  | 1 => nat x.origin
  | 2 => nat x.stateCode
  | 3 => nat (d.dh n).pc.toNat
  | 8 => nat x.inbox.length
  | 9 => nat ((List.range 4).foldl (fun a k => a + 2 ^ k * b2n (decide ((d.core (4 * d.pierOf (n / 8) + k)).user = laneUser n))) 0)
  | _ => none

/-- R317: words of program memory used on a physical pier by the distinct images of its lanes: customer lanes, or resident
ones, which the model does not run. -/
def Dev.livePrograms (d : Dev) (sub p : Nat) : Option OdValue :=
  match sub with
  | 1 =>
    let here := (d.lan.filter (fun e => d.pierOf (e.1 / 8) == p && decide (e.2.state ≠ .off) && decide (e.2.origin = 2))).map (fun e => e.2)
    nat ((here.foldl (fun (acc : List Bytes × Nat) x =>
      if x.image ∈ acc.1 then acc else (x.image :: acc.1, acc.2 + x.code.length)) ([], 0)).2)
  | 2 => nat 0
  | _ => none

def Dev.liveTask (d : Dev) (sub k : Nat) : Option OdValue :=
  let x := d.cpu.tasks.get {} k
  match sub with
  | 1 => nat x.state.code
  | 2 => nat x.purser
  | 3 => nat (if x.state = .running then (d.cpu.pu.get {} x.purser).pc.toNat else x.pc)
  | 7 => nat (x.parts.foldl (fun a e => a + e.2) 0)
  | _ => none

def Dev.liveAcu (d : Dev) (sub m : Nat) : Option OdValue :=
  let x := d.cpu.acu.get {} m
  match sub with
  | 1 => nat x.denials
  | 2 => nat (x.regions.filter (fun e => e.2.en)).length
  | 3 => nat (x.lastAddr % 2 ^ 40 + 2 ^ 40 * (x.lastCause % 256))
  | _ => none

/-! ## Cryptography and keys -/

def Dev.liveCipher (d : Dev) (sub c : Nat) : Option OdValue :=
  match sub with
  | 3 => nat (d.coreState c)
  | 4 => nat (d.core c).user
  | _ => none

/-- GROUPS_GRANTED (R449): the hash groups, consumers 17 to 22, that the last epoch did not leave short. -/
def Dev.liveHash (d : Dev) (sub : Nat) : Option OdValue :=
  match sub with
  | 8 => nat ((List.range 6).foldl (fun a g =>
      let want : Nat := (d.pwr.demands.filter (fun x => x.consumer == 17 + g)).foldl (fun s x => s + x.units) 0
      let got : Nat := (d.pwr.grants.filter (fun x => x.consumer == 17 + g)).foldl (fun s x => s + x.units) 0
      a + 2 ^ g * b2n (decide (want ≤ got))) 0)
  | _ => none

def Dev.liveBignum (d : Dev) (sub : Nat) : Option OdValue :=
  let b := d.cry.bgn
  match sub with
  | 1 => nat b.user
  | 6 => nat b.job.state
  | 7 => octs 512 b.job.result
  | _ => none

def Dev.liveRng (d : Dev) (sub : Nat) : Option OdValue :=
  match sub with
  | 1 => nat d.cry.rng.state.code
  | 2 => nat (d.cry.rng.groups.foldl (fun a g => setBit a g) 0)
  | _ => none

def Dev.liveKey (d : Dev) (sub s : Nat) : Option OdValue :=
  let x := d.keySlot s
  match sub with
  | 1 => nat (if !x.full then 0 else if x.wrapped then 2 else 1)
  | 2 => octs 16 x.policy
  | 3 => nat (if x.full then keyhOf s x else 0)
  | 4 => nat x.uses
  | 5 => octs 97 x.pub
  | _ => none

/-! ## Identity and life cycle -/

def Dev.liveIdentity (d : Dev) (sub : Nat) : Option OdValue :=
  match sub with
  | 2 => nat 0x9640
  | 3 => some (.bytes (ascii "TQV9640-B0-F55"))
  | 4 => some (.bytes (ascii "B0"))
  | 9 => nat (d.obj.floors.get 0 5)
  | _ => none

def Dev.liveLife (d : Dev) (sub : Nat) : Option OdValue :=
  let x := d.cry.lcy
  match sub with
  | 1 => nat x.state.code
  | 2 => nat x.testTokens
  | 3 => nat x.diagTokens
  | 4 => octs 32 (d.nonce.getD [])
  | 6 => nat x.result
  | 8 => nat x.attest
  | 12 => nat x.scopes
  | _ => none

def Dev.liveAnchor (d : Dev) (sub n : Nat) : Option OdValue :=
  let a := d.anchor n
  match sub with
  | 1 => nat a.state
  | 2 => nat a.rights
  | 3 => octs 32 a.pub
  | _ => none

/-! ## Faults -/

/-- R520: the 32 bytes of a log record. -/
def LogRec.bytes (r : LogRec) : Bytes :=
  timeLe r.at_ ++ toLe 2 r.src ++ toLe 2 r.inst ++ toLe 1 r.severity ++ toLe 1 r.flags ++ toLe 2 (min r.merged 0xFFFF) ++
    padTo 12 (r.detail.flatMap (fun n => toLe 4 (patternOf 32 n)))

/-- R502: the smallest SEVERITY a source takes. Where it is not fixed, it is set at manufacture. -/
def Dev.minSeverity (d : Dev) (src : Nat) : Int :=
  match fixedSeverity src with
  | some v => v
  | none => d.cfg Od.flt_MIN_SEVERITY src

/-- 0x6000 of a source. -/
def Dev.liveSource (d : Dev) (sub n : Nat) : Option OdValue :=
  let src := d.sourceOf n
  match sub with
  | 1 => nat (d.severity src)
  | 2 => num (d.cfg Od.flt_ERASE src)
  | 3 => num (d.minSeverity src)
  | 4 => num (d.cfg Od.flt_MERGE_WINDOW src)
  | 5 => num (d.cfg Od.flt_MERGE_LIMIT src)
  | 6 => num (d.cfg Od.flt_LIMIT_SEVERITY src)
  | 7 => num (d.cfg Od.flt_COUNT src)
  | 8 => num (d.cfg Od.flt_LAST_TIME src)
  | _ => none

def Dev.liveCollector (d : Dev) (sub : Nat) : Option OdValue :=
  match sub with
  | 1 => nat d.flt.stateCode
  | 6 => octs 32768 (d.flt.log.reverse.flatMap LogRec.bytes)
  | _ => none

/-! ## Cards, inputs, permits -/

def Dev.liveReader (d : Dev) (sub : Nat) : Option OdValue :=
  match sub with
  | 14 => nat d.credentials
  | _ => none

def Dev.liveCid (d : Dev) (sub c : Nat) : Option OdValue :=
  let x := d.cid c
  match sub with
  | 1 => nat x.state.code
  | 2 => nat x.type
  | 3 => octs 11 (toLe 1 x.uid.length ++ x.uid)
  | 4 => octs 16 ((x.dlg.holder.map (fun h => h.cardId)).getD [])
  | 5 => nat x.rate
  | _ => none

def Dev.liveTagPage (d : Dev) (sub p : Nat) : Option OdValue :=
  match sub with
  | 1 => octs 64 (d.tagPage p).1
  | 2 => nat (d.tagPage p).2
  | _ => none

def Dev.liveSlot (d : Dev) (sub x : Nat) : Option OdValue :=
  match sub with
  | 7 => octs 16 (((d.cardSlot x).dlg.holder.map (fun h => h.cardId)).getD [])
  | _ => none

def Dev.liveInput (d : Dev) (sub k : Nat) : Option OdValue :=
  match sub with
  | 4 => nat (d.input k).state.code
  | _ => none

def Dev.livePermits (d : Dev) (sub : Nat) : Option OdValue :=
  match sub with
  | 4 => nat (d.countEntries .inDoubt)
  | _ => none

def Dev.liveLedger (d : Dev) (sub n : Nat) : Option OdValue :=
  match sub with
  | 1 => octs 128 ((d.liveEntries[n]?.map (fun e => ledgerBytes e.1 e.2)).getD [])
  | _ => none

/-! ## Flash, power, start -/

def Dev.liveSector (d : Dev) (sub c : Nat) : Option OdValue :=
  match sub with
  | 1 => some (.bytes (d.fls.read c 0 16384))
  | 3 => nat (d.customerState c)
  | _ => none

def Dev.liveRegion (d : Dev) (sub r : Nat) : Option OdValue :=
  match sub with
  | 7 => flag ((d.passRegion r).locked && (d.passRegion r).record.isSome)
  | _ => none

def Dev.livePower (d : Dev) (sub : Nat) : Option OdValue :=
  match sub with
  | 9 => nat d.pwr.pOther
  | 10 => nat (d.pwr.share.getD 0)
  | 11 => num d.pwr.tHot
  | _ => none

def Dev.liveClass (d : Dev) (sub c : Nat) : Option OdValue :=
  match sub with
  | 1 => nat (d.pwr.classDemand.get 0 c)
  | 2 => nat (d.pwr.classGrant.get 0 c)
  | _ => none

def Dev.liveStart (d : Dev) (sub : Nat) : Option OdValue :=
  match sub with
  | 1 => nat d.sys.cause
  | 2 => nat d.sys.path
  | 5 => nat d.sys.slotA.state.code
  | 6 => nat d.sys.slotB.state.code
  | 7 => nat d.sys.slotA.version
  | 8 => nat d.sys.slotB.version
  | _ => none

/-! ## All of them -/

/-- R46: what a FERRY Bearing's own objects read: its source's values. -/
def Dev.liveRemote (d : Dev) (sub b : Nat) : Option OdValue :=
  match d.remoteOf b with
  | none => none
  | some r =>
    match sub with
    | 7 => nat r.trk.order
    | 8 => nat r.trk.n
    | 9 => nat r.trk.acqM
    | 10 => num r.trk.vmin
    | 11 => num r.trk.vmax
    | 12 => num r.trk.gate
    | 14 => num r.horizon
    | 16 => num r.trk.k
    | 17 => num r.cal.lineErr
    | 22 => num r.glitch
    | _ => none

/-- The live value of an object, where the object mirrors a unit's state. -/
def Dev.live (d : Dev) (index sub n : Nat) : Option OdValue :=
  match index with
  | 0x1000 => d.liveIdentity sub
  | 0x1001 => d.liveStart sub
  | 0x1100 => d.liveLife sub
  | 0x1110 => d.liveAnchor sub n
  | 0x1200 => d.liveChart sub
  | 0x1202 => d.liveOverlay sub n
  | 0x1203 => d.liveLayer sub n
  | 0x1208 => if sub = 2 then nat d.obj.stage.length else if sub = 3 then nat d.obj.lastStatus else none
  | 0x1211 => if sub = 3 then nat d.obj.subs.length else none
  | 0x2000 => d.liveRemote sub n
  | 0x2008 => d.liveCapture sub n
  | 0x2010 => d.liveBearing sub n
  | 0x2101 => if sub = 13 then nat ((List.range 4).foldl (fun a b => a + 2 ^ b * b2n (d.binValid n b)) 0) else none
  | 0x2110 => d.livePending sub n
  | 0x3001 => d.liveQueue sub n
  | 0x3010 => d.liveConvoy sub n
  | 0x3400 => d.liveManifest sub
  | 0x4000 => if sub = 16 then flag (d.port n).link else none
  | 0x4010 => d.liveTime sub
  | 0x4101 => d.liveSession sub n
  | 0x4111 => if sub = 7 then nat (d.str n).certNo else none
  | 0x4112 => d.liveCert sub n
  | 0x4200 => d.liveFerry sub n
  | 0x4201 => d.liveFlotilla sub
  | 0x4300 => d.liveTwin sub
  | 0x5000 => d.liveCipher sub n
  | 0x5010 => d.liveHash sub
  | 0x5020 => d.liveBignum sub
  | 0x5030 => d.liveRng sub
  | 0x5040 => d.liveKey sub n
  | 0x6000 => d.liveSource sub n
  | 0x6001 => d.liveCollector sub
  | 0x7000 => d.livePower sub
  | 0x7001 => d.liveClass sub n
  | 0x8000 => d.liveReader sub
  | 0x8001 => d.liveCid sub n
  | 0x8003 => d.liveTagPage sub n
  | 0x8100 => d.liveSlot sub n
  | 0x8200 => d.livePermits sub
  | 0x8201 => d.liveInput sub n
  | 0x8220 => d.liveLedger sub n
  | 0x9010 => d.liveSector sub n
  | 0x9020 => d.liveRegion sub n
  | 0xA020 => d.liveLink sub
  | 0xB001 => d.liveLane sub n
  | 0xB002 => d.livePrograms sub n
  | 0xB011 => d.liveTask sub n
  | 0xB021 => d.liveAcu sub n
  | _ => none

/-- What a row reads as for element `i` and an instance (R257, R274). -/
def Dev.valueOf (d : Dev) (r : OdRow) (i inst : Nat) : OdValue :=
  match d.live r.index (r.sub + i) inst with
  | some v => v
  | none => if r.type.isBytes then .bytes (if r.type = .octets then padTo r.len (d.octAt r i inst) else d.octAt r i inst) else .num (d.cfgAt r i inst)

/-- The bytes of a value of a row's type (R257), signed numbers included. -/
def Dev.readBytes (d : Dev) (r : OdRow) (i inst : Nat) : Bytes := r.bytes (d.valueOf r i inst)

end Sys2Proof.Machine
end

