-- ==== Sys2Proof/Machine/Regs.lean ====
section
/-!
DEFINITION. The register space as a whole: what a 32-bit read of an offset gives and what a write does, through a function's
BAR0 or by a purser (R18, R282, and the register tables of each chapter). Offsets are from system address 0x04_0000_0000.
-/
namespace Sys2Proof.Machine

/-- Who reaches a register: host software through a function, or a purser, with its user ID and FLAGS.TASK. -/
inductive RegMaster where
  | host (pf : Nat)
  | core (user : Nat) (task : Bool)
deriving DecidableEq, Repr

/-! ## Queue frames (R157–R162) -/

/-- A base word of a queue frame: 0 work low, 1 work high, 2 completion low, 3 completion high; none while RING_VALID is 1. -/
def Dev.queueBase (d : Dev) (q k v : Nat) : Dev :=
  let x := d.queue q
  let lo (b : Nat) := b / 2 ^ 32 * 2 ^ 32 + v / 4096 * 4096
  let hi (b : Nat) := b % 2 ^ 32 + v * 2 ^ 32
  if x.ringValid then d
  else if k = 0 then d.setQueue q { x with workBase := lo x.workBase }
  else if k = 1 then d.setQueue q { x with workBase := ringBase x.workChip (hi x.workBase) }
  else if k = 2 then d.setQueue q { x with cplBase := lo x.cplBase }
  else d.setQueue q { x with cplBase := ringBase x.cplChip (hi x.cplBase) }

def Dev.queueRead (d : Dev) (q off : Nat) : Nat :=
  let x := d.queue q
  if off = 0x00 then x.workBase % 2 ^ 32
  else if off = 0x04 then x.workBase / 2 ^ 32
  else if off = 0x08 then x.cplBase % 2 ^ 32
  else if off = 0x0C then x.cplBase / 2 ^ 32
  else if off = 0x10 then x.workLog2 + 256 * x.cplLog2 + 65536 * b2n x.workChip + 131072 * b2n x.cplChip + 2 ^ 31 * b2n x.ringValid
  else if off = 0x14 then ringPos x.workLog2 x.devPos
  else if off = 0x18 then ringPos x.cplLog2 x.cplTail + 131072 * b2n (!x.replay.isEmpty)
  else x.state.code + 256 * x.lastRefusal

def Dev.queueWrite (d : Dev) (q off v : Nat) : Dev :=
  if off < 0x10 then d.queueBase q (off / 4) v else if off = 0x10 then d.ringCfg q v else d

/-! ## Hash rings (R445–R448) -/

def Dev.hashRead (d : Dev) (r off : Nat) : Nat :=
  let x := d.hring r
  if off = 0x00 then x.jobBase % 2 ^ 32
  else if off = 0x04 then x.jobBase / 2 ^ 32
  else if off = 0x08 then x.cplBase % 2 ^ 32
  else if off = 0x0C then x.cplBase / 2 ^ 32
  else if off = 0x10 then x.jobLog2 + 256 * x.cplLog2 + 2 ^ 31 * b2n x.valid
  else if off = 0x18 then ringPos x.jobLog2 x.jobHead
  else if off = 0x20 then ringPos x.cplLog2 x.cplTail
  else 0

def Dev.hashWrite (d : Dev) (rd : Nat → Nat → Bytes) (r off v : Nat) : Dev :=
  if off < 0x10 then d.hashBase r (off / 4) v
  else if off = 0x10 then d.hashCfg r v (d.hashTags rd r [])
  else if off = 0x14 then d.hashTail r v
  else if off = 0x1C then d.hashHead r v
  else d

/-! ## Reads -/

/-- LCH registers (R96–R104): LCH_PIN_ENVELOPE reads all ones in reset, LCH_ENTRY_TIME holds a TIME (R6). -/
def Dev.lchRead (d : Dev) (off : Nat) : Nat :=
  let bits (f : Nat → Bool) := (List.range 32).foldl (fun a n => a + 2 ^ n * b2n (f n)) 0
  let s := d.lch.snap
  if off = 0x0000 then bits (fun n => decide (d.pinLevel n = .active))
  else if off = 0x0004 then bits (fun n => decide ((d.pin n).state ≠ .off) && d.holdsClaim)
  else if off = 0x0008 then bits (fun n => decide (d.sys.phase = .inReset) || d.pinOutside n)
  else if off = 0x0010 then d.lch.entries.length
  else if off = 0x0104 then s.state + 65536 * s.flags
  else if off = 0x0108 then leAt (timeLe s.instant) 0 4
  else if off = 0x010C then leAt (timeLe s.instant) 4 4
  else if off = 0x0110 then leAt (timeLe s.instant) 8 4
  else if off = 0x0114 then patternOf 64 s.unc % 2 ^ 32
  else if off = 0x0118 then patternOf 64 s.unc / 2 ^ 32
  else if 0x0200 ≤ off && off < 0x0240 then (d.lch.entries.filter (fun e => e.1 / 8192 = (off - 0x0200) / 4)).length
  else 0

/-- R163: the state of the save areas is known once a start has read it; until then no area counts as ERASED. -/
def Dev.areasKnown (d : Dev) : Bool :=
  match d.sys.phase with
  | .starting | .running => true
  | _ => false

/-- MAN_STATUS (R163). -/
def Dev.manStatus (d : Dev) : Nat :=
  let m := d.man
  b2n (m.accepting && m.gate && !m.restoreHold) + 2 * b2n (!m.hasErased || !d.areasKnown) + 4 * b2n (!m.holdupOk) + 8 * b2n m.restoreHold +
    16 * b2n d.isStandby + 32 * b2n d.fry.twin.joined + 64 * b2n m.saving

/-- FRY, FLT and TWN registers (R248–R252). -/
def Dev.fryRead (d : Dev) (off : Nat) : Nat :=
  let f := d.fry.flo
  let t := d.fry.twin
  if off < 0x20 then
    let x := d.fport (off / 4)
    x.state.code + 8 * x.width + 64 * x.peerId + 512 * b2n x.peerValid + 4096 * x.peerPort
  else if 0x40 ≤ off && off < 0x60 then d.cfgN Od.fry_RETRIES ((off - 0x40) / 4)
  else if off = 0x100 then
    f.ownId + 8 * f.master + 64 * b2n d.isMaster + 128 * b2n (decide (f.aligned = 2)) +
      256 * (f.reachable.foldl (fun a i => setBit a i) 0) + 65536 * min (f.hops * 25) 255
  else if off = 0x1000 then
    t.role.code + 8 * b2n t.path1 + 16 * b2n t.path2 + 32 * b2n d.drivesPins + 64 * b2n t.isolated + 128 * b2n (t.yieldAsked || t.yieldAt.isSome)
  else if off = 0x1004 then t.claim
  else if off = 0x1008 then t.peerClaim
  else 0

/-- FCU and TMP registers (R521–R524). -/
def Dev.fcuRead (d : Dev) (off : Nat) : Nat :=
  if off = 0 then d.fcuStatus
  else if off = 4 then b2n d.flt.faultnHold + 2 * b2n d.faultnLocked
  else if 0x100 ≤ off && off < 0x180 then d.fcuActiveWord ((off - 0x100) / 4)
  else if off = 0x8000 then d.tmpStatus
  else 0

/-- FLS registers (R592–R595). -/
def Dev.flsRead (d : Dev) (off : Nat) : Nat :=
  if off = 0 then d.flsStatus
  else if 0x10 ≤ off && off < 0x20 then d.flsBank ((off - 0x10) / 4)
  else if off = 0x100 then d.fls.wearSel
  else if off = 0x104 then d.flsWear
  else if off = 0x108 then d.cfgN Od.wea_CYCLES d.fls.wearSel
  else 0

/-- PWA registers (R611–R613). -/
def Dev.pwaRead (d : Dev) (off : Nat) : Nat :=
  if off = 0 then d.pwaStatus
  else if off = 4 then d.pwaBudget
  else if off = 8 then d.pwaLoad
  else if 0x10 ≤ off && off < 0x24 then d.pwaClass ((off - 0x10) / 4 + 1)
  else 0

/-- HIF and EVT registers (R301–R308). -/
def Dev.hifRead (d : Dev) (off : Nat) : Nat :=
  if off = 0 then d.hifStatus
  else if 0x10000 ≤ off && off < 0x10000 + 8 * 17408 then
    (let r := d.route ((off - 0x10000) / 8)
     if off % 8 = 0 then r % 2 ^ 32 else r / 2 ^ 32)
  else if 0x40000 ≤ off && off < 0x50000 then d.vecRead ((off - 0x40000) / 8) (off % 8 / 4)
  else if 0x50000 ≤ off && off < 0x50880 then d.evtPendingWord ((off - 0x50000) / 4)
  else if 0x60000 ≤ off && off < 0x60020 then d.hif.pinCfg.get 0 ((off - 0x60000) / 4)
  else if off = 0x60020 then d.irqStatus
  else 0

/-- LCY registers (R496, R497). -/
def Dev.lcyRead (d : Dev) (off : Nat) : Nat :=
  if off = 0 then d.lcyStatus else if off = 4 then d.cry.lcy.word else if off = 8 then d.cry.lcy.result else 0

/-- PIR_STATUS (R253). -/
def Dev.pirStatus (d : Dev) (p : Nat) : Nat := (d.pier p).state + 4 * (d.pier p).cause + 256 * (d.pier p).logical

/-- A 32-bit read of the register space, as the owner of every right sees it; unlisted offsets read 0. -/
def Dev.regRead (d : Dev) (pf off : Nat) : Nat :=
  let o := off % 0x80000
  if off / 0x80000 = 1 then
    (if off < 0x88000 then d.msixRead (2048 * pf + (off - 0x80000) / 16) (off % 16 / 4)
     else if off < 0x88100 then d.pbaWord pf ((off - 0x88000) / 4) else 0)
  else if off / 0x80000 = 4 then d.lchRead o
  else if off / 0x80000 = 7 then d.queueRead (o / 32) (o % 32)
  else if off / 0x80000 = 8 then (if o = 0 then d.manStatus else if o = 4 then d.man.fill else 0)
  else if off / 0x80000 = 12 then d.fryRead o
  else if off / 0x80000 = 14 then (if o < 0x44000 then d.coreRead (o / 0x1000) (o % 0x1000) else 0)
  else if off / 0x80000 = 15 then (if o < 0x800 then d.hashRead (o / 0x100) (o % 0x100) else 0)
  else if off / 0x80000 = 16 then d.bgnRead o
  else if off = 0x900000 then d.rngStatus
  else if off = 0x980000 then d.keyStatus
  else if off / 0x80000 = 20 then d.fcuRead o
  else if off / 0x80000 = 22 then (if o < 0x400 * 174 then d.acuRead (o / 0x400) (o % 0x400) else 0)
  else if off / 0x80000 = 24 then d.pwaRead o
  else if off / 0x80000 = 26 then (if o = 0 then d.clsStatus else if o = 4 then d.clsLastPing else if o = 8 then d.clsBaseline else 0)
  else if off / 0x80000 = 27 && o < 8 then d.crdStatus (o / 4)
  else if off = 0xDC0000 then d.opiStatus
  else if off = 0xDC0100 then d.pmtStatus
  else if off / 0x80000 = 28 then d.flsRead o
  else if off / 0x80000 = 30 then d.hifRead o
  else if 0x1000000 ≤ off && off < 0x1110000 && off % 0x10000 = 0 then d.pirStatus ((off - 0x1000000) / 0x10000)
  else if 0x2000000 ≤ off && off < 0x2000010 then d.lcyRead (off - 0x2000000)
  else 0

/-- R282: what a function may read of the register space: PF0 all of it, a data function its own MSI-X table, the HIF and EVT
registers of its own vectors and sources, and the queue frames of its own queues. -/
def Dev.reaches (d : Dev) (pf off : Nat) : Bool :=
  let o := off % 0x80000
  let b := off / 0x80000
  pf = 0 || b = 1 || (b = 7 && d.pfOf (o / 32) = pf) ||
    (b = 30 && ((0x10000 ≤ o && o < 0x10000 + 8 * 17408 && d.srcPf ((o - 0x10000) / 8) = pf) ||
      (0x40000 ≤ o && o < 0x50000 && (o - 0x40000) / 8 / 2048 = pf) ||
      (0x50000 ≤ o && o < 0x50880 && (List.range 32).any (fun k => d.srcPf (32 * ((o - 0x50000) / 4) + k) = pf))))

/-- A 32-bit read of the register space through a function (R282): any other read through a data function is answered with 0 and
counted. Of a word of EVT_PENDING it sees the bits of its own sources. The command table has no row for such a read. -/
def Dev.hostRead (d : Dev) (pf off : Nat) : Nat × Dev :=
  if !d.reaches pf off then (0, d.accessDenied pf)
  else
    let v := d.regRead pf off
    let o := off % 0x80000
    if pf ≠ 0 && off / 0x80000 = 30 && 0x50000 ≤ o && o < 0x50880 then
      (((List.range 32).filter (fun k => bitOf v k && d.srcPf (32 * ((o - 0x50000) / 4) + k) = pf)).foldl (fun a k => a + 2 ^ k) 0, d)
    else (v, d)

/-! ## Writes -/

/-- Writes of the HIF and EVT registers through a function. A data function reaches those of its own vectors, sources and
queues (R282). -/
def Dev.hifWrite (d : Dev) (pf off v : Nat) : Dev :=
  if 0x10000 ≤ off && off < 0x10000 + 8 * 17408 then d.routeWrite pf ((off - 0x10000) / 8) (off % 8 / 4) v
  else if 0x40000 ≤ off && off < 0x50000 then
    (let x := (off - 0x40000) / 8
     if pf = 0 || x / 2048 = pf then d.vecWrite x (off % 8 / 4) v else d.accessDenied pf)
  else if 0x50000 ≤ off && off < 0x50880 then d.evtPendingClear pf ((off - 0x50000) / 4) v
  else if pf ≠ 0 then d.accessDenied pf
  else if 0x60000 ≤ off && off < 0x60020 then
    d.irqEdges (d.onHif (fun h => { h with pinCfg := h.pinCfg.put 0 ((off - 0x60000) / 4) (v % 8) }))
  else d

/-- Blocks whose registers the host may only read: CIP, BGN, ACU, PWA, CRD, PMT and OPI, LCY; HSH outside ring 7; FLS outside
FLS_WEAR_SEL. -/
def hostReadOnly (off : Nat) : Bool :=
  let b := off / 0x80000
  b = 14 || b = 16 || b = 17 || b = 22 || b = 23 || b = 24 || b = 25 || b = 27 || (0x2000000 ≤ off && off < 0x2010000) ||
    (b = 15 && !(0x780700 ≤ off && off < 0x780800)) || (b = 28 && off ≠ 0xE00100)

/-- A 32-bit write of the register space: whether the target took it, and the device after it. -/
def Dev.regWrite (d : Dev) (rd : Nat → Nat → Bytes) (who : RegMaster) (off v : Nat) : Bool × Dev :=
  let o := off % 0x80000
  let b := off / 0x80000
  let pf := match who with
    | .host pf => pf
    | .core _ _ => 0
  let hostish := match who with
    | .host _ => true
    | .core _ _ => false
  if b = 1 then
    (true, if off < 0x88000 then d.msixWrite (2048 * pf + (off - 0x80000) / 16) (off % 16 / 4) v else d)
  else if b = 30 then (true, d.hifWrite pf o v)
  else if b = 7 then (true, if pf = 0 || d.pfOf (o / 32) = pf then d.queueWrite (o / 32) (o % 32) v else d.accessDenied pf)
  else if pf ≠ 0 then (true, d.accessDenied pf)
  else if hostish && hostReadOnly off then (true, d.accessDenied 0)
  else if b = 14 then
    match who with
    | .core u _ => if o < 0x44000 then d.coreWrite (o / 0x1000) u (o % 0x1000) v else (true, d)
    | .host _ => (true, d)
  else if b = 16 then
    match who with
    | .core u _ => d.bgnWrite u o v
    | .host _ => (true, d)
  else (true,
    if b = 4 then (if o = 0x100 then d.entrySel (v % 131072) else d)
    else if b = 15 then
      (match who with
       | .host _ => d.hashWrite rd 7 (o % 0x100) v
       | .core _ task => if o < 0x500 && !task then d.hashWrite rd (o / 0x100) (o % 0x100) v else d)
    else if b = 20 then
      (if o = 4 then d.fcuFaultn v else if 0x100 ≤ o && o < 0x180 then d.fcuActive ((o - 0x100) / 4) v else d)
    else if b = 22 then
      (match who with
       | .core _ false => if o < 0x400 * 174 then d.acuWrite (o / 0x400) (o % 0x400) v else d
       | _ => d)
    else if off = 0xE00100 then { d with fls.wearSel := v % 2048 }
    else d)

/-- REGISTER_WRITE: a register of BAR0 or BAR4, the function mask in a function's MSI-X capability, or a register as resident
firmware writes it. -/
def Dev.registerWrite (d : Dev) (rd : Nat → Nat → Bytes) (pf : Nat) (r : HostReg) (v : Nat) : Dev :=
  match r with
  | .bar0 off => (d.regWrite rd (.host pf) (4 * off.val) v).2
  | .firmware p off => (d.regWrite rd (.core (0x100 + p.val) false) (4 * off.val) v).2
  | .bar4 off => if pf = 0 && off.val = 1 && bitOf v 1 then d.onHif (fun h => { h with mbox := { h.mbox with responseReady := false } }) else d
  | .functionMask => if bitOf v 0 then d.onFn pf (fun x => { x with masked := true }) else (d.onFn pf (fun x => { x with masked := false })).releaseFn pf

end Sys2Proof.Machine
end

