-- ==== Sys2Proof/Machine/Hosting.lean ====
section
/-!
DEFINITION. The host interface: function resets, the link, DMA errors, vectors and routes (R280–R310).
-/
namespace Sys2Proof.Machine

/-- FLR. A Function Level Reset, or (`busMaster`) a clear of Bus Master Enable (R300). -/
def execFlr (f : Fin 4) (busMaster : Bool) (t : Ticks) (s : State) : Host.Outcome State Fault Refusal :=
  s.run t (fun d => d.flr f busMaster)

/-- PCIE_LINK_DOWN. The PCIe link goes down (R300). -/
def execPcieLinkDown (t : Ticks) (s : State) : Host.Outcome State Fault Refusal :=
  s.run t (fun d => d.linkDown)

/-- PCIE_LINK_UP. The PCIe link has trained: 0 x4, 1 x8, 2 x16, and 0–4 for 2.5 to 32.0 GT/s (R280, R301). -/
def execPcieLinkUp (width : Fin 3) (speed : Fin 5) (t : Ticks) (s : State) : Host.Outcome State Fault Refusal :=
  s.run t (fun d => d.linkUp width speed)

/-- HOST_DMA_ERROR. A DMA access for a queue fails (R287). -/
def execHostDmaError (q : Fin 16384) (f : DmaFail) (t : Ticks) (s : State) : Host.Outcome State Fault Refusal :=
  s.runM t (fun d rd => d.hostDmaError rd q f)

/-- VECTOR_FIRE. A vector's coalescing time or count is reached (R297). -/
def execVectorFire (v : Fin 8192) (t : Ticks) (s : State) : Host.Outcome State Fault Refusal :=
  s.run t (fun d => d.vectorFire v)

/-- VECTOR_UNMASK. Held messages are let go (R297). -/
def execVectorUnmask (u : Unmask) (t : Ticks) (s : State) : Host.Outcome State Fault Refusal :=
  s.run t (fun d => d.vectorUnmask u)

/-- EVT_PENDING_CLEAR. EVT_PENDING[w] is written through a function (R298, R306). -/
def execEvtPendingClear (pf : Fin 4) (w : Fin 544) (v : Word32) (t : Ticks) (s : State) : Host.Outcome State Fault Refusal :=
  s.run t (fun d => d.evtPendingClear pf w v.toNat)

/-- EVT_ROUTE_WRITE. A word of EVT_ROUTE is written through a function (R302, R303). -/
def execEvtRouteWrite (pf : Fin 4) (src : Fin 17408) (word : Fin 2) (v : Word32) (t : Ticks) (s : State) : Host.Outcome State Fault Refusal :=
  s.run t (fun d => d.routeWrite pf src word v.toNat)

/-- D3HOT. A function enters D3hot (R281). -/
def execD3hot (f : Fin 4) (t : Ticks) (s : State) : Host.Outcome State Fault Refusal :=
  s.run t (fun d => d.toD3hot f)

/-- REGISTER_WRITE. Host software writes a register through a function, or resident firmware writes one (R18, R282, R399). -/
def execRegisterWrite (pf : Fin 4) (r : HostReg) (v : Word32) (t : Ticks) (s : State) : Host.Outcome State Fault Refusal :=
  s.runM t (fun d rd => d.registerWrite rd pf r v.toNat)

end Sys2Proof.Machine
end

