-- ==== Sys2Proof/Machine/Keeping.lean ====
section
/-!
DEFINITION. Commands of the big-number engine, the random bit generator and the key store (R451–R479).
-/
namespace Sys2Proof.Machine

/-- BGN_LOCK. The writes of BGN_LOCK in one cycle: user ID of each writing purser and value written (R451, R459). -/
def execBgnLock (writes : List (Nat × Nat)) (t : Ticks) (s : State) : Host.Outcome State Fault Refusal :=
  s.run t (fun d => d.bgnLock writes)

/-- BGN_SLOT. A write of BGN_SLOT by a user (R452, R462). -/
def execBgnSlot (user : Nat) (i : Fin 64) (v : Word32) (t : Ticks) (s : State) : Host.Outcome State Fault Refusal :=
  s.run t (fun d => (d.bgnWrite user (0x100 + 4 * i) v.toNat).2)

/-- BGN_ADD. The queued ADD runs (R454, R455). -/
def execBgnAdd (t : Ticks) (s : State) : Host.Outcome State Fault Refusal :=
  s.run t (fun d => d.bgnAdd)

/-- BGN_SUB. The queued SUB runs (R454, R455). -/
def execBgnSub (t : Ticks) (s : State) : Host.Outcome State Fault Refusal :=
  s.run t (fun d => d.bgnSub)

/-- BGN_MUL. The queued Montgomery MUL runs (R454, R455). -/
def execBgnMul (t : Ticks) (s : State) : Host.Outcome State Fault Refusal :=
  s.run t (fun d => d.bgnMul)

/-- TO_MONT. The queued TO_MONT runs (R454). -/
def execToMont (t : Ticks) (s : State) : Host.Outcome State Fault Refusal :=
  s.run t (fun d => d.bgnToMont)

/-- FROM_MONT. The queued FROM_MONT runs (R454, R455). -/
def execFromMont (t : Ticks) (s : State) : Host.Outcome State Fault Refusal :=
  s.run t (fun d => d.bgnFromMont)

/-- BGN_INV. The queued INV runs (R455). -/
def execBgnInv (t : Ticks) (s : State) : Host.Outcome State Fault Refusal :=
  s.run t (fun d => d.bgnInv)

/-- BGN_EXP. The queued EXP runs (R455). -/
def execBgnExp (t : Ticks) (s : State) : Host.Outcome State Fault Refusal :=
  s.run t (fun d => d.bgnExp)

/-- EXP_BLIND. The queued EXP_BLIND runs (R455). -/
def execExpBlind (t : Ticks) (s : State) : Host.Outcome State Fault Refusal :=
  s.run t (fun d => d.bgnExpBlind)

/-- BGN_COPY. The queued COPY runs (R454). -/
def execBgnCopy (t : Ticks) (s : State) : Host.Outcome State Fault Refusal :=
  s.run t (fun d => d.bgnCopy)

/-- SET_MOD. The queued SET_MOD runs (R455). -/
def execSetMod (t : Ticks) (s : State) : Host.Outcome State Fault Refusal :=
  s.run t (fun d => d.bgnSetMod)

/-- BGN_RANDOM. The queued RANDOM runs (R454, R466). -/
def execBgnRandom (t : Ticks) (s : State) : Host.Outcome State Fault Refusal :=
  s.run t (fun d => d.bgnRandom)

/-- LOAD_KEY. The queued LOAD_KEY runs (R453, R454). -/
def execLoadKey (t : Ticks) (s : State) : Host.Outcome State Fault Refusal :=
  s.run t (fun d => d.bgnLoadKey)

/-- STORE_KEY. The queued STORE_KEY runs (R454). -/
def execStoreKey (t : Ticks) (s : State) : Host.Outcome State Fault Refusal :=
  s.run t (fun d => d.bgnStoreKey)

/-- BN_JOB. The BN_JOB request is written (R458). -/
def execBnJob (req : Bytes) (t : Ticks) (s : State) : Host.Outcome State Fault Refusal :=
  s.write t (fun d => answered (d.bnJob req))

/-- BN_JOB_DONE. The BN_JOB's exponentiation ends (R458). -/
def execBnJobDone (t : Ticks) (s : State) : Host.Outcome State Fault Refusal :=
  s.run t (fun d => d.bnJobDone)

/-- RNG_SEED_READY. The conditioner releases a seed (R463, R464, R467). -/
def execRngSeedReady (t : Ticks) (s : State) : Host.Outcome State Fault Refusal :=
  s.run t (fun d => d.rngSeed)

/-- RNG_HEALTH_FAIL. A group fails a test: 0 liveness, 1 lock, 2 repetition count, 3 adaptive proportion (R465–R467). -/
def execRngHealthFail (g test : Fin 4) (t : Ticks) (s : State) : Host.Outcome State Fault Refusal :=
  s.run t (fun d => d.rngHealthFail g test)

/-- RNG_GROUP_RETEST. An excluded group is tested again (R466). -/
def execRngGroupRetest (g : Fin 4) (pass : Bool) (t : Ticks) (s : State) : Host.Outcome State Fault Refusal :=
  s.run t (fun d => d.rngRetest g pass)

/-- RNG_CLIENT_RESEED. A client reaches 2^20 requests or 1 s (R464). -/
def execRngClientReseed (c : Fin 64) (t : Ticks) (s : State) : Host.Outcome State Fault Refusal :=
  s.run t (fun d => d.rngReseed c)

/-- KEY_GENERATE. GENERATE is written (R472). -/
def execKeyGenerate (req : Bytes) (t : Ticks) (s : State) : Host.Outcome State Fault Refusal :=
  s.write t (fun d => answered (d.keyGenerate req))

/-- KEY_IMPORT. IMPORT is written (R472). -/
def execKeyImport (req : Bytes) (t : Ticks) (s : State) : Host.Outcome State Fault Refusal :=
  s.write t (fun d => answered (d.keyImport req))

/-- KEY_RESTRICT. RESTRICT is written (R472). -/
def execKeyRestrict (req : Bytes) (t : Ticks) (s : State) : Host.Outcome State Fault Refusal :=
  s.write t (fun d => answered (d.keyRestrict req))

/-- KEY_DESTROY. DESTROY is written (R474). -/
def execKeyDestroy (i : Nat) (t : Ticks) (s : State) : Host.Outcome State Fault Refusal :=
  s.write t (fun d => answered (d.keyDestroy i))

end Sys2Proof.Machine
end

