-- ==== Sys2Proof/Machine/Launching.lean ====
section
/-!
DEFINITION. The launch table, the pins and the overlay exchange (R57–R107, R648).
-/
namespace Sys2Proof.Machine

/-- LAUNCH_COMMIT. A commit point is reached: an entry's, a pulse end's or a participant's (R71). -/
def execLaunchCommit (r : CommitRef) (t : Ticks) (s : State) : Host.Outcome State Fault Refusal :=
  s.run t (fun d => d.launchCommit r)

/-- FRAME_SEAL. The frame of a committed entry is sealed (R70). -/
def execFrameSeal (h : Nat) (t : Ticks) (s : State) : Host.Outcome State Fault Refusal :=
  s.run t (fun d => d.frameSeal h)

/-- LAUNCH_ACTION. Actions due by the instant are carried out, in the order of their slots (R76). -/
def execLaunchAction (t : Ticks) (s : State) : Host.Outcome State Fault Refusal :=
  s.run t (fun d => d.runDue)

/-- PULSE_END. Pulse ends of a pin due by the instant (R78). -/
def execPulseEnd (n : Fin 32) (t : Ticks) (s : State) : Host.Outcome State Fault Refusal :=
  s.run t (fun d => d.endPulses n)

/-- PIN_SENSE. The sense path has measured the oldest placed edge, or has not seen it (R91). -/
def execPinSense (n : Fin 32) (measured : Option Ticks) (t : Ticks) (s : State) : Host.Outcome State Fault Refusal :=
  s.run t (fun d => d.pinSense n measured)

/-- RELEASE. RELEASE of a launch handle (R74). -/
def execRelease (h : Nat) (t : Ticks) (s : State) : Host.Outcome State Fault Refusal :=
  s.action t (fun d => d.releaseEntry h)

/-- CANCEL. CANCEL of a launch handle (R75). -/
def execCancel (h : Nat) (t : Ticks) (s : State) : Host.Outcome State Fault Refusal :=
  s.action t (fun d => d.cancelEntry h)

/-- PIN_ENABLE. A pin is enabled (R90). -/
def execPinEnable (n : Fin 32) (t : Ticks) (s : State) : Host.Outcome State Fault Refusal :=
  s.action t (fun d => d.pinEnableWrite n)

/-- PIN_DISABLE. A pin is disabled (R90). -/
def execPinDisable (n : Fin 32) (t : Ticks) (s : State) : Host.Outcome State Fault Refusal :=
  s.action t (fun d => (d.set Od.pin_ENABLE n 0).pinDisable n)

/-- PIN_DRAIN_DONE. A disabled pin has no entry and no pulse left (R648). -/
def execPinDrainDone (n : Fin 32) (t : Ticks) (s : State) : Host.Outcome State Fault Refusal :=
  s.run t (fun d => d.pinDrainDone n)

/-- PIN_RECAL_CHECK. A pin's delays are due for a measurement (R92). -/
def execPinRecalCheck (n : Fin 32) (t : Ticks) (s : State) : Host.Outcome State Fault Refusal :=
  s.run t (fun d => d.pinRecalCheck n)

/-- PIN_RECAL_DONE. A replica measurement has ended, with what it measured (R92). -/
def execPinRecalDone (n : Fin 32) (rise fall temp : Int) (t : Ticks) (s : State) : Host.Outcome State Fault Refusal :=
  s.run t (fun d => d.pinRecalDone n rise fall temp)

/-- LCH_ENTRY_SEL. LCH_ENTRY_SEL is written (R100). -/
def execLchEntrySel (h : Nat) (t : Ticks) (s : State) : Host.Outcome State Fault Refusal :=
  s.run t (fun d => d.entrySel h)

/-- OVERLAY_PREPARE. A PREPARE of the overlay exchange (R94). -/
def execOverlayPrepare (chip h : Nat) (image : EntryImage) (t : Ticks) (s : State) : Host.Outcome State Fault Refusal :=
  s.run t (fun d => d.overlayPrepare chip h image)

/-- OVERLAY_ANSWER. A participant's answer reaches the master (R94). -/
def execOverlayAnswer (chip h sender : Nat) (a : OvlAnswer) (t : Ticks) (s : State) : Host.Outcome State Fault Refusal :=
  s.run t (fun d => d.takeAnswer chip h sender a)

/-- OVERLAY_DECIDE. The master decides (R95). -/
def execOverlayDecide (chip h : Nat) (t : Ticks) (s : State) : Host.Outcome State Fault Refusal :=
  s.run t (fun d => d.overlayDecide chip h)

/-- OVERLAY_DECISION_RECEIVE. The master's decision reaches a participant (R95). -/
def execOverlayDecisionReceive (chip h : Nat) (dec : OvlDecision) (t : Ticks) (s : State) : Host.Outcome State Fault Refusal :=
  s.run t (fun d => d.decisionReceive chip h dec)

/-- LATE_TOL_PASSED. The late tolerance of an entry has passed (R71). -/
def execLateTolPassed (h : Nat) (t : Ticks) (s : State) : Host.Outcome State Fault Refusal :=
  s.run t (fun d => d.lateTolPassed h)

end Sys2Proof.Machine
end

