-- ==== Sys2Proof/Machine/StartOps.lean ====
section
/-!
DEFINITION. Entering reset, the start-up sequence, firmware selection, restore and restart (R136–R148, R195, R277,
R616–R624).
-/
namespace Sys2Proof.Machine

/-! ## Entering reset (R137, R540, R619) -/

/-- The device enters reset: outputs are released, the field and the card supplies go off, the manifest is signed, and the
sessions that were OPEN are noted. -/
def Dev.enterReset (d : Dev) : Dev :=
  let live := (match d.sys.phase with
    | .starting | .running => true
    | _ => false) && !d.man.parked
  let d1 := d.drivePins { d with lch.pins := [] }
  let d2 := if d1.rd.field then d1.emit (.line "RF_FIELD" 0) else d1
  let d3 := [0, 1].foldl (fun y x => if (y.cardSlot x).powered then y.emit (.line (vccName x) 0) else y) d2
  { d3 with
    sys := { d3.sys with phase := .inReset, restartAs := none,
                         again := (if d.sys.phase = .starting then some d.sys.path else none),
                         reopen := if live then (d.net.sessions.filter (fun e => e.2.state.live && decide (e.2.state ≠ .closing))).map (·.1) else d.sys.reopen },
    que.man.retention := live || (decide (d.sys.phase = .recovery) && d.man.retention), que.man.shutdown := false,
    ctl.rd := {}, per.slots := [], per.inputs := [], per.remote := [] }

/-! ## What survives (R17, R137, R143, R195, R624) -/

/-- Rows whose stored values are read back from flash, the life-cycle store or the key store at every start. -/
def storedRows : List OdRow := [
  Od.idn_UNIT_ID, Od.idn_IDENTITY_PUBLIC, Od.idn_ATTEST_PUBLIC, Od.idn_BIRTH_PUBLIC, Od.idn_BIRTH_CERT, Od.idn_DEVICE_CHAIN,
  Od.lcy_PROVISION_RECORD, Od.lcy_TRANSITION_RECORD, Od.lcy_TRANSITIONS, Od.fls_SPARES_LEFT, Od.fls_RETIRED,
  Od.fls_REFRESHES, Od.fls_ERASE_RESUMED, Od.fls_UNCORRECTABLE, Od.fls_CORRECTED, Od.bnk_SPARES_LEFT, Od.bnk_ERASES,
  Od.bnk_SUSPENDS, Od.bnk_MAX_CYCLES, Od.rgn_FIRST, Od.rgn_COUNT, Od.rgn_MODE, Od.sta_STARTS, Od.sta_FW_FALLBACKS]

/-- An object key belongs to a row. -/
def OdRow.owns (r : OdRow) (k : Nat) : Bool :=
  decide (r.index * 256 + r.sub ≤ k / 16777216) && decide (k / 16777216 < r.index * 256 + r.sub + r.count)

/-- Whether a direct value outlives a reset: the wear records do as a whole. -/
def keptKey (k : Nat) : Bool := storedRows.any (fun r => r.owns k) || Od.rows.any (fun r => r.index == Od.wea_CYCLES.index && r.owns k)

/-- What every start keeps: flash, the life-cycle store, fuses and the tag memory. -/
def Dev.kept (d : Dev) : Dev :=
  let m := d.man
  { now := d.now, free := d.free, out := d.out,
    od := { direct := { nums := d.od.direct.nums.filter (fun e => keptKey e.1), octs := d.od.direct.octs.filter (fun e => keptKey e.1) },
            mode := d.od.mode, maint := d.od.maint, trial := d.od.trial },
    obj := { charts := d.obj.charts, overlays := d.obj.overlays, orphans := d.obj.orphans, marked := d.obj.marked, floors := d.obj.floors,
             customer := d.obj.customer },
    que := { man := { areaA := m.areaA, areaB := m.areaB, saved := m.saved, saveNumber := m.saveNumber, lastSave := m.lastSave, saveLog := m.saveLog,
                      reservations := m.reservations, retention := m.retention, acceptedSince := m.acceptedSince } },
    net := { sessions := d.net.sessions.mapVals (fun _ x => { resume := x.resume, txReserved := x.txReserved, rxReserved := x.rxReserved }) },
    fry := { twin := { ceiling := d.fry.twin.ceiling } },
    flt := { flashLog := d.flt.flashLog, droppedBefore := d.flt.droppedBefore, shieldLatched := d.flt.shieldLatched, tamperMark := d.flt.tamperMark },
    per := { ledger := d.per.ledger, nextNumber := d.per.nextNumber },
    ctl := { tag := d.ctl.tag },
    sys := d.sys,
    cry := { keys := { records := d.cry.keys.records, gens := d.cry.keys.gens, salt := d.cry.keys.salt, wrapNext := d.cry.keys.wrapReserved,
                       wrapReserved := d.cry.keys.wrapReserved },
             lcy := { d.cry.lcy with nonce := none, busy := false, result := 0, scopes := 0, scopesEnd := none, attest := 0, challenge := [],
                                     boundary := 0, extest := false } },
    fls := { d.fls with wearSel := 0, regions := d.fls.regions.mapVals (fun _ r => { r with locked := true }) } }

/-- A key-store record's bookkeeping apart, a warm start keeps the manifest or the mirror, the retained queue state, the
session table and the streams besides (R136, R137, R195, R205). -/
def Dev.keptWarm (d : Dev) : Dev :=
  let k := d.kept
  let m := d.man
  let t := d.fry.twin
  let items := if d.keepsMirror then t.mirror else m.items.filter (fun e => decide (e.1 < 131072))
  { k with
    que := { man := { k.que.man with items := items, streamCells := (if d.keepsMirror then t.mirrorCells else m.streamCells),
                                        lastAlloc := if d.keepsMirror then t.mirrorAlloc else m.lastAlloc },
             queues := d.que.queues.mapVals (fun _ q => { nextSeq := q.nextSeq }), convoys := d.que.convoys },
    net := { sessions := d.net.sessions.mapVals (fun _ x => { x with
               state := .closed, keys := none, nextKeys := none, overlapEnd := none, upd := none, setup := none, keyUses := 0, nextUses := 0, lastRefuse := 0,
               safeSealed := none, safeLeft := 0, closeCancel := false, closeAsked := false, rebasing := false }),
             streams := if d.keepsMirror then t.streamCopies.map (fun e => (e.1, { streamOfCopy e.2 with gapNext := true })) else d.net.streams },
    fry := { twin := { ceiling := t.ceiling, claim := t.claim, seen := t.seen, journal := d.journalCopy.journal } } }

/-! ## The journal (R137, R144, R145, R147, R148) -/

/-- An item as a start takes it up: nothing of it stands in a ring, a replication that was under way has been abandoned, and
what was DISPATCHED to a session or a consumer is handed over again. -/
def Item.restart (x : Item) (restored : Bool) : Item :=
  { x with unacked := false, single := x.single || x.unacked, journal := 0, termPos := none, deliveredAt := none, restored := restored,
           resend := decide (x.state = .dispatched) && decide (x.kind ≠ .launchEntry) }

def Dev.setJournal (d : Dev) (items : Tab Item) (restored : Bool) : Dev :=
  d.onMan (fun m => { m with items := items.mapVals (fun _ x => x.restart restored) })

/-- Highest value of a list, plus one. -/
def nextAbove (l : List Nat) : Nat := l.foldl (fun a n => max a (n + 1)) 0

/-- R147: next sequences of queues and convoys after a cold start. -/
def Dev.coldQueues (d : Dev) : Dev :=
  let items := d.man.items.map (·.2)
  let qs := dedup (d.man.reservations.map (·.1) ++ items.map (fun x => x.queue))
  let d1 := qs.foldl (fun y q =>
    y.setQueue q { nextSeq := max (d.man.reservations.get 0 q) (nextAbove ((items.filter (fun x => x.queue == q)).map (fun x => x.seq))) }) d
  let cs := (dedup (items.map (fun x => d.cfgN Od.que_CONVOY x.queue))).filter (fun c => decide (c < 1024))
  { d1 with que.convoys := cs.foldl (fun t c =>
      t.ins c { next := nextAbove ((items.filter (fun x => d.cfgN Od.que_CONVOY x.queue == c)).map (fun x => x.cseq)) }) d1.que.convoys }

/-- R195: a session after a cold start, from its reservations and what the restored items hold. -/
def Dev.coldSessions (d : Dev) : Dev :=
  let items := d.man.items.map (·.2)
  let slotOf (x : Item) : Option Nat := d.sesOf (d.cfgN Od.que_SESSION x.queue)
  { d with net.sessions := d.net.sessions.mapVals (fun i x =>
      let sent := (items.filter (fun y => slotOf y == some i)).filterMap (fun y => y.sff)
      let got := items.filterMap (fun y => match y.ingress with
        | some (k, n) => if k = i then some n else none
        | none => none)
      { x with tx := max x.txReserved (nextAbove sent), rxFloor := max x.rxReserved (nextAbove got),
               high := nextAbove got - 1, window := got }) }

/-- R205: streams after a cold start that restores. -/
def Dev.coldStreams (d : Dev) (s : SavedArea) : Dev :=
  { d with que.man.streamCells := s.cells,
           net.streams := s.streams.map (fun e => (e.1, { streamOfCopy e.2 with gapNext := true })) }

/-- R583: an erase of a save area that was cut is to be done again. -/
def AreaState.atStart (a : AreaState) : AreaState :=
  match a with
  | .erasing | .halfErased => .halfErased
  | x => x

/-- A background erase begins (R617, step 12). -/
def AreaState.begin (a : AreaState) : AreaState :=
  match a with
  | .halfErased | .stale => .erasing
  | x => x

/-- The cold path finds no journal: MANIFEST_LOST, and both areas are erased (R144). -/
def Dev.coldLost (d : Dev) : Dev :=
  let again (a : AreaState) : AreaState := if a = .erased then .erased else .erasing
  ((d.onMan (fun m => { m with areaA := again m.areaA, areaB := again m.areaB, acceptedSince := false, saveLog := .lost :: m.saveLog })).bump
    Od.man_MANIFEST_LOST_COUNT 0).raise 17 0xDB 0xFFFF

/-- R155: a warm reset whose retention signature is not valid has lost what was accepted since the last save or restore
(log entry 147). -/
def Dev.retentionLost (d : Dev) : Dev :=
  if d.man.acceptedSince then
    ((d.onMan (fun m => { m with acceptedSince := false })).bump Od.man_MANIFEST_LOST_COUNT 0).raise 17 0xDB 0xFFFF
  else d

/-- R144, R145: restore from an area. -/
def Dev.restoreFrom (d : Dev) (area : Nat) : Dev :=
  let s := (d.man.saved.find area).getD {}
  let other := d.man.area (1 - area)
  let d1 := (d.setJournal s.items true).onTwin (fun t => { t with journal := s.journal })
  let d2 := d1.coldStreams s
  if other = .erased then
    d2.onMan (fun m => { (m.setArea area .erasing) with saveLog := .restored :: m.saveLog, items := m.items.mapVals (fun _ x => { x with restored := false }) })
  else d2.onMan (fun m => { (m.setArea (1 - area) .erasing) with restoreHold := true })

/-- The cold path; START_PATH. -/
def Dev.coldPath (d : Dev) (saveOk : Bool) : Nat × Dev :=
  let d0 := d.onMan (fun m => { m with areaA := m.areaA.atStart, areaB := m.areaB.atStart })
  let begin_ (y : Dev) : Dev := y.onMan (fun m => { m with areaA := m.areaA.begin, areaB := m.areaB.begin })
  match d0.man.saveLog with
  | .saveEnd _ area _ _ :: _ =>
    if saveOk && decide (d0.man.area area = .valid) then (1, (begin_ (d0.restoreFrom area)).retentionLost) else (3, d0.coldLost)
  | .saveBegin _ _ :: _ => (3, d0.coldLost)
  | .saveSkipped :: _ => (3, d0.coldLost)
  | _ => (2, (begin_ d0).retentionLost)

/-! ## Firmware slots (R620–R622) -/

def Sys.fw (s : Sys) (slot : Nat) : FwSlot := if slot = 0 then s.slotA else s.slotB

def Sys.setFw (s : Sys) (slot : Nat) (x : FwSlot) : Sys := if slot = 0 then { s with slotA := x } else { s with slotB := x }

def Dev.fwFallback (d : Dev) (slot : Nat) : Dev :=
  (({ d with sys := d.sys.setFw slot { d.sys.fw slot with state := .failed } }).bump Od.sta_FW_FALLBACKS 0).raise 26 0x46 0xFFFF [(slot : Int)]

/-- Try slots in turn: the first that verifies runs; a PENDING one becomes TRYING. -/
def Dev.tryFirmware (ok : Nat → Bool) : List Nat → Dev → Option Dev
  | [], _ => none
  | s :: rest, d =>
    let x := d.sys.fw s
    if ok s && decide (d.obj.floors.get 0 5 ≤ x.secVersion) then
      some { d with sys := { d.sys.setFw s (if x.state = .pending then { x with state := .trying } else x) with runSlot := s } }
    else Dev.tryFirmware ok rest (d.fwFallback s)

/-- The device after the slots that were tried in vain. -/
def Dev.failFirmware (ok : Nat → Bool) : List Nat → Dev → Dev
  | [], d => d
  | s :: rest, d =>
    if ok s && decide (d.obj.floors.get 0 5 ≤ (d.sys.fw s).secVersion) then d else Dev.failFirmware ok rest (d.fwFallback s)

/-- R620: select a firmware slot; whether one runs. Of two CONFIRMED slots the one that ran last is preferred: the other is
kept as the fallback. -/
def Dev.selectFirmware (d : Dev) (badA badB : Bool) : Bool × Dev :=
  let d1 := [0, 1].foldl (fun (y : Dev) s => if (y.sys.fw s).state = .trying then y.fwFallback s else y) d
  let of (st : FwState) : List Nat := [d.sys.runSlot % 2, 1 - d.sys.runSlot % 2].filter (fun s => decide ((d1.sys.fw s).state = st))
  let l := (of .pending).take 1 ++ of .confirmed
  let ok (s : Nat) : Bool := if s = 0 then !badA else !badB
  match Dev.tryFirmware ok l d1 with
  | some d2 => (true, d2)
  | none => (false, Dev.failFirmware ok l d1)

/-- R620, R273: at step 14 a TRYING slot becomes CONFIRMED, and may raise the floor. -/
def Dev.confirmFirmware (d : Dev) : Dev :=
  let s := d.sys.runSlot
  let x := d.sys.fw s
  let d1 := { d with sys := d.sys.setFw s { x with state := .confirmed } }
  if x.raiseFloor && decide (d.obj.floors.get 0 5 < x.secVersion) then { d1 with obj.floors := d1.obj.floors.ins 5 x.secVersion } else d1

/-! ## Chart and layers (R277) -/

/-- A life-cycle state that runs charts (R482). -/
def LcState.charts (s : LcState) : Bool :=
  match s with
  | .provisioned | .operational | .diagnostic => true
  | _ => false

/-- R500: the values of 0x6000 by the source that their number names. -/
def Dev.bySource (d : Dev) (v : OdValues) : OdValues :=
  let mine (k : Nat) : Bool := k / 16777216 / 256 == 0x6000
  { v with nums := (v.nums.filter (fun e => mine e.1)).foldl (fun t e => t.ins (e.1 / 16777216 * 16777216 + d.sourceOf (e.1 % 16777216)) e.2)
                     (v.nums.filter (fun e => !mine e.1)) }

/-- The marked chart is verified and activated; a completed switch may raise the floor (R273). -/
def Dev.activateChart (d : Dev) (chartOk switched : Bool) : Dev :=
  match d.obj.marked with
  | none => d
  | some s =>
    match d.obj.charts.find s with
    | none => d
    | some i =>
      if !chartOk || !d.cry.lcy.state.charts then d
      else
        let d1 := { d with obj.activeSlot := some s, od.chart := d.bySource (valuesOf i.records) }
        let d2 := if switched && bitOf i.flags 0 && decide (d.obj.floors.get 0 1 < i.secVersion) then { d1 with obj.floors := d1.obj.floors.ins 1 i.secVersion } else d1
        if switched then d2.raise 23 0x123 0xFFFF else d2

/-- A layer is cleared at a start. -/
def Dev.clearLayer (d : Dev) (n : Nat) : Dev :=
  let l := d.od.layer n
  if l.set = 0 then d else ({ d with od := d.od.setLayer n { since := d.now, switches := l.switches } }).raise 23 0x121 n

/-- R277: the layers at a start. -/
def Dev.restoreLayers (d : Dev) : Dev :=
  let bad (l : Layer) : Bool := l.set ≠ 0 && l.base ≠ d.chartDigest
  let orphan (y : Dev) (l : Layer) : Dev :=
    if bad l then { y with obj.orphans := dedup (y.obj.orphans ++ ((y.obj.overlays.filter (fun e => e.2.digest == l.digest)).map (·.1))) } else y
  let d1 := [d.od.mode, d.od.maint, d.od.trial].foldl orphan d
  let d2 := d1.clearLayer 3
  let d3 := if bad d.od.maint || !d2.permitted 1 (.layer 2) then d2.clearLayer 2 else d2
  if bad d.od.mode then d3.clearLayer 1 else d3

/-! ## Units that the chart enables (R617, steps 13 and 14) -/

/-- Instances of an ENABLE object that are ON. -/
def Dev.enabledOf (d : Dev) (r : OdRow) : List Nat := (d.listedInsts r).filter (fun n => d.cfgB r n)

def Dev.restoreEntries (d : Dev) : Dev :=
  (d.man.items.filter (fun e => decide (e.2.kind = .launchEntry) && !e.2.state.isEnd)).foldl (fun y e => y.restoreEntry e.1) d

/-- Ports, Bearings, pins, streams and the reader as the chart enables them. -/
def Dev.enableUnits (d : Dev) : Dev :=
  let d1 := (d.enabledOf Od.prt_ENABLE).foldl (fun y p => y.onPort p (fun x => { x with up := decide (y.cfg Od.prt_MODE p ≠ 0) })) d
  let d2 := (d1.enabledOf Od.fry_ENABLE).foldl (fun y p => y.setFPort p { state := .training, trainStart := y.now }) d1
  let d3 := (d2.enabledOf Od.brg_ENABLE).foldl (fun y b => y.bearingEnable b) d2
  let d4 := if d3.admitsWork then (d3.enabledOf Od.pin_ENABLE).foldl (fun y n => y.pinEnable n) d3 else d3
  let d5 := (d4.enabledOf Od.str_ENABLE).foldl (fun y s => (y.streamEnable s true).2) d4
  let d6 := d5.timeProfile
  if d6.cfgB Od.cls_ENABLE 0 then d6.onRd (fun r => { r with on := true }) else d6

/-! ## The sequence (R617) -/

/-- Steps 1 to 3: the fault collector, a latched shield event, the life-cycle word. -/
def Dev.earlyStart (d : Dev) (i : StartIn) : Dev :=
  let d1 := if d.flt.shieldLatched then (d.eraseKeys true).onFlt (fun f => { f with shieldLatched := false, level2 := true }) else d
  let w := d1.cry.lcy.word
  let st : LcState := if i.readsAgree then LcState.ofWord w else .lost
  let d2 := d1.onLcy (fun x => { x with readWord := w, state := st })
  let d3 := if st = .lost then d2.raise 26 0x42 0xFFFF else d2
  (d3.powerStart).onMan (fun m => { m with holdupOk := i.holdup })

/-- The role in which a unit starts (R233, R617 step 14). -/
def Dev.startRole (d : Dev) (t : Ticks) : Dev :=
  if d.cfg Od.twn_TWIN_MODE 0 = 0 then d.onTwin (fun x => { x with role := .alone })
  else d.onTwin (fun x => { x with role := .waiting, waitingSince := t })

/-- R227, R234: the sessions between the units of a pair open before the role is decided, since it is decided over them (log
entry 164). -/
def Dev.openTwinSessions (d : Dev) : Dev :=
  ((d.enabledOf Od.ses_ENABLE).filter (fun i => d.twinSession i && d.cfgB Od.ses_INITIATE i)).foldl (fun y i => y.openSession i false) d

/-- Steps 10 to 14, with firmware running. -/
def Dev.lateStart (d : Dev) (i : StartIn) (cause : Nat) (cold : Bool) : Dev :=
  let d1 := d.loadKeys.ledgerStart
  let d2 := d1.makeBirthKey.makeIdentity
  let d3 := (d2.activateChart i.chartOk (cause = 3)).restoreLayers
  let d3 := if cold then d3.coldQueues.coldSessions else d3
  let d4 := (d3.startRole i.ready).makeTransitionRecord
  let d5 := i.pierFails.foldl (fun y p => y.pierRetire p.val 4 [] y.now) d4
  let d6 := (d5.enabledOf Od.lan_ENABLE).foldl (fun y n => (y.laneEnable n true).2) d5
  let d7 := d6.enableUnits.restoreEntries
  let d8 := d7.confirmFirmware.tagStart
  let fw := d8.sys.fw d8.sys.runSlot
  (((({ d8 with hif.ready := true, sys.phase := .starting }).set Od.idn_FW_VERSION 0 fw.version).set Od.idn_FW_SLOT 0 d8.sys.runSlot).setOct
    Od.idn_FW_DIGEST 0 fw.digest).openTwinSessions

/-- A start from the release of reset, with a cause (R616, R617). -/
def Dev.start (d : Dev) (i : StartIn) (cause : Nat) : Dev :=
  let warm := i.sramKept && d.man.retention && cause ≠ 0 && cause ≠ 2
  let base := if warm then d.keptWarm else d.kept
  let b1 := { base with sys := { base.sys with cause := cause, releasedAt := d.now, again := none, nextCause := 1 },
                        fry.flo.ownId := i.flotId.val, fry.flo.master := i.flotId.val, que.man.retention := warm }
  let b2 := (b1.bump Od.sta_STARTS 0).earlyStart i
  match b2.cry.lcy.state with
  | .lost | .scrap => { b2 with sys.phase := .minimal }
  | _ =>
    let b3 := if warm then (b2.setJournal b2.man.items false).scrub i.scrub else b2
    let b4 := (b3.resumeErases).set Od.sta_START_TIME 0 (i.ready - d.now)
    match b4.selectFirmware i.badA i.badB with
    | (false, b5) => (({ b5 with sys.phase := .recovery, hif.ready := true }).driveFaultN).raise 26 0x48 0xFFFF
    | (true, b5) =>
      if warm then
        ({ (b5.onMan (fun m => { m with areaA := m.areaA.begin, areaB := m.areaB.begin })) with
           sys.path := d.sys.again.getD 0 }).lateStart i cause false
      else
        let (path, b6) := b5.coldPath i.saveOk
        ({ b6 with sys.path := path }).lateStart i cause true

/-! ## Commands -/

/-- POWER_ON: VDD_AON comes into regulation; the memories hold nothing that can be relied on. -/
def Dev.powerOn (d : Dev) : Dev :=
  if d.sys.phase ≠ .off then d
  else { d with sys := { d.sys with phase := .inReset, nextCause := 0, again := none }, que.man.retention := false, bufOut := [.clear 0 (2 ^ 41)] }

/-- RESET_N_ASSERT, with the time for which RESET_N is low (R619, R631). A save under way goes to its end first (R143). -/
def Dev.resetAssert (d : Dev) (low : Ticks) : Dev :=
  if low < us then d
  else match d.sys.phase with
    | .off => d
    | .inReset => d
    | _ =>
      let d1 := d.saveComplete
      let parked := d1.man.parked
      { d1.enterReset with sys := { d1.enterReset.sys with nextCause := if parked then 2 else 1 } }

/-- RESET_N_RELEASE. -/
def Dev.resetRelease (d : Dev) (i : StartIn) : Dev := if d.sys.phase = .inReset then d.start i d.sys.nextCause else d

/-- A warm reset and start with a cause. -/
def Dev.restart (d : Dev) (i : StartIn) (cause : Nat) : Dev := d.enterReset.start i cause

/-- WARM_RESET: a reset that a fault of domain CHIP has asked for (R507); chip safe state suspends it (R514). -/
def Dev.warmReset (d : Dev) (i : StartIn) : Dev :=
  if d.sys.restartAs = some 5 && !d.flt.chipSafe then d.restart i 5 else d

/-- LC_TRANSITION_RESET (R488, step 8). -/
def Dev.transitionReset (d : Dev) (i : StartIn) : Dev := if d.sys.restartAs = some 4 then d.restart i 4 else d

/-- RESTART: a write of 1 (R621, R622, R624). Minimal firmware serves identity and life-cycle objects alone (R481). -/
def Dev.restartWrite (d : Dev) (v : Nat) (i : StartIn) : Dev :=
  if d.flt.chipSafe || decide (d.sys.phase = .minimal) then d.emit (.writeStatus 9) else if v ≠ 1 then d.emit (.writeStatus 8) else d.restart i 6

/-- CHART_SWITCH_INSTANT (R272): the slot is marked active, and the device starts with the new chart. -/
def Dev.switchInstant (d : Dev) (i : StartIn) : Dev :=
  match d.obj.switch with
  | some c =>
    if c.committed && decide (c.instant ≤ d.now) && !d.flt.chipSafe then
      ({ d with obj := { d.obj with marked := some c.slot, switch := none } }).restart i 3
    else d
  | none => d

/-- START_COMPLETE (R617 step 18): the role is decided; sessions that were OPEN are reopened. -/
def Dev.startComplete (d : Dev) : Dev :=
  if d.sys.phase ≠ .starting || d.fry.twin.role = .waiting then d
  else
    let d1 := ({ d with sys.phase := .running }).raise 26 0x47 0xFFFF
    let want := dedup (d1.sys.reopen ++ (d1.enabledOf Od.ses_ENABLE).filter (fun i => d1.cfgB Od.ses_INITIATE i))
    let good := fun (x : Session) => x.peerCert.isEmpty || d1.chainValid x.peerCert
    let d2 := (d1.enabledOf Od.ses_ENABLE).foldl (fun y i => y.onSes i (fun x =>
      if good x then x else { x with resume := none, peerCert := [], certExpires := none })) d1
    (want.filter (fun i => d2.cfgB Od.ses_ENABLE i)).foldl (fun y i => if (y.ses i).state = .closed then y.openSession i false else y) d2

/-- POWER_FAIL, with the time for which PWRFAIL_N is low and the sectors whose erase it cuts (R140, R582). -/
def Dev.powerFailPin (d : Dev) (low : Ticks) (cut : List Nat) : Dev :=
  if low < us then d
  else (match d.sys.phase with
    | .starting | .running => d.powerFail
    | .recovery => if d.man.retention then d.powerFail else d.onMan (fun m => { m with saving := true, parked := true })
    | .minimal => d.onMan (fun m => { m with saving := true, parked := true })
    | .off | .inReset => d).onFls (fun f => { f with half := dedup (f.half ++ cut) })

/-- SHUTDOWN: a write of 1. A joined active unit yields first (R146, R239). -/
def Dev.shutdownWrite (d : Dev) (v : Nat) : Dev :=
  if v ≠ 1 then d.emit (.writeStatus 8)
  else if d.fry.twin.role = .active then (d.yieldNow).onMan (fun m => { m with shutdown := true })
  else d.powerFail

/-- VDD_AON_LOSS (R143). -/
def Dev.vddAonLoss (d : Dev) : Dev := (if d.sys.phase = .off then d else d.enterReset).aonLost

end Sys2Proof.Machine
end

