-- ==== Sys2Proof/Machine/Living.lean ====
section
/-!
DEFINITION. Commands of the life-cycle logic, the identity and the TAP (R480–R499).
-/
namespace Sys2Proof.Machine

/-- LC_NONCE. A read of NONCE, or the TAP instruction LC_NONCE (R485). -/
def execLcNonce (tap : Bool) (t : Ticks) (s : State) : Host.Outcome State Fault Refusal :=
  s.boot t (fun d => if d.sys.phase = .recovery && !tap then d.emit (.writeStatus 9) else d.lcNonce tap)

/-- NONCE_EXPIRY. 600 s have passed since the nonce was issued (R485). -/
def execNonceExpiry (t : Ticks) (s : State) : Host.Outcome State Fault Refusal :=
  s.boot t Dev.nonceExpiry

/-- LC_TRANSITION. A TRANSITION request is complete: its bytes, whether the two passes of the checks agree, and the step of R488 in which VDD_AON is lost, where it is (R484–R489). -/
def execLcTransition (req : Bytes) (agree : Bool) (cut : Option (Fin 8)) (t : Ticks) (s : State) : Host.Outcome State Fault Refusal :=
  s.bootWrite t (fun d => d.lcTransition req agree (cut.map (fun k => k.val)))

/-- LC_TRANSITION_RESET. 1 ms after a transition request, and what the start finds (R488, step 8). -/
def execLcTransitionReset (i : StartIn) (t : Ticks) (s : State) : Host.Outcome State Fault Refusal :=
  s.boot t (fun d => d.transitionReset i)

/-- LC_ANCHORS. An ANCHORS request is complete (R483, R488). -/
def execLcAnchors (req : Bytes) (agree : Bool) (t : Ticks) (s : State) : Host.Outcome State Fault Refusal :=
  s.bootWrite t (fun d => d.lcAnchors req agree)

/-- LC_CHAIN. A CHAIN request is complete (R492). -/
def execLcChain (req : Bytes) (agree : Bool) (t : Ticks) (s : State) : Host.Outcome State Fault Refusal :=
  s.bootWrite t (fun d => d.lcChain req agree)

/-- DBG_AUTH. A DEBUG request is shifted in through TDI (R495). -/
def execDbgAuth (req : Bytes) (agree : Bool) (t : Ticks) (s : State) : Host.Outcome State Fault Refusal :=
  s.boot t (fun d => d.dbgAuth req agree)

/-- DEBUG_EXPIRY. EXPIRES of the open scopes passes (R495). -/
def execDebugExpiry (t : Ticks) (s : State) : Host.Outcome State Fault Refusal :=
  s.boot t Dev.debugExpiry

/-- BYPASS. BYPASS, with the bits shifted through its register (R495). -/
def execBypass (bits : List Bool) (t : Ticks) (s : State) : Host.Outcome State Fault Refusal :=
  s.tap t (fun d => d.bypass bits)

/-- IDCODE. IDCODE is shifted out (R495). -/
def execIdcode (t : Ticks) (s : State) : Host.Outcome State Fault Refusal :=
  s.tap t (fun d => d.tap false id 32 idcode)

/-- SAMPLE_PRELOAD. SAMPLE/PRELOAD: the register's length, the pin levels captured, the value loaded (R495). -/
def execSamplePreload (bits captured load : Nat) (t : Ticks) (s : State) : Host.Outcome State Fault Refusal :=
  s.tap t (fun d => d.tap false (fun x => { x with boundary := load }) bits captured)

/-- EXTEST. EXTEST: the register's length, the pin levels captured, the value driven (R495, log entry 58). -/
def execExtest (bits captured load : Nat) (t : Ticks) (s : State) : Host.Outcome State Fault Refusal :=
  s.tap t (fun d => d.tap true (fun x => { x with boundary := load }) bits captured)

/-- BIRTH_CERT. BIRTH_CERT is written; whether the two decisions agree (R490). -/
def execBirthCert (cert : Bytes) (agree : Bool) (t : Ticks) (s : State) : Host.Outcome State Fault Refusal :=
  s.bootWrite t (fun d => answered (d.birthCert cert agree))

/-- ATTEST_CHALLENGE. ATTEST_CHALLENGE is written (R494). -/
def execAttestChallenge (c : Bytes) (t : Ticks) (s : State) : Host.Outcome State Fault Refusal :=
  s.bootWrite t (fun d => answered (d.attestChallenge c))

/-- ATTEST_DONE. The record's signature completes (R494). -/
def execAttestDone (t : Ticks) (s : State) : Host.Outcome State Fault Refusal :=
  s.boot t Dev.attestDone

end Sys2Proof.Machine
end

