-- ==== Sys2Proof/Machine/Networking.lean ====
section
/-!
DEFINITION. Network ports, time, sessions and streams (R166–R211).
-/
namespace Sys2Proof.Machine

/-- PORT_ENABLE. A network port's ENABLE is written (R166). -/
def execPortEnable (p : Fin 32) (on : Bool) (t : Ticks) (s : State) : Host.Outcome State Fault Refusal :=
  s.action t (fun d => d.portEnable p on)

/-- PORT_LINK. A network port's link changes (R208). -/
def execPortLink (p : Fin 32) (up : Bool) (t : Ticks) (s : State) : Host.Outcome State Fault Refusal :=
  s.run t (fun d => d.portLink p up)

/-- TIME_SYNC_MESSAGE. A synchronisation message and what the servo makes of it (R169, R170). -/
def execTimeSyncMessage (m : SyncMsg) (t : Ticks) (s : State) : Host.Outcome State Fault Refusal :=
  s.run t (fun d => d.syncMessage m)

/-- SYNC_LOSS. Four sync intervals have passed without a message (R170). -/
def execSyncLoss (t : Ticks) (s : State) : Host.Outcome State Fault Refusal :=
  s.run t (fun d => d.syncLoss)

/-- HOLDOVER_LIMIT. HOLDOVER has lasted HOLDOVER_LIMIT (R170). -/
def execHoldoverLimit (t : Ticks) (s : State) : Host.Outcome State Fault Refusal :=
  s.run t (fun d => d.holdoverLimit)

/-- PPS_OUT. A second begins (R171). -/
def execPpsOut (t : Ticks) (s : State) : Host.Outcome State Fault Refusal :=
  s.run t (fun d => d.ppsOut)

/-- SETUP_OPEN. A fragment of an OPEN (R174, R175). -/
def execSetupOpen (f : Fragment) (t : Ticks) (s : State) : Host.Outcome State Fault Refusal :=
  s.run t (fun d => d.setupFragment 1 f)

/-- SETUP_ANSWER. A fragment of an ANSWER (R174, R175). -/
def execSetupAnswer (f : Fragment) (t : Ticks) (s : State) : Host.Outcome State Fault Refusal :=
  s.run t (fun d => d.setupFragment 2 f)

/-- SETUP_CONFIRM. A fragment of a CONFIRM (R174, R175). -/
def execSetupConfirm (f : Fragment) (t : Ticks) (s : State) : Host.Outcome State Fault Refusal :=
  s.run t (fun d => d.setupFragment 3 f)

/-- SETUP_REFUSE. A REFUSE (R175). -/
def execSetupRefuse (f : Fragment) (t : Ticks) (s : State) : Host.Outcome State Fault Refusal :=
  s.run t (fun d => d.setupFragment 4 f)

/-- SETUP_TIMEOUT. Incomplete set-up messages reach their age limit (R174). -/
def execSetupTimeout (t : Ticks) (s : State) : Host.Outcome State Fault Refusal :=
  s.run t (fun d => d.setupExpire)

/-- SETUP_RETRANSMIT. A session's set-up message has had no answer for 20 ms (R174). -/
def execSetupRetransmit (i : Fin 16384) (t : Ticks) (s : State) : Host.Outcome State Fault Refusal :=
  s.run t (fun d => d.setupRetransmit i)

/-- CMD_RECEIVE. A CMD frame (R190). -/
def execCmdReceive (f : RxFrame) (t : Ticks) (s : State) : Host.Outcome State Fault Refusal :=
  s.run t (fun d => d.cmdReceive f)

/-- ACK_RECEIVE. An ACK frame (R191). -/
def execAckReceive (f : RxFrame) (t : Ticks) (s : State) : Host.Outcome State Fault Refusal :=
  s.run t (fun d => d.ackReceive f)

/-- NACK_RECEIVE. A NACK frame (R191). -/
def execNackReceive (f : RxFrame) (t : Ticks) (s : State) : Host.Outcome State Fault Refusal :=
  s.run t (fun d => d.nackReceive f)

/-- DATA_RECEIVE. A DATA frame (R190, R338). -/
def execDataReceive (f : RxFrame) (t : Ticks) (s : State) : Host.Outcome State Fault Refusal :=
  s.run t (fun d => d.dataReceive 2 f)

/-- STREAM_RECEIVE. A STREAM frame (R197). -/
def execStreamReceive (f : RxFrame) (t : Ticks) (s : State) : Host.Outcome State Fault Refusal :=
  s.run t (fun d => d.streamReceive f)

/-- SAFE_RECEIVE. A SAFE frame (R190). -/
def execSafeReceive (f : RxFrame) (t : Ticks) (s : State) : Host.Outcome State Fault Refusal :=
  s.run t (fun d => d.dataReceive 5 f)

/-- HEARTBEAT_RECEIVE. A HEARTBEAT frame (R186). -/
def execHeartbeatReceive (f : RxFrame) (t : Ticks) (s : State) : Host.Outcome State Fault Refusal :=
  s.run t (fun d => d.heartbeatReceive f)

/-- CLAIM_RECEIVE. A CLAIM frame (R190). -/
def execClaimReceive (f : RxFrame) (t : Ticks) (s : State) : Host.Outcome State Fault Refusal :=
  s.run t (fun d => d.claimReceive f)

/-- KEYUPD_RECEIVE. A KEYUPD frame (R187). -/
def execKeyupdReceive (f : RxFrame) (t : Ticks) (s : State) : Host.Outcome State Fault Refusal :=
  s.run t (fun d => d.keyupdReceive f)

/-- JQUERY_RECEIVE. A JQUERY frame (R186). -/
def execJqueryReceive (f : RxFrame) (t : Ticks) (s : State) : Host.Outcome State Fault Refusal :=
  s.run t (fun d => d.jqueryReceive f)

/-- HEARTBEAT_SEND. HB_PERIOD of a session has passed (R186). -/
def execHeartbeatSend (i : Fin 16384) (t : Ticks) (s : State) : Host.Outcome State Fault Refusal :=
  s.run t (fun d => d.heartbeatSend i)

/-- HB_TIMEOUT. HB_TIMEOUT of a session has passed (R173). -/
def execHbTimeout (i : Fin 16384) (t : Ticks) (s : State) : Host.Outcome State Fault Refusal :=
  s.run t (fun d => d.hbTimeout i)

/-- RETX_TIME. An item's retransmission is due (R193). -/
def execRetxTime (q : Fin 16384) (seq : Nat) (t : Ticks) (s : State) : Host.Outcome State Fault Refusal :=
  s.run t (fun d => d.retransmit q seq)

/-- REKEY. REKEY is written (R187). -/
def execRekey (i : Fin 16384) (t : Ticks) (s : State) : Host.Outcome State Fault Refusal :=
  s.action t (fun d => d.rekey i)

/-- KEYUPD_RETRY. A KEYUPD has had no answer in its time (R187). -/
def execKeyupdRetry (i : Fin 16384) (t : Ticks) (s : State) : Host.Outcome State Fault Refusal :=
  s.run t (fun d => d.keyupdRetry i)

/-- KEY_OVERLAP. KEY_OVERLAP has passed since the switch (R187). -/
def execKeyOverlap (i : Fin 16384) (t : Ticks) (s : State) : Host.Outcome State Fault Refusal :=
  s.run t (fun d => d.keyOverlap i)

/-- REBASE_START. An EXHAUSTED session has no frame outstanding (R188). -/
def execRebaseStart (i : Fin 16384) (t : Ticks) (s : State) : Host.Outcome State Fault Refusal :=
  s.run t (fun d => d.rebaseStart i)

/-- REBASE_TIMEOUT. A rebase has had no answer for 1 s (R188). -/
def execRebaseTimeout (i : Fin 16384) (t : Ticks) (s : State) : Host.Outcome State Fault Refusal :=
  s.run t (fun d => d.rebaseTimeout i)

/-- SAFE_SEND. SAFE_SEND is written (R196). -/
def execSafeSend (i : Fin 16384) (t : Ticks) (s : State) : Host.Outcome State Fault Refusal :=
  s.action t (fun d => d.safeSend i)

/-- SAFE_REPEAT. The repeat of a SAFE frame is due (R196). -/
def execSafeRepeat (i : Fin 16384) (t : Ticks) (s : State) : Host.Outcome State Fault Refusal :=
  s.run t (fun d => d.safeRepeat i)

/-- REOPEN. REOPEN is written: 2 FRESH, 1 RESUME (R209). -/
def execReopen (i : Fin 16384) (fresh : Bool) (t : Ticks) (s : State) : Host.Outcome State Fault Refusal :=
  s.action t (fun d => d.reopen i fresh)

/-- SESSION_ENABLE. A session's ENABLE is written (R209). -/
def execSessionEnable (i : Fin 16384) (on : Bool) (t : Ticks) (s : State) : Host.Outcome State Fault Refusal :=
  s.action t (fun d => d.sessionEnable i on)

/-- STREAM_GAP. REORDER_TIME has passed with a sequence missing (R197). -/
def execStreamGap (n : Fin 1024) (t : Ticks) (s : State) : Host.Outcome State Fault Refusal :=
  s.run t (fun d => d.streamGap n)

/-- EPOCH_CLOSE. EPOCH_TIME has passed (R201). -/
def execEpochClose (n : Fin 1024) (t : Ticks) (s : State) : Host.Outcome State Fault Refusal :=
  s.run t (fun d => d.epochClose n)

/-- EPOCH_SEALED. The hash array has signed the oldest closed epoch (R202). -/
def execEpochSealed (n : Fin 1024) (t : Ticks) (s : State) : Host.Outcome State Fault Refusal :=
  s.run t (fun d => d.epochSealed n)

/-- STREAM_ENABLE. A stream's ENABLE is written (R203). -/
def execStreamEnable (n : Fin 1024) (on : Bool) (t : Ticks) (s : State) : Host.Outcome State Fault Refusal :=
  s.action t (fun d => answered (d.streamEnable n on))

/-- CERT_REQUEST. CERT_REQUEST is written: selector, FROM, TO, reference (R207). -/
def execCertRequest (n : Fin 1024) (selector : Nat) (low high : BVal) (ref : Bytes) (t : Ticks) (s : State) : Host.Outcome State Fault Refusal :=
  s.action t (fun d => answered (d.certRequest n selector low high ref))

/-- CERT_ISSUED. The certificate in hand has been signed (R206). -/
def execCertIssued (n : Fin 1024) (t : Ticks) (s : State) : Host.Outcome State Fault Refusal :=
  s.run t (fun d => d.certIssued n)

/-- CERTIFICATE_EXPIRY. The partner's certificate expires (R173). -/
def execCertificateExpiry (i : Fin 16384) (t : Ticks) (s : State) : Host.Outcome State Fault Refusal :=
  s.run t (fun d => d.certExpiry i)

/-- PPS_IN. A PPS_IN edge with its stamp (R171). -/
def execPpsIn (stamp t : Ticks) (s : State) : Host.Outcome State Fault Refusal :=
  s.run t (fun d => d.ppsIn stamp)

end Sys2Proof.Machine
end

