-- ==== Sys2Proof/Machine/PuCore.lean ====
section
/-!
DEFINITION. A purser's registers, operands and task-state block (R349–R359, R379, R381, R382).
-/
namespace Sys2Proof.Machine

def Dev.pu (d : Dev) (p : Nat) : PuCore := d.cpu.pu.get {} p

def Dev.setPu (d : Dev) (p : Nat) (c : PuCore) : Dev := { d with cpu.pu := d.cpu.pu.put {} p c }

def Dev.onPu (d : Dev) (p : Nat) (f : PuCore → PuCore) : Dev := d.setPu p (f (d.pu p))

def State.onPu (s : State) (p : Nat) (f : PuCore → PuCore) : State := s.onDev (fun d => d.onPu p f)

/-- Master number of a purser (R396) and its user ID (R413). -/
def puMaster (p : Nat) : Nat := 136 + p

def puUser (p : Nat) : Nat := 0x100 + p

/-! ## Operands (R354–R358) -/

def PuWidth.bytes : PuWidth → Nat
  | .w8 => 1
  | .w16 => 2
  | .w32 => 4
  | .w64 => 8

def PuWidth.bits (w : PuWidth) : Nat := 8 * w.bytes

/-- FAULT_INFO's width code, and log2 of the width in bytes. -/
def PuWidth.log2 : PuWidth → Nat
  | .w8 => 0
  | .w16 => 1
  | .w32 => 2
  | .w64 => 3

/-- A width prefix takes a byte; a width of 64 bits has none. -/
def PuWidth.pre (w : PuWidth) : Nat := b2n (decide (w ≠ .w64))

def PuPre.len (x : PuPre) : Nat := x.w.pre + b2n x.twice.isSome

def PuImm.bytes : PuImm → Nat
  | .i1 _ => 1
  | .i2 _ => 2
  | .i4 _ => 4
  | .i8 _ => 8

/-- The immediate as a signed number. -/
def PuImm.val : PuImm → Int
  | .i1 v => v.toInt
  | .i2 v => v.toInt
  | .i4 v => v.toInt
  | .i8 v => v.toInt

def Disp.bytes : Disp → Nat
  | .d0 => 0
  | .d1 _ => 1
  | .d2 _ => 2
  | .d4 _ => 4

def Disp.val : Disp → Int
  | .d0 => 0
  | .d1 v => v.toInt
  | .d2 v => v.toInt
  | .d4 v => v.toInt

/-! ## Registers -/

def PuCore.get (c : PuCore) (r : Fin 16) : Nat := c.x[r].toNat

def PuCore.put (c : PuCore) (r : Fin 16) (v : Nat) : PuCore := { c with x := c.x.set r (BitVec.ofNat 64 v) }

/-- The low bits of a register at a width (R358). -/
def PuCore.low (c : PuCore) (r : Fin 16) (w : PuWidth) : Nat := c.get r % 2 ^ w.bits

def PuCore.cond (c : PuCore) : Flags := { c := c.c, z := c.z, n := c.n, v := c.v }

def PuCore.setCond (c : PuCore) (f : Flags) : PuCore := { c with c := f.c, z := f.z, n := f.n, v := f.v }

/-- FLAGS (R350). -/
def PuCore.flags (c : PuCore) : Nat :=
  b2n c.c + 2 * b2n c.z + 4 * b2n c.n + 8 * b2n c.v + 16 * b2n c.ie + 32 * b2n c.task

/-- The effective address of a memory operand (R353, R357). -/
def PuCore.ea (c : PuCore) (b : Fin 16) (x : Disp) : Nat := patternOf 64 ((c.get b : Int) + x.val)

/-- A product completes into PH:PL (R362). -/
def PuCore.product (c : PuCore) (p : BitVec 128) : PuCore := { c with pl := p.setWidth 64, ph := (p >>> 64).setWidth 64 }

/-- Every product in flight completes, in the order of its issue (R369, R386). -/
def PuCore.drained (c : PuCore) : PuCore := { c.products.foldl PuCore.product c with products := [] }

/-- PU_PRODUCT_COMPLETE: the oldest product in flight completes. -/
def PuCore.completeProduct (c : PuCore) : PuCore :=
  match c.products with
  | [] => c
  | p :: t => { c.product p with products := t }

/-- MFS of a special register (R351, R352). -/
def PuCore.mfs (c : PuCore) (p : Nat) (sr : Fin 16) : Nat :=
  match sr.val with
  | 0 => c.flags
  | 1 => c.pl.toNat
  | 2 => c.ph.toNat
  | 3 => c.tsbp.toNat
  | 4 => c.tsnap.toNat
  | 5 => p
  | 6 => c.kwin.toNat
  | 7 => c.cycles % 2 ^ 64
  | 8 => 0x00000000000001FF
  | 9 => 0x0000102018000400
  | 10 => 0x0000000000031102
  | _ => 0

/-! ## Task-state blocks (R379, R381, R382) -/

/-- R381: the 256 bytes of a TSB. -/
def puTsb (c : PuCore) (f : CoreFault) (vector original : Nat) : Bytes :=
  (c.x.toList.flatMap (fun v => toLe 8 v.toNat)) ++ toLe 8 c.pc.toNat ++ toLe 8 c.flags ++ toLe 8 c.pl.toNat ++ toLe 8 c.ph.toNat ++
    toLe 8 c.kwin.toNat ++ toLe 8 (f.cause + 256 * vector + 65536 * f.imm + 2 ^ 24 * original + 2 ^ 32 * f.source) ++ toLe 8 f.addr ++
    toLe 8 f.info ++ toLe 8 f.twice ++ List.replicate 56 0

/-- R382: load the register fields of a TSB. -/
def PuCore.load (c : PuCore) (b : Bytes) : PuCore :=
  let w : Nat → Word64 := fun o => BitVec.ofNat 64 (leAt b o 8)
  let f := leAt b 136 8
  { c with
    x := Vector.ofFn (fun (i : Fin 16) => w (8 * i)), pc := w 128, c := bitOf f 0, z := bitOf f 1, n := bitOf f 2, v := bitOf f 3,
    ie := bitOf f 4, task := bitOf f 5, pl := w 144, ph := w 152, kwin := BitVec.ofNat 64 (leAt b 160 8 % 8192), skip := false, shadow := false }

/-- R379: a purser's TSB address is valid. -/
def Dev.puTsbOk (d : Dev) (p a : Nat) : Bool :=
  decide (a % 16 = 0) && decide (0x0300000000 ≤ a) && decide (a + 256 ≤ 0x0300C00000) &&
    (d.acu (puMaster p)).regions.any (fun e => e.2.en && decide (e.2.lo ≤ a) && decide (a + 255 ≤ e.2.top) &&
      e.2.grants .read false && e.2.grants .write false)

/-- An entry of the vector table (R384). -/
def State.puEntry (s : State) (p v : Nat) : Nat := memNat s.mem (0x0300000000 + 0x100000 * p + 8 * v) 8

end Sys2Proof.Machine
end

