-- ==== Sys2Proof/Machine/TaskOps.lean ====
section
/-!
DEFINITION. Customer tasks: their images, loading, scheduling and end (R371–R376). What resident firmware does with its own
instructions to run them is not in the spec; the model gives its effect.
-/
namespace Sys2Proof.Machine

def Dev.task (d : Dev) (k : Nat) : Task := d.cpu.tasks.get {} k

def Dev.setTask (d : Dev) (k : Nat) (x : Task) : Dev := { d with cpu.tasks := d.cpu.tasks.put {} k x }

def Dev.onTask (d : Dev) (k : Nat) (f : Task → Task) : Dev := d.setTask k (f (d.task k))

/-! ## Images (R371) -/

/-- A decoded task image. -/
structure TaskImage where
  entry : Nat
  codeLen : Nat
  dataLen : Nat
  zeroLen : Nat
  stackLen : Nat
  featReq : Nat
  /-- region requests: base, size as log2, rights -/
  reqs : List (Nat × Nat × Nat)
  code : Bytes
  data : Bytes
deriving DecidableEq, Repr

def taskImage (b : Bytes) : TaskImage :=
  let n := leAt b 28 1
  let c := leAt b 4 4
  let k := leAt b 8 4
  { entry := leAt b 0 4, codeLen := c, dataLen := k, zeroLen := leAt b 12 4, stackLen := leAt b 16 4, featReq := leAt b 20 8,
    reqs := (List.range n).map (fun i => (leAt b (32 + 16 * i) 8, leAt b (40 + 16 * i) 1, leAt b (41 + 16 * i) 1)),
    code := sliceB b (32 + 16 * n) c, data := sliceB b (32 + 16 * n + c) k }

/-- A run of bytes lies in a pier buffer (R318, R371). -/
def inPierBuffer (a n : Nat) : Bool :=
  decide (0x0200000000 ≤ a) && decide (a - 0x0200000000 < 17 * 0x400000) && decide ((a - 0x0200000000) % 0x400000 + n ≤ 0x200000)

/-- R371: the device takes an image. -/
def taskImageOk (b : Bytes) : Bool :=
  let i := taskImage b
  let n := leAt b 28 1
  decide (1 ≤ i.codeLen ∧ i.codeLen ≤ 0x100000) && decide (i.dataLen ≤ 0x100000) && decide (i.zeroLen ≤ 0x400000) &&
    decide (0x1000 ≤ i.stackLen ∧ i.stackLen ≤ 0x40000) && decide (i.stackLen % 0x1000 = 0) && decide (n ≤ 8) && leAt b 29 3 = 0 &&
    decide (b.length = 32 + 16 * n + i.codeLen + i.dataLen) && decide (i.entry < i.codeLen) &&
    decide (i.featReq &&& 0x1FF = i.featReq) && i.reqs.all (fun r => decide (r.2.2 < 4) && inPierBuffer r.1 (2 ^ r.2.1)) &&
    (List.range n).all (fun k => leAt b (42 + 16 * k) 6 = 0)

/-! ## Memory of tasks (R372) -/

/-- The 64 KiB blocks of the 6 MiB task area that are free. -/
def Dev.taskFree (d : Dev) : List Nat :=
  let used := d.cpu.tasks.flatMap (fun e => e.2.parts)
  (List.range 96).filter (fun b =>
    let a := 0x0300600000 + 65536 * b
    !used.any (fun u => decide (u.1 < a + 65536) && decide (a < u.1 + u.2)))

/-- Allocate parts one after another: each in a run of free blocks, the first in a free choice among them (log entry 82). -/
def placeParts (free : List Nat) (k : Nat) : List Nat → Option (List (Nat × Nat))
  | [] => some []
  | 0 :: t => (placeParts free k t).map (fun l => (0x0300600000, 0) :: l)
  | n :: t =>
    let fits := free.filter (fun b => (List.range n).all (fun i => free.contains (b + i)))
    match fits[Config.freeNat k % max 1 fits.length]? with
    | none => none
    | some b => (placeParts (free.filter (fun x => decide (x < b) || decide (b + n ≤ x))) (k + 1) t).map (fun l => (0x0300600000 + 65536 * b, 65536 * n) :: l)

/-- The regions of a task while it runs (R372), from region 16 of its purser on. -/
def Task.regions (x : Task) : Tab Region :=
  let reg (lo len rights : Nat) : Region :=
    { base := lo % 2 ^ 32, limit := (lo + max len 32 - 32) % 2 ^ 32, hi := lo / 2 ^ 32 + 256 * ((lo + max len 32 - 32) / 2 ^ 32), attr := 1 + 2 * rights }
  (((x.parts.zip [5, 3, 3, 3]).filter (fun e => decide (0 < e.1.2))).map (fun e => reg e.1.1 e.1.2 e.2) ++
    x.reqs.map (fun r => reg r.1 (2 ^ r.2.1) (r.2.2 % 4))).zipIdx.map (fun e => (16 + e.2, e.1))

/-- Where resident firmware keeps a task's TSB (log entry 82). -/
def taskTsb (k : Nat) : Nat := 0x0300400000 + 256 * k

/-! ## Running (R372, R373, R375) -/

/-- A purser works and nothing keeps resident firmware from giving it a task. -/
def Dev.puFree (d : Dev) (p : Nat) : Bool :=
  let c := d.pu p
  !c.parked && c.running.isNone && !c.handler && !c.task && !d.flt.chipSafe

/-- The READY task of a purser that runs next: by PRIORITY, then by the order of its last turn. -/
def Dev.nextTask (d : Dev) (p : Nat) : Option Nat :=
  let l := d.cpu.tasks.filter (fun e => e.2.state == .ready && e.2.purser == p)
  let rank (k : Nat) : Int := if Config.lowPriorityFirst then d.cfg Od.tsk_PRIORITY k else - d.cfg Od.tsk_PRIORITY k
  (sortBy (fun e => rank e.1 * 2 ^ 64 + (e.2.turn : Int)) l).head?.map (fun e => e.1)

/-- The regions of a purser with those of a task in place of 16 to 31. -/
def Dev.taskRegions (d : Dev) (p : Nat) (l : Tab Region) : Dev :=
  let a := d.acu (puMaster p)
  d.setAcu (puMaster p) { a with regions := a.regions.filter (fun e => decide (e.1 < 16)) ++ l }

/-- A purser takes up a task: its context comes from its TSB. -/
def State.taskEnter (s : State) (p k : Nat) : State :=
  let x := s.dev.task k
  let c := s.dev.pu p
  let c1 : PuCore := { ({} : PuCore).load (memRead s.mem x.tsb 256) with tsbp := BitVec.ofNat 64 x.tsb, cycles := c.cycles, running := some k }
  s.onDev (fun d => ((({ d with cpu.resident := d.cpu.resident.ins p c, cpu.turns := d.cpu.turns + 1 }.setPu p c1).onTask k (fun y =>
    { y with state := .running, turn := d.cpu.turns + 1 }))).taskRegions p x.regions)

/-- A purser leaves its task: the context goes to the TSB with what ended it, and resident firmware goes on. -/
def State.taskLeave (s : State) (p k : Nat) (st : TaskState) (f : CoreFault) : State :=
  let c := (s.dev.pu p).drained
  let x := s.dev.task k
  let r := s.dev.cpu.resident.get {} p
  let s1 := { s with mem := memWrite s.mem x.tsb (puTsb c f (puVector f.cause * b2n (decide (f.cause ≠ 0))) 0) }
  s1.onDev (fun d => (((d.setPu p { r with cycles := c.cycles, running := none }).onTask k (fun y => { y with state := st, pc := c.pc.toNat }))).taskRegions p [])

/-- Resident firmware gives a free purser its next task. -/
def State.schedule (s : State) (p : Nat) : State :=
  if s.dev.puFree p then
    match s.dev.nextTask p with
    | some k => s.taskEnter p k
    | none => s
  else s

/-- R375: resident firmware ends a task FAULTED. -/
def State.taskFaulted (s : State) (p k : Nat) (f : CoreFault) : State :=
  let s1 := s.taskLeave p k .faulted f
  (s1.onDev (fun d =>
    let d1 := (d.set Od.tst_LAST_FAULT k f.cause).raise (192 + p) 0x11 k [(f.cause : Int)]
    if f.cause = 0x30 then (d1.bump Od.tst_TWICE_MISMATCHES k).fault 0x006 p none [] else d1)).schedule p

/-- A fault in task mode is an exception (R377), and ends the task. -/
def State.taskFault (s : State) (p k : Nat) (f : CoreFault) : State :=
  (s.onDev (fun d => d.bump Od.exc_EXCEPTIONS (puMaster p))).taskFaulted p k f

/-- TASK_SLICE: the running task's slice ends and the next one runs; `share` says that the tasks' half of the purser's cycles
is used up, and none runs until the next slice (R373). -/
def State.taskSlice (s : State) (p : Nat) (share : Bool) : State :=
  let c := s.dev.pu p
  if c.parked || s.dev.flt.chipSafe then s
  else
    let s1 := match c.running with
      | some k => if c.shadow || c.skip then s else s.taskLeave p k .ready { cause := 0x41 }
      | none => s
    if share then s1 else s1.schedule p

/-! ## ENABLE (R372, R375) -/

/-- The stored image that a task slot is assigned. -/
def Dev.imageOfTask (d : Dev) (k : Nat) : Option Image :=
  let g := d.oct Od.tsk_IMAGE_DIGEST k
  if allZero g then none else d.obj.customer.find? (fun i => i.kind == 4 && i.digest == g)

/-- ENABLE ON: the answer is an OAP status. -/
def State.taskStart (s : State) (k : Nat) : Nat × State :=
  match s.dev.imageOfTask k with
  | none => (9, s)
  | some im =>
    let i := taskImage im.body
    let blocks (n : Nat) := (n + 65535) / 65536
    let (f, d0) := s.dev.take
    match placeParts s.dev.taskFree f [blocks i.codeLen, blocks i.dataLen, blocks i.zeroLen, blocks i.stackLen] with
    | none => (9, s)
    | some parts =>
      let want := s.dev.cfgN Od.tsk_PURSER k
      let p := if want < 4 then want else Config.freeNat f % 4
      let at_ (n : Nat) : Nat := (parts.getD n (0, 0)).1
      let c : PuCore := { pc := BitVec.ofNat 64 (at_ 0 + i.entry), ie := true, task := true,
                          x := (Vector.replicate 16 0).set 15 (BitVec.ofNat 64 (at_ 3 + i.stackLen)) }
      let m1 := parts.foldl (fun m e => memClear m e.1 e.2) s.mem
      let m2 := memWrite (memWrite m1 (at_ 0) i.code) (at_ 1) i.data
      let m3 := memWrite m2 (taskTsb k) (puTsb c { cause := 0 } 0 0)
      let x : Task := { state := .ready, purser := p, parts := parts, reqs := i.reqs, tsb := taskTsb k, pc := at_ 0 + i.entry, image := im.digest }
      (0, ({ s with dev := (d0.set Od.tsk_ENABLE k 1).setTask k x, mem := m3 }).schedule p)

/-- ENABLE OFF: the task stops at once, and its memory is freed and zeroed. -/
def State.taskStop (s : State) (k : Nat) : State :=
  let x := s.dev.task k
  let p := x.purser
  let s1 := if (s.dev.pu p).running = some k then s.taskLeave p k .stopped { cause := 0 } else s
  let s2 := { s1 with mem := memClear (x.parts.foldl (fun m (e : Nat × Nat) => memClear m e.1 e.2) s1.mem) (taskTsb k) 256 }
  (s2.onDev (fun d => (d.set Od.tsk_ENABLE k 0).setTask k {})).schedule p

/-- TASK_ENABLE: a write of a task's ENABLE; the answer is an OAP status. -/
def State.taskEnable (s : State) (k : Nat) (on : Bool) : Nat × State :=
  if on then (if (s.dev.task k).state = .off then s.taskStart k else (0, s.onDev (fun d => d.set Od.tsk_ENABLE k 1))) else (0, s.taskStop k)

/-- A write of an action object that works on memory: chip safe state answers STATE, a unit that does not hold the claim STANDBY
(R260, R508). -/
def State.objectWrite (s : State) (f : State → Nat × State) : State :=
  let say (s : State) (n : Nat) : State := if n = 0 then s else s.onDev (fun d => d.emit (.writeStatus n))
  if s.dev.flt.chipSafe then say s 9
  else if s.dev.isStandby then say s 15
  else say (f s).2 (f s).1

end Sys2Proof.Machine
end

