-- ==== Sys2Proof/Machine/ImageOps.lean ====
section
/-!
DEFINITION. Efuth images: their form, the checks of ACTIVATE STORE, the slots they go to, and the chart switch
(R268–R273, R316, R317, R371, R482, R483, R589, R620, R622).
-/
namespace Sys2Proof.Machine

/-! ## Form (R268, R269) -/

/-- The sections of a CHART or OVERLAY body: type and content. -/
def sectionsOf : Nat → Bytes → Option (List (Nat × Bytes))
  | 0, b => if b.isEmpty then some [] else none
  | k + 1, b =>
    if b.isEmpty then some []
    else
      let n := leAt b 4 4
      if b.length < 8 + n || leAt b 2 2 ≠ 0 then none
      else (sectionsOf k (b.drop (8 + n))).map (fun l => (leAt b 0 2, sliceB b 8 n) :: l)

/-- The object records of an OBJECTS section. -/
def recordsOf : Nat → Bytes → Option (List ObjRecord)
  | 0, b => if b.isEmpty then some [] else none
  | k + 1, b =>
    if b.isEmpty then some []
    else
      let n := leAt b 8 4
      let room := (n + 3) / 4 * 4
      if b.length < 12 + room || leAt b 3 1 ≠ 0 || !allZero (sliceB b (12 + n) (room - n)) then none
      else
        (recordsOf k (b.drop (12 + room))).map (fun l =>
          { index := leAt b 0 2, sub := leAt b 2 1, first := leAt b 4 2, count := leAt b 6 2, value := sliceB b 12 n } :: l)

/-- The 16-byte unit IDs of a UNITS section. -/
def unitsOf : Nat → Bytes → List Bytes
  | 0, _ => []
  | k + 1, b => if b.isEmpty then [] else b.take 16 :: unitsOf k (b.drop 16)

/-- Records stand in ascending order and no two cover one address. -/
def recordsRise : List ObjRecord → Bool
  | a :: b :: t =>
    (decide (a.index < b.index) || (decide (a.index = b.index) && (decide (a.sub < b.sub) ||
      (decide (a.sub = b.sub) && decide (a.first + a.count ≤ b.first))))) && recordsRise (b :: t)
  | _ => true

/-- A record names objects that its kind of image may list, with a value that each of them takes. -/
def recordOk (overlay : Bool) (r : ObjRecord) : Bool :=
  match rowOf r.index r.sub, Od.instances r.index with
  | some row, some (lo, n) =>
    (row.persist == .ovl || (!overlay && row.persist == .chart)) && decide (1 ≤ r.count) && decide (lo ≤ r.first) &&
      decide (r.first + r.count ≤ lo + n) && (row.type == .utf8 || r.value.length == row.type.size row.len) &&
      row.accepts (r.sub - row.sub) (row.value r.value)
  | _, _ => false

/-- An image as the bytes of its header, body and signature give it. -/
def imageOf (b : Bytes) : Image :=
  let n := leAt b 8 4
  let body := sliceB b 128 n
  let kind := leAt b 5 1
  let secs := if kind = 1 || kind = 2 then (sectionsOf (n / 8 + 1) body).getD [] else []
  { kind := kind, flags := leAt b 6 2, keyId := leAt b 12 4, secVersion := leAt b 16 4, imgVersion := leAt b 20 4,
    set := leAt b 40 2, layer := leAt b 42 1, base := sliceB b 44 32, digest := sha256 (b.take (128 + n)),
    units := (secs.find? (fun s => s.1 == 1)).map (fun s => unitsOf (s.2.length / 16) s.2),
    records := (recordsOf (n / 12 + 1) (((secs.find? (fun s => s.1 == 2)).map (fun s => s.2)).getD [])).getD [],
    body := body }

/-- The header of an image and its length (R268, R270). -/
def imageHeadOk (b : Bytes) : Bool :=
  let n := leAt b 8 4
  let ovl := leAt b 5 1 == 2
  decide (b.length = 128 + n + 7856) && decide (b.take 4 = ascii "EFTH") && decide (leAt b 4 1 = 1) && decide (leAt b 6 2 < 2) &&
    decide (sliceB b 24 16 = padTo 16 (ascii "TQV9640")) && decide (leAt b 43 1 = 0) && allZero (sliceB b 88 40) &&
    (timeOfLe (sliceB b 76 12)).isSome &&
    (if ovl then decide (1 ≤ leAt b 40 2) && decide (1 ≤ leAt b 42 1 ∧ leAt b 42 1 ≤ 3) && decide (b.length ≤ 16384)
     else leAt b 40 2 == 0 && leAt b 42 1 == 0 && allZero (sliceB b 44 32) && decide (b.length ≤ 655360))

/-- The body of a CHART or OVERLAY (R269). -/
def objectsBodyOk (i : Image) : Bool :=
  match sectionsOf (i.body.length / 8 + 1) i.body with
  | none => false
  | some l =>
    l.all (fun s => (s.1 == 1 && s.2.length % 16 == 0) || (s.1 == 2 && (recordsOf (s.2.length / 12 + 1) s.2).isSome)) &&
      decide ((l.filter (fun s => s.1 == 1)).length ≤ 1) && decide ((l.filter (fun s => s.1 == 2)).length = 1) &&
      recordsRise i.records && i.records.all (recordOk (i.kind == 2))

/-- A FIRMWARE body (R620). -/
def firmwareBodyOk (b : Bytes) : Bool :=
  let n := leAt b 4 4
  let w := leAt b 8 4
  decide (leAt b 0 4 < n) && decide (1 ≤ n ∧ n ≤ 3 * 1024 * 1024) && decide (w ≤ 4096) && allZero (sliceB b 12 20) &&
    decide (b.length = 32 + n + 2 * w) && (List.range w).all (fun k => decide (leAt b (32 + n + 2 * k) 2 < 2 ^ 14))

/-! ## Cross-object rules -/

/-- R226: the topology links the two chips of a BOARD twin directly. -/
def Dev.twinWired (d : Dev) : Bool := (List.range 8).any (fun p => (d.wiring p).any (fun w => w.1 == d.twinId))

/-- R226: the ports of a NETWORK twin's sessions lie in different groups, and a BOARD twin's chips have an UP port between them. -/
def Dev.twinModeOk (d : Dev) (mode : Nat) : Bool :=
  let grp (o : OdRow) : Option Int := (d.sesOf (d.cfgN o 0)).map (fun i => d.cfg Od.prt_GROUP (d.sesPort i))
  if mode = 2 then
    match grp Od.twn_TWIN_SESSION_A, grp Od.twn_TWIN_SESSION_B with
    | some a, some b => decide (a ≠ b)
    | _, _ => true
  else if mode = 1 then d.twinWired && (List.range 8).any (fun p => d.fportUp p && (d.wiring p).any (fun w => w.1 == d.twinId))
  else true

/-- R226: no write puts the two sessions of a NETWORK twin on ports of one group. -/
def Dev.twinGroupsOk (d : Dev) : Bool := d.cfg Od.twn_TWIN_MODE 0 ≠ 2 || d.twinModeOk 2

/-- R23, R29, R31: configurations of a Bearing that are refused: Z_MODE 1 to 3 without a whole number of counts per revolution,
an SSI_PERIOD too short for its word, and a VIRTUAL Bearing whose source is not lower-numbered. A later write of UNIT_NUM,
UNIT_DEN or CAL_PERIOD under a Z_MODE other than 0 is accepted, and while the quotient is no integer an index does nothing
(log entry 130). -/
def Dev.bearingConfigOk (d : Dev) (index b : Nat) : Bool :=
  match index with
  | 0x2000 | 0x2004 => d.cfg Od.brg_TYPE b ≠ 6 || decide (d.cfg Od.vbr_V_SOURCE b < (b : Int))
  | 0x2001 =>
    let f := d.cfg Od.ssi_SSI_CLOCK b
    decide (0 < f) && decide ((d.cfg Od.ssi_SSI_BITS b + 1) * sec ≤ (d.cfg Od.ssi_SSI_PERIOD b - d.cfg Od.ssi_SSI_RECOVERY b) * f)
  | _ => true

/-- R172: a session's ID is not the reserved 0xFF_FFFF, and no other instance has it; 0 names none. -/
def Dev.sessionIdOk (d : Dev) (inst : Nat) : Bool :=
  let id := d.cfgN Od.ses_SESSION_ID inst
  decide (id ≠ 0xFFFFFF) && (decide (id = 0) || (d.listedInsts Od.ses_SESSION_ID).all (fun k => k == inst || decide (d.cfgN Od.ses_SESSION_ID k ≠ id)))

/-- The rules among the objects of one instance, and R22. -/
def Dev.crossOk (d : Dev) (index inst : Nat) : Bool :=
  match index with
  | 0x2000 => decide (((List.range 16).filter (fun b => decide (d.cfg Od.brg_TYPE b = 3))).length ≤ 1) && d.bearingConfigOk index inst
  | 0x2001 | 0x2004 => d.bearingConfigOk index inst
  | 0x2140 => d.cfg Od.tpl_ARG_OFFSET inst = 0xFFFF || decide (d.cfg Od.tpl_ARG_OFFSET inst + 2 ≤ d.cfg Od.tpl_LENGTH inst)
  | 0x4000 => d.portModeOk inst (d.cfgN Od.prt_MODE inst) && d.twinGroupsOk
  | 0x4100 => d.sessionTimesOk inst && d.sessionIdOk inst && d.twinGroupsOk
  | 0x4300 => d.twinGroupsOk
  | 0x7000 => decide (d.cfg Od.pwr_BIN_LIMIT1 0 < d.cfg Od.pwr_BIN_LIMIT2 0 ∧ d.cfg Od.pwr_BIN_LIMIT2 0 < d.cfg Od.pwr_BIN_LIMIT3 0)
  | 0xA000 => decide (d.cfgN Od.hif_WINDOW_BASE inst % d.cfgN Od.hif_WINDOW_SIZE inst = 0)
  | 0xA010 => !bitOf (d.cfgN Od.rte_ROUTE inst) 46 || decide (d.cfg Od.que_CLASS (bitsOf (d.cfgN Od.rte_ROUTE inst) 45 32) = 2)
  | 0xB000 => !d.cfgB Od.lan_PAIRED inst || decide (inst % 2 = 0)
  | _ => true

/-- R502: a SEVERITY is not below the MIN_SEVERITY of its source. -/
def Dev.severityOk (d : Dev) (sub inst : Nat) (v : Int) : Bool := sub ≠ 1 || decide (d.minSeverity (d.sourceOf inst) ≤ v)

/-- R317: the words of the distinct images that the chart gives the lanes of each pier. -/
def Dev.pierImagesOk (d : Dev) : Bool :=
  (List.range 17).all (fun p =>
    let here := (List.range 8).filterMap (fun k => d.imageOfLane (8 * p + k))
    decide ((here.foldl (fun (acc : List Bytes × Nat) i =>
      if i.digest ∈ acc.1 then acc else (i.digest :: acc.1, acc.2 + (laneImage i.body).code.length)) ([], 0)).2 ≤ 12288))

/-- R315: no session is listed for lanes of two piers. -/
def Dev.laneSessionsOk (d : Dev) : Bool :=
  let l := (List.range 136).flatMap (fun n => (List.range 8).filterMap (fun k =>
    let s := d.cfgAt Od.lan_DATA_SESSION k n
    if s = 0 then none else some (n / 8, s)))
  l.all (fun a => l.all (fun b => decide (a.2 ≠ b.2) || decide (a.1 = b.1)))

/-- R109: the queues of which a chart sets anything that their rules bind, or their ENABLE (log entry 141). -/
def Dev.chartedQueues (d : Dev) : List Nat :=
  dedup ([Od.que_CLASS, Od.que_TARGET, Od.que_SOURCES, Od.que_SESSION, Od.que_LANE, Od.que_CONVOY, Od.que_ENABLE].flatMap d.listedInsts)

/-- R38, R109, R126, R269, R315: a chart's values keep every rule that a chart must keep. A queue's rules are checked where the chart
enables it, since a queue at its Default values breaks one of them. -/
def Dev.chartRulesOk (d : Dev) (i : Image) : Bool :=
  let e : Dev := { d with od := { chart := valuesOf i.records, direct := { octs := d.od.direct.octs } } }
  i.records.all (fun r => (List.range r.count).all (fun k =>
      e.crossOk r.index (r.first + k) && (r.index ≠ 0x6000 || d.severityOk r.sub (r.first + k) (leNat r.value)))) &&
    (e.cfg Od.twn_TWIN_MODE 0 ≠ 1 || { e with fry.flo.ownId := d.fry.flo.ownId }.twinWired) &&
    (e.enabledOf Od.brg_ENABLE).all (fun b => decide (e.cfg Od.brg_TYPE b ≠ 0)) &&
    (List.range 16).all (fun b => decide (e.cfg Od.brg_Z_MODE b = 0) || (e.countsPerRev b).isSome) &&
    e.chartedQueues.all e.queueConfigOk && e.pierImagesOk && e.laneSessionsOk

/-! ## STORE (R271, R273, R316, R371, R482, R483, R622) -/

/-- R482, R621: the kinds of images that the state of the unit admits. -/
def Dev.kindAdmitted (d : Dev) (kind : Nat) : Bool :=
  match d.cry.lcy.state with
  | .provisioned | .operational => true
  | .diagnostic => decide (kind ≠ 3 ∧ kind ≠ 4)
  | .blank | .testUnlocked | .manufactured | .decommissioned => decide (kind = 5)
  | .scrap | .lost => false

/-- Flash sectors that an image takes in the customer area. -/
def imageSectors (i : Image) : Nat := (128 + i.body.length + 7856 + 16383) / 16384

/-- An overlay is active in some layer. -/
def Dev.overlayActive (d : Dev) (i : Image) : Bool :=
  [d.od.mode, d.od.maint, d.od.trial].any (fun l => decide (l.set ≠ 0) && decide (l.digest = i.digest))

/-- Put a verified image into the slot it goes to: an OAP status, the slot, and the device. -/
def Dev.placeImage (d : Dev) (i : Image) : Nat × Nat × Dev :=
  if i.kind = 1 then
    if d.obj.switch.isSome then (10, 0, d)
    else
      let s := match d.obj.activeSlot with
        | some a => 1 - a
        | none => if d.obj.charts.has 0 && !d.obj.charts.has 1 then 1 else 0
      (0, s, { d with obj.charts := d.obj.charts.ins s i })
  else if i.kind = 2 then
    if !d.obj.charts.any (fun e => e.2.digest == i.base) then (20, 0, d)
    else
      let same := d.obj.overlays.find? (fun e => e.2.set == i.set && e.2.layer == i.layer && !d.overlayActive e.2)
      match (same.map (fun e => e.1)).orElse (fun _ => d.obj.overlays.freeKey 0 48) with
      | none => (21, 0, d)
      | some s => (0, s, { d with obj.overlays := d.obj.overlays.ins s i, obj.orphans := d.obj.orphans.filter (fun n => n ≠ s) })
  else if i.kind = 5 then
    let s := 1 - d.sys.runSlot
    if (d.sys.fw s).state = .trying then (10, 0, d)
    else (0, s, { d with sys := d.sys.setFw s { state := .pending, version := i.imgVersion, secVersion := i.secVersion,
                                                raiseFloor := bitOf i.flags 0, digest := i.digest } })
  else
    let rest := d.obj.customer.filter (fun x => !(x.kind == i.kind && x.digest == i.digest))
    let used : Nat := rest.foldl (fun n x => n + imageSectors x) 0
    if d.cfgN Od.fls_CUST_IMAGE_SECTORS 0 < used + imageSectors i then (21, 0, d)
    else (0, rest.length, { d with obj.customer := rest ++ [i] })

/-- The checks of a staged image, in order: form, state, anchor, signature, rights, version, content. -/
def Dev.imageStatus (d : Dev) (b : Bytes) : Nat :=
  let i := imageOf b
  let a := d.anchor i.keyId
  if b.length < 7984 || !imageHeadOk b then 19
  else if i.kind = 0 || 5 < i.kind then 17
  else if d.sys.phase = .recovery && i.kind ≠ 5 then 9
  else if !d.kindAdmitted i.kind then 17
  else if 15 < i.keyId || a.state ≠ 1 then 16
  else if !Config.pkVerify algSlh128s a.pub (slhPure (b.take (128 + leAt b 8 4))) (sliceB b (128 + leAt b 8 4) 7856) then 16
  else if !bitOf a.rights (i.kind - 1) then 17
  else if i.secVersion < d.obj.floors.get 0 i.kind then 18
  else if !(match i.kind with
    | 1 => objectsBodyOk i && d.unitListed i && d.chartRulesOk i
    | 2 => objectsBodyOk i
    | 3 => laneImageOk i.body
    | 4 => taskImageOk i.body
    | _ => firmwareBodyOk i.body) then 19
  else 0

/-- The ACTIVATE response: a status, then the result of STORE where there is one. -/
def activateReply (status : Nat) (result : Bytes) : OapReply :=
  { status := status, count := 1, body := toLe 2 status ++ [0, 0] ++ result }

/-- STORE. -/
def Dev.activateStore (d : Dev) : OapReply × Dev :=
  let st := d.imageStatus d.obj.stage
  let i := imageOf d.obj.stage
  let (st2, slot, d1) := if st = 0 then d.placeImage i else (st, 0, d)
  (activateReply st2 (if st2 = 0 then i.digest ++ [BitVec.ofNat 8 slot, 0, 0, 0] else []), { d1 with obj.lastStatus := st2 })

/-! ## DELETE and CHART_SWITCH (R271, R272) -/

/-- DELETE: the overlay with a digest. -/
def Dev.activateDelete (d : Dev) (digest : Bytes) : OapReply × Dev :=
  match d.obj.overlays.find? (fun e => e.2.digest == digest) with
  | none => (activateReply 25 [], d)
  | some e =>
    if d.overlayActive e.2 then (activateReply 9 [], d)
    else (activateReply 0 [], { d with obj.overlays := d.obj.overlays.del e.1, obj.orphans := d.obj.orphans.filter (fun n => n ≠ e.1) })

/-- The handle under which a chart switch runs the exchange of R94; no launch entry has it. -/
def switchHandle : Nat := 2 ^ 32

/-- CHART_SWITCH: a refusal, or the exchange begins and its outcome answers later. -/
def Dev.activateSwitch (d : Dev) (req id slot : Nat) (instant : Option Ticks) (digest : Bytes) : Option OapReply × Dev :=
  let no (st : Nat) : Option OapReply × Dev := (some (activateReply st []), d)
  if !d.permitted 1 (.layer 0) then no 6
  else if d.obj.switch.isSome then no 10
  else if 1 < slot then no 8
  else
    match instant with
    | none => no 8
    | some l =>
      if l < d.now + sec then no 8
      else
        match d.chartIn slot with
        | none => no 25
        | some c =>
          if c.digest ≠ digest then no 25
          else
            let i : EntryImage := { trig := .time, dir := .rise, brg := 0, target := .overlay slot 0 (beNat digest), late := .drop, unc := .flagged,
                                    acq := .hold, tte := false, armed := true, trigger := l, early := 0, lateTol := 0 }
            let own := d.fry.flo.ownId
            let d1 : Dev := { d with obj.switch := some { slot := slot, instant := l, committed := false, asker := some (req, id) } }
            let d2 := d1.joinExchange own switchHandle i (some { at_ := l, unc := 0 })
            (none, if d.isMaster then d2.openExchange own switchHandle i else d2.sendOvl d.fry.flo.master (.prepare own switchHandle i))

end Sys2Proof.Machine
end

