-- ==== Sys2Proof/Machine/ObjectOps.lean ====
section
/-!
DEFINITION. Object access: who may touch an object, what a read answers, and what a write does (R256–R260, R264).
-/
namespace Sys2Proof.Machine

/-! ## Access (R256, R259, R260) -/

/-- R256: an address, or the status that it is answered with. -/
def lookupObject (index sub inst : Nat) : Except Nat OdRow :=
  if 0xF000 ≤ index || !indexListed index then .error 1
  else
    match rowOf index sub with
    | none => .error 2
    | some r => if !instExists index inst || (index = 0x4110 && sub = 17 && inst ≠ 0) then .error 3 else .ok r

/-- R481, R508, R621: what recovery, minimal firmware and chip safe state still answer. -/
def Dev.stateAdmits (d : Dev) (write : Bool) (index sub : Nat) : Bool :=
  match d.sys.phase with
  | .recovery =>
    if write then (index = 0x1208 && sub = 1) || (index = 0x1001 && sub = 10)
    else index = 0x1000 || index = 0x1001 || (index = 0x1208 && (sub = 2 || sub = 3))
  | .minimal => index = 0x1000 || index = 0x1001 || index = 0x1100 || index = 0x1110
  | _ => !(write && d.flt.chipSafe)

/-- R568: the action class of a write of an object that needs a permit. -/
def actionClass (index sub : Nat) : Nat :=
  match index, sub with
  | 0x6001, 3 | 0x6001, 4 => 2
  | 0x5041, _ | 0x8002, 3 => 3
  | 0x2000, 28 | 0x3400, 12 | 0x4102, 2 | 0x4102, 3 | 0x4300, 17 => 4
  | _, _ => 0

/-- R260: the action objects. -/
def actionObject (index sub : Nat) : Bool :=
  match index, sub with
  | 0x3002, 1 | 0x2120, 6 | 0x2120, 7 | 0x4112, 1 | 0x8200, 1 | 0x8200, 2 | 0x8200, 3 => true
  | 0x4102, _ => true
  | _, _ => false

/-- R260: an object that only the unit which holds the claim writes. -/
def OdRow.claimed (r : OdRow) (sub : Nat) : Bool := r.persist != .vol || actionObject r.index sub

/-- R259: what an access is answered with before its value is looked at; 0 where it may go on. -/
def Dev.accessStatus (d : Dev) (role : Role) (write : Bool) (r : OdRow) (sub inst : Nat) : Nat :=
  let need := if write then r.writeRole else r.readRole
  let permit := if write then r.writePermit else r.readPermit
  if !d.stateAdmits write r.index sub then 9
  else if !role.satisfies need then (if write then 5 else 4)
  else if write && d.isStandby && r.claimed sub then 15
  else if permit && d.sys.phase ≠ .recovery && !d.permitted (actionClass r.index sub) (.obj r.index inst) then 6
  else 0

/-! ## Reading -/

/-- What a read of an object's bytes refuses in the present condition (R587, R589, R590). -/
def Dev.readStatus (d : Dev) (r : OdRow) (sub inst off n : Nat) : Nat :=
  if r.index = 0x9010 && sub = 1 && (d.imageSector inst || d.sectorLock inst = 2 || d.customerBad inst off n) then 9 else 0

/-- A read of one window of an object: its status and bytes (R259, R262). A LENGTH of 0 is to the end of the value; a window
beyond it, or a part of a value that has no parts, is a LENGTH error. -/
def Dev.readObject (d : Dev) (role : Role) (a : OdAddr) (off len : Nat) : Nat × Bytes :=
  match lookupObject a.index a.sub a.inst with
  | .error st => (st, [])
  | .ok r =>
    let st := d.accessStatus role false r a.sub a.inst
    if st ≠ 0 then (st, [])
    else
      let v := d.readBytes r (a.sub - r.sub) a.inst
      let want := if len = 0 then v.length - off else len
      if (!r.type.isBytes && (off ≠ 0 || (len ≠ 0 && len ≠ v.length))) || v.length < off + want then (7, [])
      else
        let st2 := d.readStatus r a.sub a.inst off want
        if st2 ≠ 0 then (st2, []) else (0, sliceB v off want)

/-- The entry of a READ response or NOTIFY. -/
def readEntry (x : Nat × Bytes) : Bytes := toLe 2 x.1 ++ [0, 0] ++ toLe 4 x.2.length ++ pad4 x.2

/-! ## Writing -/

/-- The status that an action answers with, apart from its effect. -/
def Dev.quiet (d : Dev) (f : Dev → Dev) : Nat × Dev :=
  let status (o : Output) : Option Nat := match o with
    | .writeStatus n => some n
    | _ => none
  let e := f { d with out := [] }
  ((e.out.findSome? status).getD 0, { e with out := e.out.filter (fun o => (status o).isNone) ++ d.out })

/-- Store a value under its object. -/
def Dev.storeValue (d : Dev) (r : OdRow) (i inst : Nat) (v : OdValue) : Dev :=
  { d with od.direct := d.od.direct.put (odKey r.index (r.sub + i) inst) v }

/-- R513: a configuration word of the collector is written with its complement. -/
def Dev.pairWritten (d : Dev) (r : OdRow) (inst : Nat) : Dev := { d with flt.inverse := d.flt.inverse.del (odKey r.index r.sub inst) }

/-- R21, R46: what a Bearing's own objects refuse: TYPE, ENCODING and source parameters, the scaling among them, while it is not
OFF (log entry 29), and the values that a FERRY Bearing has from its source. -/
def Dev.bearingHolds (d : Dev) (index sub b : Nat) : Bool :=
  (index ≤ 0x2004 && (index ≠ 0x2000 || decide (sub ≤ 6)) && (d.brg b).state != .off && !(index = 0x2003 && sub = 3) &&
      !(index = 0x2004 && 2 ≤ sub)) ||
    (decide (d.brgType b = 5) && (index = 0x2008 || (index = 0x2000 && (match sub with
      | 7 | 8 | 9 | 10 | 11 | 12 | 14 | 16 | 17 | 22 => true
      | _ => false))))

def Dev.writeBearing (d : Dev) (index sub b : Nat) (v : Int) : Option (Nat × Dev) :=
  if index = 0x2000 && sub = 26 then some (d.quiet (fun y => if v = 1 then y.bearingEnableWrite b else (y.set Od.brg_ENABLE b 0).bearingDisable b))
  else if index = 0x2000 && sub = 28 then some (d.quiet (fun y => y.positionSet b v))
  else if d.bearingHolds index sub b then some (9, d)
  else if index = 0x2008 && sub = 10 then some (d.quiet (fun y => y.calCapture b))
  else if index = 0x2000 && sub = 19 && v ≠ 0 && (d.countsPerRev b).isNone then some (8, d)
  else none

def Dev.writeLaunch (d : Dev) (index sub n : Nat) (v : Int) : Option (Nat × Dev) :=
  match index, sub with
  | 0x2100, 8 => some (d.quiet (fun y => if v = 1 then y.pinEnableWrite n else (y.set Od.pin_ENABLE n 0).pinDisable n))
  | 0x2120, 6 => some (d.quiet (fun y => y.releaseEntry v.toNat))
  | 0x2120, 7 => some (d.quiet (fun y => y.cancelEntry v.toNat))
  | _, _ => none

def Dev.writeQueue (d : Dev) (index sub q : Nat) (v : Int) : Option (Nat × Dev) :=
  match index, sub with
  | 0x3000, 8 => some (d.quiet (fun y => if v = 1 then y.queueEnable q else y.queueDisable q))
  | 0x3000, 1 | 0x3000, 2 | 0x3000, 3 | 0x3000, 4 | 0x3000, 5 | 0x3000, 6 => if (d.queue q).state = .off then none else some (9, d)
  | 0x3002, 1 => some (d.quiet (fun y => y.cancelSeq q v.toNat))
  | 0x3400, 12 => some (d.quiet (fun y => y.shutdownWrite v.toNat))
  | _, _ => none

def Dev.writeNet (d : Dev) (index sub n : Nat) (v : Int) (b : Bytes) : Option (Nat × Dev) :=
  match index, sub with
  | 0x4000, 14 => some (d.quiet (fun y => y.portEnable n (v = 1)))
  | 0x4100, 26 => some (d.quiet (fun y => y.sessionEnable n (v = 1)))
  | 0x4102, 1 => some (d.quiet (fun y => y.rekey n))
  | 0x4102, 2 => some (d.quiet (fun y => y.safeSend n))
  | 0x4102, 3 => some (d.quiet (fun y => y.reopen n (v = 2)))
  | 0x4110, 16 => some (d.streamEnable n (v = 1))
  | 0x4112, 1 =>
    if b.length ≠ 56 then some (7, d)
    else if !allZero (sliceB b 1 7) then some (12, d)
    else some (d.certRequest n (leAt b 0 1) (signedOf 64 (leAt b 8 8)) (signedOf 64 (leAt b 16 8)) (sliceB b 24 32))
  | 0x4200, 1 => some (d.quiet (fun y => y.ferryEnable n (v = 1)))
  | 0x4300, 1 => if d.twinModeOk v.toNat then none else some (8, d)
  | 0x4300, 17 => some (d.quiet Dev.yieldNow)
  | 0x4300, 18 => some (d.quiet Dev.peerDead)
  | _, _ => none

def Dev.writeUnits (d : Dev) (env : WriteEnv) (role : Role) (index sub n off : Nat) (v : Int) (b : Bytes) : Option (Nat × Dev) :=
  match index, sub with
  | 0x1000, 14 => some (d.birthCert b env.agree)
  | 0x1001, 10 => some (d.quiet (fun y => y.restartWrite v.toNat env.start))
  | 0x1100, 5 => some (d.quiet (fun y =>
      if leAt b 5 1 = 3 then y.lcAnchors b env.agree else if leAt b 5 1 = 4 then y.lcChain b env.agree
      else y.lcTransition b env.agree (env.lcCut.map (fun k => k.val))))
  | 0x1100, 7 => some (d.attestChallenge b)
  | 0x1208, 1 => some (0, { d with obj.stage := b })
  | 0x5000, 1 => some (d.quiet (fun y => y.coreEnable n (v = 1)))
  | 0x5020, 5 => some (d.bnJob b)
  | 0x5041, 1 => some (d.keyGenerate b)
  | 0x5041, 2 => some (d.keyImport b)
  | 0x5041, 3 => some (d.keyRestrict b)
  | 0x5041, 4 => some (d.keyDestroy v.toNat)
  | 0x6001, 3 => some d.releaseHold
  | 0x6001, 4 => some d.releaseSafe
  | 0x8000, 1 => some (d.quiet (fun y => y.clsEnable (v = 1)))
  | 0x8002, 3 => some (if b.length = 16 then (0, d.onTag (fun g => { g with key := b })) else (7, d))
  | 0x8003, 1 => some (d.tagPageWrite n b)
  | 0x8200, 1 => some (d.permitRequest v.toNat env.agree)
  | 0x8200, 2 => some (d.revoke v.toNat role)
  | 0x8200, 3 => some (d.clearInDoubt v.toNat)
  | 0x9010, 1 => some (d.dataWrite n off b env.verify)
  | 0x9010, 2 => some (d.eraseSector n env.pulses env.cut)
  | 0x9020, 1 | 0x9020, 2 | 0x9020, 3 => some (d.regionField n sub v.toNat)
  | 0x9020, 4 => some (d.setPassword n b)
  | 0x9020, 5 => some (d.unlockRegion n b)
  | 0x9020, 6 => some (d.lockRegion n v.toNat)
  | 0xB000, 12 => some (d.laneEnable n (v = 1))
  | _, _ => none

/-- The write of a value that an object takes: its status and effect. An object without an effect of its own takes the value;
0x6000 takes it for the source that its number names. -/
def Dev.writeObject (d : Dev) (env : WriteEnv) (role : Role) (r : OdRow) (sub inst off : Nat) (b : Bytes) : Nat × Dev :=
  let v : Int := match r.value b with
    | .num n => n
    | .bytes _ => 0
  let act : Option (Nat × Dev) :=
    match r.index / 0x1000 with
    | 2 => if r.index < 0x2100 then d.writeBearing r.index sub inst v else d.writeLaunch r.index sub inst v
    | 3 => d.writeQueue r.index sub inst v
    | 4 => d.writeNet r.index sub inst v b
    | _ => d.writeUnits env role r.index sub inst off v b
  match act with
  | some x => x
  | none =>
    if r.index = 0x6000 then
      let d0 := d.collectorCheck [(Od.flt_MIN_SEVERITY, d.sourceOf inst)]
      if d.severityOk sub inst v then (0, (d0.storeValue r (sub - r.sub) (d.sourceOf inst) (.num v)).pairWritten r (d.sourceOf inst)) else (8, d0)
    else
      let d1 := d.storeValue r (sub - r.sub) inst (r.value b)
      if !d1.crossOk r.index inst then (8, d)
      else if r.index = 0x8000 && (sub = 4 || sub = 5) then (0, d1.onRd Reader.noBaseline)
      else if r.index = 0x8100 && sub = 1 then (0, d1.crdEnable inst)
      else if r.index = 0x4010 && sub = 1 then (0, d1.timeProfile)
      else if r.index = 0x4100 && (sub = 23 || sub = 24) then (0, (d1.presealSafe inst).replSession inst)
      else if r.index = 0x2100 then (0, d.drivePins d1)
      else if r.index = 0x6001 then (0, d1.pairWritten r inst)
      else if r.index = 0xA010 then (0, d1.irqEdges { d1 with hif.routes := d1.hif.routes.del inst })
      else (0, d1)

/-- R17, R260: a joined active unit replicates the values it has written; what an action object changes is replicated as what
it is, a record or a session's state. -/
def Dev.replicateWrite (d : Dev) (r : OdRow) (a : OdAddr) (b : Bytes) : Dev :=
  if d.fry.twin.role = .active && r.persist != .vol then
    d.replicaValue a.index a.sub a.inst b
  else d

end Sys2Proof.Machine
end

