-- ==== Sys2Proof/Machine/PuCode.lean ====
section
/-!
DEFINITION. The bytes of a purser's instructions, and the bytes that are none (R354–R357).
-/
namespace Sys2Proof.Machine

/-! ## Prefixes (R355) -/

def PuWidth.prefix : PuWidth → Bytes
  | .w8 => [0xF0]
  | .w16 => [0xF1]
  | .w32 => [0xF2]
  | .w64 => []

def twicePre (t : Twice) : Bytes := if t.isSome then [0xF4] else []

def PuPre.bytes (x : PuPre) : Bytes := x.w.prefix ++ twicePre x.twice

def PuMem.bytes : PuMem → Bytes
  | .plain => []
  | .twice _ => [0xF4]
  | .atom => [0xF5]

def atomPre (atom : Bool) : Bytes := if atom then [0xF5] else []

def PuRep.bytes (x : PuRep) : Bytes := x.w.prefix ++ (if x.rep then [0xF3] else [])

/-! ## Fields (R354, R356) -/

/-- Size code and bytes of an immediate. -/
def PuImm.code : PuImm → Nat
  | .i1 _ => 0
  | .i2 _ => 1
  | .i4 _ => 2
  | .i8 _ => 3

def PuImm.le : PuImm → Bytes
  | .i1 v => toLe 1 v.toNat
  | .i2 v => toLe 2 v.toNat
  | .i4 v => toLe 4 v.toNat
  | .i8 v => toLe 8 v.toNat

/-- Opcode bits [1:0] and bytes of a displacement. -/
def Disp.code : Disp → Nat
  | .d0 => 0
  | .d1 _ => 1
  | .d2 _ => 2
  | .d4 _ => 3

def Disp.le : Disp → Bytes
  | .d0 => []
  | .d1 v => toLe 1 v.toNat
  | .d2 v => toLe 2 v.toNat
  | .d4 v => toLe 4 v.toNat

/-- An opcode and its operand byte. -/
def puCode (op hi lo : Nat) : Bytes := [BitVec.ofNat 8 op, BitVec.ofNat 8 (16 * hi + lo)]

/-- A register operation, in the op order of R328. -/
def puRrCode (op : Nat) (d s : Fin 16) : Bytes := puCode (0x10 + op) d s

/-- An immediate operation: 0 MOVI to 7 TSTI. -/
def puRiCode (k : Nat) (d : Fin 16) (i : PuImm) : Bytes := puCode (0x20 + k) d i.code ++ i.le

/-- A shift by an immediate: 0 LSLI to 3 RORI. -/
def puShiftCode (k : Nat) (d : Fin 16) (imm : BitVec 8) : Bytes := puCode (0x28 + k) d 0 ++ [imm]

/-- A memory operation, by its first opcode. -/
def puMemCode (op : Nat) (r b : Fin 16) (x : Disp) : Bytes := puCode (op + x.code) r b ++ x.le

def puBrCode : PuRel → Bytes
  | .r1 v => 0x60 :: toLe 1 v.toNat
  | .r4 v => 0x61 :: toLe 4 v.toNat

/-- An escape operation. -/
def puEscCode (k : Nat) (d s : Nat) : Bytes := 0xEF :: puCode k d s

/-! ## Illegal encodings (R355–R357) -/

/-- What follows an opcode: its operand byte (0 none; 1 two fields; 2 [3:0] zero; 3 [7:4] zero; 4 register and immediate size), the
bytes after it, and the prefixes it allows. A nibble that the map does not list is zero. -/
structure PuForm where
  operand : Nat
  tail : Nat := 0
  allowed : List Nat := []
deriving DecidableEq, Repr

def widthPre : List Nat := [0xF0, 0xF1, 0xF2]

/-- The opcode map (R357). -/
def puForm (op : Nat) : Option PuForm :=
  let disp := if op % 4 = 3 then 4 else op % 4
  if op ≤ 0x03 then some { operand := 0 }
  else if op = 0x04 then some { operand := 0, tail := 1 }
  else if op = 0x05 then some { operand := 3 }
  else if op = 0x06 then some { operand := 2 }
  else if op < 0x10 then none
  else if op < 0x1E then some { operand := 1, allowed := 0xF4 :: widthPre }
  else if op < 0x20 then some { operand := 1, allowed := widthPre }
  else if op < 0x28 then some { operand := 4, allowed := 0xF4 :: widthPre }
  else if op < 0x2C then some { operand := 2, tail := 1, allowed := 0xF4 :: widthPre }
  else if op < 0x2E then some { operand := 2, allowed := 0xF4 :: widthPre }
  else if op < 0x30 then none
  else if op < 0x34 || (0x38 ≤ op && op < 0x3C) then some { operand := 1, tail := disp, allowed := 0xF4 :: 0xF5 :: widthPre }
  else if op < 0x40 then some { operand := 1, tail := disp, allowed := 0xF4 :: widthPre }
  else if op < 0x58 then some { operand := 1, tail := disp, allowed := 0xF5 :: widthPre }
  else if op < 0x60 then none
  else if op = 0x60 then some { operand := 0, tail := 1, allowed := [0xF4] }
  else if op = 0x61 then some { operand := 0, tail := 4, allowed := [0xF4] }
  else if op = 0x62 then some { operand := 3, tail := 4, allowed := [0xF4] }
  else if op = 0x64 then some { operand := 1, allowed := [0xF4] }
  else if op < 0x66 then some { operand := 3, allowed := [0xF4] }
  else if op < 0x68 then some { operand := 1 }
  else if op < 0x70 then none
  else if op < 0x80 then some { operand := 0, allowed := [0xF4] }
  else if op = 0x80 then some { operand := 1, allowed := [0xF4] }
  else if op = 0x81 then some { operand := 1 }
  else if op < 0x90 then none
  else if op = 0x90 then some { operand := 0, allowed := 0xF3 :: 0xF6 :: widthPre }
  else if op < 0x94 then some { operand := 0, allowed := 0xF3 :: widthPre }
  else if op = 0x94 then some { operand := 2, allowed := 0xF3 :: widthPre }
  else none

/-- The escape opcodes (R357). -/
def puEscForm (op : Nat) : Option PuForm :=
  if op = 0 then some { operand := 2 }
  else if op = 1 then some { operand := 2, allowed := widthPre }
  else if op < 7 then some { operand := 1, allowed := widthPre }
  else none

/-- The prefix rules that hold whatever follows (R355). -/
def puPrefixOk (l : List Nat) : Bool :=
  decide (l.length ≤ 4) && decide ((l.filter (fun x => decide (x ∈ widthPre))).length ≤ 1) && decide l.Nodup && decide (0xF7 ∉ l) &&
    !(decide (0xF4 ∈ l) && l.any (fun x => x = 0xF3 || x = 0xF5 || x = 0xF6)) && !(decide (0xF6 ∈ l) && decide (0xF3 ∉ l))

/-- The illegal encoding that bytes start with: its length, and its cause code (R378). -/
def puIllegal (b : Bytes) : Option (Nat × Nat) :=
  let n := b.map (fun x => x.toNat)
  let l := (n.takeWhile (fun x => decide (0xF0 ≤ x ∧ x ≤ 0xF7))).take 5
  let k := l.length
  let at_ (i : Nat) : Nat := n.getD (k + i) 0
  let esc := decide (at_ 0 = 0xEF)
  let form := if esc then puEscForm (at_ 1) else puForm (at_ 0)
  let o := 1 + b2n esc
  if 4 < k then some (k, 0x02)
  else match form with
    | none => some (k + o, if puPrefixOk l then 0x01 else 0x02)
    | some x =>
      let y := at_ o
      let len := k + o + b2n (decide (x.operand ≠ 0)) + x.tail + (if x.operand = 4 then 2 ^ (y % 4) else 0)
      let control := (!esc && 0x60 ≤ at_ 0 && at_ 0 < 0x80) || (esc && at_ 1 = 0)
      if !puPrefixOk l then some (len, 0x02)
      else if l.any (fun p => decide (p ∉ x.allowed)) then
        some (len, if control && l.all (fun p => decide (p ∈ x.allowed) || decide (p ∈ widthPre)) then 0x04 else 0x02)
      else if (x.operand = 2 && y % 16 ≠ 0) || (x.operand = 3 && y / 16 ≠ 0) || (x.operand = 4 && 4 ≤ y % 16) then some (len, 0x01)
      else none

end Sys2Proof.Machine
end

