-- ==== Sys2Proof/Machine/PuOps.lean ====
section
/-!
DEFINITION. A purser's instruction: how it is fetched, stepped, skipped and doubled, its memory accesses, and the exceptions
it takes (R353, R358–R369, R377–R395).
-/
namespace Sys2Proof.Machine

/-! ## Taking an exception (R385–R395) -/

/-- R392: a double fault. The last-resort TSB takes the running state, and the purser parks. -/
def State.puDouble (s : State) (p : Nat) (f : CoreFault) : State :=
  s.onDev (fun d =>
    let m := puMaster p
    let d1 := (d.setOct Od.exc_LAST_RESORT m (puTsb (d.pu p) { f with cause := 0x60 } 0 f.cause)).bump Od.exc_DOUBLE_FAULTS m
    (d1.onPu p (fun c => { c with parked := true, waiting := false })).fault 0x005 p (some (192 + p, 5)) [])

/-- R386: a purser takes an exception with a saved PC. A TWICE mismatch goes to the fault collector too (R364). -/
def State.puTake (s : State) (p : Nat) (f : CoreFault) (saved : Nat) : State :=
  let s1 := s.onDev (fun d =>
    let d1 := (d.onPu p (fun c => { c.drained with skip := false, shadow := false, waiting := false, pc := BitVec.ofNat 64 saved })).bump
      Od.exc_EXCEPTIONS (puMaster p)
    if f.cause = 0x30 then d1.fault 0x007 p none [] else d1)
  let c := s1.dev.pu p
  let v := puVector f.cause
  let h := s1.puEntry p v
  if c.handler || !s1.dev.puTsbOk p c.tsbp.toNat || !s1.dev.puTsbOk p h then s1.puDouble p f
  else
    let s2 := { s1 with mem := memWrite s1.mem c.tsbp.toNat (puTsb c f v 0) }
    s2.onPu p (fun c => { c.load (memRead s2.mem h 256) with ie := false, task := false, handler := true })

/-- A fault of the present instruction: in a customer task it ends the task (R375), elsewhere it is taken. -/
def State.puFault (s : State) (p : Nat) (f : CoreFault) : State :=
  match (s.dev.pu p).running with
  | some k => s.taskFault p k f
  | none => s.puTake p f (s.dev.pu p).pc.toNat

/-- The purser fetches instructions: chip safe state halts it (R508). -/
def Dev.puRuns (d : Dev) (p : Nat) : Bool := !(d.pu p).parked && !(d.pu p).waiting && !d.flt.chipSafe

/-- R390, R391: a pending imprecise notice is taken at a boundary, outside handler state and shadows. -/
def State.puNotice (s : State) (p : Nat) : State :=
  let c := s.dev.pu p
  if c.notice && !c.handler && !c.shadow && !c.parked && !s.dev.flt.chipSafe then
    (s.onPu p (fun c => { c with notice := false })).puFault p { cause := 0x2C, addr := (s.dev.acu (puMaster p)).impAddr, info := 1 }
  else s

/-- An interrupt is taken at the present boundary (R377, R386). A customer task is resumed once the firmware has served it. -/
def State.puInterruptNow (s : State) (p source : Nat) : State :=
  let f : CoreFault := { cause := 0x41, source := source }
  match (s.dev.pu p).running with
  | some k =>
    let s1 := s.onDev (fun d => d.bump Od.exc_EXCEPTIONS (puMaster p))
    let c := (s1.dev.pu p).drained
    { s1 with mem := memWrite s1.mem (s1.dev.task k).tsb (puTsb c f 6 0) }.onPu p (fun _ => { c with waiting := false })
  | none => s.puTake p f (s.dev.pu p).pc.toNat

/-- PU_INTERRUPT: an interrupt of a source is pending at a boundary. It ends a WAIT; with FLAGS.IE, outside handler state and
shadows, it is taken (R357, R369, R387, R390). -/
def State.puInterrupt (s : State) (p source : Nat) : State :=
  let c := s.dev.pu p
  if c.parked || s.dev.flt.chipSafe || c.shadow || c.skip || c.notice then s
  else
    let s1 := s.onPu p (fun c => { c with waiting := false })
    if c.ie && !c.handler then s1.puInterruptNow p source else s1

/-- The purser's program holds an instruction at its PC: its prefixes, in any order, and the bytes after them (R354, R355). The
program of a customer task is in its code area; resident firmware is not in the model (log entry 1). -/
def State.puHolds (s : State) (p : Nat) (pre body : Bytes) : Bool :=
  let c := s.dev.pu p
  let b := memRead s.mem c.pc.toNat (pre.length + body.length)
  c.running.isNone || ((b.take pre.length).isPerm pre && decide (b.drop pre.length = body))

/-- A command of a purser's instruction: the purser executes it where its program holds the instruction's bytes at the PC. -/
def State.runPu (s : State) (t : Ticks) (p : Nat) (pre body : Bytes) (f : State → State) : Host.Outcome State Fault Refusal :=
  s.runS t (fun s => if s.puHolds p pre body then f s else s)

/-! ## Stepping an instruction -/

/-- How an instruction's own work ends. -/
inductive PuEnd where
  /-- it completes in sequence -/
  | seq (s : State)
  /-- it transfers control -/
  | jump (s : State) (pc : Nat)
  | fault (s : State) (f : CoreFault)
  /-- a block operation leaves at an element boundary for an interrupt -/
  | interrupt (s : State) (source : Nat)
  /-- the context has changed, and its PC with it -/
  | gone (s : State)
  /-- it waits and stays to be executed -/
  | stay

/-- Count cycles (R351, R370, R376). -/
def State.puCycles (s : State) (p k : Nat) : State :=
  s.onDev (fun d =>
    let c := d.pu p
    let d1 := d.setPu p { c with cycles := c.cycles + k }
    match c.running with
    | some t => d1.bump Od.tst_CYCLES t k
    | none => d1)

/-- FAULT_INFO of an access or fetch (R381): `log2` of its width, and the denial that caused the fault. -/
def puInfo (write fetch : Bool) (log2 : Nat) (block : Bool) (x : Option Denial) : Nat :=
  b2n write + 2 * b2n fetch + 4 * log2 + 32 * b2n block +
    (match x with
      | some y => 16 * b2n y.part2 + (match y.region with
        | some r => 256 * (r % 32) + 8192
        | none => 0)
      | none => 0)

/-- R353, R361, R396: the fetch of an instruction needs the execute right on all its bytes. -/
def State.puFetch (s : State) (p len : Nat) : Option (State × CoreFault) :=
  let c := s.dev.pu p
  let a := c.pc.toNat
  let info := puInfo false true 0 false
  if 2 ^ 40 < a + len then some (s.onDev (fun d => d.denied (puMaster p) { cause := 0x23, addr := a } false), { cause := 0x23, addr := a, info := info none })
  else match acuCheck (s.dev.acu (puMaster p)).regions a (a + len - 1) .fetch c.task with
    | none => none
    | some x => some (s.onDev (fun d => d.denied (puMaster p) x false), { cause := x.cause, addr := x.addr, info := info (some x) })

/-- The delay of a TWICE instruction (R364): 2 to 17 cycles from the purser's client, a free value; 17 without output. -/
def Dev.twiceDelay (d : Dev) (p : Nat) : Nat × Dev :=
  if d.rngUp then
    let (k, d1) := (d.rngRequest p).take
    (2 + Config.freeNat k % 16, d1)
  else (17, d)

/-- One instruction of a purser: `len` bytes with its prefixes, `cycles` of R370, its TWICE prefix (log entry 1). -/
def State.purser (s : State) (p len cycles : Nat) (tw : Twice) (body : State → PuEnd) : State :=
  let c := s.dev.pu p
  let next := c.pc.toNat + len
  let long := b2n (decide (8 < len))
  let s0 := s.onPu p (fun c => { c with shadow := false })
  let go (s : State) (cyc pc : Nat) : State := ((s.puCycles p cyc).onPu p (fun c => { c with pc := BitVec.ofNat 64 pc })).puNotice p
  if !s.dev.puRuns p then s
  else if c.skip then go (s0.onPu p (fun c => { c with skip := false })) 1 next
  else match s0.puFetch p len with
    | some (s1, f) => s1.puFault p f
    | none =>
      let (delay, s1) : Nat × State := match tw with
        | some _ => ((s0.dev.twiceDelay p).1, { s0 with dev := (s0.dev.twiceDelay p).2 })
        | none => (0, s0)
      let total := match tw with
        | some _ => 2 * (cycles + long) + delay + 1
        | none => cycles + long
      if (match tw with
          | some x => decide (x ≠ 0)
          | none => false) then s1.puFault p { cause := 0x30, twice := (tw.getD 0).toNat + 256 * delay }
      else match body s1 with
        | .seq s2 => go s2 total next
        | .jump s2 pc => go s2 total pc
        | .fault s2 f => s2.puFault p f
        | .interrupt s2 src => s2.puInterruptNow p src
        | .gone s2 => s2
        | .stay => s

/-- FETCH_FAULT: what a fetch of a core finds at its PC. -/
def State.fetchFault (s : State) (r : CoreRef) : State :=
  match r with
  | .lane n =>
    let c := s.dev.dh n
    if s.dev.dhRuns n && !c.skip && decide ((s.dev.lane n).code.length ≤ c.pc.toNat) then
      (s.onDh n (fun c => { c with shadow := false })).dhTake n { cause := 0x23, addr := c.pc.toNat }
    else s
  | .purser p =>
    if s.dev.puRuns p && !(s.dev.pu p).skip then
      match s.puFetch p 1 with
      | some (s1, f) => (s1.onPu p (fun c => { c with shadow := false })).puFault p f
      | none => s
    else s

/-- An instruction that only changes its purser's registers. -/
def State.puReg (s : State) (p len cycles : Nat) (tw : Twice) (f : PuCore → PuCore) : State :=
  s.purser p len cycles tw (fun s => .seq (s.onPu p f))

/-- An illegal instruction with a cause of R378. -/
def State.puIllegalAt (s : State) (p len cause : Nat) : State := s.purser p len 1 none (fun s => .fault s { cause := cause })

/-! ## Memory (R353, R359, R396–R399) -/

def puRam (a n : Nat) : Bool := decide (0x0300000000 ≤ a) && decide (a + n ≤ 0x0300C00000)

/-- The host window that an address lies in: function and PCIe address (R284). -/
def Dev.hostWindow (d : Dev) (a n : Nat) : Option (Nat × Nat) :=
  if a < 0x0800000000 || 0x1000000000 ≤ a then none
  else
    let pf := (a - 0x0800000000) / 0x2000000000
    let off := (a - 0x0800000000) % 0x2000000000
    if d.cfgN Od.hif_WINDOW_SIZE pf < off + n then none else some (pf, d.cfgN Od.hif_WINDOW_BASE pf + off)

/-- A 64-bit register access is possible in the big-number operand window alone; any other takes 32 bits (R359). -/
def regWide (off n : Nat) : Bool := n = 4 || (n = 8 && decide (0x810000 ≤ off) && decide (off + 8 ≤ 0x830000))

/-- Alignment, address range and access check of an access (R353, R359, R397); a denial is counted. `log2` is its width. -/
def State.puCheck (s : State) (p a log2 : Nat) (write block aligned : Bool) : Option (State × CoreFault) :=
  let n := 2 ^ log2
  if a % n ≠ 0 && (aligned || !puRam a n) then some (s, { cause := 0x10, addr := a, info := puInfo write false log2 block none })
  else if 2 ^ 40 < a + n then
    some (s.onDev (fun d => d.denied (puMaster p) { cause := 0x23, addr := a } write), { cause := 0x23, addr := a, info := puInfo write false log2 block none })
  else match acuCheck (s.dev.acu (puMaster p)).regions a (a + n - 1) (if write then .write else .read) (s.dev.pu p).task with
    | none => none
    | some x => some (s.onDev (fun d => d.denied (puMaster p) x write), { cause := x.cause, addr := x.addr, info := puInfo write false log2 block (some x) })

/-- Bytes of the flash window (R577, R578, R587): customer data and saves as they are stored, any other content a free value
(log entry 2). A sector that is being erased or is half-erased refuses (R581, R583). -/
def State.puFlash (s : State) (a n : Nat) : Sum Nat (Bytes × State) :=
  let sector := a / 16384
  let off := a % 16384
  if sector ∈ s.dev.fls.half || (saveAreaOf sector).any (fun k => decide (s.dev.man.area k = .erasing)) then .inl 0x28
  else if s.dev.sectorBad sector off n then .inl 0x29
  else if 1472 ≤ sector then .inr (s.dev.fls.read (sector - 1472) off n, s)
  else if (256 ≤ sector && sector < 512) || (768 ≤ sector && sector < 1024) then .inr (s.dev.fls.saved sector off n, s)
  else .inr ((s.dev.draw n).1, { s with dev := (s.dev.draw n).2 })

/-- What a target answers to a read: its bytes, or the cause that refuses it. Host memory is outside: what it holds is a free
value. -/
def State.puTarget (s : State) (a n : Nat) : Sum Nat (Bytes × State) :=
  if puRam a n || inPierBuffer a n then .inr (memRead s.mem a n, s)
  else if a + n ≤ 0x02000000 then s.puFlash a n
  else if 0x0400000000 ≤ a && a + n ≤ 0x0404000000 then
    (let off := a - 0x0400000000
     if !regWide off n then .inl 0x28
     else .inr (toLe 4 (s.dev.regRead 0 off) ++ (if n = 8 then toLe 4 (s.dev.regRead 0 (off + 4)) else []), s))
  else match s.dev.hostWindow a n with
    | some _ => .inr ((s.dev.draw n).1, { s with dev := (s.dev.draw n).2 })
    | none => .inl 0x28

/-- A load of a width (R357, R358). -/
def State.puLoad (s : State) (p a : Nat) (w : PuWidth) (block aligned : Bool) : Sum (State × CoreFault) (Nat × State) :=
  match s.puCheck p a w.log2 false block aligned with
  | some x => .inl x
  | none => match s.puTarget a w.bytes with
    | .inr (b, s1) => .inr (leNat b, s1)
    | .inl cause => .inl (s, { cause := cause, addr := a, info := puInfo false false w.log2 block none })

/-- What a target does with a write: none where it refuses it. -/
def State.puPut (s : State) (p a n v : Nat) : Option State :=
  if puRam a n || inPierBuffer a n then some { s with mem := memPut s.mem a n v }
  else if 0x0400000000 ≤ a && a + n ≤ 0x0404000000 then
    (let off := a - 0x0400000000
     let who := RegMaster.core (puUser p) (s.dev.pu p).task
     if !regWide off n then none
     else match s.dev.regWrite (memRead s.mem) who off (v % 2 ^ 32) with
       | (false, _) => none
       | (true, d) =>
         if n = 4 then some { s with dev := d }
         else match d.regWrite (memRead s.mem) who (off + 4) (v / 2 ^ 32) with
           | (false, _) => none
           | (true, d2) => some { s with dev := d2 })
  else match s.dev.hostWindow a n with
    | some (pf, pa) => some (s.onDev (fun d => d.emitPf pf (.dma pa (toLe n v))))
    | none => none

/-- A store of the low bytes of a value (R320, R399): a failure is precise in a STRICT region, and waits for its notice in
any other. -/
def State.puStore (s : State) (p a : Nat) (w : PuWidth) (v : Nat) (block aligned : Bool) : Sum (State × CoreFault) State :=
  match s.puCheck p a w.log2 true block aligned with
  | some x => .inl x
  | none => match s.puPut p a w.bytes (v % 2 ^ w.bits) with
    | some s1 => .inr s1
    | none =>
      if acuOrder (s.dev.acu (puMaster p)).regions a (a + w.bytes - 1) = 0 then
        .inl (s, { cause := 0x28, addr := a, info := puInfo true false w.log2 block none })
      else .inr (s.onPu p (fun c => { c with posted := c.posted ++ [(a, 0x2C)] }))

/-- Deliver the notices of the failed posted stores of a purser, oldest first (R391). -/
def Dev.puDeliver (d : Dev) (p : Nat) : Dev :=
  let l := (d.pu p).posted
  l.foldl (fun y e => y.coreNotice (puMaster p) e.1 e.2 (fun z => z.onPu p (fun c => { c with notice := true })))
    (d.onPu p (fun c => { c with posted := [] }))

/-- IMPRECISE_NOTICE: a failed posted write of a master is reported: the oldest one that waits, or one with its address and
cause (R391, R400). -/
def Dev.impreciseNotice (d : Dev) (m : Nat) (fail : Option (Nat × Nat)) : Dev :=
  if m < 136 then
    let n := 8 * (d.pier (m / 8)).logical + m % 8
    if 16 ≤ (d.pier (m / 8)).logical then d
    else
      let pend (z : Dev) : Dev := z.setDh n { z.dh n with notice := true }
      match fail, (d.dh n).posted with
      | some (a, c), _ => d.coreNotice m a c pend
      | none, (a, c) :: t => (d.setDh n { d.dh n with posted := t }).coreNotice m a c pend
      | none, [] => d
  else if m < 140 then
    let p := m - 136
    let pend (z : Dev) : Dev := z.onPu p (fun c => { c with notice := true })
    match fail, (d.pu p).posted with
    | some (a, c), _ => d.coreNotice m a c pend
    | none, (a, c) :: t => (d.onPu p (fun x => { x with posted := t })).coreNotice m a c pend
    | none, [] => d
  else match fail with
    | some (a, c) => d.noteImprecise m a c
    | none => d

/-- Cycles of a load by its target (R370). -/
def puLoadCycles (p a : Nat) : Nat :=
  if 0x0300000000 + 0x100000 * p ≤ a && a < 0x0300000000 + 0x100000 * (p + 1) then 2
  else if puRam a 1 then 5
  else if inPierBuffer a 1 then 20
  else if 0x0400000000 ≤ a && a < 0x0404000000 then 40
  else 60

end Sys2Proof.Machine
end

