-- ==== Sys2Proof/Machine/PuUnits.lean ====
section
/-!
DEFINITION. The meanings of a purser's instructions (R357–R368).
-/
namespace Sys2Proof.Machine

/-! ## Arithmetic (R357, R358, R362) -/

/-- A register operation at a width. -/
def PuCore.alu (op : AluOp) (w : PuWidth) (r s : Fin 16) (c : PuCore) : PuCore :=
  let b := c.low s w
  let o := aluDo op w.bits (c.low r w) b (b % w.bits) c.cond
  let c1 := c.setCond o.2
  if op.writes then c1.put r o.1 else c1

def State.puAlu (s : State) (p : Nat) (x : PuPre) (op : AluOp) (r src : Fin 16) : State :=
  s.puReg p (2 + x.len) 1 x.twice (PuCore.alu op x.w r src)

/-- An operation on an immediate. -/
def PuCore.alui (op : AluOp) (w : PuWidth) (r : Fin 16) (imm : Int) (c : PuCore) : PuCore :=
  let o := aluDo op w.bits (c.low r w) (patternOf w.bits imm) 0 c.cond
  let c1 := c.setCond o.2
  if op.writes then c1.put r o.1 else c1

/-- Immediate forms: an immediate of 8 bytes is reserved but for MOVI, and one wider than the width is illegal (R356). -/
def State.puAlui (s : State) (p : Nat) (x : PuPre) (op : AluOp) (r : Fin 16) (imm : PuImm) : State :=
  s.purser p (2 + x.len + imm.bytes) 1 x.twice (fun s =>
    if imm.bytes = 8 && decide (op ≠ .mov) then .fault s { cause := 0x01 }
    else if x.w.bytes < imm.bytes then .fault s { cause := 0x04 }
    else .seq (s.onPu p (PuCore.alui op x.w r imm.val)))

/-- A shift by an immediate, which must be below the width (R357). -/
def State.puShift (s : State) (p : Nat) (x : PuPre) (op : AluOp) (r : Fin 16) (imm : BitVec 8) : State :=
  s.purser p (3 + x.len) 1 x.twice (fun s =>
    if x.w.bits ≤ imm.toNat then .fault s { cause := 0x04 }
    else .seq (s.onPu p (fun c =>
      let o := aluDo op x.w.bits (c.low r x.w) 0 imm.toNat c.cond
      (c.setCond o.2).put r o.1)))

/-- NEG and NOT. -/
def PuCore.neg (w : PuWidth) (r : Fin 16) (c : PuCore) : PuCore :=
  let o := aluSub w.bits 0 (c.low r w) 0
  (c.setCond o.2).put r o.1

def PuCore.inv (w : PuWidth) (r : Fin 16) (c : PuCore) : PuCore :=
  let o := aluLogic w.bits (2 ^ w.bits - 1 - c.low r w) c.cond
  (c.setCond o.2).put r o.1

/-- MULU and MULS issue a product (R362). -/
def PuCore.mul (signed : Bool) (w : PuWidth) (r s : Fin 16) (c : PuCore) : PuCore :=
  { c with products := c.products ++ [BitVec.ofNat 128 (productOf signed w.bits 128 (c.low r w) (c.low s w))] }

/-! ## Escape operations (R357) -/

/-- Leading zeros at a width. -/
def clzOf : Nat → Nat → Nat
  | 0, _ => 0
  | k + 1, v => if bitOf v k then 0 else 1 + clzOf k v

def popcOf (n v : Nat) : Nat := (List.range n).foldl (fun a i => a + b2n (bitOf v i)) 0

def PuCore.bswap (w : PuWidth) (r : Fin 16) (c : PuCore) : PuCore := c.put r (leNat (toBe w.bytes (c.low r w)))

def PuCore.clz (w : PuWidth) (r s : Fin 16) (c : PuCore) : PuCore := c.put r (clzOf w.bits (c.low s w))

def PuCore.popc (w : PuWidth) (r s : Fin 16) (c : PuCore) : PuCore := c.put r (popcOf w.bits (c.low s w))

def PuCore.selz (w : PuWidth) (r s : Fin 16) (c : PuCore) : PuCore := if c.z then c.put r (c.low s w) else c

def PuCore.sext (w : PuWidth) (r s : Fin 16) (c : PuCore) : PuCore := c.put r (patternOf 64 (signedOf w.bits (c.low s w)))

def PuCore.zext (w : PuWidth) (r s : Fin 16) (c : PuCore) : PuCore := c.put r (c.low s w)

/-- RND: it waits until the random bit generator has output (R357, R370); a failed generator answers with a bus error
(R466). -/
def State.puRnd (s : State) (p : Nat) (r : Fin 16) : State :=
  s.purser p 3 40 none (fun s =>
    match s.dev.cry.rng.state with
    | .starting => .stay
    | .failed => .fault s { cause := 0x28, info := puInfo false false 3 false none }
    | _ =>
      let (k, d) := (s.dev.rngRequest p).take
      .seq ({ s with dev := d }.onPu p (fun c => { c with x := c.x.set r (Config.freeWord k) })))

/-- SNAP: seconds to Xd, nanoseconds and fraction to TSNAP. -/
def PuCore.snap (r : Fin 16) (now : Ticks) (c : PuCore) : PuCore :=
  let b := timeLe now
  { c.put r (leAt b 6 6) with tsnap := BitVec.ofNat 64 (leAt b 0 6) }

/-! ## Memory operations (R357–R359, R365) -/

/-- Prefix bytes of LD and ST beside the width, their TWICE prefix, and whether they are atomic. -/
def PuMem.len : PuMem → Nat
  | .plain => 0
  | _ => 1

def PuMem.tw : PuMem → Twice
  | .twice x => some x
  | _ => none

def PuMem.isAtom : PuMem → Bool
  | .atom => true
  | _ => false

/-- An ATOM instruction is a FENCE before and after itself, and its address lies in purser RAM or a pier buffer (R365). -/
def State.puAtom (s : State) (p a : Nat) (w : PuWidth) (atom write : Bool) (body : State → PuEnd) : PuEnd :=
  if !atom then body s
  else
    let s0 := s.onDev (fun d => d.puDeliver p)
    match s0.puCheck p a w.log2 write false true with
    | some (s1, f) => .fault s1 f
    | none =>
      if puRam a w.bytes || inPierBuffer a w.bytes then body s0
      else .fault s0 { cause := 0x28, addr := a, info := puInfo write false w.log2 false none }

def State.puLd (s : State) (p : Nat) (w : PuWidth) (m : PuMem) (signed : Bool) (r b : Fin 16) (x : Disp) : State :=
  let a := (s.dev.pu p).ea b x
  s.purser p (2 + w.pre + m.len + x.bytes) (puLoadCycles p a) m.tw (fun s =>
    if signed && m.isAtom then .fault s { cause := 0x02 } else s.puAtom p a w m.isAtom false (fun s =>
      match s.puLoad p a w false m.isAtom with
      | .inl (s1, f) => .fault s1 f
      | .inr (v, s1) => .seq (s1.onPu p (fun c => c.put r (if signed then patternOf 64 (signedOf w.bits v) else v)))))

def State.puSt (s : State) (p : Nat) (w : PuWidth) (m : PuMem) (r b : Fin 16) (x : Disp) : State :=
  let a := (s.dev.pu p).ea b x
  s.purser p (2 + w.pre + m.len + x.bytes) 1 m.tw (fun s =>
    s.puAtom p a w m.isAtom true (fun s =>
      match s.puStore p a w ((s.dev.pu p).low r w) false m.isAtom with
      | .inl (s1, f) => .fault s1 f
      | .inr s1 => .seq s1))

/-- LEA, at the operation width. -/
def PuCore.lea (w : PuWidth) (r b : Fin 16) (x : Disp) (c : PuCore) : PuCore := c.put r (c.ea b x % 2 ^ w.bits)

/-- A read-modify-write: `f` gives from the core and what memory holds the value to write, if any, and the core after. -/
def State.puRmw (s : State) (p : Nat) (w : PuWidth) (atom : Bool) (b : Fin 16) (x : Disp)
    (f : PuCore → Nat → Option Nat × PuCore) : State :=
  let a := (s.dev.pu p).ea b x
  s.purser p (2 + w.pre + b2n atom + x.bytes) (puLoadCycles p a + 2 + 4 * b2n atom) none (fun s =>
    s.puAtom p a w atom true (fun s =>
      match s.puLoad p a w false atom with
      | .inl (s1, g) => .fault s1 g
      | .inr (v, s1) =>
        let (o, c) := f (s1.dev.pu p) v
        match o with
        | none => .seq (s1.onPu p (fun _ => c))
        | some y => match s1.puStore p a w y false atom with
          | .inl (s2, g) => .fault s2 g
          | .inr s2 => .seq (s2.onPu p (fun z => { c with posted := z.posted }))))

/-- MADD, MAND, MOR, MXOR: flags from the result. -/
def PuCore.memOp (op : AluOp) (w : PuWidth) (r : Fin 16) (c : PuCore) (v : Nat) : Option Nat × PuCore :=
  let o := aluDo op w.bits v (c.low r w) 0 c.cond
  (some o.1, c.setCond o.2)

def PuCore.xchg (w : PuWidth) (r : Fin 16) (c : PuCore) (v : Nat) : Option Nat × PuCore := (some (c.low r w), c.put r v)

def PuCore.cas (w : PuWidth) (r : Fin 16) (c : PuCore) (v : Nat) : Option Nat × PuCore :=
  if v = c.low 0 w then (some (c.low r w), { c with z := true }) else (none, { c.put 0 v with z := false })

/-! ## Control (R357, R360, R361) -/

def PuRel.bytes : PuRel → Nat
  | .r1 _ => 1
  | .r4 _ => 4

def PuRel.val : PuRel → Int
  | .r1 v => v.toInt
  | .r4 v => v.toInt

/-- The address of the next instruction. -/
def PuCore.next (c : PuCore) (len : Nat) : Nat := (c.pc.toNat + len) % 2 ^ 64

def State.puBr (s : State) (p : Nat) (tw : Twice) (rel : PuRel) : State :=
  let len := 1 + b2n tw.isSome + rel.bytes
  s.purser p len 3 tw (fun s => .jump s (patternOf 64 ((s.dev.pu p).next len + rel.val)))

/-- Push a value on a stack register, which must be 8-byte aligned; the value is taken after the register has moved. -/
def State.puPush (s : State) (p : Nat) (st : Fin 16) (value : PuCore → Nat) : Sum (State × CoreFault) State :=
  let a := (s.dev.pu p).get st
  if a % 8 ≠ 0 then .inl (s, { cause := 0x10, addr := a, info := puInfo true false 3 false none })
  else
    let c := (s.dev.pu p).put st ((a + 2 ^ 64 - 8) % 2 ^ 64)
    match s.puStore p ((a + 2 ^ 64 - 8) % 2 ^ 64) .w64 (value c) false false with
    | .inl x => .inl x
    | .inr s1 => .inr (s1.onPu p (fun y => y.put st ((a + 2 ^ 64 - 8) % 2 ^ 64)))

/-- Read the top of a stack register, which must be 8-byte aligned. -/
def State.puTop (s : State) (p : Nat) (st : Fin 16) : Sum (State × CoreFault) (Nat × State) :=
  let a := (s.dev.pu p).get st
  if a % 8 ≠ 0 then .inl (s, { cause := 0x10, addr := a, info := puInfo false false 3 false none }) else s.puLoad p a .w64 false false

/-- The stack register moves up. -/
def PuCore.popped (st : Fin 16) (c : PuCore) : PuCore := c.put st ((c.get st + 8) % 2 ^ 64)

def State.puCall (s : State) (p : Nat) (tw : Twice) (st : Fin 16) (rel : BitVec 32) : State :=
  let len := 6 + b2n tw.isSome
  s.purser p len 3 tw (fun s =>
    let nx := (s.dev.pu p).next len
    match s.puPush p st (fun _ => nx) with
    | .inl (s1, f) => .fault s1 f
    | .inr s1 => .jump s1 (patternOf 64 (nx + rel.toInt)))

def State.puJr (s : State) (p : Nat) (tw : Twice) (r : Fin 16) : State :=
  s.purser p (2 + b2n tw.isSome) 3 tw (fun s => .jump s ((s.dev.pu p).get r))

def State.puCallr (s : State) (p : Nat) (tw : Twice) (r st : Fin 16) : State :=
  let len := 2 + b2n tw.isSome
  s.purser p len 3 tw (fun s =>
    match s.puPush p st (fun c => c.next len) with
    | .inl (s1, f) => .fault s1 f
    | .inr s1 => .jump s1 ((s1.dev.pu p).get r))

def State.puRet (s : State) (p : Nat) (tw : Twice) (st : Fin 16) : State :=
  s.purser p (2 + b2n tw.isSome) 3 tw (fun s =>
    match s.puTop p st with
    | .inl (s1, f) => .fault s1 f
    | .inr (v, s1) => .jump (s1.onPu p (PuCore.popped st)) v)

def State.puPushI (s : State) (p : Nat) (r st : Fin 16) : State :=
  s.purser p 2 1 none (fun s =>
    match s.puPush p st (fun c => c.get r) with
    | .inl (s1, f) => .fault s1 f
    | .inr s1 => .seq s1)

def State.puPopI (s : State) (p : Nat) (r st : Fin 16) : State :=
  s.purser p 2 2 none (fun s =>
    match s.puTop p st with
    | .inl (s1, f) => .fault s1 f
    | .inr (v, s1) => .seq (s1.onPu p (fun c => (c.put r v).popped st)))

/-- SKcc: a purser has no EVP, so what EV asks is a free value. -/
def State.puSkip (s : State) (p : Nat) (tw : Twice) (cc : Fin 16) : State :=
  s.purser p (1 + b2n tw.isSome) 1 tw (fun s =>
    let (k, d) := s.dev.take
    let s1 := if cc = 14 then { s with dev := d } else s
    .seq (s1.onPu p (fun c => { c with skip := c.cond.holds (Config.freeBool k) cc, shadow := true })))

/-! ## Special registers and modes (R350, R351, R366–R368) -/

def State.puMfs (s : State) (p : Nat) (tw : Twice) (r sr : Fin 16) : State :=
  s.puReg p (2 + b2n tw.isSome) 1 tw (fun c => c.put r (c.mfs p sr))

/-- MTS of a register that takes writes. In task mode FLAGS takes bits [3:0] only, and a value that would change IE is a
write to FLAGS.IE (R350, R367). -/
def State.puMts (s : State) (p : Nat) (sr r : Fin 16) : State :=
  s.purser p 2 1 none (fun s =>
    let c := s.dev.pu p
    let v := c.get r
    let bad : PuEnd := .fault s { cause := 0x03 }
    let ok (f : PuCore → PuCore) : PuEnd := .seq (s.onPu p f)
    match sr.val with
    | 0 =>
      if c.task && bitOf v 4 != c.ie then bad
      else ok (fun c => { c with c := bitOf v 0, z := bitOf v 1, n := bitOf v 2, v := bitOf v 3, ie := if c.task then c.ie else bitOf v 4 })
    | 1 => ok (fun c => { c with pl := BitVec.ofNat 64 v })
    | 2 => ok (fun c => { c with ph := BitVec.ofNat 64 v })
    | 3 => if c.task then bad else ok (fun c => { c with tsbp := BitVec.ofNat 64 v })
    | 6 => if c.task then bad else ok (fun c => { c with kwin := BitVec.ofNat 64 (v % 8192) })
    | _ => bad)

/-- WAIT (R357): fetching stops until an interrupt is pending. -/
def State.puWait (s : State) (p : Nat) : State :=
  s.purser p 1 1 none (fun s => .seq (s.onPu p (fun c => { c with waiting := true })))

/-- FENCE: every notice for earlier stores is pending when it completes (R391). -/
def State.puFence (s : State) (p : Nat) : State := s.purser p 1 2 none (fun s => .seq (s.onDev (fun d => d.puDeliver p)))

/-- The fault of TRET or TSW on a TSB address that is not valid (R369, R379). -/
def tsbFault (a : Nat) : CoreFault :=
  { cause := if 2 ^ 40 < a + 256 then 0x23 else if a % 16 ≠ 0 then 0x10 else 0x20, addr := a, info := puInfo false false 3 false none }

/-- Resume the context of a TSB. -/
def State.puResume (s : State) (p a : Nat) : PuEnd :=
  let b := memRead s.mem a 256
  let s1 := s.onPu p (fun c => { c.drained.load b with tsbp := BitVec.ofNat 64 a, handler := false })
  .jump s1 (s1.dev.pu p).pc.toNat

/-- TRET (R367, R368, R387). -/
def State.puTret (s : State) (p : Nat) : State :=
  s.purser p 1 24 none (fun s =>
    let c := s.dev.pu p
    let a := c.tsbp.toNat
    if c.task then .fault s { cause := 0x03 }
    else if s.dev.puTsbOk p a then s.puResume p a
    else .fault s (tsbFault a))

/-- TSW (R367, R368, R388): the running state is saved with the PC after it, but in handler state. -/
def State.puTsw (s : State) (p : Nat) (r : Fin 16) : State :=
  s.purser p 2 48 none (fun s =>
    let c := s.dev.pu p
    let a := c.get r
    let old := c.tsbp.toNat
    if c.task then .fault s { cause := 0x03 }
    else if !s.dev.puTsbOk p a then .fault s (tsbFault a)
    else if c.handler then s.puResume p a
    else if !s.dev.puTsbOk p old then .fault s (tsbFault old)
    else
      let saved := { c.drained with pc := BitVec.ofNat 64 (c.next 2) }
      { s with mem := memWrite s.mem old (puTsb saved { cause := 0 } 0 0) }.puResume p a)

/-! ## Block operations (R363) -/

/-- Advance the address registers by an element. -/
def PuCore.adv (w : PuWidth) (src dst : Bool) (c : PuCore) : PuCore :=
  let step (v : Word64) : Word64 := v + BitVec.ofNat 64 w.bytes
  let c1 := if src then { c with x := c.x.set 13 (step c.x[13]) } else c
  if dst then { c1 with x := c1.x.set 14 (step c1.x[14]) } else c1

/-- Element by element until X12 is 0, an element ends it, or an interrupt is taken after `upTo` elements. -/
def puBlockFuel (p : Nat) (step : State → BlockStep) (done : State → State) : Nat → Option (Nat × Nat) → State → PuEnd
  | 0, _, s => .seq (done s)
  | k + 1, upTo, s =>
    let c := s.dev.pu p
    if c.get 12 = 0 then .seq (done s)
    else match upTo, c.ie && !c.handler with
      | some (0, src), true => .interrupt s src
      | _, _ => match step s with
        | .more s1 => puBlockFuel p step done k (upTo.map (fun u => (u.1 - 1, u.2))) (s1.onPu p (fun c => c.put 12 (c.get 12 - 1)))
        | .last s1 => .seq s1
        | .fault s1 f => .fault s1 f

/-- Cycles of a block operation (R370). -/
def puBlockCycles (c : PuCore) (x : PuRep) (per : Nat) (src dst : Bool) : Nat :=
  let bytes := (if x.rep then c.get 12 else 1) * x.w.bytes
  2 + (bytes + per - 1) / per + (if (src && inPierBuffer (c.get 13) 1) || (dst && inPierBuffer (c.get 14) 1) then 20 else 0)

/-- A block operation: `step` is one element, `done` the flags when no element is left, `src` and `dst` the address registers
it moves. Without REP the one element is passed whatever it finds. -/
def State.puBlock (s : State) (p : Nat) (x : PuRep) (len per : Nat) (src dst : Bool) (step : State → BlockStep) (done : State → State) : State :=
  let c := s.dev.pu p
  let u := if c.shadow then none else x.upTo.map (fun e => (e.1, e.2.val))
  s.purser p (len + x.w.pre + b2n x.rep) (puBlockCycles c x per src dst) none (fun s =>
    if x.rep then puBlockFuel p step done ((s.dev.pu p).get 12 + 1) u s
    else match step s with
      | .more s1 => .seq (done s1)
      | .last s1 => .seq (s1.onPu p (PuCore.adv x.w src dst))
      | .fault s1 f => .fault s1 f)

def puMovsStep (p : Nat) (w : PuWidth) (s : State) : BlockStep :=
  let c := s.dev.pu p
  match s.puLoad p (c.get 13) w true false with
  | .inl (s1, f) => .fault s1 f
  | .inr (v, s1) => match s1.puStore p (c.get 14) w v true false with
    | .inl (s2, f) => .fault s2 f
    | .inr s2 => .more (s2.onPu p (PuCore.adv w true true))

def puFilsStep (p : Nat) (w : PuWidth) (s : State) : BlockStep :=
  let c := s.dev.pu p
  match s.puStore p (c.get 14) w (c.low 0 w) true false with
  | .inl (s1, f) => .fault s1 f
  | .inr s1 => .more (s1.onPu p (PuCore.adv w false true))

/-- CMPS: at a difference Z clears and C tells the order of source and destination. -/
def puCmpsStep (p : Nat) (w : PuWidth) (s : State) : BlockStep :=
  let c := s.dev.pu p
  match s.puLoad p (c.get 13) w true false with
  | .inl (s1, f) => .fault s1 f
  | .inr (a, s1) => match s1.puLoad p (c.get 14) w true false with
    | .inl (s2, f) => .fault s2 f
    | .inr (b, s2) =>
      if a = b then .more (s2.onPu p (PuCore.adv w true true))
      else .last (s2.onPu p (fun c => { c with z := false, c := decide (b ≤ a) }))

def puScnsStep (p : Nat) (w : PuWidth) (s : State) : BlockStep :=
  let c := s.dev.pu p
  match s.puLoad p (c.get 13) w true false with
  | .inl (s1, f) => .fault s1 f
  | .inr (a, s1) =>
    if a = c.low 0 w then .last (s1.onPu p (fun c => { c with z := true }))
    else .more (s1.onPu p (PuCore.adv w true false))

/-- CRCS: the bytes of an element into the CRC in Xd. -/
def puCrcsStep (p : Nat) (w : PuWidth) (r : Fin 16) (s : State) : BlockStep :=
  let c := s.dev.pu p
  match s.puLoad p (c.get 13) w true false with
  | .inl (s1, f) => .fault s1 f
  | .inr (a, s1) => .more (s1.onPu p (fun c =>
      (c.put r ((toLe w.bytes a).foldl (crcByte polyC) (BitVec.ofNat 32 (c.get r))).toNat).adv w true false))

/-- Z after a block operation. -/
def State.puZ (s : State) (p : Nat) (z : Bool) : State := s.onPu p (fun c => { c with z := z })

/-! ## KEYWIN (R366) -/

def Dev.setKeySlot (d : Dev) (n : Nat) (x : KeySlot) : Dev := { d with cry.keys.slots := d.cry.keys.slots.put {} n x }

/-- The element at which a move over its memory operands first fails. -/
def State.puMoveCheck (s : State) (p : Nat) (w : PuWidth) (a n : Nat) (write : Bool) : Option (Nat × State × CoreFault) :=
  (List.range n).findSome? (fun i => (s.puCheck p ((a + i * w.bytes) % 2 ^ 64) w.log2 write true false).map (fun x => (i, x)))

/-- Key bytes reach a key port: a cipher core's key registers, the HMAC key port or a big-number operand slot; none where the
port refuses them. -/
def Dev.keyPort (d : Dev) (p a keyh limit : Nat) (b : Bytes) : Option Dev :=
  if a = Config.hmacPort then some { d with cry.hash.ports := d.cry.hash.ports.ins p (keyh, b) }
  else if 0x0400700000 ≤ a && a < 0x0400744000 then
    (let c := (a - 0x0400700000) / 0x1000
     let off := (a - 0x0400700000) % 0x1000
     let x := d.core c
     let regs := overlayB x.keyRegs (off - 0x80) b
     let last := if x.key256 then 32 else 16
     if off < 0x80 || 0xA0 < off + b.length || x.user ≠ puUser p || x.closing || x.releasing then none
     else
       let d1 := d.setCore c { x with keyRegs := regs }
       some (if off - 0x80 < last && last ≤ off - 0x80 + b.length then d1.keyLoaded c (some (regs.take last)) 3 keyh limit else d1))
  else if 0x0400810000 ≤ a && a < 0x0400830000 then
    (match d.bgn.slots.find? (fun e => slotValid e.2 && slotBase e.2 == a - 0x0400810000) with
     | some (s, _) =>
       if d.bgn.user ≠ puUser p then none
       else match d.loadOperand s keyh with
         | .inr d1 => some d1
         | .inl _ => none
     | none => none)
  else none

/-- What a fault leaves of a port or slot that has been written in part. -/
def Dev.keyPortZero (d : Dev) (p a : Nat) : Dev :=
  if a = Config.hmacPort then { d with cry.hash.ports := d.cry.hash.ports.del p }
  else if 0x0400700000 ≤ a && a < 0x0400744000 then
    (let c := (a - 0x0400700000) / 0x1000
     d.setCore c { d.core c with keyRegs := List.replicate 32 0 })
  else d

/-- KEYWIN REP MOVS: it is not interruptible, and moves whole or not at all. -/
def State.puKeywin (s : State) (p : Nat) (w : PuWidth) : State :=
  let c0 := s.dev.pu p
  let bytes := c0.get 12 * w.bytes
  s.purser p (3 + w.pre) (20 + (bytes + 7) / 8) none (fun s =>
    let c := s.dev.pu p
    let n := c.get 12
    let src := c.get 13
    let dst := c.get 14
    let slot := c.kwin.toNat % 4096
    let k := s.dev.keySlot slot
    let toPort := !bitOf c.kwin.toNat 12
    let moved (s : State) : PuEnd := .seq (s.onPu p (fun c =>
      ((c.put 12 0).put 13 ((src + bytes) % 2 ^ 64)).put 14 ((dst + bytes) % 2 ^ 64)))
    let refused (cause a : Nat) : PuEnd := .fault s { cause := cause, addr := a, info := puInfo toPort false w.log2 true none }
    if c.task then .fault s { cause := 0x03 }
    else if 512 < bytes then .fault s { cause := 0x02 }
    else if n = 0 then .seq s
    else if (s.dev.keyUse (keyhOf slot k) [6] .firmware).isNone then
      (let a := if toPort then src else dst
       .fault (s.onDev (fun d => d.denied (puMaster p) { cause := 0x24, addr := a } toPort)) { cause := 0x24, addr := a, info := puInfo toPort false w.log2 true none })
    else if toPort then
      match s.puMoveCheck p w dst n true with
      | some (i, s1, f) => .fault (if i = 0 then s1 else s1.onDev (fun d => d.keyPortZero p dst)) f
      | none =>
        if k.key.length < src + bytes then refused 0x28 src
        else match s.dev.keyPort p dst (keyhOf slot k) k.useLimit (sliceB k.key src bytes) with
          | some d => moved { s with dev := d }
          | none => refused 0x28 dst
    else
      match s.puMoveCheck p w src n false with
      | some (i, s1, f) =>
        .fault (if i = 0 then s1 else s1.onDev (fun d => d.setKeySlot slot { k with key := List.replicate k.key.length 0 })) f
      | none =>
        if !puRam src bytes || k.key.length < dst + bytes then refused 0x28 dst
        else moved (s.onDev (fun d => d.setKeySlot slot { k with key := overlayB k.key dst (memRead s.mem src bytes) })))

/-- MOVS: `keywin` is the KEYWIN prefix, which only REP MOVS takes (R355, R366). -/
def State.puMovs (s : State) (p : Nat) (x : PuRep) (keywin : Bool) : State :=
  if keywin then (if x.rep then s.puKeywin p x.w else s.puIllegalAt p (2 + x.w.pre) 0x02)
  else s.puBlock p x 1 16 true true (puMovsStep p x.w) id

/-! ## Services (R374) -/

/-- SVC: in a customer task resident firmware serves it; its answer may change the context, and what follows is given. In any
other context it is the service-call exception (R368). -/
def State.puSvc (s : State) (p imm : Nat) (serve : Nat → State → State) : State :=
  s.purser p 2 40 none (fun s =>
    let c := s.dev.pu p
    let after := c.next 2
    match c.running with
    | none => .gone (s.puTake p { cause := 0x40, imm := imm } after)
    | some k => .gone (serve k (((s.puCycles p 40).onPu p (fun c => { c with pc := BitVec.ofNat 64 after })).onDev (fun d =>
        d.bump Od.exc_EXCEPTIONS (puMaster p)))))

/-- What a service returns: X0 where it has a result, and Z (R374). -/
def State.svcReturn (s : State) (p : Nat) (x0 : Option Nat) (fail : Bool) : State :=
  s.onPu p (fun c => { (match x0 with
    | some v => c.put 0 v
    | none => c) with z := fail })

/-- The TSB of a task that goes on holds the call's cause (R381). -/
def State.svcResume (s : State) (p k imm : Nat) : State :=
  { s with mem := memWrite s.mem (s.dev.task k).tsb (puTsb (s.dev.pu p).drained { cause := 0x40, imm := imm } 5 0) }.onPu p PuCore.drained

def State.svcYield (s : State) (p : Nat) : State :=
  s.puSvc p 0 (fun k s => ((s.svcReturn p none false).taskLeave p k .ready { cause := 0x40 }).schedule p)

def State.svcExit (s : State) (p : Nat) : State :=
  s.puSvc p 1 (fun k s =>
    let code := (s.dev.pu p).get 0
    ((s.taskLeave p k .stopped { cause := 0x40, imm := 1 }).onDev (fun d =>
      (d.set Od.tst_EXIT_CODE k code).raise (192 + p) 0x12 k [(code : Int)])).schedule p)

/-- WAIT: a timeout of 0 or a mark that is up already ends it at once. -/
def State.svcWait (s : State) (p : Nat) : State :=
  s.puSvc p 2 (fun k s =>
    let c := s.dev.pu p
    let mask := c.get 0 % 8
    let until_ := s.dev.now + signedOf 64 (c.get 1)
    let x := s.dev.task k
    let up := x.signalled &&& mask
    if up ≠ 0 then
      let bit := if bitOf up 1 then 2 else 4
      ((s.onDev (fun d => d.onTask k (fun y => { y with signalled := y.signalled - bit }))).svcReturn p (some bit) false).svcResume p k 2
    else if bitOf mask 0 && decide (until_ ≤ s.dev.now) then (s.svcReturn p (some 1) false).svcResume p k 2
    else
      ((s.onDev (fun d => d.onTask k (fun y => { y with waitMask := mask, waitUntil := until_ }))).taskLeave p k .waiting { cause := 0x40, imm := 2 }).schedule p)

/-- A WAIT ends: X0 of the saved context takes the bit, Z clears, and the task is READY. -/
def State.endWait (s : State) (k bit : Nat) : State :=
  let x := s.dev.task k
  let f := memNat s.mem (x.tsb + 136) 8
  let m := memPut (memPut s.mem x.tsb 8 bit) (x.tsb + 136) 8 (f - (if bitOf f 1 then 2 else 0))
  ({ s with mem := m }.onDev (fun d => d.onTask k (fun y => { y with state := .ready, waitMask := 0 }))).schedule x.purser

/-- SVC_WAIT_TIMEOUT. -/
def State.waitTimeout (s : State) (k : Nat) : State :=
  let x := s.dev.task k
  if x.state = .waiting && bitOf x.waitMask 0 && decide (x.waitUntil ≤ s.dev.now) && !s.dev.flt.chipSafe then s.endWait k 1 else s

/-- A notification reaches a task (R267, R374): it ends its WAIT, or is kept for the next one. -/
def State.taskNotified (s : State) (k : Nat) : State :=
  let x := s.dev.task k
  if x.state = .waiting && bitOf x.waitMask 1 then s.endWait k 2
  else s.onDev (fun d => d.onTask k (fun y => if y.state = .off then y else { y with signalled := y.signalled ||| 2 }))

/-- SIGNAL_LANE: EVP.SOFT of a lane listed in LANES. -/
def State.svcSignalLane (s : State) (p : Nat) : State :=
  s.puSvc p 4 (fun k s =>
    let n := (s.dev.pu p).get 0
    let listed := (List.range 4).any (fun i => s.dev.cfgAt Od.tsk_LANES i k = (n : Int))
    if n < 128 && listed then
      ((s.onDev (fun d => d.onLane n (fun x => { x with soft := true }))).svcReturn p none false).svcResume p k 4
    else (s.svcReturn p none true).svcResume p k 4)

/-- TASK_EVENT. -/
def State.svcTaskEvent (s : State) (p : Nat) : State :=
  s.puSvc p 5 (fun k s =>
    let v := (s.dev.pu p).get 0
    ((s.onDev (fun d => d.raise (192 + p) 0x110 k [((v % 2 ^ 32 : Nat) : Int), ((v / 2 ^ 32 : Nat) : Int)])).svcReturn p none false).svcResume p k 5)

/-- RANDOM: 1 to 256 bytes into memory that the task may write, from the client of its purser's tasks (R466). -/
def State.svcRandom (s : State) (p : Nat) : State :=
  s.puSvc p 6 (fun k s =>
    let c := s.dev.pu p
    let a := c.get 0
    let n := c.get 1
    let ok := decide (1 ≤ n ∧ n ≤ 256) && (puRam a n || inPierBuffer a n) && s.dev.cry.rng.state != .failed &&
      (acuCheck (s.dev.acu (puMaster p)).regions a (a + n - 1) .write true).isNone
    if ok then
      let (b, d) := s.dev.drawFrom (27 + p) n
      ({ s with dev := d, mem := memWrite s.mem a b }.svcReturn p none false).svcResume p k 6
    else (s.svcReturn p none true).svcResume p k 6)

/-- A code that is no service ends the task FAULTED. -/
def State.svcOther (s : State) (p : Nat) (code : Nat) : State :=
  s.puSvc p code (fun k s => if code ≤ 6 then s else s.taskFaulted p k { cause := 0x40, imm := code })

end Sys2Proof.Machine
end

