-- ==== Sys2Proof/Machine/OapOps.lean ====
section
/-!
DEFINITION. The operations of the Object Access Protocol: requests by carrier, READ, WRITE, SUBSCRIBE, ACTIVATE, ABORT,
notifications, the mailbox, and the tasks' OAP service (R258–R267, R299, R374).
-/
namespace Sys2Proof.Machine

/-- A request as it is executed: who asks, its REQUEST_ID, the requester's role, COUNT, the body, and the room for the
response's body. -/
structure OapAsk where
  req : Nat
  id : Nat
  role : Role
  count : Nat
  body : Bytes
  room : Nat
deriving DecidableEq, Repr

/-- The first status of a list that is not OK. -/
def firstBad (l : List Nat) : Nat := (l.find? (fun n => n ≠ 0)).getD 0

def oapRefuse (status : Nat) : OapReply := { status := status }

/-! ## READ (R262, R263) -/

/-- A read of NONCE issues a nonce (R485). -/
def Dev.issueNonce (d : Dev) (role : Role) (index sub : Nat) : Dev :=
  if index = 0x1100 && (sub = 4 || sub = 0) && d.accessStatus role false Od.lcy_NONCE 4 0 = 0 then { d.lcNonce false with out := d.out } else d

def Dev.oapRead (d : Dev) (a : OapAsk) : OapReply × Dev :=
  match addrEntriesOf a.count a.body with
  | none => (oapRefuse 12, d)
  | some l =>
    let d1 := l.foldl (fun y e => y.issueNonce a.role e.index e.sub) d
    let r := l.map (fun e => d1.readObject a.role e.addr e.off e.len)
    (oapEntries a.room (firstBad (r.map (fun x => x.1))) (r.map readEntry), d1)

/-- The subindices of an index that are listed. -/
def listedSubs (index : Nat) : List Nat := ((List.range 255).map (fun k => k + 1)).filter (fun s => (rowOf index s).isSome)

/-- READ_BLOCK: every subindex, each with its own status. -/
def Dev.oapReadBlock (d : Dev) (a : OapAsk) : OapReply × Dev :=
  match addrEntriesOf 1 a.body with
  | some [e] =>
    if a.count ≠ 1 || e.sub ≠ 0 || e.off ≠ 0 || e.len ≠ 0 then (oapRefuse 12, d)
    else if 0xF000 ≤ e.index || !indexListed e.index then (oapRefuse 1, d)
    else if !instExists e.index e.inst then (oapRefuse 3, d)
    else
      let d1 := d.issueNonce a.role e.index 0
      (oapEntries a.room 0 ((listedSubs e.index).map (fun s =>
        let x := d1.readObject a.role { e.addr with sub := s } 0 0
        [BitVec.ofNat 8 s, 0] ++ toLe 2 x.1 ++ toLe 4 x.2.length ++ pad4 x.2)), d1)
  | _ => (oapRefuse 12, d)

/-! ## WRITE (R264) -/

/-- Shadows that have seen no write for 10 s are gone. -/
def Dev.dropShadows (d : Dev) : Dev := { d with obj.shadows := d.obj.shadows.filter (fun x => decide (d.now < x.lastWrite + 10 * sec)) }

/-- What a shadow makes of its object: the offset and bytes written. A readable value keeps its other bytes; DATA takes what the
windows span. -/
def Dev.shadowValue (d : Dev) (r : OdRow) (a : OdAddr) (parts : List (Nat × Bytes)) : Nat × Bytes :=
  let lay (b : Bytes) : Bytes := parts.foldl (fun x p => overlayB x p.1 p.2) b
  if r.index = 0x9010 then
    let lo : Nat := parts.foldl (fun m p => min m p.1) 16384
    let hi : Nat := parts.foldl (fun m p => max m (p.1 + p.2.length)) 0
    (lo, sliceB (lay (d.fls.read a.inst 0 16384)) lo (hi - lo))
  else if r.readRole = .none then (0, lay [])
  else (0, lay (d.readBytes r (a.sub - r.sub) a.inst))

/-- Objects whose writes may be shorter than their type: STAGE, LC_REQUEST and BN_JOB. -/
def shortOk (index sub : Nat) : Bool := (index = 0x1208 && sub = 1) || (index = 0x1100 && sub = 5) || (index = 0x5020 && sub = 5)

/-- A value reaches its object. -/
def State.writeValue (s : State) (env : WriteEnv) (role : Role) (r : OdRow) (a : OdAddr) (off : Nat) (b : Bytes) : Nat × State :=
  if r.readRole = .none && r.type.isBytes && b.length ≠ r.len && !shortOk a.index a.sub then (7, s)
  else if a.index = 0xB010 && a.sub = 9 then
    let (st, s1) := s.taskEnable a.inst (leNat b = 1)
    (st, if st = 0 then s1.onDev (fun d => d.replicateWrite r a b) else s1)
  else
    let (st, d) := s.dev.writeObject env role r a.sub a.inst off b
    (st, { s with dev := if st = 0 then d.replicateWrite r a b else d })

/-- One entry of a WRITE: its status, and the state after it. -/
def State.writeOne (s : State) (env : WriteEnv) (q : OapAsk) (e : OapEntry) : Nat × State :=
  match lookupObject e.index e.sub e.inst with
  | .error st => (st, s)
  | .ok r =>
    let a := e.addr
    let st := s.dev.accessStatus q.role true r e.sub e.inst
    if st ≠ 0 then (st, s)
    else if !r.type.isBytes then
      if e.off ≠ 0 || e.data.length ≠ r.type.size r.len then (7, s)
      else if !r.accepts (e.sub - r.sub) (r.value e.data) then (8, s)
      else s.writeValue env q.role r a 0 e.data
    else if r.len < e.off + e.data.length then (7, s)
    else if e.off = 0 && e.data.length = r.len then s.writeValue env q.role r a 0 e.data
    else
      let d := s.dev
      let mine (x : Shadow) : Bool := x.requester == q.req && x.addr == a
      let old := d.obj.shadows.find? mine
      if old.isNone && 16 ≤ (d.obj.shadows.filter (fun x => x.requester == q.req)).length then (10, s)
      else
        let parts := (old.map (fun x => x.parts)).getD [] ++ [(e.off, e.data)]
        let rest := d.obj.shadows.filter (fun x => !mine x)
        if e.final then
          let (off, b) := d.shadowValue r a parts
          ({ s with dev := { d with obj.shadows := rest } } : State).writeValue env q.role r a off b
        else
          let x : Shadow := { requester := q.req, addr := a, ids := q.id :: (old.map (fun x => x.ids)).getD [], parts := parts, lastWrite := d.now }
          (0, { s with dev := { d with obj.shadows := rest ++ [x] } })

/-- The status of an entry of a WRITE before the request changes anything (R264). A window is a part of a value: its access is
evaluated here, and the value when the shadow is whole. -/
def State.entryStatus (s : State) (env : WriteEnv) (q : OapAsk) (e : OapEntry) : Nat :=
  match lookupObject e.index e.sub e.inst with
  | .error st => st
  | .ok r =>
    if r.type.isBytes && !(e.off == 0 && e.data.length == r.len) then s.dev.accessStatus q.role true r e.sub e.inst
    else (s.writeOne env q e).1

/-- All entries or none: their statuses, and the state. Every entry is evaluated before the request changes anything, and then
takes effect in turn; one whose effect an earlier entry bars is refused too. Where one fails, what the refused entries
themselves leave (a wrong password's count) is all that stays. -/
def State.writeAll (s : State) (env : WriteEnv) (q : OapAsk) (l : List OapEntry) : List Nat × State :=
  let (sts, done, kept) := l.foldl (fun (acc : List Nat × State × State) e =>
    let (sts, tent, base) := acc
    let (st1, t1) := tent.writeOne env q e
    let st0 := s.entryStatus env q e
    let st := if st0 = 0 then st1 else st0
    if st = 0 then (sts ++ [0], t1, base)
    else
      let (st2, b1) := base.writeOne env q e
      (sts ++ [st], tent, if st2 = 0 then base else b1)) ([], s, s)
  (sts, if firstBad sts = 0 then done else kept)

def State.oapWrite (s : State) (env : WriteEnv) (q : OapAsk) : OapReply × State :=
  match writeEntriesOf q.count q.body with
  | none => (oapRefuse 12, s)
  | some l =>
    let (sts, s1) := (s.onDev Dev.dropShadows).writeAll env q l
    (oapEntries q.room (firstBad sts) (sts.map (fun st => toLe 2 st ++ [0, 0])), s1)

/-- WRITE_BLOCK: several subindices of one instance. -/
def State.oapWriteBlock (s : State) (env : WriteEnv) (q : OapAsk) : OapReply × State :=
  match addrEntry q.body with
  | none => (oapRefuse 12, s)
  | some e =>
    match blockEntriesOf { e with final := false } q.count (q.body.drop 16) with
    | none => (oapRefuse 12, s)
    | some l =>
      if e.sub ≠ 0 || e.off ≠ 0 || e.len ≠ 0 then (oapRefuse 12, s)
      else
        let (sts, s1) := (s.onDev Dev.dropShadows).writeAll env q l
        (oapEntries q.room (firstBad sts) ((l.zip sts).map (fun x => [BitVec.ofNat 8 x.1.sub, 0] ++ toLe 2 x.2)), s1)

/-- REPLICATED_WRITE: what the other unit of the twin hands over takes effect (R260, R571). -/
def State.replicated (s : State) (w : Replicated) (env : WriteEnv) : State :=
  match w with
  | .object a value =>
    match lookupObject a.index a.sub a.inst with
    | .error _ => s
    | .ok r =>
      if !s.dev.isStandby || r.persist == .vol then s
      else
        let (st, s1) := s.writeValue env .so r a 0 value
        if st = 0 then s1 else s
  | w => s.onDev (fun d => d.remoteCard w env.agree)

/-! ## SUBSCRIBE, NOTIFY and ABORT (R264, R267) -/

def Dev.oapSubscribe (d : Dev) (q : OapAsk) : OapReply × Dev :=
  let mode := leAt q.body 0 1
  let period := signedOf 64 (leAt q.body 4 8)
  let gap := signedOf 64 (leAt q.body 12 8)
  match addrEntriesOf q.count (q.body.drop 20) with
  | none => (oapRefuse 12, d)
  | some l =>
    let r := l.map (fun e => d.readObject q.role e.addr e.off e.len)
    let bad := firstBad (r.map (fun x => x.1))
    let others := d.obj.subs.filter (fun x => !(x.requester == q.req && x.reqId == q.id))
    if q.body.length < 20 || leAt q.body 1 3 ≠ 0 then (oapRefuse 12, d)
    else if (mode ≠ 1 && mode ≠ 2) || (mode = 2 && (period < ms || 3600 * sec < period)) || gap < 0 then (oapOne 8, d)
    else if bad ≠ 0 then (oapOne bad, d)
    else if 1024 ≤ others.length then (oapOne 24, d)
    else
      (oapOne 0, { d with obj.subs := others ++ [{ requester := q.req, reqId := q.id, mode := mode, period := period, minInterval := gap,
                                                   addrs := l.map (fun e => (e.addr, e.off, e.len)), since := d.now, lastAt := none,
                                                   lastVals := r.map readEntry }] })

/-- The response entries that a subscription would report now. -/
def Dev.subValues (d : Dev) (x : Subscription) : List Bytes :=
  x.addrs.map (fun e => readEntry (d.readObject (d.requesterRole x.requester) e.1 e.2.1 e.2.2))

/-- Whether a report is due. -/
def Subscription.due (x : Subscription) (now : Ticks) (vals : List Bytes) : Bool :=
  if x.mode = 2 then decide (x.lastAt.getD x.since + x.period ≤ now)
  else decide (vals ≠ x.lastVals) && (match x.lastAt with
    | none => true
    | some t => decide (t + x.minInterval ≤ now))

/-- A NOTIFY message: a body over 240 bytes lists its entries with length 0 and status TOO_LARGE. -/
def notifyMessage (id : Nat) (now : Ticks) (vals : List Bytes) : Bytes :=
  let full : Nat := vals.foldl (fun n v => n + v.length) 12
  let short := oapEntries 228 0 (vals.map (fun _ => readEntry (11, [])))
  let r := oapEntries 228 0 vals
  let use := if 240 < full then short else r
  oapMessage 0xC0 id { use with body := timeLe now ++ use.body }

/-- A NOTIFY goes into an EVENT queue as a descriptor with TAG 2 (R267, R294, R296). -/
def Dev.notifyQueue (d : Dev) (q : Nat) (m : Bytes) : Dev :=
  let x := d.queue q
  if 16384 ≤ q || x.state ≠ .on || d.cfg Od.que_CLASS q ≠ 2 then d
  else if x.workFree = 0 then d.dropNotice q
  else
    ((d.setQueue q { x with devPos := x.devPos + 1, noticeSeq := x.noticeSeq + 1, gapOpen := none }).emitWork
      q x.devPos 5 2 x.noticeSeq m (.delivery q x.devPos 5 2 x.noticeSeq m)).signalSource q

/-- NOTIFY: a subscription's report, where it is due. -/
def State.notify (s : State) (req id : Nat) : State :=
  let d := s.dev
  match d.obj.subs.find? (fun x => x.requester == req && x.reqId == id) with
  | none => s
  | some x =>
    let vals := d.subValues x
    if d.flt.chipSafe || !x.due d.now vals then s
    else
      let m := notifyMessage id d.now vals
      let d1 : Dev := { d with obj.subs := d.obj.subs.map (fun y =>
        if y.requester == req && y.reqId == id then { y with lastAt := some d.now, lastVals := vals } else y) }
      if req < 16384 then { s with dev := d1.oapSend req m }
      else if req = mailboxReq then { s with dev := d1.notifyQueue (d.cfgN Od.mbx_MB_NOTIFY_QUEUE 0) m }
      else { s with dev := d1 }.taskNotified (req - mailboxReq - 1)

/-- ABORT: a write shadow or a subscription of the requester ends; naming anything else does nothing. -/
def Dev.oapAbort (d : Dev) (q : OapAsk) : OapReply × Dev :=
  if q.body.length ≠ 4 then (oapRefuse 12, d)
  else
    let id := leAt q.body 0 4
    (oapOne 0, { d with obj.shadows := d.obj.shadows.filter (fun x => !(x.requester == q.req && x.ids.contains id)),
                        obj.subs := d.obj.subs.filter (fun x => !(x.requester == q.req && x.reqId == id)) })

/-! ## ACTIVATE (R271) -/

/-- The ACTION of an ACTIVATE message. -/
def activateAction (m : Bytes) : Nat := leAt m 16 1

/-- An ACTIVATE request: its form and the role that every action needs; a CHART_SWITCH that begins is answered later. -/
def Dev.oapActivate (d : Dev) (q : OapAsk) : Option OapReply × Dev :=
  let b := q.body
  let action := leAt b 0 1
  let no (st : Nat) : Option OapReply × Dev := (some (activateReply st []), d)
  if b.length ≠ 48 || action = 0 || 3 < action || leAt b 2 2 ≠ 0 || (action ≠ 2 && (leAt b 1 1 ≠ 0 || !allZero (sliceB b 4 12))) ||
      (action = 1 && !allZero (sliceB b 16 32)) then (some (oapRefuse 12), d)
  else if d.sys.phase = .minimal || d.flt.chipSafe || (d.sys.phase = .recovery && action ≠ 1) then no 9
  else if !q.role.satisfies .en then no 5
  else if action = 1 then
    let (r, d1) := d.activateStore
    (some r, d1)
  else if action = 2 then d.activateSwitch q.req q.id (leAt b 1 1) (timeOfLe (sliceB b 4 12)) (sliceB b 16 32)
  else
    let (r, d1) := d.activateDelete (sliceB b 16 32)
    (some r, d1)

/-! ## Requests by carrier (R258, R261, R265) -/

/-- An operation: the response, none where it comes later, and the state. -/
abbrev OapServe := State → OapAsk → Option OapReply × State

def serveDev (f : Dev → OapAsk → OapReply × Dev) : OapServe := fun s q =>
  let (r, d) := f s.dev q
  (some r, { s with dev := d })

def serveState (f : State → OapAsk → OapReply × State) : OapServe := fun s q =>
  let (r, s1) := f s q
  (some r, s1)

def serveActivate : OapServe := fun s q =>
  let (r, d) := s.dev.oapActivate q
  (r, { s with dev := d })

/-- A message is a requester's: a malformed one is refused, a repeated one is answered as before, and any other is executed
under the requester's role. A requester without a role is answered with NO_PRINCIPAL. -/
def State.oapExecute (s : State) (req : Nat) (m : Bytes) (serve : OapServe) : State :=
  let d := s.dev
  let h := oapHead m
  let role := d.requesterRole req
  let form := oapForm m
  let waits := h.op = 6 && d.obj.switch.any (fun c => c.asker == some (req, h.id))
  if form ≠ 0 then s.onDev (fun d => d.oapSend req (oapMessage (h.op + 0x80) h.id (oapRefuse form)))
  else if waits then s
  else if role = .none then s.onDev (fun d => d.oapSend req (oapMessage (h.op + 0x80) h.id (oapRefuse 14)))
  else
    match d.keptResponse req h.id h.op with
    | some r => s.onDev (fun d => d.oapSend req r)
    | none =>
      if d.sys.phase = .recovery && (h.op = 3 || h.op = 4 || h.op = 5) then s.onDev (fun d => d.respond req h.op h.id (oapRefuse 9))
      else
        match serve s { req := req, id := h.id, role := role, count := h.count, body := m.drop 16, room := d.oapRoom req } with
        | (some r, s1) => s1.onDev (fun d => d.respond req h.op h.id r)
        | (none, s1) => s1

/-- A request from its carrier: `mine` says which messages this command is about; a message that is no request is any of
theirs. -/
def State.oapTake (s : State) (src : OapSource) (mine : Bytes → Bool) (serve : OapServe) : State :=
  let d := s.dev
  match src with
  | .mailbox =>
    let b := d.hif.mbox
    if b.busy && b.answer.isNone && !(d.flt.chipSafe && d.sys.phase = .starting) && (mine b.request || oapForm b.request ≠ 0) then
      s.oapExecute mailboxReq b.request serve
    else s
  | .frame f =>
    if d.flt.chipSafe || (d.openFrame 10 f).1.any (fun x => !(mine x.2 || oapForm x.2 ≠ 0)) then s
    else
      match d.receive 10 f with
      | (none, d1) => { s with dev := d1 }
      | (some (i, p), d1) => ({ s with dev := d1.onSes i (fun x => x.mark f.seq) } : State).oapExecute i p serve

/-- An OAP command: it reaches the device in operation, in recovery and under minimal firmware. -/
def State.oap (s : State) (t : Ticks) (f : State → State) : Host.Outcome State Fault Refusal :=
  .next (if s.dev.boots then
      let s1 := f { s with dev := s.dev.at_ t }
      { (s1.withDev s1.dev.settle) with pending := s.pending }
    else { s with dev := s.dev.at_ t })

/-- Messages of an operation. -/
def opIs (op : Nat) (m : Bytes) : Bool := leAt m 1 1 == op

/-- Messages of an ACTIVATE action; STORE's command answers for an ACTION that is none too. -/
def activateIs (action : Nat) (m : Bytes) : Bool :=
  opIs 6 m && (if action = 1 then activateAction m ≠ 2 && activateAction m ≠ 3 else activateAction m == action)

/-! ## The mailbox (R299, R309, R310) -/

/-- MB_DOORBELL: the request in the buffer, of a length, is submitted. -/
def Dev.mbDoorbell (d : Dev) (pf : Nat) (request : Bytes) : Dev :=
  if pf ≠ 0 then d.accessDenied pf
  else if d.hif.mbox.busy then (d.bump Od.lnk_MB_OVERRUNS 0).raise 33 0x12C 0xFFFF
  else
    let h := oapHead request
    let bad (st : Nat) : Option Bytes := some (oapMessage (h.op + 0x80) h.id (oapRefuse st))
    let ans := if request.length < 16 then bad 12 else if 16384 < request.length then bad 11 else none
    { d with hif.mbox := { busy := true, request := request, answer := ans } }

/-- MB_RESPONSE: what the executed request is answered with stands in the response buffer. -/
def Dev.mbRespond (d : Dev) : Dev :=
  match d.hif.mbox.busy, d.hif.mbox.answer with
  | true, some m => ({ d with hif.mbox := { responseReady := true, response := m } }).raise 34 0x130 0xFFFF
  | _, _ => d

/-! ## The tasks' service (R374) -/

/-- The operation of a message. -/
def serveAny (env : WriteEnv) (op : Nat) : OapServe :=
  match op with
  | 1 => serveDev Dev.oapRead
  | 2 => serveState (fun s q => s.oapWrite env q)
  | 3 => serveDev Dev.oapReadBlock
  | 4 => serveState (fun s q => s.oapWriteBlock env q)
  | 5 => serveDev Dev.oapSubscribe
  | 6 => serveActivate
  | _ => serveDev Dev.oapAbort

/-- SVC OAP: a request in memory that the task may read, its response in memory that it may write, as far as its capacity goes.
A chart switch that has begun is answered with OK. -/
def State.svcOap (s : State) (p : Nat) (env : WriteEnv) : State :=
  s.puSvc p 3 (fun k s =>
    let c := s.dev.pu p
    let a := c.get 0
    let n := c.get 1
    let out := c.get 2
    let cap := c.get 3
    let may (x len : Nat) (w : Bool) : Bool := (puRam x len || inPierBuffer x len) &&
      (acuCheck (s.dev.acu (puMaster p)).regions x (x + len - 1) (if w then .write else .read) true).isNone
    if !(decide (16 ≤ n ∧ n ≤ 16384) && decide (16 ≤ cap) && may a n false && may out cap true) then (s.svcReturn p none true).svcResume p k 3
    else
      let m := memRead s.mem a n
      let h := oapHead m
      let form := oapForm m
      let (r, s1) := if form ≠ 0 then (some (oapRefuse form), s)
        else serveAny env h.op s { req := mailboxReq + 1 + k, id := h.id, role := s.dev.requesterRole (mailboxReq + 1 + k), count := h.count,
                                   body := m.drop 16, room := cap - 16 }
      let msg := oapMessage (h.op + 0x80) h.id (r.getD (activateReply 0 []))
      if (s1.dev.pu p).running ≠ some k then s1
      else if cap < msg.length then (s1.svcReturn p none true).svcResume p k 3
      else
        ({ s1 with mem := memWrite s1.mem out msg }.svcReturn p (some msg.length) false).svcResume p k 3)

end Sys2Proof.Machine
end

