-- ==== Sys2Proof/Machine/Objects.lean ====
section
/-!
DEFINITION. The Object Access Protocol, notifications and the mailbox (R256–R279, R299).
-/
namespace Sys2Proof.Machine

/-- OAP_READ. A READ request (R263). -/
def execOapRead (src : OapSource) (t : Ticks) (s : State) : Host.Outcome State Fault Refusal :=
  s.oap t (fun s => s.oapTake src (opIs 1) (serveDev Dev.oapRead))

/-- OAP_WRITE. A WRITE request (R264). -/
def execOapWrite (src : OapSource) (env : WriteEnv) (t : Ticks) (s : State) : Host.Outcome State Fault Refusal :=
  s.oap t (fun s => s.oapTake src (opIs 2) (serveState (fun s q => s.oapWrite env q)))

/-- OAP_READ_BLOCK. A READ_BLOCK request (R263). -/
def execOapReadBlock (src : OapSource) (t : Ticks) (s : State) : Host.Outcome State Fault Refusal :=
  s.oap t (fun s => s.oapTake src (opIs 3) (serveDev Dev.oapReadBlock))

/-- OAP_WRITE_BLOCK. A WRITE_BLOCK request (R264). -/
def execOapWriteBlock (src : OapSource) (env : WriteEnv) (t : Ticks) (s : State) : Host.Outcome State Fault Refusal :=
  s.oap t (fun s => s.oapTake src (opIs 4) (serveState (fun s q => s.oapWriteBlock env q)))

/-- OAP_SUBSCRIBE. A SUBSCRIBE request (R267). -/
def execOapSubscribe (src : OapSource) (t : Ticks) (s : State) : Host.Outcome State Fault Refusal :=
  s.oap t (fun s => s.oapTake src (opIs 5) (serveDev Dev.oapSubscribe))

/-- OAP_ABORT. An ABORT request (R264, R267). -/
def execOapAbort (src : OapSource) (t : Ticks) (s : State) : Host.Outcome State Fault Refusal :=
  s.oap t (fun s => s.oapTake src (opIs 7) (serveDev Dev.oapAbort))

/-- ACTIVATE_STORE. An ACTIVATE request with ACTION STORE (R271). -/
def execActivateStore (src : OapSource) (t : Ticks) (s : State) : Host.Outcome State Fault Refusal :=
  s.oap t (fun s => s.oapTake src (activateIs 1) serveActivate)

/-- ACTIVATE_CHART_SWITCH. An ACTIVATE request with ACTION CHART_SWITCH (R272). -/
def execActivateChartSwitch (src : OapSource) (t : Ticks) (s : State) : Host.Outcome State Fault Refusal :=
  s.oap t (fun s => s.oapTake src (activateIs 2) serveActivate)

/-- ACTIVATE_DELETE. An ACTIVATE request with ACTION DELETE (R271). -/
def execActivateDelete (src : OapSource) (t : Ticks) (s : State) : Host.Outcome State Fault Refusal :=
  s.oap t (fun s => s.oapTake src (activateIs 3) serveActivate)

/-- NOTIFY. The subscription of a requester and REQUEST_ID reports, where its report is due (R267). -/
def execNotify (req id : Nat) (t : Ticks) (s : State) : Host.Outcome State Fault Refusal :=
  s.oap t (fun s => s.notify req id)

/-- SHADOW_EXPIRY. Write shadows that have seen no write for 10 s go (R264). -/
def execShadowExpiry (t : Ticks) (s : State) : Host.Outcome State Fault Refusal :=
  s.boot t Dev.dropShadows

/-- MB_DOORBELL. MB_DOORBELL is written through a function, with the bytes that its LENGTH takes of the request buffer (R299, R309). -/
def execMbDoorbell (pf : Fin 4) (request : Bytes) (t : Ticks) (s : State) : Host.Outcome State Fault Refusal :=
  s.boot t (fun d => d.mbDoorbell pf request)

/-- MB_RESPONSE. The mailbox request completes (R299, R310). -/
def execMbResponse (t : Ticks) (s : State) : Host.Outcome State Fault Refusal :=
  s.boot t Dev.mbRespond

/-- REPLICATED_WRITE. The other unit of the twin hands over an object write, a ledger record or a card exchange (R260, R571). -/
def execReplicatedWrite (w : Replicated) (env : WriteEnv) (t : Ticks) (s : State) : Host.Outcome State Fault Refusal :=
  s.runS t (fun s => s.replicated w env)

end Sys2Proof.Machine
end

