-- ==== Sys2Proof/Machine/Powering.lean ====
section
/-!
DEFINITION. Commands of the power arbiter (R598–R615).
-/
namespace Sys2Proof.Machine

/-- POWER_EPOCH. An epoch of 1 µs, with what the arbiter measures (R601, R603). -/
def execPowerEpoch (r : PowerReading) (t : Ticks) (s : State) : Host.Outcome State Fault Refusal :=
  s.run t (fun d => (d.powerEpoch r).noteEnvelopes)

/-- DEMAND_SEND. 10 µs have passed: DEMAND goes to the master (R605). -/
def execDemandSend (t : Ticks) (s : State) : Host.Outcome State Fault Refusal :=
  s.run t (fun d => d.demandSend)

/-- DEMAND. A DEMAND message of a member reaches the master (R606). -/
def execDemandReceive (src : Fin 8) (x : ChipDemand) (t : Ticks) (s : State) : Host.Outcome State Fault Refusal :=
  s.run t (fun d => d.demandReceive src x)

/-- SHARE. A SHARE message: the shares of flotilla IDs 0 to 7 (R608). -/
def execShareSet (shares : List Nat) (t : Ticks) (s : State) : Host.Outcome State Fault Refusal :=
  s.run t (fun d => d.shareReceive shares)

/-- SHARE_STALE. 100 µs have passed with no SHARE (R607). -/
def execShareStale (t : Ticks) (s : State) : Host.Outcome State Fault Refusal :=
  s.run t (fun d => d.shareStale)

/-- MODELS_MEASURED. 10 ms have passed since the release of RESET_N (R609). -/
def execModelsMeasured (t : Ticks) (s : State) : Host.Outcome State Fault Refusal :=
  s.run t (fun d => d.modelsMeasured)

end Sys2Proof.Machine
end

