-- ==== Sys2Proof/Machine/Pursing.lean ====
section
/-!
DEFINITION. The purser instruction set and customer tasks (R349–R376).
-/
namespace Sys2Proof.Machine

/-- PU_NOP. NOP of purser p (R357). -/
def execPuNop (p : Fin 4) (t : Ticks) (s : State) : Host.Outcome State Fault Refusal :=
  s.runPu t p [] ([0x00]) (fun s => s.purser p 1 1 none (fun s => .seq s))

/-- PU_TRET. Purser p resumes the TSB named by TSBP (R368). -/
def execPuTret (p : Fin 4) (t : Ticks) (s : State) : Host.Outcome State Fault Refusal :=
  s.runPu t p [] ([0x01]) (fun s => s.puTret p)

/-- PU_WAIT. Purser p stops fetching until an interrupt is pending (R357). -/
def execPuWait (p : Fin 4) (t : Ticks) (s : State) : Host.Outcome State Fault Refusal :=
  s.runPu t p [] ([0x02]) (fun s => s.puWait p)

/-- PU_FENCE. Purser p waits for its earlier accesses (R357). -/
def execPuFence (p : Fin 4) (t : Ticks) (s : State) : Host.Outcome State Fault Refusal :=
  s.runPu t p [] ([0x03]) (fun s => s.puFence p)

/-- PU_TSW. Purser p saves its state and resumes the TSB at Xr (R368). -/
def execPuTsw (p : Fin 4) (r : Fin 16) (t : Ticks) (s : State) : Host.Outcome State Fault Refusal :=
  s.runPu t p [] (puCode 0x05 0 r) (fun s => s.puTsw p r)

/-- PU_SNAP. Purser p latches chip time (R357). -/
def execPuSnap (p : Fin 4) (r : Fin 16) (t : Ticks) (s : State) : Host.Outcome State Fault Refusal :=
  s.runPu t p [] (puCode 0x06 r 0) (fun s => s.puReg p 2 4 none (PuCore.snap r s.dev.now))

/-- PU_MOV. MOV Xr, Xsrc of purser p at the operation width (R357, R358). -/
def execPuMov (p : Fin 4) (x : PuPre) (r src : Fin 16) (t : Ticks) (s : State) : Host.Outcome State Fault Refusal :=
  s.runPu t p x.bytes (puRrCode 0 r src) (fun s => s.puAlu p x .mov r src)

/-- PU_ADD. ADD Xr, Xsrc of purser p at the operation width (R357, R358). -/
def execPuAdd (p : Fin 4) (x : PuPre) (r src : Fin 16) (t : Ticks) (s : State) : Host.Outcome State Fault Refusal :=
  s.runPu t p x.bytes (puRrCode 1 r src) (fun s => s.puAlu p x .add r src)

/-- PU_SUB. SUB Xr, Xsrc of purser p at the operation width (R357, R358). -/
def execPuSub (p : Fin 4) (x : PuPre) (r src : Fin 16) (t : Ticks) (s : State) : Host.Outcome State Fault Refusal :=
  s.runPu t p x.bytes (puRrCode 2 r src) (fun s => s.puAlu p x .sub r src)

/-- PU_ADC. ADC Xr, Xsrc of purser p at the operation width (R357, R358). -/
def execPuAdc (p : Fin 4) (x : PuPre) (r src : Fin 16) (t : Ticks) (s : State) : Host.Outcome State Fault Refusal :=
  s.runPu t p x.bytes (puRrCode 3 r src) (fun s => s.puAlu p x .adc r src)

/-- PU_SBC. SBC Xr, Xsrc of purser p at the operation width (R357, R358). -/
def execPuSbc (p : Fin 4) (x : PuPre) (r src : Fin 16) (t : Ticks) (s : State) : Host.Outcome State Fault Refusal :=
  s.runPu t p x.bytes (puRrCode 4 r src) (fun s => s.puAlu p x .sbc r src)

/-- PU_AND. AND Xr, Xsrc of purser p at the operation width (R357, R358). -/
def execPuAnd (p : Fin 4) (x : PuPre) (r src : Fin 16) (t : Ticks) (s : State) : Host.Outcome State Fault Refusal :=
  s.runPu t p x.bytes (puRrCode 5 r src) (fun s => s.puAlu p x .and r src)

/-- PU_OR. OR Xr, Xsrc of purser p at the operation width (R357, R358). -/
def execPuOr (p : Fin 4) (x : PuPre) (r src : Fin 16) (t : Ticks) (s : State) : Host.Outcome State Fault Refusal :=
  s.runPu t p x.bytes (puRrCode 6 r src) (fun s => s.puAlu p x .or r src)

/-- PU_XOR. XOR Xr, Xsrc of purser p at the operation width (R357, R358). -/
def execPuXor (p : Fin 4) (x : PuPre) (r src : Fin 16) (t : Ticks) (s : State) : Host.Outcome State Fault Refusal :=
  s.runPu t p x.bytes (puRrCode 7 r src) (fun s => s.puAlu p x .xor r src)

/-- PU_CMP. CMP Xr, Xsrc of purser p at the operation width (R357, R358). -/
def execPuCmp (p : Fin 4) (x : PuPre) (r src : Fin 16) (t : Ticks) (s : State) : Host.Outcome State Fault Refusal :=
  s.runPu t p x.bytes (puRrCode 8 r src) (fun s => s.puAlu p x .cmp r src)

/-- PU_TST. TST Xr, Xsrc of purser p at the operation width (R357, R358). -/
def execPuTst (p : Fin 4) (x : PuPre) (r src : Fin 16) (t : Ticks) (s : State) : Host.Outcome State Fault Refusal :=
  s.runPu t p x.bytes (puRrCode 9 r src) (fun s => s.puAlu p x .tst r src)

/-- PU_LSL. LSL Xr, Xsrc of purser p at the operation width (R357, R358). -/
def execPuLsl (p : Fin 4) (x : PuPre) (r src : Fin 16) (t : Ticks) (s : State) : Host.Outcome State Fault Refusal :=
  s.runPu t p x.bytes (puRrCode 10 r src) (fun s => s.puAlu p x .lsl r src)

/-- PU_LSR. LSR Xr, Xsrc of purser p at the operation width (R357, R358). -/
def execPuLsr (p : Fin 4) (x : PuPre) (r src : Fin 16) (t : Ticks) (s : State) : Host.Outcome State Fault Refusal :=
  s.runPu t p x.bytes (puRrCode 11 r src) (fun s => s.puAlu p x .lsr r src)

/-- PU_ASR. ASR Xr, Xsrc of purser p at the operation width (R357, R358). -/
def execPuAsr (p : Fin 4) (x : PuPre) (r src : Fin 16) (t : Ticks) (s : State) : Host.Outcome State Fault Refusal :=
  s.runPu t p x.bytes (puRrCode 12 r src) (fun s => s.puAlu p x .asr r src)

/-- PU_ROR. ROR Xr, Xsrc of purser p at the operation width (R357, R358). -/
def execPuRor (p : Fin 4) (x : PuPre) (r src : Fin 16) (t : Ticks) (s : State) : Host.Outcome State Fault Refusal :=
  s.runPu t p x.bytes (puRrCode 13 r src) (fun s => s.puAlu p x .ror r src)

/-- PU_MULU. Purser p issues a product (R362). -/
def execPuMulu (p : Fin 4) (w : PuWidth) (r src : Fin 16) (t : Ticks) (s : State) : Host.Outcome State Fault Refusal :=
  s.runPu t p w.prefix (puRrCode 14 r src) (fun s => s.puReg p (2 + w.pre) 1 none (PuCore.mul false w r src))

/-- PU_MULS. Purser p issues a product (R362). -/
def execPuMuls (p : Fin 4) (w : PuWidth) (r src : Fin 16) (t : Ticks) (s : State) : Host.Outcome State Fault Refusal :=
  s.runPu t p w.prefix (puRrCode 15 r src) (fun s => s.puReg p (2 + w.pre) 1 none (PuCore.mul true w r src))

/-- PU_PRODUCT_COMPLETE. The oldest product in flight of purser p completes (R362). -/
def execPuProductComplete (p : Fin 4) (t : Ticks) (s : State) : Host.Outcome State Fault Refusal :=
  s.runS t (fun s => if s.dev.flt.chipSafe then s else s.onPu p PuCore.completeProduct)

/-- PU_MOVI. MOVI of purser p (R356, R357). -/
def execPuMovi (p : Fin 4) (x : PuPre) (r : Fin 16) (imm : PuImm) (t : Ticks) (s : State) : Host.Outcome State Fault Refusal :=
  s.runPu t p x.bytes (puRiCode 0 r imm) (fun s => s.puAlui p x .mov r imm)

/-- PU_ADDI. ADDI of purser p (R356, R357). -/
def execPuAddi (p : Fin 4) (x : PuPre) (r : Fin 16) (imm : PuImm) (t : Ticks) (s : State) : Host.Outcome State Fault Refusal :=
  s.runPu t p x.bytes (puRiCode 1 r imm) (fun s => s.puAlui p x .add r imm)

/-- PU_SUBI. SUBI of purser p (R356, R357). -/
def execPuSubi (p : Fin 4) (x : PuPre) (r : Fin 16) (imm : PuImm) (t : Ticks) (s : State) : Host.Outcome State Fault Refusal :=
  s.runPu t p x.bytes (puRiCode 2 r imm) (fun s => s.puAlui p x .sub r imm)

/-- PU_ANDI. ANDI of purser p (R356, R357). -/
def execPuAndi (p : Fin 4) (x : PuPre) (r : Fin 16) (imm : PuImm) (t : Ticks) (s : State) : Host.Outcome State Fault Refusal :=
  s.runPu t p x.bytes (puRiCode 3 r imm) (fun s => s.puAlui p x .and r imm)

/-- PU_ORI. ORI of purser p (R356, R357). -/
def execPuOri (p : Fin 4) (x : PuPre) (r : Fin 16) (imm : PuImm) (t : Ticks) (s : State) : Host.Outcome State Fault Refusal :=
  s.runPu t p x.bytes (puRiCode 4 r imm) (fun s => s.puAlui p x .or r imm)

/-- PU_XORI. XORI of purser p (R356, R357). -/
def execPuXori (p : Fin 4) (x : PuPre) (r : Fin 16) (imm : PuImm) (t : Ticks) (s : State) : Host.Outcome State Fault Refusal :=
  s.runPu t p x.bytes (puRiCode 5 r imm) (fun s => s.puAlui p x .xor r imm)

/-- PU_CMPI. CMPI of purser p (R356, R357). -/
def execPuCmpi (p : Fin 4) (x : PuPre) (r : Fin 16) (imm : PuImm) (t : Ticks) (s : State) : Host.Outcome State Fault Refusal :=
  s.runPu t p x.bytes (puRiCode 6 r imm) (fun s => s.puAlui p x .cmp r imm)

/-- PU_TSTI. TSTI of purser p (R356, R357). -/
def execPuTsti (p : Fin 4) (x : PuPre) (r : Fin 16) (imm : PuImm) (t : Ticks) (s : State) : Host.Outcome State Fault Refusal :=
  s.runPu t p x.bytes (puRiCode 7 r imm) (fun s => s.puAlui p x .tst r imm)

/-- PU_LSLI. LSLI of purser p (R357). -/
def execPuLsli (p : Fin 4) (x : PuPre) (r : Fin 16) (imm : BitVec 8) (t : Ticks) (s : State) : Host.Outcome State Fault Refusal :=
  s.runPu t p x.bytes (puShiftCode 0 r imm) (fun s => s.puShift p x .lsl r imm)

/-- PU_LSRI. LSRI of purser p (R357). -/
def execPuLsri (p : Fin 4) (x : PuPre) (r : Fin 16) (imm : BitVec 8) (t : Ticks) (s : State) : Host.Outcome State Fault Refusal :=
  s.runPu t p x.bytes (puShiftCode 1 r imm) (fun s => s.puShift p x .lsr r imm)

/-- PU_ASRI. ASRI of purser p (R357). -/
def execPuAsri (p : Fin 4) (x : PuPre) (r : Fin 16) (imm : BitVec 8) (t : Ticks) (s : State) : Host.Outcome State Fault Refusal :=
  s.runPu t p x.bytes (puShiftCode 2 r imm) (fun s => s.puShift p x .asr r imm)

/-- PU_RORI. RORI of purser p (R357). -/
def execPuRori (p : Fin 4) (x : PuPre) (r : Fin 16) (imm : BitVec 8) (t : Ticks) (s : State) : Host.Outcome State Fault Refusal :=
  s.runPu t p x.bytes (puShiftCode 3 r imm) (fun s => s.puShift p x .ror r imm)

/-- PU_NEG. NEG of purser p (R357). -/
def execPuNeg (p : Fin 4) (x : PuPre) (r : Fin 16) (t : Ticks) (s : State) : Host.Outcome State Fault Refusal :=
  s.runPu t p x.bytes (puCode 0x2C r 0) (fun s => s.puReg p (2 + x.len) 1 x.twice (PuCore.neg x.w r))

/-- PU_NOT. NOT of purser p (R357). -/
def execPuNot (p : Fin 4) (x : PuPre) (r : Fin 16) (t : Ticks) (s : State) : Host.Outcome State Fault Refusal :=
  s.runPu t p x.bytes (puCode 0x2D r 0) (fun s => s.puReg p (2 + x.len) 1 x.twice (PuCore.inv x.w r))

/-- PU_LD. LD of purser p from Xb + x (R357, R359, R365). -/
def execPuLd (p : Fin 4) (w : PuWidth) (m : PuMem) (r b : Fin 16) (x : Disp) (t : Ticks) (s : State) : Host.Outcome State Fault Refusal :=
  s.runPu t p (w.prefix ++ m.bytes) (puMemCode 0x30 r b x) (fun s => s.puLd p w m false r b x)

/-- PU_LDS. LDS of purser p from Xb + x (R357, R359, R365). -/
def execPuLds (p : Fin 4) (w : PuWidth) (m : PuMem) (r b : Fin 16) (x : Disp) (t : Ticks) (s : State) : Host.Outcome State Fault Refusal :=
  s.runPu t p (w.prefix ++ m.bytes) (puMemCode 0x34 r b x) (fun s => s.puLd p w m true r b x)

/-- PU_ST. ST of purser p to Xb + x (R357, R359, R365). -/
def execPuSt (p : Fin 4) (w : PuWidth) (m : PuMem) (r b : Fin 16) (x : Disp) (t : Ticks) (s : State) : Host.Outcome State Fault Refusal :=
  s.runPu t p (w.prefix ++ m.bytes) (puMemCode 0x38 r b x) (fun s => s.puSt p w m r b x)

/-- PU_LEA. LEA of purser p (R357). -/
def execPuLea (p : Fin 4) (y : PuPre) (r b : Fin 16) (x : Disp) (t : Ticks) (s : State) : Host.Outcome State Fault Refusal :=
  s.runPu t p y.bytes (puMemCode 0x3C r b x) (fun s => s.puReg p (2 + y.len + x.bytes) 1 y.twice (PuCore.lea y.w r b x))

/-- PU_MADD. MADD of purser p (R357, R365). -/
def execPuMadd (p : Fin 4) (w : PuWidth) (atom : Bool) (r b : Fin 16) (x : Disp) (t : Ticks) (s : State) : Host.Outcome State Fault Refusal :=
  s.runPu t p (w.prefix ++ atomPre atom) (puMemCode 0x40 r b x) (fun s => s.puRmw p w atom b x (PuCore.memOp .add w r))

/-- PU_MAND. MAND of purser p (R357, R365). -/
def execPuMand (p : Fin 4) (w : PuWidth) (atom : Bool) (r b : Fin 16) (x : Disp) (t : Ticks) (s : State) : Host.Outcome State Fault Refusal :=
  s.runPu t p (w.prefix ++ atomPre atom) (puMemCode 0x44 r b x) (fun s => s.puRmw p w atom b x (PuCore.memOp .and w r))

/-- PU_MOR. MOR of purser p (R357, R365). -/
def execPuMor (p : Fin 4) (w : PuWidth) (atom : Bool) (r b : Fin 16) (x : Disp) (t : Ticks) (s : State) : Host.Outcome State Fault Refusal :=
  s.runPu t p (w.prefix ++ atomPre atom) (puMemCode 0x48 r b x) (fun s => s.puRmw p w atom b x (PuCore.memOp .or w r))

/-- PU_MXOR. MXOR of purser p (R357, R365). -/
def execPuMxor (p : Fin 4) (w : PuWidth) (atom : Bool) (r b : Fin 16) (x : Disp) (t : Ticks) (s : State) : Host.Outcome State Fault Refusal :=
  s.runPu t p (w.prefix ++ atomPre atom) (puMemCode 0x4C r b x) (fun s => s.puRmw p w atom b x (PuCore.memOp .xor w r))

/-- PU_XCHG. XCHG of purser p (R357, R365). -/
def execPuXchg (p : Fin 4) (w : PuWidth) (atom : Bool) (r b : Fin 16) (x : Disp) (t : Ticks) (s : State) : Host.Outcome State Fault Refusal :=
  s.runPu t p (w.prefix ++ atomPre atom) (puMemCode 0x50 r b x) (fun s => s.puRmw p w atom b x (PuCore.xchg w r))

/-- PU_CAS. CAS of purser p (R357, R365). -/
def execPuCas (p : Fin 4) (w : PuWidth) (atom : Bool) (r b : Fin 16) (x : Disp) (t : Ticks) (s : State) : Host.Outcome State Fault Refusal :=
  s.runPu t p (w.prefix ++ atomPre atom) (puMemCode 0x54 r b x) (fun s => s.puRmw p w atom b x (PuCore.cas w r))

/-- PU_BR. BR of purser p (R357). -/
def execPuBr (p : Fin 4) (tw : Twice) (rel : PuRel) (t : Ticks) (s : State) : Host.Outcome State Fault Refusal :=
  s.runPu t p (twicePre tw) (puBrCode rel) (fun s => s.puBr p tw rel)

/-- PU_CALL. CALL of purser p, with its stack register (R357). -/
def execPuCall (p : Fin 4) (tw : Twice) (st : Fin 16) (rel : BitVec 32) (t : Ticks) (s : State) : Host.Outcome State Fault Refusal :=
  s.runPu t p (twicePre tw) (puCode 0x62 0 st ++ toLe 4 rel.toNat) (fun s => s.puCall p tw st rel)

/-- PU_JR. JR of purser p (R357). -/
def execPuJr (p : Fin 4) (tw : Twice) (r : Fin 16) (t : Ticks) (s : State) : Host.Outcome State Fault Refusal :=
  s.runPu t p (twicePre tw) (puCode 0x63 0 r) (fun s => s.puJr p tw r)

/-- PU_CALLR. CALLR of purser p, with its target and stack register (R357). -/
def execPuCallr (p : Fin 4) (tw : Twice) (r st : Fin 16) (t : Ticks) (s : State) : Host.Outcome State Fault Refusal :=
  s.runPu t p (twicePre tw) (puCode 0x64 r st) (fun s => s.puCallr p tw r st)

/-- PU_RET. RET of purser p (R357). -/
def execPuRet (p : Fin 4) (tw : Twice) (st : Fin 16) (t : Ticks) (s : State) : Host.Outcome State Fault Refusal :=
  s.runPu t p (twicePre tw) (puCode 0x65 0 st) (fun s => s.puRet p tw st)

/-- PU_PUSH. PUSH of purser p (R357). -/
def execPuPush (p : Fin 4) (r st : Fin 16) (t : Ticks) (s : State) : Host.Outcome State Fault Refusal :=
  s.runPu t p [] (puCode 0x66 r st) (fun s => s.puPushI p r st)

/-- PU_POP. POP of purser p (R357). -/
def execPuPop (p : Fin 4) (r st : Fin 16) (t : Ticks) (s : State) : Host.Outcome State Fault Refusal :=
  s.runPu t p [] (puCode 0x67 r st) (fun s => s.puPopI p r st)

/-- PU_SKCC. SKcc of purser p (R360). -/
def execPuSkcc (p : Fin 4) (tw : Twice) (cc : Fin 16) (t : Ticks) (s : State) : Host.Outcome State Fault Refusal :=
  s.runPu t p (twicePre tw) ([BitVec.ofNat 8 (0x70 + cc)]) (fun s => s.puSkip p tw cc)

/-- PU_MFS. MFS of purser p (R351). -/
def execPuMfs (p : Fin 4) (tw : Twice) (r sr : Fin 16) (t : Ticks) (s : State) : Host.Outcome State Fault Refusal :=
  s.runPu t p (twicePre tw) (puCode 0x80 r sr) (fun s => s.puMfs p tw r sr)

/-- PU_MTS. MTS of purser p (R351, R367). -/
def execPuMts (p : Fin 4) (sr r : Fin 16) (t : Ticks) (s : State) : Host.Outcome State Fault Refusal :=
  s.runPu t p [] (puCode 0x81 sr r) (fun s => s.puMts p sr r)

/-- PU_MOVS. MOVS of purser p (R363, R366). -/
def execPuMovs (p : Fin 4) (x : PuRep) (keywin : Bool) (t : Ticks) (s : State) : Host.Outcome State Fault Refusal :=
  s.runPu t p (x.bytes ++ (if keywin then [0xF6] else [])) ([0x90]) (fun s => s.puMovs p x keywin)

/-- PU_FILS. FILS of purser p (R363). -/
def execPuFils (p : Fin 4) (x : PuRep) (t : Ticks) (s : State) : Host.Outcome State Fault Refusal :=
  s.runPu t p x.bytes ([0x91]) (fun s => s.puBlock p x 1 16 false true (puFilsStep p x.w) id)

/-- PU_CMPS. CMPS of purser p (R363). -/
def execPuCmps (p : Fin 4) (x : PuRep) (t : Ticks) (s : State) : Host.Outcome State Fault Refusal :=
  s.runPu t p x.bytes ([0x92]) (fun s => s.puBlock p x 1 16 true true (puCmpsStep p x.w) (fun s => s.puZ p true))

/-- PU_SCNS. SCNS of purser p (R363). -/
def execPuScns (p : Fin 4) (x : PuRep) (t : Ticks) (s : State) : Host.Outcome State Fault Refusal :=
  s.runPu t p x.bytes ([0x93]) (fun s => s.puBlock p x 1 16 true false (puScnsStep p x.w) (fun s => s.puZ p false))

/-- PU_CRCS. CRCS of purser p (R363). -/
def execPuCrcs (p : Fin 4) (x : PuRep) (r : Fin 16) (t : Ticks) (s : State) : Host.Outcome State Fault Refusal :=
  s.runPu t p x.bytes (puCode 0x94 r 0) (fun s => s.puBlock p x 2 8 true false (puCrcsStep p x.w r) id)

/-- PU_RND. RND of purser p (R357). -/
def execPuRnd (p : Fin 4) (r : Fin 16) (t : Ticks) (s : State) : Host.Outcome State Fault Refusal :=
  s.runPu t p [] (puEscCode 0 r 0) (fun s => s.puRnd p r)

/-- PU_BSWAP. BSWAP of purser p (R357). -/
def execPuBswap (p : Fin 4) (w : PuWidth) (r : Fin 16) (t : Ticks) (s : State) : Host.Outcome State Fault Refusal :=
  s.runPu t p w.prefix (puEscCode 1 r 0) (fun s => s.puReg p (3 + w.pre) 1 none (PuCore.bswap w r))

/-- PU_CLZ. CLZ of purser p (R357). -/
def execPuClz (p : Fin 4) (w : PuWidth) (r src : Fin 16) (t : Ticks) (s : State) : Host.Outcome State Fault Refusal :=
  s.runPu t p w.prefix (puEscCode 2 r src) (fun s => s.puReg p (3 + w.pre) 1 none (PuCore.clz w r src))

/-- PU_POPC. POPC of purser p (R357). -/
def execPuPopc (p : Fin 4) (w : PuWidth) (r src : Fin 16) (t : Ticks) (s : State) : Host.Outcome State Fault Refusal :=
  s.runPu t p w.prefix (puEscCode 3 r src) (fun s => s.puReg p (3 + w.pre) 1 none (PuCore.popc w r src))

/-- PU_SELZ. SELZ of purser p (R357). -/
def execPuSelz (p : Fin 4) (w : PuWidth) (r src : Fin 16) (t : Ticks) (s : State) : Host.Outcome State Fault Refusal :=
  s.runPu t p w.prefix (puEscCode 4 r src) (fun s => s.puReg p (3 + w.pre) 1 none (PuCore.selz w r src))

/-- PU_SEXT. SEXT of purser p (R357). -/
def execPuSext (p : Fin 4) (w : PuWidth) (r src : Fin 16) (t : Ticks) (s : State) : Host.Outcome State Fault Refusal :=
  s.runPu t p w.prefix (puEscCode 5 r src) (fun s => s.puReg p (3 + w.pre) 1 none (PuCore.sext w r src))

/-- PU_ZEXT. ZEXT of purser p (R357). -/
def execPuZext (p : Fin 4) (w : PuWidth) (r src : Fin 16) (t : Ticks) (s : State) : Host.Outcome State Fault Refusal :=
  s.runPu t p w.prefix (puEscCode 6 r src) (fun s => s.puReg p (3 + w.pre) 1 none (PuCore.zext w r src))

/-- PU_INTERRUPT. An interrupt of a source is pending at a boundary of purser p (R357, R386, R390). -/
def execPuInterrupt (p : Fin 4) (source : Fin 65536) (t : Ticks) (s : State) : Host.Outcome State Fault Refusal :=
  s.runS t (fun s => s.puInterrupt p source)

/-- PU_ILLEGAL_OPCODE. Purser p meets an encoding of R355 to R357 that raises an illegal-opcode fault: its bytes less one, and its cause code less one. -/
def execPuIllegalOpcode (p : Fin 4) (len : Fin 15) (cause : Fin 4) (t : Ticks) (s : State) : Host.Outcome State Fault Refusal :=
  s.runS t (fun s =>
    if (s.dev.pu p).running.isNone || puIllegal (memRead s.mem (s.dev.pu p).pc.toNat 15) = some (1 + len.val, 1 + cause.val) then
      s.puIllegalAt p (1 + len) (1 + cause)
    else s)

/-- SVC_YIELD. The task on purser p calls YIELD (R374). -/
def execSvcYield (p : Fin 4) (t : Ticks) (s : State) : Host.Outcome State Fault Refusal :=
  s.runPu t p [] ([0x04, 0x00]) (fun s => s.svcYield p)

/-- SVC_EXIT. The task on purser p calls EXIT (R374). -/
def execSvcExit (p : Fin 4) (t : Ticks) (s : State) : Host.Outcome State Fault Refusal :=
  s.runPu t p [] ([0x04, 0x01]) (fun s => s.svcExit p)

/-- SVC_WAIT. The task on purser p calls WAIT (R374). -/
def execSvcWait (p : Fin 4) (t : Ticks) (s : State) : Host.Outcome State Fault Refusal :=
  s.runPu t p [] ([0x04, 0x02]) (fun s => s.svcWait p)

/-- SIGNAL_LANE. The task on purser p calls SIGNAL_LANE (R374). -/
def execSignalLane (p : Fin 4) (t : Ticks) (s : State) : Host.Outcome State Fault Refusal :=
  s.runPu t p [] ([0x04, 0x04]) (fun s => s.svcSignalLane p)

/-- TASK_EVENT. The task on purser p calls TASK_EVENT (R374). -/
def execTaskEvent (p : Fin 4) (t : Ticks) (s : State) : Host.Outcome State Fault Refusal :=
  s.runPu t p [] ([0x04, 0x05]) (fun s => s.svcTaskEvent p)

/-- SVC_RANDOM. The task on purser p calls RANDOM (R374). -/
def execSvcRandom (p : Fin 4) (t : Ticks) (s : State) : Host.Outcome State Fault Refusal :=
  s.runPu t p [] ([0x04, 0x06]) (fun s => s.svcRandom p)

/-- SVC_OTHER_CODE. The task on purser p issues SVC with a code that is no service (R374). -/
def execSvcOtherCode (p : Fin 4) (code : Fin 256) (t : Ticks) (s : State) : Host.Outcome State Fault Refusal :=
  s.runPu t p [] ([0x04, BitVec.ofNat 8 code]) (fun s => s.svcOther p code)

/-- SVC_OAP. The task on purser p calls OAP (R374). -/
def execSvcOap (p : Fin 4) (env : WriteEnv) (t : Ticks) (s : State) : Host.Outcome State Fault Refusal :=
  s.runPu t p [] ([0x04, 0x03]) (fun s => s.svcOap p env)

/-- SVC_WAIT_TIMEOUT. The timeout of a WAIT of task k has passed (R374). -/
def execSvcWaitTimeout (k : Fin 16) (t : Ticks) (s : State) : Host.Outcome State Fault Refusal :=
  s.runS t (fun s => s.waitTimeout k)

/-- TASK_ENABLE. ENABLE of task k is written (R372, R375). -/
def execTaskEnable (k : Fin 16) (on : Bool) (t : Ticks) (s : State) : Host.Outcome State Fault Refusal :=
  s.runS t (fun s => s.objectWrite (fun s => s.taskEnable k on))

/-- TASK_SLICE. A slice on purser p ends; `share` says that the tasks have used their half of the cycles (R373). -/
def execTaskSlice (p : Fin 4) (share : Bool) (t : Ticks) (s : State) : Host.Outcome State Fault Refusal :=
  s.runS t (fun s => s.taskSlice p share)

/-- FETCH_FAULT. A core fetches at an address that it may not execute (R317, R361, R393). -/
def execFetchFault (r : CoreRef) (t : Ticks) (s : State) : Host.Outcome State Fault Refusal :=
  s.runS t (fun s => s.fetchFault r)

/-- IMPRECISE_NOTICE. A posted write of a master has failed at its target: the oldest that waits, or one with its address and cause (R391, R400, R408). -/
def execImpreciseNotice (m : Fin 174) (fail : Option (Nat × Nat)) (t : Ticks) (s : State) : Host.Outcome State Fault Refusal :=
  s.run t (fun d => d.impreciseNotice m fail)

end Sys2Proof.Machine
end

