-- ==== Sys2Proof/Machine/Queueing.lean ====
section
/-!
DEFINITION. Queues, items and the manifest (R108–R165).
-/
namespace Sys2Proof.Machine

/-- DB_SUB. The DB_SUB doorbell, through a function (R113, R282). -/
def execDbSub (pf : Fin 4) (q : Fin 16384) (pos : Nat) (t : Ticks) (s : State) : Host.Outcome State Fault Refusal :=
  s.run t (fun d => d.doorbell pf q (fun d => d.dbSub q pos))

/-- DB_CPL. The DB_CPL doorbell, through a function (R115, R282). -/
def execDbCpl (pf : Fin 4) (q : Fin 16384) (pos : Nat) (t : Ticks) (s : State) : Host.Outcome State Fault Refusal :=
  s.run t (fun d => d.doorbell pf q (fun d => d.dbCpl q pos))

/-- ITEM_ADMIT. The next descriptor of a submission ring, and what the fetch of its body answered (R117–R131). -/
def execItemAdmit (q : Fin 16384) (desc : Bytes) (body : Option Bytes) (t : Ticks) (s : State) : Host.Outcome State Fault Refusal :=
  s.offerWith t (fun d rd => d.admitNext rd q desc body)

/-- MIRROR_ACK. The standby acknowledges manifest writes up to a count (R128). -/
def execMirrorAck (n : Nat) (t : Ticks) (s : State) : Host.Outcome State Fault Refusal :=
  s.run t (fun d => d.twinGot.mirrorAck n)

/-- QUEUE_DISPATCH. The queue's next item goes to its target (R133). -/
def execQueueDispatch (q : Fin 16384) (t : Ticks) (s : State) : Host.Outcome State Fault Refusal :=
  s.run t (fun d => d.dispatch q)

/-- ITEM_EXPIRY. An item's EXPIRY has passed (R133). -/
def execItemExpiry (q : Fin 16384) (seq : Nat) (t : Ticks) (s : State) : Host.Outcome State Fault Refusal :=
  s.run t (fun d => d.expireItem q seq)

/-- CONFIRM_TIMEOUT. An item has not been confirmed in time (R133). -/
def execConfirmTimeout (q : Fin 16384) (seq : Nat) (t : Ticks) (s : State) : Host.Outcome State Fault Refusal :=
  s.run t (fun d => d.confirmTimeout q seq)

/-- CANCEL_SEQ. CANCEL_SEQ is written (R133). -/
def execCancelSeq (q : Fin 16384) (seq : Nat) (t : Ticks) (s : State) : Host.Outcome State Fault Refusal :=
  s.action t (fun d => d.cancelSeq q seq)

/-- QUE_RING_CFG. QUE_RING_CFG is written (R112, R159). -/
def execQueRingCfg (q : Fin 16384) (v : Nat) (t : Ticks) (s : State) : Host.Outcome State Fault Refusal :=
  s.run t (fun d => d.ringCfg q v)

/-- QUEUE_ENABLE. A queue's ENABLE is written ON (R112). -/
def execQueueEnable (q : Fin 16384) (t : Ticks) (s : State) : Host.Outcome State Fault Refusal :=
  s.action t (fun d => d.queueEnable q)

/-- QUEUE_DISABLE. A queue's ENABLE is written OFF (R151). -/
def execQueueDisable (q : Fin 16384) (t : Ticks) (s : State) : Host.Outcome State Fault Refusal :=
  s.action t (fun d => d.queueDisable q)

/-- QUEUE_DRAIN_DONE. A closing queue has no item left to finish (R151). -/
def execQueueDrainDone (q : Fin 16384) (t : Ticks) (s : State) : Host.Outcome State Fault Refusal :=
  s.run t (fun d => d.queueDrainDone q)

/-- REPLICATION_TIMEOUT. DETECT_TIME has passed without an acknowledgement (R132). -/
def execReplicationTimeout (t : Ticks) (s : State) : Host.Outcome State Fault Refusal :=
  s.run t (fun d => d.replicationTimeout)

/-- MANIFEST_SCRUB. A scrub pass and what it found, by head cell (R156). -/
def execManifestScrub (found : List (Nat × CellFault)) (t : Ticks) (s : State) : Host.Outcome State Fault Refusal :=
  s.run t (fun d => d.scrub found)

/-- HOLDUP_OK_FALL. HOLDUP_OK falls (R139). -/
def execHoldupOkFall (t : Ticks) (s : State) : Host.Outcome State Fault Refusal :=
  s.run t (fun d => d.holdupFall)

/-- HOLDUP_OK_RISE. HOLDUP_OK rises (R139). -/
def execHoldupOkRise (t : Ticks) (s : State) : Host.Outcome State Fault Refusal :=
  s.run t (fun d => d.holdupRise)

end Sys2Proof.Machine
end

