-- ==== Sys2Proof/Machine/Starting.lean ====
section
/-!
DEFINITION. Commands of power, reset and start-up (R143–R146, R616–R624).
-/
namespace Sys2Proof.Machine

/-- POWER_ON. VDD_AON comes into regulation (R616). -/
def execPowerOn (t : Ticks) (s : State) : Host.Outcome State Fault Refusal :=
  .next (s.withDev (s.dev.at_ t).powerOn)

/-- RESET_N_ASSERT. RESET_N goes low, and the time for which it stays low (R619, R631). -/
def execResetNAssert (low t : Ticks) (s : State) : Host.Outcome State Fault Refusal :=
  s.watch t (fun d => d.resetAssert low)

/-- RESET_N_RELEASE. RESET_N is released, and what the start finds (R617). -/
def execResetNRelease (i : StartIn) (t : Ticks) (s : State) : Host.Outcome State Fault Refusal :=
  s.watch t (fun d => d.resetRelease i)

/-- START_COMPLETE. Step 18 of the sequence (R617). -/
def execStartComplete (t : Ticks) (s : State) : Host.Outcome State Fault Refusal :=
  s.run t (fun d => d.startComplete)

/-- RESTART. RESTART is written, and what the start finds (R622, R624). -/
def execRestart (v : Nat) (i : StartIn) (t : Ticks) (s : State) : Host.Outcome State Fault Refusal :=
  s.boot t (fun d => d.restartWrite v i)

/-- VDD_AON_LOSS. VDD_AON leaves regulation (R143). -/
def execVddAonLoss (t : Ticks) (s : State) : Host.Outcome State Fault Refusal :=
  s.watch t Dev.vddAonLoss

/-- WARM_RESET. A fault of domain CHIP resets the device, and what the start finds (R507). -/
def execWarmReset (i : StartIn) (t : Ticks) (s : State) : Host.Outcome State Fault Refusal :=
  s.run t (fun d => d.warmReset i)

/-- POWER_FAIL. PWRFAIL_N goes low: for how long, and the sectors whose erase it cuts (R140, R582). -/
def execPowerFail (low : Ticks) (cut : List (Fin 6144)) (t : Ticks) (s : State) : Host.Outcome State Fault Refusal :=
  s.watch t (fun d => d.powerFailPin low (cut.map (fun k => k.val)))

/-- SAVE_COMPLETE. The save ends and the device parks (R140). -/
def execSaveComplete (t : Ticks) (s : State) : Host.Outcome State Fault Refusal :=
  s.watch t Dev.saveComplete

/-- SHUTDOWN. SHUTDOWN is written (R146). -/
def execShutdown (v : Nat) (t : Ticks) (s : State) : Host.Outcome State Fault Refusal :=
  s.write t (fun d => d.shutdownWrite v)

/-- SAVE_AREA_ERASE_DONE. An erase of a save area ends (R144, R145). -/
def execSaveAreaEraseDone (area : Fin 2) (t : Ticks) (s : State) : Host.Outcome State Fault Refusal :=
  s.run t (fun d => d.areaErased area.val)

/-- CHART_SWITCH_INSTANT. The switch instant has come, and what the start finds (R272). -/
def execChartSwitchInstant (i : StartIn) (t : Ticks) (s : State) : Host.Outcome State Fault Refusal :=
  s.run t (fun d => d.switchInstant i)

end Sys2Proof.Machine
end

