-- ==== Sys2Proof/Machine/Dispatch.lean ====
section
/-!
DEFINITION. One arm per command: the call of its meaning.
-/
namespace Sys2Proof.Machine
open Sys2Proof

def exec (i : Instr) (s : State) : Host.Outcome State Fault Refusal :=
  match i with
  | .bearingEdge b a c width raw t => Sys2Proof.Machine.execBearingEdge b a c width raw t s
  | .indexPulse b width t => Sys2Proof.Machine.execIndexPulse b width t s
  | .ssiSample b word parity edge t => Sys2Proof.Machine.execSsiSample b word parity edge t s
  | .mainsCrossing b phase rising peak before after t => Sys2Proof.Machine.execMainsCrossing b phase rising peak before after t s
  | .wireFault b t => Sys2Proof.Machine.execWireFault b t s
  | .rateFault b t => Sys2Proof.Machine.execRateFault b t s
  | .edgeTimeout b t => Sys2Proof.Machine.execEdgeTimeout b t s
  | .coastExpired b t => Sys2Proof.Machine.execCoastExpired b t s
  | .bearingEnable b t => Sys2Proof.Machine.execBearingEnable b t s
  | .bearingDisable b t => Sys2Proof.Machine.execBearingDisable b t s
  | .bearingDrainDone b t => Sys2Proof.Machine.execBearingDrainDone b t s
  | .positionSet b v t => Sys2Proof.Machine.execPositionSet b v t s
  | .calCapture b t => Sys2Proof.Machine.execCalCapture b t s
  | .calCaptureDone b at_ t => Sys2Proof.Machine.execCalCaptureDone b at_ t s
  | .bearingPublish b instant t => Sys2Proof.Machine.execBearingPublish b instant t s
  | .bearingFrameReceive f t => Sys2Proof.Machine.execBearingFrameReceive f t s
  | .ferryBearingSample b r x lost t => Sys2Proof.Machine.execFerryBearingSample b r x lost t s
  | .launchCommit r t => Sys2Proof.Machine.execLaunchCommit r t s
  | .frameSeal h t => Sys2Proof.Machine.execFrameSeal h t s
  | .launchAction t => Sys2Proof.Machine.execLaunchAction t s
  | .pulseEnd n t => Sys2Proof.Machine.execPulseEnd n t s
  | .pinSense n measured t => Sys2Proof.Machine.execPinSense n measured t s
  | .release h t => Sys2Proof.Machine.execRelease h t s
  | .cancel h t => Sys2Proof.Machine.execCancel h t s
  | .pinEnable n t => Sys2Proof.Machine.execPinEnable n t s
  | .pinDisable n t => Sys2Proof.Machine.execPinDisable n t s
  | .pinDrainDone n t => Sys2Proof.Machine.execPinDrainDone n t s
  | .pinRecalCheck n t => Sys2Proof.Machine.execPinRecalCheck n t s
  | .pinRecalDone n rise fall temp t => Sys2Proof.Machine.execPinRecalDone n rise fall temp t s
  | .lchEntrySel h t => Sys2Proof.Machine.execLchEntrySel h t s
  | .overlayPrepare chip h image t => Sys2Proof.Machine.execOverlayPrepare chip h image t s
  | .overlayAnswer chip h sender a t => Sys2Proof.Machine.execOverlayAnswer chip h sender a t s
  | .overlayDecide chip h t => Sys2Proof.Machine.execOverlayDecide chip h t s
  | .overlayDecisionReceive chip h dec t => Sys2Proof.Machine.execOverlayDecisionReceive chip h dec t s
  | .dbSub pf q pos t => Sys2Proof.Machine.execDbSub pf q pos t s
  | .dbCpl pf q pos t => Sys2Proof.Machine.execDbCpl pf q pos t s
  | .itemAdmit q desc body t => Sys2Proof.Machine.execItemAdmit q desc body t s
  | .mirrorAck n t => Sys2Proof.Machine.execMirrorAck n t s
  | .queueDispatch q t => Sys2Proof.Machine.execQueueDispatch q t s
  | .itemExpiry q seq t => Sys2Proof.Machine.execItemExpiry q seq t s
  | .confirmTimeout q seq t => Sys2Proof.Machine.execConfirmTimeout q seq t s
  | .cancelSeq q seq t => Sys2Proof.Machine.execCancelSeq q seq t s
  | .queRingCfg q v t => Sys2Proof.Machine.execQueRingCfg q v t s
  | .queueEnable q t => Sys2Proof.Machine.execQueueEnable q t s
  | .queueDisable q t => Sys2Proof.Machine.execQueueDisable q t s
  | .queueDrainDone q t => Sys2Proof.Machine.execQueueDrainDone q t s
  | .replicationTimeout t => Sys2Proof.Machine.execReplicationTimeout t s
  | .manifestScrub found t => Sys2Proof.Machine.execManifestScrub found t s
  | .warmReset ix t => Sys2Proof.Machine.execWarmReset ix t s
  | .powerFail low cut t => Sys2Proof.Machine.execPowerFail low cut t s
  | .saveComplete t => Sys2Proof.Machine.execSaveComplete t s
  | .holdupOkFall t => Sys2Proof.Machine.execHoldupOkFall t s
  | .holdupOkRise t => Sys2Proof.Machine.execHoldupOkRise t s
  | .shutdown v t => Sys2Proof.Machine.execShutdown v t s
  | .saveAreaEraseDone area t => Sys2Proof.Machine.execSaveAreaEraseDone area t s
  | .portEnable p on t => Sys2Proof.Machine.execPortEnable p on t s
  | .portLink p up t => Sys2Proof.Machine.execPortLink p up t s
  | .timeSyncMessage m t => Sys2Proof.Machine.execTimeSyncMessage m t s
  | .syncLoss t => Sys2Proof.Machine.execSyncLoss t s
  | .holdoverLimit t => Sys2Proof.Machine.execHoldoverLimit t s
  | .ppsOut t => Sys2Proof.Machine.execPpsOut t s
  | .setupOpen f t => Sys2Proof.Machine.execSetupOpen f t s
  | .setupAnswer f t => Sys2Proof.Machine.execSetupAnswer f t s
  | .setupConfirm f t => Sys2Proof.Machine.execSetupConfirm f t s
  | .setupRefuse f t => Sys2Proof.Machine.execSetupRefuse f t s
  | .setupTimeout t => Sys2Proof.Machine.execSetupTimeout t s
  | .setupRetransmit ix t => Sys2Proof.Machine.execSetupRetransmit ix t s
  | .cmdReceive f t => Sys2Proof.Machine.execCmdReceive f t s
  | .ackReceive f t => Sys2Proof.Machine.execAckReceive f t s
  | .nackReceive f t => Sys2Proof.Machine.execNackReceive f t s
  | .dataReceive f t => Sys2Proof.Machine.execDataReceive f t s
  | .streamReceive f t => Sys2Proof.Machine.execStreamReceive f t s
  | .safeReceive f t => Sys2Proof.Machine.execSafeReceive f t s
  | .heartbeatReceive f t => Sys2Proof.Machine.execHeartbeatReceive f t s
  | .claimReceive f t => Sys2Proof.Machine.execClaimReceive f t s
  | .keyupdReceive f t => Sys2Proof.Machine.execKeyupdReceive f t s
  | .jqueryReceive f t => Sys2Proof.Machine.execJqueryReceive f t s
  | .heartbeatSend ix t => Sys2Proof.Machine.execHeartbeatSend ix t s
  | .hbTimeout ix t => Sys2Proof.Machine.execHbTimeout ix t s
  | .retxTime q seq t => Sys2Proof.Machine.execRetxTime q seq t s
  | .rekey ix t => Sys2Proof.Machine.execRekey ix t s
  | .keyupdRetry ix t => Sys2Proof.Machine.execKeyupdRetry ix t s
  | .keyOverlap ix t => Sys2Proof.Machine.execKeyOverlap ix t s
  | .rebaseStart ix t => Sys2Proof.Machine.execRebaseStart ix t s
  | .rebaseTimeout ix t => Sys2Proof.Machine.execRebaseTimeout ix t s
  | .safeSend ix t => Sys2Proof.Machine.execSafeSend ix t s
  | .safeRepeat ix t => Sys2Proof.Machine.execSafeRepeat ix t s
  | .reopen ix fresh t => Sys2Proof.Machine.execReopen ix fresh t s
  | .sessionEnable ix on t => Sys2Proof.Machine.execSessionEnable ix on t s
  | .streamGap n t => Sys2Proof.Machine.execStreamGap n t s
  | .epochClose n t => Sys2Proof.Machine.execEpochClose n t s
  | .epochSealed n t => Sys2Proof.Machine.execEpochSealed n t s
  | .streamEnable n on t => Sys2Proof.Machine.execStreamEnable n on t s
  | .certRequest n selector low high ref t => Sys2Proof.Machine.execCertRequest n selector low high ref t s
  | .certIssued n t => Sys2Proof.Machine.execCertIssued n t s
  | .ferryPortEnable p on t => Sys2Proof.Machine.execFerryPortEnable p on t s
  | .ferryTrainingTimeout p t => Sys2Proof.Machine.execFerryTrainingTimeout p t s
  | .ferryPortUp p r t => Sys2Proof.Machine.execFerryPortUp p r t s
  | .ferryNak p ack tagOk t => Sys2Proof.Machine.execFerryNak p ack tagOk t s
  | .ferryIdle p ack tagOk t => Sys2Proof.Machine.execFerryIdle p ack tagOk t s
  | .ferryIdleSend p t => Sys2Proof.Machine.execFerryIdleSend p t s
  | .ferryResendTimeout p t => Sys2Proof.Machine.execFerryResendTimeout p t s
  | .ferryDown p t => Sys2Proof.Machine.execFerryDown p t s
  | .ferryTimeSend p t => Sys2Proof.Machine.execFerryTimeSend p t s
  | .ferryTimeExchange p x t => Sys2Proof.Machine.execFerryTimeExchange p x t s
  | .masterLost t => Sys2Proof.Machine.execMasterLost t s
  | .twinHeartbeatSend t => Sys2Proof.Machine.execTwinHeartbeatSend t s
  | .twinHeartbeatReceive h t => Sys2Proof.Machine.execTwinHeartbeatReceive h t s
  | .replRecord n c t => Sys2Proof.Machine.execReplRecord n c t s
  | .replSessionState ix c t => Sys2Proof.Machine.execReplSessionState ix c t s
  | .replKeys ix k r t => Sys2Proof.Machine.execReplKeys ix k r t s
  | .unjoin claim _reason t => Sys2Proof.Machine.execUnjoin claim _reason t s
  | .resync block half cells t => Sys2Proof.Machine.execResync block half cells t s
  | .takeover t => Sys2Proof.Machine.execTakeover t s
  | .mirrorStale t => Sys2Proof.Machine.execMirrorStale t s
  | .joinTime t => Sys2Proof.Machine.execJoinTime t s
  | .yield t => Sys2Proof.Machine.execYield t s
  | .yieldReceive claim y t => Sys2Proof.Machine.execYieldReceive claim y t s
  | .yieldInstant t => Sys2Proof.Machine.execYieldInstant t s
  | .yieldFailed t => Sys2Proof.Machine.execYieldFailed t s
  | .isolationConfirm t => Sys2Proof.Machine.execIsolationConfirm t s
  | .peerDead t => Sys2Proof.Machine.execPeerDead t s
  | .pierRetire p cause excess fin t => Sys2Proof.Machine.execPierRetire p cause excess fin t s
  | .oapRead src t => Sys2Proof.Machine.execOapRead src t s
  | .oapWrite src env t => Sys2Proof.Machine.execOapWrite src env t s
  | .oapReadBlock src t => Sys2Proof.Machine.execOapReadBlock src t s
  | .oapWriteBlock src env t => Sys2Proof.Machine.execOapWriteBlock src env t s
  | .oapSubscribe src t => Sys2Proof.Machine.execOapSubscribe src t s
  | .oapAbort src t => Sys2Proof.Machine.execOapAbort src t s
  | .activateStore src t => Sys2Proof.Machine.execActivateStore src t s
  | .activateChartSwitch src t => Sys2Proof.Machine.execActivateChartSwitch src t s
  | .activateDelete src t => Sys2Proof.Machine.execActivateDelete src t s
  | .chartSwitchInstant ix t => Sys2Proof.Machine.execChartSwitchInstant ix t s
  | .notify req id t => Sys2Proof.Machine.execNotify req id t s
  | .shadowExpiry t => Sys2Proof.Machine.execShadowExpiry t s
  | .mbDoorbell pf request t => Sys2Proof.Machine.execMbDoorbell pf request t s
  | .mbResponse t => Sys2Proof.Machine.execMbResponse t s
  | .flr f busMaster t => Sys2Proof.Machine.execFlr f busMaster t s
  | .pcieLinkDown t => Sys2Proof.Machine.execPcieLinkDown t s
  | .pcieLinkUp width speed t => Sys2Proof.Machine.execPcieLinkUp width speed t s
  | .hostDmaError q f t => Sys2Proof.Machine.execHostDmaError q f t s
  | .vectorFire v t => Sys2Proof.Machine.execVectorFire v t s
  | .vectorUnmask u t => Sys2Proof.Machine.execVectorUnmask u t s
  | .evtPendingClear pf w v t => Sys2Proof.Machine.execEvtPendingClear pf w v t s
  | .evtRouteWrite pf src word v t => Sys2Proof.Machine.execEvtRouteWrite pf src word v t s
  | .registerWrite pf r v t => Sys2Proof.Machine.execRegisterWrite pf r v t s
  | .dhMov n d r t => Sys2Proof.Machine.execDhMov n d r t s
  | .dhAdd n d r t => Sys2Proof.Machine.execDhAdd n d r t s
  | .dhSub n d r t => Sys2Proof.Machine.execDhSub n d r t s
  | .dhAdc n d r t => Sys2Proof.Machine.execDhAdc n d r t s
  | .dhSbc n d r t => Sys2Proof.Machine.execDhSbc n d r t s
  | .dhAnd n d r t => Sys2Proof.Machine.execDhAnd n d r t s
  | .dhOr n d r t => Sys2Proof.Machine.execDhOr n d r t s
  | .dhXor n d r t => Sys2Proof.Machine.execDhXor n d r t s
  | .dhCmp n d r t => Sys2Proof.Machine.execDhCmp n d r t s
  | .dhTst n d r t => Sys2Proof.Machine.execDhTst n d r t s
  | .dhLsl n d r t => Sys2Proof.Machine.execDhLsl n d r t s
  | .dhLsr n d r t => Sys2Proof.Machine.execDhLsr n d r t s
  | .dhAsr n d r t => Sys2Proof.Machine.execDhAsr n d r t s
  | .dhRor n d r t => Sys2Proof.Machine.execDhRor n d r t s
  | .dhMulu n d r t => Sys2Proof.Machine.execDhMulu n d r t s
  | .dhMuls n d r t => Sys2Proof.Machine.execDhMuls n d r t s
  | .dhProductComplete n t => Sys2Proof.Machine.execDhProductComplete n t s
  | .dhMovi n d own l t => Sys2Proof.Machine.execDhMovi n d own l t s
  | .dhAddi n d own l t => Sys2Proof.Machine.execDhAddi n d own l t s
  | .dhCmpi n d own l t => Sys2Proof.Machine.execDhCmpi n d own l t s
  | .dhShi n d imm t => Sys2Proof.Machine.execDhShi n d imm t s
  | .dhBr n own l t => Sys2Proof.Machine.execDhBr n own l t s
  | .dhCall n own l t => Sys2Proof.Machine.execDhCall n own l t s
  | .dhJr n r t => Sys2Proof.Machine.execDhJr n r t s
  | .dhCallr n r t => Sys2Proof.Machine.execDhCallr n r t s
  | .dhRet n t => Sys2Proof.Machine.execDhRet n t s
  | .dhTret n t => Sys2Proof.Machine.execDhTret n t s
  | .dhWait n t => Sys2Proof.Machine.execDhWait n t s
  | .dhNop n t => Sys2Proof.Machine.execDhNop n t s
  | .dhSkcc n cc t => Sys2Proof.Machine.execDhSkcc n cc t s
  | .dhLoop n r own l t => Sys2Proof.Machine.execDhLoop n r own l t s
  | .dhLdb n r base l t => Sys2Proof.Machine.execDhLdb n r base l t s
  | .dhLdh n r base l t => Sys2Proof.Machine.execDhLdh n r base l t s
  | .dhLdw n r base l t => Sys2Proof.Machine.execDhLdw n r base l t s
  | .dhStb n r base l shadow t => Sys2Proof.Machine.execDhStb n r base l shadow t s
  | .dhSth n r base l shadow t => Sys2Proof.Machine.execDhSth n r base l shadow t s
  | .dhStw n r base l shadow t => Sys2Proof.Machine.execDhStw n r base l shadow t s
  | .dhMfs n r sr t => Sys2Proof.Machine.execDhMfs n r sr t s
  | .dhMts n sr r shadow t => Sys2Proof.Machine.execDhMts n sr r shadow t s
  | .dhRdfeat n r k t => Sys2Proof.Machine.execDhRdfeat n r k t s
  | .dhBsw16 n r t => Sys2Proof.Machine.execDhBsw16 n r t s
  | .dhBsw32 n r t => Sys2Proof.Machine.execDhBsw32 n r t s
  | .dhMovs n upTo t => Sys2Proof.Machine.execDhMovs n upTo t s
  | .dhFils n r upTo t => Sys2Proof.Machine.execDhFils n r upTo t s
  | .dhCmps n upTo t => Sys2Proof.Machine.execDhCmps n upTo t s
  | .dhScns n r upTo t => Sys2Proof.Machine.execDhScns n r upTo t s
  | .dhCrcs n r upTo t => Sys2Proof.Machine.execDhCrcs n r upTo t s
  | .dhSums n r upTo t => Sys2Proof.Machine.execDhSums n r upTo t s
  | .dhSnap n r t => Sys2Proof.Machine.execDhSnap n r t s
  | .dhFence n shadow t => Sys2Proof.Machine.execDhFence n shadow t s
  | .qpost n r shadow t => Sys2Proof.Machine.execQpost n r shadow t s
  | .lpost n r shadow t => Sys2Proof.Machine.execLpost n r shadow t s
  | .qtake n r shadow t => Sys2Proof.Machine.execQtake n r shadow t s
  | .qconf n r shadow t => Sys2Proof.Machine.execQconf n r shadow t s
  | .qrej n r shadow t => Sys2Proof.Machine.execQrej n r shadow t s
  | .ftake n r shadow t => Sys2Proof.Machine.execFtake n r shadow t s
  | .fdone n r shadow t => Sys2Proof.Machine.execFdone n r shadow t s
  | .ffwd n r shadow t => Sys2Proof.Machine.execFfwd n r shadow t s
  | .bvrd n r shadow t => Sys2Proof.Machine.execBvrd n r shadow t s
  | .clock n r shadow t => Sys2Proof.Machine.execClock n r shadow t s
  | .cfree n r shadow t => Sys2Proof.Machine.execCfree n r shadow t s
  | .levt n r shadow t => Sys2Proof.Machine.execLevt n r shadow t s
  | .wdog n shadow t => Sys2Proof.Machine.execWdog n shadow t s
  | .laneWatchdog n t => Sys2Proof.Machine.execLaneWatchdog n t s
  | .pairedLaneLag n lag t => Sys2Proof.Machine.execPairedLaneLag n lag t s
  | .laneEnable n on t => Sys2Proof.Machine.execLaneEnable n on t s
  | .laneStop n t => Sys2Proof.Machine.execLaneStop n t s
  | .dhEventException n t => Sys2Proof.Machine.execDhEventException n t s
  | .impreciseNotice m fail t => Sys2Proof.Machine.execImpreciseNotice m fail t s
  | .acuImpreciseClear m t => Sys2Proof.Machine.execAcuImpreciseClear m t s
  | .acuRgnAttr m r v t => Sys2Proof.Machine.execAcuRgnAttr m r v t s
  | .puNop p t => Sys2Proof.Machine.execPuNop p t s
  | .puTret p t => Sys2Proof.Machine.execPuTret p t s
  | .puWait p t => Sys2Proof.Machine.execPuWait p t s
  | .puFence p t => Sys2Proof.Machine.execPuFence p t s
  | .puTsw p r t => Sys2Proof.Machine.execPuTsw p r t s
  | .puSnap p r t => Sys2Proof.Machine.execPuSnap p r t s
  | .puMov p x r src t => Sys2Proof.Machine.execPuMov p x r src t s
  | .puAdd p x r src t => Sys2Proof.Machine.execPuAdd p x r src t s
  | .puSub p x r src t => Sys2Proof.Machine.execPuSub p x r src t s
  | .puAdc p x r src t => Sys2Proof.Machine.execPuAdc p x r src t s
  | .puSbc p x r src t => Sys2Proof.Machine.execPuSbc p x r src t s
  | .puAnd p x r src t => Sys2Proof.Machine.execPuAnd p x r src t s
  | .puOr p x r src t => Sys2Proof.Machine.execPuOr p x r src t s
  | .puXor p x r src t => Sys2Proof.Machine.execPuXor p x r src t s
  | .puCmp p x r src t => Sys2Proof.Machine.execPuCmp p x r src t s
  | .puTst p x r src t => Sys2Proof.Machine.execPuTst p x r src t s
  | .puLsl p x r src t => Sys2Proof.Machine.execPuLsl p x r src t s
  | .puLsr p x r src t => Sys2Proof.Machine.execPuLsr p x r src t s
  | .puAsr p x r src t => Sys2Proof.Machine.execPuAsr p x r src t s
  | .puRor p x r src t => Sys2Proof.Machine.execPuRor p x r src t s
  | .puMulu p w r src t => Sys2Proof.Machine.execPuMulu p w r src t s
  | .puMuls p w r src t => Sys2Proof.Machine.execPuMuls p w r src t s
  | .puProductComplete p t => Sys2Proof.Machine.execPuProductComplete p t s
  | .puMovi p x r imm t => Sys2Proof.Machine.execPuMovi p x r imm t s
  | .puAddi p x r imm t => Sys2Proof.Machine.execPuAddi p x r imm t s
  | .puSubi p x r imm t => Sys2Proof.Machine.execPuSubi p x r imm t s
  | .puAndi p x r imm t => Sys2Proof.Machine.execPuAndi p x r imm t s
  | .puOri p x r imm t => Sys2Proof.Machine.execPuOri p x r imm t s
  | .puXori p x r imm t => Sys2Proof.Machine.execPuXori p x r imm t s
  | .puCmpi p x r imm t => Sys2Proof.Machine.execPuCmpi p x r imm t s
  | .puTsti p x r imm t => Sys2Proof.Machine.execPuTsti p x r imm t s
  | .puLsli p x r imm t => Sys2Proof.Machine.execPuLsli p x r imm t s
  | .puLsri p x r imm t => Sys2Proof.Machine.execPuLsri p x r imm t s
  | .puAsri p x r imm t => Sys2Proof.Machine.execPuAsri p x r imm t s
  | .puRori p x r imm t => Sys2Proof.Machine.execPuRori p x r imm t s
  | .puNeg p x r t => Sys2Proof.Machine.execPuNeg p x r t s
  | .puNot p x r t => Sys2Proof.Machine.execPuNot p x r t s
  | .puLd p w m r b x t => Sys2Proof.Machine.execPuLd p w m r b x t s
  | .puLds p w m r b x t => Sys2Proof.Machine.execPuLds p w m r b x t s
  | .puSt p w m r b x t => Sys2Proof.Machine.execPuSt p w m r b x t s
  | .puLea p y r b x t => Sys2Proof.Machine.execPuLea p y r b x t s
  | .puMadd p w atom r b x t => Sys2Proof.Machine.execPuMadd p w atom r b x t s
  | .puMand p w atom r b x t => Sys2Proof.Machine.execPuMand p w atom r b x t s
  | .puMor p w atom r b x t => Sys2Proof.Machine.execPuMor p w atom r b x t s
  | .puMxor p w atom r b x t => Sys2Proof.Machine.execPuMxor p w atom r b x t s
  | .puXchg p w atom r b x t => Sys2Proof.Machine.execPuXchg p w atom r b x t s
  | .puCas p w atom r b x t => Sys2Proof.Machine.execPuCas p w atom r b x t s
  | .puBr p tw rel t => Sys2Proof.Machine.execPuBr p tw rel t s
  | .puCall p tw st rel t => Sys2Proof.Machine.execPuCall p tw st rel t s
  | .puJr p tw r t => Sys2Proof.Machine.execPuJr p tw r t s
  | .puCallr p tw r st t => Sys2Proof.Machine.execPuCallr p tw r st t s
  | .puRet p tw st t => Sys2Proof.Machine.execPuRet p tw st t s
  | .puPush p r st t => Sys2Proof.Machine.execPuPush p r st t s
  | .puPop p r st t => Sys2Proof.Machine.execPuPop p r st t s
  | .puSkcc p tw cc t => Sys2Proof.Machine.execPuSkcc p tw cc t s
  | .puMfs p tw r sr t => Sys2Proof.Machine.execPuMfs p tw r sr t s
  | .puMts p sr r t => Sys2Proof.Machine.execPuMts p sr r t s
  | .puMovs p x keywin t => Sys2Proof.Machine.execPuMovs p x keywin t s
  | .puFils p x t => Sys2Proof.Machine.execPuFils p x t s
  | .puCmps p x t => Sys2Proof.Machine.execPuCmps p x t s
  | .puScns p x t => Sys2Proof.Machine.execPuScns p x t s
  | .puCrcs p x r t => Sys2Proof.Machine.execPuCrcs p x r t s
  | .puRnd p r t => Sys2Proof.Machine.execPuRnd p r t s
  | .puBswap p w r t => Sys2Proof.Machine.execPuBswap p w r t s
  | .puClz p w r src t => Sys2Proof.Machine.execPuClz p w r src t s
  | .puPopc p w r src t => Sys2Proof.Machine.execPuPopc p w r src t s
  | .puSelz p w r src t => Sys2Proof.Machine.execPuSelz p w r src t s
  | .puSext p w r src t => Sys2Proof.Machine.execPuSext p w r src t s
  | .puZext p w r src t => Sys2Proof.Machine.execPuZext p w r src t s
  | .puInterrupt p source t => Sys2Proof.Machine.execPuInterrupt p source t s
  | .svcYield p t => Sys2Proof.Machine.execSvcYield p t s
  | .svcExit p t => Sys2Proof.Machine.execSvcExit p t s
  | .svcWait p t => Sys2Proof.Machine.execSvcWait p t s
  | .svcWaitTimeout k t => Sys2Proof.Machine.execSvcWaitTimeout k t s
  | .svcOap p env t => Sys2Proof.Machine.execSvcOap p env t s
  | .signalLane p t => Sys2Proof.Machine.execSignalLane p t s
  | .taskEvent p t => Sys2Proof.Machine.execTaskEvent p t s
  | .svcRandom p t => Sys2Proof.Machine.execSvcRandom p t s
  | .taskEnable k on t => Sys2Proof.Machine.execTaskEnable k on t s
  | .taskSlice p share t => Sys2Proof.Machine.execTaskSlice p share t s
  | .cipLock c writes t => Sys2Proof.Machine.execCipLock c writes t s
  | .cipKeyh c user keyh t => Sys2Proof.Machine.execCipKeyh c user keyh t s
  | .cipKeyLoaded c t => Sys2Proof.Machine.execCipKeyLoaded c t s
  | .cipGcmSeal c user ctrl t => Sys2Proof.Machine.execCipGcmSeal c user ctrl t s
  | .cipGcmOpen c user ctrl t => Sys2Proof.Machine.execCipGcmOpen c user ctrl t s
  | .cipCtr c user ctrl t => Sys2Proof.Machine.execCipCtr c user ctrl t s
  | .cipCmacGen c user ctrl t => Sys2Proof.Machine.execCipCmacGen c user ctrl t s
  | .cipCmacVerify c user ctrl t => Sys2Proof.Machine.execCipCmacVerify c user ctrl t s
  | .cipherJobDone c blocks mismatch t => Sys2Proof.Machine.execCipherJobDone c blocks mismatch t s
  | .cipherSelftest c pass t => Sys2Proof.Machine.execCipherSelftest c pass t s
  | .cipherLockHeld c t => Sys2Proof.Machine.execCipherLockHeld c t s
  | .cipherEnable c on t => Sys2Proof.Machine.execCipherEnable c on t s
  | .hshJqTail r pos t => Sys2Proof.Machine.execHshJqTail r pos t s
  | .hshCqHead r pos t => Sys2Proof.Machine.execHshCqHead r pos t s
  | .hshRingCfg r v tags t => Sys2Proof.Machine.execHshRingCfg r v tags t s
  | .hashSha256 r f t => Sys2Proof.Machine.execHashSha256 r f t s
  | .hashHmac r f t => Sys2Proof.Machine.execHashHmac r f t s
  | .hkdfExtract r f t => Sys2Proof.Machine.execHkdfExtract r f t s
  | .hkdfExpand r f t => Sys2Proof.Machine.execHkdfExpand r f t s
  | .slhSign r f selfOk t => Sys2Proof.Machine.execSlhSign r f selfOk t s
  | .slhVerify r f agree t => Sys2Proof.Machine.execSlhVerify r f agree t s
  | .hashJobDone ix t => Sys2Proof.Machine.execHashJobDone ix t s
  | .hashSelftest core pass t => Sys2Proof.Machine.execHashSelftest core pass t s
  | .bgnLock writes t => Sys2Proof.Machine.execBgnLock writes t s
  | .bgnSlot user ix v t => Sys2Proof.Machine.execBgnSlot user ix v t s
  | .bgnAdd t => Sys2Proof.Machine.execBgnAdd t s
  | .bgnSub t => Sys2Proof.Machine.execBgnSub t s
  | .bgnMul t => Sys2Proof.Machine.execBgnMul t s
  | .toMont t => Sys2Proof.Machine.execToMont t s
  | .fromMont t => Sys2Proof.Machine.execFromMont t s
  | .bgnInv t => Sys2Proof.Machine.execBgnInv t s
  | .bgnExp t => Sys2Proof.Machine.execBgnExp t s
  | .expBlind t => Sys2Proof.Machine.execExpBlind t s
  | .bgnCopy t => Sys2Proof.Machine.execBgnCopy t s
  | .setMod t => Sys2Proof.Machine.execSetMod t s
  | .bgnRandom t => Sys2Proof.Machine.execBgnRandom t s
  | .loadKey t => Sys2Proof.Machine.execLoadKey t s
  | .storeKey t => Sys2Proof.Machine.execStoreKey t s
  | .bnJob req t => Sys2Proof.Machine.execBnJob req t s
  | .bnJobDone t => Sys2Proof.Machine.execBnJobDone t s
  | .rngSeedReady t => Sys2Proof.Machine.execRngSeedReady t s
  | .rngHealthFail g test t => Sys2Proof.Machine.execRngHealthFail g test t s
  | .rngGroupRetest g pass t => Sys2Proof.Machine.execRngGroupRetest g pass t s
  | .rngClientReseed c t => Sys2Proof.Machine.execRngClientReseed c t s
  | .keyGenerate req t => Sys2Proof.Machine.execKeyGenerate req t s
  | .keyImport req t => Sys2Proof.Machine.execKeyImport req t s
  | .keyRestrict req t => Sys2Proof.Machine.execKeyRestrict req t s
  | .keyDestroy ix t => Sys2Proof.Machine.execKeyDestroy ix t s
  | .lcNonce tap t => Sys2Proof.Machine.execLcNonce tap t s
  | .nonceExpiry t => Sys2Proof.Machine.execNonceExpiry t s
  | .lcTransition req agree cut t => Sys2Proof.Machine.execLcTransition req agree cut t s
  | .lcTransitionReset ix t => Sys2Proof.Machine.execLcTransitionReset ix t s
  | .lcAnchors req agree t => Sys2Proof.Machine.execLcAnchors req agree t s
  | .lcChain req agree t => Sys2Proof.Machine.execLcChain req agree t s
  | .dbgAuth req agree t => Sys2Proof.Machine.execDbgAuth req agree t s
  | .debugExpiry t => Sys2Proof.Machine.execDebugExpiry t s
  | .bypass bits t => Sys2Proof.Machine.execBypass bits t s
  | .idcode t => Sys2Proof.Machine.execIdcode t s
  | .samplePreload bits captured load t => Sys2Proof.Machine.execSamplePreload bits captured load t s
  | .extest bits captured load t => Sys2Proof.Machine.execExtest bits captured load t s
  | .birthCert cert agree t => Sys2Proof.Machine.execBirthCert cert agree t s
  | .attestChallenge c t => Sys2Proof.Machine.execAttestChallenge c t s
  | .attestDone t => Sys2Proof.Machine.execAttestDone t s
  | .releaseHold v t => Sys2Proof.Machine.execReleaseHold v t s
  | .releaseSafe v t => Sys2Proof.Machine.execReleaseSafe v t s
  | .fcuFaultn v t => Sys2Proof.Machine.execFcuFaultn v t s
  | .fcuActive w v t => Sys2Proof.Machine.execFcuActive w v t s
  | .mergeWindow src t => Sys2Proof.Machine.execMergeWindow src t s
  | .faultnMinLow t => Sys2Proof.Machine.execFaultnMinLow t s
  | .extFault lowFor t => Sys2Proof.Machine.execExtFault lowFor t s
  | .supplyGlitch rail rising width t => Sys2Proof.Machine.execSupplyGlitch rail rising width t s
  | .slowSupply rail len t => Sys2Proof.Machine.execSlowSupply rail len t s
  | .clockGlitch t => Sys2Proof.Machine.execClockGlitch t s
  | .refclkLoss gap t => Sys2Proof.Machine.execRefclkLoss gap t s
  | .temperatureHigh t => Sys2Proof.Machine.execTemperatureHigh t s
  | .temperatureLow t => Sys2Proof.Machine.execTemperatureLow t s
  | .shieldEvent short rails t => Sys2Proof.Machine.execShieldEvent short rails t s
  | .monitorArm inRange t => Sys2Proof.Machine.execMonitorArm inRange t s
  | .clsEnable on t => Sys2Proof.Machine.execClsEnable on t s
  | .clsPing ext ampl phase t => Sys2Proof.Machine.execClsPing ext ampl phase t s
  | .clsPoll cards unread stuck ampl phase t => Sys2Proof.Machine.execClsPoll cards unread stuck ampl phase t s
  | .rfGrant ext ampl phase t => Sys2Proof.Machine.execRfGrant ext ampl phase t s
  | .rfStarved t => Sys2Proof.Machine.execRfStarved t s
  | .presenceCheck c answered agree t => Sys2Proof.Machine.execPresenceCheck c answered agree t s
  | .cardArrived c agree t => Sys2Proof.Machine.execCardArrived c agree t s
  | .tagGetInfo inf t => Sys2Proof.Machine.execTagGetInfo inf t s
  | .tagRead fields t => Sys2Proof.Machine.execTagRead fields t s
  | .tagWrite page wsn data mac energy t => Sys2Proof.Machine.execTagWrite page wsn data mac energy t s
  | .tagFieldLoss w t => Sys2Proof.Machine.execTagFieldLoss w t s
  | .vharvRecover t => Sys2Proof.Machine.execVharvRecover t s
  | .tagPage p data t => Sys2Proof.Machine.execTagPage p data t s
  | .cardDetect x t => Sys2Proof.Machine.execCardDetect x t s
  | .cardRemoved x t => Sys2Proof.Machine.execCardRemoved x t s
  | .atrReceive x atr t => Sys2Proof.Machine.execAtrReceive x atr t s
  | .atrTimeout x t => Sys2Proof.Machine.execAtrTimeout x t s
  | .ppsAnswer x ans t => Sys2Proof.Machine.execPpsAnswer x ans t s
  | .t1BlockReceive x blk t => Sys2Proof.Machine.execT1BlockReceive x blk t s
  | .bwtTimeout x t => Sys2Proof.Machine.execBwtTimeout x t s
  | .kolzelSelect p resp t => Sys2Proof.Machine.execKolzelSelect p resp t s
  | .kolzelIdentify p resp t => Sys2Proof.Machine.execKolzelIdentify p resp t s
  | .kolzelAuthenticate p resp agree t => Sys2Proof.Machine.execKolzelAuthenticate p resp agree t s
  | .recordGrant p resp agree t => Sys2Proof.Machine.execRecordGrant p resp agree t s
  | .journalQuery p resp agree t => Sys2Proof.Machine.execJournalQuery p resp agree t s
  | .opiChange k chanB high agree t => Sys2Proof.Machine.execOpiChange k chanB high agree t s
  | .discTime k t => Sys2Proof.Machine.execDiscTime k t s
  | .permitRequest rule agree t => Sys2Proof.Machine.execPermitRequest rule agree t s
  | .revoke n role t => Sys2Proof.Machine.execRevoke n role t s
  | .clearInDoubt n t => Sys2Proof.Machine.execClearInDoubt n t s
  | .permitExpiry n t => Sys2Proof.Machine.execPermitExpiry n t s
  | .flashEraseRoundDone bank l t => Sys2Proof.Machine.execFlashEraseRoundDone bank l t s
  | .flashScrub found old t => Sys2Proof.Machine.execFlashScrub found old t s
  | .dataWrite c off b verify t => Sys2Proof.Machine.execDataWrite c off b verify t s
  | .eraseSector c pulses cut t => Sys2Proof.Machine.execEraseSector c pulses cut t s
  | .setPassword r b t => Sys2Proof.Machine.execSetPassword r b t s
  | .unlockRegion r p t => Sys2Proof.Machine.execUnlockRegion r p t s
  | .lockRegion r v t => Sys2Proof.Machine.execLockRegion r v t s
  | .passwordLockoutEnd r t => Sys2Proof.Machine.execPasswordLockoutEnd r t s
  | .flsWearSel v t => Sys2Proof.Machine.execFlsWearSel v t s
  | .powerEpoch r t => Sys2Proof.Machine.execPowerEpoch r t s
  | .demandSend t => Sys2Proof.Machine.execDemandSend t s
  | .demandReceive src x t => Sys2Proof.Machine.execDemandReceive src x t s
  | .shareSet shares t => Sys2Proof.Machine.execShareSet shares t s
  | .shareStale t => Sys2Proof.Machine.execShareStale t s
  | .modelsMeasured t => Sys2Proof.Machine.execModelsMeasured t s
  | .powerOn t => Sys2Proof.Machine.execPowerOn t s
  | .resetNAssert low t => Sys2Proof.Machine.execResetNAssert low t s
  | .resetNRelease ix t => Sys2Proof.Machine.execResetNRelease ix t s
  | .startComplete t => Sys2Proof.Machine.execStartComplete t s
  | .restart v ix t => Sys2Proof.Machine.execRestart v ix t s
  | .lateTolPassed h t => Sys2Proof.Machine.execLateTolPassed h t s
  | .vddAonLoss t => Sys2Proof.Machine.execVddAonLoss t s
  | .certificateExpiry ix t => Sys2Proof.Machine.execCertificateExpiry ix t s
  | .bothPathsSilent t => Sys2Proof.Machine.execBothPathsSilent t s
  | .heartbeatPathLost path t => Sys2Proof.Machine.execHeartbeatPathLost path t s
  | .dhIllegalOpcode n words cause t => Sys2Proof.Machine.execDhIllegalOpcode n words cause t s
  | .puIllegalOpcode p len cause t => Sys2Proof.Machine.execPuIllegalOpcode p len cause t s
  | .fetchFault r t => Sys2Proof.Machine.execFetchFault r t s
  | .svcOtherCode p code t => Sys2Proof.Machine.execSvcOtherCode p code t s
  | .tagActivation t => Sys2Proof.Machine.execTagActivation t s
  | .fwtTimeout c sent agree t => Sys2Proof.Machine.execFwtTimeout c sent agree t s
  | .cardOvercurrent x t => Sys2Proof.Machine.execCardOvercurrent x t s
  | .ppsIn stamp t => Sys2Proof.Machine.execPpsIn stamp t s
  | .d3hot f t => Sys2Proof.Machine.execD3hot f t s
  | .replicatedWrite w env t => Sys2Proof.Machine.execReplicatedWrite w env t s

end Sys2Proof.Machine
end

