-- ==== Sys2Proof/Safety.lean ====
section
/-!
DEFINITION. What statements about runs are written in: the invariant of every state, the conditions under which commands
have their own effect, and how a command's effect is said.
-/
namespace Sys2Proof.Machine

/-- Memory is in its one canonical form. -/
def State.inv (s : State) : Bool := Memory.wf s.mem

/-- What one byte of on-chip memory reads as. -/
def State.byte (s : State) (a : Nat) : Byte := memByte s.mem a

/-- Ordinary commands have their own effect: the device is powered, out of reset, not saving, and not in chip safe state
(R508, R616, R617). -/
def State.Works (s : State) : Prop := s.dev.acts = true ∧ s.dev.flt.chipSafe = false

/-- Action objects have their own effect: `State.Works`, and the unit is no standby (R260). -/
def State.Holds (s : State) : Prop := s.Works ∧ s.dev.isStandby = false

/-- Nothing waits to follow: no fault action is noted, no session is closing, no lane is stopping, no badge is to be
deselected, no permit is active, no shutdown waits for a handover, no replica measurement runs,
and no yield waits for replication. -/
def Dev.atRest (d : Dev) : Bool :=
  d.flt.todo.isEmpty && d.net.sessions.all (fun e => !e.2.ending) && d.lan.all (fun e => decide (e.2.state ≠ .disabling)) &&
    d.ctl.rd.cids.all (fun e => decide (e.2.state ≠ .deselecting)) && d.per.ledger.all (fun e => decide (e.2.state ≠ .active)) && !d.man.shutdown &&
    d.lch.pins.all (fun e => e.2.recal.isNone) && !d.fry.twin.yieldAsked && !d.codesBad

/-- The request in the mailbox, as the operations of the Object Access Protocol take it. -/
def Dev.mailAsk (d : Dev) : OapAsk :=
  let m := d.hif.mbox.request
  let h := oapHead m
  { req := mailboxReq, id := h.id, role := d.requesterRole mailboxReq, count := h.count, body := m.drop 16, room := d.oapRoom mailboxReq }

/-- The mailbox holds a well-formed request of the kind `mine`, from a principal, that has not been answered: the device runs, is
not in chip safe state, and no chart switch waits for the same request. -/
def Dev.asks (d : Dev) (mine : Bytes → Bool) : Bool :=
  let m := d.hif.mbox.request
  let h := oapHead m
  d.hif.mbox.busy && d.hif.mbox.answer.isNone && !d.flt.chipSafe && mine m && decide (oapForm m = 0) &&
    !d.obj.switch.any (fun c => c.asker == some (mailboxReq, h.id)) && decide (d.requesterRole mailboxReq ≠ .none) &&
    (d.keptResponse mailboxReq h.id h.op).isNone && decide (d.sys.phase ≠ .recovery)

/-- A command completes with the effect `f`: it answers the next state in which the device, at the command's chip time, has
changed by `f`, the faults that `f` raised have taken effect, what waited has followed (`Dev.settle`, which leaves a device at
rest as it is but for `SettleFrame`), and the memory writes of the device have gone to memory. -/
def Does (c : Instr) (s : State) (t : Ticks) (f : Dev → Dev) : Prop :=
  exec c s = .next (s.withDev (f (s.dev.at_ t)).settle)

/-- A command completes with the effect `f` and nothing follows from it: the tag logic and the boundary scan work alone. -/
def DoesAlone (c : Instr) (s : State) (t : Ticks) (f : Dev → Dev) : Prop :=
  exec c s = .next { s with dev := f (s.dev.at_ t) }

/-- A command of a core, a task or the Object Access Protocol completes with the effect `f` on the device and its memory; the
queue stays. -/
def DoesAll (c : Instr) (s : State) (t : Ticks) (f : State → State) : Prop :=
  let x := f { s with dev := s.dev.at_ t }
  exec c s = .next { (x.withDev x.dev.settle) with pending := s.pending }

/-! ## A core's instruction -/

/-- A lane executes its next instruction, of `len` words: it runs, does not skip, and its program holds all of the words. -/
def Dev.dhReady (d : Dev) (n len : Nat) : Bool :=
  d.dhRuns n && !(d.dh n).skip && decide ((d.dh n).pc.toNat + len ≤ (d.lane n).code.length)

/-- A lane executes its next instruction, whose words are these: it is ready for as many, and its program holds them at the PC
(R326). -/
def Dev.dhReads (d : Dev) (n : Nat) (w : List DhWord) : Bool := d.dhReady n w.length && d.dhHolds n w

/-- The state in which a lane's instruction does its work: it is no shadow of a skip. -/
def State.dhFresh (s : State) (n : Nat) : State := s.onDh n (fun c => { c with shadow := false })

/-- An instruction of `len` words completes in sequence: its cycles are counted, its loop and PC move on (R332), and a pending
notice is taken. -/
def State.dhDone (s : State) (n len cycles : Nat) : State :=
  ((s.dhCycles n (cycles + (len - 1))).onDh n (fun c => c.seq len)).dhNotice n

/-- An instruction of `len` words transfers control: its cycles are counted, and a pending notice is taken. -/
def State.dhJumped (s : State) (n len cycles pc : Nat) : State :=
  ((s.dhCycles n (cycles + (len - 1))).onDh n (fun c => { c with pc := BitVec.ofNat 14 pc })).dhNotice n

/-- A result in a register, with its flags. -/
def DhCore.gives (c : DhCore) (r : Fin 16) (v : Nat) (f : Flags) : DhCore := (c.setFlags f).put r v

/-- The lane is no lane of a pair whose shadow must agree (R344). -/
def Dev.dhSingle (d : Dev) (n : Nat) : Bool := !(decide ((d.lane (n + 1)).origin = 3) && decide (n % 2 = 0))

/-- The state in which a purser's instruction does its work: no shadow of a skip, the delay of a TWICE prefix drawn. -/
def State.puBegin (s : State) (p : Nat) (tw : Twice) : State :=
  let s0 := s.onPu p (fun c => { c with shadow := false })
  match tw with
  | some _ => { s0 with dev := (s0.dev.twiceDelay p).2 }
  | none => s0

/-- The cycles of a purser's instruction of `len` bytes (R364, R370). -/
def State.puCost (s : State) (p : Nat) (tw : Twice) (len cycles : Nat) : Nat :=
  let long := b2n (decide (8 < len))
  match tw with
  | some _ => 2 * (cycles + long) + ((s.onPu p (fun c => { c with shadow := false })).dev.twiceDelay p).1 + 1
  | none => cycles + long

/-- A purser executes its next instruction, of `len` bytes: it runs, does not skip, may fetch all of the bytes, and the two
executions of a TWICE prefix agree. -/
def State.puReady (s : State) (p len : Nat) (tw : Twice) : Bool :=
  s.dev.puRuns p && !(s.dev.pu p).skip && ((s.onPu p (fun c => { c with shadow := false })).puFetch p len).isNone &&
    (match tw with
      | some x => decide (x = 0)
      | none => true)

/-- A purser executes its next instruction, with these prefixes and bytes: it is ready for as many, and its program holds them at
the PC (R354, R355). -/
def State.puReads (s : State) (p : Nat) (pre body : Bytes) (tw : Twice) : Bool :=
  s.puReady p (pre.length + body.length) tw && s.puHolds p pre body

/-- A purser's instruction completes: its cycles are counted, its PC is set, and a pending notice is taken. -/
def State.puDone (s : State) (p cycles pc : Nat) : State :=
  ((s.puCycles p cycles).onPu p (fun c => { c with pc := BitVec.ofNat 64 pc })).puNotice p

/-- An instruction of a purser, of `len` bytes and `cycles` cycles, does its work and completes in sequence. -/
def State.puSeq (s : State) (p len cycles : Nat) (tw : Twice) (work : State → State) : State :=
  (work (s.puBegin p tw)).puDone p (s.puCost p tw len cycles) ((s.dev.pu p).pc.toNat + len)

/-- An instruction of a purser does its work and transfers control. -/
def State.puJump (s : State) (p len cycles : Nat) (tw : Twice) (work : State → State) (pc : Nat) : State :=
  (work (s.puBegin p tw)).puDone p (s.puCost p tw len cycles) pc

/-- The state in which a service of R372 works: the cycles of SVC are counted, the saved PC is the address after it, and the
entry is counted (R368, R393). -/
def State.puCalls (s : State) (p : Nat) : State :=
  let x := s.puBegin p none
  ((x.puCycles p 40).onPu p (fun c => { c with pc := BitVec.ofNat 64 ((x.dev.pu p).next 2) })).onDev (fun d => d.bump Od.exc_EXCEPTIONS (puMaster p))

/-- A result in a register, with its condition flags. -/
def PuCore.gives (c : PuCore) (r : Fin 16) (v : Nat) (f : Flags) : PuCore := (c.setCond f).put r v

/-! ## Ciphers and the hash ring -/

/-- A cipher core takes the writes of `user`: it holds the lock, and nothing takes the core away (R412, R418). -/
def Dev.coreTakes (d : Dev) (c user : Nat) : Bool :=
  decide (user ≠ 0) && decide ((d.core c).user = user) && !(d.core c).closing && !(d.core c).releasing

/-- The next job of a hash ring, whose descriptor is `f.desc`, is one of `op` and its operands are allowed (R442 to R449). -/
def Dev.hashReady (d : Dev) (r op : Nat) (f : HashFetch) : Bool :=
  let x := d.hring r
  let e := f.desc
  x.valid && decide (x.jobHead ≠ x.jobTail) && decide (leAt e 0 1 = op) && decide (d.cfgN Od.hsh_CORES_IN_SERVICE 0 ≠ 0) &&
    decide ((x.cplTail - x.cplHead) + d.ringRunning r < 2 ^ x.cplLog2) && !d.flt.chipSafe &&
    hashFormOk op (leAt e 1 1) (leAt e 2 1) (leAt e 3 1) e && !(decide (r = 7) && decide (leAt e 2 1 % 4 = 2)) &&
    outLenOk op (leAt e 1 1) (leAt e 40 4) && !(decide (leAt e 2 1 % 4 = 3) && !decide (1 ≤ leAt e 20 4 ∧ leAt e 20 4 ≤ 4096)) &&
    !(decide (op = 6) && decide (leAt e 20 4 ≠ (if leAt e 1 1 % 4 = 1 then 7856 else 17088))) &&
    (!bitOf (leAt e 2 1) 2 || ((d.setHring r { x with jobHead := x.jobHead + 1 }).keyUse (leAt e 44 4) [2, 3, 0, 1] (ringUser r)).isSome)

/-- The device once a hash ring's next job has been taken. -/
def Dev.hashTaken (d : Dev) (r : Nat) : Dev := d.setHring r { d.hring r with jobHead := (d.hring r).jobHead + 1 }

/-- A job of a hash ring starts, with what it will answer. -/
def Dev.hashRuns (d : Dev) (r op : Nat) (f : HashFetch) (status : Nat) (out : Bytes) (n : Nat) : Dev :=
  let e := f.desc
  { d with cry.hash.running := d.cry.hash.running ++
      [{ ring := r, op := op, param := leAt e 1 1, tag := leAt e 48 8, status := status, out := out, outAddr := leAt e 32 8,
         outKeyh := if bitOf (leAt e 2 1) 2 then some (leAt e 44 4) else none,
         keyh := if leAt e 2 1 % 4 = 1 then leAt e 4 4 else 0, compressions := n }] }

/-- The command at the head of the bignum queue is `c`, of the kind `op`, and its slots serve (R455, R456). -/
def Dev.bgnTakes (d : Dev) (op : Nat) (c : BgnCmd) (used : List Nat) (modulus : Option Nat) : Bool :=
  decide (d.bgn.queue.head? = some c) && decide (c.op = op) && (d.bgn.slotsWrong used modulus).isNone

/-! ## Whole families -/

/-- The state invariant that every step keeps: memory is in its one canonical form, and no memory write of the device is left
to be made. -/
def State.clean (s : State) : Bool := s.inv && s.dev.bufOut.isEmpty

end Sys2Proof.Machine

namespace Sys2Proof

/-- The chip time at which a command reaches the device. -/
def Instr.time : Instr → Ticks
  | .bearingEdge _ _ _ _ _ t => t
  | .indexPulse _ _ t => t
  | .ssiSample _ _ _ _ t => t
  | .mainsCrossing _ _ _ _ _ _ t => t
  | .wireFault _ t => t
  | .rateFault _ t => t
  | .edgeTimeout _ t => t
  | .coastExpired _ t => t
  | .bearingEnable _ t => t
  | .bearingDisable _ t => t
  | .bearingDrainDone _ t => t
  | .positionSet _ _ t => t
  | .calCapture _ t => t
  | .calCaptureDone _ _ t => t
  | .bearingPublish _ _ t => t
  | .bearingFrameReceive _ t => t
  | .ferryBearingSample _ _ _ _ t => t
  | .launchCommit _ t => t
  | .frameSeal _ t => t
  | .launchAction t => t
  | .pulseEnd _ t => t
  | .pinSense _ _ t => t
  | .release _ t => t
  | .cancel _ t => t
  | .pinEnable _ t => t
  | .pinDisable _ t => t
  | .pinDrainDone _ t => t
  | .pinRecalCheck _ t => t
  | .pinRecalDone _ _ _ _ t => t
  | .lchEntrySel _ t => t
  | .overlayPrepare _ _ _ t => t
  | .overlayAnswer _ _ _ _ t => t
  | .overlayDecide _ _ t => t
  | .overlayDecisionReceive _ _ _ t => t
  | .dbSub _ _ _ t => t
  | .dbCpl _ _ _ t => t
  | .itemAdmit _ _ _ t => t
  | .mirrorAck _ t => t
  | .queueDispatch _ t => t
  | .itemExpiry _ _ t => t
  | .confirmTimeout _ _ t => t
  | .cancelSeq _ _ t => t
  | .queRingCfg _ _ t => t
  | .queueEnable _ t => t
  | .queueDisable _ t => t
  | .queueDrainDone _ t => t
  | .replicationTimeout t => t
  | .manifestScrub _ t => t
  | .warmReset _ t => t
  | .powerFail _ _ t => t
  | .saveComplete t => t
  | .holdupOkFall t => t
  | .holdupOkRise t => t
  | .shutdown _ t => t
  | .saveAreaEraseDone _ t => t
  | .portEnable _ _ t => t
  | .portLink _ _ t => t
  | .timeSyncMessage _ t => t
  | .syncLoss t => t
  | .holdoverLimit t => t
  | .ppsOut t => t
  | .setupOpen _ t => t
  | .setupAnswer _ t => t
  | .setupConfirm _ t => t
  | .setupRefuse _ t => t
  | .setupTimeout t => t
  | .setupRetransmit _ t => t
  | .cmdReceive _ t => t
  | .ackReceive _ t => t
  | .nackReceive _ t => t
  | .dataReceive _ t => t
  | .streamReceive _ t => t
  | .safeReceive _ t => t
  | .heartbeatReceive _ t => t
  | .claimReceive _ t => t
  | .keyupdReceive _ t => t
  | .jqueryReceive _ t => t
  | .heartbeatSend _ t => t
  | .hbTimeout _ t => t
  | .retxTime _ _ t => t
  | .rekey _ t => t
  | .keyupdRetry _ t => t
  | .keyOverlap _ t => t
  | .rebaseStart _ t => t
  | .rebaseTimeout _ t => t
  | .safeSend _ t => t
  | .safeRepeat _ t => t
  | .reopen _ _ t => t
  | .sessionEnable _ _ t => t
  | .streamGap _ t => t
  | .epochClose _ t => t
  | .epochSealed _ t => t
  | .streamEnable _ _ t => t
  | .certRequest _ _ _ _ _ t => t
  | .certIssued _ t => t
  | .ferryPortEnable _ _ t => t
  | .ferryTrainingTimeout _ t => t
  | .ferryPortUp _ _ t => t
  | .ferryNak _ _ _ t => t
  | .ferryIdle _ _ _ t => t
  | .ferryIdleSend _ t => t
  | .ferryResendTimeout _ t => t
  | .ferryDown _ t => t
  | .ferryTimeSend _ t => t
  | .ferryTimeExchange _ _ t => t
  | .masterLost t => t
  | .twinHeartbeatSend t => t
  | .twinHeartbeatReceive _ t => t
  | .replRecord _ _ t => t
  | .replSessionState _ _ t => t
  | .replKeys _ _ _ t => t
  | .unjoin _ _ t => t
  | .resync _ _ _ t => t
  | .takeover t => t.t
  | .mirrorStale t => t
  | .joinTime t => t.t
  | .yield t => t
  | .yieldReceive _ _ t => t
  | .yieldInstant t => t.t
  | .yieldFailed t => t
  | .isolationConfirm t => t
  | .peerDead t => t
  | .pierRetire _ _ _ _ t => t
  | .oapRead _ t => t
  | .oapWrite _ _ t => t
  | .oapReadBlock _ t => t
  | .oapWriteBlock _ _ t => t
  | .oapSubscribe _ t => t
  | .oapAbort _ t => t
  | .activateStore _ t => t
  | .activateChartSwitch _ t => t
  | .activateDelete _ t => t
  | .chartSwitchInstant _ t => t
  | .notify _ _ t => t
  | .shadowExpiry t => t
  | .mbDoorbell _ _ t => t
  | .mbResponse t => t
  | .flr _ _ t => t
  | .pcieLinkDown t => t
  | .pcieLinkUp _ _ t => t
  | .hostDmaError _ _ t => t
  | .vectorFire _ t => t
  | .vectorUnmask _ t => t
  | .evtPendingClear _ _ _ t => t
  | .evtRouteWrite _ _ _ _ t => t
  | .registerWrite _ _ _ t => t
  | .dhMov _ _ _ t => t
  | .dhAdd _ _ _ t => t
  | .dhSub _ _ _ t => t
  | .dhAdc _ _ _ t => t
  | .dhSbc _ _ _ t => t
  | .dhAnd _ _ _ t => t
  | .dhOr _ _ _ t => t
  | .dhXor _ _ _ t => t
  | .dhCmp _ _ _ t => t
  | .dhTst _ _ _ t => t
  | .dhLsl _ _ _ t => t
  | .dhLsr _ _ _ t => t
  | .dhAsr _ _ _ t => t
  | .dhRor _ _ _ t => t
  | .dhMulu _ _ _ t => t
  | .dhMuls _ _ _ t => t
  | .dhProductComplete _ t => t
  | .dhMovi _ _ _ _ t => t
  | .dhAddi _ _ _ _ t => t
  | .dhCmpi _ _ _ _ t => t
  | .dhShi _ _ _ t => t
  | .dhBr _ _ _ t => t
  | .dhCall _ _ _ t => t
  | .dhJr _ _ t => t
  | .dhCallr _ _ t => t
  | .dhRet _ t => t
  | .dhTret _ t => t
  | .dhWait _ t => t
  | .dhNop _ t => t
  | .dhSkcc _ _ t => t
  | .dhLoop _ _ _ _ t => t
  | .dhLdb _ _ _ _ t => t
  | .dhLdh _ _ _ _ t => t
  | .dhLdw _ _ _ _ t => t
  | .dhStb _ _ _ _ _ t => t
  | .dhSth _ _ _ _ _ t => t
  | .dhStw _ _ _ _ _ t => t
  | .dhMfs _ _ _ t => t
  | .dhMts _ _ _ _ t => t
  | .dhRdfeat _ _ _ t => t
  | .dhBsw16 _ _ t => t
  | .dhBsw32 _ _ t => t
  | .dhMovs _ _ t => t
  | .dhFils _ _ _ t => t
  | .dhCmps _ _ t => t
  | .dhScns _ _ _ t => t
  | .dhCrcs _ _ _ t => t
  | .dhSums _ _ _ t => t
  | .dhSnap _ _ t => t
  | .dhFence _ _ t => t
  | .qpost _ _ _ t => t
  | .lpost _ _ _ t => t
  | .qtake _ _ _ t => t
  | .qconf _ _ _ t => t
  | .qrej _ _ _ t => t
  | .ftake _ _ _ t => t
  | .fdone _ _ _ t => t
  | .ffwd _ _ _ t => t
  | .bvrd _ _ _ t => t
  | .clock _ _ _ t => t
  | .cfree _ _ _ t => t
  | .levt _ _ _ t => t
  | .wdog _ _ t => t
  | .laneWatchdog _ t => t
  | .pairedLaneLag _ _ t => t
  | .laneEnable _ _ t => t
  | .laneStop _ t => t
  | .dhEventException _ t => t
  | .impreciseNotice _ _ t => t
  | .acuImpreciseClear _ t => t
  | .acuRgnAttr _ _ _ t => t
  | .puNop _ t => t
  | .puTret _ t => t
  | .puWait _ t => t
  | .puFence _ t => t
  | .puTsw _ _ t => t
  | .puSnap _ _ t => t
  | .puMov _ _ _ _ t => t
  | .puAdd _ _ _ _ t => t
  | .puSub _ _ _ _ t => t
  | .puAdc _ _ _ _ t => t
  | .puSbc _ _ _ _ t => t
  | .puAnd _ _ _ _ t => t
  | .puOr _ _ _ _ t => t
  | .puXor _ _ _ _ t => t
  | .puCmp _ _ _ _ t => t
  | .puTst _ _ _ _ t => t
  | .puLsl _ _ _ _ t => t
  | .puLsr _ _ _ _ t => t
  | .puAsr _ _ _ _ t => t
  | .puRor _ _ _ _ t => t
  | .puMulu _ _ _ _ t => t
  | .puMuls _ _ _ _ t => t
  | .puProductComplete _ t => t
  | .puMovi _ _ _ _ t => t
  | .puAddi _ _ _ _ t => t
  | .puSubi _ _ _ _ t => t
  | .puAndi _ _ _ _ t => t
  | .puOri _ _ _ _ t => t
  | .puXori _ _ _ _ t => t
  | .puCmpi _ _ _ _ t => t
  | .puTsti _ _ _ _ t => t
  | .puLsli _ _ _ _ t => t
  | .puLsri _ _ _ _ t => t
  | .puAsri _ _ _ _ t => t
  | .puRori _ _ _ _ t => t
  | .puNeg _ _ _ t => t
  | .puNot _ _ _ t => t
  | .puLd _ _ _ _ _ _ t => t
  | .puLds _ _ _ _ _ _ t => t
  | .puSt _ _ _ _ _ _ t => t
  | .puLea _ _ _ _ _ t => t
  | .puMadd _ _ _ _ _ _ t => t
  | .puMand _ _ _ _ _ _ t => t
  | .puMor _ _ _ _ _ _ t => t
  | .puMxor _ _ _ _ _ _ t => t
  | .puXchg _ _ _ _ _ _ t => t
  | .puCas _ _ _ _ _ _ t => t
  | .puBr _ _ _ t => t
  | .puCall _ _ _ _ t => t
  | .puJr _ _ _ t => t
  | .puCallr _ _ _ _ t => t
  | .puRet _ _ _ t => t
  | .puPush _ _ _ t => t
  | .puPop _ _ _ t => t
  | .puSkcc _ _ _ t => t
  | .puMfs _ _ _ _ t => t
  | .puMts _ _ _ t => t
  | .puMovs _ _ _ t => t
  | .puFils _ _ t => t
  | .puCmps _ _ t => t
  | .puScns _ _ t => t
  | .puCrcs _ _ _ t => t
  | .puRnd _ _ t => t
  | .puBswap _ _ _ t => t
  | .puClz _ _ _ _ t => t
  | .puPopc _ _ _ _ t => t
  | .puSelz _ _ _ _ t => t
  | .puSext _ _ _ _ t => t
  | .puZext _ _ _ _ t => t
  | .puInterrupt _ _ t => t
  | .svcYield _ t => t
  | .svcExit _ t => t
  | .svcWait _ t => t
  | .svcWaitTimeout _ t => t
  | .svcOap _ _ t => t
  | .signalLane _ t => t
  | .taskEvent _ t => t
  | .svcRandom _ t => t
  | .taskEnable _ _ t => t
  | .taskSlice _ _ t => t
  | .cipLock _ _ t => t
  | .cipKeyh _ _ _ t => t
  | .cipKeyLoaded _ t => t
  | .cipGcmSeal _ _ _ t => t
  | .cipGcmOpen _ _ _ t => t
  | .cipCtr _ _ _ t => t
  | .cipCmacGen _ _ _ t => t
  | .cipCmacVerify _ _ _ t => t
  | .cipherJobDone _ _ _ t => t
  | .cipherSelftest _ _ t => t
  | .cipherLockHeld _ t => t
  | .cipherEnable _ _ t => t
  | .hshJqTail _ _ t => t
  | .hshCqHead _ _ t => t
  | .hshRingCfg _ _ _ t => t
  | .hashSha256 _ _ t => t
  | .hashHmac _ _ t => t
  | .hkdfExtract _ _ t => t
  | .hkdfExpand _ _ t => t
  | .slhSign _ _ _ t => t
  | .slhVerify _ _ _ t => t
  | .hashJobDone _ t => t
  | .hashSelftest _ _ t => t
  | .bgnLock _ t => t
  | .bgnSlot _ _ _ t => t
  | .bgnAdd t => t
  | .bgnSub t => t
  | .bgnMul t => t
  | .toMont t => t
  | .fromMont t => t
  | .bgnInv t => t
  | .bgnExp t => t
  | .expBlind t => t
  | .bgnCopy t => t
  | .setMod t => t
  | .bgnRandom t => t
  | .loadKey t => t
  | .storeKey t => t
  | .bnJob _ t => t
  | .bnJobDone t => t
  | .rngSeedReady t => t
  | .rngHealthFail _ _ t => t
  | .rngGroupRetest _ _ t => t
  | .rngClientReseed _ t => t
  | .keyGenerate _ t => t
  | .keyImport _ t => t
  | .keyRestrict _ t => t
  | .keyDestroy _ t => t
  | .lcNonce _ t => t
  | .nonceExpiry t => t
  | .lcTransition _ _ _ t => t
  | .lcTransitionReset _ t => t
  | .lcAnchors _ _ t => t
  | .lcChain _ _ t => t
  | .dbgAuth _ _ t => t
  | .debugExpiry t => t
  | .bypass _ t => t
  | .idcode t => t
  | .samplePreload _ _ _ t => t
  | .extest _ _ _ t => t
  | .birthCert _ _ t => t
  | .attestChallenge _ t => t
  | .attestDone t => t
  | .releaseHold _ t => t
  | .releaseSafe _ t => t
  | .fcuFaultn _ t => t
  | .fcuActive _ _ t => t
  | .mergeWindow _ t => t
  | .faultnMinLow t => t
  | .extFault _ t => t
  | .supplyGlitch _ _ _ t => t
  | .slowSupply _ _ t => t
  | .clockGlitch t => t
  | .refclkLoss _ t => t
  | .temperatureHigh t => t
  | .temperatureLow t => t
  | .shieldEvent _ _ t => t
  | .monitorArm _ t => t
  | .clsEnable _ t => t
  | .clsPing _ _ _ t => t
  | .clsPoll _ _ _ _ _ t => t
  | .rfGrant _ _ _ t => t
  | .rfStarved t => t
  | .presenceCheck _ _ _ t => t
  | .cardArrived _ _ t => t
  | .tagGetInfo _ t => t
  | .tagRead _ t => t
  | .tagWrite _ _ _ _ _ t => t
  | .tagFieldLoss _ t => t
  | .vharvRecover t => t
  | .tagPage _ _ t => t
  | .cardDetect _ t => t
  | .cardRemoved _ t => t
  | .atrReceive _ _ t => t
  | .atrTimeout _ t => t
  | .ppsAnswer _ _ t => t
  | .t1BlockReceive _ _ t => t
  | .bwtTimeout _ t => t
  | .kolzelSelect _ _ t => t
  | .kolzelIdentify _ _ t => t
  | .kolzelAuthenticate _ _ _ t => t
  | .recordGrant _ _ _ t => t
  | .journalQuery _ _ _ t => t
  | .opiChange _ _ _ _ t => t
  | .discTime _ t => t
  | .permitRequest _ _ t => t
  | .revoke _ _ t => t
  | .clearInDoubt _ t => t
  | .permitExpiry _ t => t
  | .flashEraseRoundDone _ _ t => t
  | .flashScrub _ _ t => t
  | .dataWrite _ _ _ _ t => t
  | .eraseSector _ _ _ t => t
  | .setPassword _ _ t => t
  | .unlockRegion _ _ t => t
  | .lockRegion _ _ t => t
  | .passwordLockoutEnd _ t => t
  | .flsWearSel _ t => t
  | .powerEpoch _ t => t
  | .demandSend t => t
  | .demandReceive _ _ t => t
  | .shareSet _ t => t
  | .shareStale t => t
  | .modelsMeasured t => t
  | .powerOn t => t
  | .resetNAssert _ t => t
  | .resetNRelease _ t => t
  | .startComplete t => t
  | .restart _ _ t => t
  | .lateTolPassed _ t => t
  | .vddAonLoss t => t
  | .certificateExpiry _ t => t
  | .bothPathsSilent t => t
  | .heartbeatPathLost _ t => t
  | .dhIllegalOpcode _ _ _ t => t
  | .puIllegalOpcode _ _ _ t => t
  | .fetchFault _ t => t
  | .svcOtherCode _ _ t => t
  | .tagActivation t => t
  | .fwtTimeout _ _ _ t => t
  | .cardOvercurrent _ t => t
  | .ppsIn _ t => t
  | .d3hot _ t => t
  | .replicatedWrite _ _ t => t

/-- The commands that write an object: chip safe state answers them with STATE (R508). -/
def Instr.writes : Instr → Bool
  | .bearingEnable .. => true
  | .bearingDisable .. => true
  | .positionSet .. => true
  | .calCapture .. => true
  | .release .. => true
  | .cancel .. => true
  | .pinEnable .. => true
  | .pinDisable .. => true
  | .cancelSeq .. => true
  | .queueEnable .. => true
  | .queueDisable .. => true
  | .shutdown .. => true
  | .portEnable .. => true
  | .rekey .. => true
  | .safeSend .. => true
  | .reopen .. => true
  | .sessionEnable .. => true
  | .streamEnable .. => true
  | .certRequest .. => true
  | .ferryPortEnable .. => true
  | .yield .. => true
  | .peerDead .. => true
  | .laneEnable .. => true
  | .cipherEnable .. => true
  | .bnJob .. => true
  | .keyGenerate .. => true
  | .keyImport .. => true
  | .keyRestrict .. => true
  | .keyDestroy .. => true
  | .lcTransition .. => true
  | .lcAnchors .. => true
  | .lcChain .. => true
  | .birthCert .. => true
  | .attestChallenge .. => true
  | .clsEnable .. => true
  | .tagPage .. => true
  | .permitRequest .. => true
  | .revoke .. => true
  | .clearInDoubt .. => true
  | .dataWrite .. => true
  | .eraseSector .. => true
  | .setPassword .. => true
  | .unlockRegion .. => true
  | .lockRegion .. => true
  | _ => false

/-- The writes that a unit of a twin that does not hold the claim answers with STANDBY (R260). -/
def Instr.acts : Instr → Bool
  | .bearingEnable .. => true
  | .bearingDisable .. => true
  | .release .. => true
  | .cancel .. => true
  | .pinEnable .. => true
  | .pinDisable .. => true
  | .cancelSeq .. => true
  | .queueEnable .. => true
  | .queueDisable .. => true
  | .portEnable .. => true
  | .rekey .. => true
  | .safeSend .. => true
  | .reopen .. => true
  | .sessionEnable .. => true
  | .streamEnable .. => true
  | .certRequest .. => true
  | .ferryPortEnable .. => true
  | .laneEnable .. => true
  | .cipherEnable .. => true
  | .clsEnable .. => true
  | .permitRequest .. => true
  | .revoke .. => true
  | .clearInDoubt .. => true
  | _ => false

/-- The commands that reach a device without core power: POWER_ON, and what concerns the tag (R539). -/
def Instr.reachesOff : Instr → Bool
  | .tagGetInfo .. => true
  | .tagRead .. => true
  | .tagWrite .. => true
  | .tagFieldLoss .. => true
  | .vharvRecover .. => true
  | .powerOn .. => true
  | .tagActivation .. => true
  | _ => false

end Sys2Proof

namespace Sys2Proof.Machine

/-- What a register instruction of a core is and writes: the core, its words (a deckhand's), or its prefixes and the bytes after
them (a purser's), its TWICE prefix, the register written, and whether the condition flags stay. -/
structure RegUse where
  core : Nat
  words : List DhWord := []
  pre : Bytes := []
  body : Bytes := []
  twice : Twice := none
  dest : Option (Fin 16)
  keeps : Bool
deriving DecidableEq, Repr

end Sys2Proof.Machine

namespace Sys2Proof

open Machine in
/-- The register instructions of a deckhand (R328, R329, R335). -/
def Instr.dhRegs : Instr → Option Machine.RegUse
  | .dhMov n d r _ => some { core := n, words := dhRrCode 0 d r, dest := some d, keeps := true }
  | .dhAdd n d r _ => some { core := n, words := dhRrCode 1 d r, dest := some d, keeps := false }
  | .dhSub n d r _ => some { core := n, words := dhRrCode 2 d r, dest := some d, keeps := false }
  | .dhAdc n d r _ => some { core := n, words := dhRrCode 3 d r, dest := some d, keeps := false }
  | .dhSbc n d r _ => some { core := n, words := dhRrCode 4 d r, dest := some d, keeps := false }
  | .dhAnd n d r _ => some { core := n, words := dhRrCode 5 d r, dest := some d, keeps := false }
  | .dhOr n d r _ => some { core := n, words := dhRrCode 6 d r, dest := some d, keeps := false }
  | .dhXor n d r _ => some { core := n, words := dhRrCode 7 d r, dest := some d, keeps := false }
  | .dhLsl n d r _ => some { core := n, words := dhRrCode 10 d r, dest := some d, keeps := false }
  | .dhLsr n d r _ => some { core := n, words := dhRrCode 11 d r, dest := some d, keeps := false }
  | .dhAsr n d r _ => some { core := n, words := dhRrCode 12 d r, dest := some d, keeps := false }
  | .dhRor n d r _ => some { core := n, words := dhRrCode 13 d r, dest := some d, keeps := false }
  | .dhCmp n d r _ => some { core := n, words := dhRrCode 8 d r, dest := none, keeps := false }
  | .dhTst n d r _ => some { core := n, words := dhRrCode 9 d r, dest := none, keeps := false }
  | .dhMulu n d r _ => some { core := n, words := dhRrCode 14 d r, dest := none, keeps := true }
  | .dhMuls n d r _ => some { core := n, words := dhRrCode 15 d r, dest := none, keeps := true }
  | .dhMovi n d own l _ => if l.length ≤ 2 then some { core := n, words := dhRiCode 0 d own l, dest := some d, keeps := true } else none
  | .dhAddi n d own l _ => if l.length ≤ 2 then some { core := n, words := dhRiCode 1 d own l, dest := some d, keeps := false } else none
  | .dhCmpi n d own l _ => if l.length ≤ 2 then some { core := n, words := dhRiCode 2 d own l, dest := none, keeps := false } else none
  | .dhShi n d imm _ => some { core := n, words := dhRiCode 3 d imm [], dest := some d, keeps := false }
  | .dhNop n _ => some { core := n, words := dhSysCode 3, dest := none, keeps := true }
  | .dhRdfeat n r k _ => some { core := n, words := dhSubCode false k r, dest := some r, keeps := true }
  | .dhBsw16 n r _ => some { core := n, words := dhSubCode false 4 r, dest := some r, keeps := true }
  | .dhBsw32 n r _ => some { core := n, words := dhSubCode false 5 r, dest := some r, keeps := true }
  | _ => none

open Machine in
/-- The register instructions of a purser, on operands that raise no fault (R356, R357, R358). -/
def Instr.puRegs : Instr → Option Machine.RegUse
  | .puMov p x r src _ => some { core := p, pre := x.bytes, body := puRrCode 0 r src, twice := x.twice, dest := some r, keeps := true }
  | .puAdd p x r src _ => some { core := p, pre := x.bytes, body := puRrCode 1 r src, twice := x.twice, dest := some r, keeps := false }
  | .puSub p x r src _ => some { core := p, pre := x.bytes, body := puRrCode 2 r src, twice := x.twice, dest := some r, keeps := false }
  | .puAdc p x r src _ => some { core := p, pre := x.bytes, body := puRrCode 3 r src, twice := x.twice, dest := some r, keeps := false }
  | .puSbc p x r src _ => some { core := p, pre := x.bytes, body := puRrCode 4 r src, twice := x.twice, dest := some r, keeps := false }
  | .puAnd p x r src _ => some { core := p, pre := x.bytes, body := puRrCode 5 r src, twice := x.twice, dest := some r, keeps := false }
  | .puOr p x r src _ => some { core := p, pre := x.bytes, body := puRrCode 6 r src, twice := x.twice, dest := some r, keeps := false }
  | .puXor p x r src _ => some { core := p, pre := x.bytes, body := puRrCode 7 r src, twice := x.twice, dest := some r, keeps := false }
  | .puLsl p x r src _ => some { core := p, pre := x.bytes, body := puRrCode 10 r src, twice := x.twice, dest := some r, keeps := false }
  | .puLsr p x r src _ => some { core := p, pre := x.bytes, body := puRrCode 11 r src, twice := x.twice, dest := some r, keeps := false }
  | .puAsr p x r src _ => some { core := p, pre := x.bytes, body := puRrCode 12 r src, twice := x.twice, dest := some r, keeps := false }
  | .puRor p x r src _ => some { core := p, pre := x.bytes, body := puRrCode 13 r src, twice := x.twice, dest := some r, keeps := false }
  | .puCmp p x r src _ => some { core := p, pre := x.bytes, body := puRrCode 8 r src, twice := x.twice, dest := none, keeps := false }
  | .puTst p x r src _ => some { core := p, pre := x.bytes, body := puRrCode 9 r src, twice := x.twice, dest := none, keeps := false }
  | .puMulu p w r src _ => some { core := p, pre := w.prefix, body := puRrCode 14 r src, dest := none, keeps := true }
  | .puMuls p w r src _ => some { core := p, pre := w.prefix, body := puRrCode 15 r src, dest := none, keeps := true }
  | .puMovi p x r i _ => if i.bytes ≤ x.w.bytes then some { core := p, pre := x.bytes, body := puRiCode 0 r i, twice := x.twice, dest := some r, keeps := true } else none
  | .puAddi p x r i _ => if i.bytes ≤ x.w.bytes ∧ i.bytes ≠ 8 then some { core := p, pre := x.bytes, body := puRiCode 1 r i, twice := x.twice, dest := some r, keeps := false } else none
  | .puSubi p x r i _ => if i.bytes ≤ x.w.bytes ∧ i.bytes ≠ 8 then some { core := p, pre := x.bytes, body := puRiCode 2 r i, twice := x.twice, dest := some r, keeps := false } else none
  | .puAndi p x r i _ => if i.bytes ≤ x.w.bytes ∧ i.bytes ≠ 8 then some { core := p, pre := x.bytes, body := puRiCode 3 r i, twice := x.twice, dest := some r, keeps := false } else none
  | .puOri p x r i _ => if i.bytes ≤ x.w.bytes ∧ i.bytes ≠ 8 then some { core := p, pre := x.bytes, body := puRiCode 4 r i, twice := x.twice, dest := some r, keeps := false } else none
  | .puXori p x r i _ => if i.bytes ≤ x.w.bytes ∧ i.bytes ≠ 8 then some { core := p, pre := x.bytes, body := puRiCode 5 r i, twice := x.twice, dest := some r, keeps := false } else none
  | .puCmpi p x r i _ => if i.bytes ≤ x.w.bytes ∧ i.bytes ≠ 8 then some { core := p, pre := x.bytes, body := puRiCode 6 r i, twice := x.twice, dest := none, keeps := false } else none
  | .puTsti p x r i _ => if i.bytes ≤ x.w.bytes ∧ i.bytes ≠ 8 then some { core := p, pre := x.bytes, body := puRiCode 7 r i, twice := x.twice, dest := none, keeps := false } else none
  | .puLsli p x r i _ => if i.toNat < x.w.bits then some { core := p, pre := x.bytes, body := puShiftCode 0 r i, twice := x.twice, dest := some r, keeps := false } else none
  | .puLsri p x r i _ => if i.toNat < x.w.bits then some { core := p, pre := x.bytes, body := puShiftCode 1 r i, twice := x.twice, dest := some r, keeps := false } else none
  | .puAsri p x r i _ => if i.toNat < x.w.bits then some { core := p, pre := x.bytes, body := puShiftCode 2 r i, twice := x.twice, dest := some r, keeps := false } else none
  | .puRori p x r i _ => if i.toNat < x.w.bits then some { core := p, pre := x.bytes, body := puShiftCode 3 r i, twice := x.twice, dest := some r, keeps := false } else none
  | .puNeg p x r _ => some { core := p, pre := x.bytes, body := puCode 0x2C r 0, twice := x.twice, dest := some r, keeps := false }
  | .puNot p x r _ => some { core := p, pre := x.bytes, body := puCode 0x2D r 0, twice := x.twice, dest := some r, keeps := false }
  | .puLea p y r b x _ => some { core := p, pre := y.bytes, body := puMemCode 0x3C r b x, twice := y.twice, dest := some r, keeps := true }
  | .puNop p _ => some { core := p, pre := [], body := [0x00], dest := none, keeps := true }
  | .puBswap p w r _ => some { core := p, pre := w.prefix, body := puEscCode 1 r 0, dest := some r, keeps := true }
  | .puClz p w r src _ => some { core := p, pre := w.prefix, body := puEscCode 2 r src, dest := some r, keeps := true }
  | .puPopc p w r src _ => some { core := p, pre := w.prefix, body := puEscCode 3 r src, dest := some r, keeps := true }
  | .puSelz p w r src _ => some { core := p, pre := w.prefix, body := puEscCode 4 r src, dest := some r, keeps := true }
  | .puSext p w r src _ => some { core := p, pre := w.prefix, body := puEscCode 5 r src, dest := some r, keeps := true }
  | .puZext p w r src _ => some { core := p, pre := w.prefix, body := puEscCode 6 r src, dest := some r, keeps := true }
  | _ => none

end Sys2Proof

namespace Sys2Proof.Machine

/-- Of a deckhand, all but register `dest`, the PC, the loop count, the products in flight, the shadow of a skip and, unless
`keeps`, the condition flags stays; so do all other cores. -/
def State.dhKeeps (s e : State) (n : Nat) (dest : Option (Fin 16)) (keeps : Bool) : Prop :=
  let c := s.dev.dh n
  let x := e.dev.dh n
  (∀ k : Fin 16, dest ≠ some k → x.get k = c.get k) ∧ (keeps = true → x.flags = c.flags) ∧ x.ee = c.ee ∧ x.mlo = c.mlo ∧ x.mhi = c.mhi ∧
    x.lps = c.lps ∧ x.lpe = c.lpe ∧ x.brs = c.brs ∧ x.brd = c.brd ∧ x.brc = c.brc ∧ x.tsbp = c.tsbp ∧ x.tsnap = c.tsnap ∧
    x.handler = c.handler ∧ x.skip = c.skip ∧ x.posted = c.posted ∧
    (∀ m, m ≠ n → e.dev.dh m = s.dev.dh m) ∧ (∀ p, e.dev.pu p = s.dev.pu p)

/-- Of a purser, all but register `dest`, the PC, CYCLES, the products in flight, the shadow of a skip and, unless `keeps`, the
condition flags stays; so do all other cores. -/
def State.puKeeps (s e : State) (p : Nat) (dest : Option (Fin 16)) (keeps : Bool) : Prop :=
  let c := s.dev.pu p
  let x := e.dev.pu p
  (∀ k : Fin 16, dest ≠ some k → x.get k = c.get k) ∧ (keeps = true → x.cond = c.cond) ∧ x.ie = c.ie ∧ x.task = c.task ∧ x.pl = c.pl ∧
    x.ph = c.ph ∧ x.tsbp = c.tsbp ∧ x.tsnap = c.tsnap ∧ x.kwin = c.kwin ∧ x.handler = c.handler ∧ x.skip = c.skip ∧
    x.posted = c.posted ∧ x.running = c.running ∧ x.waiting = c.waiting ∧ x.parked = c.parked ∧
    (∀ q, q ≠ p → e.dev.pu q = s.dev.pu q) ∧ (∀ m, e.dev.dh m = s.dev.dh m)

/-- Where the byte of a lane's data address lies in memory: in its private data memory or in its pier's buffer (R318). -/
def Dev.dhPlace (d : Dev) (n a : Nat) : Option Nat :=
  if a < 0x7000 then some (laneMem n + a)
  else if 0x01000000 ≤ a ∧ a < 0x01200000 then some (0x0200000000 + 0x400000 * d.pierOf (n / 8) + (a - 0x01000000))
  else none

end Sys2Proof.Machine
end

