-- ==== Sys2Proof/Certificates/Slice0/Obligations.lean ====
section
/-!
DEFINITION. The statements for the provers: one step and what every command does, then each family of commands.
A `let d` names the device at the command's chip time, a `let st` the state with that device.
-/
open Sys2Proof Sys2Proof.Machine

/-- One step is exec of the command at the front of the queue, on the state with the queue's rest. For every state s whose queue
is c followed by l, step s is exec c on s with the queue l: the front command and only it is taken, and its outcome is the
step's. -/
def Obligations.StepRunsFrontCommand : Prop :=
  (∀ (s : State) (c : Instr) (l : List Instr),
    s.pending = c :: l →
    step s = exec c { s with pending := l })

/-- A step on an empty queue leaves the state as it is (the model's choice, log entry 4). For every state whose queue is empty,
step answers the same state. That an idle block changes nothing is the model's choice (log entry 4): every effect that comes
with time is a command of its own. -/
def Obligations.EmptyQueueIdles : Prop :=
  (∀ (s : State),
    s.pending = [] →
    step s = .next s)

/-- Every command answers a next state and leaves the queue of waiting commands as it is. For every command and every state,
exec answers a next state, never a fault and never a refusal, and the queue of that state is the queue of the state it was
given: no command takes or adds a waiting command. -/
def Obligations.EveryCommandAnswersNext : Prop :=
  (∀ (c : Instr) (s : State),
    ∃ e, exec c s = .next e ∧ e.pending = s.pending)

/-- Every step keeps memory in its canonical form and leaves no memory write of the device undone. For every state s whose
memory is in its one canonical form and whose device has no memory write left to make, and every next state e that step
answers on s, the same holds of e: addresses strictly rise, no listed byte equals what an unlisted one reads as, and every
write that a command made (a core's store, a ring record, a cleared range) stands in memory when the step ends. -/
def Obligations.MemoryCanonicalKept : Prop :=
  (∀ (s e : State),
    s.clean = true →
    step s = .next e →
    e.clean = true)

/-- What State.reset holds: in reset, no command waiting, memory canonical, core registers 0, cipher cores free. State.reset
holds the invariant of every step, its queue is empty, the device is in reset, every byte of memory reads as 0 (the model's
choice, log entry 3), every general register, the PC and the flags of every deckhand and every purser are 0, no cipher core
has a holder, every launch pin is as before its first use, and no item, no launch entry and no permit exists. -/
def Obligations.ResetHolds : Prop :=
  (    State.reset.clean = true ∧ State.reset.pending = [] ∧ State.reset.dev.sys.phase = .inReset ∧ (∀ a, State.reset.byte a = 0) ∧ (∀ n, State.reset.dev.dh n = {}) ∧ (∀ p, State.reset.dev.pu p = {}) ∧ (∀ n (r : Fin 16), (State.reset.dev.dh n).get r = 0 ∧ (State.reset.dev.pu n).get r = 0) ∧ (∀ c, (State.reset.dev.core c).user = 0) ∧ (∀ n, State.reset.dev.pin n = {}) ∧ State.reset.dev.que.man.items = [] ∧ (∀ h, State.reset.dev.entry h = none) ∧ State.reset.dev.per.ledger = [])

/-- In chip safe state every command that writes an object answers STATE and has no other effect. For every command that writes
an object (Instr.writes) and every state whose device acts and stands in chip safe state, exec answers the next state in
which only the status STATE has gone out, and what follows every command has followed. -/
def Obligations.ChipSafeAnswersState : Prop :=
  (∀ (c : Instr) (s : State),
    c.writes = true →
    s.dev.acts = true →
    (s.dev.at_ c.time).flt.chipSafe = true →
    exec c s = .next (s.withDev ((s.dev.at_ c.time).emit (.writeStatus 9)).settle))

/-- A unit of a twin without the claim answers STANDBY to every action write and does not carry it out. For every command that
is an action write (Instr.acts) and every state whose device acts, is not in chip safe state and does not hold the claim of
its twin, exec answers the next state in which only the status STANDBY has gone out, and what follows every command has
followed. -/
def Obligations.StandbyAnswersStandby : Prop :=
  (∀ (c : Instr) (s : State),
    c.acts = true →
    s.dev.acts = true →
    (s.dev.at_ c.time).flt.chipSafe = false →
    (s.dev.at_ c.time).isStandby = true →
    exec c s = .next (s.withDev ((s.dev.at_ c.time).emit (.writeStatus 15)).settle))

/-- Without power every command but POWER_ON and those of the tag leaves all but chip time as it is. For every command except
POWER_ON and the commands of the contactless tag (Instr.reachesOff), and every state whose device is off, exec answers the
state with only the command's chip time taken over: no register, no memory byte and no output changes. -/
def Obligations.OffDeviceKeepsItsState : Prop :=
  (∀ (c : Instr) (s : State),
    c.reachesOff = false →
    s.dev.sys.phase = .off →
    exec c s = .next { s with dev := s.dev.at_ c.time })

/-- A register instruction of a deckhand completes and changes only its register, flags, PC, loop count and products. For MOV to
ROR, MULU, MULS, MOVI, ADDI, CMPI, SHI, NOP, RDFEAT, BSW16 and BSW32 of a lane that executes them, on a quiet device with no
notice pending: exec answers a next state in which every byte of memory, every register but the destination, every special
register, all other cores and, for those that set no flags, the flags are as before. -/
def Obligations.DeckhandRegisterFrame : Prop :=
  (∀ (c : Instr) (u : RegUse) (s : State),
    c.dhRegs = some u →
    s.clean = true →
    s.dev.acts = true ∧ (s.dev.at_ c.time).atRest = true →
    (s.dev.at_ c.time).dhReads u.core u.words = true →
    (s.dev.dh u.core).notice = false →
    ∃ e, exec c s = .next e ∧ (∀ a, e.byte a = s.byte a) ∧ s.dhKeeps e u.core u.dest u.keeps)

/-- STB, STH, STW write exactly their bytes at G[8+base] + imm, LDB, LDH, LDW read them and change only their register. Of a
lane that executes the instruction on a quiet device with no notice pending, where the address a = G[8+base] + imm is
aligned, the access check allows it and it lies in private data memory or the pier buffer at place q: a store completes, the
bytes q to q+w-1 read as the low bytes of its register, little-endian, every other byte of memory reads as before, and no
register or flag changes; a load completes, its register is the zero-extended little-endian value of those bytes, and no
byte of memory, no flag and no other register changes. Stores are those of a lane that is not doubled. -/
def Obligations.DeckhandMemoryFrame : Prop :=
  (∀ (s : State) (n : Fin 128) (r : Fin 16) (base : Fin 8) (l : List (BitVec 11)) (sh : Bool) (q : Nat) (t : Ticks),
    let d := s.dev.at_ t
    s.clean = true →
    s.dev.acts = true ∧ d.atRest = true →
    d.dhReads n (dhMemCode true 0 r base l) = true ∧ l.length ≤ 2 ∧ (d.dh n).notice = false →
    d.dhSingle n = true →
    d.dhPlace n ((d.dh n).ea base l) = some q →
    (d.dh n).ea base l % 1 = 0 →
    acuCheck (d.acu (d.laneMaster n)).regions ((d.dh n).ea base l) ((d.dh n).ea base l + 1 - 1) .write false = none →
    ∃ e, exec (.dhStb n r base l sh t) s = .next e ∧ (∀ k, k < q ∨ q + 1 ≤ k → e.byte k = s.byte k) ∧
          memNat e.mem q 1 = (s.dev.dh n).get r % 256 ^ 1 ∧ s.dhKeeps e n none true) ∧
  (∀ (s : State) (n : Fin 128) (r : Fin 16) (base : Fin 8) (l : List (BitVec 11)) (q : Nat) (t : Ticks),
    let d := s.dev.at_ t
    s.clean = true →
    s.dev.acts = true ∧ d.atRest = true →
    d.dhReads n (dhMemCode false 0 r base l) = true ∧ l.length ≤ 2 ∧ (d.dh n).notice = false →
    d.dhPlace n ((d.dh n).ea base l) = some q →
    (d.dh n).ea base l % 1 = 0 →
    acuCheck (d.acu (d.laneMaster n)).regions ((d.dh n).ea base l) ((d.dh n).ea base l + 1 - 1) .read false = none →
    ∃ e, exec (.dhLdb n r base l t) s = .next e ∧ (∀ k, e.byte k = s.byte k) ∧
          (e.dev.dh n).get r = memNat s.mem q 1 ∧ s.dhKeeps e n (some r) true) ∧
  (∀ (s : State) (n : Fin 128) (r : Fin 16) (base : Fin 8) (l : List (BitVec 11)) (sh : Bool) (q : Nat) (t : Ticks),
    let d := s.dev.at_ t
    s.clean = true →
    s.dev.acts = true ∧ d.atRest = true →
    d.dhReads n (dhMemCode true 1 r base l) = true ∧ l.length ≤ 2 ∧ (d.dh n).notice = false →
    d.dhSingle n = true →
    d.dhPlace n ((d.dh n).ea base l) = some q →
    (d.dh n).ea base l % 2 = 0 →
    acuCheck (d.acu (d.laneMaster n)).regions ((d.dh n).ea base l) ((d.dh n).ea base l + 2 - 1) .write false = none →
    ∃ e, exec (.dhSth n r base l sh t) s = .next e ∧ (∀ k, k < q ∨ q + 2 ≤ k → e.byte k = s.byte k) ∧
          memNat e.mem q 2 = (s.dev.dh n).get r % 256 ^ 2 ∧ s.dhKeeps e n none true) ∧
  (∀ (s : State) (n : Fin 128) (r : Fin 16) (base : Fin 8) (l : List (BitVec 11)) (q : Nat) (t : Ticks),
    let d := s.dev.at_ t
    s.clean = true →
    s.dev.acts = true ∧ d.atRest = true →
    d.dhReads n (dhMemCode false 1 r base l) = true ∧ l.length ≤ 2 ∧ (d.dh n).notice = false →
    d.dhPlace n ((d.dh n).ea base l) = some q →
    (d.dh n).ea base l % 2 = 0 →
    acuCheck (d.acu (d.laneMaster n)).regions ((d.dh n).ea base l) ((d.dh n).ea base l + 2 - 1) .read false = none →
    ∃ e, exec (.dhLdh n r base l t) s = .next e ∧ (∀ k, e.byte k = s.byte k) ∧
          (e.dev.dh n).get r = memNat s.mem q 2 ∧ s.dhKeeps e n (some r) true) ∧
  (∀ (s : State) (n : Fin 128) (r : Fin 16) (base : Fin 8) (l : List (BitVec 11)) (sh : Bool) (q : Nat) (t : Ticks),
    let d := s.dev.at_ t
    s.clean = true →
    s.dev.acts = true ∧ d.atRest = true →
    d.dhReads n (dhMemCode true 2 r base l) = true ∧ l.length ≤ 2 ∧ (d.dh n).notice = false →
    d.dhSingle n = true →
    d.dhPlace n ((d.dh n).ea base l) = some q →
    (d.dh n).ea base l % 4 = 0 →
    acuCheck (d.acu (d.laneMaster n)).regions ((d.dh n).ea base l) ((d.dh n).ea base l + 4 - 1) .write false = none →
    ∃ e, exec (.dhStw n r base l sh t) s = .next e ∧ (∀ k, k < q ∨ q + 4 ≤ k → e.byte k = s.byte k) ∧
          memNat e.mem q 4 = (s.dev.dh n).get r % 256 ^ 4 ∧ s.dhKeeps e n none true) ∧
  (∀ (s : State) (n : Fin 128) (r : Fin 16) (base : Fin 8) (l : List (BitVec 11)) (q : Nat) (t : Ticks),
    let d := s.dev.at_ t
    s.clean = true →
    s.dev.acts = true ∧ d.atRest = true →
    d.dhReads n (dhMemCode false 2 r base l) = true ∧ l.length ≤ 2 ∧ (d.dh n).notice = false →
    d.dhPlace n ((d.dh n).ea base l) = some q →
    (d.dh n).ea base l % 4 = 0 →
    acuCheck (d.acu (d.laneMaster n)).regions ((d.dh n).ea base l) ((d.dh n).ea base l + 4 - 1) .read false = none →
    ∃ e, exec (.dhLdw n r base l t) s = .next e ∧ (∀ k, e.byte k = s.byte k) ∧
          (e.dev.dh n).get r = memNat s.mem q 4 ∧ s.dhKeeps e n (some r) true)

/-- A register instruction of a purser completes and changes only its register, flags, PC, CYCLES and products. For MOV to ROR,
MULU, MULS, MOVI to TSTI, LSLI to RORI, NEG, NOT, LEA, NOP, BSWAP, CLZ, POPC, SELZ, SEXT and ZEXT of a purser that executes
them on operands that raise no fault, on a quiet device with no notice pending: exec answers a next state in which every
byte of memory, every register but the destination, every special register, all other cores and, for those that set no
flags, the condition flags are as before. -/
def Obligations.PurserRegisterFrame : Prop :=
  (∀ (c : Instr) (u : RegUse) (s : State),
    c.puRegs = some u →
    s.clean = true →
    s.dev.acts = true ∧ (s.dev.at_ c.time).atRest = true →
    ({ s with dev := s.dev.at_ c.time } : State).puReads u.core u.pre u.body u.twice = true →
    (s.dev.pu u.core).notice = false →
    ∃ e, exec c s = .next e ∧ (∀ a, e.byte a = s.byte a) ∧ s.puKeeps e u.core u.dest u.keeps)

/-- ST of a purser writes exactly its bytes at its address, LD and LDS read them and change only their register. Of a purser
that executes ST, LD or LDS without a prefix on a quiet device with no notice pending, where the address a = Xb + disp lies
in purser RAM or a pier buffer and the access check allows it: ST completes, the bytes a to a+w-1 read as the low bytes of
its register, little-endian, every other byte of memory reads as before, and no register or flag changes; LD and LDS
complete, the register is the zero-extended or sign-extended value of those bytes, and no byte of memory, no flag and no
other register changes. -/
def Obligations.PurserMemoryFrame : Prop :=
  (∀ (s : State) (p : Fin 4) (w : PuWidth) (r b : Fin 16) (x : Disp) (a : Nat) (t : Ticks),
    let d := s.dev.at_ t
    let st : State := { s with dev := s.dev.at_ t }
    s.clean = true →
    s.dev.acts = true ∧ d.atRest = true →
    st.puReads p (w.prefix ++ PuMem.plain.bytes) (puMemCode 0x38 r b x) none = true ∧ (d.pu p).notice = false →
    a = (d.pu p).ea b x →
    puRam a w.bytes = true ∨ (inPierBuffer a w.bytes = true ∧ a % w.bytes = 0) →
    acuCheck (d.acu (puMaster p)).regions a (a + w.bytes - 1) .write (d.pu p).task = none →
    ∃ e, exec (.puSt p w .plain r b x t) s = .next e ∧ (∀ k, k < a ∨ a + w.bytes ≤ k → e.byte k = s.byte k) ∧
          memNat e.mem a w.bytes = (s.dev.pu p).low r w ∧ s.puKeeps e p none true) ∧
  (∀ (s : State) (p : Fin 4) (w : PuWidth) (r b : Fin 16) (x : Disp) (a : Nat) (sg : Bool) (t : Ticks),
    let d := s.dev.at_ t
    let st : State := { s with dev := s.dev.at_ t }
    s.clean = true →
    s.dev.acts = true ∧ d.atRest = true →
    st.puReads p (w.prefix ++ PuMem.plain.bytes) (puMemCode (if sg then 0x34 else 0x30) r b x) none = true ∧ (d.pu p).notice = false →
    a = (d.pu p).ea b x →
    puRam a w.bytes = true ∨ (inPierBuffer a w.bytes = true ∧ a % w.bytes = 0) →
    acuCheck (d.acu (puMaster p)).regions a (a + w.bytes - 1) .read (d.pu p).task = none →
    ∃ e, exec (if sg then .puLds p w .plain r b x t else .puLd p w .plain r b x t) s = .next e ∧ (∀ k, e.byte k = s.byte k) ∧
          (e.dev.pu p).get r = (if sg then patternOf 64 (signedOf w.bits (memNat s.mem a w.bytes)) else memNat s.mem a w.bytes) ∧ s.puKeeps e p (some r) true)

/-- Loading a TSB gives back the registers it was saved from, whatever its cause, address and information fields hold. For every
deckhand context c and every core x: loading into x the TSB that saves c, with any fault, vector, original cause and EVP,
gives x the G0 to G15, PC, flags, STAT.EE, MLO, MHI, LPS, LPE, LPC, BRS, BRD and BRC of c and leaves TSBP of x. For every
purser context whose KWIN has its reserved bits 0, loading its TSB gives X0 to X15, PC, condition flags, IE, TASK, PL, PH
and KWIN of it and leaves TSBP. -/
def Obligations.SavedContextIsRestored : Prop :=
  (∀ (c x : DhCore) (f : CoreFault) (v o ev : Nat),
    (x.load (dhTsb c f v o ev)).g = c.g ∧ (x.load (dhTsb c f v o ev)).pc = c.pc ∧ (x.load (dhTsb c f v o ev)).flags = c.flags ∧ (x.load (dhTsb c f v o ev)).ee = c.ee ∧ (x.load (dhTsb c f v o ev)).mlo = c.mlo ∧ (x.load (dhTsb c f v o ev)).mhi = c.mhi ∧ (x.load (dhTsb c f v o ev)).lps = c.lps ∧ (x.load (dhTsb c f v o ev)).lpe = c.lpe ∧ (x.load (dhTsb c f v o ev)).lpc = c.lpc ∧ (x.load (dhTsb c f v o ev)).brs = c.brs ∧ (x.load (dhTsb c f v o ev)).brd = c.brd ∧ (x.load (dhTsb c f v o ev)).brc = c.brc ∧ (x.load (dhTsb c f v o ev)).tsbp = x.tsbp) ∧
  (∀ (c x : PuCore) (f : CoreFault) (v o : Nat),
    c.kwin.toNat < 8192 →
    (x.load (puTsb c f v o)).x = c.x ∧ (x.load (puTsb c f v o)).pc = c.pc ∧ (x.load (puTsb c f v o)).cond = c.cond ∧ (x.load (puTsb c f v o)).ie = c.ie ∧ (x.load (puTsb c f v o)).task = c.task ∧ (x.load (puTsb c f v o)).pl = c.pl ∧ (x.load (puTsb c f v o)).ph = c.ph ∧ (x.load (puTsb c f v o)).kwin = c.kwin ∧ (x.load (puTsb c f v o)).tsbp = x.tsbp)

/-- A doorbell position that moves backwards or beyond what the ring holds is ignored, counted and reported. Of a queue of the
writing function that is open: a submission doorbell that moves backwards or beyond the free slots (of a delivery ring:
beyond the delivered items), and a completion doorbell that moves backwards or beyond the records written, leave the queue
and all else as they are but for DOORBELL_ERRORS, which counts the write, and the event QUEUE_DOORBELL. -/
def Obligations.BadDoorbellIsIgnored : Prop :=
  (∀ (s : State) (pf : Fin 4) (q : Fin 16384) (pos : Nat) (t : Ticks),
    let d := s.dev.at_ t
    s.dev.acts = true →
    d.pfOf q = (pf : Nat) →
    (d.queue q).ringValid = true →
    (∀ n, ringAhead (d.queue q).workLog2 (d.queue q).hostPos (pos % 2 ^ 17) = some n → (if d.delivers q then (d.queue q).devPos - (d.queue q).hostPos else 2 ^ (d.queue q).workLog2 - ((d.queue q).hostPos - (d.queue q).devPos)) < n) →
    Does (.dbSub pf q pos t) s t (fun d => (d.bump Od.qst_DOORBELL_ERRORS q).queueNotice q 0xD0)) ∧
  (∀ (s : State) (pf : Fin 4) (q : Fin 16384) (pos : Nat) (t : Ticks),
    let d := s.dev.at_ t
    s.dev.acts = true →
    d.pfOf q = (pf : Nat) →
    (d.queue q).ringValid = true →
    (∀ n, ringAhead (d.queue q).cplLog2 (d.queue q).cplHead (pos % 2 ^ 17) = some n → (d.queue q).cplTail - (d.queue q).cplHead < n) →
    Does (.dbCpl pf q pos t) s t (fun d => (d.bump Od.qst_DOORBELL_ERRORS q).queueNotice q 0xD0))

/-- CANCEL ends an uncommitted entry with CANCEL_REQUEST and leaves a committed entry as it is. On a device that acts, out of
chip safe state, that is no standby, and for an entry that the restore does not hold: CANCEL of an uncommitted entry ends it
as CANCELLED with reason CANCEL_REQUEST; CANCEL of a committed entry changes nothing of the device, so the entry acts as
scheduled. -/
def Obligations.CommittedEntryIsNotCancelled : Prop :=
  (∀ (s : State) (h : Nat) (e : Entry) (t : Ticks),
    let d := s.dev.at_ t
    s.dev.acts = true →
    d.flt.chipSafe = false →
    d.isStandby = false →
    d.entry h = some e →
    (d.item e.item).any d.held = false →
    e.state.isCommitted = true →
    Does (.cancel h t) s t (fun d => d)) ∧
  (∀ (s : State) (h : Nat) (e : Entry) (t : Ticks),
    let d := s.dev.at_ t
    s.dev.acts = true →
    d.flt.chipSafe = false →
    d.isStandby = false →
    d.entry h = some e →
    (d.item e.item).any d.held = false →
    e.state.isCommitted = false →
    Does (.cancel h t) s t (fun d => (d.delPart d.fry.flo.ownId h).endEntry h .cancelled 0x2E))

/-- BEARING_EDGE, INDEX_PULSE, SSI_SAMPLE, MAINS_CROSSING, FERRY_BEARING_SAMPLE and BEARING_FRAME_RECEIVE complete as samples.
On a device that acts: a counted edge of a quadrature Bearing that is not OFF, and no glitch, moves the count by the step of the
two levels (inverted with DIR_INVERT), is counted in EDGES, and hands the tracker a sample at its corrected instant. The first
index edge in REFERENCE mode, both levels high, makes position Z_HOME count 0 and references the Bearing. The first SSI word
whose parity holds (Gray code decoded) is the count and a sample at its edge plus SSI_LATENCY. A mains crossing in order
advances the count by its sixths and is a sample at the zero of the line through its samples. A FERRY Bearing's sample in time
brings its source's configuration and reference and is shifted by the base. A BEARING frame whose receive checks pass is marked
received and its sample goes to every NETWORK Bearing of that source that is not OFF, one that comes later than NET_COMMIT_DELAY
counted in LATE_SAMPLES. -/
def Obligations.BearingSamplesComplete : Prop :=
  (∀ (s : State) (b : Fin 16) (a c : Bool) (width raw t : Ticks) (k : Int),
    let d := s.dev.at_ t
    s.dev.acts = true →
    d.isQuad b = true →
    (d.brg b).state ≠ .off →
    ¬ width < d.cfg Od.brg_GLITCH_WIDTH b →
    quadStep (d.brg b).levelA (d.brg b).levelB a c = some k →
    k ≠ 0 →
    (d.brg b).tooClose (decide (a ≠ (d.brg b).levelA)) raw = false →
    Does (.bearingEdge b a c width raw t) s t (fun d =>
      let x := d.brg b
      let k' := if d.cfgB Od.brg_DIR_INVERT b then -k else k
      let edge : LastEdge := { raw := raw, ofA := decide (a ≠ x.levelA), step := k', before := x.dir, sample := d.edgeStamp b raw }
      let d1 := ((d.setBrg b { x with levelA := a, levelB := c }).onBrg b (fun y =>
        { y with count := x.count + k', dir := k', lastEdge := some edge })).bump Od.bst_EDGES b
      d1.takeSample b (scaleCount x.base (x.count + k') (d.cfg Od.brg_UNIT_NUM b) (d.cfg Od.brg_UNIT_DEN b))
        { t := d.edgeStamp b raw, x := d1.posOfCount b (d1.brg b) (x.count + k') } (decide (x.dir ≠ 0) && decide (x.dir ≠ k')))) ∧
  (∀ (s : State) (b : Fin 16) (width t : Ticks),
    let d := s.dev.at_ t
    s.dev.acts = true →
    d.isQuad b = true →
    (d.brg b).state ≠ .off →
    ¬ width < d.cfg Od.brg_GLITCH_WIDTH b →
    (d.brg b).levelA = true ∧ (d.brg b).levelB = true →
    d.cfgN Od.brg_Z_MODE b = 3 →
    (d.brg b).ref = false →
    Does (.indexPulse b width t) s t (fun d =>
      let y := (d.brg b).rebase (serial (d.cfg Od.brg_Z_HOME b) (scaleCount (d.brg b).base (d.brg b).count (d.cfg Od.brg_UNIT_NUM b) (d.cfg Od.brg_UNIT_DEN b)))
      let d1 := d.setBrg b { y with base := d.cfg Od.brg_Z_HOME b, count := 0, ref := true, widen := 0 }
      ((d1.qualify b).followVirtual).afterSample b false)) ∧
  (∀ (s : State) (b : Fin 16) (word : Nat) (parity : Bool) (edge t : Ticks),
    let d := s.dev.at_ t
    s.dev.acts = true →
    d.isSsi b = true →
    (d.brg b).state ≠ .off →
    ssiParityOk (d.cfgN Od.ssi_SSI_PARITY b) (d.cfgN Od.ssi_SSI_BITS b) word parity = true →
    (d.brg b).newest = none ∧ (d.brg b).fit = none →
    Does (.ssiSample b word parity edge t) s t (fun d =>
      let bits := d.cfgN Od.ssi_SSI_BITS b
      let n : Int := ((if d.cfg Od.ssi_SSI_CODE b = 1 then grayToBin bits word else word) % 2 ^ bits : Nat)
      let d1 := d.setBrg b { d.brg b with count := n, ssiDisc := 0 }
      d1.takeSample b (scaleCount (d.brg b).base n (d.cfg Od.brg_UNIT_NUM b) (d.cfg Od.brg_UNIT_DEN b))
        { t := edge + d.cfg Od.ssi_SSI_LATENCY b, x := d1.posOfCount b (d1.brg b) n } false)) ∧
  (∀ (s : State) (b : Fin 16) (phase : Fin 3) (rising : Bool) (peak : Nat) (before after : List (Ticks × Int)) (at_ t : Ticks) (rms : Rat),
    let d := s.dev.at_ t
    s.dev.acts = true →
    d.brgType b = 3 →
    (d.brg b).state ≠ .off →
    bitOf (d.cfgN Od.mns_PHASES b) phase = true →
    ¬ (peak : Int) < d.cfg Od.mns_AMPLITUDE_MIN b →
    mainsInOrder (d.brg b).mainsStep (mainsSixth (d.cfgB Od.mns_SEQUENCE b) phase rising) = true →
    mainsZero (before ++ after) = some (at_, rms) →
    Does (.mainsCrossing b phase rising peak before after t) s t (fun d0 =>
      let d := d0.notePeak b phase peak
      let x := d.brg b
      let step := mainsSixth (d.cfgB Od.mns_SEQUENCE b) phase rising
      let n := mainsCount x.mainsStep x.count step
      let raw := scaleCount x.base n 1 6
      let d1 := (d.setBrg b { x with count := n, mainsStep := step, seqErr := 0, resid := x.residOf rms }).takeSample b raw { t := at_, x := raw } false
      let err := if d1.mainsOutside b then (d1.brg b).freqErr + 1 else 0
      let d2 := d1.onBrg b (fun y => { y with freqErr := err })
      if d.mainsLimit b ≤ err then (d2.onBrg b (fun y => { y with freqErr := 0 })).brgLost b 9 false else d2)) ∧
  (∀ (s : State) (b : Fin 16) (r : RemoteCfg) (x : Sample) (t : Ticks),
    let d := s.dev.at_ t
    s.dev.acts = true →
    d.brgType b = 5 →
    (d.brg b).state ≠ .off →
    ¬ x.t + r.glitch + 200 * ns < d.now →
    Does (.ferryBearingSample b r x false t) s t (fun d0 =>
      let d := d0.ferryGot r.chip
      let y := d.brg b
      let d1 := d.setBrg b { y with remote := some r, ref := r.ref, causeLive := false }
      (d1.onBrg b (fun z => { z with dir := if r.dir = 0 then z.dir else r.dir })).takeSample b (wrap64 (y.base + x.x))
        { x with x := wrap64 (y.base + x.x) } (decide (r.dir ≠ 0) && decide (y.dir ≠ 0) && decide (y.dir ≠ r.dir)))) ∧
  (∀ (s : State) (f : RxFrame) (t : Ticks) (i : Nat) (p : Bytes) (at_ : Ticks) (n q : Nat) (x : BVal) (rest : List (Nat × Nat × BVal)),
    let d := s.dev.at_ t
    s.dev.acts = true →
    (d.receive 4 f).1 = some (i, p) →
    f.time = some at_ →
    f.stamps = (n, q, x) :: rest →
    Does (.bearingFrameReceive f t) s t (fun d =>
      let m : PubSample := { bearing := n, quality := q, x := x, instant := at_, vel := signedOf 64 (beAt p 0 8),
                             acc := signedOf 64 (beAt p 8 8), unc := signedOf 64 (beAt p 16 8) }
      (List.range 16).foldl (fun y b =>
        if y.brgType b = 4 && y.cfgN Od.nbr_SRC_SESSION b = f.session && y.cfgN Od.nbr_SRC_BEARING b = n && (y.brg b).state ≠ .off
        then (if at_ + y.cfg Od.lbr_NET_COMMIT_DELAY b < y.now then (y.bump Od.lbr_LATE_SAMPLES b).markNetLate b at_ else y).bearingFrame b m
        else y) ((d.receive 4 f).2.markSeq i f.seq)))

/-- WIRE_FAULT, RATE_FAULT, EDGE_TIMEOUT, COAST_EXPIRED, BEARING_ENABLE, BEARING_DISABLE, BEARING_DRAIN_DONE, POSITION_SET
complete. On a device that acts: a wire or rate fault of a Bearing that is not OFF, while it lasts, makes it LOST with cause 3
or 4 and its reference cleared, and raises event 0xC5 or 0xC6; one that ends is no longer kept as present; a TRACKING Bearing
that moves and whose gate has passed coasts with cause 2 (LAST_CAUSE 1); a COASTING one whose COAST_TIME has passed is LOST with
its coast's cause. Where no chip safe state stands and the unit is no standby, ON written to an OFF Bearing of a type starts it
ACQUIRING with count 0, referenced as its type says; OFF written in mode DRAIN makes it drain, in any other mode takes it OFF; a
draining Bearing without pending entries goes OFF; POSITION_SET waits for the next sample. -/
def Obligations.BearingStateCommandsComplete : Prop :=
  (∀ (s : State) (b : Fin 16) (t : Ticks),
    let d := s.dev.at_ t
    s.dev.acts = true →
    (d.brg b).state ≠ .off →
    Does (.wireFault { b := b, present := true } t) s t (fun d => ((d.setBrg b { d.brg b with wireLive := true }).brgLost b 3 true).raise b 0xC5 b)) ∧
  (∀ (s : State) (b : Fin 16) (t : Ticks),
    s.dev.acts = true →
    Does (.wireFault { b := b, present := false } t) s t (fun d => d.setBrg b { d.brg b with wireLive := false })) ∧
  (∀ (s : State) (b : Fin 16) (t : Ticks),
    let d := s.dev.at_ t
    s.dev.acts = true →
    (d.brg b).state ≠ .off →
    Does (.rateFault { b := b, present := true } t) s t (fun d => ((d.setBrg b { d.brg b with rateLive := true }).brgLost b 4 true).raise b 0xC6 b)) ∧
  (∀ (s : State) (b : Fin 16) (t : Ticks),
    s.dev.acts = true →
    Does (.rateFault { b := b, present := false } t) s t (fun d => d.setBrg b { d.brg b with rateLive := false })) ∧
  (∀ (s : State) (b : Fin 16) (t : Ticks),
    let d := s.dev.at_ t
    s.dev.acts = true →
    (d.brg b).state = .tracking ∧ (d.brg b).still = false →
    d.isVirtual b = false →
    d.gatePassed b = true →
    Does (.edgeTimeout b t) s t (fun d => d.brgCoast b 2 1)) ∧
  (∀ (s : State) (b : Fin 16) (t : Ticks),
    let d := s.dev.at_ t
    s.dev.acts = true →
    (d.brg b).state = .coasting →
    d.isVirtual b = false →
    (d.brg b).coastAt + d.cfg Od.brg_COAST_TIME b ≤ d.now →
    Does (.coastExpired b t) s t (fun d => d.brgLost b (d.brg b).coastCause false)) ∧
  (∀ (s : State) (b : Fin 16) (t : Ticks),
    let d := s.dev.at_ t
    s.dev.acts = true →
    d.flt.chipSafe = false →
    d.isStandby = false →
    d.brgType b ≠ 0 →
    ((d.set Od.brg_ENABLE b 1).brg b).state = .off →
    (d.set Od.brg_ENABLE b 1).brgType b ≠ 0 →
    (d.brg b).wireLive = false ∧ (d.brg b).rateLive = false →
    Does (.bearingEnable b t) s t (fun d0 =>
      let d := d0.set Od.brg_ENABLE b 1
      let x := d.brg b
      ((d.setBrg b { levelA := x.levelA, levelB := x.levelB, posSet := x.posSet, lastCause := x.lastCause, idxDev := x.idxDev,
                     capture := x.capture, causeLive := x.causeLive, remote := x.remote, fits := x.fits, ref := d.refAtEnable b,
                     base := if d.isQuad b || d.isSsi b then d.cfg Od.brg_ORIGIN b else 0 }).brgSetState b .acquiring).followVirtual)) ∧
  (∀ (s : State) (b : Fin 16) (t : Ticks),
    let d := s.dev.at_ t
    s.dev.acts = true →
    d.flt.chipSafe = false →
    d.isStandby = false →
    ((d.set Od.brg_ENABLE b 0).brg b).state ≠ .off →
    Does (.bearingDisable b t) s t (fun d0 =>
      let d := d0.set Od.brg_ENABLE b 0
      if d.cfg Od.brg_DISABLE_MODE b = 0 then d.setBrg b { d.brg b with draining := true } else d.bearingOff b)) ∧
  (∀ (s : State) (b : Fin 16) (t : Ticks),
    let d := s.dev.at_ t
    s.dev.acts = true →
    (d.brg b).draining = true →
    d.brgPending b = false →
    Does (.bearingDrainDone b t) s t (fun d => d.bearingOff b)) ∧
  (∀ (s : State) (b : Fin 16) (v : BVal) (t : Ticks),
    let d := s.dev.at_ t
    s.dev.acts = true →
    d.flt.chipSafe = false →
    Does (.positionSet b v t) s t (fun d => d.setBrg b { d.brg b with posSet := some v }))

/-- CAL_CAPTURE, CAL_CAPTURE_DONE and BEARING_PUBLISH complete. On a device that acts: a capture written on a TRACKING,
referenced Bearing with no tracker of another's starts, with the speed it started at; a running capture whose samples have run
64 periods writes CAL_TABLE and CAL_RESID as its samples give them, the mean speed less and plus 10 %, the mean die temperature
as CAL_TEMP and the load bin, and reads 2; at a multiple of PUB_PERIOD the holder of the claim sends the Bearing's sample and
stamp on every subscribed session that may seal. -/
def Obligations.CalibrationAndPublicationComplete : Prop :=
  (∀ (s : State) (b : Fin 16) (t : Ticks),
    let d := s.dev.at_ t
    s.dev.acts = true →
    d.flt.chipSafe = false →
    d.mayCapture b = true →
    Does (.calCapture b t) s t (fun d =>
      d.setBrg b { d.brg b with capture := { state := 1, reason := 0, speed := match (d.brg b).fit with
        | some f => roundAway f.vel
        | none => 0 } })) ∧
  (∀ (s : State) (b : Fin 16) (t : Ticks),
    let d := s.dev.at_ t
    let c := (d.brg b).capture
    s.dev.acts = true →
    c.state = 1 ∧ 0 < c.samples ∧ c.firstT < c.lastT →
    64 * d.cfg Od.cal_CAL_PERIOD b ≤ c.run.natAbs →
    Does (.calCaptureDone b c.lastT t) s t (fun d =>
      let v := c.meanSpeed
      ((((((d.setOct Od.cal_CAL_TABLE b (padTo 16384 (c.table b (d.cfgN Od.cal_CAL_POINTS b)))).set Od.cal_CAL_RESID b c.resid).set Od.cal_CAL_VLOW b (v - v / 10)).set
        Od.cal_CAL_VHIGH b (v + v / 10)).set Od.cal_CAL_TEMP b c.meanTemp).set Od.cal_CAL_LOADBIN b d.pwr.bin).onBrg b
        (fun x => { x with capture := { x.capture with state := 2 } }))) ∧
  (∀ (s : State) (b : Fin 16) (instant t : Ticks),
    let d := s.dev.at_ t
    s.dev.acts = true →
    d.holdsClaim = true →
    ¬ d.cfg Od.pub_PUB_PERIOD b ≤ 0 →
    instant % d.cfg Od.pub_PUB_PERIOD b = 0 →
    Does (.bearingPublish b instant t) s t (fun d =>
      ((List.range 32).filterMap (fun i => d.sesOf (d.cfgAt Od.pub_PUB_SESSION i b).toNat)).foldl (fun x i =>
        if x.maySend0 i then (x.takeTx i).2.sendFrame i 4 0 (x.takeTx i).1 (d.bearingPayload b instant) (some instant) [d.stamp b instant]
        else x) d))

/-- LAUNCH_COMMIT, FRAME_SEAL, LAUNCH_ACTION, LATE_TOL_PASSED, RELEASE, CANCEL and LCH_ENTRY_SEL complete. On a device that
acts: a PREDICTED entry whose commit point has passed commits to its prediction and what is due takes effect; a committed
frame that is due within 400 ns is sealed under the unit's claim; LAUNCH_ACTION carries out what is due; an AT_SAMPLE entry
past its LATE_TOL is late; a HELD entry that is released commits at once with LATE and RELEASED set; an entry that is not
committed is cancelled with reason 0x2E; LCH_ENTRY_SEL latches an entry's state, flags, instant and uncertainty, and zeros
where there is none. RELEASE and CANCEL are given for a unit out of chip safe state that is no standby and for an entry the
restore does not hold. -/
def Obligations.LaunchesCommitActAndEnd : Prop :=
  (∀ (s : State) (h : Nat) (t : Ticks) (e : Entry) (p : Pred),
    let d := s.dev.at_ t
    s.dev.acts = true →
    d.entry h = some e →
    e.state = .predicted ∧ e.pred = some p →
    d.commits = true →
    d.commitPoint e.image p ≤ d.now →
    d.rateFree h 32 = true →
    Does (.launchCommit (.entry h) t) s t (fun d => ((d.spendRate h 32).commit h p).runDue)) ∧
  (∀ (s : State) (h : Nat) (t : Ticks) (e : Entry),
    let d := s.dev.at_ t
    s.dev.acts = true →
    d.entry h = some e →
    e.state = .committed ∧ e.sealed = false →
    e.image.isFrame = true →
    e.instant - 400 * ns ≤ d.now →
    Does (.frameSeal h t) s t (fun d => d.setEntry h { e with sealed := true, sealClaim := d.fry.twin.claim })) ∧
  (∀ (s : State) (t : Ticks),
    s.dev.acts = true →
    Does (.launchAction t) s t (fun d => Dev.runDueFuel (3 * (d.lch.entries.length + d.lch.parts.length) + 2) d)) ∧
  (∀ (s : State) (h : Nat) (t : Ticks) (e : Entry),
    let d := s.dev.at_ t
    s.dev.acts = true →
    d.entry h = some e →
    ¬ d.now ≤ e.instant + e.image.lateTol →
    e.state = .atSample →
    Does (.lateTolPassed h t) s t (fun d => (d.late h).runDue)) ∧
  (∀ (s : State) (h : Nat) (t : Ticks) (e : Entry),
    let d := s.dev.at_ t
    s.dev.acts = true →
    d.flt.chipSafe = false →
    d.isStandby = false →
    d.entry h = some e →
    e.state = .held →
    (d.item e.item).any d.held = false →
    e.image.isOverlay = false →
    Does (.release h t) s t (fun d =>
      (d.commitAt h { (e.flag flLate).flag flReleased with committedAt := d.now } d.now e.unc).runDue)) ∧
  (∀ (s : State) (h : Nat) (t : Ticks) (e : Entry),
    let d := s.dev.at_ t
    s.dev.acts = true →
    d.flt.chipSafe = false →
    d.isStandby = false →
    d.entry h = some e →
    e.state.isCommitted = false →
    (d.item e.item).any d.held = false →
    Does (.cancel h t) s t (fun d => (d.delPart d.fry.flo.ownId h).endEntry h .cancelled 0x2E)) ∧
  (∀ (s : State) (h : Nat) (t : Ticks),
    s.dev.acts = true →
    Does (.lchEntrySel h t) s t (fun d =>
      { d with lch.snap := match d.entry h with
        | none => {}
        | some e => { state := e.state.code, flags := e.flags,
                      instant := (match e.state, e.pred with
                        | .predicted, some p => p.at_
                        | .waiting, _ => 0
                        | .unarmed, _ => 0
                        | .held, _ => 0
                        | _, _ => e.instant),
                      unc := (match e.state, e.pred with
                        | .predicted, some p => d.commitUnc e.image p
                        | .waiting, _ => 0
                        | .unarmed, _ => 0
                        | _, _ => e.unc) } }))

/-- PULSE_END, PIN_SENSE, PIN_ENABLE/DISABLE/DRAIN_DONE, the recalibration and the overlay commands complete. On a device that
acts: a pulse end that is due is applied with what falls into its slot; a sensed edge within 10 ns of its schedule sets LAST_DEV
and MAX_ABS_DEV and, within SENSE_LIMIT and with nothing waiting on it, no more; ON written to an OFF launch pin (chart active,
life cycle full) takes it to its idle level and drives it; OFF in mode DRAIN drains it, in any other mode cancels the
uncommitted entries on it; a draining pin without entries or pulses goes OFF; an idle pin with RECAL_ENABLE starts a replica
measurement, whose result is written for the present load bin; a participant of an overlay joins the exchange, and the master
opens it; an answer is kept once for its exchange, and in an exchange of the peer unit's (chip 16 or more) the answer that
completes it decides it and is passed on; the master decides an exchange at OVL_DECIDE before its instant and tells the other
members; an abort by refusal on a participant drops its part. -/
def Obligations.PinsAndOverlaysComplete : Prop :=
  (∀ (s : State) (n : Fin 32) (t : Ticks),
    let d := s.dev.at_ t
    s.dev.acts = true →
    ((d.pin n).ends.filter (fun x => x.dueBy d.now)).isEmpty = false →
    d.man.saving = false →
    d.suppressed = false →
    d.flt.hold = false ∧ d.yielding = false →
    Does (.pulseEnd n t) s t (fun d => Dev.pinSlot 1 d n (d.endSlot ((d.pin n).ends.filter (fun x => x.dueBy d.now))) [])) ∧
  (∀ (s : State) (n : Fin 32) (m t : Ticks) (w : SenseWait) (rest : List SenseWait),
    let d := s.dev.at_ t
    s.dev.acts = true →
    (d.pin n).sense = w :: rest →
    m - w.sched ≤ 10 * ns ∧ w.sched - m ≤ 10 * ns →
    d.cfgB Od.pin_SENSE_ENABLE n = true →
    d.holdsClaim = true →
    w.handle = none →
    ¬ d.cfg Od.pin_SENSE_LIMIT n < (if m - w.sched < 0 then -(m - w.sched) else m - w.sched) →
    Does (.pinSense n (some m) t) s t (fun d =>
      let dev := m - w.sched
      let d1 := d.setPin n { d.pin n with sense := rest }
      (d1.set Od.pst_LAST_DEV n dev).set Od.pst_MAX_ABS_DEV n (max (d1.cfg Od.pst_MAX_ABS_DEV n) (if dev < 0 then -dev else dev)))) ∧
  (∀ (s : State) (n : Fin 32) (t : Ticks),
    let d := s.dev.at_ t
    s.dev.acts = true →
    d.flt.chipSafe = false →
    d.isStandby = false →
    d.admitsWork = true →
    (d.set Od.pin_ENABLE n 1).admitsWork = true →
    ((d.set Od.pin_ENABLE n 1).pin n).state = .off →
    d.flt.hold = false →
    Does (.pinEnable n t) s t (fun d0 =>
      let d := d0.set Od.pin_ENABLE n 1
      d.drivePins (d.setPin n { d.pin n with state := .on, base := d.cfgB Od.pin_IDLE_LEVEL n, pulses := 0, ends := [], frozen := none, idleDue := false }))) ∧
  (∀ (s : State) (n : Fin 32) (t : Ticks),
    let d := s.dev.at_ t
    s.dev.acts = true →
    d.flt.chipSafe = false →
    d.isStandby = false →
    ((d.set Od.pin_ENABLE n 0).pin n).state = .on →
    Does (.pinDisable n t) s t (fun d0 =>
      let d := d0.set Od.pin_ENABLE n 0
      if d.cfg Od.pin_DISABLE_MODE n = 0 then d.setPin n { d.pin n with state := .draining }
      else ((d.pinEntries n).filter (fun e => !e.2.state.isCommitted && !(d.item e.2.item).any d.held)).foldl (fun x e => x.endEntry e.1 .cancelled 0x2F)
        (d.setPin n { d.pin n with state := .cancelling }))) ∧
  (∀ (s : State) (n : Fin 32) (t : Ticks),
    let d := s.dev.at_ t
    s.dev.acts = true →
    (d.pin n).state = .draining ∨ (d.pin n).state = .cancelling →
    (d.pinEntries n).isEmpty = true →
    (d.pin n).ends.isEmpty = true →
    Does (.pinDrainDone n t) s t (fun d => d.drivePins (d.setPin n { d.pin n with state := .off, frozen := none, idleDue := false }))) ∧
  (∀ (s : State) (n : Fin 32) (t : Ticks),
    let d := s.dev.at_ t
    s.dev.acts = true →
    (d.pin n).state ≠ .off →
    (d.pin n).lastEdge = none →
    d.cfgB Od.pcl_RECAL_ENABLE n = true →
    d.edgeDue n (20 * us) = false →
    Does (.pinRecalCheck n t) s t (fun d => d.setPin n { d.pin n with recal := some d.now })) ∧
  (∀ (s : State) (n : Fin 32) (rise fall temp : Int) (t at_ : Ticks),
    let d := s.dev.at_ t
    s.dev.acts = true →
    (d.pin n).recal = some at_ →
    (d.pin n).lastEdge = none →
    d.edgeDue n (2 * us) = false →
    Does (.pinRecalDone n rise fall temp t) s t (fun d =>
      let b := d.pwr.bin
      let d1 := d.setPin n { d.pin n with recal := none }
      (((d1.setAt Od.pcl_RISE b n rise).setAt Od.pcl_FALL b n fall).setAt Od.pcl_BIN_TEMP b n temp).set Od.pcl_VALID n
        (setBit (d.cfgN Od.pcl_VALID n) b))) ∧
  (∀ (s : State) (chip h : Nat) (image : EntryImage) (t : Ticks),
    s.dev.acts = true →
    Does (.overlayPrepare chip h image t) s t (fun d =>
      let i := d.resolveImage image
      let d1 := d.joinExchange chip h i (d.predictImage i)
      if d.isMaster then d1.openExchange chip h i else d1)) ∧
  (∀ (s : State) (chip h sender : Nat) (a : OvlAnswer) (t : Ticks),
    s.dev.acts = true →
    chip < 16 →
    Does (.overlayAnswer chip h sender a t) s t (fun d =>
      { d with lch.masterEx := d.lch.masterEx.map (fun x =>
          if x.chip == chip && x.handle == h && x.decided.isNone && sender ∈ x.members && x.answers.all (fun y => y.1 ≠ sender)
          then { x with answers := x.answers ++ [(sender, a)] } else x) })) ∧
  (∀ (s : State) (chip h sender : Nat) (a : OvlAnswer) (t : Ticks) (x : OvlExchange) (b : OvlAnswer),
    let d := s.dev.at_ t
    let d1 := d.onExchange chip h (fun x =>
      if sender ∈ x.members && x.answers.all (fun y => y.1 ≠ sender) then { x with answers := x.answers ++ [(sender, a)] } else x)
    s.dev.acts = true →
    16 ≤ chip →
    d1.lch.masterEx.find? (fun x => x.chip == chip && x.handle == h && x.decided.isNone) = some x →
    x.joint = some b →
    Does (.overlayAnswer chip h sender a t) s t (fun _ =>
      (d1.onExchange chip h (fun x => { x with decided := some (if b = .refuse then .abortRefused else .commit) })).sendOvl 16 (.answer chip h b))) ∧
  (∀ (s : State) (chip h : Nat) (t : Ticks) (x : OvlExchange) (l : Ticks),
    let d := s.dev.at_ t
    s.dev.acts = true →
    d.lch.masterEx.find? (fun x => x.chip == chip && x.handle == h && x.decided.isNone) = some x →
    d.exchangeInstant x = some l →
    d.isMaster = true →
    chip < 16 →
    ¬ d.now < l - d.cfg Od.lch_OVL_DECIDE 0 →
    Does (.overlayDecide chip h t) s t (fun d =>
      ((x.members.filter (fun m => m ≠ d.fry.flo.ownId)).foldl (fun (e : Dev) m => e.sendOvl m (.decide chip h (x.verdict l)))
        { d with lch.masterEx := d.lch.masterEx.filter (fun y => !(y.chip == chip && y.handle == h)) }).decisionReceive chip h (x.verdict l))) ∧
  (∀ (s : State) (chip h : Nat) (t : Ticks) (p : OvlPart),
    let d := s.dev.at_ t
    s.dev.acts = true →
    d.ovlPart chip h = some p →
    chip ≠ d.fry.flo.ownId →
    (match p.image.target with
    | .overlay _ 0 _ => true
    | _ => false) = false →
    Does (.overlayDecisionReceive chip h .abortRefused t) s t (fun d => (d.passDecision chip h .abortRefused).delPart chip h))

/-- DB_SUB, DB_CPL, ITEM_ADMIT, QUEUE_DISPATCH, ITEM_EXPIRY, CONFIRM_TIMEOUT, CANCEL_SEQ and MIRROR_ACK complete. On a device
that acts: the owning function's DB_SUB with n descriptors of room moves the submission ring's host position by n, and on a
delivery ring takes the delivered items; its DB_CPL frees n records, closes a gap record it has passed, retires and pumps; the
oldest submitted descriptor of a latched submission ring is admitted and the ring's device position moves by one; QUEUE_DISPATCH
delivers the oldest accepted item of an open delivery queue; an accepted item whose expiry has come ends EXPIRED; a dispatched
item without a confirmation for CONFIRM_TIMEOUT ends FAILED with reason 6 and its slot lapses; CANCEL_SEQ of an accepted item
cancels it with reason 2, and of a dispatched one counts in CANCEL_LATE; a mirror acknowledgement of a running active's journal
completes what it covers, sets REPL_RTT by the newest record it covers and, over REPL_RTT_LIMIT, raises event 0xD9. -/
def Obligations.DoorbellsAndDispatchComplete : Prop :=
  (∀ (s : State) (pf : Fin 4) (q : Fin 16384) (pos n : Nat) (t : Ticks),
    let d := s.dev.at_ t
    s.dev.acts = true →
    d.pfOf q = (pf : Nat) →
    (d.queue q).ringValid = true →
    ringAhead (d.queue q).workLog2 (d.queue q).hostPos (pos % 2 ^ 17) = some n →
    d.delivers q = false →
    ¬ 2 ^ (d.queue q).workLog2 - ((d.queue q).hostPos - (d.queue q).devPos) < n →
    Does (.dbSub pf q pos t) s t (fun d => d.setQueue q { d.queue q with hostPos := (d.queue q).hostPos + n })) ∧
  (∀ (s : State) (pf : Fin 4) (q : Fin 16384) (pos n : Nat) (t : Ticks),
    let d := s.dev.at_ t
    s.dev.acts = true →
    d.pfOf q = (pf : Nat) →
    (d.queue q).ringValid = true →
    ringAhead (d.queue q).workLog2 (d.queue q).hostPos (pos % 2 ^ 17) = some n →
    d.delivers q = true →
    ¬ (d.queue q).devPos - (d.queue q).hostPos < n →
    Does (.dbSub pf q pos t) s t (fun d =>
      (d.setQueue q { d.queue q with hostPos := (d.queue q).hostPos + n }).confirmTaken q ((d.queue q).hostPos + n))) ∧
  (∀ (s : State) (pf : Fin 4) (q : Fin 16384) (pos n : Nat) (t : Ticks),
    let d := s.dev.at_ t
    s.dev.acts = true →
    d.pfOf q = (pf : Nat) →
    (d.queue q).ringValid = true →
    ringAhead (d.queue q).cplLog2 (d.queue q).cplHead (pos % 2 ^ 17) = some n →
    ¬ (d.queue q).cplTail - (d.queue q).cplHead < n →
    (d.queue q).gapOpen = none →
    Does (.dbCpl pf q pos t) s t (fun d =>
      let x := d.queue q
      let d1 := ((d.setQueue q { x with cplHead := x.cplHead + n }).freeRetired q (x.cplHead + n)).pump q
      let y := d1.queue q
      let d2 := if y.state = .stalled && !y.dmaStall && y.slotsFree then d1.setQueue q { y with state := .on } else d1
      d2.retryBlocked)) ∧
  (∀ (s : State) (q : Fin 16384) (desc : Bytes) (body : Option Bytes) (t : Ticks),
    let d := s.dev.at_ t
    s.dev.acts = true →
    d.flt.chipSafe = false →
    d.cfg Od.que_TARGET q ≠ 0 →
    (d.queue q).ringValid = true ∧ (d.queue q).workChip = false →
    (d.queue q).devPos ≠ (d.queue q).hostPos →
    (d.queue q).slotsFree = true →
    Does (.itemAdmit q desc body t) s t (fun d =>
      let o := { decodeOffer .host desc body with fetched := (decodeOffer .host desc body).fetched && d.bodyInWindow q desc }
      match d.admitOffer q o with
      | (.accepted _, d1) => d1.onQueue q (fun y => { y with devPos := y.devPos + 1 })
      | (.refused r, d1) => (d1.refuse q o.tag r).onQueue q (fun y => { y with devPos := y.devPos + 1 })
      | (.waiting, d1) => d1.stallQueue q)) ∧
  (∀ (s : State) (n k : Nat) (t0 t : Ticks),
    let d := s.dev.at_ t
    s.dev.acts = true →
    d.fry.twin.role = .active →
    d.fry.twin.ackedJournal < n ∧ n ≤ d.fry.twin.journal →
    (d.man.unackedAt.filter (fun e => decide (e.1 ≤ n))).getLast? = some (k, t0) →
    Does (.mirrorAck n t) s t (fun d0 =>
      let d := d0.twinGot
      let d1 := ({ d with fry.twin.ackedJournal := n }.onMan (fun m =>
        { m with unackedAt := m.unackedAt.filter (fun e => decide (n < e.1)) })).set Od.man_REPL_RTT 0 (d.now - t0)
      (sortBy (fun e => (e.2.journal : Int)) (d.que.man.items.filter (fun e => e.2.unacked && decide (e.2.journal ≤ n)))).foldl
        (fun x e => x.completeAccept e.1) (if d.cfg Od.man_REPL_RTT_LIMIT 0 < d.now - t0 then d1.raise 17 0xD9 0 [d.now - t0] else d1))) ∧
  (∀ (s : State) (q : Fin 16384) (t : Ticks) (h : Nat) (x : Item),
    let d := s.dev.at_ t
    s.dev.acts = true →
    d.isStandby = false →
    d.man.saving = false ∧ d.man.parked = false →
    d.flt.chipSafe = false →
    (d.queue q).dmaStall = false ∧ (d.queue q).replay = [] →
    d.nextItem q = some (h, x) →
    x.kind ≠ .launchEntry →
    x.unacked = false ∧ x.resend = false ∧ x.expiry = none →
    d.held x = false →
    d.queueOrder x = true ∧ d.convoyOrder x = true →
    d.cfg Od.que_TARGET q = 0 →
    (d.queue q).isOpen = true →
    Does (.queueDispatch q t) s t (fun d => d.deliverItem h x)) ∧
  (∀ (s : State) (q : Fin 16384) (seq h : Nat) (x : Item) (e t : Ticks),
    let d := s.dev.at_ t
    s.dev.acts = true →
    d.findItem q seq = some (h, x) →
    x.expiry = some e →
    x.state = .accepted ∧ x.unacked = false →
    e ≤ d.now →
    d.held x = false →
    d.isStandby = false →
    Does (.itemExpiry q seq t) s t (fun d => d.endItem h .expired 0x01)) ∧
  (∀ (s : State) (q : Fin 16384) (seq h : Nat) (x : Item) (t : Ticks),
    let d := s.dev.at_ t
    s.dev.acts = true →
    d.findItem q seq = some (h, x) →
    x.state = .dispatched →
    ¬ d.now < x.dispatchedAt + d.cfg Od.que_CONFIRM_TIMEOUT q →
    d.isStandby = false →
    d.held x = false →
    x.kind ≠ .launchEntry →
    Does (.confirmTimeout q seq t) s t (fun d => ((d.lapseSlot h).endItem h .failed 0x06).retryBlocked)) ∧
  (∀ (s : State) (q : Fin 16384) (seq h : Nat) (x : Item) (t : Ticks),
    let d := s.dev.at_ t
    s.dev.acts = true →
    d.flt.chipSafe = false →
    d.isStandby = false →
    d.findItem q seq = some (h, x) →
    d.held x = false →
    x.state = .accepted ∧ x.unacked = false →
    Does (.cancelSeq q seq t) s t (fun d => d.cancelItem h x 0x02 0x2E)) ∧
  (∀ (s : State) (q : Fin 16384) (seq h : Nat) (x : Item) (t : Ticks),
    let d := s.dev.at_ t
    s.dev.acts = true →
    d.flt.chipSafe = false →
    d.isStandby = false →
    d.findItem q seq = some (h, x) →
    d.held x = false →
    x.state = .dispatched →
    Does (.cancelSeq q seq t) s t (fun d => d.bump Od.qst_CANCEL_LATE q))

/-- QUE_RING_CFG, QUEUE_ENABLE/DISABLE/DRAIN_DONE, REPLICATION_TIMEOUT, MANIFEST_SCRUB and HOLDUP_OK_RISE/FALL complete. On a
device that acts: a ring configuration with LATCH set and both sizes within 4 to 16 on an unlatched ring latches it with its
positions at 0, and the queue opens where it may; without LATCH on a queue that is OFF it unlatches it; ON written to a queue
whose configuration and window hold sets it ON again where it drains or cancels; OFF in mode DRAIN drains a queue that is not
OFF, and in mode CANCEL cancels it; a draining or cancelling queue without unfinished items whose records are written goes OFF;
an active whose partner has not acknowledged for DETECT_TIME leaves the pair; a scrub works through the cells found; the hold-up
signal opens and closes the accept gate. -/
def Obligations.QueueControlAndHoldupComplete : Prop :=
  (∀ (s : State) (q : Fin 16384) (v : Nat) (t : Ticks),
    let d := s.dev.at_ t
    s.dev.acts = true →
    bitOf v 31 = true →
    (d.queue q).ringValid = false →
    4 ≤ bitsOf v 4 0 ∧ bitsOf v 4 0 ≤ 16 →
    4 ≤ bitsOf v 12 8 ∧ bitsOf v 12 8 ≤ 16 →
    Does (.queRingCfg q v t) s t (fun d =>
      (d.setQueue q { d.queue q with ringValid := true, workLog2 := bitsOf v 4 0, cplLog2 := bitsOf v 12 8, workChip := bitOf v 16, cplChip := bitOf v 17, lateAt := [], workBase := ringBase (bitOf v 16) (d.queue q).workBase, cplBase := ringBase (bitOf v 17) (d.queue q).cplBase, hostPos := 0, devPos := 0, cplTail := 0, cplHead := 0, cplReserved := 0, gapOpen := none, fresh := true }).tryOpen q)) ∧
  (∀ (s : State) (q : Fin 16384) (v : Nat) (t : Ticks),
    let d := s.dev.at_ t
    s.dev.acts = true →
    bitOf v 31 = false →
    (d.queue q).state = .off →
    Does (.queRingCfg q v t) s t (fun d =>
      d.setQueue q { d.queue q with ringValid := false, workLog2 := bitsOf v 4 0, cplLog2 := bitsOf v 12 8, workChip := bitOf v 16, cplChip := bitOf v 17, workBase := ringBase (bitOf v 16) (d.queue q).workBase, cplBase := ringBase (bitOf v 17) (d.queue q).cplBase })) ∧
  (∀ (s : State) (q : Fin 16384) (t : Ticks),
    let d := s.dev.at_ t
    s.dev.acts = true →
    d.flt.chipSafe = false →
    d.isStandby = false →
    d.queueConfigOk q = true ∧ d.admitsWork = true →
    (d.queue q).ringValid = false ∨ d.queueWindowOk q = true →
    Does (.queueEnable q t) s t (fun d =>
      let d1 := d.set Od.que_ENABLE q 1
      if (d1.queue q).state = .draining || (d1.queue q).state = .cancelling then d1.setQueue q { d1.queue q with state := .on } else d1.tryOpen q)) ∧
  (∀ (s : State) (q : Fin 16384) (t : Ticks),
    let d := s.dev.at_ t
    s.dev.acts = true →
    d.flt.chipSafe = false →
    d.isStandby = false →
    d.cfg Od.que_DISABLE_MODE q = 0 →
    (d.queue q).state ≠ .off →
    Does (.queueDisable q t) s t (fun d => (d.set Od.que_ENABLE q 0).setQueue q { d.queue q with state := .draining })) ∧
  (∀ (s : State) (q : Fin 16384) (t : Ticks),
    let d := s.dev.at_ t
    s.dev.acts = true →
    d.flt.chipSafe = false →
    d.isStandby = false →
    d.cfg Od.que_DISABLE_MODE q = 1 →
    (d.queue q).state ≠ .off →
    Does (.queueDisable q t) s t (fun d => ((d.set Od.que_ENABLE q 0).setQueue q { d.queue q with state := .cancelling }).cancelQueue q)) ∧
  (∀ (s : State) (q : Fin 16384) (t : Ticks),
    let d := s.dev.at_ t
    s.dev.acts = true →
    (d.queue q).state = .draining ∨ (d.queue q).state = .cancelling →
    d.queueIdle q = true →
    (d.queue q).written = true →
    Does (.queueDrainDone q t) s t (fun d => d.setQueue q { d.queue q with state := .off, dmaStall := false })) ∧
  (∀ (s : State) (n : Nat) (rest : List (Nat × Ticks)) (t at_ : Ticks),
    let d := s.dev.at_ t
    s.dev.acts = true →
    d.man.unackedAt = (n, at_) :: rest →
    d.fry.twin.role = .active →
    at_ + d.cfg Od.twn_DETECT_TIME 0 ≤ d.now →
    Does (.replicationTimeout t) s t (fun d => d.unjoin)) ∧
  (∀ (s : State) (found : List (Nat × CellFault)) (t : Ticks),
    s.dev.acts = true →
    Does (.manifestScrub found t) s t (fun d => found.foldl (fun x e => x.scrubCell e.1 e.2) d)) ∧
  (∀ (s : State) (t : Ticks),
    s.dev.acts = true →
    Does (.holdupOkFall t) s t (fun d => { d with que.man.holdupOk := false }.noteGate)) ∧
  (∀ (s : State) (t : Ticks),
    s.dev.acts = true →
    Does (.holdupOkRise t) s t (fun d => { d with que.man.holdupOk := true }.noteGate))

/-- PORT_ENABLE, PORT_LINK, TIME_SYNC_MESSAGE, SYNC_LOSS, HOLDOVER_LIMIT, PPS_OUT and PPS_IN complete. On a device that acts: ON
written to a port whose MODE is not OFF brings it up; OFF applies the port's disable mode; a link change is shown in LINK and
raises its event; a synchronisation message from a master better than this device and no worse than the present one, its offset
within LOCK_THRESHOLD, counts towards LOCK_COUNT (from 1 again after a change of master or a missed interval) and is the newest
message; locked time without a message for four intervals goes to holdover; holdover longer than HOLDOVER_LIMIT goes free;
PPS_OUT puts out a pulse on a full second; a reference pulse in holdover with REF_SOURCE 1 or 3 is kept and steers the clock by
a free value (log entry 35). -/
def Obligations.PortsAndTimeComplete : Prop :=
  (∀ (s : State) (p : Fin 32) (t : Ticks),
    let d := s.dev.at_ t
    s.dev.acts = true →
    d.flt.chipSafe = false →
    d.isStandby = false →
    d.cfg Od.prt_MODE p ≠ 0 →
    Does (.portEnable p true t) s t (fun d => (d.set Od.prt_ENABLE p 1).onPort p (fun x => { x with up := true, draining := false }))) ∧
  (∀ (s : State) (p : Fin 32) (t : Ticks),
    let d := s.dev.at_ t
    s.dev.acts = true →
    d.flt.chipSafe = false →
    d.isStandby = false →
    Does (.portEnable p false t) s t (fun d => (d.set Od.prt_ENABLE p 0).portOff p (decide (d.cfg Od.prt_DISABLE_MODE p = 1)))) ∧
  (∀ (s : State) (p : Fin 32) (up : Bool) (t : Ticks),
    let d := s.dev.at_ t
    s.dev.acts = true →
    (d.port p).link ≠ up →
    Does (.portLink p up t) s t (fun d => (d.onPort p (fun x => { x with link := up })).raise 19 0xE9 p [(b2n up : Int)])) ∧
  (∀ (s : State) (m : SyncMsg) (t : Ticks),
    let d := s.dev.at_ t
    s.dev.acts = true →
    d.cfg Od.tim_PROFILE 0 ≠ 0 →
    d.syncTaken m = true →
    betterClock d.ownClock m.master = false →
    d.net.time.master = [] ∨ betterClock d.net.time.master m.master = false →
    m.offset < d.cfg Od.tim_LOCK_THRESHOLD 0 ∧ -m.offset < d.cfg Od.tim_LOCK_THRESHOLD 0 →
    d.net.time.state = .locked →
    Does (.timeSyncMessage m t) s t (fun d =>
      { d with net.time := { d.net.time with offset := m.offset, servoUnc := m.unc, gm := m.gm, steps := m.steps, pathDelay := m.pathDelay, syncInterval := m.interval, lastSync := d.now, good := (if d.net.time.master ≠ m.master || d.net.time.missed d.now then 0 else d.net.time.good) + 1, master := m.master, elected := false } })) ∧
  (∀ (s : State) (t : Ticks),
    let d := s.dev.at_ t
    s.dev.acts = true →
    d.net.time.state = .locked →
    d.net.time.lastSync + 4 * d.net.time.syncInterval ≤ d.now →
    Does (.syncLoss t) s t (fun d => ({ d with net.time.good := 0 }).timeState .holdover)) ∧
  (∀ (s : State) (t : Ticks),
    let d := s.dev.at_ t
    s.dev.acts = true →
    d.net.time.state = .holdover →
    d.net.time.enteredAt + d.cfg Od.tim_HOLDOVER_LIMIT 0 < d.now →
    Does (.holdoverLimit t) s t (fun d => d.timeState .free)) ∧
  (∀ (s : State) (t : Ticks),
    let d := s.dev.at_ t
    s.dev.acts = true →
    d.cfgB Od.tim_PPS_OUT_ENABLE 0 = true →
    d.now % sec = 0 →
    Does (.ppsOut t) s t (fun d => d.emit .ppsOut)) ∧
  (∀ (s : State) (stamp t : Ticks),
    let d := s.dev.at_ t
    s.dev.acts = true →
    d.net.time.state = .holdover →
    d.cfg Od.tim_REF_SOURCE 0 = 1 ∨ d.cfg Od.tim_REF_SOURCE 0 = 3 →
    Does (.ppsIn stamp t) s t (fun d => { d with free := d.free + 1, net.time.pps := some stamp, net.time.steer := Config.freeInt d.free }))

/-- The set-up messages and timers, REOPEN, SESSION_ENABLE, CERTIFICATE_EXPIRY, HEARTBEAT_SEND and HB_TIMEOUT complete. On a
device that acts: the last fragment of a set-up message hands the message to the step of the handshake that its number names
(OPEN, ANSWER, CONFIRM, REFUSE); the set-up timer drops reassemblies that have waited too long; an unanswered set-up message
is sent again after 20 ms; REOPEN opens an enabled session; ON enables a session, OFF takes it down in its disable mode; a
session whose certificate has expired is refused with reason 1 and closes; a live session sends a heartbeat each HB_PERIOD;
an OPEN session without a heartbeat for HB_TIMEOUT stalls. -/
def Obligations.SessionSetupAndControlComplete : Prop :=
  (∀ (s : State) (f : Fragment) (m : Bytes) (d0 e : Dev) (t : Ticks),
    let d := s.dev.at_ t
    s.dev.acts = true →
    d.linkTake f.port (28 + f.bytes.length) f.crcOk f.carrier = (true, d0) →
    d0.reassemble 1 f = (some m, e) →
    Does (.setupOpen f t) s t (fun _ => e.openReceived f m)) ∧
  (∀ (s : State) (f : Fragment) (m : Bytes) (d0 e : Dev) (t : Ticks),
    let d := s.dev.at_ t
    s.dev.acts = true →
    d.linkTake f.port (28 + f.bytes.length) f.crcOk f.carrier = (true, d0) →
    d0.reassemble 2 f = (some m, e) →
    Does (.setupAnswer f t) s t (fun _ => e.answerReceived f m)) ∧
  (∀ (s : State) (f : Fragment) (m : Bytes) (d0 e : Dev) (t : Ticks),
    let d := s.dev.at_ t
    s.dev.acts = true →
    d.linkTake f.port (28 + f.bytes.length) f.crcOk f.carrier = (true, d0) →
    d0.reassemble 3 f = (some m, e) →
    Does (.setupConfirm f t) s t (fun _ => e.confirmReceived f m)) ∧
  (∀ (s : State) (f : Fragment) (m : Bytes) (d0 e : Dev) (t : Ticks),
    let d := s.dev.at_ t
    s.dev.acts = true →
    d.linkTake f.port (28 + f.bytes.length) f.crcOk f.carrier = (true, d0) →
    d0.reassemble 4 f = (some m, e) →
    Does (.setupRefuse f t) s t (fun _ => e.refuseReceived f m)) ∧
  (∀ (s : State) (t : Ticks),
    s.dev.acts = true →
    Does (.setupTimeout t) s t (fun d => { d with net.reasm := d.net.reasm.filter (fun r => decide (d.now < r.startedAt + setupTimeout)) })) ∧
  (∀ (s : State) (i : Fin 16384) (u : Setup) (t : Ticks),
    let d := s.dev.at_ t
    s.dev.acts = true →
    (d.ses i).setup = some u →
    u.lastSent + 20 * ms ≤ d.now →
    u.expect ≠ 0 ∧ u.sent ≠ [] →
    Does (.setupRetransmit i t) s t (fun d => d.sendSetup i u.sentMsg u.sent)) ∧
  (∀ (s : State) (i : Fin 16384) (fresh : Bool) (t : Ticks),
    let d := s.dev.at_ t
    s.dev.acts = true →
    d.flt.chipSafe = false →
    d.isStandby = false →
    d.cfgB Od.ses_ENABLE i = true →
    Does (.reopen i fresh t) s t (fun d => d.openSession i fresh)) ∧
  (∀ (s : State) (i : Fin 16384) (t : Ticks),
    let d := s.dev.at_ t
    s.dev.acts = true →
    d.flt.chipSafe = false →
    d.isStandby = false →
    Does (.sessionEnable i true t) s t (fun d => d.sessionOn i)) ∧
  (∀ (s : State) (i : Fin 16384) (t : Ticks),
    let d := s.dev.at_ t
    s.dev.acts = true →
    d.flt.chipSafe = false →
    d.isStandby = false →
    Does (.sessionEnable i false t) s t (fun d => (d.set Od.ses_ENABLE i 0).sessionOff i (decide (d.cfg Od.ses_DISABLE_MODE i = 1)))) ∧
  (∀ (s : State) (i : Fin 16384) (e t : Ticks),
    let d := s.dev.at_ t
    s.dev.acts = true →
    (d.ses i).certExpires = some e →
    e ≤ d.now →
    (d.ses i).state ≠ .closed →
    Does (.certificateExpiry i t) s t (fun d =>
      (((d.refuseTo i (d.ses i).exchange 1).onSes i (fun y => { y with lastRefuse := 1 })).raise 18 0xE1 i [1]).sessionClosed i)) ∧
  (∀ (s : State) (i : Fin 16384) (t : Ticks),
    let d := s.dev.at_ t
    s.dev.acts = true →
    (d.ses i).state.live = true →
    (d.ses i).lastHbTx + d.cfg Od.ses_HB_PERIOD i ≤ d.now →
    d.standsBy i = false →
    Does (.heartbeatSend i t) s t (fun d => (d.onSes i (fun y => { y with lastHbTx := d.now })).send2 i 6 (d.hbPayload i))) ∧
  (∀ (s : State) (i : Fin 16384) (t : Ticks),
    let d := s.dev.at_ t
    s.dev.acts = true →
    (d.ses i).state = .opened →
    (d.ses i).lastHbRx + d.cfg Od.ses_HB_TIMEOUT i ≤ d.now →
    d.standsBy i = false →
    Does (.hbTimeout i t) s t (fun d => d.sesState i .stalled))

/-- CMD, ACK, NACK, DATA, STREAM, SAFE, HEARTBEAT, CLAIM, KEYUPD and JQUERY frames that pass the receive checks complete. On a
device that acts, for a frame that passes the receive checks of its session: a CMD below RX_FLOOR is counted IN_DOUBT and
answered NACK 4, any other of a legal length is offered to the ingress queue; the entries of an ACK and a NACK are settled
one by one; DATA and SAFE frames go to the session's lane; a STREAM frame goes to every stream of the session; a heartbeat
is noted with the partner's count and ends a stall; a CLAIM frame with a higher claim raises the session's claim; the
partner's answer to this device's key update takes effect; a JQUERY tells what the journal holds of the sequence. -/
def Obligations.ReceivedFramesComplete : Prop :=
  (∀ (s : State) (f : RxFrame) (i : Nat) (p : Bytes) (t : Ticks),
    let d := s.dev.at_ t
    s.dev.acts = true →
    (d.receive 0 f).1 = some (i, p) →
    f.seq < ((d.receive 0 f).2.ses i).rxFloor →
    Does (.cmdReceive f t) s t (fun d => ((d.receive 0 f).2.bump Od.sst_IN_DOUBT i).decideNack i f.seq 4)) ∧
  (∀ (s : State) (f : RxFrame) (i q : Nat) (p : Bytes) (t : Ticks),
    let d := s.dev.at_ t
    s.dev.acts = true →
    (d.receive 0 f).1 = some (i, p) →
    ¬ f.seq < ((d.receive 0 f).2.ses i).rxFloor →
    (d.receive 0 f).2.ingressQueue i = some q →
    p.length ≠ 0 ∧ ¬ 240 < p.length →
    Does (.cmdReceive f t) s t (fun d =>
      let d1 := (d.receive 0 f).2
      match d1.admitOffer q { source := .ingress, kind := .command, body := p, ingress := some (i, f.seq), ackNow := bitOf f.flags 1 } with
      | (.accepted _, d2) => d2
      | (.waiting, d2) => d2.sendNack i f.seq 3
      | (.refused r, d2) =>
        let d3 := (d2.onQueue q (fun x => { x with lastRefusal := r })).bump Od.qst_REFUSED q
        if r = 0x02 then d3.decideNack i f.seq 5
        else if r = 0x03 then d3.decideNack i f.seq 6
        else d3.sendNack i f.seq 3)) ∧
  (∀ (s : State) (f : RxFrame) (i : Nat) (p : Bytes) (t : Ticks),
    let d := s.dev.at_ t
    s.dev.acts = true →
    (d.receive 1 f).1 = some (i, p) →
    Does (.ackReceive f t) s t (fun d =>
      (((ackEntries 64 p).foldl (fun x e => x.ackOne i e.1) (d.receive 1 f).2).markSeq i f.seq).retryBlocked)) ∧
  (∀ (s : State) (f : RxFrame) (i : Nat) (p : Bytes) (t : Ticks),
    let d := s.dev.at_ t
    s.dev.acts = true →
    (d.receive 11 f).1 = some (i, p) →
    Does (.nackReceive f t) s t (fun d =>
      (((ackEntries 64 p).foldl (fun x e => x.nackOne i e.1 e.2) (d.receive 11 f).2).markSeq i f.seq).retryBlocked)) ∧
  (∀ (s : State) (f : RxFrame) (i : Nat) (p : Bytes) (t : Ticks),
    let d := s.dev.at_ t
    s.dev.acts = true →
    (d.receive 2 f).1 = some (i, p) →
    Does (.dataReceive f t) s t (fun d =>
      let (ok, d1) := (d.receive 2 f).2.deliverFrame 2 f p
      if ok then d1.markSeq i f.seq else d1)) ∧
  (∀ (s : State) (f : RxFrame) (i : Nat) (p : Bytes) (t : Ticks),
    let d := s.dev.at_ t
    s.dev.acts = true →
    (d.receive 5 f).1 = some (i, p) →
    Does (.safeReceive f t) s t (fun d => ((d.receive 5 f).2.deliverFrame 5 f p).2)) ∧
  (∀ (s : State) (f : RxFrame) (i : Nat) (p : Bytes) (t : Ticks),
    let d := s.dev.at_ t
    s.dev.acts = true →
    (d.receive 3 f).1 = some (i, p) →
    Does (.streamReceive f t) s t (fun d =>
      let d1 := (d.receive 3 f).2
      (d1.streamsOf f.session).foldl (fun y n => y.streamArrive n f p) (d1.markSeq i f.seq))) ∧
  (∀ (s : State) (f : RxFrame) (i : Nat) (p : Bytes) (t : Ticks),
    let d := s.dev.at_ t
    s.dev.acts = true →
    (d.receive 6 f).1 = some (i, p) →
    Does (.heartbeatReceive f t) s t (fun d =>
      let d1 := (d.receive 6 f).2
      let d2 := d1.onSes i (fun x => { x with lastHbRx := d.now, peerHigh := beAt p 0 6 })
      if (d2.ses i).state = .stalled && !((d2.ses i).upd.any (fun u => !u.replied && decide (3 ≤ u.attempts))) then d2.sesState i .opened else d2)) ∧
  (∀ (s : State) (f : RxFrame) (i : Nat) (p : Bytes) (t : Ticks),
    let d := s.dev.at_ t
    s.dev.acts = true →
    (d.receive 7 f).1 = some (i, p) →
    ((d.receive 7 f).2.ses i).claim < beAt p 0 4 →
    Does (.claimReceive f t) s t (fun d =>
      (((d.receive 7 f).2.onSes i (fun x => { x with claim := beAt p 0 4 })).replSession i).raise 18 0xE2 i [(beAt p 0 4 : Int)])) ∧
  (∀ (s : State) (f : RxFrame) (i : Nat) (p : Bytes) (u : KeyUpdate) (t : Ticks),
    let d := s.dev.at_ t
    s.dev.acts = true →
    (d.receive 8 f).1 = some (i, p) →
    ((d.receive 8 f).2.ses i).upd = some u →
    beAt p 0 4 = ((d.receive 8 f).2.ses i).newestGen ∧ u.gen = ((d.receive 8 f).2.ses i).newestGen →
    bitOf (leAt p 10 1) 1 = true →
    u.rebase = false →
    Does (.keyupdReceive f t) s t (fun d =>
      let d1 := (d.receive 8 f).2
      let x := d1.ses i
      let d2 := d1.setSes i { x with upd := some { u with replied := true }, rxSwitch := beAt p 4 6, keyUses := x.nextUses, nextUses := 0 }
      ((if x.state = .stalled then d2.sesState i .opened else d2).replKeys i).presealSafe i)) ∧
  (∀ (s : State) (f : RxFrame) (i : Nat) (p : Bytes) (t : Ticks),
    let d := s.dev.at_ t
    s.dev.acts = true →
    (d.receive 9 f).1 = some (i, p) →
    p.length = 8 →
    (d.receive 9 f).2.que.man.items = [] →
    Does (.jqueryReceive f t) s t (fun d =>
      let d2 := (d.receive 9 f).2.markSeq i f.seq
      let seq := beAt p 0 6
      let res : Nat := if seq ∈ (d2.ses i).window then 1
        else if seq < (d2.ses i).rxFloor || seq + 1024 ≤ (d2.ses i).high then 3
        else 2
      d2.send0 i 9 0 (toBe 6 seq ++ [BitVec.ofNat 8 res, 0, 0, 0, 0, 0])))

/-- RETX_TIME, REKEY, KEYUPD_RETRY, KEY_OVERLAP, REBASE_START, REBASE_TIMEOUT, SAFE_SEND and SAFE_REPEAT complete. On a device
that acts and holds the claim: a dispatched command without an answer at its retransmission time is sent again with its own sequence, the identical bytes where claim and key are the same and else sealed anew, the interval doubled up to RETX_MAX; REKEY sends a key update for a live session that has
none outstanding; an unanswered key update is sent again after 10 ms, and after three such attempts the session stalls and it goes out once each HB_PERIOD; at the
end of the overlap the next key becomes the key; an exhausted session without outstanding commands starts a rebase; a rebase
unanswered for a second ends with its dispatched commands; SAFE_SEND sends the prepared SAFE frame, and its last repetition
prepares the next count. -/
def Obligations.SessionKeysAndSafeFramesComplete : Prop :=
  (∀ (s : State) (q : Fin 16384) (seq h n i : Nat) (x : Item) (t : Ticks),
    let d := s.dev.at_ t
    s.dev.acts = true →
    d.findItem q seq = some (h, x) →
    x.state = .dispatched ∧ x.sff = some n →
    ¬ d.now < x.retxAt →
    d.isStandby = false →
    x.kind ≠ .launchEntry →
    d.sesOf (d.cfgN Od.que_SESSION q) = some i →
    d.maySeal0 i = true →
    Does (.retxTime q seq t) s t (fun d =>
      let gap := d.nextGap i x.retxGap
      let d1 := (d.setItem h { x with retxAt := d.now + gap, retxGap := gap, claim := d.fry.twin.claim, keyGen := (d.ses i).genAt n }).bump Od.sst_RETRANSMISSIONS i
      if x.claim = d.fry.twin.claim ∧ x.keyGen = (d.ses i).genAt n then d1.putFrame i 0 0 n x.wireBody
      else d1.sendFrame i 0 0 n x.wireBody)) ∧
  (∀ (s : State) (i : Fin 16384) (t : Ticks),
    let d := s.dev.at_ t
    s.dev.acts = true →
    d.flt.chipSafe = false →
    d.isStandby = false →
    (d.ses i).state.live = true →
    (d.ses i).updating = false →
    (d.ses i).keys.isSome = true →
    Does (.rekey i t) s t (fun d => d.sendKeyUpd i false)) ∧
  (∀ (s : State) (i : Fin 16384) (u : KeyUpdate) (t : Ticks),
    let d := s.dev.at_ t
    s.dev.acts = true →
    (d.ses i).upd = some u →
    u.replied = false →
    ¬ d.now < u.sentAt + (if u.attempts ≤ 3 then 10 * ms else d.cfg Od.ses_HB_PERIOD i) →
    d.standsBy i = false →
    Does (.keyupdRetry i t) s t (fun d =>
      (if u.attempts = 3 && (d.ses i).state = .opened then d.sesState i .stalled else d).sendKeyUpd i u.rebase)) ∧
  (∀ (s : State) (i : Fin 16384) (k : SessionKeys) (e t : Ticks),
    let d := s.dev.at_ t
    s.dev.acts = true →
    (d.ses i).overlapEnd = some e →
    (d.ses i).nextKeys = some k →
    e ≤ d.now →
    Does (.keyOverlap i t) s t (fun d => ((d.setSes i { d.ses i with keys := some k, nextKeys := none, overlapEnd := none }).replKeys i).presealSafe i)) ∧
  (∀ (s : State) (i : Fin 16384) (t : Ticks),
    let d := s.dev.at_ t
    s.dev.acts = true →
    (d.ses i).state = .exhausted →
    (d.ses i).rebasing = false →
    d.oldestCmd i = none →
    d.standsBy i = false →
    Does (.rebaseStart i t) s t (fun d => (d.onSes i (fun y => { y with rebasing := true, upd := none })).sendKeyUpd i true)) ∧
  (∀ (s : State) (i : Fin 16384) (u : KeyUpdate) (t : Ticks),
    let d := s.dev.at_ t
    s.dev.acts = true →
    (d.ses i).upd = some u →
    (d.ses i).rebasing = true →
    u.replied = false →
    u.startedAt + sec ≤ d.now →
    Does (.rebaseTimeout i t) s t (fun d => ((d.setSes i { d.ses i with rebasing := false, upd := none, nextKeys := none }).endDispatched i 0x42).endSent i 0x42)) ∧
  (∀ (s : State) (i : Fin 16384) (t : Ticks),
    let d := s.dev.at_ t
    s.dev.acts = true →
    d.flt.chipSafe = false →
    d.isStandby = false →
    (d.ses i).state.live = true →
    d.cfgB Od.ses_SAFE_ENABLE i = true →
    (d.ses i).safeSealed.isSome = true →
    Does (.safeSend i t) s t (fun d =>
      (d.emitSafe i).onSes i (fun x => { x with safeLeft := d.cfgN Od.ses_SAFE_REPEAT i, safeAt := d.now + 100 * us }))) ∧
  (∀ (s : State) (i : Fin 16384) (t : Ticks),
    let d := s.dev.at_ t
    s.dev.acts = true →
    (d.ses i).safeLeft = 1 →
    ¬ d.now < (d.ses i).safeAt →
    Does (.safeRepeat i t) s t (fun d => (((d.emitSafe i).setSes i { d.ses i with safeLeft := 0, safeNext := (d.ses i).safeNext + 1 }).presealSafe i).replSession i))

/-- STREAM_ENABLE, STREAM_GAP, EPOCH_CLOSE, EPOCH_SEALED, CERT_REQUEST and CERT_ISSUED complete. On a device that acts and holds
the claim: OFF written to a stream that is on closes its open epoch, refuses an open certificate request and stops it; a
record missing for REORDER_TIME is given up as a gap up to the oldest record received ahead, and what follows is delivered;
an epoch open for its time closes; the oldest closed epoch, once signed, becomes the last sealed one and is written to its
seal slot; a certificate request over a valid interval of an enabled Bearing starts with the open epoch; the signed
certificate is written to its slot and counted. -/
def Obligations.StreamsComplete : Prop :=
  (∀ (s : State) (n : Fin 1024) (t : Ticks),
    let d := s.dev.at_ t
    s.dev.acts = true →
    d.flt.chipSafe = false →
    d.isStandby = false →
    Does (.streamEnable n false t) s t (fun d =>
      (((d.set Od.str_ENABLE n 0).certRefused n).closeEpoch n).onStr n (fun y => { y with on := false, ahead := [], next := none }))) ∧
  (∀ (s : State) (n : Fin 1024) (a k : Nat) (r : StreamIn) (rest : Tab StreamIn) (t : Ticks),
    let d := s.dev.at_ t
    s.dev.acts = true →
    (d.str n).next = some a →
    (d.str n).ahead = (k, r) :: rest →
    (d.str n).on = true ∧ a < k →
    rest.foldl (fun m e => min m e.2.arrival) r.arrival + d.cfg Od.str_REORDER_TIME n ≤ d.now →
    Does (.streamGap n t) s t (fun d => Dev.streamDrain (rest.length + 1) ((d.setStr n { d.str n with next := some k }).streamLoss n a (k - a)) n)) ∧
  (∀ (s : State) (n : Fin 1024) (e : Epoch) (t : Ticks),
    let d := s.dev.at_ t
    s.dev.acts = true →
    (d.str n).cur = some e →
    e.openAt + d.cfg Od.str_EPOCH_TIME n * (if bitOf e.flags epExtended then 2 else 1) ≤ d.now →
    d.isStandby = false →
    Does (.epochClose n t) s t (fun d => d.closeEpoch n)) ∧
  (∀ (s : State) (n : Fin 1024) (e : EpochRec) (rest : List EpochRec) (t : Ticks),
    let d := s.dev.at_ t
    s.dev.acts = true →
    (d.str n).waiting = e :: rest →
    d.isStandby = false →
    Does (.epochSealed n t) s t (fun d =>
      let sig := padTo 17088 (Config.pkSign algSlh128f (keyName (d.cfgN Od.str_SIGN_KEY n)) (slhPure e.body))
      let d1 := (((d.setStr n { d.str n with waiting := rest, sealedEpoch := some e.number, sealedSeq := e.lastSeq, sealedChain := e.chain }).setOct Od.ssr_CHAIN n e.chain).set Od.ssr_SIGN_WAITING n rest.length).journalStream n
      ((d1.emitPf (d.pfOf (d.cfgN Od.str_QUEUE n)) (.dma (d.cfgN Od.str_SEAL_BASE n + 32768 * (e.number % d.cfgN Od.str_SEAL_SLOTS n)) (e.body ++ sig))).raise
        18 0xE6 n [(e.number : Int)]).noteSigning n)) ∧
  (∀ (s : State) (n : Fin 1024) (low high : BVal) (ref : Bytes) (t : Ticks),
    let d := s.dev.at_ t
    s.dev.acts = true →
    d.flt.chipSafe = false →
    d.isStandby = false →
    (d.str n).certState ≠ 1 ∧ (d.str n).certState ≠ 2 →
    d.cfgN Od.str_BEARING_A n ≠ 0xFF →
    bvBefore low high = true →
    (d.str n).on = true →
    Does (.certRequest n 1 low high ref t) s t (fun d =>
      d.setStr n { d.str n with certState := 1, cert := some { selector := 1, from_ := low, to_ := high, ref := ref, first := (d.str n).cur.map (fun e => (e.number, e.prevChain)) } })) ∧
  (∀ (s : State) (n : Fin 1024) (b : Bytes) (t : Ticks),
    let d := s.dev.at_ t
    s.dev.acts = true →
    (d.str n).certSigning = some b →
    Does (.certIssued n t) s t (fun d =>
      let x := d.str n
      let body := overlayB b 148 (timeBe d.now)
      let cert := body ++ padTo 17088 (Config.pkSign algSlh128f (keyName (d.cfgN Od.str_SIGN_KEY n)) (slhPure body))
      let slot := d.cfgN Od.str_SEAL_SLOTS n + x.certNo % d.cfgN Od.str_CERT_SLOTS n
      (((d.setStr n { x with certSigning := none, certState := 3, certNo := x.certNo + 1, certLast := cert }).journalStream n).emitPf
        (d.pfOf (d.cfgN Od.str_QUEUE n)) (.dma (d.cfgN Od.str_SEAL_BASE n + 32768 * slot) cert)).raise 18 0xE7 n [(x.certNo : Int)]))

/-- The Ferry port commands (enable, training, up, NAK, IDLE, resend, down, TIME) and MASTER_LOST complete. On a device that
acts: ON takes an OFF or faulted Ferry port into training with width 0, OFF resets it; training that has not ended within 20 ms
is counted and starts again; a trained port whose partner is the wired chip, with its identity and certificate, comes UP with
the trained width, installs a key for each direction and sends what waits again; a NAK or IDLE frame with a good tag takes the
acknowledgement (a NAK also sends the rest again), one with a bad tag faults the port; an UP port that has sent nothing for 200
ns sends IDLE; a frame unacknowledged for 500 ns is sent again; a port silent for 2 us goes DOWN; TIME goes out each 1 us; a
TIME exchange in sequence and with a good tag sets the round trip, the far offset and the master, one with a bad checksum or out
of sequence is answered with a NAK, and one with a bad tag faults the port; a silent master is forgotten and elected anew. -/
def Obligations.FerryPortsComplete : Prop :=
  (∀ (s : State) (p : Fin 8) (t : Ticks),
    let d := s.dev.at_ t
    s.dev.acts = true →
    d.flt.chipSafe = false →
    d.isStandby = false →
    (d.fport p).state = .off ∨ (d.fport p).state = .fault →
    Does (.ferryPortEnable p true t) s t (fun d => (d.set Od.fry_ENABLE p 1).setFPort p { d.fport p with state := .training, trainStart := d.now, width := 0 })) ∧
  (∀ (s : State) (p : Fin 8) (t : Ticks),
    let d := s.dev.at_ t
    s.dev.acts = true →
    d.flt.chipSafe = false →
    d.isStandby = false →
    Does (.ferryPortEnable p false t) s t (fun d => d.repath (((d.set Od.fry_ENABLE p 0).setFPort p {}).ferryBearingsDown))) ∧
  (∀ (s : State) (p : Fin 8) (t : Ticks),
    let d := s.dev.at_ t
    s.dev.acts = true →
    (d.fport p).trains = true →
    (d.fport p).trainStart + 20 * ms ≤ d.now →
    Does (.ferryTrainingTimeout p t) s t (fun d => (d.bump Od.fry_TRAININGS p).setFPort p { d.fport p with state := .training, trainStart := d.now })) ∧
  (∀ (s : State) (p : Fin 8) (r : FerryTrained) (t : Ticks),
    let d := s.dev.at_ t
    s.dev.acts = true →
    (d.fport p).trains = true →
    r.width ≠ 0 →
    d.idConflict p r = false →
    d.wiring p = some (r.peerId, r.peerPort) →
    d.ferryAuth r = true →
    (d.fport p).width = r.width →
    Does (.ferryPortUp p r t) s t (fun d =>
      let keys := d.linkKeys (d.draw 32).1 r.peerPub r.peerId
      let d1 := ((d.draw 32).2.fillSlot (linkSlot p false) linkPolicy keys.1 []).fillSlot (linkSlot p true) linkPolicy keys.2 []
      let d2 := d1.setFPort p { d.fport p with state := .up, width := r.width, peerId := r.peerId, peerValid := true, peerPort := r.peerPort, peerUnit := r.peerUnit, peerChart := r.peerChart, lastRx := d.now, lastTx := d.now, txCount := 0 }
      d.repath ((d2.resend p).linkPump p))) ∧
  (∀ (s : State) (p : Fin 8) (ack : Nat) (t : Ticks),
    let d := s.dev.at_ t
    s.dev.acts = true →
    (d.fport p).state = .up →
    Does (.ferryNak p ack true t) s t (fun d => (d.ferryAck p ack).resend p)) ∧
  (∀ (s : State) (p : Fin 8) (ack : Nat) (t : Ticks),
    let d := s.dev.at_ t
    s.dev.acts = true →
    (d.fport p).state = .up →
    Does (.ferryIdle p ack true t) s t (fun d => d.ferryAck p ack)) ∧
  (∀ (s : State) (p : Fin 8) (ack : Nat) (t : Ticks),
    let d := s.dev.at_ t
    s.dev.acts = true →
    (d.fport p).state = .up →
    Does (.ferryNak p ack false t) s t (fun d => d.ferryFault p 0xF3)) ∧
  (∀ (s : State) (p : Fin 8) (ack : Nat) (t : Ticks),
    let d := s.dev.at_ t
    s.dev.acts = true →
    (d.fport p).state = .up →
    Does (.ferryIdle p ack false t) s t (fun d => d.ferryFault p 0xF3)) ∧
  (∀ (s : State) (p : Fin 8) (t : Ticks),
    let d := s.dev.at_ t
    s.dev.acts = true →
    (d.fport p).state = .up →
    (d.fport p).lastTx + 200 * ns ≤ d.now →
    Does (.ferryIdleSend p t) s t (fun d => d.linkFrame p 1)) ∧
  (∀ (s : State) (p : Fin 8) (f : LinkFrame) (rest : List LinkFrame) (t : Ticks),
    let d := s.dev.at_ t
    s.dev.acts = true →
    (d.fport p).replay = f :: rest →
    (d.fport p).state = .up →
    f.sentAt + 500 * ns ≤ d.now →
    Does (.ferryResendTimeout p t) s t (fun d => d.resend p)) ∧
  (∀ (s : State) (p : Fin 8) (t : Ticks),
    let d := s.dev.at_ t
    s.dev.acts = true →
    (d.fport p).state = .up →
    (d.fport p).lastRx + 2 * us ≤ d.now →
    Does (.ferryDown p t) s t (fun d =>
      d.repath (((d.setFPort p { d.fport p with state := .down, trainStart := d.now, replay := (d.fport p).replay.map (fun f => { f with resends := 0 }) }).raise 20 0xF0 p).ferryBearingsDown))) ∧
  (∀ (s : State) (p : Fin 8) (t : Ticks),
    let d := s.dev.at_ t
    s.dev.acts = true →
    (d.fport p).state = .up →
    (d.fport p).timeSent + us ≤ d.now →
    Does (.ferryTimeSend p t) s t (fun d =>
      (d.setFPort p { d.fport p with timeSent := d.now }).ferryOut p 0 0 (d.fport p).peerId d.timeBytes)) ∧
  (∀ (s : State) (p : Fin 8) (x : TimeExchange) (t : Ticks),
    let d := s.dev.at_ t
    s.dev.acts = true →
    (d.fport p).state = .up →
    x.link.crcOk = true ∧ x.link.seq = (d.fport p).rxSeq ∧ x.link.tagOk = true →
    Does (.ferryTimeExchange p x t) s t (fun d =>
      let e := (d.setFPort p { d.fport p with rxSeq := ((d.fport p).rxSeq + 1) % 65536 }).ferryAck p x.link.ack
      let d1 := (e.setFPort p { e.fport p with farOffset := e.farOffset p x }).set Od.fry_ROUND_TRIP p ((x.t4 - x.t1) - (x.t3 - x.t2))
      let d2 : Dev := { d1 with fry.flo := d1.fry.flo.hear e.now x }
      let d3 := d2.setMaster d2.electMaster
      if d3.isMaster || !d3.toMaster p then d3
      else { d3 with fry.flo := { d3.fry.flo.align x.filtered with hops := x.hops + 1, masterState := x.timeState, masterUnc := x.timeUnc } })) ∧
  (∀ (s : State) (p : Fin 8) (x : TimeExchange) (t : Ticks),
    let d := s.dev.at_ t
    s.dev.acts = true →
    (d.fport p).state = .up →
    x.link.crcOk = false ∨ x.link.seq ≠ (d.fport p).rxSeq →
    Does (.ferryTimeExchange p x t) s t (fun d => d.linkFrame p 2)) ∧
  (∀ (s : State) (p : Fin 8) (x : TimeExchange) (t : Ticks),
    let d := s.dev.at_ t
    s.dev.acts = true →
    (d.fport p).state = .up →
    x.link.crcOk = true ∧ x.link.seq = (d.fport p).rxSeq →
    x.link.tagOk = false →
    Does (.ferryTimeExchange p x t) s t (fun d => d.ferryFault p 0xF3)) ∧
  (∀ (s : State) (t : Ticks),
    let d := s.dev.at_ t
    s.dev.acts = true →
    d.fry.flo.master ≠ d.fry.flo.ownId →
    d.fry.flo.heard.find d.fry.flo.master = none →
    Does (.masterLost t) s t (fun d =>
      let e : Dev := { d with fry.flo.heard := d.fry.flo.heard.del d.fry.flo.master }
      e.dropParts.setMaster e.electMaster))

/-- The twin heartbeat, replication, resync, takeover, join and isolation commands complete. On a device that acts: a unit of a
pair sends its heartbeat on both paths each 1 us; a received heartbeat with a good checksum notes its path, claim and role; a
standby applies the replication record that follows and acknowledges it; it keeps session copies, keys and resumption records of
the active, the keys of an update until its switch sequence beside the present ones; an UNJOIN makes a standby STALE; a resync
half block is applied while SYNCING; a standby that hears nothing for DETECT_TIME takes over, or where the two comparators
disagree reports fault 0x049; a standby behind for DETECT_TIME becomes STALE; a unit waiting for JOIN_TIME becomes active;
isolation ends when confirmed or when the peer is reported dead; an active that hears nothing unjoins and is isolated; a
heartbeat path silent for DETECT_TIME is lost. -/
def Obligations.TwinPairComplete : Prop :=
  (∀ (s : State) (t : Ticks),
    let d := s.dev.at_ t
    s.dev.acts = true →
    d.twin.role ≠ .alone →
    ¬ d.now < d.twin.hbSentAt + us →
    d.flt.chipSafe = false →
    d.twinMode ≠ 1 →
    Does (.twinHeartbeatSend t) s t (fun d =>
      ((d.onTwin (fun t => { t with hbSeq := (t.hbSeq + 1) % 65536, hbSentAt := d.now })).twinData 1 1 1 d.hbBytes).twinData 2 1 1 d.hbBytes)) ∧
  (∀ (s : State) (h : TwinHeartbeat) (t : Ticks),
    let d := s.dev.at_ t
    s.dev.acts = true →
    d.twin.role ≠ .alone →
    h.crcOk = true →
    h.path = 1 →
    Does (.twinHeartbeatReceive h t) s t (fun d =>
      ((((d.twinGot.onTwin (fun t => { t with hb1 := some d.now, path1 := true, peerClaim := h.claim, peerRole := h.role, isolated := false })).noteClaim
        h.claim).noteJournal h).followClaim h).hearPeer h)) ∧
  (∀ (s : State) (n : Nat) (c : CellRec) (t : Ticks),
    let d := s.dev.at_ t
    s.dev.acts = true →
    d.twin.role = .standby →
    n = d.twin.applied + 1 ∨ n = d.twin.applied →
    Does (.replRecord n c t) s t (fun d0 =>
      let d := d0.twinGot
      ((d.mirrorPut c).onTwin (fun t => { t with applied := max t.applied n, behindSince := if t.peerJournal ≤ n then none else t.behindSince })).sendTwin 2 (toBe 8 (max d.twin.applied n)))) ∧
  (∀ (s : State) (i : Fin 16384) (c : SessionCopy) (t : Ticks),
    let d := s.dev.at_ t
    s.dev.acts = true →
    d.twin.role = .standby ∨ d.twin.role = .syncing →
    Does (.replSessionState i c t) s t (fun d =>
      let d2 := ((d.twinGot.onTwin (fun t => { t with copies := t.copies.ins i c, claim := max t.claim c.claim })).seeClaim c.claim).onSes i (fun x =>
        { x with safeNext := max x.safeNext c.safeNext, state := c.state })
      if c.state.live then d2.presealSafe i
      else d2.onSes i (fun x => { x with keys := none, nextKeys := none, upd := none, overlapEnd := none, safeSealed := none, safeLeft := 0 }))) ∧
  (∀ (s : State) (i : Fin 16384) (k : SessionKeys) (r : Bytes) (t : Ticks),
    let d := s.dev.at_ t
    s.dev.acts = true →
    d.twin.role = .standby ∨ d.twin.role = .syncing →
    Does (.replKeys i { keys := k, switch := none } r t) s t (fun d0 =>
      let d := d0.twinGot
      (d.onSes i (fun x => { x with keys := some k, nextKeys := none, upd := none, overlapEnd := none, resume := if r.isEmpty then x.resume else some (d.resumeRecord i r), responder := !d.cfgB Od.ses_INITIATE i, state := if x.state.live then x.state else .opened })).presealSafe i)) ∧
  (∀ (s : State) (i : Fin 16384) (k old : SessionKeys) (n : Nat) (t : Ticks),
    let d := s.dev.at_ t
    s.dev.acts = true →
    d.twin.role = .standby ∨ d.twin.role = .syncing →
    (d.twinGot.ses i).keys = some old →
    Does (.replKeys i { keys := k, switch := some n } [] t) s t (fun d0 =>
      let d := d0.twinGot
      (d.onSes i (fun x => { x with
        nextKeys := some k, overlapEnd := none, responder := !d.cfgB Od.ses_INITIATE i, state := if x.state.live then x.state else .opened,
        upd := some { gen := k.gen, switch := n, rebase := false, attempts := 1, sentAt := d.now, startedAt := d.now, replied := true } })).presealSafe i)) ∧
  (∀ (s : State) (claim reason : Nat) (t : Ticks),
    let d := s.dev.at_ t
    s.dev.acts = true →
    d.twin.role = .standby →
    Does (.unjoin claim reason t) s t (fun d => (d.twinGot.onTwin (fun t => { t with role := .stale, joined := false })).noteClaim claim)) ∧
  (∀ (s : State) (block half : Nat) (cells : List CellRec) (t : Ticks),
    let d := s.dev.at_ t
    s.dev.acts = true →
    d.twin.role = .syncing →
    Does (.resync block half cells t) s t (fun d =>
      ((cells.foldl (fun e c => e.mirrorPut c) d.twinGot).onTwin (fun t => { t with resyncBlock := if half = 1 then max t.resyncBlock (block + 1) else t.resyncBlock, resyncDone := t.resyncDone || (block == 8191 && half == 1) })).trySynced)) ∧
  (∀ (s : State) (t : Ticks),
    let d := s.dev.at_ t
    s.dev.acts = true →
    d.silent = true →
    d.twin.role = .standby →
    Does (.takeover { t := t, agree := true }) s t (fun d => d.takeOver)) ∧
  (∀ (s : State) (t : Ticks),
    let d := s.dev.at_ t
    s.dev.acts = true →
    d.silent = true →
    d.twin.role = .standby →
    Does (.takeover { t := t, agree := false }) s t (fun d => d.fault 0x049 0xFFFF none [])) ∧
  (∀ (s : State) (since t : Ticks),
    let d := s.dev.at_ t
    s.dev.acts = true →
    d.twin.role = .standby →
    d.twin.behindSince = some since →
    since + d.cfg Od.twn_DETECT_TIME 0 ≤ d.now →
    Does (.mirrorStale t) s t (fun d => d.onTwin (fun t => { t with role := .stale, joined := false }))) ∧
  (∀ (s : State) (t : Ticks),
    let d := s.dev.at_ t
    s.dev.acts = true →
    d.twin.role = .waiting →
    d.twin.waitingSince + d.cfg Od.twn_JOIN_TIME 0 ≤ d.now →
    Does (.joinTime { t := t, agree := true }) s t (fun d => d.becomeActive)) ∧
  (∀ (s : State) (t : Ticks),
    let d := s.dev.at_ t
    s.dev.acts = true →
    d.twin.isolated = true →
    d.twin.isolatedAt + d.cfg Od.twn_ISOLATION_CONFIRM 0 ≤ d.now →
    d.twin.seen ≤ d.twin.claim →
    d.net.sessions.all (fun e => e.2.state ≠ .opened || decide (d.twin.isolatedAt ≤ e.2.lastHbTx)) = true →
    Does (.isolationConfirm t) s t (fun d => d.onTwin (fun t => { t with isolated := false }))) ∧
  (∀ (s : State) (t : Ticks),
    let d := s.dev.at_ t
    s.dev.acts = true →
    d.flt.chipSafe = false →
    Does (.peerDead t) s t (fun d => d.onTwin (fun t => { t with isolated := false }))) ∧
  (∀ (s : State) (t : Ticks),
    let d := s.dev.at_ t
    s.dev.acts = true →
    d.twin.role = .active →
    d.silent = true →
    Does (.bothPathsSilent t) s t (fun d =>
      d.unjoin.onTwin (fun t => { t with isolated := true, isolatedAt := d.now, path1 := false, path2 := false }))) ∧
  (∀ (s : State) (path : Fin 3) (since t : Ticks),
    let d := s.dev.at_ t
    s.dev.acts = true →
    path = 1 →
    d.twin.hb1 = some since ∧ d.twin.path1 = true →
    since + d.cfg Od.twn_DETECT_TIME 0 ≤ d.now →
    Does (.heartbeatPathLost path t) s t (fun d => (d.onTwin (fun t => { t with path1 := false })).raise 21 0xFE 0xFFFF [1]))

/-- YIELD, YIELD_RECEIVE, YIELD_INSTANT, YIELD_FAILED and PIER_RETIRE complete. On a device that acts: an active unit that
yields, with no journal record unacknowledged, sets its yield instant 2 us ahead and sends it on both paths; a joined standby
keeps the yield instant of an active whose claim is not below its own; at that instant it takes over; an active whose yield
instant passed by 1 us takes its work back and raises event 0xFD; a retired hot spare pier (state 1) is fault-reported, emptied
with its cause, and its cores and access control entries are cleared. -/
def Obligations.YieldsAndPiersComplete : Prop :=
  (∀ (s : State) (t : Ticks),
    let d := s.dev.at_ t
    s.dev.acts = true →
    d.flt.chipSafe = false →
    d.twin.role = .active →
    d.twin.yieldAt = none →
    d.man.unackedAt = [] →
    d.twinMode ≠ 1 →
    Does (.yield t) s t (fun d =>
      let msg := toBe 4 d.twin.claim ++ timeBe (d.now + 2 * us)
      ((d.onTwin (fun t => { t with yieldAsked := false, yieldAt := some (d.now + 2 * us) })).twinData 1 2 6 msg).twinData 2 2 6 msg)) ∧
  (∀ (s : State) (claim : Nat) (y t : Ticks),
    let d := s.dev.at_ t
    s.dev.acts = true →
    d.twin.role = .standby →
    d.twin.claim ≤ claim →
    Does (.yieldReceive claim y t) s t (fun d => d.twinGot.onTwin (fun t => { t with yieldAt := some y }))) ∧
  (∀ (s : State) (y t : Ticks),
    let d := s.dev.at_ t
    s.dev.acts = true →
    d.twin.role = .standby →
    d.twin.yieldAt = some y →
    y ≤ d.now →
    Does (.yieldInstant { t := t, agree := true }) s t (fun d => d.takeOver)) ∧
  (∀ (s : State) (y t : Ticks),
    let d := s.dev.at_ t
    s.dev.acts = true →
    d.twin.role = .active →
    d.twin.yieldAt = some y →
    y + us ≤ d.now →
    Does (.yieldFailed t) s t (fun d =>
      let d1 := d.onTwin (fun t => { t with yieldAt := none })
      let d2 := { d1 with lch.entries := d1.lch.entries.mapVals (fun _ e => if e.blocked && e.image.isPin then { e with blocked := false } else e) }
      (((List.range 32).foldl (fun e n => e.endPulses n) d2.runDue).retryBlocked).raise 21 0xFD 0xFFFF)) ∧
  (∀ (s : State) (p : Fin 17) (cause : Fin 6) (excess : List Nat) (fin t : Ticks),
    let d := s.dev.at_ t
    s.dev.acts = true →
    (d.pier p).state = 1 →
    (cause : Nat) ≠ 0 →
    d.fry.twin.role ≠ .active →
    Does (.pierRetire p cause excess fin t) s t (fun d =>
      let d2 := d.fault (0x080 + 5 * p + (cause - 1)) p none [(cause : Int)]
      let d3 := (({ d2 with fry.piers := d2.fry.piers.ins p { state := 2, cause := cause, logical := 31 } }).clearPierCores p).raise 22 0x56 p [(cause : Int)]
      { d3 with cpu.acu := d3.cpu.acu.filter (fun e => !(decide (8 * (p : Nat) ≤ e.1) && decide (e.1 < 8 * p + 8))) }))

/-- The Object Access Protocol requests, NOTIFY, SHADOW_EXPIRY, MB_DOORBELL, MB_RESPONSE and REPLICATED_WRITE complete. For a
device that answers the protocol and a well-formed request of a principal waiting in the mailbox that has not been answered
before: READ, READ_BLOCK, WRITE, WRITE_BLOCK, SUBSCRIBE and ABORT are carried out under the requester's role and answered
with operation + 0x80 and the request's number; ACTIVATE stores, switches or deletes and is answered at once or when the
switch takes effect; a due subscription of the mailbox is reported to its notice queue; shadows ten seconds old are dropped;
function 0's doorbell takes the request into an idle mailbox; a prepared answer becomes the response with event 0x130; a
standby carries out a replicated object write with the status OK. -/
def Obligations.ObjectAccessRequestsComplete : Prop :=
  (∀ (s : State) (t : Ticks),
    let d := s.dev.at_ t
    s.dev.boots = true →
    d.asks (opIs 1) = true →
    DoesAll (.oapRead .mailbox t) s t (fun x =>
      let r := x.dev.oapRead x.dev.mailAsk
      { x with dev := r.2.respond mailboxReq (oapHead x.dev.hif.mbox.request).op (oapHead x.dev.hif.mbox.request).id r.1 })) ∧
  (∀ (s : State) (t : Ticks),
    let d := s.dev.at_ t
    s.dev.boots = true →
    d.asks (opIs 3) = true →
    DoesAll (.oapReadBlock .mailbox t) s t (fun x =>
      let r := x.dev.oapReadBlock x.dev.mailAsk
      { x with dev := r.2.respond mailboxReq (oapHead x.dev.hif.mbox.request).op (oapHead x.dev.hif.mbox.request).id r.1 })) ∧
  (∀ (s : State) (env : WriteEnv) (t : Ticks),
    let d := s.dev.at_ t
    s.dev.boots = true →
    d.asks (opIs 2) = true →
    DoesAll (.oapWrite .mailbox env t) s t (fun x =>
      let r := x.oapWrite env x.dev.mailAsk
      r.2.onDev (fun d => d.respond mailboxReq (oapHead x.dev.hif.mbox.request).op (oapHead x.dev.hif.mbox.request).id r.1))) ∧
  (∀ (s : State) (env : WriteEnv) (t : Ticks),
    let d := s.dev.at_ t
    s.dev.boots = true →
    d.asks (opIs 4) = true →
    DoesAll (.oapWriteBlock .mailbox env t) s t (fun x =>
      let r := x.oapWriteBlock env x.dev.mailAsk
      r.2.onDev (fun d => d.respond mailboxReq (oapHead x.dev.hif.mbox.request).op (oapHead x.dev.hif.mbox.request).id r.1))) ∧
  (∀ (s : State) (t : Ticks),
    let d := s.dev.at_ t
    s.dev.boots = true →
    d.asks (opIs 5) = true →
    DoesAll (.oapSubscribe .mailbox t) s t (fun x =>
      let r := x.dev.oapSubscribe x.dev.mailAsk
      { x with dev := r.2.respond mailboxReq (oapHead x.dev.hif.mbox.request).op (oapHead x.dev.hif.mbox.request).id r.1 })) ∧
  (∀ (s : State) (t : Ticks),
    let d := s.dev.at_ t
    s.dev.boots = true →
    d.asks (opIs 7) = true →
    DoesAll (.oapAbort .mailbox t) s t (fun x =>
      let r := x.dev.oapAbort x.dev.mailAsk
      { x with dev := r.2.respond mailboxReq (oapHead x.dev.hif.mbox.request).op (oapHead x.dev.hif.mbox.request).id r.1 })) ∧
  (∀ (s : State) (t : Ticks),
    let d := s.dev.at_ t
    s.dev.boots = true →
    d.asks (activateIs 1) = true →
    DoesAll (.activateStore .mailbox t) s t (fun x =>
      match x.dev.oapActivate x.dev.mailAsk with
      | (some r, d1) => { x with dev := d1.respond mailboxReq (oapHead x.dev.hif.mbox.request).op (oapHead x.dev.hif.mbox.request).id r }
      | (none, d1) => { x with dev := d1 })) ∧
  (∀ (s : State) (t : Ticks),
    let d := s.dev.at_ t
    s.dev.boots = true →
    d.asks (activateIs 2) = true →
    DoesAll (.activateChartSwitch .mailbox t) s t (fun x =>
      match x.dev.oapActivate x.dev.mailAsk with
      | (some r, d1) => { x with dev := d1.respond mailboxReq (oapHead x.dev.hif.mbox.request).op (oapHead x.dev.hif.mbox.request).id r }
      | (none, d1) => { x with dev := d1 })) ∧
  (∀ (s : State) (t : Ticks),
    let d := s.dev.at_ t
    s.dev.boots = true →
    d.asks (activateIs 3) = true →
    DoesAll (.activateDelete .mailbox t) s t (fun x =>
      match x.dev.oapActivate x.dev.mailAsk with
      | (some r, d1) => { x with dev := d1.respond mailboxReq (oapHead x.dev.hif.mbox.request).op (oapHead x.dev.hif.mbox.request).id r }
      | (none, d1) => { x with dev := d1 })) ∧
  (∀ (s : State) (id : Nat) (x : Subscription) (t : Ticks),
    let d := s.dev.at_ t
    s.dev.boots = true →
    d.obj.subs.find? (fun x => x.requester == mailboxReq && x.reqId == id) = some x →
    d.flt.chipSafe = false →
    x.due d.now (d.subValues x) = true →
    DoesAll (.notify mailboxReq id t) s t (fun y =>
      let d := y.dev
      let d1 : Dev := { d with obj.subs := d.obj.subs.map (fun z => if z.requester == mailboxReq && z.reqId == id then { z with lastAt := some d.now, lastVals := d.subValues x } else z) }
      { y with dev := d1.notifyQueue (d.cfgN Od.mbx_MB_NOTIFY_QUEUE 0) (notifyMessage id d.now (d.subValues x)) })) ∧
  (∀ (s : State) (t : Ticks),
    s.dev.boots = true →
    Does (.shadowExpiry t) s t (fun d => { d with obj.shadows := d.obj.shadows.filter (fun x => decide (d.now < x.lastWrite + 10 * sec)) })) ∧
  (∀ (s : State) (request : Bytes) (t : Ticks),
    let d := s.dev.at_ t
    s.dev.boots = true →
    d.hif.mbox.busy = false →
    ¬ request.length < 16 ∧ ¬ 16384 < request.length →
    Does (.mbDoorbell 0 request t) s t (fun d => { d with hif.mbox := { busy := true, request := request, answer := none } })) ∧
  (∀ (s : State) (m : Bytes) (t : Ticks),
    let d := s.dev.at_ t
    s.dev.boots = true →
    d.hif.mbox.busy = true →
    d.hif.mbox.answer = some m →
    Does (.mbResponse t) s t (fun d => ({ d with hif.mbox := { responseReady := true, response := m } }).raise 34 0x130 0xFFFF)) ∧
  (∀ (s : State) (a : OdAddr) (value : Bytes) (env : WriteEnv) (t : Ticks) (r : OdRow),
    let d := s.dev.at_ t
    s.dev.acts = true →
    lookupObject a.index a.sub a.inst = .ok r →
    d.isStandby = true →
    r.persist ≠ .vol →
    ({ s with dev := d }.writeValue env .so r a 0 value).1 = 0 →
    DoesAll (.replicatedWrite (.object a value) env t) s t (fun x => (x.writeValue env .so r a 0 value).2))

/-- FLR, PCIE_LINK_UP/DOWN, HOST_DMA_ERROR, VECTOR_FIRE/UNMASK, EVT_PENDING_CLEAR, EVT_ROUTE_WRITE, D3HOT and REGISTER_WRITE
complete in every form. On a device that acts: an FLR closes the function's queues with host rings, puts the function back into
D0 with its mask clear, and of function 0 abandons the mailbox request, while a clear of Bus Master Enable closes the queues
alone; each counts in FLRS and raises 0x12B. A link that goes down is an FLR of all four functions, counted under AER, with
event 0x12A; link up shows width and speed. A failed descriptor read stalls its queue; a failed body read has the descriptor
refused without its body; a denied write leaves the imprecise notice and stalls the queue; each is counted under AER and in
DMA_ERRORS and raises 0x128. A vector whose pending count has reached COUNT, or whose TIME has passed, fires. Unmasking a vector
or a function, or a function's return to D0, releases what it holds. A write of EVT_PENDING clears the writer's sources among
the bits set, and counts in ACCESS_DENIED where others were among them. A word of EVT_ROUTE is stored but for its reserved bits,
or denied: where the source or the function named is not the writer's, or EVQ names no EVENT queue. D3hot holds the function.
REGISTER_WRITE sets and clears the function mask, writes COUNT and TIME of a vector, takes back the mailbox's response flag, and
of every register answers a next state. -/
def Obligations.HostInterfaceComplete : Prop :=
  (∀ (s : State) (f : Fin 4) (t : Ticks),
    s.dev.acts = true →
    Does (.flr f false t) s t (fun d =>
      let d1 := (d.closeFn f).onFn f (fun _ => {})
      ((if (f : Nat) = 0 then d1.mailboxReset else d1).bump Od.hif_FLRS f).raise 33 0x12B f)) ∧
  (∀ (s : State) (f : Fin 4) (t : Ticks),
    s.dev.acts = true →
    Does (.flr f true t) s t (fun d => ((d.closeFn f).bump Od.hif_FLRS f).raise 33 0x12B f)) ∧
  (∀ (s : State) (t : Ticks),
    let d := s.dev.at_ t
    s.dev.acts = true →
    d.hif.linkUp = true →
    Does (.pcieLinkDown t) s t (fun d =>
      ((((List.range 4).foldl Dev.fnReset d).onHif (fun h => { h with linkUp := false, width := 0, speed := 0 })).bump Od.lnk_AER_UNCORRECTABLE 0).raise 33 0x12A 0xFFFF)) ∧
  (∀ (s : State) (width : Fin 3) (speed : Fin 5) (t : Ticks),
    s.dev.acts = true →
    Does (.pcieLinkUp width speed t) s t (fun d => d.onHif (fun h => { h with linkUp := true, width := width.val + 1, speed := speed.val + 1 }))) ∧
  (∀ (s : State) (q : Fin 16384) (t : Ticks),
    let d := s.dev.at_ t
    s.dev.acts = true →
    (d.queue q).isOpen = true ∧ (d.queue q).workChip = false →
    (d.queue q).devPos ≠ (d.queue q).hostPos ∧ d.delivers q = false →
    Does (.hostDmaError q .descriptor t) s t (fun d =>
      let e := (d.onQueue q (fun x => { x with state := .stalled, dmaStall := true })).bump Od.lnk_AER_UNCORRECTABLE 0
      (e.bump Od.hif_DMA_ERRORS (d.pfOf q)).raise 33 0x128 q)) ∧
  (∀ (s : State) (q : Fin 16384) (desc : Bytes) (t : Ticks),
    let d := s.dev.at_ t
    s.dev.acts = true →
    (d.queue q).isOpen = true →
    (d.queue q).devPos ≠ (d.queue q).hostPos ∧ d.delivers q = false →
    Does (.hostDmaError q (.body desc) t) s t (fun d => (d.admitNext (memRead s.mem) q desc none).dmaFailed q)) ∧
  (∀ (s : State) (q : Fin 16384) (chan : Fin 32) (addr : Nat) (cause : Fin 256) (t : Ticks),
    let d := s.dev.at_ t
    s.dev.acts = true →
    (d.queue q).isOpen = true →
    Does (.hostDmaError q (.write chan addr cause) t) s t (fun d => (((d.noteImprecise (140 + chan) addr cause).dmaStallQueue q).dmaFailed q))) ∧
  (∀ (s : State) (v : Fin 8192) (t : Ticks),
    let d := s.dev.at_ t
    let x := d.hif.vecs.get ({} : Vec) v
    s.dev.acts = true →
    x.pending ≠ 0 →
    x.count ≤ x.pending ∨ x.firstAt + (x.time * 100 : Int) * ns ≤ d.now →
    Does (.vectorFire v t) s t (fun d => d.fireVec v)) ∧
  (∀ (s : State) (v : Fin 8192) (t : Ticks),
    s.dev.acts = true →
    Does (.vectorUnmask (.vector v) t) s t (fun d => { d with hif.vecs := d.hif.vecs.put ({} : Vec) v.val { d.hif.vecs.get ({} : Vec) v.val with masked := false } }.releaseVec v.val)) ∧
  (∀ (s : State) (f : Fin 4) (t : Ticks),
    s.dev.acts = true →
    Does (.vectorUnmask (.function f) t) s t (fun d => (d.onFn f (fun x => { x with masked := false })).releaseFn f)) ∧
  (∀ (s : State) (f : Fin 4) (t : Ticks),
    s.dev.acts = true →
    Does (.vectorUnmask (.d0 f) t) s t (fun d =>
      let d1 := d.onFn f (fun x => { x with d3hot := false })
      let mine := d1.hostHeld.filter (fun e => e.1 = f.val)
      (mine.foldl (fun (y : Dev) e => y.emit e.2) { d1 with hostHeld := d1.hostHeld.filter (fun e => e.1 ≠ f.val) }).releaseFn f)) ∧
  (∀ (s : State) (pf : Fin 4) (w : Fin 544) (v : Word32) (t : Ticks),
    s.dev.acts = true →
    Does (.evtPendingClear pf w v t) s t (fun d =>
      let hit := (List.range 32).filter (bitOf v.toNat)
      let mine := hit.filter (fun b => (pf : Nat) = 0 || d.srcPf (32 * w + b) = pf)
      let d1 := d.irqEdges (d.onHif (fun h => { h with evtPending := h.evtPending.filter (fun n => !mine.contains (n % 32) || n / 32 ≠ w) }))
      if mine.length = hit.length then d1 else d1.bump Od.hif_ACCESS_DENIED pf)) ∧
  (∀ (s : State) (pf : Fin 4) (src : Fin 17408) (v : Word32) (t : Ticks),
    let d := s.dev.at_ t
    s.dev.acts = true →
    (pf : Nat) = 0 ∨ (d.srcPf src = pf ∧ bitsOf v.toNat 12 11 = pf) →
    Does (.evtRouteWrite pf src 0 v t) s t (fun d =>
      d.irqEdges (d.onHif (fun h => { h with routes := h.routes.ins src (d.route src / 2 ^ 32 * 2 ^ 32 + (bitsOf v.toNat 13 0 + bitsOf v.toNat 19 16 * 65536)) })))) ∧
  (∀ (s : State) (pf : Fin 4) (src : Fin 17408) (v : Word32) (t : Ticks),
    let d := s.dev.at_ t
    s.dev.acts = true →
    (pf : Nat) = 0 ∨ d.srcPf src = pf →
    bitOf v.toNat 14 = false ∨ d.cfg Od.que_CLASS (bitsOf v.toNat 13 0) = 2 →
    Does (.evtRouteWrite pf src 1 v t) s t (fun d =>
      d.irqEdges (d.onHif (fun h => { h with routes := h.routes.ins src (d.route src % 2 ^ 32 + bitsOf v.toNat 14 0 * 2 ^ 32) })))) ∧
  (∀ (s : State) (pf : Fin 4) (src : Fin 17408) (k : Fin 2) (v : Word32) (t : Ticks),
    let d := s.dev.at_ t
    s.dev.acts = true →
    ((pf : Nat) ≠ 0 ∧ d.srcPf src ≠ pf) ∨ ((pf : Nat) ≠ 0 ∧ k = 0 ∧ bitsOf v.toNat 12 11 ≠ pf) ∨
      (k = 1 ∧ bitOf v.toNat 14 = true ∧ d.cfg Od.que_CLASS (bitsOf v.toNat 13 0) ≠ 2) →
    Does (.evtRouteWrite pf src k v t) s t (fun d => d.bump Od.hif_ACCESS_DENIED pf)) ∧
  (∀ (s : State) (f : Fin 4) (t : Ticks),
    s.dev.acts = true →
    Does (.d3hot f t) s t (fun d => d.onFn f (fun x => { x with d3hot := true }))) ∧
  (∀ (s : State) (pf : Fin 4) (v : Word32) (t : Ticks),
    s.dev.acts = true →
    Does (.registerWrite pf .functionMask v t) s t (fun d =>
      if bitOf v.toNat 0 then d.onFn pf (fun x => { x with masked := true }) else (d.onFn pf (fun x => { x with masked := false })).releaseFn pf)) ∧
  (∀ (s : State) (pf : Fin 4) (word : Fin 16777216) (n : Nat) (v : Word32) (t : Ticks),
    s.dev.acts = true →
    n < 8192 ∧ ((pf : Nat) = 0 ∨ n / 2048 = pf) →
    (word : Nat) = (0xF40000 + 8 * n) / 4 →
    Does (.registerWrite pf (.bar0 word) v t) s t (fun d =>
      { d with hif.vecs := d.hif.vecs.put ({} : Vec) n { d.hif.vecs.get ({} : Vec) n with count := v.toNat % 65536 } })) ∧
  (∀ (s : State) (pf : Fin 4) (word : Fin 16777216) (n : Nat) (v : Word32) (t : Ticks),
    s.dev.acts = true →
    n < 8192 ∧ ((pf : Nat) = 0 ∨ n / 2048 = pf) →
    (word : Nat) = (0xF40000 + 8 * n) / 4 + 1 →
    Does (.registerWrite pf (.bar0 word) v t) s t (fun d =>
      { d with hif.vecs := d.hif.vecs.put ({} : Vec) n { d.hif.vecs.get ({} : Vec) n with time := v.toNat % 2 ^ 20 } })) ∧
  (∀ (s : State) (v : Word32) (t : Ticks),
    s.dev.acts = true →
    bitOf v.toNat 1 = true →
    Does (.registerWrite 0 (.bar4 1) v t) s t (fun d => d.onHif (fun h => { h with mbox := { h.mbox with responseReady := false } }))) ∧
  (∀ (s : State) (pf : Fin 4) (r : HostReg) (v : Word32) (t : Ticks),
    s.dev.acts = true →
    ∃ u, exec (.registerWrite pf r v t) s = .next u)

/-- MOV to ROR, MULU and MULS of a deckhand and the completion of a product: results and flags. Of a lane that executes the
instruction: MOV copies without flags; ADD, ADC, SUB, SBC give the 32-bit result with C the carry (no borrow), Z, N and V
the signed overflow; AND, OR, XOR give Z and N alone; CMP and TST set the flags of SUB and AND and write no register; the
shifts and ROR take Gs[4:0], give Z and N, and C the last bit out, which a shift by 0 leaves; MULU and MULS put the 64-bit
product in flight and change nothing else; the oldest product in flight, where there is one, becomes MHI:MLO. The PC moves
on by one word, LOOP apart. -/
def Obligations.LaneArithmeticCompletes : Prop :=
  (∀ (s : State) (n : Fin 128) (i j : Fin 16) (t : Ticks),
    let d := s.dev.at_ t
    s.dev.acts = true →
    d.dhReads n (dhRrCode 0 i j) = true →
    DoesAll (.dhMov n i j t) s t (fun x =>
      ((x.dhFresh n).onDh n (fun c => c.put i (c.get j))).dhDone n 1 1)) ∧
  (∀ (s : State) (n : Fin 128) (i j : Fin 16) (t : Ticks),
    let d := s.dev.at_ t
    s.dev.acts = true →
    d.dhReads n (dhRrCode 1 i j) = true →
    DoesAll (.dhAdd n i j t) s t (fun x =>
      ((x.dhFresh n).onDh n (fun c =>
        let v := (c.get i + c.get j) % 2 ^ 32
        c.gives i v { c := decide (2 ^ 32 ≤ c.get i + c.get j), z := decide (v = 0), n := bitOf v 31, v := decide (signedOf 32 (c.get i) + signedOf 32 (c.get j) ≠ signedOf 32 v) })).dhDone n 1 1)) ∧
  (∀ (s : State) (n : Fin 128) (i j : Fin 16) (t : Ticks),
    let d := s.dev.at_ t
    s.dev.acts = true →
    d.dhReads n (dhRrCode 2 i j) = true →
    DoesAll (.dhSub n i j t) s t (fun x =>
      ((x.dhFresh n).onDh n (fun c =>
        let v := (c.get i + 2 * 2 ^ 32 - c.get j) % 2 ^ 32
        c.gives i v { c := decide (c.get j ≤ c.get i), z := decide (v = 0), n := bitOf v 31, v := decide (signedOf 32 (c.get i) - signedOf 32 (c.get j) ≠ signedOf 32 v) })).dhDone n 1 1)) ∧
  (∀ (s : State) (n : Fin 128) (i j : Fin 16) (t : Ticks),
    let d := s.dev.at_ t
    s.dev.acts = true →
    d.dhReads n (dhRrCode 3 i j) = true →
    DoesAll (.dhAdc n i j t) s t (fun x =>
      ((x.dhFresh n).onDh n (fun c =>
        let v := (c.get i + c.get j + b2n c.c) % 2 ^ 32
        c.gives i v { c := decide (2 ^ 32 ≤ c.get i + c.get j + b2n c.c), z := decide (v = 0), n := bitOf v 31, v := decide (signedOf 32 (c.get i) + signedOf 32 (c.get j) + b2n c.c ≠ signedOf 32 v) })).dhDone n 1 1)) ∧
  (∀ (s : State) (n : Fin 128) (i j : Fin 16) (t : Ticks),
    let d := s.dev.at_ t
    s.dev.acts = true →
    d.dhReads n (dhRrCode 4 i j) = true →
    DoesAll (.dhSbc n i j t) s t (fun x =>
      ((x.dhFresh n).onDh n (fun c =>
        let v := (c.get i + 2 * 2 ^ 32 - c.get j - (1 - b2n c.c)) % 2 ^ 32
        c.gives i v { c := decide (c.get j + (1 - b2n c.c) ≤ c.get i), z := decide (v = 0), n := bitOf v 31, v := decide (signedOf 32 (c.get i) - signedOf 32 (c.get j) - ((1 - b2n c.c : Nat) : Int) ≠ signedOf 32 v) })).dhDone n 1 1)) ∧
  (∀ (s : State) (n : Fin 128) (i j : Fin 16) (t : Ticks),
    let d := s.dev.at_ t
    s.dev.acts = true →
    d.dhReads n (dhRrCode 8 i j) = true →
    DoesAll (.dhCmp n i j t) s t (fun x =>
      ((x.dhFresh n).onDh n (fun c =>
        let v := (c.get i + 2 * 2 ^ 32 - c.get j) % 2 ^ 32
        c.setFlags { c := decide (c.get j ≤ c.get i), z := decide (v = 0), n := bitOf v 31, v := decide (signedOf 32 (c.get i) - signedOf 32 (c.get j) ≠ signedOf 32 v) })).dhDone n 1 1)) ∧
  (∀ (s : State) (n : Fin 128) (i j : Fin 16) (t : Ticks),
    let d := s.dev.at_ t
    s.dev.acts = true →
    d.dhReads n (dhRrCode 5 i j) = true →
    DoesAll (.dhAnd n i j t) s t (fun x =>
      ((x.dhFresh n).onDh n (fun c =>
        let v := c.get i &&& c.get j
        c.gives i v { c.flags with z := decide (v = 0), n := bitOf v 31 })).dhDone n 1 1)) ∧
  (∀ (s : State) (n : Fin 128) (i j : Fin 16) (t : Ticks),
    let d := s.dev.at_ t
    s.dev.acts = true →
    d.dhReads n (dhRrCode 6 i j) = true →
    DoesAll (.dhOr n i j t) s t (fun x =>
      ((x.dhFresh n).onDh n (fun c =>
        let v := c.get i ||| c.get j
        c.gives i v { c.flags with z := decide (v = 0), n := bitOf v 31 })).dhDone n 1 1)) ∧
  (∀ (s : State) (n : Fin 128) (i j : Fin 16) (t : Ticks),
    let d := s.dev.at_ t
    s.dev.acts = true →
    d.dhReads n (dhRrCode 7 i j) = true →
    DoesAll (.dhXor n i j t) s t (fun x =>
      ((x.dhFresh n).onDh n (fun c =>
        let v := c.get i ^^^ c.get j
        c.gives i v { c.flags with z := decide (v = 0), n := bitOf v 31 })).dhDone n 1 1)) ∧
  (∀ (s : State) (n : Fin 128) (i j : Fin 16) (t : Ticks),
    let d := s.dev.at_ t
    s.dev.acts = true →
    d.dhReads n (dhRrCode 9 i j) = true →
    DoesAll (.dhTst n i j t) s t (fun x =>
      ((x.dhFresh n).onDh n (fun c =>
        let v := c.get i &&& c.get j
        c.setFlags { c.flags with z := decide (v = 0), n := bitOf v 31 })).dhDone n 1 1)) ∧
  (∀ (s : State) (n : Fin 128) (i j : Fin 16) (t : Ticks),
    let d := s.dev.at_ t
    s.dev.acts = true →
    d.dhReads n (dhRrCode 10 i j) = true →
    DoesAll (.dhLsl n i j t) s t (fun x =>
      ((x.dhFresh n).onDh n (fun c =>
        let k := c.get j % 32
        let v := c.get i * 2 ^ k % 2 ^ 32
        c.gives i v { c.flags with z := decide (v = 0), n := bitOf v 31, c := if k = 0 then c.c else bitOf (c.get i) (32 - k) })).dhDone n 1 1)) ∧
  (∀ (s : State) (n : Fin 128) (i j : Fin 16) (t : Ticks),
    let d := s.dev.at_ t
    s.dev.acts = true →
    d.dhReads n (dhRrCode 11 i j) = true →
    DoesAll (.dhLsr n i j t) s t (fun x =>
      ((x.dhFresh n).onDh n (fun c =>
        let k := c.get j % 32
        let v := c.get i / 2 ^ k
        c.gives i v { c.flags with z := decide (v = 0), n := bitOf v 31, c := if k = 0 then c.c else bitOf (c.get i) (k - 1) })).dhDone n 1 1)) ∧
  (∀ (s : State) (n : Fin 128) (i j : Fin 16) (t : Ticks),
    let d := s.dev.at_ t
    s.dev.acts = true →
    d.dhReads n (dhRrCode 12 i j) = true →
    DoesAll (.dhAsr n i j t) s t (fun x =>
      ((x.dhFresh n).onDh n (fun c =>
        let k := c.get j % 32
        let v := patternOf 32 (signedOf 32 (c.get i) / (2 ^ k : Int))
        c.gives i v { c.flags with z := decide (v = 0), n := bitOf v 31, c := if k = 0 then c.c else bitOf (c.get i) (k - 1) })).dhDone n 1 1)) ∧
  (∀ (s : State) (n : Fin 128) (i j : Fin 16) (t : Ticks),
    let d := s.dev.at_ t
    s.dev.acts = true →
    d.dhReads n (dhRrCode 13 i j) = true →
    DoesAll (.dhRor n i j t) s t (fun x =>
      ((x.dhFresh n).onDh n (fun c =>
        let k := c.get j % 32
        let v := (c.get i / 2 ^ k + c.get i * 2 ^ (32 - k)) % 2 ^ 32
        c.gives i v { c.flags with z := decide (v = 0), n := bitOf v 31, c := if k = 0 then c.c else bitOf v 31 })).dhDone n 1 1)) ∧
  (∀ (s : State) (n : Fin 128) (i j : Fin 16) (t : Ticks),
    let d := s.dev.at_ t
    s.dev.acts = true →
    d.dhReads n (dhRrCode 14 i j) = true →
    DoesAll (.dhMulu n i j t) s t (fun x =>
      ((x.dhFresh n).onDh n (fun c => { c with products := c.products ++ [BitVec.ofNat 64 (c.get i * c.get j)] })).dhDone n 1 1)) ∧
  (∀ (s : State) (n : Fin 128) (i j : Fin 16) (t : Ticks),
    let d := s.dev.at_ t
    s.dev.acts = true →
    d.dhReads n (dhRrCode 15 i j) = true →
    DoesAll (.dhMuls n i j t) s t (fun x =>
      ((x.dhFresh n).onDh n (fun c => { c with products := c.products ++ [BitVec.ofNat 64 (patternOf 64 (signedOf 32 (c.get i) * signedOf 32 (c.get j)))] })).dhDone n 1 1)) ∧
  (∀ (s : State) (n : Fin 128) (p : BitVec 64) (rest : List (BitVec 64)) (t : Ticks),
    let d := s.dev.at_ t
    s.dev.acts = true →
    (d.dh n).products = p :: rest →
    DoesAll (.dhProductComplete n t) s t (fun x =>
      x.onDh n (fun c => { c with mlo := p.setWidth 32, mhi := (p >>> 32).setWidth 32, products := rest })))

/-- MOVI, ADDI, CMPI, SHI, BR, CALL, JR, CALLR, RET, TRET, WAIT, NOP, SKcc and LOOP of a deckhand complete. Of a lane that
executes the instruction, with at most two LIMMs: the immediate forms work on the sign-extended immediate; SHI shifts right
where its immediate has bit 5 set, else left; BR and CALL go to the address after the instruction plus the signed offset, on
14 bits, JR, CALLR and RET to a register's address, the calls leaving the return address in G15; TRET resumes a valid TSB at
TSBP and ends handler state; WAIT without an event stops the watchdog and waits; SKcc decides on the flags of R331 whether
the next instruction is skipped, and that one is its shadow; LOOP with a body and a count sets LPS, LPE and LPC, and with
count 0 jumps over the body. -/
def Obligations.LaneImmediatesAndControlComplete : Prop :=
  (∀ (s : State) (n : Fin 128) (i : Fin 16) (own : BitVec 6) (l : List (BitVec 11)) (t : Ticks),
    let d := s.dev.at_ t
    s.dev.acts = true →
    d.dhReads n (dhRiCode 0 i own l) = true →
    l.length ≤ 2 →
    DoesAll (.dhMovi n i own l t) s t (fun x =>
      ((x.dhFresh n).onDh n (fun c =>
        c.put i (patternOf 32 (limmSigned 6 own.toNat l)))).dhDone n (1 + l.length) 1)) ∧
  (∀ (s : State) (n : Fin 128) (i : Fin 16) (own : BitVec 6) (l : List (BitVec 11)) (t : Ticks),
    let d := s.dev.at_ t
    s.dev.acts = true →
    d.dhReads n (dhRiCode 1 i own l) = true →
    l.length ≤ 2 →
    DoesAll (.dhAddi n i own l t) s t (fun x =>
      ((x.dhFresh n).onDh n (fun c =>
        let b := patternOf 32 (limmSigned 6 own.toNat l)
        let v := (c.get i + b) % 2 ^ 32
        c.gives i v { c := decide (2 ^ 32 ≤ c.get i + b), z := decide (v = 0), n := bitOf v 31, v := decide (signedOf 32 (c.get i) + signedOf 32 b ≠ signedOf 32 v) })).dhDone n (1 + l.length) 1)) ∧
  (∀ (s : State) (n : Fin 128) (i : Fin 16) (own : BitVec 6) (l : List (BitVec 11)) (t : Ticks),
    let d := s.dev.at_ t
    s.dev.acts = true →
    d.dhReads n (dhRiCode 2 i own l) = true →
    l.length ≤ 2 →
    DoesAll (.dhCmpi n i own l t) s t (fun x =>
      ((x.dhFresh n).onDh n (fun c =>
        let b := patternOf 32 (limmSigned 6 own.toNat l)
        let v := (c.get i + 2 * 2 ^ 32 - b) % 2 ^ 32
        c.setFlags { c := decide (b ≤ c.get i), z := decide (v = 0), n := bitOf v 31, v := decide (signedOf 32 (c.get i) - signedOf 32 b ≠ signedOf 32 v) })).dhDone n (1 + l.length) 1)) ∧
  (∀ (s : State) (n : Fin 128) (i : Fin 16) (imm : BitVec 6) (t : Ticks),
    let d := s.dev.at_ t
    s.dev.acts = true →
    d.dhReads n (dhRiCode 3 i imm []) = true →
    DoesAll (.dhShi n i imm t) s t (fun x =>
      ((x.dhFresh n).onDh n (fun c =>
        let k := imm.toNat % 32
        let right := bitOf imm.toNat 5
        let v := if right then c.get i / 2 ^ k else c.get i * 2 ^ k % 2 ^ 32
        c.gives i v { c.flags with z := decide (v = 0), n := bitOf v 31, c := if k = 0 then c.c else bitOf (c.get i) (if right then k - 1 else 32 - k) })).dhDone n 1 1)) ∧
  (∀ (s : State) (n : Fin 128) (own : BitVec 10) (l : List (BitVec 11)) (t : Ticks),
    let d := s.dev.at_ t
    s.dev.acts = true →
    d.dhReads n (dhBrCode false own l) = true →
    l.length ≤ 2 →
    DoesAll (.dhBr n own l t) s t (fun x =>
      (x.dhFresh n).dhJumped n (1 + l.length) 2 (patternOf 14 (((x.dev.dh n).next (1 + l.length) : Int) + limmSigned 10 own.toNat l)))) ∧
  (∀ (s : State) (n : Fin 128) (own : BitVec 10) (l : List (BitVec 11)) (t : Ticks),
    let d := s.dev.at_ t
    s.dev.acts = true →
    d.dhReads n (dhBrCode true own l) = true →
    l.length ≤ 2 →
    DoesAll (.dhCall n own l t) s t (fun x =>
      ((x.dhFresh n).onDh n (fun c => c.put 15 (c.next (1 + l.length)))).dhJumped n (1 + l.length) 2 (patternOf 14 (((x.dev.dh n).next (1 + l.length) : Int) + limmSigned 10 own.toNat l)))) ∧
  (∀ (s : State) (n : Fin 128) (r : Fin 16) (t : Ticks),
    let d := s.dev.at_ t
    s.dev.acts = true →
    d.dhReads n (dhControlCode 1 r) = true →
    DoesAll (.dhJr n r t) s t (fun x =>
      (x.dhFresh n).dhJumped n 1 3 ((x.dev.dh n).get r))) ∧
  (∀ (s : State) (n : Fin 128) (r : Fin 16) (t : Ticks),
    let d := s.dev.at_ t
    s.dev.acts = true →
    d.dhReads n (dhControlCode 2 r) = true →
    DoesAll (.dhCallr n r t) s t (fun x =>
      ((x.dhFresh n).onDh n (fun c => c.put 15 (c.next 1))).dhJumped n 1 3 ((x.dev.dh n).get r))) ∧
  (∀ (s : State) (n : Fin 128) (t : Ticks),
    let d := s.dev.at_ t
    s.dev.acts = true →
    d.dhReads n (dhSysCode 0) = true →
    DoesAll (.dhRet n t) s t (fun x =>
      (x.dhFresh n).dhJumped n 1 3 ((x.dev.dh n).get 15))) ∧
  (∀ (s : State) (n : Fin 128) (t : Ticks),
    let d := s.dev.at_ t
    let st : State := { s with dev := s.dev.at_ t }
    s.dev.acts = true →
    d.dhReads n (dhSysCode 1) = true →
    (st.dhFresh n).dev.dhTsbOk n ((st.dhFresh n).dev.dh n).tsbp.toNat = true →
    DoesAll (.dhTret n t) s t (fun x =>
      let y := x.dhFresh n
      let z := y.onDh n (fun c => { c.drained.load (memRead y.mem (laneMem n + (y.dev.dh n).tsbp.toNat) 128) with handler := false })
      z.dhJumped n 1 12 (z.dev.dh n).pc.toNat)) ∧
  (∀ (s : State) (n : Fin 128) (t : Ticks),
    let d := s.dev.at_ t
    let st : State := { s with dev := s.dev.at_ t }
    s.dev.acts = true →
    d.dhReads n (dhSysCode 2) = true →
    (st.dhFresh n).dev.evp n = 0 →
    DoesAll (.dhWait n t) s t (fun x =>
      (x.dhFresh n).onDev (fun d => d.onLane n (fun y => { y with inWait := true, wdLeft := (y.watchdog.getD d.now) - d.now, watchdog := none })) |>.dhDone n 1 0)) ∧
  (∀ (s : State) (n : Fin 128) (t : Ticks),
    let d := s.dev.at_ t
    s.dev.acts = true →
    d.dhReads n (dhSysCode 3) = true →
    DoesAll (.dhNop n t) s t (fun x =>
      (x.dhFresh n).dhDone n 1 1)) ∧
  (∀ (s : State) (n : Fin 128) (cc : Fin 16) (t : Ticks),
    let d := s.dev.at_ t
    s.dev.acts = true →
    d.dhReads n (dhControlCode 0 cc) = true →
    DoesAll (.dhSkcc n cc t) s t (fun x =>
      ((x.dhFresh n).onDh n (fun c => { c with skip := c.flags.holds (decide ((x.dhFresh n).dev.evp n ≠ 0)) cc, shadow := true })).dhDone n 1 1)) ∧
  (∀ (s : State) (n : Fin 128) (r : Fin 16) (own : BitVec 6) (l : List (BitVec 11)) (t : Ticks),
    let d := s.dev.at_ t
    let st : State := { s with dev := s.dev.at_ t }
    s.dev.acts = true →
    d.dhReads n (dhLoopCode r own l) = true →
    l.length ≤ 2 →
    limmUnsigned 6 own.toNat l ≠ 0 →
    ((st.dhFresh n).dev.dh n).g[r] ≠ 0 →
    DoesAll (.dhLoop n r own l t) s t (fun x =>
      ((x.dhFresh n).onDh n (fun c => { c with lps := BitVec.ofNat 32 (c.pc.toNat + l.length + 1), lpe := BitVec.ofNat 32 (c.pc.toNat + l.length + limmUnsigned 6 own.toNat l), lpc := c.g[r] })).dhDone n (1 + l.length) 2)) ∧
  (∀ (s : State) (n : Fin 128) (r : Fin 16) (own : BitVec 6) (l : List (BitVec 11)) (t : Ticks),
    let d := s.dev.at_ t
    let st : State := { s with dev := s.dev.at_ t }
    s.dev.acts = true →
    d.dhReads n (dhLoopCode r own l) = true →
    l.length ≤ 2 →
    limmUnsigned 6 own.toNat l ≠ 0 →
    ((st.dhFresh n).dev.dh n).g[r] = 0 →
    DoesAll (.dhLoop n r own l t) s t (fun x =>
      ((x.dhFresh n).onDh n (fun c => { c with lps := BitVec.ofNat 32 (c.pc.toNat + l.length + 1), lpe := BitVec.ofNat 32 (c.pc.toNat + l.length + limmUnsigned 6 own.toNat l), lpc := c.g[r] })).dhJumped n (1 + l.length) 2 (((x.dhFresh n).dev.dh n).pc.toNat + l.length + limmUnsigned 6 own.toNat l + 1)))

/-- LDB to STW, MFS, MTS, RDFEAT, BSW16, BSW32, SNAP and FENCE of a deckhand complete. Of a lane that executes the instruction:
a load that passes its checks writes what it read, zero-extended, into Gr; a store (of a lane that is not paired) that
passes its checks writes the low 1, 2 or 4 bytes of Gr at G[8 + base] plus the signed offset; MFS reads each special
register, MTS writes those that take writes; RDFEAT reads a feature register; BSW16 exchanges the two low bytes and clears
the others, BSW32 reverses four bytes; SNAP latches chip time into Gr and TSNAP; FENCE delivers the notices of earlier
posted stores. -/
def Obligations.LaneMemoryAndRegistersComplete : Prop :=
  (∀ (s : State) (n : Fin 128) (r : Fin 16) (base : Fin 8) (l : List (BitVec 11)) (v : Nat) (t : Ticks),
    let d := s.dev.at_ t
    let st : State := { s with dev := s.dev.at_ t }
    s.dev.acts = true →
    d.dhReads n (dhMemCode false 0 r base l) = true →
    l.length ≤ 2 →
    (st.dhFresh n).dhLoad n ((d.dh n).ea base l) 1 false = .inr v →
    DoesAll (.dhLdb n r base l t) s t (fun x =>
      ((x.dhFresh n).onDh n (fun c => c.put r v)).dhDone n (1 + l.length) (dhLoadCycles ((x.dev.dh n).ea base l)))) ∧
  (∀ (s : State) (n : Fin 128) (r : Fin 16) (base : Fin 8) (l : List (BitVec 11)) (v : Nat) (t : Ticks),
    let d := s.dev.at_ t
    let st : State := { s with dev := s.dev.at_ t }
    s.dev.acts = true →
    d.dhReads n (dhMemCode false 1 r base l) = true →
    l.length ≤ 2 →
    (st.dhFresh n).dhLoad n ((d.dh n).ea base l) 2 false = .inr v →
    DoesAll (.dhLdh n r base l t) s t (fun x =>
      ((x.dhFresh n).onDh n (fun c => c.put r v)).dhDone n (1 + l.length) (dhLoadCycles ((x.dev.dh n).ea base l)))) ∧
  (∀ (s : State) (n : Fin 128) (r : Fin 16) (base : Fin 8) (l : List (BitVec 11)) (v : Nat) (t : Ticks),
    let d := s.dev.at_ t
    let st : State := { s with dev := s.dev.at_ t }
    s.dev.acts = true →
    d.dhReads n (dhMemCode false 2 r base l) = true →
    l.length ≤ 2 →
    (st.dhFresh n).dhLoad n ((d.dh n).ea base l) 4 false = .inr v →
    DoesAll (.dhLdw n r base l t) s t (fun x =>
      ((x.dhFresh n).onDh n (fun c => c.put r v)).dhDone n (1 + l.length) (dhLoadCycles ((x.dev.dh n).ea base l)))) ∧
  (∀ (s : State) (n : Fin 128) (r : Fin 16) (base : Fin 8) (l : List (BitVec 11)) (sh : Bool) (y : State) (t : Ticks),
    let d := s.dev.at_ t
    let st : State := { s with dev := s.dev.at_ t }
    s.dev.acts = true →
    d.dhReads n (dhMemCode true 0 r base l) = true →
    l.length ≤ 2 →
    (st.dhFresh n).dev.dhSingle n = true →
    (st.dhFresh n).dhStore n (((st.dhFresh n).dev.dh n).ea base l) 1 (((st.dhFresh n).dev.dh n).get r % 256 ^ 1) false = .inr y →
    DoesAll (.dhStb n r base l sh t) s t (fun _ =>
      y.dhDone n (1 + l.length) 1)) ∧
  (∀ (s : State) (n : Fin 128) (r : Fin 16) (base : Fin 8) (l : List (BitVec 11)) (sh : Bool) (y : State) (t : Ticks),
    let d := s.dev.at_ t
    let st : State := { s with dev := s.dev.at_ t }
    s.dev.acts = true →
    d.dhReads n (dhMemCode true 1 r base l) = true →
    l.length ≤ 2 →
    (st.dhFresh n).dev.dhSingle n = true →
    (st.dhFresh n).dhStore n (((st.dhFresh n).dev.dh n).ea base l) 2 (((st.dhFresh n).dev.dh n).get r % 256 ^ 2) false = .inr y →
    DoesAll (.dhSth n r base l sh t) s t (fun _ =>
      y.dhDone n (1 + l.length) 1)) ∧
  (∀ (s : State) (n : Fin 128) (r : Fin 16) (base : Fin 8) (l : List (BitVec 11)) (sh : Bool) (y : State) (t : Ticks),
    let d := s.dev.at_ t
    let st : State := { s with dev := s.dev.at_ t }
    s.dev.acts = true →
    d.dhReads n (dhMemCode true 2 r base l) = true →
    l.length ≤ 2 →
    (st.dhFresh n).dev.dhSingle n = true →
    (st.dhFresh n).dhStore n (((st.dhFresh n).dev.dh n).ea base l) 4 (((st.dhFresh n).dev.dh n).get r % 256 ^ 4) false = .inr y →
    DoesAll (.dhStw n r base l sh t) s t (fun _ =>
      y.dhDone n (1 + l.length) 1)) ∧
  (∀ (s : State) (n : Fin 128) (r sr : Fin 16) (v : Nat) (t : Ticks),
    let d := s.dev.at_ t
    let st : State := { s with dev := s.dev.at_ t }
    s.dev.acts = true →
    d.dhReads n (dhMoveCode false sr r) = true →
    (st.dhFresh n).dev.dhMfs n sr = some v →
    DoesAll (.dhMfs n r sr t) s t (fun x =>
      ((x.dhFresh n).onDh n (fun c => c.put r v)).dhDone n 1 1)) ∧
  (∀ (s : State) (n : Fin 128) (sr r : Fin 16) (sh : Bool) (t : Ticks),
    let d := s.dev.at_ t
    let st : State := { s with dev := s.dev.at_ t }
    s.dev.acts = true →
    d.dhReads n (dhMoveCode true sr r) = true →
    (sr : Nat) < 10 →
    (st.dhFresh n).dev.dhSingle n = true →
    DoesAll (.dhMts n sr r sh t) s t (fun x =>
      ((x.dhFresh n).onDh n (DhCore.mts sr (((x.dhFresh n).dev.dh n).get r))).dhDone n 1 1)) ∧
  (∀ (s : State) (n : Fin 128) (r : Fin 16) (sh : Bool) (t : Ticks),
    let d := s.dev.at_ t
    let st : State := { s with dev := s.dev.at_ t }
    s.dev.acts = true →
    d.dhReads n (dhMoveCode true 13 r) = true →
    (st.dhFresh n).dev.dhSingle n = true →
    DoesAll (.dhMts n 13 r sh t) s t (fun x =>
      ((x.dhFresh n).onDev (fun d => d.onLane n (fun y => { y with migrated := y.migrated && !bitOf ((d.dh n).get r) 3, soft := y.soft && !bitOf ((d.dh n).get r) 4 }))).dhDone n 1 1)) ∧
  (∀ (s : State) (n : Fin 128) (r : Fin 16) (k : Fin 4) (t : Ticks),
    let d := s.dev.at_ t
    s.dev.acts = true →
    d.dhReads n (dhSubCode false k r) = true →
    DoesAll (.dhRdfeat n r k t) s t (fun x =>
      ((x.dhFresh n).onDh n (fun c => c.put r (if k = 0 then 0x000100FF else if k = 1 then 0x00102020 else if k = 2 then 0x00002408 else 0))).dhDone n 1 1)) ∧
  (∀ (s : State) (n : Fin 128) (r : Fin 16) (t : Ticks),
    let d := s.dev.at_ t
    s.dev.acts = true →
    d.dhReads n (dhSubCode false 4 r) = true →
    DoesAll (.dhBsw16 n r t) s t (fun x =>
      ((x.dhFresh n).onDh n (fun c => c.put r (c.get r % 256 * 256 + c.get r / 256 % 256))).dhDone n 1 1)) ∧
  (∀ (s : State) (n : Fin 128) (r : Fin 16) (t : Ticks),
    let d := s.dev.at_ t
    s.dev.acts = true →
    d.dhReads n (dhSubCode false 5 r) = true →
    DoesAll (.dhBsw32 n r t) s t (fun x =>
      ((x.dhFresh n).onDh n (fun c => c.put r (leNat (toBe 4 (c.get r))))).dhDone n 1 1)) ∧
  (∀ (s : State) (n : Fin 128) (r : Fin 16) (t : Ticks),
    let d := s.dev.at_ t
    s.dev.acts = true →
    d.dhReads n (dhSubCode false 12 r) = true →
    DoesAll (.dhSnap n r t) s t (fun x =>
      ((x.dhFresh n).onDh n (fun c => { c.put r (leAt (timeLe x.dev.now) 2 4) with tsnap := BitVec.ofNat 32 (leAt (timeLe x.dev.now) 6 2 * 65536 + leAt (timeLe x.dev.now) 0 2) })).dhDone n 1 4)) ∧
  (∀ (s : State) (n : Fin 128) (sh : Bool) (t : Ticks),
    let d := s.dev.at_ t
    let st : State := { s with dev := s.dev.at_ t }
    s.dev.acts = true →
    d.dhReads n (dhSubCode false 13 0) = true →
    (st.dhFresh n).dev.dhSingle n = true →
    DoesAll (.dhFence n sh t) s t (fun x =>
      ((x.dhFresh n).onDev (fun d => d.dhDeliver n)).dhDone n 1 2))

/-- MOVS, FILS, CMPS, SCNS, CRCS and SUMS of a deckhand complete. Of a lane that executes the instruction: the operation works
element by element while BRC is not 0 (MOVS and CMPS advance BRS and BRD, FILS BRD, the others BRS), and where every element
passes its checks and no event is due before it ends, it completes in sequence with its cycles; CMPS that reaches the end
sets Z, SCNS that finds nothing clears Z; an element at which CMPS finds a difference or SCNS its byte ends it. -/
def Obligations.LaneBlockOperationsComplete : Prop :=
  (∀ (s : State) (n : Fin 128) (up : Option Nat) (y : State) (t : Ticks),
    let d := s.dev.at_ t
    let st : State := { s with dev := s.dev.at_ t }
    s.dev.acts = true →
    d.dhReads n (dhSubCode false 6 0) = true →
    dhBlockFuel n (dhMovsStep n) id ((d.dh n).brc.toNat + 1) (if (d.dh n).shadow && up = some 0 then none else up) (st.dhFresh n) = .seq y →
    DoesAll (.dhMovs n up t) s t (fun x =>
      y.dhDone n 1 (dhBlockCycles (x.dev.dh n) 8 true))) ∧
  (∀ (s : State) (n : Fin 128) (r : Fin 16) (up : Option Nat) (y : State) (t : Ticks),
    let d := s.dev.at_ t
    let st : State := { s with dev := s.dev.at_ t }
    s.dev.acts = true →
    d.dhReads n (dhSubCode false 7 r) = true →
    dhBlockFuel n (dhFilsStep n r) id ((d.dh n).brc.toNat + 1) (if (d.dh n).shadow && up = some 0 then none else up) (st.dhFresh n) = .seq y →
    DoesAll (.dhFils n r up t) s t (fun x =>
      y.dhDone n 1 (dhBlockCycles (x.dev.dh n) 8 true))) ∧
  (∀ (s : State) (n : Fin 128) (up : Option Nat) (y : State) (t : Ticks),
    let d := s.dev.at_ t
    let st : State := { s with dev := s.dev.at_ t }
    s.dev.acts = true →
    d.dhReads n (dhSubCode false 8 0) = true →
    dhBlockFuel n (dhCmpsStep n) (fun x => x.dhZ n true) ((d.dh n).brc.toNat + 1) (if (d.dh n).shadow && up = some 0 then none else up) (st.dhFresh n) = .seq y →
    DoesAll (.dhCmps n up t) s t (fun x =>
      y.dhDone n 1 (dhBlockCycles (x.dev.dh n) 8 true))) ∧
  (∀ (s : State) (n : Fin 128) (r : Fin 16) (up : Option Nat) (y : State) (t : Ticks),
    let d := s.dev.at_ t
    let st : State := { s with dev := s.dev.at_ t }
    s.dev.acts = true →
    d.dhReads n (dhSubCode false 9 r) = true →
    dhBlockFuel n (dhScnsStep n r) (fun x => x.dhZ n false) ((d.dh n).brc.toNat + 1) (if (d.dh n).shadow && up = some 0 then none else up) (st.dhFresh n) = .seq y →
    DoesAll (.dhScns n r up t) s t (fun x =>
      y.dhDone n 1 (dhBlockCycles (x.dev.dh n) 8 false))) ∧
  (∀ (s : State) (n : Fin 128) (r : Fin 16) (up : Option Nat) (y : State) (t : Ticks),
    let d := s.dev.at_ t
    let st : State := { s with dev := s.dev.at_ t }
    s.dev.acts = true →
    d.dhReads n (dhSubCode false 10 r) = true →
    dhBlockFuel n (dhCrcsStep n r) id ((d.dh n).brc.toNat + 1) (if (d.dh n).shadow && up = some 0 then none else up) (st.dhFresh n) = .seq y →
    DoesAll (.dhCrcs n r up t) s t (fun x =>
      y.dhDone n 1 (dhBlockCycles (x.dev.dh n) 4 false))) ∧
  (∀ (s : State) (n : Fin 128) (r : Fin 16) (up : Option Nat) (y : State) (t : Ticks),
    let d := s.dev.at_ t
    let st : State := { s with dev := s.dev.at_ t }
    s.dev.acts = true →
    d.dhReads n (dhSubCode false 11 r) = true →
    dhBlockFuel n (dhSumsStep n r) id ((d.dh n).brc.toNat + 1) (if (d.dh n).shadow && up = some 0 then none else up) (st.dhFresh n) = .seq y →
    DoesAll (.dhSums n r up t) s t (fun x =>
      y.dhDone n 1 (dhBlockCycles (x.dev.dh n) 8 false)))

/-- QPOST, LPOST, QTAKE, QCONF, QREJ, FTAKE, FDONE, FFWD, BVRD, CLOCK, CFREE, LEVT and WDOG complete. Of a lane that executes
the instruction and is not paired: QPOST and LPOST (even Gr) read the descriptor or image and, accepted, answer 0 with Z
clear; QTAKE hands over the next untaken inbox slot, its address and queue, FTAKE the oldest untaken frame record, its
address and length, with Z clear, and with nothing to take set Z; QCONF confirms and QREJ rejects the item of a held slot
and frees it; FDONE frees a held record; FFWD sends a held record on an OPEN session and frees it; BVRD gives the position
and quality of a Bearing; CLOCK asks for a cipher core and Z tells whether it is held; CFREE gives a held one back; LEVT
raises 0x100; WDOG restarts the watchdog. QPOST and LPOST take at most 180 cycles, a free value. -/
def Obligations.LaneUnitOperationsComplete : Prop :=
  (∀ (s : State) (n : Fin 128) (r : Fin 16) (sh : Bool) (b : Bytes) (k : Nat) (e : Dev) (y : State) (t : Ticks),
    let d := s.dev.at_ t
    let st : State := { s with dev := s.dev.at_ t }
    s.dev.acts = true →
    d.take.2.dhReads n (dhSubCode true 0 r) = true →
    Fin16.pair r = true →
    (({ st with dev := st.dev.take.2 } : State).dhFresh n).dev.dhSingle n = true →
    y = ({ st with dev := st.dev.take.2 } : State).dhFresh n →
    y.dhFetch n ((y.dev.dh n).get (regAfter r 1)) 64 = .inr b →
    y.dev.admitOffer ((y.dev.dh n).get r) (decodeOffer .lane b (y.dhBody n b)) = (.accepted k, e) →
    DoesAll (.qpost n r sh t) s t (fun x =>
      ({ y with dev := e }.onDh n (fun c => c.put r 0)).onDh n (fun c => { c with z := false }) |>.dhDone n 1 (1 + Config.freeNat x.dev.free % 180))) ∧
  (∀ (s : State) (n : Fin 128) (r : Fin 16) (sh : Bool) (b : Bytes) (k : Nat) (e : Dev) (y : State) (t : Ticks),
    let d := s.dev.at_ t
    let st : State := { s with dev := s.dev.at_ t }
    s.dev.acts = true →
    d.take.2.dhReads n (dhSubCode true 1 r) = true →
    Fin16.pair r = true →
    (({ st with dev := st.dev.take.2 } : State).dhFresh n).dev.dhSingle n = true →
    y = ({ st with dev := st.dev.take.2 } : State).dhFresh n →
    y.dhFetch n ((y.dev.dh n).get (regAfter r 1)) 32 = .inr b →
    y.dev.admitOffer ((y.dev.dh n).get r) { source := .lane, kind := .launchEntry, body := b } = (.accepted k, e) →
    DoesAll (.lpost n r sh t) s t (fun x =>
      ({ y with dev := e }.onDh n (fun c => c.put r 0)).onDh n (fun c => { c with z := false }) |>.dhDone n 1 (1 + Config.freeNat x.dev.free % 180))) ∧
  (∀ (s : State) (n : Fin 128) (r : Fin 16) (sh : Bool) (k : Nat) (e : InboxSlot) (t : Ticks),
    let d := s.dev.at_ t
    let st : State := { s with dev := s.dev.at_ t }
    s.dev.acts = true →
    d.dhReads n (dhSubCode true 2 r) = true →
    Fin16.pair r = true →
    (st.dhFresh n).dev.dhSingle n = true →
    ((st.dhFresh n).dev.lane n).nextSlot = some (k, e) →
    DoesAll (.qtake n r sh t) s t (fun x =>
      (let y := (x.dhFresh n).onDev (fun d => d.onLane n (fun z => { z with inbox := z.inbox.ins k { e with taken := true } }))
      (y.onDh n (fun c => (c.put r (0x7000 + 512 * k)).put (regAfter r 1) e.queue)).onDh n (fun c => { c with z := false })).dhDone n 1 4)) ∧
  (∀ (s : State) (n : Fin 128) (r : Fin 16) (sh : Bool) (t : Ticks),
    let d := s.dev.at_ t
    let st : State := { s with dev := s.dev.at_ t }
    s.dev.acts = true →
    d.dhReads n (dhSubCode true 2 r) = true →
    Fin16.pair r = true →
    (st.dhFresh n).dev.dhSingle n = true →
    ((st.dhFresh n).dev.lane n).nextSlot = none →
    DoesAll (.qtake n r sh t) s t (fun x =>
      ((x.dhFresh n).onDh n (fun c => { c with z := true })).dhDone n 1 4)) ∧
  (∀ (s : State) (n : Fin 128) (r : Fin 16) (sh : Bool) (k : Nat) (e : InboxSlot) (t : Ticks),
    let d := s.dev.at_ t
    let st : State := { s with dev := s.dev.at_ t }
    s.dev.acts = true →
    d.dhReads n (dhSubCode true 3 r) = true →
    (st.dhFresh n).dev.dhSingle n = true →
    ((st.dhFresh n).dev.lane n).heldSlot (((st.dhFresh n).dev.dh n).get r) = some (k, e) →
    DoesAll (.qconf n r sh t) s t (fun x =>
      ((x.dhFresh n).onDev (fun d => (d.onLane n (fun z => { z with inbox := z.inbox.del k })).endItem e.item .confirmed 0)).dhDone n 1 4)) ∧
  (∀ (s : State) (n : Fin 128) (r : Fin 16) (sh : Bool) (k : Nat) (e : InboxSlot) (t : Ticks),
    let d := s.dev.at_ t
    let st : State := { s with dev := s.dev.at_ t }
    s.dev.acts = true →
    d.dhReads n (dhSubCode true 4 r) = true →
    Fin16.pair r = true →
    (st.dhFresh n).dev.dhSingle n = true →
    ((st.dhFresh n).dev.lane n).heldSlot (((st.dhFresh n).dev.dh n).get r) = some (k, e) →
    DoesAll (.qrej n r sh t) s t (fun x =>
      ((x.dhFresh n).onDev (fun d => (d.onLane n (fun z => { z with inbox := z.inbox.del k })).endItem e.item .rejected (if (d.dh n).get (regAfter r 1) = 4 then 4 else 5))).dhDone n 1 4)) ∧
  (∀ (s : State) (n : Fin 128) (r : Fin 16) (sh : Bool) (e : FrameRec) (t : Ticks),
    let d := s.dev.at_ t
    let st : State := { s with dev := s.dev.at_ t }
    s.dev.acts = true →
    d.dhReads n (dhSubCode true 5 r) = true →
    Fin16.pair r = true →
    (st.dhFresh n).dev.dhSingle n = true →
    ((st.dhFresh n).dev.lane n).records.find? (fun e => !e.taken) = some e →
    DoesAll (.ftake n r sh t) s t (fun x =>
      (let y := (x.dhFresh n).onDev (fun d => d.onLane n (fun z => { z with lastArrival := some e.arrival, records := z.records.map (fun w => if w = e then { w with taken := true } else w) }))
      (y.onDh n (fun c => (c.put r (0x01000000 + e.offset)).put (regAfter r 1) e.bytes.length)).onDh n (fun c => { c with z := false })).dhDone n 1 4)) ∧
  (∀ (s : State) (n : Fin 128) (r : Fin 16) (sh : Bool) (e : FrameRec) (t : Ticks),
    let d := s.dev.at_ t
    let st : State := { s with dev := s.dev.at_ t }
    s.dev.acts = true →
    d.dhReads n (dhSubCode true 6 r) = true →
    (st.dhFresh n).dev.dhSingle n = true →
    ((st.dhFresh n).dev.lane n).heldRecord (((st.dhFresh n).dev.dh n).get r) = some e →
    DoesAll (.fdone n r sh t) s t (fun x =>
      ((x.dhFresh n).onDev (fun d => d.onLane n (fun z => { z with records := z.records.filter (fun w => w.offset ≠ e.offset) }))).dhDone n 1 2)) ∧
  (∀ (s : State) (n : Fin 128) (r : Fin 16) (sh : Bool) (e : FrameRec) (i : Nat) (t : Ticks),
    let d := s.dev.at_ t
    let st : State := { s with dev := s.dev.at_ t }
    s.dev.acts = true →
    d.dhReads n (dhSubCode true 7 r) = true →
    Fin16.pair r = true →
    (st.dhFresh n).dev.dhSingle n = true →
    ((st.dhFresh n).dev.lane n).heldRecord (((st.dhFresh n).dev.dh n).get r) = some e →
    (st.dhFresh n).dev.sesOf (((st.dhFresh n).dev.dh n).get (regAfter r 1)) = some i →
    ((st.dhFresh n).dev.ses i).state = .opened ∧ (st.dhFresh n).dev.maySeal0 i = true →
    DoesAll (.ffwd n r sh t) s t (fun x =>
      (let y := x.dhFresh n
      let ext := 4 * leAt e.bytes 26 1
      let raw := memRead y.mem (0x0200000000 + 0x400000 * y.dev.pierOf (n / 8) + e.offset + 32) (e.bytes.length - 32)
      let time := if e.hasTime then some (timeOfBe (raw.take 12)) else none
      let stamps := stampsOf 8 ((raw.take ext).drop (if e.hasTime then 12 else 0))
      (y.onDev (fun d => ((d.takeTx i).2.sendFrame i e.type 0 (d.takeTx i).1 (raw.drop ext) time stamps).onLane n (fun z => z.dropRecord e))).onDh n (fun c => { c with z := false })).dhDone n 1 6)) ∧
  (∀ (s : State) (n : Fin 128) (r : Fin 16) (sh : Bool) (t : Ticks),
    let d := s.dev.at_ t
    let st : State := { s with dev := s.dev.at_ t }
    s.dev.acts = true →
    d.dhReads n (dhSubCode true 8 r) = true →
    (r : Nat) = 0 ∨ (r : Nat) = 4 ∨ (r : Nat) = 8 →
    (st.dhFresh n).dev.dhSingle n = true →
    DoesAll (.bvrd n r sh t) s t (fun x =>
      (let y := x.dhFresh n
      let v := (y.dev.dh n).get r
      let e := y.dev.evalAt (v % 16) (if bitOf v 4 then (y.dev.lane n).lastArrival.getD y.dev.now else y.dev.now)
      y.onDh n (fun c => ((c.put r (patternOf 64 e.pos / 2 ^ 32)).put (regAfter r 1) (patternOf 64 e.pos % 2 ^ 32)).put (regAfter r 2)
        (if e.state = .off then 0x80 else e.quality y.dev.unlocked))).dhDone n 1 30)) ∧
  (∀ (s : State) (n : Fin 128) (r : Fin 16) (sh : Bool) (t : Ticks),
    let d := s.dev.at_ t
    let st : State := { s with dev := s.dev.at_ t }
    s.dev.acts = true →
    d.dhReads n (dhSubCode true 9 r) = true →
    (st.dhFresh n).dev.dhSingle n = true →
    DoesAll (.clock n r sh t) s t (fun x =>
      (let k := (x.dhFresh n).dev.dhCore n r
      let y := (x.dhFresh n).onDev (fun d => d.lockWrite k (n + 1) (n + 1))
      y.onDh n (fun c => { c with z := decide ((y.dev.core k).user ≠ n + 1) })).dhDone n 1 8)) ∧
  (∀ (s : State) (n : Fin 128) (r : Fin 16) (sh : Bool) (t : Ticks),
    let d := s.dev.at_ t
    let st : State := { s with dev := s.dev.at_ t }
    s.dev.acts = true →
    d.dhReads n (dhSubCode true 10 r) = true →
    (st.dhFresh n).dev.dhSingle n = true →
    ((st.dhFresh n).dev.core ((st.dhFresh n).dev.dhCore n r)).user = n + 1 →
    DoesAll (.cfree n r sh t) s t (fun x =>
      (((x.dhFresh n).onDev (fun d => d.lockWrite ((x.dhFresh n).dev.dhCore n r) (n + 1) 0)).onDh n (fun c => { c with z := false })).dhDone n 1 2)) ∧
  (∀ (s : State) (n : Fin 128) (r : Fin 16) (sh : Bool) (t : Ticks),
    let d := s.dev.at_ t
    let st : State := { s with dev := s.dev.at_ t }
    s.dev.acts = true →
    d.dhReads n (dhSubCode true 11 r) = true →
    (st.dhFresh n).dev.dhSingle n = true →
    DoesAll (.levt n r sh t) s t (fun x =>
      ((x.dhFresh n).onDev (fun d => d.raise (64 + n) 0x100 n [((d.dh n).get r : Int)])).dhDone n 1 4)) ∧
  (∀ (s : State) (n : Fin 128) (sh : Bool) (t : Ticks),
    let d := s.dev.at_ t
    let st : State := { s with dev := s.dev.at_ t }
    s.dev.acts = true →
    d.dhReads n (dhSubCode true 12 0) = true →
    (st.dhFresh n).dev.dhSingle n = true →
    DoesAll (.wdog n sh t) s t (fun x =>
      ((x.dhFresh n).onDev (fun d => d.onLane n (fun z => { z with watchdog := some (d.now + d.cfg Od.lan_WDOG_TIME n) }))).dhDone n 1 1))

/-- DH_EVENT_EXCEPTION, DH_ILLEGAL_OPCODE, the lane control commands and the two access control commands complete. On a device
that acts: a running lane with an event due at the boundary takes the event exception; an encoding that is illegal raises
its cause; OFF written to a running lane makes it stop as its disable mode says; a disabled lane with no work left is reset
and its cipher locks are freed; a watchdog that expires raises event 2 and asks for its pier's retirement with cause 3; a
paired lane whose shadow lags by more than 64 cycles is mismatched; a region's ATTR with no reserved value and no lock is
written; VALID of an IMPRECISE register is cleared. -/
def Obligations.LanesAndChecksComplete : Prop :=
  (∀ (s : State) (n : Fin 128) (t : Ticks),
    let d := s.dev.at_ t
    let st : State := { s with dev := s.dev.at_ t }
    s.dev.acts = true →
    (d.lane n).runs = true ∧ (d.lane n).origin ≠ 3 →
    d.flt.chipSafe = false ∧ (d.dh n).notice = false →
    st.dhEventDue n = true →
    DoesAll (.dhEventException n t) s t (fun x =>
      x.dhTake n { cause := 0x41 })) ∧
  (∀ (s : State) (n : Fin 128) (words : Fin 3) (cause : Fin 4) (t : Ticks),
    let d := s.dev.at_ t
    s.dev.acts = true →
    d.dhReady n (1 + words) = true →
    dhIllegal ((d.lane n).code.drop (d.dh n).pc.toNat) = some (1 + words.val, 1 + cause.val) →
    DoesAll (.dhIllegalOpcode n words cause t) s t (fun x =>
      (x.dhFresh n).dhTake n { cause := 1 + cause })) ∧
  (∀ (s : State) (n : Fin 136) (t : Ticks),
    let d := s.dev.at_ t
    s.dev.acts = true →
    d.flt.chipSafe = false →
    d.isStandby = false →
    d.cfg Od.lan_DISABLE_MODE n ≠ 1 →
    (d.lane n).state ≠ .off →
    Does (.laneEnable n false t) s t (fun d =>
      ((d.set Od.lan_ENABLE n 0).setLane n { d.lane n with state := .disabling, cancelled := false, records := (d.lane n).records.filter (fun r => r.taken) }).laneStop n)) ∧
  (∀ (s : State) (n : Fin 136) (t : Ticks),
    let d := s.dev.at_ t
    s.dev.acts = true →
    (d.lane n).state = .disabling →
    d.laneMayStop n = true →
    Does (.laneStop n t) s t (fun d =>
      let d1 := (d.setLane n {}).clearLocks (n + 1)
      if (d1.lane (n + 1)).origin = 3 ∧ (n : Nat) % 2 = 0 then d1.setLane (n + 1) {} else d1)) ∧
  (∀ (s : State) (n : Fin 128) (w t : Ticks),
    let d := s.dev.at_ t
    s.dev.acts = true →
    (d.lane n).watchdog = some w →
    (d.lane n).runs = true ∧ (d.lane n).inWait = false →
    w ≤ d.now →
    Does (.laneWatchdog n t) s t (fun d =>
      let d1 := d.raise (64 + n) 2 n
      { d1 with flt.todo := d1.flt.todo ++ [.pier (d.pierOf (n / 8)) 3] })) ∧
  (∀ (s : State) (n : Fin 128) (lag : Nat) (t : Ticks),
    let d := s.dev.at_ t
    s.dev.acts = true →
    (d.lane n).runs = true →
    (d.lane (n + 1)).origin = 3 ∧ (n : Nat) % 2 = 0 →
    64 < lag →
    Does (.pairedLaneLag n lag t) s t (fun d => d.pairMismatch n)) ∧
  (∀ (s : State) (m : Fin 174) (r : Fin 32) (v : Word32) (t : Ticks),
    let d := s.dev.at_ t
    s.dev.acts = true →
    d.flt.chipSafe = false →
    (r : Nat) < regionCount m →
    bitOf ((d.acu m).regions.get ({} : Region) r).attr 9 = false →
    bitsOf (v.toNat % 1024) 6 5 ≠ 3 ∧ bitsOf (v.toNat % 1024) 8 7 ≠ 3 →
    ¬ ((d.acu m).regions.get ({} : Region) r).top < ((d.acu m).regions.get ({} : Region) r).lo + 31 →
    bitOf (v.toNat % 1024) 3 = false ∧ bitOf (v.toNat % 1024) 4 = false →
    Does (.acuRgnAttr m r v t) s t (fun d =>
      d.setAcu m { d.acu m with regions := (d.acu m).regions.put ({} : Region) r { (d.acu m).regions.get ({} : Region) r with attr := v.toNat % 1024 } })) ∧
  (∀ (s : State) (m : Fin 174) (t : Ticks),
    let d := s.dev.at_ t
    s.dev.acts = true →
    d.flt.chipSafe = false →
    Does (.acuImpreciseClear m t) s t (fun d => d.setAcu m { d.acu m with impValid := false, impMore := false, impAddr := 0, impCause := 0 }))

/-- MOV to ROR, MULU and MULS of a purser and the completion of a product: results and flags at the operation width. Of a purser
that executes the instruction at an operation width w, with or without TWICE: MOV copies without flags; ADD, ADC, SUB, SBC
give the result at the width with C the carry (no borrow), Z, N and V the signed overflow; AND, OR, XOR give Z and N alone;
CMP and TST set the flags of SUB and AND and write no register; the shifts and ROR take the source modulo the width and give
Z, N and C the last bit out, which a shift by 0 leaves; results are zero-extended into Xd; MULU and MULS put the 128-bit
product in flight and change nothing else; the oldest product in flight becomes PH:PL. -/
def Obligations.PurserArithmeticCompletes : Prop :=
  (∀ (s : State) (p : Fin 4) (x : PuPre) (i j : Fin 16) (t : Ticks),
    let st : State := { s with dev := s.dev.at_ t }
    s.dev.acts = true →
    st.puReads p x.bytes (puRrCode 0 i j) (x.twice) = true →
    DoesAll (.puMov p x i j t) s t (fun y_ =>
      y_.puSeq p (2 + x.len) 1 x.twice (fun y => y.onPu p (fun c =>
        c.put i (c.low j x.w))))) ∧
  (∀ (s : State) (p : Fin 4) (x : PuPre) (i j : Fin 16) (t : Ticks),
    let st : State := { s with dev := s.dev.at_ t }
    s.dev.acts = true →
    st.puReads p x.bytes (puRrCode 1 i j) (x.twice) = true →
    DoesAll (.puAdd p x i j t) s t (fun y_ =>
      y_.puSeq p (2 + x.len) 1 x.twice (fun y => y.onPu p (fun c =>
        let w := x.w.bits
        let a := c.low i x.w
        let b := c.low j x.w
        let v := (a + b) % 2 ^ w
        c.gives i v { c := decide (2 ^ w ≤ a + b), z := decide (v = 0), n := bitOf v (w - 1), v := decide (signedOf w a + signedOf w b ≠ signedOf w v) })))) ∧
  (∀ (s : State) (p : Fin 4) (x : PuPre) (i j : Fin 16) (t : Ticks),
    let st : State := { s with dev := s.dev.at_ t }
    s.dev.acts = true →
    st.puReads p x.bytes (puRrCode 2 i j) (x.twice) = true →
    DoesAll (.puSub p x i j t) s t (fun y_ =>
      y_.puSeq p (2 + x.len) 1 x.twice (fun y => y.onPu p (fun c =>
        let w := x.w.bits
        let a := c.low i x.w
        let b := c.low j x.w
        let v := (a + 2 * 2 ^ w - b) % 2 ^ w
        c.gives i v { c := decide (b ≤ a), z := decide (v = 0), n := bitOf v (w - 1), v := decide (signedOf w a - signedOf w b ≠ signedOf w v) })))) ∧
  (∀ (s : State) (p : Fin 4) (x : PuPre) (i j : Fin 16) (t : Ticks),
    let st : State := { s with dev := s.dev.at_ t }
    s.dev.acts = true →
    st.puReads p x.bytes (puRrCode 3 i j) (x.twice) = true →
    DoesAll (.puAdc p x i j t) s t (fun y_ =>
      y_.puSeq p (2 + x.len) 1 x.twice (fun y => y.onPu p (fun c =>
        let w := x.w.bits
        let a := c.low i x.w
        let b := c.low j x.w
        let v := (a + b + b2n c.c) % 2 ^ w
        c.gives i v { c := decide (2 ^ w ≤ a + b + b2n c.c), z := decide (v = 0), n := bitOf v (w - 1), v := decide (signedOf w a + signedOf w b + b2n c.c ≠ signedOf w v) })))) ∧
  (∀ (s : State) (p : Fin 4) (x : PuPre) (i j : Fin 16) (t : Ticks),
    let st : State := { s with dev := s.dev.at_ t }
    s.dev.acts = true →
    st.puReads p x.bytes (puRrCode 4 i j) (x.twice) = true →
    DoesAll (.puSbc p x i j t) s t (fun y_ =>
      y_.puSeq p (2 + x.len) 1 x.twice (fun y => y.onPu p (fun c =>
        let w := x.w.bits
        let a := c.low i x.w
        let b := c.low j x.w
        let v := (a + 2 * 2 ^ w - b - (1 - b2n c.c)) % 2 ^ w
        c.gives i v { c := decide (b + (1 - b2n c.c) ≤ a), z := decide (v = 0), n := bitOf v (w - 1), v := decide (signedOf w a - signedOf w b - ((1 - b2n c.c : Nat) : Int) ≠ signedOf w v) })))) ∧
  (∀ (s : State) (p : Fin 4) (x : PuPre) (i j : Fin 16) (t : Ticks),
    let st : State := { s with dev := s.dev.at_ t }
    s.dev.acts = true →
    st.puReads p x.bytes (puRrCode 8 i j) (x.twice) = true →
    DoesAll (.puCmp p x i j t) s t (fun y_ =>
      y_.puSeq p (2 + x.len) 1 x.twice (fun y => y.onPu p (fun c =>
        let w := x.w.bits
        let a := c.low i x.w
        let b := c.low j x.w
        let v := (a + 2 * 2 ^ w - b) % 2 ^ w
        c.setCond { c := decide (b ≤ a), z := decide (v = 0), n := bitOf v (w - 1), v := decide (signedOf w a - signedOf w b ≠ signedOf w v) })))) ∧
  (∀ (s : State) (p : Fin 4) (x : PuPre) (i j : Fin 16) (t : Ticks),
    let st : State := { s with dev := s.dev.at_ t }
    s.dev.acts = true →
    st.puReads p x.bytes (puRrCode 5 i j) (x.twice) = true →
    DoesAll (.puAnd p x i j t) s t (fun y_ =>
      y_.puSeq p (2 + x.len) 1 x.twice (fun y => y.onPu p (fun c =>
        let w := x.w.bits
        let a := c.low i x.w
        let b := c.low j x.w
        let v := a &&& b
        c.gives i v { c.cond with z := decide (v = 0), n := bitOf v (w - 1) })))) ∧
  (∀ (s : State) (p : Fin 4) (x : PuPre) (i j : Fin 16) (t : Ticks),
    let st : State := { s with dev := s.dev.at_ t }
    s.dev.acts = true →
    st.puReads p x.bytes (puRrCode 6 i j) (x.twice) = true →
    DoesAll (.puOr p x i j t) s t (fun y_ =>
      y_.puSeq p (2 + x.len) 1 x.twice (fun y => y.onPu p (fun c =>
        let w := x.w.bits
        let a := c.low i x.w
        let b := c.low j x.w
        let v := a ||| b
        c.gives i v { c.cond with z := decide (v = 0), n := bitOf v (w - 1) })))) ∧
  (∀ (s : State) (p : Fin 4) (x : PuPre) (i j : Fin 16) (t : Ticks),
    let st : State := { s with dev := s.dev.at_ t }
    s.dev.acts = true →
    st.puReads p x.bytes (puRrCode 7 i j) (x.twice) = true →
    DoesAll (.puXor p x i j t) s t (fun y_ =>
      y_.puSeq p (2 + x.len) 1 x.twice (fun y => y.onPu p (fun c =>
        let w := x.w.bits
        let a := c.low i x.w
        let b := c.low j x.w
        let v := a ^^^ b
        c.gives i v { c.cond with z := decide (v = 0), n := bitOf v (w - 1) })))) ∧
  (∀ (s : State) (p : Fin 4) (x : PuPre) (i j : Fin 16) (t : Ticks),
    let st : State := { s with dev := s.dev.at_ t }
    s.dev.acts = true →
    st.puReads p x.bytes (puRrCode 9 i j) (x.twice) = true →
    DoesAll (.puTst p x i j t) s t (fun y_ =>
      y_.puSeq p (2 + x.len) 1 x.twice (fun y => y.onPu p (fun c =>
        let w := x.w.bits
        let a := c.low i x.w
        let b := c.low j x.w
        let v := a &&& b
        c.setCond { c.cond with z := decide (v = 0), n := bitOf v (w - 1) })))) ∧
  (∀ (s : State) (p : Fin 4) (x : PuPre) (i j : Fin 16) (t : Ticks),
    let st : State := { s with dev := s.dev.at_ t }
    s.dev.acts = true →
    st.puReads p x.bytes (puRrCode 10 i j) (x.twice) = true →
    DoesAll (.puLsl p x i j t) s t (fun y_ =>
      y_.puSeq p (2 + x.len) 1 x.twice (fun y => y.onPu p (fun c =>
        let w := x.w.bits
        let a := c.low i x.w
        let k := c.low j x.w % w
        let v := a * 2 ^ k % 2 ^ w
        c.gives i v { c.cond with z := decide (v = 0), n := bitOf v (w - 1), c := if k = 0 then c.c else bitOf a (w - k) })))) ∧
  (∀ (s : State) (p : Fin 4) (x : PuPre) (i j : Fin 16) (t : Ticks),
    let st : State := { s with dev := s.dev.at_ t }
    s.dev.acts = true →
    st.puReads p x.bytes (puRrCode 11 i j) (x.twice) = true →
    DoesAll (.puLsr p x i j t) s t (fun y_ =>
      y_.puSeq p (2 + x.len) 1 x.twice (fun y => y.onPu p (fun c =>
        let w := x.w.bits
        let a := c.low i x.w
        let k := c.low j x.w % w
        let v := a / 2 ^ k
        c.gives i v { c.cond with z := decide (v = 0), n := bitOf v (w - 1), c := if k = 0 then c.c else bitOf a (k - 1) })))) ∧
  (∀ (s : State) (p : Fin 4) (x : PuPre) (i j : Fin 16) (t : Ticks),
    let st : State := { s with dev := s.dev.at_ t }
    s.dev.acts = true →
    st.puReads p x.bytes (puRrCode 12 i j) (x.twice) = true →
    DoesAll (.puAsr p x i j t) s t (fun y_ =>
      y_.puSeq p (2 + x.len) 1 x.twice (fun y => y.onPu p (fun c =>
        let w := x.w.bits
        let a := c.low i x.w
        let k := c.low j x.w % w
        let v := patternOf w (signedOf w a / (2 ^ k : Int))
        c.gives i v { c.cond with z := decide (v = 0), n := bitOf v (w - 1), c := if k = 0 then c.c else bitOf a (k - 1) })))) ∧
  (∀ (s : State) (p : Fin 4) (x : PuPre) (i j : Fin 16) (t : Ticks),
    let st : State := { s with dev := s.dev.at_ t }
    s.dev.acts = true →
    st.puReads p x.bytes (puRrCode 13 i j) (x.twice) = true →
    DoesAll (.puRor p x i j t) s t (fun y_ =>
      y_.puSeq p (2 + x.len) 1 x.twice (fun y => y.onPu p (fun c =>
        let w := x.w.bits
        let a := c.low i x.w
        let k := c.low j x.w % w
        let v := (a / 2 ^ k + a * 2 ^ (w - k)) % 2 ^ w
        c.gives i v { c.cond with z := decide (v = 0), n := bitOf v (w - 1), c := if k = 0 then c.c else bitOf v (w - 1) })))) ∧
  (∀ (s : State) (p : Fin 4) (w : PuWidth) (i j : Fin 16) (t : Ticks),
    let st : State := { s with dev := s.dev.at_ t }
    s.dev.acts = true →
    st.puReads p w.prefix (puRrCode 14 i j) (none) = true →
    DoesAll (.puMulu p w i j t) s t (fun x =>
      x.puSeq p (2 + w.pre) 1 none (fun y => y.onPu p (fun c =>
        { c with products := c.products ++ [BitVec.ofNat 128 (c.low i w * c.low j w)] })))) ∧
  (∀ (s : State) (p : Fin 4) (w : PuWidth) (i j : Fin 16) (t : Ticks),
    let st : State := { s with dev := s.dev.at_ t }
    s.dev.acts = true →
    st.puReads p w.prefix (puRrCode 15 i j) (none) = true →
    DoesAll (.puMuls p w i j t) s t (fun x =>
      x.puSeq p (2 + w.pre) 1 none (fun y => y.onPu p (fun c =>
        { c with products := c.products ++ [BitVec.ofNat 128 (patternOf 128 (signedOf w.bits (c.low i w) * signedOf w.bits (c.low j w)))] })))) ∧
  (∀ (s : State) (p : Fin 4) (q : BitVec 128) (rest : List (BitVec 128)) (t : Ticks),
    let d := s.dev.at_ t
    s.dev.acts = true →
    d.flt.chipSafe = false →
    (d.pu p).products = q :: rest →
    DoesAll (.puProductComplete p t) s t (fun x =>
      x.onPu p (fun c => { c with pl := q.setWidth 64, ph := (q >>> 64).setWidth 64, products := rest })))

/-- MOVI to RORI, NEG, NOT, LEA and BSWAP to ZEXT of a purser complete. Of a purser that executes the instruction: the immediate
forms (8, 16 or 32 bits, sign-extended, no wider than the operation; MOVI also 64 bits) work as the register forms with the
immediate for the source; the immediate shifts shift by an amount below the width; NEG subtracts from 0, NOT inverts; LEA
writes the address; BSWAP reverses the bytes of the width, CLZ counts leading zeros, POPC ones, SELZ copies where Z is set,
SEXT and ZEXT extend, all six without flags. -/
def Obligations.PurserImmediatesComplete : Prop :=
  (∀ (s : State) (p : Fin 4) (x : PuPre) (i : Fin 16) (imm : PuImm) (t : Ticks),
    let st : State := { s with dev := s.dev.at_ t }
    s.dev.acts = true →
    st.puReads p x.bytes (puRiCode 0 i imm) (x.twice) = true →
    imm.bytes ≤ x.w.bytes →
    DoesAll (.puMovi p x i imm t) s t (fun y_ =>
      y_.puSeq p (2 + x.len + imm.bytes) 1 x.twice (fun y => y.onPu p (fun c =>
        c.put i (patternOf x.w.bits imm.val))))) ∧
  (∀ (s : State) (p : Fin 4) (x : PuPre) (i : Fin 16) (imm : PuImm) (t : Ticks),
    let st : State := { s with dev := s.dev.at_ t }
    s.dev.acts = true →
    st.puReads p x.bytes (puRiCode 1 i imm) (x.twice) = true →
    imm.bytes ≤ x.w.bytes →
    imm.bytes ≠ 8 →
    DoesAll (.puAddi p x i imm t) s t (fun y_ =>
      y_.puSeq p (2 + x.len + imm.bytes) 1 x.twice (fun y => y.onPu p (fun c =>
        let w := x.w.bits
        let a := c.low i x.w
        let b := patternOf w imm.val
        let v := (a + b) % 2 ^ w
        c.gives i v { c := decide (2 ^ w ≤ a + b), z := decide (v = 0), n := bitOf v (w - 1), v := decide (signedOf w a + signedOf w b ≠ signedOf w v) })))) ∧
  (∀ (s : State) (p : Fin 4) (x : PuPre) (i : Fin 16) (imm : PuImm) (t : Ticks),
    let st : State := { s with dev := s.dev.at_ t }
    s.dev.acts = true →
    st.puReads p x.bytes (puRiCode 2 i imm) (x.twice) = true →
    imm.bytes ≤ x.w.bytes →
    imm.bytes ≠ 8 →
    DoesAll (.puSubi p x i imm t) s t (fun y_ =>
      y_.puSeq p (2 + x.len + imm.bytes) 1 x.twice (fun y => y.onPu p (fun c =>
        let w := x.w.bits
        let a := c.low i x.w
        let b := patternOf w imm.val
        let v := (a + 2 * 2 ^ w - b) % 2 ^ w
        c.gives i v { c := decide (b ≤ a), z := decide (v = 0), n := bitOf v (w - 1), v := decide (signedOf w a - signedOf w b ≠ signedOf w v) })))) ∧
  (∀ (s : State) (p : Fin 4) (x : PuPre) (i : Fin 16) (imm : PuImm) (t : Ticks),
    let st : State := { s with dev := s.dev.at_ t }
    s.dev.acts = true →
    st.puReads p x.bytes (puRiCode 6 i imm) (x.twice) = true →
    imm.bytes ≤ x.w.bytes →
    imm.bytes ≠ 8 →
    DoesAll (.puCmpi p x i imm t) s t (fun y_ =>
      y_.puSeq p (2 + x.len + imm.bytes) 1 x.twice (fun y => y.onPu p (fun c =>
        let w := x.w.bits
        let a := c.low i x.w
        let b := patternOf w imm.val
        let v := (a + 2 * 2 ^ w - b) % 2 ^ w
        c.setCond { c := decide (b ≤ a), z := decide (v = 0), n := bitOf v (w - 1), v := decide (signedOf w a - signedOf w b ≠ signedOf w v) })))) ∧
  (∀ (s : State) (p : Fin 4) (x : PuPre) (i : Fin 16) (imm : PuImm) (t : Ticks),
    let st : State := { s with dev := s.dev.at_ t }
    s.dev.acts = true →
    st.puReads p x.bytes (puRiCode 3 i imm) (x.twice) = true →
    imm.bytes ≤ x.w.bytes →
    imm.bytes ≠ 8 →
    DoesAll (.puAndi p x i imm t) s t (fun y_ =>
      y_.puSeq p (2 + x.len + imm.bytes) 1 x.twice (fun y => y.onPu p (fun c =>
        let w := x.w.bits
        let a := c.low i x.w
        let b := patternOf w imm.val
        let v := a &&& b
        c.gives i v { c.cond with z := decide (v = 0), n := bitOf v (w - 1) })))) ∧
  (∀ (s : State) (p : Fin 4) (x : PuPre) (i : Fin 16) (imm : PuImm) (t : Ticks),
    let st : State := { s with dev := s.dev.at_ t }
    s.dev.acts = true →
    st.puReads p x.bytes (puRiCode 4 i imm) (x.twice) = true →
    imm.bytes ≤ x.w.bytes →
    imm.bytes ≠ 8 →
    DoesAll (.puOri p x i imm t) s t (fun y_ =>
      y_.puSeq p (2 + x.len + imm.bytes) 1 x.twice (fun y => y.onPu p (fun c =>
        let w := x.w.bits
        let a := c.low i x.w
        let b := patternOf w imm.val
        let v := a ||| b
        c.gives i v { c.cond with z := decide (v = 0), n := bitOf v (w - 1) })))) ∧
  (∀ (s : State) (p : Fin 4) (x : PuPre) (i : Fin 16) (imm : PuImm) (t : Ticks),
    let st : State := { s with dev := s.dev.at_ t }
    s.dev.acts = true →
    st.puReads p x.bytes (puRiCode 5 i imm) (x.twice) = true →
    imm.bytes ≤ x.w.bytes →
    imm.bytes ≠ 8 →
    DoesAll (.puXori p x i imm t) s t (fun y_ =>
      y_.puSeq p (2 + x.len + imm.bytes) 1 x.twice (fun y => y.onPu p (fun c =>
        let w := x.w.bits
        let a := c.low i x.w
        let b := patternOf w imm.val
        let v := a ^^^ b
        c.gives i v { c.cond with z := decide (v = 0), n := bitOf v (w - 1) })))) ∧
  (∀ (s : State) (p : Fin 4) (x : PuPre) (i : Fin 16) (imm : PuImm) (t : Ticks),
    let st : State := { s with dev := s.dev.at_ t }
    s.dev.acts = true →
    st.puReads p x.bytes (puRiCode 7 i imm) (x.twice) = true →
    imm.bytes ≤ x.w.bytes →
    imm.bytes ≠ 8 →
    DoesAll (.puTsti p x i imm t) s t (fun y_ =>
      y_.puSeq p (2 + x.len + imm.bytes) 1 x.twice (fun y => y.onPu p (fun c =>
        let w := x.w.bits
        let a := c.low i x.w
        let b := patternOf w imm.val
        let v := a &&& b
        c.setCond { c.cond with z := decide (v = 0), n := bitOf v (w - 1) })))) ∧
  (∀ (s : State) (p : Fin 4) (x : PuPre) (i : Fin 16) (imm : BitVec 8) (t : Ticks),
    let st : State := { s with dev := s.dev.at_ t }
    s.dev.acts = true →
    st.puReads p x.bytes (puShiftCode 0 i imm) (x.twice) = true →
    imm.toNat < x.w.bits →
    DoesAll (.puLsli p x i imm t) s t (fun y_ =>
      y_.puSeq p (3 + x.len) 1 x.twice (fun y => y.onPu p (fun c =>
        let w := x.w.bits
        let a := c.low i x.w
        let k := imm.toNat
        let v := a * 2 ^ k % 2 ^ w
        c.gives i v { c.cond with z := decide (v = 0), n := bitOf v (w - 1), c := if k = 0 then c.c else bitOf a (w - k) })))) ∧
  (∀ (s : State) (p : Fin 4) (x : PuPre) (i : Fin 16) (imm : BitVec 8) (t : Ticks),
    let st : State := { s with dev := s.dev.at_ t }
    s.dev.acts = true →
    st.puReads p x.bytes (puShiftCode 1 i imm) (x.twice) = true →
    imm.toNat < x.w.bits →
    DoesAll (.puLsri p x i imm t) s t (fun y_ =>
      y_.puSeq p (3 + x.len) 1 x.twice (fun y => y.onPu p (fun c =>
        let w := x.w.bits
        let a := c.low i x.w
        let k := imm.toNat
        let v := a / 2 ^ k
        c.gives i v { c.cond with z := decide (v = 0), n := bitOf v (w - 1), c := if k = 0 then c.c else bitOf a (k - 1) })))) ∧
  (∀ (s : State) (p : Fin 4) (x : PuPre) (i : Fin 16) (imm : BitVec 8) (t : Ticks),
    let st : State := { s with dev := s.dev.at_ t }
    s.dev.acts = true →
    st.puReads p x.bytes (puShiftCode 2 i imm) (x.twice) = true →
    imm.toNat < x.w.bits →
    DoesAll (.puAsri p x i imm t) s t (fun y_ =>
      y_.puSeq p (3 + x.len) 1 x.twice (fun y => y.onPu p (fun c =>
        let w := x.w.bits
        let a := c.low i x.w
        let k := imm.toNat
        let v := patternOf w (signedOf w a / (2 ^ k : Int))
        c.gives i v { c.cond with z := decide (v = 0), n := bitOf v (w - 1), c := if k = 0 then c.c else bitOf a (k - 1) })))) ∧
  (∀ (s : State) (p : Fin 4) (x : PuPre) (i : Fin 16) (imm : BitVec 8) (t : Ticks),
    let st : State := { s with dev := s.dev.at_ t }
    s.dev.acts = true →
    st.puReads p x.bytes (puShiftCode 3 i imm) (x.twice) = true →
    imm.toNat < x.w.bits →
    DoesAll (.puRori p x i imm t) s t (fun y_ =>
      y_.puSeq p (3 + x.len) 1 x.twice (fun y => y.onPu p (fun c =>
        let w := x.w.bits
        let a := c.low i x.w
        let k := imm.toNat
        let v := (a / 2 ^ k + a * 2 ^ (w - k)) % 2 ^ w
        c.gives i v { c.cond with z := decide (v = 0), n := bitOf v (w - 1), c := if k = 0 then c.c else bitOf v (w - 1) })))) ∧
  (∀ (s : State) (p : Fin 4) (x : PuPre) (i : Fin 16) (t : Ticks),
    let st : State := { s with dev := s.dev.at_ t }
    s.dev.acts = true →
    st.puReads p x.bytes (puCode 0x2C i 0) (x.twice) = true →
    DoesAll (.puNeg p x i t) s t (fun y_ =>
      y_.puSeq p (2 + x.len) 1 x.twice (fun y => y.onPu p (fun c =>
        let w := x.w.bits
        let b := c.low i x.w
        let v := (2 * 2 ^ w - b) % 2 ^ w
        c.gives i v { c := decide (b = 0), z := decide (v = 0), n := bitOf v (w - 1), v := decide (signedOf w 0 - signedOf w b ≠ signedOf w v) })))) ∧
  (∀ (s : State) (p : Fin 4) (x : PuPre) (i : Fin 16) (t : Ticks),
    let st : State := { s with dev := s.dev.at_ t }
    s.dev.acts = true →
    st.puReads p x.bytes (puCode 0x2D i 0) (x.twice) = true →
    DoesAll (.puNot p x i t) s t (fun y_ =>
      y_.puSeq p (2 + x.len) 1 x.twice (fun y => y.onPu p (fun c =>
        let w := x.w.bits
        let v := 2 ^ w - 1 - c.low i x.w
        c.gives i v { c.cond with z := decide (v = 0), n := bitOf v (w - 1) })))) ∧
  (∀ (s : State) (p : Fin 4) (z : PuPre) (i b : Fin 16) (e : Disp) (t : Ticks),
    let st : State := { s with dev := s.dev.at_ t }
    s.dev.acts = true →
    st.puReads p z.bytes (puMemCode 0x3C i b e) (z.twice) = true →
    DoesAll (.puLea p z i b e t) s t (fun x =>
      x.puSeq p (2 + z.len + e.bytes) 1 z.twice (fun y => y.onPu p (fun c =>
        c.put i (c.ea b e % 2 ^ z.w.bits))))) ∧
  (∀ (s : State) (p : Fin 4) (w : PuWidth) (i : Fin 16) (t : Ticks),
    let st : State := { s with dev := s.dev.at_ t }
    s.dev.acts = true →
    st.puReads p w.prefix (puEscCode 1 i 0) (none) = true →
    DoesAll (.puBswap p w i t) s t (fun x =>
      x.puSeq p (3 + w.pre) 1 none (fun y => y.onPu p (fun c =>
        c.put i (leNat (toBe w.bytes (c.low i w))))))) ∧
  (∀ (s : State) (p : Fin 4) (w : PuWidth) (i j : Fin 16) (t : Ticks),
    let st : State := { s with dev := s.dev.at_ t }
    s.dev.acts = true →
    st.puReads p w.prefix (puEscCode 2 i j) (none) = true →
    DoesAll (.puClz p w i j t) s t (fun x =>
      x.puSeq p (3 + w.pre) 1 none (fun y => y.onPu p (fun c =>
        c.put i (clzOf w.bits (c.low j w)))))) ∧
  (∀ (s : State) (p : Fin 4) (w : PuWidth) (i j : Fin 16) (t : Ticks),
    let st : State := { s with dev := s.dev.at_ t }
    s.dev.acts = true →
    st.puReads p w.prefix (puEscCode 3 i j) (none) = true →
    DoesAll (.puPopc p w i j t) s t (fun x =>
      x.puSeq p (3 + w.pre) 1 none (fun y => y.onPu p (fun c =>
        c.put i (popcOf w.bits (c.low j w)))))) ∧
  (∀ (s : State) (p : Fin 4) (w : PuWidth) (i j : Fin 16) (t : Ticks),
    let st : State := { s with dev := s.dev.at_ t }
    s.dev.acts = true →
    st.puReads p w.prefix (puEscCode 5 i j) (none) = true →
    DoesAll (.puSext p w i j t) s t (fun x =>
      x.puSeq p (3 + w.pre) 1 none (fun y => y.onPu p (fun c =>
        c.put i (patternOf 64 (signedOf w.bits (c.low j w))))))) ∧
  (∀ (s : State) (p : Fin 4) (w : PuWidth) (i j : Fin 16) (t : Ticks),
    let st : State := { s with dev := s.dev.at_ t }
    s.dev.acts = true →
    st.puReads p w.prefix (puEscCode 6 i j) (none) = true →
    DoesAll (.puZext p w i j t) s t (fun x =>
      x.puSeq p (3 + w.pre) 1 none (fun y => y.onPu p (fun c =>
        c.put i (c.low j w))))) ∧
  (∀ (s : State) (p : Fin 4) (w : PuWidth) (i j : Fin 16) (t : Ticks),
    let st : State := { s with dev := s.dev.at_ t }
    s.dev.acts = true →
    st.puReads p w.prefix (puEscCode 4 i j) (none) = true →
    DoesAll (.puSelz p w i j t) s t (fun x =>
      x.puSeq p (3 + w.pre) 1 none (fun y => y.onPu p (fun c =>
        if c.z then c.put i (c.low j w) else c))))

/-- LD, LDS, ST, MADD to MXOR, XCHG, CAS, PUSH and POP of a purser complete. Of a purser that executes the instruction without
ATOM, or with it on a naturally aligned address in shared RAM or a pier buffer, the accesses passing their checks: LD
zero-extends and LDS sign-extends what was read into Xd (LDS with ATOM is illegal, cause 0x02); ST writes the low bytes of Xs at
the address; MADD, MAND, MOR and MXOR write back the result of memory and register and set the flags as their ALU operation
does; XCHG exchanges; CAS stores Xs where memory equals X0 and sets Z, and else loads X0 and clears Z; PUSH stores at the stack
register less 8, which it becomes, POP loads at the stack register, which grows by 8. -/
def Obligations.PurserMemoryCompletes : Prop :=
  (∀ (s : State) (p : Fin 4) (w : PuWidth) (m : PuMem) (r b : Fin 16) (e : Disp) (v : Nat) (z : State) (t : Ticks),
    let d := s.dev.at_ t
    let st : State := { s with dev := s.dev.at_ t }
    s.dev.acts = true →
    st.puReads p (w.prefix ++ m.bytes) (puMemCode 0x30 r b e) (m.tw) = true →
    m.isAtom = false →
    (st.puBegin p m.tw).puLoad p ((d.pu p).ea b e) w false false = .inr (v, z) →
    DoesAll (.puLd p w m r b e t) s t (fun x =>
      x.puSeq p (2 + w.pre + m.len + e.bytes) (puLoadCycles p ((x.dev.pu p).ea b e)) m.tw (fun _ => z.onPu p (fun c => c.put r (v))))) ∧
  (∀ (s : State) (p : Fin 4) (w : PuWidth) (m : PuMem) (r b : Fin 16) (e : Disp) (v : Nat) (y z : State) (t : Ticks),
    let d := s.dev.at_ t
    let st : State := { s with dev := s.dev.at_ t }
    s.dev.acts = true →
    st.puReads p (w.prefix ++ m.bytes) (puMemCode 0x30 r b e) (m.tw) = true →
    m.isAtom = true →
    y = (st.puBegin p m.tw).onDev (fun d => d.puDeliver p) →
    y.puCheck p ((d.pu p).ea b e) w.log2 false false true = none →
    (puRam ((d.pu p).ea b e) w.bytes || inPierBuffer ((d.pu p).ea b e) w.bytes) = true →
    y.puLoad p ((d.pu p).ea b e) w false true = .inr (v, z) →
    DoesAll (.puLd p w m r b e t) s t (fun x =>
      x.puSeq p (2 + w.pre + m.len + e.bytes) (puLoadCycles p ((x.dev.pu p).ea b e)) m.tw (fun _ => z.onPu p (fun c => c.put r (v))))) ∧
  (∀ (s : State) (p : Fin 4) (w : PuWidth) (m : PuMem) (r b : Fin 16) (e : Disp) (v : Nat) (z : State) (t : Ticks),
    let d := s.dev.at_ t
    let st : State := { s with dev := s.dev.at_ t }
    s.dev.acts = true →
    st.puReads p (w.prefix ++ m.bytes) (puMemCode 0x34 r b e) (m.tw) = true →
    m.isAtom = false →
    (st.puBegin p m.tw).puLoad p ((d.pu p).ea b e) w false false = .inr (v, z) →
    DoesAll (.puLds p w m r b e t) s t (fun x =>
      x.puSeq p (2 + w.pre + m.len + e.bytes) (puLoadCycles p ((x.dev.pu p).ea b e)) m.tw (fun _ => z.onPu p (fun c => c.put r (patternOf 64 (signedOf w.bits v)))))) ∧
  (∀ (s : State) (p : Fin 4) (w : PuWidth) (m : PuMem) (r b : Fin 16) (e : Disp) (t : Ticks),
    let st : State := { s with dev := s.dev.at_ t }
    s.dev.acts = true →
    st.puReads p (w.prefix ++ m.bytes) (puMemCode 0x34 r b e) (m.tw) = true →
    m.isAtom = true →
    DoesAll (.puLds p w m r b e t) s t (fun x => (x.puBegin p m.tw).puFault p { cause := 0x02 })) ∧
  (∀ (s : State) (p : Fin 4) (w : PuWidth) (m : PuMem) (r b : Fin 16) (e : Disp) (z : State) (t : Ticks),
    let d := s.dev.at_ t
    let st : State := { s with dev := s.dev.at_ t }
    s.dev.acts = true →
    st.puReads p (w.prefix ++ m.bytes) (puMemCode 0x38 r b e) (m.tw) = true →
    m.isAtom = false →
    (st.puBegin p m.tw).puStore p ((d.pu p).ea b e) w (((st.puBegin p m.tw).dev.pu p).low r w) false false = .inr z →
    DoesAll (.puSt p w m r b e t) s t (fun x =>
      x.puSeq p (2 + w.pre + m.len + e.bytes) 1 m.tw (fun _ => z))) ∧
  (∀ (s : State) (p : Fin 4) (w : PuWidth) (m : PuMem) (r b : Fin 16) (e : Disp) (y z : State) (t : Ticks),
    let d := s.dev.at_ t
    let st : State := { s with dev := s.dev.at_ t }
    s.dev.acts = true →
    st.puReads p (w.prefix ++ m.bytes) (puMemCode 0x38 r b e) (m.tw) = true →
    m.isAtom = true →
    y = (st.puBegin p m.tw).onDev (fun d => d.puDeliver p) →
    y.puCheck p ((d.pu p).ea b e) w.log2 true false true = none →
    (puRam ((d.pu p).ea b e) w.bytes || inPierBuffer ((d.pu p).ea b e) w.bytes) = true →
    y.puStore p ((d.pu p).ea b e) w ((y.dev.pu p).low r w) false true = .inr z →
    DoesAll (.puSt p w m r b e t) s t (fun x =>
      x.puSeq p (2 + w.pre + m.len + e.bytes) 1 m.tw (fun _ => z))) ∧
  (∀ (s : State) (p : Fin 4) (w : PuWidth) (atom : Bool) (r b : Fin 16) (e : Disp) (v : Nat) (y z u : State) (t : Ticks),
    let d := s.dev.at_ t
    let st : State := { s with dev := s.dev.at_ t }
    s.dev.acts = true →
    st.puReads p (w.prefix ++ atomPre atom) (puMemCode 0x40 r b e) (none) = true →
    y = (if atom then (st.puBegin p none).onDev (fun d => d.puDeliver p) else st.puBegin p none) →
    (atom = true → y.puCheck p ((d.pu p).ea b e) w.log2 true false true = none ∧ (puRam ((d.pu p).ea b e) w.bytes || inPierBuffer ((d.pu p).ea b e) w.bytes) = true) →
    y.puLoad p ((d.pu p).ea b e) w false atom = .inr (v, z) →
    z.puStore p ((d.pu p).ea b e) w ((v + (z.dev.pu p).low r w) % 2 ^ w.bits) false atom = .inr u →
    DoesAll (.puMadd p w atom r b e t) s t (fun x =>
      x.puSeq p (2 + w.pre + b2n atom + e.bytes) (puLoadCycles p ((x.dev.pu p).ea b e) + 2 + 4 * b2n atom) none (fun _ => u.onPu p (fun c =>
        let a := v
        let b := (z.dev.pu p).low r w
        let v := (a + b) % 2 ^ w.bits
        { (z.dev.pu p).setCond { c := decide (2 ^ w.bits ≤ a + b), z := decide (v = 0), n := bitOf v (w.bits - 1), v := decide (signedOf w.bits a + signedOf w.bits b ≠ signedOf w.bits v) } with posted := c.posted })))) ∧
  (∀ (s : State) (p : Fin 4) (w : PuWidth) (atom : Bool) (r b : Fin 16) (e : Disp) (v : Nat) (y z u : State) (t : Ticks),
    let d := s.dev.at_ t
    let st : State := { s with dev := s.dev.at_ t }
    s.dev.acts = true →
    st.puReads p (w.prefix ++ atomPre atom) (puMemCode 0x44 r b e) (none) = true →
    y = (if atom then (st.puBegin p none).onDev (fun d => d.puDeliver p) else st.puBegin p none) →
    (atom = true → y.puCheck p ((d.pu p).ea b e) w.log2 true false true = none ∧ (puRam ((d.pu p).ea b e) w.bytes || inPierBuffer ((d.pu p).ea b e) w.bytes) = true) →
    y.puLoad p ((d.pu p).ea b e) w false atom = .inr (v, z) →
    z.puStore p ((d.pu p).ea b e) w (v &&& (z.dev.pu p).low r w) false atom = .inr u →
    DoesAll (.puMand p w atom r b e t) s t (fun x =>
      x.puSeq p (2 + w.pre + b2n atom + e.bytes) (puLoadCycles p ((x.dev.pu p).ea b e) + 2 + 4 * b2n atom) none (fun _ => u.onPu p (fun c =>
        let v := v &&& (z.dev.pu p).low r w
        { (z.dev.pu p).setCond { (z.dev.pu p).cond with z := decide (v = 0), n := bitOf v (w.bits - 1) } with posted := c.posted })))) ∧
  (∀ (s : State) (p : Fin 4) (w : PuWidth) (atom : Bool) (r b : Fin 16) (e : Disp) (v : Nat) (y z u : State) (t : Ticks),
    let d := s.dev.at_ t
    let st : State := { s with dev := s.dev.at_ t }
    s.dev.acts = true →
    st.puReads p (w.prefix ++ atomPre atom) (puMemCode 0x48 r b e) (none) = true →
    y = (if atom then (st.puBegin p none).onDev (fun d => d.puDeliver p) else st.puBegin p none) →
    (atom = true → y.puCheck p ((d.pu p).ea b e) w.log2 true false true = none ∧ (puRam ((d.pu p).ea b e) w.bytes || inPierBuffer ((d.pu p).ea b e) w.bytes) = true) →
    y.puLoad p ((d.pu p).ea b e) w false atom = .inr (v, z) →
    z.puStore p ((d.pu p).ea b e) w (v ||| (z.dev.pu p).low r w) false atom = .inr u →
    DoesAll (.puMor p w atom r b e t) s t (fun x =>
      x.puSeq p (2 + w.pre + b2n atom + e.bytes) (puLoadCycles p ((x.dev.pu p).ea b e) + 2 + 4 * b2n atom) none (fun _ => u.onPu p (fun c =>
        let v := v ||| (z.dev.pu p).low r w
        { (z.dev.pu p).setCond { (z.dev.pu p).cond with z := decide (v = 0), n := bitOf v (w.bits - 1) } with posted := c.posted })))) ∧
  (∀ (s : State) (p : Fin 4) (w : PuWidth) (atom : Bool) (r b : Fin 16) (e : Disp) (v : Nat) (y z u : State) (t : Ticks),
    let d := s.dev.at_ t
    let st : State := { s with dev := s.dev.at_ t }
    s.dev.acts = true →
    st.puReads p (w.prefix ++ atomPre atom) (puMemCode 0x4C r b e) (none) = true →
    y = (if atom then (st.puBegin p none).onDev (fun d => d.puDeliver p) else st.puBegin p none) →
    (atom = true → y.puCheck p ((d.pu p).ea b e) w.log2 true false true = none ∧ (puRam ((d.pu p).ea b e) w.bytes || inPierBuffer ((d.pu p).ea b e) w.bytes) = true) →
    y.puLoad p ((d.pu p).ea b e) w false atom = .inr (v, z) →
    z.puStore p ((d.pu p).ea b e) w (v ^^^ (z.dev.pu p).low r w) false atom = .inr u →
    DoesAll (.puMxor p w atom r b e t) s t (fun x =>
      x.puSeq p (2 + w.pre + b2n atom + e.bytes) (puLoadCycles p ((x.dev.pu p).ea b e) + 2 + 4 * b2n atom) none (fun _ => u.onPu p (fun c =>
        let v := v ^^^ (z.dev.pu p).low r w
        { (z.dev.pu p).setCond { (z.dev.pu p).cond with z := decide (v = 0), n := bitOf v (w.bits - 1) } with posted := c.posted })))) ∧
  (∀ (s : State) (p : Fin 4) (w : PuWidth) (atom : Bool) (r b : Fin 16) (e : Disp) (v : Nat) (y z u : State) (t : Ticks),
    let d := s.dev.at_ t
    let st : State := { s with dev := s.dev.at_ t }
    s.dev.acts = true →
    st.puReads p (w.prefix ++ atomPre atom) (puMemCode 0x50 r b e) (none) = true →
    y = (if atom then (st.puBegin p none).onDev (fun d => d.puDeliver p) else st.puBegin p none) →
    (atom = true → y.puCheck p ((d.pu p).ea b e) w.log2 true false true = none ∧ (puRam ((d.pu p).ea b e) w.bytes || inPierBuffer ((d.pu p).ea b e) w.bytes) = true) →
    y.puLoad p ((d.pu p).ea b e) w false atom = .inr (v, z) →
    z.puStore p ((d.pu p).ea b e) w ((z.dev.pu p).low r w) false atom = .inr u →
    DoesAll (.puXchg p w atom r b e t) s t (fun x =>
      x.puSeq p (2 + w.pre + b2n atom + e.bytes) (puLoadCycles p ((x.dev.pu p).ea b e) + 2 + 4 * b2n atom) none (fun _ => u.onPu p (fun c =>
        { (z.dev.pu p).put r v with posted := c.posted })))) ∧
  (∀ (s : State) (p : Fin 4) (w : PuWidth) (atom : Bool) (r b : Fin 16) (e : Disp) (v : Nat) (y z u : State) (t : Ticks),
    let d := s.dev.at_ t
    let st : State := { s with dev := s.dev.at_ t }
    s.dev.acts = true →
    st.puReads p (w.prefix ++ atomPre atom) (puMemCode 0x54 r b e) (none) = true →
    y = (if atom then (st.puBegin p none).onDev (fun d => d.puDeliver p) else st.puBegin p none) →
    (atom = true → y.puCheck p ((d.pu p).ea b e) w.log2 true false true = none ∧ (puRam ((d.pu p).ea b e) w.bytes || inPierBuffer ((d.pu p).ea b e) w.bytes) = true) →
    y.puLoad p ((d.pu p).ea b e) w false atom = .inr (v, z) →
    v = (z.dev.pu p).low 0 w →
    z.puStore p ((d.pu p).ea b e) w ((z.dev.pu p).low r w) false atom = .inr u →
    DoesAll (.puCas p w atom r b e t) s t (fun x =>
      x.puSeq p (2 + w.pre + b2n atom + e.bytes) (puLoadCycles p ((x.dev.pu p).ea b e) + 2 + 4 * b2n atom) none (fun _ => u.onPu p (fun c =>
        { z.dev.pu p with z := true, posted := c.posted })))) ∧
  (∀ (s : State) (p : Fin 4) (w : PuWidth) (atom : Bool) (r b : Fin 16) (e : Disp) (v : Nat) (y z : State) (t : Ticks),
    let d := s.dev.at_ t
    let st : State := { s with dev := s.dev.at_ t }
    s.dev.acts = true →
    st.puReads p (w.prefix ++ atomPre atom) (puMemCode 0x54 r b e) (none) = true →
    y = (if atom then (st.puBegin p none).onDev (fun d => d.puDeliver p) else st.puBegin p none) →
    (atom = true → y.puCheck p ((d.pu p).ea b e) w.log2 true false true = none ∧ (puRam ((d.pu p).ea b e) w.bytes || inPierBuffer ((d.pu p).ea b e) w.bytes) = true) →
    y.puLoad p ((d.pu p).ea b e) w false atom = .inr (v, z) →
    v ≠ (z.dev.pu p).low 0 w →
    DoesAll (.puCas p w atom r b e t) s t (fun x =>
      x.puSeq p (2 + w.pre + b2n atom + e.bytes) (puLoadCycles p ((x.dev.pu p).ea b e) + 2 + 4 * b2n atom) none (fun _ => z.onPu p (fun c =>
        { (z.dev.pu p).put 0 v with z := false })))) ∧
  (∀ (s : State) (p : Fin 4) (r k : Fin 16) (z : State) (t : Ticks),
    let st : State := { s with dev := s.dev.at_ t }
    s.dev.acts = true →
    st.puReads p [] (puCode 0x66 r k) (none) = true →
    (st.puBegin p none).puPush p k (fun c => c.get r) = .inr z →
    DoesAll (.puPush p r k t) s t (fun x =>
      x.puSeq p 2 1 none (fun _ => z))) ∧
  (∀ (s : State) (p : Fin 4) (r k : Fin 16) (v : Nat) (z : State) (t : Ticks),
    let st : State := { s with dev := s.dev.at_ t }
    s.dev.acts = true →
    st.puReads p [] (puCode 0x67 r k) (none) = true →
    (st.puBegin p none).puTop p k = .inr (v, z) →
    DoesAll (.puPop p r k t) s t (fun x =>
      x.puSeq p 2 2 none (fun _ => z.onPu p (fun c => (c.put r v).popped k))))

/-- NOP, TRET, WAIT, FENCE, TSW, SNAP, BR to RET, SKcc, MFS, MTS and RND of a purser complete. Of a purser that executes the
instruction: BR and CALL go to the address after the instruction plus the signed offset, JR, CALLR and RET to a register's
or the stack's address, the calls pushing the return address; SKcc decides on the flags of R331 whether the next instruction
is skipped; MFS reads and MTS writes the special registers (in supervisor mode all that take writes); TRET and TSW resume a
valid TSB in supervisor mode, TSW saving the running context first unless it is a handler's; WAIT waits; FENCE delivers the
notices of posted stores; SNAP latches chip time; RND, where the random source serves, writes 64 random bits (a free value)
and none of the flags. -/
def Obligations.PurserControlCompletes : Prop :=
  (∀ (s : State) (p : Fin 4) (t : Ticks),
    let st : State := { s with dev := s.dev.at_ t }
    s.dev.acts = true →
    st.puReads p [] ([0x00]) (none) = true →
    DoesAll (.puNop p t) s t (fun x =>
      x.puSeq p 1 1 none id)) ∧
  (∀ (s : State) (p : Fin 4) (t : Ticks),
    let st : State := { s with dev := s.dev.at_ t }
    s.dev.acts = true →
    st.puReads p [] ([0x02]) (none) = true →
    DoesAll (.puWait p t) s t (fun x =>
      x.puSeq p 1 1 none (fun y => y.onPu p (fun c => { c with waiting := true })))) ∧
  (∀ (s : State) (p : Fin 4) (t : Ticks),
    let st : State := { s with dev := s.dev.at_ t }
    s.dev.acts = true →
    st.puReads p [] ([0x03]) (none) = true →
    DoesAll (.puFence p t) s t (fun x =>
      x.puSeq p 1 2 none (fun y => y.onDev (fun d => d.puDeliver p)))) ∧
  (∀ (s : State) (p : Fin 4) (r : Fin 16) (t : Ticks),
    let st : State := { s with dev := s.dev.at_ t }
    s.dev.acts = true →
    st.puReads p [] (puCode 0x06 r 0) (none) = true →
    DoesAll (.puSnap p r t) s t (fun x =>
      x.puSeq p 2 4 none (fun y => y.onPu p (fun c => { c.put r (leAt (timeLe x.dev.now) 6 6) with tsnap := BitVec.ofNat 64 (leAt (timeLe x.dev.now) 0 6) })))) ∧
  (∀ (s : State) (p : Fin 4) (t : Ticks),
    let st : State := { s with dev := s.dev.at_ t }
    s.dev.acts = true →
    st.puReads p [] ([0x01]) (none) = true →
    ((st.puBegin p none).dev.pu p).task = false →
    (st.puBegin p none).dev.puTsbOk p ((st.puBegin p none).dev.pu p).tsbp.toNat = true →
    DoesAll (.puTret p t) s t (fun x =>
      let y := x.puBegin p none
      let z := y.onPu p (fun c => { c.drained.load (memRead y.mem (y.dev.pu p).tsbp.toNat 256) with tsbp := BitVec.ofNat 64 (y.dev.pu p).tsbp.toNat, handler := false })
      x.puJump p 1 24 none (fun _ => z) (z.dev.pu p).pc.toNat)) ∧
  (∀ (s : State) (p : Fin 4) (r : Fin 16) (t : Ticks),
    let st : State := { s with dev := s.dev.at_ t }
    s.dev.acts = true →
    st.puReads p [] (puCode 0x05 0 r) (none) = true →
    ((st.puBegin p none).dev.pu p).task = false →
    (st.puBegin p none).dev.puTsbOk p (((st.puBegin p none).dev.pu p).get r) = true →
    ((st.puBegin p none).dev.pu p).handler = true →
    DoesAll (.puTsw p r t) s t (fun x =>
      let y := x.puBegin p none
      let z := y.onPu p (fun c => { c.drained.load (memRead y.mem ((y.dev.pu p).get r) 256) with tsbp := BitVec.ofNat 64 ((y.dev.pu p).get r), handler := false })
      x.puJump p 2 48 none (fun _ => z) (z.dev.pu p).pc.toNat)) ∧
  (∀ (s : State) (p : Fin 4) (r : Fin 16) (t : Ticks),
    let st : State := { s with dev := s.dev.at_ t }
    s.dev.acts = true →
    st.puReads p [] (puCode 0x05 0 r) (none) = true →
    ((st.puBegin p none).dev.pu p).task = false →
    (st.puBegin p none).dev.puTsbOk p (((st.puBegin p none).dev.pu p).get r) = true →
    ((st.puBegin p none).dev.pu p).handler = false →
    (st.puBegin p none).dev.puTsbOk p ((st.puBegin p none).dev.pu p).tsbp.toNat = true →
    DoesAll (.puTsw p r t) s t (fun x =>
      let y := x.puBegin p none
      let saved := { (y.dev.pu p).drained with pc := BitVec.ofNat 64 ((y.dev.pu p).next 2) }
      let y1 : State := { y with mem := memWrite y.mem (y.dev.pu p).tsbp.toNat (puTsb saved { cause := 0 } 0 0) }
      let z := y1.onPu p (fun c => { c.drained.load (memRead y1.mem ((y.dev.pu p).get r) 256) with tsbp := BitVec.ofNat 64 ((y.dev.pu p).get r), handler := false })
      x.puJump p 2 48 none (fun _ => z) (z.dev.pu p).pc.toNat)) ∧
  (∀ (s : State) (p : Fin 4) (tw : Twice) (rel : PuRel) (t : Ticks),
    let st : State := { s with dev := s.dev.at_ t }
    s.dev.acts = true →
    st.puReads p (twicePre tw) (puBrCode rel) (tw) = true →
    DoesAll (.puBr p tw rel t) s t (fun x =>
      let len := 1 + b2n tw.isSome + rel.bytes
      x.puJump p len 3 tw id (patternOf 64 ((((x.puBegin p tw).dev.pu p).next len : Int) + rel.val)))) ∧
  (∀ (s : State) (p : Fin 4) (tw : Twice) (k : Fin 16) (rel : BitVec 32) (z : State) (t : Ticks),
    let st : State := { s with dev := s.dev.at_ t }
    s.dev.acts = true →
    st.puReads p (twicePre tw) (puCode 0x62 0 k ++ toLe 4 rel.toNat) (tw) = true →
    (st.puBegin p tw).puPush p k (fun _ => ((st.puBegin p tw).dev.pu p).next (6 + b2n tw.isSome)) = .inr z →
    DoesAll (.puCall p tw k rel t) s t (fun x =>
      let len := 6 + b2n tw.isSome
      x.puJump p len 3 tw (fun _ => z) (patternOf 64 ((((x.puBegin p tw).dev.pu p).next len : Int) + rel.toInt)))) ∧
  (∀ (s : State) (p : Fin 4) (tw : Twice) (r : Fin 16) (t : Ticks),
    let st : State := { s with dev := s.dev.at_ t }
    s.dev.acts = true →
    st.puReads p (twicePre tw) (puCode 0x63 0 r) (tw) = true →
    DoesAll (.puJr p tw r t) s t (fun x =>
      x.puJump p (2 + b2n tw.isSome) 3 tw id (((x.puBegin p tw).dev.pu p).get r))) ∧
  (∀ (s : State) (p : Fin 4) (tw : Twice) (r k : Fin 16) (z : State) (t : Ticks),
    let st : State := { s with dev := s.dev.at_ t }
    s.dev.acts = true →
    st.puReads p (twicePre tw) (puCode 0x64 r k) (tw) = true →
    (st.puBegin p tw).puPush p k (fun c => c.next (2 + b2n tw.isSome)) = .inr z →
    DoesAll (.puCallr p tw r k t) s t (fun x =>
      x.puJump p (2 + b2n tw.isSome) 3 tw (fun _ => z) ((z.dev.pu p).get r))) ∧
  (∀ (s : State) (p : Fin 4) (tw : Twice) (k : Fin 16) (v : Nat) (z : State) (t : Ticks),
    let st : State := { s with dev := s.dev.at_ t }
    s.dev.acts = true →
    st.puReads p (twicePre tw) (puCode 0x65 0 k) (tw) = true →
    (st.puBegin p tw).puTop p k = .inr (v, z) →
    DoesAll (.puRet p tw k t) s t (fun x =>
      x.puJump p (2 + b2n tw.isSome) 3 tw (fun _ => z.onPu p (PuCore.popped k)) v)) ∧
  (∀ (s : State) (p : Fin 4) (tw : Twice) (cc : Fin 16) (t : Ticks),
    let st : State := { s with dev := s.dev.at_ t }
    s.dev.acts = true →
    st.puReads p (twicePre tw) ([BitVec.ofNat 8 (0x70 + cc)]) (tw) = true →
    cc ≠ 14 →
    DoesAll (.puSkcc p tw cc t) s t (fun x =>
      x.puSeq p (1 + b2n tw.isSome) 1 tw (fun y => y.onPu p (fun c => { c with skip := c.cond.holds false cc, shadow := true })))) ∧
  (∀ (s : State) (p : Fin 4) (tw : Twice) (t : Ticks),
    let st : State := { s with dev := s.dev.at_ t }
    s.dev.acts = true →
    st.puReads p (twicePre tw) ([BitVec.ofNat 8 (0x70 + 14)]) (tw) = true →
    DoesAll (.puSkcc p tw 14 t) s t (fun x =>
      x.puSeq p (1 + b2n tw.isSome) 1 tw (fun y => ({ y with dev := y.dev.take.2 } : State).onPu p (fun c => { c with skip := Config.freeBool y.dev.take.1, shadow := true })))) ∧
  (∀ (s : State) (p : Fin 4) (tw : Twice) (r k : Fin 16) (t : Ticks),
    let st : State := { s with dev := s.dev.at_ t }
    s.dev.acts = true →
    st.puReads p (twicePre tw) (puCode 0x80 r k) (tw) = true →
    DoesAll (.puMfs p tw r k t) s t (fun x =>
      x.puSeq p (2 + b2n tw.isSome) 1 tw (fun y => y.onPu p (fun c =>
        c.put r (match (k : Nat) with
          | 0 => c.flags | 1 => c.pl.toNat | 2 => c.ph.toNat | 3 => c.tsbp.toNat | 4 => c.tsnap.toNat | 5 => (p : Nat)
          | 6 => c.kwin.toNat | 7 => c.cycles % 2 ^ 64 | 8 => 0x1FF | 9 => 0x0000102018000400 | 10 => 0x31102 | _ => 0))))) ∧
  (∀ (s : State) (p : Fin 4) (r : Fin 16) (t : Ticks),
    let st : State := { s with dev := s.dev.at_ t }
    s.dev.acts = true →
    st.puReads p [] (puCode 0x81 0 r) (none) = true →
    ((st.puBegin p none).dev.pu p).task = false →
    DoesAll (.puMts p 0 r t) s t (fun x =>
      x.puSeq p 2 1 none (fun y => y.onPu p (fun c => { c with c := bitOf ((y.dev.pu p).get r) 0, z := bitOf ((y.dev.pu p).get r) 1, n := bitOf ((y.dev.pu p).get r) 2, v := bitOf ((y.dev.pu p).get r) 3, ie := bitOf ((y.dev.pu p).get r) 4 })))) ∧
  (∀ (s : State) (p : Fin 4) (r : Fin 16) (t : Ticks),
    let st : State := { s with dev := s.dev.at_ t }
    s.dev.acts = true →
    st.puReads p [] (puCode 0x81 1 r) (none) = true →
    DoesAll (.puMts p 1 r t) s t (fun x =>
      x.puSeq p 2 1 none (fun y => y.onPu p (fun c => { c with pl := BitVec.ofNat 64 ((y.dev.pu p).get r) })))) ∧
  (∀ (s : State) (p : Fin 4) (r : Fin 16) (t : Ticks),
    let st : State := { s with dev := s.dev.at_ t }
    s.dev.acts = true →
    st.puReads p [] (puCode 0x81 2 r) (none) = true →
    DoesAll (.puMts p 2 r t) s t (fun x =>
      x.puSeq p 2 1 none (fun y => y.onPu p (fun c => { c with ph := BitVec.ofNat 64 ((y.dev.pu p).get r) })))) ∧
  (∀ (s : State) (p : Fin 4) (r : Fin 16) (t : Ticks),
    let st : State := { s with dev := s.dev.at_ t }
    s.dev.acts = true →
    st.puReads p [] (puCode 0x81 3 r) (none) = true →
    ((st.puBegin p none).dev.pu p).task = false →
    DoesAll (.puMts p 3 r t) s t (fun x =>
      x.puSeq p 2 1 none (fun y => y.onPu p (fun c => { c with tsbp := BitVec.ofNat 64 ((y.dev.pu p).get r) })))) ∧
  (∀ (s : State) (p : Fin 4) (r : Fin 16) (t : Ticks),
    let st : State := { s with dev := s.dev.at_ t }
    s.dev.acts = true →
    st.puReads p [] (puCode 0x81 6 r) (none) = true →
    ((st.puBegin p none).dev.pu p).task = false →
    DoesAll (.puMts p 6 r t) s t (fun x =>
      x.puSeq p 2 1 none (fun y => y.onPu p (fun c => { c with kwin := BitVec.ofNat 64 ((y.dev.pu p).get r % 8192) })))) ∧
  (∀ (s : State) (p : Fin 4) (r : Fin 16) (t : Ticks),
    let st : State := { s with dev := s.dev.at_ t }
    s.dev.acts = true →
    st.puReads p [] (puEscCode 0 r 0) (none) = true →
    (st.puBegin p none).dev.rngUp = true →
    DoesAll (.puRnd p r t) s t (fun x =>
      x.puSeq p 3 40 none (fun y => ({ y with dev := (y.dev.rngRequest p).take.2 } : State).onPu p (fun c => { c with x := c.x.set r (Config.freeWord (y.dev.rngRequest p).take.1) }))))

/-- MOVS, FILS, CMPS, SCNS and CRCS of a purser, KEYWIN among them, and its interrupts and illegal opcodes complete. Of a purser
that executes the instruction: without REP it works on one element; with REP element by element while X12 is not 0, and
where every element passes its checks and no interrupt is taken before it ends it completes in sequence with its cycles;
CMPS to the end sets Z, SCNS that finds nothing clears it; KEYWIN, in supervisor mode and with OPS INJECT, copies at most
512 bytes from purser RAM into the key of the slot that KWIN selects and moves the pointers; an interrupt, with FLAGS.IE and
outside a handler, ends a WAIT and takes the exception, else it ends a WAIT alone; an illegal encoding raises its cause. -/
def Obligations.PurserBlockOperationsComplete : Prop :=
  (∀ (s : State) (p : Fin 4) (x : PuRep) (y : State) (t : Ticks),
    let d := s.dev.at_ t
    let st : State := { s with dev := s.dev.at_ t }
    s.dev.acts = true →
    st.puReads p (x.bytes ++ (if false then [0xF6] else [])) ([0x90]) (none) = true →
    x.rep = true →
    puBlockFuel p (puMovsStep p x.w) id (((st.puBegin p none).dev.pu p).get 12 + 1) (if (d.pu p).shadow then none else x.upTo.map (fun e => (e.1, e.2.val))) (st.puBegin p none) = .seq y →
    DoesAll (.puMovs p x false t) s t (fun y_ =>
      y_.puSeq p (1 + x.w.pre + b2n x.rep) (puBlockCycles (y_.dev.pu p) x 16 true true) none (fun _ => y))) ∧
  (∀ (s : State) (p : Fin 4) (x : PuRep) (y : State) (t : Ticks),
    let st : State := { s with dev := s.dev.at_ t }
    s.dev.acts = true →
    st.puReads p (x.bytes ++ (if false then [0xF6] else [])) ([0x90]) (none) = true →
    x.rep = false →
    puMovsStep p x.w (st.puBegin p none) = .more y →
    DoesAll (.puMovs p x false t) s t (fun y_ =>
      y_.puSeq p (1 + x.w.pre + b2n x.rep) (puBlockCycles (y_.dev.pu p) x 16 true true) none (fun _ => y))) ∧
  (∀ (s : State) (p : Fin 4) (x : PuRep) (y : State) (t : Ticks),
    let d := s.dev.at_ t
    let st : State := { s with dev := s.dev.at_ t }
    s.dev.acts = true →
    st.puReads p x.bytes ([0x91]) (none) = true →
    x.rep = true →
    puBlockFuel p (puFilsStep p x.w) id (((st.puBegin p none).dev.pu p).get 12 + 1) (if (d.pu p).shadow then none else x.upTo.map (fun e => (e.1, e.2.val))) (st.puBegin p none) = .seq y →
    DoesAll (.puFils p x  t) s t (fun y_ =>
      y_.puSeq p (1 + x.w.pre + b2n x.rep) (puBlockCycles (y_.dev.pu p) x 16 false true) none (fun _ => y))) ∧
  (∀ (s : State) (p : Fin 4) (x : PuRep) (y : State) (t : Ticks),
    let st : State := { s with dev := s.dev.at_ t }
    s.dev.acts = true →
    st.puReads p x.bytes ([0x91]) (none) = true →
    x.rep = false →
    puFilsStep p x.w (st.puBegin p none) = .more y →
    DoesAll (.puFils p x  t) s t (fun y_ =>
      y_.puSeq p (1 + x.w.pre + b2n x.rep) (puBlockCycles (y_.dev.pu p) x 16 false true) none (fun _ => y))) ∧
  (∀ (s : State) (p : Fin 4) (x : PuRep) (y : State) (t : Ticks),
    let d := s.dev.at_ t
    let st : State := { s with dev := s.dev.at_ t }
    s.dev.acts = true →
    st.puReads p x.bytes ([0x92]) (none) = true →
    x.rep = true →
    puBlockFuel p (puCmpsStep p x.w) (fun s => s.puZ p true) (((st.puBegin p none).dev.pu p).get 12 + 1) (if (d.pu p).shadow then none else x.upTo.map (fun e => (e.1, e.2.val))) (st.puBegin p none) = .seq y →
    DoesAll (.puCmps p x  t) s t (fun y_ =>
      y_.puSeq p (1 + x.w.pre + b2n x.rep) (puBlockCycles (y_.dev.pu p) x 16 true true) none (fun _ => y))) ∧
  (∀ (s : State) (p : Fin 4) (x : PuRep) (y : State) (t : Ticks),
    let st : State := { s with dev := s.dev.at_ t }
    s.dev.acts = true →
    st.puReads p x.bytes ([0x92]) (none) = true →
    x.rep = false →
    puCmpsStep p x.w (st.puBegin p none) = .more y →
    DoesAll (.puCmps p x  t) s t (fun y_ =>
      y_.puSeq p (1 + x.w.pre + b2n x.rep) (puBlockCycles (y_.dev.pu p) x 16 true true) none (fun _ => (fun q => q.puZ p true) y))) ∧
  (∀ (s : State) (p : Fin 4) (x : PuRep) (y : State) (t : Ticks),
    let d := s.dev.at_ t
    let st : State := { s with dev := s.dev.at_ t }
    s.dev.acts = true →
    st.puReads p x.bytes ([0x93]) (none) = true →
    x.rep = true →
    puBlockFuel p (puScnsStep p x.w) (fun s => s.puZ p false) (((st.puBegin p none).dev.pu p).get 12 + 1) (if (d.pu p).shadow then none else x.upTo.map (fun e => (e.1, e.2.val))) (st.puBegin p none) = .seq y →
    DoesAll (.puScns p x  t) s t (fun y_ =>
      y_.puSeq p (1 + x.w.pre + b2n x.rep) (puBlockCycles (y_.dev.pu p) x 16 true false) none (fun _ => y))) ∧
  (∀ (s : State) (p : Fin 4) (x : PuRep) (y : State) (t : Ticks),
    let st : State := { s with dev := s.dev.at_ t }
    s.dev.acts = true →
    st.puReads p x.bytes ([0x93]) (none) = true →
    x.rep = false →
    puScnsStep p x.w (st.puBegin p none) = .more y →
    DoesAll (.puScns p x  t) s t (fun y_ =>
      y_.puSeq p (1 + x.w.pre + b2n x.rep) (puBlockCycles (y_.dev.pu p) x 16 true false) none (fun _ => (fun q => q.puZ p false) y))) ∧
  (∀ (s : State) (p : Fin 4) (x : PuRep) (r : Fin 16) (y : State) (t : Ticks),
    let d := s.dev.at_ t
    let st : State := { s with dev := s.dev.at_ t }
    s.dev.acts = true →
    st.puReads p x.bytes (puCode 0x94 r 0) (none) = true →
    x.rep = true →
    puBlockFuel p (puCrcsStep p x.w r) id (((st.puBegin p none).dev.pu p).get 12 + 1) (if (d.pu p).shadow then none else x.upTo.map (fun e => (e.1, e.2.val))) (st.puBegin p none) = .seq y →
    DoesAll (.puCrcs p x r t) s t (fun y_ =>
      y_.puSeq p (2 + x.w.pre + b2n x.rep) (puBlockCycles (y_.dev.pu p) x 8 true false) none (fun _ => y))) ∧
  (∀ (s : State) (p : Fin 4) (x : PuRep) (r : Fin 16) (y : State) (t : Ticks),
    let st : State := { s with dev := s.dev.at_ t }
    s.dev.acts = true →
    st.puReads p x.bytes (puCode 0x94 r 0) (none) = true →
    x.rep = false →
    puCrcsStep p x.w r (st.puBegin p none) = .more y →
    DoesAll (.puCrcs p x r t) s t (fun y_ =>
      y_.puSeq p (2 + x.w.pre + b2n x.rep) (puBlockCycles (y_.dev.pu p) x 8 true false) none (fun _ => y))) ∧
  (∀ (s : State) (p : Fin 4) (x : PuRep) (n src dst : Nat) (t : Ticks),
    let d := s.dev.at_ t
    let st : State := { s with dev := s.dev.at_ t }
    s.dev.acts = true →
    st.puReads p (x.bytes ++ (if true then [0xF6] else [])) ([0x90]) (none) = true →
    x.rep = true →
    ((st.puBegin p none).dev.pu p).task = false →
    (d.pu p).get 12 = n ∧ ((st.puBegin p none).dev.pu p).get 12 = n ∧ ((st.puBegin p none).dev.pu p).get 13 = src ∧ ((st.puBegin p none).dev.pu p).get 14 = dst →
    n ≠ 0 ∧ n * x.w.bytes ≤ 512 →
    bitOf ((st.puBegin p none).dev.pu p).kwin.toNat 12 = true →
    ((st.puBegin p none).dev.keyUse (keyhOf (((st.puBegin p none).dev.pu p).kwin.toNat % 4096) ((st.puBegin p none).dev.keySlot (((st.puBegin p none).dev.pu p).kwin.toNat % 4096))) [6] .firmware).isSome = true →
    (st.puBegin p none).puMoveCheck p x.w src n false = none →
    puRam src (n * x.w.bytes) = true ∧ dst + n * x.w.bytes ≤ ((st.puBegin p none).dev.keySlot (((st.puBegin p none).dev.pu p).kwin.toNat % 4096)).key.length →
    DoesAll (.puMovs p x true t) s t (fun y_ =>
      let slot := ((y_.puBegin p none).dev.pu p).kwin.toNat % 4096
      y_.puSeq p (3 + x.w.pre) (20 + (n * x.w.bytes + 7) / 8) none (fun y =>
        (y.onDev (fun d => d.setKeySlot slot { y.dev.keySlot slot with key := overlayB (y.dev.keySlot slot).key dst (memRead y.mem src (n * x.w.bytes)) })).onPu p
          (fun c => ((c.put 12 0).put 13 ((src + n * x.w.bytes) % 2 ^ 64)).put 14 ((dst + n * x.w.bytes) % 2 ^ 64))))) ∧
  (∀ (s : State) (p : Fin 4) (e : Fin 65536) (t : Ticks),
    let d := s.dev.at_ t
    s.dev.acts = true →
    (d.pu p).parked = false ∧ d.flt.chipSafe = false ∧ (d.pu p).shadow = false ∧ (d.pu p).skip = false ∧ (d.pu p).notice = false →
    (d.pu p).ie = true ∧ (d.pu p).handler = false →
    DoesAll (.puInterrupt p e t) s t (fun x =>
      (x.onPu p (fun c => { c with waiting := false })).puInterruptNow p e)) ∧
  (∀ (s : State) (p : Fin 4) (n : Fin 15) (k : Fin 4) (t : Ticks),
    let st : State := { s with dev := s.dev.at_ t }
    s.dev.acts = true →
    st.puReady p (1 + n) (none) = true →
    (st.dev.pu p).running.isNone = true ∨ puIllegal (memRead st.mem (st.dev.pu p).pc.toNat 15) = some (1 + n.val, 1 + k.val) →
    DoesAll (.puIllegalOpcode p n k t) s t (fun x =>
      (x.puBegin p none).puFault p { cause := 1 + k }))

/-- The services of SVC, the end of a wait, ENABLE and the time slice of a task, FETCH_FAULT and IMPRECISE_NOTICE complete. Of a
task on a purser: YIELD saves it READY, EXIT stops it with its code and raises TASK_EXITED, WAIT returns a notification or
signal that has arrived or a deadline that has passed and else waits, OAP answers with the message and its length,
SIGNAL_LANE sets the soft event of a listed lane, EVENT raises TASK_EVENT, RANDOM fills an allowed buffer, and another code
faults the task. A waiting task whose deadline passes becomes ready; ENABLE starts and stops a task; a slice that ends saves
the running task READY; a fetch that its checks deny faults; a store's failure is noted as imprecise and its core gets a
notice. -/
def Obligations.TaskServicesComplete : Prop :=
  (∀ (s : State) (p : Fin 4) (k : Nat) (t : Ticks),
    let st : State := { s with dev := s.dev.at_ t }
    s.dev.acts = true →
    st.puReads p [] ([0x04, 0x00]) (none) = true →
    ((st.puBegin p none).dev.pu p).running = some k →
    DoesAll (.svcYield p t) s t (fun x =>
      (((x.puCalls p).svcReturn p none false).taskLeave p k .ready { cause := 0x40 }).schedule p)) ∧
  (∀ (s : State) (p : Fin 4) (k : Nat) (t : Ticks),
    let st : State := { s with dev := s.dev.at_ t }
    s.dev.acts = true →
    st.puReads p [] ([0x04, 0x01]) (none) = true →
    ((st.puBegin p none).dev.pu p).running = some k →
    DoesAll (.svcExit p t) s t (fun x =>
      let y := x.puCalls p
      let code := (y.dev.pu p).get 0
      ((y.taskLeave p k .stopped { cause := 0x40, imm := 1 }).onDev (fun d => (d.set Od.tst_EXIT_CODE k code).raise (192 + p) 0x12 k [(code : Int)])).schedule p)) ∧
  (∀ (s : State) (p : Fin 4) (k : Nat) (t : Ticks),
    let st : State := { s with dev := s.dev.at_ t }
    s.dev.acts = true →
    st.puReads p [] ([0x04, 0x02]) (none) = true →
    ((st.puBegin p none).dev.pu p).running = some k →
    (((st.puCalls p).dev.task k).signalled &&& (((st.puCalls p).dev.pu p).get 0 % 8)) ≠ 0 →
    DoesAll (.svcWait p t) s t (fun x =>
      let y := x.puCalls p
      let bit := if bitOf ((y.dev.task k).signalled &&& ((y.dev.pu p).get 0 % 8)) 1 then 2 else 4
      ((y.onDev (fun d => d.onTask k (fun e => { e with signalled := e.signalled - bit }))).svcReturn p (some bit) false).svcResume p k 2)) ∧
  (∀ (s : State) (p : Fin 4) (k : Nat) (t : Ticks),
    let st : State := { s with dev := s.dev.at_ t }
    s.dev.acts = true →
    st.puReads p [] ([0x04, 0x02]) (none) = true →
    ((st.puBegin p none).dev.pu p).running = some k →
    (((st.puCalls p).dev.task k).signalled &&& (((st.puCalls p).dev.pu p).get 0 % 8)) = 0 →
    bitOf (((st.puCalls p).dev.pu p).get 0 % 8) 0 = true ∧ (st.puCalls p).dev.now + signedOf 64 (((st.puCalls p).dev.pu p).get 1) ≤ (st.puCalls p).dev.now →
    DoesAll (.svcWait p t) s t (fun x =>
      ((x.puCalls p).svcReturn p (some 1) false).svcResume p k 2)) ∧
  (∀ (s : State) (p : Fin 4) (k : Nat) (t : Ticks),
    let st : State := { s with dev := s.dev.at_ t }
    s.dev.acts = true →
    st.puReads p [] ([0x04, 0x02]) (none) = true →
    ((st.puBegin p none).dev.pu p).running = some k →
    (((st.puCalls p).dev.task k).signalled &&& (((st.puCalls p).dev.pu p).get 0 % 8)) = 0 →
    bitOf (((st.puCalls p).dev.pu p).get 0 % 8) 0 = false ∨ (st.puCalls p).dev.now < (st.puCalls p).dev.now + signedOf 64 (((st.puCalls p).dev.pu p).get 1) →
    DoesAll (.svcWait p t) s t (fun x =>
      let y := x.puCalls p
      let until_ := y.dev.now + signedOf 64 ((y.dev.pu p).get 1)
      ((y.onDev (fun d => d.onTask k (fun e => { e with waitMask := (y.dev.pu p).get 0 % 8, waitUntil := until_ }))).taskLeave p k .waiting { cause := 0x40, imm := 2 }).schedule p)) ∧
  (∀ (s : State) (p : Fin 4) (k : Nat) (t : Ticks),
    let st : State := { s with dev := s.dev.at_ t }
    s.dev.acts = true →
    st.puReads p [] ([0x04, 0x04]) (none) = true →
    ((st.puBegin p none).dev.pu p).running = some k →
    ((st.puCalls p).dev.pu p).get 0 < 128 →
    (List.range 4).any (fun i => (st.puCalls p).dev.cfgAt Od.tsk_LANES i k = ((((st.puCalls p).dev.pu p).get 0 : Nat) : Int)) = true →
    DoesAll (.signalLane p t) s t (fun x =>
      let y := x.puCalls p
      ((y.onDev (fun d => d.onLane ((y.dev.pu p).get 0) (fun e => { e with soft := true }))).svcReturn p none false).svcResume p k 4)) ∧
  (∀ (s : State) (p : Fin 4) (k : Nat) (t : Ticks),
    let st : State := { s with dev := s.dev.at_ t }
    s.dev.acts = true →
    st.puReads p [] ([0x04, 0x05]) (none) = true →
    ((st.puBegin p none).dev.pu p).running = some k →
    DoesAll (.taskEvent p t) s t (fun x =>
      let y := x.puCalls p
      let v := (y.dev.pu p).get 0
      ((y.onDev (fun d => d.raise (192 + p) 0x110 k [((v % 2 ^ 32 : Nat) : Int), ((v / 2 ^ 32 : Nat) : Int)])).svcReturn p none false).svcResume p k 5)) ∧
  (∀ (s : State) (p : Fin 4) (a n : Nat) (k : Nat) (t : Ticks),
    let st : State := { s with dev := s.dev.at_ t }
    s.dev.acts = true →
    st.puReads p [] ([0x04, 0x06]) (none) = true →
    ((st.puBegin p none).dev.pu p).running = some k →
    ((st.puCalls p).dev.pu p).get 0 = a ∧ ((st.puCalls p).dev.pu p).get 1 = n ∧ 1 ≤ n ∧ n ≤ 256 →
    (puRam a n || inPierBuffer a n) = true ∧ (st.puCalls p).dev.rngUp = true →
    acuCheck ((st.puCalls p).dev.acu (puMaster p)).regions a (a + n - 1) .write true = none →
    DoesAll (.svcRandom p t) s t (fun x =>
      let y := x.puCalls p
      ({ y with dev := (y.dev.drawFrom (27 + p) n).2, mem := memWrite y.mem a (y.dev.drawFrom (27 + p) n).1 }.svcReturn p none false).svcResume p k 6)) ∧
  (∀ (s : State) (p : Fin 4) (c : Fin 256) (k : Nat) (t : Ticks),
    let st : State := { s with dev := s.dev.at_ t }
    s.dev.acts = true →
    st.puReads p [] ([0x04, BitVec.ofNat 8 c]) (none) = true →
    ((st.puBegin p none).dev.pu p).running = some k →
    6 < (c : Nat) →
    DoesAll (.svcOtherCode p c t) s t (fun x =>
      (x.puCalls p).taskFaulted p k { cause := 0x40, imm := c })) ∧
  (∀ (s : State) (p : Fin 4) (env : WriteEnv) (a n out cap : Nat) (m : Bytes) (r : OapReply) (z : State) (k : Nat) (t : Ticks),
    let st : State := { s with dev := s.dev.at_ t }
    s.dev.acts = true →
    st.puReads p [] ([0x04, 0x03]) (none) = true →
    ((st.puBegin p none).dev.pu p).running = some k →
    ((st.puCalls p).dev.pu p).get 0 = a ∧ ((st.puCalls p).dev.pu p).get 1 = n ∧ ((st.puCalls p).dev.pu p).get 2 = out ∧ ((st.puCalls p).dev.pu p).get 3 = cap →
    16 ≤ n ∧ n ≤ 16384 ∧ 16 ≤ cap →
    (puRam a n || inPierBuffer a n) = true ∧ (acuCheck ((st.puCalls p).dev.acu (puMaster p)).regions a (a + n - 1) .read true).isNone = true →
    (puRam out cap || inPierBuffer out cap) = true ∧ (acuCheck ((st.puCalls p).dev.acu (puMaster p)).regions out (out + cap - 1) .write true).isNone = true →
    m = memRead (st.puCalls p).mem a n →
    oapForm m = 0 →
    serveAny env (oapHead m).op (st.puCalls p) { req := mailboxReq + 1 + k, id := (oapHead m).id, role := (st.puCalls p).dev.requesterRole (mailboxReq + 1 + k), count := (oapHead m).count, body := m.drop 16, room := cap - 16 } = (some r, z) →
    (z.dev.pu p).running = some k →
    (oapMessage ((oapHead m).op + 0x80) (oapHead m).id r).length ≤ cap →
    DoesAll (.svcOap p env t) s t (fun _ =>
      ({ z with mem := memWrite z.mem out (oapMessage ((oapHead m).op + 0x80) (oapHead m).id r) }.svcReturn p (some (oapMessage ((oapHead m).op + 0x80) (oapHead m).id r).length) false).svcResume p k 3)) ∧
  (∀ (s : State) (k : Fin 16) (t : Ticks),
    let d := s.dev.at_ t
    s.dev.acts = true →
    (d.task k).state = .waiting ∧ bitOf (d.task k).waitMask 0 = true →
    (d.task k).waitUntil ≤ d.now →
    d.flt.chipSafe = false →
    DoesAll (.svcWaitTimeout k t) s t (fun x =>
      x.endWait k 1)) ∧
  (∀ (s : State) (k : Fin 16) (t : Ticks),
    let d := s.dev.at_ t
    s.dev.acts = true →
    d.flt.chipSafe = false →
    d.isStandby = false →
    DoesAll (.taskEnable k false t) s t (fun x =>
      x.taskStop k)) ∧
  (∀ (s : State) (k : Fin 16) (z : State) (t : Ticks),
    let d := s.dev.at_ t
    let st : State := { s with dev := s.dev.at_ t }
    s.dev.acts = true →
    d.flt.chipSafe = false →
    d.isStandby = false →
    (d.task k).state = .off →
    st.taskStart k = (0, z) →
    DoesAll (.taskEnable k true t) s t (fun _ =>
      z)) ∧
  (∀ (s : State) (p : Fin 4) (share : Bool) (k : Nat) (t : Ticks),
    let d := s.dev.at_ t
    s.dev.acts = true →
    (d.pu p).parked = false ∧ d.flt.chipSafe = false ∧ (d.pu p).shadow = false ∧ (d.pu p).skip = false →
    (d.pu p).running = some k →
    DoesAll (.taskSlice p share t) s t (fun x =>
      let y := x.taskLeave p k .ready { cause := 0x41 }
      if share then y else y.schedule p)) ∧
  (∀ (s : State) (n : Fin 128) (t : Ticks),
    let d := s.dev.at_ t
    s.dev.acts = true →
    d.dhRuns n = true ∧ (d.dh n).skip = false →
    (d.lane n).code.length ≤ (d.dh n).pc.toNat →
    DoesAll (.fetchFault (.lane n) t) s t (fun x =>
      (x.dhFresh n).dhTake n { cause := 0x23, addr := (x.dev.dh n).pc.toNat })) ∧
  (∀ (s : State) (p : Fin 4) (f : CoreFault) (z : State) (t : Ticks),
    let d := s.dev.at_ t
    let st : State := { s with dev := s.dev.at_ t }
    s.dev.acts = true →
    d.puRuns p = true ∧ (d.pu p).skip = false →
    st.puFetch p 1 = some (z, f) →
    DoesAll (.fetchFault (.purser p) t) s t (fun _ =>
      (z.onPu p (fun c => { c with shadow := false })).puFault p f)) ∧
  (∀ (s : State) (m : Fin 174) (a c : Nat) (t : Ticks),
    s.dev.acts = true →
    140 ≤ (m : Nat) →
    Does (.impreciseNotice m (some (a, c)) t) s t (fun d => d.noteImprecise m a c)) ∧
  (∀ (s : State) (m : Fin 174) (a c : Nat) (t : Ticks),
    let d := s.dev.at_ t
    s.dev.acts = true →
    136 ≤ (m : Nat) ∧ (m : Nat) < 140 →
    (d.acu m).impValid = false →
    Does (.impreciseNotice m (some (a, c)) t) s t (fun d => (d.noteImprecise m a c).onPu (m - 136) (fun c => { c with notice := true })))

/-- The cipher core commands (lock, key handle, load, the five modes, job end, self-test, hold limit, enable) complete. On a
device that acts: one write of CIP_LOCK by an admitted user takes a free core, the holder's zero gives an idle one back;
KEYH of a slot that the holder may use starts the load, and a loaded key is usable with its limit; START in one of the five
modes latches the job's operands, sets BUSY and clears DONE; a job of GCM seal or CTR that ends puts its output in the pier
buffer, counts the job and sets DONE with result 0; a self-test failure of a free core raises event 2 and asks for its
pier's retirement with cause 4; a lock held past the limit raises event 3 once; ENABLE is written, and OFF gives an idle
locked core back. -/
def Obligations.CipherCoresComplete : Prop :=
  (∀ (s : State) (c : Fin 68) (who : Nat) (t : Ticks),
    let d := s.dev.at_ t
    s.dev.acts = true →
    who ≠ 0 →
    (d.core c).user = 0 →
    d.coreAdmits c who = true →
    Does (.cipLock c [(who, who)] t) s t (fun d => d.setCore c { d.core c with user := who, lockedAt := d.now, heldRaised := false, result := 0 })) ∧
  (∀ (s : State) (c : Fin 68) (who : Nat) (t : Ticks),
    let d := s.dev.at_ t
    s.dev.acts = true →
    who ≠ 0 →
    (d.core c).user = who →
    (d.core c).releasing = false ∧ (d.core c).busy = false →
    Does (.cipLock c [(who, 0)] t) s t (fun d => d.setCore c { result := (d.core c).result })) ∧
  (∀ (s : State) (c : Fin 68) (user : Nat) (keyh : Word32) (j : Nat) (k : KeySlot) (t : Ticks),
    let d := s.dev.at_ t
    s.dev.acts = true →
    d.coreTakes c user = true →
    keyh ≠ 0 →
    d.keyUse keyh.toNat [0, 1] (keyUserOf (d.core c).user) = some (j, k) →
    k.type = 1 ∨ k.type = 2 →
    Does (.cipKeyh c user keyh t) s t (fun d => d.setCore c { d.core c with key := none, keySource := 0, keyh := 0, loading := some keyh.toNat })) ∧
  (∀ (s : State) (c : Fin 68) (h j : Nat) (k : KeySlot) (t : Ticks),
    let d := s.dev.at_ t
    s.dev.acts = true →
    (d.core c).loading = some h →
    d.keyUse h [0, 1] (keyUserOf (d.core c).user) = some (j, k) →
    (d.core c).waitsKey = false →
    Does (.cipKeyLoaded c t) s t (fun d => d.setCore c { d.core c with key := some k.key, keySource := 2, keyh := h, loading := none, uses := 0, useLimit := k.useLimit, ivLocked := false, ivExhausted := false })) ∧
  (∀ (s : State) (c : Fin 68) (user : Nat) (ctrl : Word32) (t : Ticks),
    let d := s.dev.at_ t
    s.dev.acts = true →
    d.coreTakes c user = true →
    (d.core c).busy = false ∧ (d.core c).loading = none →
    bitsOf ctrl.toNat 2 0 = 1 ∧ bitOf ctrl.toNat 31 = true →
    Does (.cipGcmSeal c user ctrl t) s t (fun d =>
      let v := ctrl.toNat
      let x := { d.core c with mode := 1, key256 := bitOf v 3, ctrWidth := bitsOf v 5 4, ivAuto := bitOf v 6, tagLen := bitsOf v 12 8 }
      let j : CipherJob := { mode := 1, key256 := x.key256, ctrWidth := x.ctrWidth, ivAuto := x.ivAuto, tagLen := x.tagLen, aadAddr := x.aadAddr, aadLen := x.aadLen, src := x.src, dst := x.dst, len := x.len, tagAddr := x.tagAddr, iv := x.iv }
      (d.setCore c { x with busy := true, done := false, job := some j, waitsKey := false }).beginJob c)) ∧
  (∀ (s : State) (c : Fin 68) (user : Nat) (ctrl : Word32) (t : Ticks),
    let d := s.dev.at_ t
    s.dev.acts = true →
    d.coreTakes c user = true →
    (d.core c).busy = false ∧ (d.core c).loading = none →
    bitsOf ctrl.toNat 2 0 = 2 ∧ bitOf ctrl.toNat 31 = true →
    Does (.cipGcmOpen c user ctrl t) s t (fun d =>
      let v := ctrl.toNat
      let x := { d.core c with mode := 2, key256 := bitOf v 3, ctrWidth := bitsOf v 5 4, ivAuto := bitOf v 6, tagLen := bitsOf v 12 8 }
      let j : CipherJob := { mode := 2, key256 := x.key256, ctrWidth := x.ctrWidth, ivAuto := x.ivAuto, tagLen := x.tagLen, aadAddr := x.aadAddr, aadLen := x.aadLen, src := x.src, dst := x.dst, len := x.len, tagAddr := x.tagAddr, iv := x.iv }
      (d.setCore c { x with busy := true, done := false, job := some j, waitsKey := false }).beginJob c)) ∧
  (∀ (s : State) (c : Fin 68) (user : Nat) (ctrl : Word32) (t : Ticks),
    let d := s.dev.at_ t
    s.dev.acts = true →
    d.coreTakes c user = true →
    (d.core c).busy = false ∧ (d.core c).loading = none →
    bitsOf ctrl.toNat 2 0 = 3 ∧ bitOf ctrl.toNat 31 = true →
    Does (.cipCtr c user ctrl t) s t (fun d =>
      let v := ctrl.toNat
      let x := { d.core c with mode := 3, key256 := bitOf v 3, ctrWidth := bitsOf v 5 4, ivAuto := bitOf v 6, tagLen := bitsOf v 12 8 }
      let j : CipherJob := { mode := 3, key256 := x.key256, ctrWidth := x.ctrWidth, ivAuto := x.ivAuto, tagLen := x.tagLen, aadAddr := x.aadAddr, aadLen := x.aadLen, src := x.src, dst := x.dst, len := x.len, tagAddr := x.tagAddr, iv := x.iv }
      (d.setCore c { x with busy := true, done := false, job := some j, waitsKey := false }).beginJob c)) ∧
  (∀ (s : State) (c : Fin 68) (user : Nat) (ctrl : Word32) (t : Ticks),
    let d := s.dev.at_ t
    s.dev.acts = true →
    d.coreTakes c user = true →
    (d.core c).busy = false ∧ (d.core c).loading = none →
    bitsOf ctrl.toNat 2 0 = 4 ∧ bitOf ctrl.toNat 31 = true →
    Does (.cipCmacGen c user ctrl t) s t (fun d =>
      let v := ctrl.toNat
      let x := { d.core c with mode := 4, key256 := bitOf v 3, ctrWidth := bitsOf v 5 4, ivAuto := bitOf v 6, tagLen := bitsOf v 12 8 }
      let j : CipherJob := { mode := 4, key256 := x.key256, ctrWidth := x.ctrWidth, ivAuto := x.ivAuto, tagLen := x.tagLen, aadAddr := x.aadAddr, aadLen := x.aadLen, src := x.src, dst := x.dst, len := x.len, tagAddr := x.tagAddr, iv := x.iv }
      (d.setCore c { x with busy := true, done := false, job := some j, waitsKey := false }).beginJob c)) ∧
  (∀ (s : State) (c : Fin 68) (user : Nat) (ctrl : Word32) (t : Ticks),
    let d := s.dev.at_ t
    s.dev.acts = true →
    d.coreTakes c user = true →
    (d.core c).busy = false ∧ (d.core c).loading = none →
    bitsOf ctrl.toNat 2 0 = 5 ∧ bitOf ctrl.toNat 31 = true →
    Does (.cipCmacVerify c user ctrl t) s t (fun d =>
      let v := ctrl.toNat
      let x := { d.core c with mode := 5, key256 := bitOf v 3, ctrWidth := bitsOf v 5 4, ivAuto := bitOf v 6, tagLen := bitsOf v 12 8 }
      let j : CipherJob := { mode := 5, key256 := x.key256, ctrWidth := x.ctrWidth, ivAuto := x.ivAuto, tagLen := x.tagLen, aadAddr := x.aadAddr, aadLen := x.aadLen, src := x.src, dst := x.dst, len := x.len, tagAddr := x.tagAddr, iv := x.iv }
      (d.setCore c { x with busy := true, done := false, job := some j, waitsKey := false }).beginJob c)) ∧
  (∀ (s : State) (c : Fin 68) (blocks r : Nat) (t : Ticks) (j : CipherJob) (aad : Bytes) (out tag : Option Bytes) (iv : Bytes),
    let d := s.dev.at_ t
    s.dev.acts = true →
    (d.core c).job = some j →
    (d.core c).busy = true ∧ (d.core c).waitsKey = false ∧ (d.core c).aborting = false →
    aad = (if j.mode = 1 ∨ j.mode = 2 then memRead s.mem (coreBuf c j.aadAddr) j.aadLen else []) →
    jobOutput j j.key (memRead s.mem (coreBuf c j.src) j.len) aad (memRead s.mem (coreBuf c j.tagAddr) j.tagLen) = (r, out, tag, iv) →
    Does (.cipherJobDone c blocks false t) s t (fun d =>
      let put (y : Dev) (a : Nat) (b : Option Bytes) : Dev := match b with
        | some b => { y with bufOut := y.bufOut ++ [.put (coreBuf c a) b] }
        | none => y
      let d1 := ((put (put d j.dst out) j.tagAddr tag).setCore c ((d.core c).afterJob j r iv)).bump Od.cip_JOBS c
      let d2 := (if r = 0 then d1.bump Od.cip_BYTES c j.len else d1.bump Od.cip_TAG_FAILS c).endJob c r
      if (d2.core c).closing then d2.releaseCore c else d2)) ∧
  (∀ (s : State) (c : Fin 68) (t : Ticks),
    let d := s.dev.at_ t
    s.dev.acts = true →
    (d.core c).user = 0 →
    Does (.cipherSelftest c false t) s t (fun d =>
      let d1 := d.raise 24 2 c
      { d1 with flt.todo := d1.flt.todo ++ [.pier (c / 4) 4] })) ∧
  (∀ (s : State) (c : Fin 68) (t : Ticks),
    let d := s.dev.at_ t
    s.dev.acts = true →
    limitedUser (d.core c).user = true ∧ (d.core c).heldRaised = false →
    (d.core c).lockedAt + d.cfg Od.cic_LOCK_HOLD_LIMIT (c / 4) < d.now →
    Does (.cipherLockHeld c t) s t (fun d => (d.setCore c { d.core c with heldRaised := true }).raise 24 3 c [((d.core c).user : Int)])) ∧
  (∀ (s : State) (c : Fin 68) (t : Ticks),
    let d := s.dev.at_ t
    s.dev.acts = true →
    d.flt.chipSafe = false →
    d.isStandby = false →
    Does (.cipherEnable c true t) s t (fun d => d.set Od.cip_ENABLE c 1)) ∧
  (∀ (s : State) (c : Fin 68) (t : Ticks),
    let d := s.dev.at_ t
    s.dev.acts = true →
    d.flt.chipSafe = false →
    d.isStandby = false →
    ((d.set Od.cip_ENABLE c 0).core c).user ≠ 0 ∧ ((d.set Od.cip_ENABLE c 0).core c).busy = false →
    Does (.cipherEnable c false t) s t (fun d => (d.set Od.cip_ENABLE c 0).setCore c { result := ((d.set Od.cip_ENABLE c 0).core c).result }))

/-- The hash ring commands: producer and consumer indexes, configuration, the six job kinds, their end and the self-test
complete. On a device that acts: JQ_TAIL that leaves room moves the producer index, CQ_HEAD within the finished jobs the
consumer index; RING_CFG with VALID and sizes 4 to 12 starts a ring empty; the next job of a valid ring whose descriptor is
well formed, with its input and its key, is taken and runs: SHA-256, HMAC, HKDF-Extract and HKDF-Expand answer their
functions of input and key, SLH_SIGN a signature of the stated length and SLH_VERIFY whether the signature verifies; a job
that ends leaves the queue of running ones, puts its output in place, counts, and writes its completion record; a core that
fails its self-test is retired and event 0x10 is raised. -/
def Obligations.HashRingsComplete : Prop :=
  (∀ (s : State) (r : Fin 8) (pos : Word32) (n : Nat) (t : Ticks),
    let d := s.dev.at_ t
    s.dev.acts = true →
    (d.hring r).valid = true →
    ringAhead (d.hring r).jobLog2 (d.hring r).jobTail (pos.toNat % 2 ^ 17) = some n →
    n ≤ 2 ^ (d.hring r).jobLog2 - ((d.hring r).jobTail - (d.hring r).jobHead) →
    Does (.hshJqTail r pos t) s t (fun d => d.setHring r { d.hring r with jobTail := (d.hring r).jobTail + n })) ∧
  (∀ (s : State) (r : Fin 8) (pos : Word32) (n : Nat) (t : Ticks),
    let d := s.dev.at_ t
    s.dev.acts = true →
    (d.hring r).valid = true →
    ringAhead (d.hring r).cplLog2 (d.hring r).cplHead (pos.toNat % 2 ^ 17) = some n →
    n ≤ (d.hring r).cplTail - (d.hring r).cplHead →
    Does (.hshCqHead r pos t) s t (fun d => d.setHring r { d.hring r with cplHead := (d.hring r).cplHead + n })) ∧
  (∀ (s : State) (r : Fin 8) (v : Word32) (tags : List Nat) (t : Ticks),
    let d := s.dev.at_ t
    s.dev.acts = true →
    (d.hring r).valid = false →
    bitOf v.toNat 31 = true →
    4 ≤ bitsOf v.toNat 3 0 ∧ bitsOf v.toNat 3 0 ≤ 12 ∧ 4 ≤ bitsOf v.toNat 11 8 ∧ bitsOf v.toNat 11 8 ≤ 12 →
    (r : Nat) ≠ 5 ∧ (r : Nat) ≠ 6 →
    ((r : Nat) = 7 → d.inWindow 0 (d.hring r).jobBase (64 * 2 ^ bitsOf v.toNat 3 0) = true ∧ d.inWindow 0 (d.hring r).cplBase (16 * 2 ^ bitsOf v.toNat 11 8) = true) →
    Does (.hshRingCfg r v tags t) s t (fun d =>
      d.setHring r { d.hring r with valid := true, jobLog2 := bitsOf v.toNat 3 0, cplLog2 := bitsOf v.toNat 11 8, jobTail := 0, jobHead := 0, cplTail := 0, cplHead := 0 })) ∧
  (∀ (s : State) (r : Fin 8) (f g : HashFetch) (m k : Bytes) (j : Nat) (t : Ticks),
    let d := s.dev.at_ t
    s.dev.acts = true →
    g = d.hashFetch (memRead s.mem) r f →
    d.hashReady r 1 g = true →
    g.input = some m →
    (d.hashTaken r).hashKey r 1 (leAt g.desc 2 1) (leAt g.desc 4 4) g.aux = .inr (k, j) →
    Does (.hashSha256 r f t) s t (fun d => (d.hashTaken r).hashRuns r 1 g 0 (sha256 m) (shaCount m.length))) ∧
  (∀ (s : State) (r : Fin 8) (f g : HashFetch) (m k : Bytes) (j : Nat) (t : Ticks),
    let d := s.dev.at_ t
    s.dev.acts = true →
    g = d.hashFetch (memRead s.mem) r f →
    d.hashReady r 2 g = true →
    g.input = some m →
    (d.hashTaken r).hashKey r 2 (leAt g.desc 2 1) (leAt g.desc 4 4) g.aux = .inr (k, j) →
    Does (.hashHmac r f t) s t (fun d => (d.hashTaken r).hashRuns r 2 g 0 (hmac k m) (hmacCount k.length m.length))) ∧
  (∀ (s : State) (r : Fin 8) (f g : HashFetch) (m k : Bytes) (j : Nat) (t : Ticks),
    let d := s.dev.at_ t
    s.dev.acts = true →
    g = d.hashFetch (memRead s.mem) r f →
    d.hashReady r 3 g = true →
    g.input = some m →
    (d.hashTaken r).hashKey r 3 (leAt g.desc 2 1) (leAt g.desc 4 4) g.aux = .inr (k, j) →
    Does (.hkdfExtract r f t) s t (fun d => (d.hashTaken r).hashRuns r 3 g 0 (hkdfExtract k m) (hmacCount k.length m.length))) ∧
  (∀ (s : State) (r : Fin 8) (f g : HashFetch) (m k : Bytes) (j : Nat) (t : Ticks),
    let d := s.dev.at_ t
    s.dev.acts = true →
    g = d.hashFetch (memRead s.mem) r f →
    d.hashReady r 4 g = true →
    g.input = some m →
    (d.hashTaken r).hashKey r 4 (leAt g.desc 2 1) (leAt g.desc 4 4) g.aux = .inr (k, j) →
    Does (.hkdfExpand r f t) s t (fun d => (d.hashTaken r).hashRuns r 4 g 0 (hkdfExpand k m (leAt g.desc 40 4)) ((leAt g.desc 40 4 + 31) / 32 * hmacCount k.length (m.length + 33)))) ∧
  (∀ (s : State) (r : Fin 8) (f g : HashFetch) (m k : Bytes) (j : Nat) (t : Ticks),
    let d := s.dev.at_ t
    s.dev.acts = true →
    g = d.hashFetch (memRead s.mem) r f →
    d.hashReady r 5 g = true →
    g.input = some m →
    (d.hashTaken r).hashKey r 5 (leAt g.desc 2 1) (leAt g.desc 4 4) g.aux = .inr (k, j) →
    bitOf (leAt g.desc 2 1) 3 = true →
    Does (.slhSign r f true t) s t (fun d =>
      let d1 := (d.hashTaken r).countUse j
      let p := leAt g.desc 1 1
      d1.take.2.hashRuns r 5 g 0 (padTo (leAt g.desc 40 4) ((Config.pkSign (100 * (p % 4) + 1) k (slhMessage p m)).take (leAt g.desc 40 4))) (Config.freeNat d1.take.1 % ((if p % 4 = 1 then 2250000 else 125000) + 1)))) ∧
  (∀ (s : State) (r : Fin 8) (f g : HashFetch) (m k : Bytes) (j : Nat) (t : Ticks),
    let d := s.dev.at_ t
    s.dev.acts = true →
    g = d.hashFetch (memRead s.mem) r f →
    d.hashReady r 6 g = true →
    g.input = some m →
    (d.hashTaken r).hashKey r 6 (leAt g.desc 2 1) (leAt g.desc 4 4) g.aux = .inr (k, j) →
    g.aux.isSome = true ∧ (bitOf (leAt g.desc 2 1) 4 = true → g.pk.isSome = true) →
    Does (.slhVerify r f true t) s t (fun d =>
      let d1 := d.hashTaken r
      let p := leAt g.desc 1 1
      let key := if bitOf (leAt g.desc 2 1) 4 then g.pk.getD [] else k
      d1.take.2.hashRuns r 6 g (if Config.pkVerify (p % 4) key (slhMessage p m) (g.aux.getD []) then 0 else 1) [] (Config.freeNat d1.take.1 % ((if p % 4 = 1 then 2500 else 7500) + 1)))) ∧
  (∀ (s : State) (i : Nat) (j : HashJob) (t : Ticks),
    let d := s.dev.at_ t
    s.dev.acts = true →
    d.cry.hash.running[i]? = some j →
    j.status = 0 ∧ j.outKeyh = none ∧ j.op < 5 →
    j.out ≠ [] ∧ j.ring ≠ 7 →
    Does (.hashJobDone i t) s t (fun d =>
      ({ d with cry.hash.running := d.cry.hash.running.eraseIdx i, bufOut := d.bufOut ++ [.put j.outAddr j.out] } : Dev).hashRecord j.ring j.tag 0 j.compressions)) ∧
  (∀ (s : State) (n : Fin 48) (t : Ticks),
    let d := s.dev.at_ t
    s.dev.acts = true →
    (n : Nat) ∉ d.cry.hash.retired →
    Does (.hashSelftest n false t) s t (fun d =>
      (({ d with cry.hash.retired := insSorted (fun x => (x : Int)) n d.cry.hash.retired } : Dev).bump Od.hsh_CORES_IN_SERVICE 0 (-1)).raise 24 0x10 n))

/-- The bignum unit's lock, slots and thirteen commands and the BN_JOB object complete. On a device that acts: a purser takes
the free unit and its zero gives it back with the queue discarded; the holder writes a slot word that is free of conflicts;
the command at the head of the queue, its slots valid, of one size and its modulus prepared, leaves the queue with result 0
and is counted: ADD, SUB and EXP work modulo the modulus on operands below it (EXP's exponent is free), MUL, TO_MONT and
FROM_MONT in Montgomery form, INV gives the inverse where there is one, EXP_BLIND adds a random multiple to the exponent,
COPY copies, SET_MOD prepares an odd modulus, RANDOM draws a value from 1 to the modulus less 1, LOAD_KEY and STORE_KEY move
a key between a slot of the key store and a secret operand; BN_JOB accepts a request of full length while none runs, and its
end gives the power modulo an odd modulus. -/
def Obligations.BignumUnitCompletes : Prop :=
  (∀ (s : State) (u : Nat) (t : Ticks),
    let d := s.dev.at_ t
    s.dev.acts = true →
    d.bgn.user = 0 →
    0x100 ≤ u ∧ u ≤ 0x103 →
    Does (.bgnLock [(u, u)] t) s t (fun d => d.onBgn (fun b => { b with user := u }))) ∧
  (∀ (s : State) (u : Nat) (t : Ticks),
    let d := s.dev.at_ t
    s.dev.acts = true →
    d.bgn.user = u ∧ u ≠ 0 →
    Does (.bgnLock [(u, 0)] t) s t (fun d => d.onBgn (fun b => { b with user := 0, queue := [], mem := [], slots := [], cache := [] }))) ∧
  (∀ (s : State) (u : Nat) (i : Fin 64) (v : Word32) (w : Nat) (t : Ticks),
    let d := s.dev.at_ t
    s.dev.acts = true →
    d.bgn.user = u ∧ u ≠ 0 →
    w = v.toNat % 2 ^ 17 - (if bitOf v.toNat 11 then 2048 else 0) →
    d.bgn.queue = [] ∧ slotCode w ≤ 4 ∧ slotBase w + slotBytes w ≤ 131072 →
    d.bgn.slots.any (fun e => decide (e.1 ≠ (i : Nat)) && slotsOverlap e.2 w) = false →
    Does (.bgnSlot u i v t) s t (fun d => d.onBgn (fun b => { b with slots := b.slots.put 0 i w, cache := b.cache.filter (fun e => e.1 ≠ (i : Nat)) }))) ∧
  (∀ (s : State) (c : BgnCmd) (t : Ticks),
    let d := s.dev.at_ t
    s.dev.acts = true →
    d.bgnTakes 1 c [c.dst, c.a, c.b, c.m] (some c.m) = true →
    d.bgn.value c.a < d.bgn.modulus c.m ∧ d.bgn.value c.b < d.bgn.modulus c.m →
    Does (.bgnAdd t) s t (fun d =>
      let x := d.bgn
      d.bgnOk (fun y => (y.touch c.m).store c.dst ((x.value c.a + x.value c.b) % x.modulus c.m)))) ∧
  (∀ (s : State) (c : BgnCmd) (t : Ticks),
    let d := s.dev.at_ t
    s.dev.acts = true →
    d.bgnTakes 2 c [c.dst, c.a, c.b, c.m] (some c.m) = true →
    d.bgn.value c.a < d.bgn.modulus c.m ∧ d.bgn.value c.b < d.bgn.modulus c.m →
    Does (.bgnSub t) s t (fun d =>
      let x := d.bgn
      d.bgnOk (fun y => (y.touch c.m).store c.dst ((x.value c.a + x.modulus c.m - x.value c.b) % x.modulus c.m)))) ∧
  (∀ (s : State) (c : BgnCmd) (t : Ticks),
    let d := s.dev.at_ t
    s.dev.acts = true →
    d.bgnTakes 3 c [c.dst, c.a, c.b, c.m] (some c.m) = true →
    d.bgn.value c.a < d.bgn.modulus c.m ∧ d.bgn.value c.b < d.bgn.modulus c.m →
    Does (.bgnMul t) s t (fun d =>
      let x := d.bgn
      d.bgnOk (fun y => (y.touch c.m).store c.dst (x.value c.a * x.value c.b * rInv (d.bgnBits c) (x.modulus c.m) % x.modulus c.m)))) ∧
  (∀ (s : State) (c : BgnCmd) (t : Ticks),
    let d := s.dev.at_ t
    s.dev.acts = true →
    d.bgnTakes 4 c [c.dst, c.a, c.m] (some c.m) = true →
    Does (.toMont t) s t (fun d =>
      let x := d.bgn
      d.bgnOk (fun y => (y.touch c.m).store c.dst (x.value c.a * 2 ^ d.bgnBits c % x.modulus c.m)))) ∧
  (∀ (s : State) (c : BgnCmd) (t : Ticks),
    let d := s.dev.at_ t
    s.dev.acts = true →
    d.bgnTakes 5 c [c.dst, c.a, c.m] (some c.m) = true →
    d.bgn.value c.a < d.bgn.modulus c.m →
    Does (.fromMont t) s t (fun d =>
      let x := d.bgn
      d.bgnOk (fun y => (y.touch c.m).store c.dst (x.value c.a * rInv (d.bgnBits c) (x.modulus c.m) % x.modulus c.m)))) ∧
  (∀ (s : State) (c : BgnCmd) (t : Ticks),
    let d := s.dev.at_ t
    s.dev.acts = true →
    d.bgnTakes 7 c [c.dst, c.a, c.b, c.m] (some c.m) = true →
    Does (.bgnExp t) s t (fun d =>
      let x := d.bgn
      d.bgnOk (fun y => (y.touch c.m).store c.dst (powMod (x.value c.a) (x.modulus c.m) (d.bgnBits c) (x.value c.b))))) ∧
  (∀ (s : State) (c : BgnCmd) (v : Nat) (t : Ticks),
    let d := s.dev.at_ t
    s.dev.acts = true →
    d.bgnTakes 6 c [c.dst, c.a, c.m] (some c.m) = true →
    invMod (d.bgnBits c) (d.bgn.value c.a) (d.bgn.modulus c.m) = some v →
    Does (.bgnInv t) s t (fun d => d.bgnOk (fun y => (y.touch c.m).store c.dst v))) ∧
  (∀ (s : State) (c : BgnCmd) (t : Ticks),
    let d := s.dev.at_ t
    s.dev.acts = true →
    d.bgnTakes 8 c [c.dst, c.a, c.b, c.m, c.arg % 64] (some c.m) = true →
    d.rngUp = true →
    Does (.expBlind t) s t (fun d => 
      let x := d.bgn
      let k := (d.rngRequest 21).take
      k.2.bgnOk (fun y => (y.touch c.m).store c.dst (powMod (x.value c.a) (x.modulus c.m) (d.bgnBits c + 65) (x.value c.b + (Config.freeWord k.1).toNat * x.value (c.arg % 64)))))) ∧
  (∀ (s : State) (c : BgnCmd) (t : Ticks),
    let d := s.dev.at_ t
    s.dev.acts = true →
    d.bgnTakes 9 c [c.dst, c.a] none = true →
    Does (.bgnCopy t) s t (fun d => d.bgnOk (fun y => y.store c.dst (y.value c.a)))) ∧
  (∀ (s : State) (c : BgnCmd) (t : Ticks),
    let d := s.dev.at_ t
    s.dev.acts = true →
    d.bgnTakes 10 c [c.m] none = true →
    d.bgn.value c.m % 2 = 1 →
    Does (.setMod t) s t (fun d => d.bgnOk (fun y => { y with cache := ((c.m, d.bgn.value c.m) :: y.cache.filter (fun e => e.1 ≠ c.m)).take 4 }))) ∧
  (∀ (s : State) (c : BgnCmd) (t : Ticks),
    let d := s.dev.at_ t
    s.dev.acts = true →
    d.bgnTakes 11 c [c.dst, c.m] (some c.m) = true →
    d.rngUp = true →
    Does (.bgnRandom t) s t (fun d => 
      let k := d.drawFrom 21 (d.bgnBits c / 8 + 8)
      k.2.bgnOk (fun y => (y.touch c.m).store c.dst (leNat k.1 % (y.modulus c.m - 1) + 1)))) ∧
  (∀ (s : State) (c : BgnCmd) (d1 : Dev) (t : Ticks),
    let d := s.dev.at_ t
    s.dev.acts = true →
    d.bgn.queue.head? = some c ∧ c.op = 12 →
    d.loadOperand c.dst c.arg = .inr d1 →
    Does (.loadKey t) s t (fun _ => d1.bgnOk id)) ∧
  (∀ (s : State) (c : BgnCmd) (j : Nat) (k : KeySlot) (t : Ticks),
    let d := s.dev.at_ t
    s.dev.acts = true →
    d.bgn.queue.head? = some c ∧ c.op = 13 →
    slotValid (d.bgn.slot c.a) = true ∧ slotSecret (d.bgn.slot c.a) = true ∧ slotCode (d.bgn.slot c.a) ≤ 1 →
    d.keyUse c.arg [7] .firmware = some (j, k) →
    k.key.length = slotBytes (d.bgn.slot c.a) →
    Does (.storeKey t) s t (fun d =>
      let v := toBe (slotBytes (d.bgn.slot c.a)) (d.bgn.value c.a)
      (({ d with cry.keys.slots := d.cry.keys.slots.ins j { k with key := v } } : Dev).writeRecord j).bgnOk id)) ∧
  (∀ (s : State) (req : Bytes) (t : Ticks),
    let d := s.dev.at_ t
    s.dev.acts = true →
    d.flt.chipSafe = false →
    d.bgn.job.state ≠ 1 →
    leAt req 0 1 ≤ 4 ∧ leAt req 1 3 = 0 ∧ 4 + 3 * (bnBits (leAt req 0 1) / 8) ≤ req.length →
    Does (.bnJob req t) s t (fun d => d.onBgn (fun x => { x with job := { state := 1, request := req, result := [] } }))) ∧
  (∀ (s : State) (n : Nat) (t : Ticks),
    let d := s.dev.at_ t
    s.dev.acts = true →
    d.bgn.job.state = 1 →
    n = bnBits (leAt d.bgn.job.request 0 1) / 8 →
    beAt d.bgn.job.request (4 + 2 * n) n % 2 = 1 →
    Does (.bnJobDone t) s t (fun d =>
      let j := d.bgn.job
      d.onBgn (fun x => { x with job := { j with state := 2, result := toBe n (powMod (beAt j.request 4 n) (beAt j.request (4 + 2 * n) n) (8 * n) (beAt j.request (4 + n) n)) } })))

/-- The random source's commands and KEY_GENERATE, KEY_IMPORT, KEY_RESTRICT and KEY_DESTROY complete. On a device that acts: a
starting source with all four groups becomes OK with event 0x22; a group that fails a health test is excluded with its count
and, the source running with three groups left, makes it DEGRADED with event 0x20; a group that passes its retest after 10
ms is back; a client with 2^20 requests or a second since its seed is seeded anew; KEY_GENERATE fills a free slot with a
random key under its policy and the next generation, KEY_IMPORT with the given key; KEY_RESTRICT narrows a policy;
KEY_DESTROY empties the slot and its records. -/
def Obligations.RandomSourceAndKeysComplete : Prop :=
  (∀ (s : State) (t : Ticks),
    let d := s.dev.at_ t
    s.dev.acts = true →
    d.cry.rng.state = .starting ∧ d.cry.rng.excluded = [] →
    Does (.rngSeedReady t) s t (fun d =>
      ({ d with cry.rng := { d.cry.rng with state := .ok, groups := [0, 1, 2, 3], baseReady := true, baseRequests := 0 } } : Dev).raise 25 0x22 0)) ∧
  (∀ (s : State) (g test : Fin 4) (t : Ticks),
    let d := s.dev.at_ t
    s.dev.acts = true →
    d.cry.rng.state = .ok ∧ d.cry.rng.excluded = [] →
    Does (.rngHealthFail g test t) s t (fun d =>
      { (({ (d.setAt Od.rng_FAILS test 0 (d.cfgAt Od.rng_FAILS test 0 + 1)) with cry.rng := { d.cry.rng with excluded := [((g : Nat), d.now)], groups := d.cry.rng.groups.filter (fun x => x ≠ (g : Nat)) } } : Dev).raise 25 0x20 g) with cry.rng.state := .degraded })) ∧
  (∀ (s : State) (g : Fin 4) (t0 t : Ticks),
    let d := s.dev.at_ t
    s.dev.acts = true →
    d.cry.rng.state = .degraded ∧ d.cry.rng.excluded = [((g : Nat), t0)] →
    t0 + 10 * ms ≤ d.now →
    Does (.rngGroupRetest g true t) s t (fun d =>
      { d with cry.rng := { d.cry.rng with excluded := [], state := .ok, groups := insSorted (fun x => (x : Int)) (g : Nat) d.cry.rng.groups } })) ∧
  (∀ (s : State) (c : Fin 64) (t : Ticks),
    let d := s.dev.at_ t
    s.dev.acts = true →
    d.rngUp = true ∧ (d.cry.rng.clients.get {} c).ready = true →
    2 ^ 20 ≤ (d.cry.rng.clients.get {} c).sinceSeed ∨ (d.cry.rng.clients.get {} c).seededAt + sec ≤ d.now →
    Does (.rngClientReseed c t) s t (fun d =>
      ({ d with cry.rng.clients := d.cry.rng.clients.ins c { d.cry.rng.clients.get {} c with sinceSeed := 0, seededAt := d.now }, cry.rng.baseRequests := d.cry.rng.baseRequests + 1 } : Dev).bump Od.rcl_RESEEDS c)) ∧
  (∀ (s : State) (req : Bytes) (t : Ticks),
    let d := s.dev.at_ t
    s.dev.acts = true →
    d.flt.chipSafe = false →
    req.length = 20 →
    d.keySlotRefusal (leAt req 0 2) (leAt req 2 2) (sliceB req 4 16) = none →
    d.cry.rng.state ≠ .failed →
    Does (.keyGenerate req t) s t (fun d => 
      let p := sliceB req 4 16
      let k := d.drawFrom 24 (leAt p 6 1)
      (k.2.dropCopies (leAt req 0 2)).fillSlot (leAt req 0 2) p k.1 (publicKey (leAt p 0 1) k.1))) ∧
  (∀ (s : State) (req : Bytes) (t : Ticks),
    let d := s.dev.at_ t
    s.dev.acts = true →
    d.flt.chipSafe = false →
    req.length = 84 →
    d.keySlotRefusal (leAt req 0 2) (leAt req 2 2) (sliceB req 4 16) = none →
    Does (.keyImport req t) s t (fun d => 
      let p := sliceB req 4 16
      let k := sliceB req 20 (leAt p 6 1)
      (d.dropCopies (leAt req 0 2)).fillSlot (leAt req 0 2) p k (publicKey (leAt p 0 1) k))) ∧
  (∀ (s : State) (req : Bytes) (t : Ticks),
    let d := s.dev.at_ t
    s.dev.acts = true →
    d.flt.chipSafe = false →
    req.length = 20 ∧ leAt req 2 2 = 0 →
    64 ≤ leAt req 0 2 ∧ leAt req 0 2 < 4096 →
    (d.keySlot (leAt req 0 2)).full = true →
    narrows (d.keySlot (leAt req 0 2)).policy (sliceB req 4 16) = true →
    Does (.keyRestrict req t) s t (fun d =>
      let n := leAt req 0 2
      let p := sliceB req 4 16
      ({ d with cry.keys.slots := d.cry.keys.slots.ins n { d.keySlot n with policy := p } } : Dev).writeRecord n)) ∧
  (∀ (s : State) (n : Nat) (t : Ticks),
    let d := s.dev.at_ t
    s.dev.acts = true →
    d.flt.chipSafe = false →
    64 ≤ n ∧ n < 4096 →
    Does (.keyDestroy n t) s t (fun d =>
      let d1 := d.dropCopies n
      { d1 with cry.keys.slots := d1.cry.keys.slots.del n, cry.keys.records := d1.cry.keys.records.filter (fun r => r.slot ≠ n) }))

/-- The life cycle, debug, certificate, attestation and boundary scan commands complete. On a device that boots: a challenge
draws 32 random bytes that stay valid for 600 s; LC_TRANSITION, LC_ANCHORS, LC_CHAIN and DBG_AUTH check the request and use
up its challenge, and where the check passes burn the token and write the state word and the anchors (restarting with cause
4), install the anchors with event 0x45, install the chain, or open the debug scopes with event 0x43 (erasing the RAM keys
in DIAGNOSTIC), and else record the refusal; the reset that a transition asks for restarts with cause 4; scopes end at their
instant; a manufactured device takes one birth certificate of its key signed by anchor 1; a 32-byte challenge starts an
attestation, whose record comes with event 0x44; BYPASS delays by one bit, IDCODE gives the code, SAMPLE/PRELOAD and EXTEST
capture and load the boundary register. -/
def Obligations.LifeCycleCommandsComplete : Prop :=
  (∀ (s : State) (t : Ticks),
    let d := s.dev.at_ t
    s.dev.boots = true →
    d.rngUp = true →
    Does (.lcNonce true t) s t (fun d =>
      ((d.drawFrom 0 32).2.onLcy (fun x => { x with nonce := some ((d.drawFrom 0 32).1, d.now) })).emit (.jtag 256 (leNat (d.drawFrom 0 32).1)))) ∧
  (∀ (s : State) (t : Ticks),
    let d := s.dev.at_ t
    s.dev.boots = true →
    d.nonce = none →
    Does (.nonceExpiry t) s t (fun d => d.onLcy (fun x => { x with nonce := none }))) ∧
  (∀ (s : State) (req : Bytes) (agree : Bool) (t : Ticks),
    let d := s.dev.at_ t
    s.dev.boots = true →
    d.flt.chipSafe = false →
    d.sys.phase ≠ .recovery →
    (lcReqOf req).kind = 1 →
    Does (.lcTransition req agree none t) s t (fun d =>
      let r := lcReqOf req
      let k := d.lcCheck req r agree
      let y := if k.2.1 then d.onLcy (fun x => { x with nonce := none }) else d
      if k.1 = 0 then
        let st := LcState.ofCode r.to_
        let b := y.onLcy (fun x => ({ x with result := 0 } : LifeCycle).burn (((lcRow r.from_ r.to_).map (fun e => e.2)).getD 0))
        let d1 := b.onLcy (fun x => { x with word := st.word, state := st, busy := true, oweRecord := true, anchors := installAnchors x.anchors (anchorEntries 14 r.payload) })
        ((({ d1 with sys.restartAs := some 4 } : Dev).gateKeys st).bump Od.lcy_TRANSITIONS 0).raise 26 0x40 0xFFFF [(r.from_ : Int), (r.to_ : Int)]
      else (y.lcRefuse k.1 k.2.2).emit (.writeStatus 9))) ∧
  (∀ (s : State) (i : StartIn) (t : Ticks),
    let d := s.dev.at_ t
    s.dev.boots = true →
    d.sys.restartAs = some 4 →
    Does (.lcTransitionReset i t) s t (fun d => d.enterReset.start i 4)) ∧
  (∀ (s : State) (req : Bytes) (agree : Bool) (t : Ticks),
    let d := s.dev.at_ t
    s.dev.boots = true →
    d.flt.chipSafe = false →
    d.sys.phase ≠ .recovery →
    (lcReqOf req).kind = 3 →
    Does (.lcAnchors req agree t) s t (fun d =>
      let r := lcReqOf req
      let k := d.lcCheck req r agree
      let y := if k.2.1 then d.onLcy (fun x => { x with nonce := none }) else d
      if k.1 = 0 then (y.onLcy (fun x => { x with result := 0, anchors := installAnchors x.anchors (anchorEntries 14 r.payload) })).raise 26 0x45 0xFFFF
      else (y.lcRefuse k.1 k.2.2).emit (.writeStatus 9))) ∧
  (∀ (s : State) (req : Bytes) (agree : Bool) (t : Ticks),
    let d := s.dev.at_ t
    s.dev.boots = true →
    d.flt.chipSafe = false →
    d.sys.phase ≠ .recovery →
    (lcReqOf req).kind = 4 →
    Does (.lcChain req agree t) s t (fun d =>
      let r := lcReqOf req
      let k := d.lcCheck req r agree
      let y := if k.2.1 then d.onLcy (fun x => { x with nonce := none }) else d
      if k.1 = 0 then (y.onLcy (fun x => { x with result := 0, chain := r.payload })).setOct Od.idn_DEVICE_CHAIN 0 (padTo 30720 r.payload)
      else (y.lcRefuse k.1 k.2.2).emit (.writeStatus 9))) ∧
  (∀ (s : State) (req : Bytes) (agree : Bool) (t : Ticks),
    s.dev.boots = true →
    (lcReqOf req).kind = 2 →
    Does (.dbgAuth req agree t) s t (fun d =>
      let r := lcReqOf req
      let k := d.lcCheck req r agree
      let y := if k.2.1 then d.onLcy (fun x => { x with nonce := none }) else d
      let z := y.onLcy (fun x => { x with result := 0 })
      let w := if z.lcy.state = .diagnostic then z.eraseKeys false else z
      let end_ := (timeOfLe r.expires).getD 0
      (if k.1 = 0 then (w.onLcy (fun x => { x with scopes := x.scopes ||| r.scope, scopesEnd := if end_ = 0 then none else some end_ })).raise 26 0x43 0xFFFF [(r.scope : Int)]
       else y.lcRefuse k.1 k.2.2).emit (.jtag 8 k.1))) ∧
  (∀ (s : State) (t u : Ticks),
    let d := s.dev.at_ t
    s.dev.boots = true →
    d.lcy.scopesEnd = some u →
    u ≤ d.now →
    Does (.debugExpiry t) s t (fun d => d.onLcy (fun x => { x with scopes := 0, scopesEnd := none }))) ∧
  (∀ (s : State) (cert : Bytes) (t : Ticks),
    let d := s.dev.at_ t
    s.dev.boots = true →
    d.flt.chipSafe = false →
    d.sys.phase ≠ .recovery →
    d.lcy.state = .manufactured ∧ d.lcy.birthCert = [] →
    cert.length ≤ 4096 →
    Does (.birthCert cert true t) s t (fun d =>
      if Config.chainKey cert = d.oct Od.idn_BIRTH_PUBLIC 0 ∧ Config.certSigned (d.anchor 1).pub cert = true then
        (d.onLcy (fun x => { x with birthCert := cert })).setOct Od.idn_BIRTH_CERT 0 (padTo 4096 cert)
      else d.emit (.writeStatus 12))) ∧
  (∀ (s : State) (c : Bytes) (t : Ticks),
    let d := s.dev.at_ t
    s.dev.boots = true →
    d.flt.chipSafe = false →
    d.sys.phase ≠ .recovery →
    c.length = 32 →
    d.lcy.attest ≠ 1 →
    d.attestKey = true →
    Does (.attestChallenge c t) s t (fun d => d.onLcy (fun x => { x with attest := 1, challenge := c }))) ∧
  (∀ (s : State) (t : Ticks),
    let d := s.dev.at_ t
    s.dev.boots = true →
    d.lcy.attest = 1 →
    d.attestKey = true →
    Does (.attestDone t) s t (fun d =>
      let r := d.efuthRecord 1 1 d.lcy.challenge
      ((d.onLcy (fun x => { x with attest := 2, attestRecord := r })).setOct Od.lcy_ATTEST_RECORD 0 r).raise 26 0x44 0xFFFF)) ∧
  (∀ (s : State) (bits : List Bool) (t : Ticks),
    s.dev.sys.phase ≠ .off →
    DoesAlone (.bypass bits t) s t (fun d =>
      (d.onLcy (fun x => { x with extest := false })).emit (.jtag bits.length ((false :: bits.dropLast).foldr (fun b a => 2 * a + b2n b) 0 % 2 ^ bits.length)))) ∧
  (∀ (s : State) (t : Ticks),
    s.dev.sys.phase ≠ .off →
    DoesAlone (.idcode t) s t (fun d => (d.onLcy (fun x => { x with extest := false })).emit (.jtag 32 idcode))) ∧
  (∀ (s : State) (bits captured load : Nat) (t : Ticks),
    s.dev.sys.phase ≠ .off →
    DoesAlone (.samplePreload bits captured load t) s t (fun d => (d.onLcy (fun x => { x with boundary := load, extest := false })).emit (.jtag bits captured))) ∧
  (∀ (s : State) (bits captured load : Nat) (t : Ticks),
    s.dev.sys.phase ≠ .off →
    DoesAlone (.extest bits captured load t) s t (fun d => (d.onLcy (fun x => { x with boundary := load, extest := true })).emit (.jtag bits captured)))

/-- RELEASE_HOLD, RELEASE_SAFE, the collector registers, merge windows and the FAULT_N pin complete. On a device that acts:
RELEASE_HOLD with no severity 3 source active ends hold, gives the pulse ends that are due, ends as late what was blocked or fell due, and raises event 0x53; RELEASE_SAFE with
no severity 4 source active ends the safe state with the pins at their entries' levels or idle, and raises event 0x54. On a
device that boots: writing FCU_FAULTN's HOLD clears it and releases the pin once its minimum low time is over; writing ones
to FCU_ACTIVE clears those sources and ends their merges; a merge window ends with one record of the merged occurrences; the
pin rises at the end of its low time; a low level of at least 1 us from outside raises source 0x003 with event 0x55, a high
level ends it. -/
def Obligations.FaultLevelsComplete : Prop :=
  (∀ (s : State) (t : Ticks),
    let d := s.dev.at_ t
    s.dev.acts = true →
    d.flt.chipSafe = false →
    d.flt.active.any (fun e => e.2 == 3) = false →
    d.flt.hold = true →
    Does (.releaseHold 1 t) s t (fun d =>
      let waiting := d.lch.entries.filter (fun e => (e.2.image.isPin || e.2.image.isFrame) &&
        (e.2.blocked || (decide (e.2.state = .committed) && decide (slotTime (slotOf e.2.instant) ≤ d.now))))
      let d1 := (List.range 32).foldl (fun y n => y.endPulses n) (d.onFlt (fun f => { f with hold := false }))
      ((waiting.foldl (fun y e => (y.onEntry e.1 (fun x => { x with blocked := false })).late e.1) d1).raise 22 0x53 0xFFFF).runDue)) ∧
  (∀ (s : State) (t : Ticks),
    let d := s.dev.at_ t
    s.dev.acts = true →
    d.flt.chipSafe = false →
    d.flt.active.any (fun e => e.2 == 4) = false →
    d.flt.safe = true →
    Does (.releaseSafe 1 t) s t (fun d =>
      let level (n : Nat) : Bool := match d.pinLevel n with
        | .active => true
        | .inactive => false
        | .highZ => d.cfgB Od.pin_IDLE_LEVEL n
      let d1 : Dev := { d with lch.pins := d.lch.pins.mapVals (fun n p => { p with base := level n, pulses := 0, ends := [], frozen := none }) }
      (d.drivePins (d1.onFlt (fun f => { f with safe := false }))).raise 22 0x54 0xFFFF)) ∧
  (∀ (s : State) (v : Word32) (t : Ticks),
    let d := s.dev.at_ t
    s.dev.boots = true →
    bitOf v.toNat 0 = true →
    d.faultnLocked = false →
    Does (.fcuFaultn v t) s t (fun d =>
      let d1 := d.onFlt (fun f => { f with faultnHold := false })
      if d.flt.faultnUntil ≤ d.now then d1.faultnHigh else d1)) ∧
  (∀ (s : State) (w : Fin 32) (v : Word32) (t : Ticks),
    s.dev.boots = true →
    Does (.fcuActive w v t) s t (fun d =>
      ((List.range 32).filter (bitOf v.toNat)).foldl (fun y b => (y.onFlt (fun f => { f with active := f.active.del (d.sourceOf (32 * w + b)) })).endMerge (d.sourceOf (32 * w + b))) d)) ∧
  (∀ (s : State) (src : Nat) (m : Merge) (t : Ticks),
    let d := s.dev.at_ t
    s.dev.boots = true →
    d.flt.merges.find src = some m →
    m.start + d.cfg Od.flt_MERGE_WINDOW src ≤ d.now →
    Does (.mergeWindow src t) s t (fun d => d.endMerge src)) ∧
  (∀ (s : State) (t : Ticks),
    let d := s.dev.at_ t
    s.dev.boots = true →
    d.flt.faultnUntil ≤ d.now →
    d.flt.faultnHold = false ∧ d.faultnLocked = false →
    d.flt.faultnDriven = true →
    Does (.faultnMinLow t) s t (fun d => (d.onFlt (fun f => { f with faultnDriven := false })).emit (.faultN false))) ∧
  (∀ (s : State) (w t : Ticks),
    let d := s.dev.at_ t
    s.dev.boots = true →
    d.flt.faultnDriven = false →
    us ≤ w →
    Does (.extFault (some w) t) s t (fun d => (d.onFlt (fun f => { f with faultnSensed := true })).fault 0x003 0xFFFF (some (22, 0x55)) [])) ∧
  (∀ (s : State) (t : Ticks),
    s.dev.boots = true →
    Does (.extFault none t) s t (fun d => d.onFlt (fun f => { f with faultnSensed := false })))

/-- The supply, clock, temperature and shield monitors and their arming complete. On a device that is not off, its monitors
armed: a supply glitch of 1 to 100 ns counts as a glitch event of its rail (within 10 us four for level 1, within 10 ms
thirty-two for level 2), or during a save a falling one as a slow supply event; a supply out of range for 2 us is a slow
event (eight within 1 s); a clock glitch counts two within 10 us and sixteen within 10 ms; a reference clock gap of 50 ns
raises source 0x041 with event 0x62; a temperature beyond its limit is level 1 at once; a shield event is level 2 at once,
or latched while the rails are off. The monitors arm 1 ms after the release of reset. -/
def Obligations.TamperMonitorsComplete : Prop :=
  (∀ (s : State) (rail : Fin 8) (rising : Bool) (width t : Ticks),
    let d := s.dev.at_ t
    s.dev.sys.phase ≠ .off →
    d.flt.armed = true →
    ns ≤ width ∧ width ≤ 100 * ns →
    d.man.saving = false ∨ rising = true →
    Does (.supplyGlitch rail rising width t) s t (fun d => d.monitorEvent 0 rail (0x030 + rail) rail (some (10 * us, 4)) (some (10 * ms, 32)))) ∧
  (∀ (s : State) (rail : Fin 8) (len t : Ticks),
    let d := s.dev.at_ t
    s.dev.sys.phase ≠ .off →
    d.flt.armed = true →
    2 * us ≤ len →
    Does (.slowSupply rail len t) s t (fun d => d.monitorEvent 1 (8 + rail) (0x038 + rail) rail (some (sec, 8)) none)) ∧
  (∀ (s : State) (t : Ticks),
    let d := s.dev.at_ t
    s.dev.sys.phase ≠ .off →
    d.flt.armed = true →
    Does (.clockGlitch t) s t (fun d => d.monitorEvent 2 16 0x040 0xFFFF (some (10 * us, 2)) (some (10 * ms, 16)))) ∧
  (∀ (s : State) (gap t : Ticks),
    s.dev.sys.phase ≠ .off →
    50 * ns ≤ gap →
    Does (.refclkLoss gap t) s t (fun d => d.fault 0x041 0xFFFF (some (27, 0x62)) [0x041])) ∧
  (∀ (s : State) (t : Ticks),
    let d := s.dev.at_ t
    s.dev.sys.phase ≠ .off →
    d.flt.armed = true →
    Does (.temperatureHigh t) s t (fun d => d.monitorEvent 3 17 0x042 0xFFFF (some (us, 1)) none)) ∧
  (∀ (s : State) (t : Ticks),
    let d := s.dev.at_ t
    s.dev.sys.phase ≠ .off →
    d.flt.armed = true →
    Does (.temperatureLow t) s t (fun d => d.monitorEvent 4 18 0x043 0xFFFF (some (us, 1)) none)) ∧
  (∀ (s : State) (short : Bool) (t : Ticks),
    s.dev.sys.phase ≠ .off →
    Does (.shieldEvent short true t) s t (fun d => (d.onFlt (fun f => { f with shieldOk := false })).monitorEvent 5 19 (if short then 0x045 else 0x044) 0xFFFF none (some (us, 1)))) ∧
  (∀ (s : State) (short : Bool) (t : Ticks),
    s.dev.sys.phase ≠ .off →
    Does (.shieldEvent short false t) s t (fun d => d.onFlt (fun f => { f with shieldLatched := true, level2 := true }))) ∧
  (∀ (s : State) (t : Ticks),
    let d := s.dev.at_ t
    s.dev.boots = true →
    d.sys.releasedAt + ms ≤ d.now →
    Does (.monitorArm true t) s t (fun d => d.onFlt (fun f => { f with armed := true, shieldOk := (f.monitor.get [] 19).isEmpty })))

/-- The contactless reader's commands and the tag logic's commands complete. On a device that acts and is not in chip safe
state: ON starts a reader without a baseline, OFF gives up its badges and the field; a ping without a field asks for the
field, to measure where there is a baseline and else to poll; a poll that finds nothing and follows no detection turns the
field off; a field grant that comes starts what waits, one that does not in time raises event 0x75; a badge that answers its
presence check has none missed, one that does not has one missed; a badge that is identified raises event 0x70; a block that
times out is sent again up to three times. While tag mode applies: the tag answers INFO, readable pages and an accepted
write (committed with its sequence number), notes its activation with VHARV at its level, and loses both with the field. The
always-on copy of a page is written with the next sequence number. -/
def Obligations.ReaderAndTagComplete : Prop :=
  (∀ (s : State) (t : Ticks),
    let d := s.dev.at_ t
    s.dev.acts = true →
    d.flt.chipSafe = false →
    d.isStandby = false →
    d.rd.on = false →
    Does (.clsEnable true t) s t (fun d => (d.set Od.cls_ENABLE 0 1).onRd (fun r => { r with on := true, waiting := none, pings := 0, valid := false, sumAmpl := 0, sumPhase := 0, falseRow := 0 }))) ∧
  (∀ (s : State) (t : Ticks),
    let d := s.dev.at_ t
    s.dev.acts = true →
    d.flt.chipSafe = false →
    d.isStandby = false →
    d.activeCids = [] →
    Does (.clsEnable false t) s t (fun d =>
      ((d.set Od.cls_ENABLE 0 0).onRd (fun r => { r with on := false, waiting := none, polling := false, detected := false, pings := 0, valid := false, sumAmpl := 0, sumPhase := 0, falseRow := 0 })).fieldOff)) ∧
  (∀ (s : State) (ext : Bool) (a p : Int) (t : Ticks),
    let d := s.dev.at_ t
    s.dev.acts = true →
    d.flt.chipSafe = false →
    d.rd.on = true ∧ d.rd.field = false ∧ d.rd.waiting = none →
    Does (.clsPing ext a p t) s t (fun d => d.askField (if d.rd.valid then .ping else .poll) ext a p)) ∧
  (∀ (s : State) (a p : Int) (t : Ticks),
    let d := s.dev.at_ t
    s.dev.acts = true →
    d.flt.chipSafe = false →
    d.rd.on = true ∧ d.rd.field = true ∧ d.rd.valid = true ∧ d.rd.detected = false ∧ d.activeCids = [] →
    Does (.clsPoll [] 0 false a p t) s t (fun d =>
      let d0 := if bitOf (d.cfgN Od.cls_TYPES 0) 0 then d.toField [[0x26]] else d
      ((d0.bump Od.cls_COLLISIONS 0 0).onRd (fun r => { r with polling := false, detected := false, tooMany := false })).fieldOff)) ∧
  (∀ (s : State) (ext : Bool) (a p : Int) (t since : Ticks) (u : FieldUse),
    let d := s.dev.at_ t
    s.dev.acts = true →
    d.flt.chipSafe = false →
    d.rd.waiting = some (u, since) →
    d.rd.on = true ∧ d.fieldGrant = true →
    Does (.rfGrant ext a p t) s t (fun d => d.useField u ext a p)) ∧
  (∀ (s : State) (t since : Ticks) (u : FieldUse),
    let d := s.dev.at_ t
    s.dev.acts = true →
    d.flt.chipSafe = false →
    d.rd.waiting = some (u, since) →
    since + d.cfg Od.cls_RF_WAIT_MAX 0 ≤ d.now →
    Does (.rfStarved t) s t (fun d => (d.onRd (fun r => { r with waiting := none })).raise 29 0x75 0)) ∧
  (∀ (s : State) (c : Fin 4) (agree : Bool) (t : Ticks),
    let d := s.dev.at_ t
    s.dev.acts = true →
    d.flt.chipSafe = false →
    (d.cid (c + 1)).state = .credential ∧ (d.cid (c + 1)).dlg.step = .idle →
    Does (.presenceCheck c true agree t) s t (fun d => d.onCid (c + 1) (fun y => { y with missed := 0 }))) ∧
  (∀ (s : State) (c : Fin 4) (agree : Bool) (t : Ticks),
    let d := s.dev.at_ t
    s.dev.acts = true →
    d.flt.chipSafe = false →
    (d.cid (c + 1)).state = .credential ∧ (d.cid (c + 1)).dlg.step = .idle →
    (d.cid (c + 1)).missed = 0 →
    Does (.presenceCheck c false agree t) s t (fun d => d.onCid (c + 1) (fun y => { y with missed := 1 }))) ∧
  (∀ (s : State) (c : Fin 4) (agree : Bool) (h : CardHolder) (t : Ticks),
    let d := s.dev.at_ t
    s.dev.acts = true →
    d.flt.chipSafe = false →
    (d.cid (c + 1)).dlg.found = some h →
    (d.cid (c + 1)).dlg.verified = true →
    Does (.cardArrived c agree t) s t (fun d =>
      let d1 := (d.onCid (c + 1) (fun y => { y with state := .credential, missed := 0, dlg := { step := .idle, holder := some h } })).raise 29 0x70 (c + 1) [(leNat h.cardId : Int)]
      (if d1.credentials = 2 then d1.raise 29 0x72 0 else d1).identified (c + 2) agree)) ∧
  (∀ (s : State) (c : Fin 4) (sent agree : Bool) (t : Ticks),
    let d := s.dev.at_ t
    s.dev.acts = true →
    d.flt.chipSafe = false →
    (d.cid (c + 1)).state ≠ .free ∧ (d.cid (c + 1)).dlg.step ≠ .idle →
    (d.cid (c + 1)).retries < 3 →
    Does (.fwtTimeout c sent agree t) s t (fun d =>
      (d.onCid (c + 1) (fun y => { y with retries := (d.cid (c + 1)).retries + 1 })).emit (.card (c + 2) (d.cid (c + 1)).last))) ∧
  (∀ (s : State) (t : Ticks),
    let d := s.dev.at_ t
    d.tagMode = true →
    d.tag.active = true →
    DoesAlone (.tagGetInfo [1] t) s t (fun d => d.emit (.tag (0x00 :: d.tag.info)))) ∧
  (∀ (s : State) (p : Byte) (t : Ticks),
    let d := s.dev.at_ t
    d.tagMode = true →
    d.tag.active = true →
    p.toNat < 128 →
    bitOf (d.tag.groupCfg p.toNat) 0 = true →
    DoesAlone (.tagRead [p, 1] t) s t (fun d => d.emit (.tag (0x00 :: (d.tagPage p.toNat).1)))) ∧
  (∀ (s : State) (p : Byte) (n : BitVec 16) (data mac : Bytes) (t : Ticks),
    let d := s.dev.at_ t
    d.tagMode = true →
    d.tag.active = true →
    d.tagWriteCheck p.toNat n.toNat data mac = none →
    DoesAlone (.tagWrite p n data mac true t) s t (fun d =>
      let d1 := ((d.setVharv false).tagCommit p.toNat n.toNat mac data).emit (.tag [0x00])
      (d1.onTag (fun g => { g with changed := if p.toNat ∈ g.changed then g.changed else p.toNat :: g.changed })).setVharv (d.tag.level ≠ 0 && !d.tag.low))) ∧
  (∀ (s : State) (t : Ticks),
    let d := s.dev.at_ t
    d.tagMode = true →
    DoesAlone (.tagFieldLoss none t) s t (fun d => (d.setVharv false).onTag (fun g => { g with active := false, low := false }))) ∧
  (∀ (s : State) (t : Ticks),
    let d := s.dev.at_ t
    d.tagMode = true →
    DoesAlone (.tagActivation t) s t (fun d =>
      let uid : Bytes := BitVec.ofNat 8 Config.tagMaker :: sliceB (d.oct Od.idn_DIE_ID 0) 10 6
      ((d.onTag (fun g => { g with active := true, low := false })).setVharv (d.tag.level ≠ 0)).emit (.tag ([0x44, 0x00] ++ uid ++ [0x20] ++ [0x05, 0x77, 0x80, 0x60, 0x00])))) ∧
  (∀ (s : State) (t : Ticks),
    let d := s.dev.at_ t
    d.tagMode = true →
    d.tag.active = true ∧ d.tag.low = true →
    DoesAlone (.vharvRecover t) s t (fun d => (d.onTag (fun g => { g with low := false })).setVharv (d.tag.level ≠ 0))) ∧
  (∀ (s : State) (p : Fin 128) (data : Bytes) (t : Ticks),
    let d := s.dev.at_ t
    s.dev.acts = true →
    d.flt.chipSafe = false →
    data.length = 64 →
    Does (.tagPage p data t) s t (fun d => d.tagCommit p (((d.tagPage p).2 + 1) % 65536) (List.replicate 8 0) data))

/-- The card slot, T=1 and Kolzel commands complete. On a device that acts and is not in chip safe state: a card that is put in
raises event 0x80 and is activated where its slot is enabled, one that is drawn out ends its exchange with event 0x81; an
ATR of a T=1 card in negotiable mode starts the parameter exchange, no ATR tries the next class; a PPS answered in kind sets
rate and clock and starts the information field size request; a well-formed block is taken, a broken one or a late one is an
error; SELECT, IDENTIFY and AUTHENTICATE follow one another, and the last, where the signature verifies, identifies the
card; a permit record that the card signs makes its entry ACTIVE with event 0x90; a journal answer settles an entry in
doubt; overcurrent cuts the card's supply, refuses it and raises event 0x83. -/
def Obligations.CardSlotsComplete : Prop :=
  (∀ (s : State) (x : Fin 2) (t : Ticks),
    let d := s.dev.at_ t
    s.dev.acts = true →
    d.flt.chipSafe = false →
    (d.cardSlot x).det = false →
    Does (.cardDetect x t) s t (fun d =>
      let d1 := (d.onSlot x (fun e => { e with det := true })).raise 30 0x80 x
      if d1.cfgB Od.crx_ENABLE x then d1.activate x else d1)) ∧
  (∀ (s : State) (x : Fin 2) (t : Ticks),
    let d := s.dev.at_ t
    s.dev.acts = true →
    (d.cardSlot x).det = true →
    Does (.cardRemoved x t) s t (fun d => (((d.deactivate x).holderGone x (d.allSent x)).onSlot x (fun _ => {})).raise 30 0x81 x)) ∧
  (∀ (s : State) (x : Fin 2) (atr : Bytes) (a : Atr) (t : Ticks),
    let d := s.dev.at_ t
    s.dev.acts = true →
    d.flt.chipSafe = false →
    (d.cardSlot x).state = .activating ∧ (d.cardSlot x).powered = true ∧ (d.cardSlot x).ppsTried = false →
    parseAtr atr = some a →
    a.protocols.contains 1 = true ∧ a.ta2 = none ∧ a.classes = none →
    Does (.atrReceive x (some atr) t) s t (fun d =>
      (d.onSlot x (fun e => { e with state := .pps, link := { guardN := a.tc1, ifsc := a.ifsc.getD 32, bwi := (a.tb.getD 0x4D) / 16, cwi := (a.tb.getD 0x4D) % 16, crc := bitOf (a.edc.getD 0) 0, ta1 := a.ta1, since := d.now } })).emit (.card x (ppsRequest a.ta1).1))) ∧
  (∀ (s : State) (x : Fin 2) (t : Ticks),
    let d := s.dev.at_ t
    s.dev.acts = true →
    d.flt.chipSafe = false →
    (d.cardSlot x).state = .activating ∧ (d.cardSlot x).powered = true →
    Does (.atrTimeout x t) s t (fun d => (d.deactivate x).activate x)) ∧
  (∀ (s : State) (x : Fin 2) (req : Bytes) (fi di f : Nat) (t : Ticks),
    let d := s.dev.at_ t
    s.dev.acts = true →
    d.flt.chipSafe = false →
    (d.cardSlot x).state = .pps →
    ppsRequest (d.cardSlot x).link.ta1 = (req, some (fi, di, f)) →
    Does (.ppsAnswer x (some req) t) s t (fun d =>
      let clk := min (f * 500000) (d.cfgN Od.crx_CLK_MAX x)
      ((d.onSlot x (fun e => { e with link := { (d.cardSlot x).link with fi := fi, di := di, clk := clk } })).emit (.line (clkName x) clk)).sendIfs x)) ∧
  (∀ (s : State) (x : Fin 2) (b : Bytes) (t : Ticks),
    let d := s.dev.at_ t
    s.dev.acts = true →
    d.flt.chipSafe = false →
    (d.cardSlot x).linkUp = true →
    b.length = 3 + beAt b 2 1 + (1 + b2n (d.cardSlot x).link.crc) ∧ beAt b 2 1 ≠ 255 →
    b.drop (3 + beAt b 2 1) = (d.cardSlot x).link.edc (b.take (3 + beAt b 2 1)) ∧ beAt b 0 1 = 0 →
    Does (.t1BlockReceive x (some b) t) s t (fun d => d.goodBlock x (beAt b 1 1) (sliceB b 3 (beAt b 2 1)))) ∧
  (∀ (s : State) (x : Fin 2) (t : Ticks),
    let d := s.dev.at_ t
    s.dev.acts = true →
    d.flt.chipSafe = false →
    (d.cardSlot x).linkUp = true ∧ (d.cardSlot x).link.reply = none →
    (d.cardSlot x).link.deadline ≤ d.now →
    Does (.bwtTimeout x t) s t (fun d => d.blockError x 2)) ∧
  (∀ (s : State) (p : Fin 6) (resp data : Bytes) (t : Ticks),
    let d := s.dev.at_ t
    s.dev.acts = true →
    d.flt.chipSafe = false →
    d.response p resp = some (data, 0x9000) →
    (d.dlg p).step = .select →
    Does (.kolzelSelect p resp t) s t (fun d => d.kolzel p .identify (kolzelApdu 0x80 0x10 0 []))) ∧
  (∀ (s : State) (p : Fin 6) (resp data : Bytes) (h : CardHolder) (t : Ticks),
    let d := s.dev.at_ t
    s.dev.acts = true →
    d.flt.chipSafe = false →
    d.response p resp = some (data, 0x9000) →
    (d.dlg p).step = .identify →
    parseIdentify data d.now = some h →
    Does (.kolzelIdentify p resp t) s t (fun d =>
      let k := d.drawFrom 0 32
      (k.2.onDlg p (fun x => { x with found := some h, challenge := k.1 })).kolzel p .authenticate (kolzelApdu 0x80 0x12 0 (k.1 ++ padTo 16 (d.oct Od.idn_UNIT_ID 0))))) ∧
  (∀ (s : State) (p : Fin 2) (resp data : Bytes) (h : CardHolder) (t : Ticks),
    let d := s.dev.at_ t
    s.dev.acts = true →
    d.flt.chipSafe = false →
    d.response p resp = some (data, 0x9000) →
    (d.dlg p).step = .authenticate ∧ (d.dlg p).found = some h →
    Does (.kolzelAuthenticate ⟨p, by omega⟩ resp true t) s t (fun d =>
      let m := (d.dlg p).challenge ++ padTo 16 (d.oct Od.idn_UNIT_ID 0) ++ h.cardId
      if data.length = 64 ∧ d.cardAdmitted h.chain = true ∧ d.cardRevoked h.cardId = false ∧ Config.pkVerify 20 (Config.chainKey h.chain) m data = true then
        ((d.slotState p .identified).onDlg p (fun y => { y with step := .idle, found := none, holder := some { h with at_ := d.now } })).identified p true
      else d.cardFails p)) ∧
  (∀ (s : State) (p : Fin 6) (n : Nat) (resp data : Bytes) (h : CardHolder) (r : LedgerRec) (t : Ticks),
    let d := s.dev.at_ t
    s.dev.acts = true →
    d.flt.chipSafe = false →
    d.permitsHere = true →
    (d.dlg p).entry = some n ∧ (d.dlg p).step = .grant ∧ (d.dlg p).holder = some h →
    d.response p resp = some (data, 0x9000) →
    d.per.ledger.find n = some r →
    r.state = .pending ∧ r.counter = 0 ∧ r.holder = h.cardId ∧ (r.waits.drop 1).isEmpty = true →
    data.length = 68 →
    Does (.recordGrant ⟨p, by omega⟩ resp true t) s t (fun d =>
      let d1 := d.placeIdle p
      (if Config.pkVerify 20 (Config.chainKey h.chain) ((d.dlg p).sent ++ data.take 4) (data.drop 4) then
        ((d1.ledgerPut n { r with waits := r.waits.drop 1, counter := beAt data 0 4, state := .active }).bump Od.prm_GRANTS 0).raise 31 0x90 r.rule [(n : Int)]
       else d1.grantFailed n true).tryDue p true)) ∧
  (∀ (s : State) (p : Fin 6) (n : Nat) (resp data : Bytes) (h : CardHolder) (t : Ticks),
    let d := s.dev.at_ t
    s.dev.acts = true →
    d.flt.chipSafe = false →
    d.permitsHere = true →
    (d.dlg p).entry = some n ∧ (d.dlg p).holder = some h ∧ (d.dlg p).step = .query →
    d.response p resp = some (data, 0x9000) →
    data.length = 5 ∧ beAt data 0 1 ≤ 2 →
    Does (.journalQuery p resp true t) s t (fun d =>
      ((d.settleEntry n h.cardId (beAt data 0 1 = 0) (beAt data 1 4)).onDlg p (fun y => { y with entry := none })).nextQuery p true)) ∧
  (∀ (s : State) (x : Fin 2) (t : Ticks),
    let d := s.dev.at_ t
    s.dev.acts = true →
    (d.cardSlot x).powered = true →
    Does (.cardOvercurrent x t) s t (fun d => (((d.deactivate x).holderGone x (d.allSent x)).onSlot x (fun e => { e with state := .refused })).raise 30 0x83 x))

/-- OPI_CHANGE, DISC_TIME, PERMIT_REQUEST, REVOKE, CLEAR_IN_DOUBT and PERMIT_EXPIRY complete. On a device that acts: both
channels of an inactive input going active make it ACTIVE and try its rules, one makes it PENDING; a pending input past its
discrepancy time is DISCREPANT with event 0x95, a discrepant one released that long is INACTIVE again; a request on a rule
of TRIGGER REQUEST whose input is active and whose cards are present grants it; REVOKE by the SO role ends a live entry with
reason 4, CLEAR_IN_DOUBT abandons an entry in doubt, and an active entry past VALID_UNTIL ends with reason 1. -/
def Obligations.OperatorInputsAndPermitsComplete : Prop :=
  (∀ (s : State) (k : Fin 8) (t : Ticks),
    let d := s.dev.at_ t
    s.dev.acts = true →
    (d.input k).state = .inactive ∧ (d.input k).b = true →
    Does (.opiChange k false true true t) s t (fun d =>
      (d.setInput k { d.input k with a := true, state := .active, since := none }).autoGrants (fun r => d.cfgN Od.rul_INPUT r == k) (fun _ => true) true)) ∧
  (∀ (s : State) (k : Fin 8) (agree : Bool) (t : Ticks),
    let d := s.dev.at_ t
    s.dev.acts = true →
    (d.input k).state = .inactive ∧ (d.input k).b = false →
    Does (.opiChange k false true agree t) s t (fun d => d.setInput k { d.input k with a := true, state := .pending, since := some d.now, fromInactive := true })) ∧
  (∀ (s : State) (k : Fin 8) (u t : Ticks),
    let d := s.dev.at_ t
    s.dev.acts = true →
    (d.input k).state = .pending ∧ (d.input k).since = some u →
    u + d.cfg Od.opi_DISC_TIME k ≤ d.now →
    Does (.discTime k t) s t (fun d => ((d.setInput k { d.input k with state := .discrepant, since := none }).bump Od.opi_DISCREPANCIES k).raise 31 0x95 k)) ∧
  (∀ (s : State) (k : Fin 8) (u t : Ticks),
    let d := s.dev.at_ t
    s.dev.acts = true →
    (d.input k).state = .discrepant ∧ (d.input k).releasedAt = some u →
    u + d.cfg Od.opi_DISC_TIME k ≤ d.now →
    Does (.discTime k t) s t (fun d => d.setInput k { d.input k with state := .inactive, releasedAt := none })) ∧
  (∀ (s : State) (rule : Nat) (cs : List (Nat × CardHolder)) (t : Ticks),
    let d := s.dev.at_ t
    s.dev.acts = true →
    d.flt.chipSafe = false →
    d.isStandby = false →
    rule < 64 →
    d.cfg Od.rul_TRIGGER rule = 1 ∧ d.ruleInput rule = true →
    d.cardsFor rule (fun _ => true) = some cs →
    (d.grant rule cs true).per.nextNumber ≠ d.per.nextNumber →
    Does (.permitRequest rule true t) s t (fun d => d.grant rule cs true)) ∧
  (∀ (s : State) (n : Word32) (r : LedgerRec) (t : Ticks),
    let d := s.dev.at_ t
    s.dev.acts = true →
    d.flt.chipSafe = false →
    d.isStandby = false →
    d.per.ledger.find n.toNat = some r →
    r.state.live = true ∧ r.waits = [] →
    Does (.revoke n .so t) s t (fun d =>
      (d.ledgerPut n.toNat { r with state := .ended, endReason := 4, endedAt := d.now, waits := [] }).raise 31 0x91 r.rule [(n.toNat : Int), (4 : Int)])) ∧
  (∀ (s : State) (n : Word32) (r : LedgerRec) (t : Ticks),
    let d := s.dev.at_ t
    s.dev.acts = true →
    d.flt.chipSafe = false →
    d.isStandby = false →
    d.per.ledger.find n.toNat = some r →
    r.state = .inDoubt →
    Does (.clearInDoubt n t) s t (fun d => d.ledgerPut n.toNat { r with state := .abandoned })) ∧
  (∀ (s : State) (n : Nat) (r : LedgerRec) (t : Ticks),
    let d := s.dev.at_ t
    s.dev.acts = true →
    d.flt.chipSafe = false →
    d.per.ledger.find n = some r →
    d.permitsHere = true ∧ r.state = .active →
    r.validUntil ≤ d.now →
    Does (.permitExpiry n t) s t (fun d =>
      (d.ledgerPut n { r with state := .ended, endReason := 1, endedAt := d.now, waits := [] }).raise 31 0x91 r.rule [(n : Int), (1 : Int)]))

/-- The flash commands (erase rounds, scrub, customer data, erase, region passwords, wear selector) complete. On a device that
acts: a round of a bank erases each of its half-written or save-area sectors that has not failed, with its pulses; a scrub
pass after its period handles each find and refreshes each old sector; a customer write that fits an unlocked, sound sector
and sets no bit is stored (a failed verify retires the sector); a customer erase makes the sector read FFh and counts its
pulses; SET_PASSWORD of a region without one stores the new one's record, a zero password clears it and the mode; UNLOCK
with the right password or none opens the region, LOCK closes it; a lockout ends at its instant; FLS_WEAR_SEL selects a
sector. The customer commands are given out of chip safe state. -/
def Obligations.FlashCommandsComplete : Prop :=
  (∀ (s : State) (bank : Fin 4) (n k : Nat) (t : Ticks),
    let d := s.dev.at_ t
    s.dev.acts = true →
    n / 512 = bank ∧ n ∉ d.fls.failed ∧ n ∈ d.fls.half →
    Does (.flashEraseRoundDone bank [(n, k)] t) s t (fun d => d.sectorErased n k)) ∧
  (∀ (s : State) (found : List ScrubFind) (old : List (Nat × Nat)) (t : Ticks),
    let d := s.dev.at_ t
    s.dev.acts = true →
    d.fls.lastScrub + d.cfg Od.fls_SCRUB_PERIOD 0 * sec ≤ d.now →
    Does (.flashScrub found old t) s t (fun d =>
      old.foldl (fun y e => if e.1 < 2048 then y.refreshSector e.1 e.2 else y) (found.foldl (fun y x => y.scrubUnit x) (d.onFls (fun f => { f with lastScrub := d.now }))))) ∧
  (∀ (s : State) (c off : Nat) (b : Bytes) (verify : Bool) (t : Ticks),
    let d := s.dev.at_ t
    s.dev.acts = true →
    d.flt.chipSafe = false →
    c < 576 ∧ off + b.length ≤ 16384 →
    d.imageSector c = false ∧ d.sectorLock c = 0 ∧ (1472 + c) ∉ d.fls.failed ∧ (1472 + c) ∉ d.fls.half →
    ((d.fls.read c off b.length).zip b).any (fun e => decide (e.1 ≠ e.2) && decide (e.1 ≠ 0xFF)) = false →
    verify = true ∨ 0 < d.cfg Od.bnk_SPARES_LEFT ((1472 + c) / 512) →
    Does (.dataWrite c off b verify t) s t (fun d =>
      let d1 := d.onFls (fun f => { f with data := (List.range b.length).foldl (fun t i => t.put 0xFF (16384 * c + off + i) (b.getD i 0xFF)) f.data })
      if verify then d1 else d1.retireSector (1472 + c) (off / 32))) ∧
  (∀ (s : State) (c pulses : Nat) (t : Ticks),
    let d := s.dev.at_ t
    s.dev.acts = true →
    d.flt.chipSafe = false →
    c < 576 →
    d.imageSector c = false ∧ d.sectorLock c = 0 ∧ (1472 + c) ∉ d.fls.failed →
    pulses ≤ 32 →
    Does (.eraseSector c pulses false t) s t (fun d => (d.onFls (fun f => { f with data := f.data.filter (fun e => e.1 / 16384 ≠ c) })).sectorErased (1472 + c) pulses)) ∧
  (∀ (s : State) (r : Nat) (b : Bytes) (t : Ticks),
    let d := s.dev.at_ t
    s.dev.acts = true →
    d.flt.chipSafe = false →
    r < 64 ∧ b.length = 32 →
    d.lockedOut r = false →
    (d.passRegion r).record = none ∧ allZero (b.take 16) = true →
    allZero (b.drop 16) = false →
    Does (.setPassword r b t) s t (fun d => d.onPass r (fun x => { x with record := some (d.passRecord r (b.drop 16)), wrong := 0 }))) ∧
  (∀ (s : State) (r : Nat) (p : Bytes) (t : Ticks),
    let d := s.dev.at_ t
    s.dev.acts = true →
    d.flt.chipSafe = false →
    r < 64 ∧ p.length = 16 →
    d.lockedOut r = false →
    (d.passRegion r).record = none →
    Does (.unlockRegion r p t) s t (fun d => d.onPass r (fun x => { x with locked := false }))) ∧
  (∀ (s : State) (r : Nat) (p : Bytes) (t : Ticks),
    let d := s.dev.at_ t
    s.dev.acts = true →
    d.flt.chipSafe = false →
    r < 64 ∧ p.length = 16 →
    d.lockedOut r = false →
    (d.passRegion r).record = some (d.passRecord r p) →
    Does (.unlockRegion r p t) s t (fun d => d.onPass r (fun x => { x with locked := false, wrong := 0 }))) ∧
  (∀ (s : State) (r : Nat) (t : Ticks),
    let d := s.dev.at_ t
    s.dev.acts = true →
    d.flt.chipSafe = false →
    r < 64 →
    Does (.lockRegion r 1 t) s t (fun d => d.onPass r (fun x => { x with locked := true }))) ∧
  (∀ (s : State) (r : Fin 64) (u t : Ticks),
    let d := s.dev.at_ t
    s.dev.acts = true →
    (d.passRegion r).lockout = some u →
    u ≤ d.now →
    Does (.passwordLockoutEnd r t) s t (fun d => d.onPass r (fun x => { x with lockout := none, wrong := 0 }))) ∧
  (∀ (s : State) (v : Word32) (t : Ticks),
    s.dev.acts = true →
    Does (.flsWearSel v t) s t (fun d => d.onFls (fun f => { f with wearSel := v.toNat % 2048 })))

/-- POWER_EPOCH, DEMAND_SEND, DEMAND, SHARE, SHARE_STALE and MODELS_MEASURED complete. On a device that acts: a power epoch
whose least term covers the floor and that is not hot sets the budget to that term, grants the classes 5 down to 1 what the
budget less the reserves admits (never more than the last grant plus 40 units), and shares the grants out; a chip that
shares its board and is no master sends its demand to the master, takes its share of a SHARE message, and after 100 us
without one falls to at most its even part with event 0xB3; the master notes a member's demand and apportions anew; 10 ms
after release the measured models come into use with event 0xB5. -/
def Obligations.PowerCommandsComplete : Prop :=
  (∀ (s : State) (r : PowerReading) (t : Ticks) (d1 : Dev) (l : List Demand) (g : Tab Nat) (term : Int) (which : Nat),
    let d := s.dev.at_ t
    s.dev.acts = true →
    d1 = d.powerMeasure r →
    l = d1.pwr.demandsOf r.demands →
    d1.leastTerm = (term, which) →
    (floorUnits l : Int) ≤ term ∧ r.tHot < 14000 →
    d1.flt.chipSafe = false ∧ d1.pwr.save = false ∧ d1.pwr.limited = false ∧ d1.pwr.critical = false ∧ d1.pwr.thermalLimited = decide (which = 1) →
    g = grantClasses l [5, 4, 3, 2, 1] (min (term.toNat - reserves) (d1.pwr.granted + 40)) →
    [1, 2, 3, 4, 5].filter (fun c => g.get 0 c < classUnits l c) = [] →
    Does (.powerEpoch r t) s t (fun _ =>
      (d1.onPwr (fun p => { p with limiter := which, throttle := 0, safe := false, limited := false, thermalLimited := decide (which = 1), critical := false, budget := term.toNat, granted := g.foldl (fun a e => a + e.2) 0, demands := l, grants := shareOut l g, classGrant := g, classDemand := [1, 2, 3, 4, 5].map (fun c => (c, classUnits l c)) })).streamFlow false)) ∧
  (∀ (s : State) (t : Ticks),
    let d := s.dev.at_ t
    s.dev.acts = true →
    d.sharesBoard = true ∧ d.isMaster = false →
    Does (.demandSend t) s t (fun d => d.ferrySend 4 1 d.fry.flo.master (toBe 2 d.floorW ++ toBe 2 d.demandW ++ toBe 2 d.measuredW ++ [0, 0]))) ∧
  (∀ (s : State) (src : Fin 8) (x : ChipDemand) (t : Ticks),
    let d := s.dev.at_ t
    s.dev.acts = true →
    d.sharesBoard = true ∧ d.isMaster = true →
    d.floMembers.contains src = true ∧ (src : Nat) ≠ d.fry.flo.ownId →
    Does (.demandReceive src x t) s t (fun d => (d.onPwr (fun p => { p with chips := p.chips.ins src x })).masterShares)) ∧
  (∀ (s : State) (l : List Nat) (t : Ticks),
    let d := s.dev.at_ t
    s.dev.acts = true →
    d.sharesBoard = true ∧ d.isMaster = false →
    Does (.shareSet l t) s t (fun d => (d.onPwr (fun p => { p with share := some (l.getD d.fry.flo.ownId 0), lastShare := d.now, shareStale := false })).boardShort false)) ∧
  (∀ (s : State) (t : Ticks) (v : Nat),
    let d := s.dev.at_ t
    s.dev.acts = true →
    d.sharesBoard = true ∧ d.isMaster = false ∧ d.pwr.shareStale = false →
    d.pwr.lastShare + 100 * us ≤ d.now →
    v = (match d.pwr.share with
    | some x => min x (d.cfgN Od.pwr_BOARD_LIMIT 0 / d.floMembers.length)
    | none => d.cfgN Od.pwr_BOARD_LIMIT 0 / d.floMembers.length) →
    Does (.shareStale t) s t (fun d => ((d.onPwr (fun p => { p with share := some v, shareStale := true })).raise 28 0xB3 0).boardShort (decide (v < d.floorW)))) ∧
  (∀ (s : State) (t : Ticks),
    let d := s.dev.at_ t
    s.dev.acts = true →
    d.pwr.model = false →
    d.sys.releasedAt + 10 * ms ≤ d.now →
    Does (.modelsMeasured t) s t (fun d => (d.onPwr (fun p => { p with model := true })).raise 28 0xB5 0))

/-- Power on, RESET_N, start, restart, warm reset, power failure, save, shutdown and the chart switch complete. A device that is
off and gets power is in reset with cause 0 and empty RAM; RESET_N low for 1 us completes a running save and enters reset (cause
2 after a save, else 1), and its release starts the device with that cause; a start that completes runs, raises event 0x47 and
opens the sessions that are to be open; RESTART 1 restarts with cause 6, a warm reset that is asked for with 5, a chart switch
at its instant with 3 under the marked chart; loss of VDD_AON turns everything off; POWERFAIL_N low for 1 us begins the save,
whose completion writes the items, the streams and the journal into the save area's flash units and parks; SHUTDOWN of an active
unit yields first, of any other begins the save; a save area erased becomes ERASED, which reopens the admission gate. -/
def Obligations.StartAndPowerDownComplete : Prop :=
  (∀ (s : State) (t : Ticks),
    let d := s.dev.at_ t
    d.sys.phase = .off →
    exec (.powerOn t) s = .next (s.withDev { d with sys := { d.sys with phase := .inReset, nextCause := 0, again := none }, que.man.retention := false, bufOut := [.clear 0 (2 ^ 41)] })) ∧
  (∀ (s : State) (low t : Ticks) (e : Dev),
    let d := s.dev.at_ t
    s.dev.sys.phase ≠ .off →
    us ≤ low →
    d.sys.phase = .running ∨ d.sys.phase = .starting ∨ d.sys.phase = .recovery →
    e = d.saveComplete →
    Does (.resetNAssert low t) s t (fun _ => { e.enterReset with sys := { e.enterReset.sys with nextCause := if e.man.parked then 2 else 1 } })) ∧
  (∀ (s : State) (i : StartIn) (t : Ticks),
    let d := s.dev.at_ t
    s.dev.sys.phase ≠ .off →
    d.sys.phase = .inReset →
    Does (.resetNRelease i t) s t (fun d => d.start i d.sys.nextCause)) ∧
  (∀ (s : State) (t : Ticks),
    let d := s.dev.at_ t
    s.dev.acts = true →
    d.sys.phase = .starting ∧ d.fry.twin.role ≠ .waiting →
    Does (.startComplete t) s t (fun d =>
      let d1 := ({ d with sys.phase := .running } : Dev).raise 26 0x47 0xFFFF
      let want := dedup (d1.sys.reopen ++ (d1.enabledOf Od.ses_ENABLE).filter (fun i => d1.cfgB Od.ses_INITIATE i))
      let d2 := (d1.enabledOf Od.ses_ENABLE).foldl (fun y i => y.onSes i (fun x =>
        if x.peerCert.isEmpty || d1.chainValid x.peerCert then x else { x with resume := none, peerCert := [], certExpires := none })) d1
      (want.filter (fun i => d2.cfgB Od.ses_ENABLE i)).foldl (fun y i => if (y.ses i).state = .closed then y.openSession i false else y) d2)) ∧
  (∀ (s : State) (i : StartIn) (t : Ticks),
    let d := s.dev.at_ t
    s.dev.boots = true →
    d.flt.chipSafe = false ∧ d.sys.phase ≠ .minimal →
    Does (.restart 1 i t) s t (fun d => d.enterReset.start i 6)) ∧
  (∀ (s : State) (t : Ticks),
    s.dev.sys.phase ≠ .off →
    Does (.vddAonLoss t) s t (fun d =>
      let d1 := if d.sys.phase = .off then d else d.enterReset
      { d1 with sys.phase := .off, que.man.retention := false, cry.lcy.nonce := none })) ∧
  (∀ (s : State) (i : StartIn) (t : Ticks),
    let d := s.dev.at_ t
    s.dev.acts = true →
    d.sys.restartAs = some 5 ∧ d.flt.chipSafe = false →
    Does (.warmReset i t) s t (fun d => d.enterReset.start i 5)) ∧
  (∀ (s : State) (low t : Ticks),
    let d := s.dev.at_ t
    s.dev.sys.phase ≠ .off →
    us ≤ low →
    d.sys.phase = .running ∨ d.sys.phase = .starting →
    Does (.powerFail low [] t) s t (fun d => d.powerFail.onFls (fun f => { f with half := dedup (f.half ++ []) }))) ∧
  (∀ (s : State) (t : Ticks),
    let d := s.dev.at_ t
    s.dev.sys.phase ≠ .off →
    d.man.saving = true ∧ d.man.parked = false →
    Does (.saveComplete t) s t (fun d =>
      let m := d.man
      let a : SavedArea := { items := d.toSave, streams := d.streamsToSave.1, cells := d.streamsToSave.2, journal := if d.isStandby then d.fry.twin.applied else d.fry.twin.journal }
      { d.onMan (fun m0 => { (m0.newestSave m.saveArea) with saved := m0.saved.ins m.saveArea a, parked := true, lastSave := d.now - m.saveStart, acceptedSince := false, saveLog := .saveEnd m.saveNumber m.saveArea a.blocks.length a.crc :: m0.saveLog }) with
        fls.units := (a.units m.saveArea).foldl (fun t u => t.ins u.1 u.2) d.fls.units })) ∧
  (∀ (s : State) (t : Ticks),
    let d := s.dev.at_ t
    s.dev.acts = true →
    d.flt.chipSafe = false →
    d.fry.twin.role ≠ .active →
    Does (.shutdown 1 t) s t (fun d => d.powerFail)) ∧
  (∀ (s : State) (t : Ticks),
    let d := s.dev.at_ t
    s.dev.acts = true →
    d.flt.chipSafe = false →
    d.fry.twin.role = .active →
    Does (.shutdown 1 t) s t (fun d => d.yieldNow.onMan (fun m => { m with shutdown := true }))) ∧
  (∀ (s : State) (a : Fin 2) (t : Ticks),
    let d := s.dev.at_ t
    s.dev.acts = true →
    d.man.area a = .erasing ∧ d.man.restoreHold = false →
    Does (.saveAreaEraseDone a t) s t (fun d => ({ d.onMan (fun m => { (m.setArea a .erased) with saved := m.saved.del a }) with
      fls.units := d.fls.units.filter (fun u => !(decide (256 + 512 * (a : Nat) ≤ u.1 / 512) && decide (u.1 / 512 < 512 + 512 * (a : Nat)))) } : Dev).noteGate)) ∧
  (∀ (s : State) (i : StartIn) (c : ChartSwitch) (t : Ticks),
    let d := s.dev.at_ t
    s.dev.acts = true →
    d.obj.switch = some c →
    c.committed = true ∧ c.instant ≤ d.now ∧ d.flt.chipSafe = false →
    Does (.chartSwitchInstant i t) s t (fun d => ({ d with obj := { d.obj with marked := some c.slot, switch := none } } : Dev).enterReset.start i 3))

/-- A wrapped-key record opens, under the wrapping key it was written with, to the policy and the key it was written from. For
every 32-byte wrapping key, write counter, slot number, generation, 16-byte policy and key whose length is the policy's LENGTH
byte and at most 64: the record's bytes are 128, and recordOpen of them gives that policy and that key (that the write counter
is the 96-bit IV is the model's choice, log entry 169). -/
def Obligations.WrappedKeyRecordOpens : Prop :=
  (∀ (wk : Bytes) (n s g : Nat) (policy key : Bytes),
    wk.length = 32 →
    policy.length = 16 →
    leAt policy 6 1 = key.length ∧ key.length ≤ 64 →
    (recordBytes wk n s g policy key).length = 128 ∧ recordOpen wk (recordBytes wk n s g policy key) = some (policy, key))

/-- The words of every listed deckhand instruction are no illegal encoding, and a third LIMM and a LIMM before any other
instruction are one. Whatever words follow: the words of RR, of MOVI, ADDI and CMPI, BR, CALL, LOOP, loads and stores with none,
one or two LIMMs, and of SHI, SKcc, JR, CALLR, the four SYS codes, MFS, MTS and every listed misc and unit sub-op, at every
operand value (r = 0 where the table says so), are not illegal. Three LIMMs in a row are an illegal opcode of three words, cause
0x02. One or two LIMMs before RR, SHI, SKcc, JR, CALLR, SYS, MFS, MTS or a sub-op are one of the LIMMs and that word, with cause
0x01 (the model's choice of cause, log entry 167). -/
def Obligations.ListedLaneWordsAreLegal : Prop :=
  (∀ (op : AluOp) (a b : Fin 16) (rest : List DhWord),
    dhIllegal (dhRrCode op.code a b ++ rest) = none) ∧
  (∀ (op : Fin 3) (a : Fin 16) (own : BitVec 6) (l : List (BitVec 11)) (rest : List DhWord),
    l.length ≤ 2 →
    dhIllegal (dhRiCode op a own l ++ rest) = none) ∧
  (∀ (a : Fin 16) (own : BitVec 6) (rest : List DhWord),
    dhIllegal (dhRiCode 3 a own [] ++ rest) = none) ∧
  (∀ (call : Bool) (own : BitVec 10) (l : List (BitVec 11)) (rest : List DhWord),
    l.length ≤ 2 →
    dhIllegal (dhBrCode call own l ++ rest) = none) ∧
  (∀ (a : Fin 16) (own : BitVec 6) (l : List (BitVec 11)) (rest : List DhWord),
    l.length ≤ 2 →
    dhIllegal (dhLoopCode a own l ++ rest) = none) ∧
  (∀ (k : Fin 3) (a : Fin 16) (rest : List DhWord),
    dhIllegal (dhControlCode k a ++ rest) = none) ∧
  (∀ (k : Fin 4) (rest : List DhWord),
    dhIllegal (dhSysCode k ++ rest) = none) ∧
  (∀ (store : Bool) (width : Fin 3) (r : Fin 16) (base : Fin 8) (l : List (BitVec 11)) (rest : List DhWord),
    l.length ≤ 2 →
    dhIllegal (dhMemCode store width r base l ++ rest) = none) ∧
  (∀ (write : Bool) (sr r : Fin 16) (rest : List DhWord),
    dhIllegal (dhMoveCode write sr r ++ rest) = none) ∧
  (∀ (sub : Fin 14) (r : Fin 16) (rest : List DhWord),
    sub = 6 ∨ sub = 8 ∨ sub = 13 →
    r = 0 →
    dhIllegal (dhSubCode false sub r ++ rest) = none) ∧
  (∀ (sub : Fin 14) (r : Fin 16) (rest : List DhWord),
    sub ≠ 6 ∧ sub ≠ 8 ∧ sub ≠ 13 →
    dhIllegal (dhSubCode false sub r ++ rest) = none) ∧
  (∀ (sub : Fin 12) (r : Fin 16) (rest : List DhWord),
    dhIllegal (dhSubCode true sub r ++ rest) = none) ∧
  (∀ (rest : List DhWord),
    dhIllegal (dhSubCode true 12 0 ++ rest) = none) ∧
  (∀ (a b c : BitVec 11) (rest : List DhWord),
    dhIllegal (limmWords [a, b, c] ++ rest) = some (3, 0x02)) ∧
  (∀ (l : List (BitVec 11)) (w : DhWord) (rest : List DhWord),
    l.length = 1 ∨ l.length = 2 →
    (∃ (op : AluOp) (a b : Fin 16), dhRrCode op.code a b = [w]) ∨ (∃ (a : Fin 16) (own : BitVec 6), dhRiCode 3 a own [] = [w]) ∨
      (∃ (k : Fin 3) (a : Fin 16), dhControlCode k a = [w]) ∨ (∃ k : Fin 4, dhSysCode k = [w]) ∨
      (∃ (write : Bool) (sr r : Fin 16), dhMoveCode write sr r = [w]) ∨ (∃ (unit : Bool) (sub r : Fin 16), dhSubCode unit sub r = [w]) →
    dhIllegal (limmWords l ++ w :: rest) = some (l.length + 1, 0x01))

/-- A fault that finds the collector's parity failed or a pair of its configuration words broken asks for chip safe state. For
every device and every fault of any source, instance, origin and detail: where the collector's parity has failed, or a
configuration word that the fault uses does not agree with the complement held beside it, the fault leaves COLLECTOR_FAULT set
and chip safe state among what is to be done, whatever severity the source itself has (which words a fault uses is the model's
choice, log entry 159). -/
def Obligations.BrokenCollectorGoesToChipSafe : Prop :=
  (∀ (d : Dev) (src inst : Nat) (origin : Option (Nat × Nat)) (detail : List Int),
    d.flt.parityBad = true →
    (d.fault src inst origin detail).flt.collectorFault = true ∧ FaultAct.chipSafe ∈ (d.fault src inst origin detail).flt.todo) ∧
  (∀ (d : Dev) (src inst : Nat) (origin : Option (Nat × Nat)) (detail : List Int),
    (collectorWords src).all (fun w => d.pairOk w.1 w.2) = false →
    (d.fault src inst origin detail).flt.collectorFault = true ∧ FaultAct.chipSafe ∈ (d.fault src inst origin detail).flt.todo)
end

