-- ==== Sys2Proof/Laws/Tab.lean ====
section
/-!
SUPPORT. Sparse tables: what a key reads as after a change, and that every change keeps the canonical form.
-/
namespace Sys2Proof.Machine

variable {α : Type}

theorem Tab.find_cons (x k : Nat) (w : α) (t : Tab α) : Tab.find ((x, w) :: t) k = if k = x then some w else t.find k := rfl

@[simp] theorem Tab.find_ins (t : Tab α) (q k : Nat) (v : α) : (Tab.ins t q v).find k = if k = q then some v else t.find k := by
  induction t with
  | nil => rfl
  | cons e t ih =>
    obtain ⟨x, w⟩ := e
    unfold Tab.ins
    split
    · rfl
    · split
      · next h => subst h; simp only [Tab.find_cons]; split <;> rfl
      · next h =>
        simp only [Tab.find_cons, ih]
        by_cases hx : k = x
        · rw [if_pos hx, if_neg (by omega), if_pos hx]
        · rw [if_neg hx, if_neg hx]

@[simp] theorem Tab.find_del (t : Tab α) (q k : Nat) : (Tab.del t q).find k = if k = q then none else t.find k := by
  induction t with
  | nil => simp [Tab.del, Tab.find]
  | cons e t ih =>
    obtain ⟨x, w⟩ := e
    unfold Tab.del
    split
    · next h =>
      subst h
      rw [ih, Tab.find_cons]
      split <;> rfl
    · next h =>
      simp only [Tab.find_cons, ih]
      by_cases hx : k = x
      · rw [if_pos hx, if_neg (by omega), if_pos hx]
      · rw [if_neg hx, if_neg hx]

theorem Tab.risingFrom_mono (t : Tab α) (h : Tab.risingFrom b t = true) (hc : c ≤ b) : Tab.risingFrom c t = true := by
  cases t with
  | nil => rfl
  | cons e t =>
    simp only [Tab.risingFrom, Bool.and_eq_true, decide_eq_true_eq] at h ⊢
    exact ⟨by omega, h.2⟩

theorem Tab.risingFrom_ins (t : Tab α) (q : Nat) (v : α) (h : Tab.risingFrom b t = true) (hq : b ≤ q) :
    Tab.risingFrom b (Tab.ins t q v) = true := by
  induction t generalizing b with
  | nil => simp [Tab.ins, Tab.risingFrom, hq]
  | cons e t ih =>
    obtain ⟨x, w⟩ := e
    simp only [Tab.risingFrom, Bool.and_eq_true, decide_eq_true_eq] at h
    unfold Tab.ins
    split
    · simp only [Tab.risingFrom, Bool.and_eq_true, decide_eq_true_eq]; exact ⟨hq, by omega, h.2⟩
    · split
      · next hx => subst hx; simp only [Tab.risingFrom, Bool.and_eq_true, decide_eq_true_eq]; exact ⟨hq, h.2⟩
      · simp only [Tab.risingFrom, Bool.and_eq_true, decide_eq_true_eq]; exact ⟨h.1, ih h.2 (by omega)⟩

theorem Tab.risingFrom_del (t : Tab α) (q : Nat) (h : Tab.risingFrom b t = true) : Tab.risingFrom b (Tab.del t q) = true := by
  induction t generalizing b with
  | nil => rfl
  | cons e t ih =>
    obtain ⟨x, w⟩ := e
    simp only [Tab.risingFrom, Bool.and_eq_true, decide_eq_true_eq] at h
    unfold Tab.del
    split
    · exact Tab.risingFrom_mono _ (ih h.2) (by omega)
    · simp only [Tab.risingFrom, Bool.and_eq_true, decide_eq_true_eq]; exact ⟨h.1, ih h.2⟩

theorem Tab.risingFrom_filter (t : Tab α) (p : Nat × α → Bool) (h : Tab.risingFrom b t = true) :
    Tab.risingFrom b (List.filter p t) = true := by
  induction t generalizing b with
  | nil => rfl
  | cons e t ih =>
    simp only [Tab.risingFrom, Bool.and_eq_true, decide_eq_true_eq] at h
    rw [List.filter_cons]
    split
    · simp only [Tab.risingFrom, Bool.and_eq_true, decide_eq_true_eq]; exact ⟨h.1, ih h.2⟩
    · exact Tab.risingFrom_mono _ (ih h.2) (by omega)

theorem Tab.mem_ins (t : Tab α) (q : Nat) (v : α) (e : Nat × α) (h : e ∈ Tab.ins t q v) : e = (q, v) ∨ e ∈ t := by
  induction t with
  | nil => simpa [Tab.ins] using h
  | cons a t ih =>
    unfold Tab.ins at h
    split at h
    · exact List.mem_cons.mp h
    · split at h
      · rcases List.mem_cons.mp h with h | h
        · exact .inl h
        · exact .inr (List.mem_cons_of_mem _ h)
      · rcases List.mem_cons.mp h with h | h
        · exact .inr (h ▸ List.mem_cons_self)
        · exact (ih h).imp_right (List.mem_cons_of_mem _)

theorem Tab.mem_del (t : Tab α) (q : Nat) (e : Nat × α) (h : e ∈ Tab.del t q) : e ∈ t := by
  induction t with
  | nil => exact h
  | cons a t ih =>
    unfold Tab.del at h
    split at h
    · exact List.mem_cons_of_mem _ (ih h)
    · rcases List.mem_cons.mp h with h | h
      · exact h ▸ List.mem_cons_self
      · exact List.mem_cons_of_mem _ (ih h)

theorem Tab.find_filter (t : Tab α) (p : Nat → Bool) (k : Nat) :
    Tab.find (List.filter (fun e => p e.1) t) k = if p k then t.find k else none := by
  induction t with
  | nil => simp [Tab.find]
  | cons e t ih =>
    obtain ⟨x, w⟩ := e
    rw [List.filter_cons, Tab.find_cons]
    by_cases hx : k = x
    · subst hx; by_cases hp : p k <;> simp [hp, Tab.find_cons, ih]
    · by_cases hp : p x <;> simp [hp, Tab.find_cons, ih, hx]

variable [DecidableEq α]

/-- The canonical form, in words: keys rising, no entry equal to the unlisted value. -/
theorem Tab.wf_iff (dflt : α) (t : Tab α) : Tab.wf dflt t = true ↔ Tab.risingFrom 0 t = true ∧ ∀ e ∈ t, e.2 ≠ dflt := by
  simp [Tab.wf, Tab.rising]

theorem Tab.wf_put (dflt : α) (t : Tab α) (q : Nat) (v : α) (h : Tab.wf dflt t = true) : Tab.wf dflt (Tab.put dflt t q v) = true := by
  rw [Tab.wf_iff] at h ⊢
  unfold Tab.put
  split
  · exact ⟨Tab.risingFrom_del t q h.1, fun e he => h.2 e (Tab.mem_del t q e he)⟩
  · next hv =>
    refine ⟨Tab.risingFrom_ins t q v h.1 (by omega), fun e he => ?_⟩
    rcases Tab.mem_ins t q v e he with rfl | he
    · exact hv
    · exact h.2 e he

theorem Tab.wf_filter (dflt : α) (t : Tab α) (p : Nat × α → Bool) (h : Tab.wf dflt t = true) : Tab.wf dflt (List.filter p t) = true := by
  rw [Tab.wf_iff] at h ⊢
  exact ⟨Tab.risingFrom_filter t p h.1, fun e he => h.2 e (List.mem_filter.mp he).1⟩

/-- Read after write: the key written reads as the value, and every other key as before. -/
@[simp] theorem Tab.get_put (dflt : α) (t : Tab α) (q k : Nat) (v : α) :
    Tab.get dflt (Tab.put dflt t q v) k = if k = q then v else Tab.get dflt t k := by
  unfold Tab.get Tab.put
  split
  · next hv => rw [Tab.find_del]; split <;> simp_all
  · rw [Tab.find_ins]; split <;> simp_all

end Sys2Proof.Machine
end

