-- ==== Sys2Proof/Laws/Memory.lean ====
section
/-!
SUPPORT. Memory: read after write, and that every memory operation keeps the canonical form.
-/
namespace Sys2Proof.Machine

theorem memWrite_wf (m : Tab Byte) (a : Nat) (b : Bytes) (h : Memory.wf m = true) : Memory.wf (memWrite m a b) = true := by
  induction b generalizing m a with
  | nil => exact h
  | cons x t ih => exact ih _ _ (Tab.wf_put 0 m a x h)

theorem memPut_wf (m : Tab Byte) (a n v : Nat) (h : Memory.wf m = true) : Memory.wf (memPut m a n v) = true :=
  memWrite_wf m a _ h

theorem memClear_wf (m : Tab Byte) (a n : Nat) (h : Memory.wf m = true) : Memory.wf (memClear m a n) = true :=
  Tab.wf_filter 0 m _ h

theorem memApply_wf (m : Tab Byte) (o : MemOp) (h : Memory.wf m = true) : Memory.wf (memApply m o) = true := by
  cases o with
  | put a b => exact memWrite_wf m a b h
  | clear a n => exact memClear_wf m a n h

theorem memWriteAll_wf (m : Tab Byte) (l : List MemOp) (h : Memory.wf m = true) : Memory.wf (memWriteAll m l) = true := by
  induction l generalizing m with
  | nil => exact h
  | cons o t ih => exact ih _ (memApply_wf m o h)

/-- A byte after a write: the byte written to its place, or the byte that stood there. -/
theorem memByte_write (m : Tab Byte) (a k : Nat) (b : Bytes) :
    memByte (memWrite m a b) k = if a ≤ k ∧ k < a + b.length then (b[k - a]?).getD 0 else memByte m k := by
  induction b generalizing m a with
  | nil =>
    rw [if_neg (by simp only [List.length_nil]; omega)]
    rfl
  | cons x t ih =>
    rw [memWrite, ih]
    simp only [memByte, Tab.get_put, List.length_cons]
    by_cases h1 : k = a
    · subst h1; rw [if_neg (by omega), if_pos (by omega)]; simp
    · by_cases h2 : a + 1 ≤ k ∧ k < a + 1 + t.length
      · have h3 : a ≤ k ∧ k < a + (t.length + 1) := by omega
        have h4 : k - a = (k - (a + 1)) + 1 := by omega
        rw [if_pos h2, if_pos h3, h4, List.getElem?_cons_succ]
      · have h3 : ¬ (a ≤ k ∧ k < a + (t.length + 1)) := by omega
        rw [if_neg h2, if_neg h3, if_neg h1]

/-- Bytes outside a write stay. -/
theorem memByte_write_outside (m : Tab Byte) (a k : Nat) (b : Bytes) (hk : k < a ∨ a + b.length ≤ k) :
    memByte (memWrite m a b) k = memByte m k := by
  rw [memByte_write m a k b, if_neg (by omega)]

/-- A byte after a range is cleared. -/
theorem memByte_clear (m : Tab Byte) (a n k : Nat) : memByte (memClear m a n) k = if a ≤ k ∧ k < a + n then 0 else memByte m k := by
  have h := Tab.find_filter m (fun x => !(decide (a ≤ x) && decide (x < a + n))) k
  unfold memByte Tab.get memClear
  rw [h]
  by_cases hk : a ≤ k ∧ k < a + n
  · simp [hk]
  · rw [if_neg hk, if_pos (by simp; omega)]

theorem Memory.wf_nil : Memory.wf [] = true := rfl

end Sys2Proof.Machine
end

