-- ==== Sys2Proof/Laws/Run.lean ====
section
/-!
SUPPORT. The shared ways in which a command reaches the device: what each can do, said once.
-/
namespace Sys2Proof.Machine

@[simp] theorem State.withDev_pending (s : State) (d : Dev) : (s.withDev d).pending = s.pending := rfl

@[simp] theorem State.withDev_bufOut (s : State) (d : Dev) : (s.withDev d).dev.bufOut = [] := rfl

theorem State.withDev_mem (s : State) (d : Dev) : (s.withDev d).mem = memWriteAll s.mem d.bufOut := rfl

theorem State.withDev_dev (s : State) (d : Dev) : (s.withDev d).dev = { d with bufOut := [] } := rfl

theorem State.withDev_inv (s : State) (d : Dev) (h : s.inv = true) : (s.withDev d).inv = true :=
  memWriteAll_wf s.mem d.bufOut h

/-- The invariant is about memory alone. -/
theorem State.inv_of_mem (s x : State) (hm : x.mem = s.mem) (h : s.inv = true) : x.inv = true := by
  unfold State.inv at *; rw [hm]; exact h

/-- What every command that reaches the device does: a next state, with the invariant and the queue kept. -/
structure Kept (s : State) (o : Host.Outcome State Fault Refusal) : Prop where
  answers : ∃ s', o = .next s'
  inv : ∀ s', o = .next s' → s.inv = true → s'.inv = true
  queue : ∀ s', o = .next s' → s'.pending = s.pending

theorem Kept.of_next {s x : State} (hi : s.inv = true → x.inv = true) (hq : x.pending = s.pending) : Kept s (.next x) :=
  ⟨⟨x, rfl⟩, fun s' e h => by cases e; exact hi h, fun s' e => by cases e; exact hq⟩

/-- Where a device acts, its command's state follows; where it does not, only chip time passes. -/
theorem Kept.of_ite {s x y : State} {c : Prop} [Decidable c] (hx : s.inv = true → x.inv = true) (hxq : x.pending = s.pending)
    (hy : y.mem = s.mem) (hyq : y.pending = s.pending) : Kept s (.next (if c then x else y)) := by
  split
  · exact .of_next hx hxq
  · exact .of_next (State.inv_of_mem s y hy) hyq

theorem State.run_kept (s : State) (t : Ticks) (f : Dev → Dev) : Kept s (s.run t f) :=
  .of_ite (State.withDev_inv s _) rfl rfl rfl

theorem State.write_kept (s : State) (t : Ticks) (f : Dev → Dev) : Kept s (s.write t f) := s.run_kept t _

theorem State.action_kept (s : State) (t : Ticks) (f : Dev → Dev) : Kept s (s.action t f) := s.write_kept t _

theorem State.work_kept (s : State) (t : Ticks) (f : Dev → Dev) : Kept s (s.work t f) := s.run_kept t _

theorem State.tagRun_kept (s : State) (t : Ticks) (f : Dev → Dev) : Kept s (s.tagRun t f) := .of_next (fun h => h) rfl

theorem State.boot_kept (s : State) (t : Ticks) (f : Dev → Dev) : Kept s (s.boot t f) :=
  .of_ite (State.withDev_inv s _) rfl rfl rfl

theorem State.bootWrite_kept (s : State) (t : Ticks) (f : Dev → Dev) : Kept s (s.bootWrite t f) := s.boot_kept t _

theorem State.watch_kept (s : State) (t : Ticks) (f : Dev → Dev) : Kept s (s.watch t f) := by
  unfold State.watch
  split
  · exact .of_next (fun h => h) rfl
  · exact .of_next (State.withDev_inv s _) rfl

theorem State.tap_kept (s : State) (t : Ticks) (f : Dev → Dev) : Kept s (s.tap t f) := by
  unfold State.tap
  split <;> exact .of_next (fun h => h) rfl

theorem State.runM_kept (s : State) (t : Ticks) (f : Dev → (Nat → Nat → Bytes) → Dev) : Kept s (s.runM t f) := s.run_kept t _

theorem State.runS_kept (s : State) (t : Ticks) (f : State → State)
    (hf : ∀ x : State, x.inv = true → (f x).inv = true) : Kept s (s.runS t f) :=
by
  unfold State.runS
  have hg := hf { s with dev := s.dev.at_ t }
  generalize f { s with dev := s.dev.at_ t } = x at hg ⊢
  dsimp only
  generalize x.dev.settle = d
  split
  · exact .of_next (fun h => State.inv_of_mem (x.withDev d) _ rfl (State.withDev_inv x d (hg (State.inv_of_mem s _ rfl h)))) rfl
  · exact .of_next (State.inv_of_mem s _ rfl) rfl

/-- A device that acts: the command's effect, then what follows from it. -/
theorem State.run_acts (s : State) (t : Ticks) (f : Dev → Dev) (h : s.dev.acts = true) :
    s.run t f = .next (s.withDev (f (s.dev.at_ t)).settle) := by
  unfold State.run; rw [if_pos h]

/-- A device that does not act: only chip time passes. -/
theorem State.run_idle (s : State) (t : Ticks) (f : Dev → Dev) (h : s.dev.acts = false) :
    s.run t f = .next { s with dev := s.dev.at_ t } := by
  unfold State.run; rw [if_neg (by simp [h])]

theorem State.write_acts (s : State) (t : Ticks) (f : Dev → Dev) (h : s.dev.acts = true) (hs : (s.dev.at_ t).flt.chipSafe = false) :
    s.write t f = .next (s.withDev (f (s.dev.at_ t)).settle) := by
  unfold State.write; rw [State.run_acts _ _ _ h, if_neg (by simp [hs])]

theorem State.action_acts (s : State) (t : Ticks) (f : Dev → Dev) (h : s.dev.acts = true) (hs : (s.dev.at_ t).flt.chipSafe = false)
    (hb : (s.dev.at_ t).isStandby = false) : s.action t f = .next (s.withDev (f (s.dev.at_ t)).settle) := by
  unfold State.action; rw [State.write_acts _ _ _ h hs, if_neg (by simp [hb])]

theorem State.work_acts (s : State) (t : Ticks) (f : Dev → Dev) (h : s.dev.acts = true) (hs : (s.dev.at_ t).flt.chipSafe = false) :
    s.work t f = .next (s.withDev (f (s.dev.at_ t)).settle) := by
  unfold State.work; rw [State.run_acts _ _ _ h, if_neg (by simp [hs])]

theorem State.boot_acts (s : State) (t : Ticks) (f : Dev → Dev) (h : s.dev.boots = true) :
    s.boot t f = .next (s.withDev (f (s.dev.at_ t)).settle) := by
  unfold State.boot; rw [if_pos h]

theorem State.bootWrite_acts (s : State) (t : Ticks) (f : Dev → Dev) (h : s.dev.boots = true)
    (hs : (s.dev.at_ t).flt.chipSafe = false) (hr : (s.dev.at_ t).sys.phase ≠ .recovery) :
    s.bootWrite t f = .next (s.withDev (f (s.dev.at_ t)).settle) := by
  unfold State.bootWrite; rw [State.boot_acts _ _ _ h, if_neg (by simp [hs, hr])]

theorem State.watch_acts (s : State) (t : Ticks) (f : Dev → Dev) (h : s.dev.sys.phase ≠ .off) :
    s.watch t f = .next (s.withDev (f (s.dev.at_ t)).settle) := by
  unfold State.watch; rw [if_neg h]

theorem State.runM_acts (s : State) (t : Ticks) (f : Dev → (Nat → Nat → Bytes) → Dev) (h : s.dev.acts = true) :
    s.runM t f = .next (s.withDev (f (s.dev.at_ t) (memRead s.mem)).settle) := State.run_acts s t _ h

theorem State.runS_acts (s : State) (t : Ticks) (f : State → State) (h : s.dev.acts = true) :
    s.runS t f = .next { ((f { s with dev := s.dev.at_ t }).withDev (f { s with dev := s.dev.at_ t }).dev.settle) with pending := s.pending } := by
  unfold State.runS; rw [if_pos h]

/-- Equal effects on the device are one next state. -/
theorem effect_congr (s : State) {a b : Dev} (h : a = b) :
    (Host.Outcome.next (s.withDev a.settle) : Host.Outcome State Fault Refusal) = .next (s.withDev b.settle) := by rw [h]

/-- Equal effects on the device and its memory are one next state. -/
theorem effect_congr_all (l : List Instr) {a b : State} (h : a = b) :
    (Host.Outcome.next { (a.withDev a.dev.settle) with pending := l } : Host.Outcome State Fault Refusal) =
      .next { (b.withDev b.dev.settle) with pending := l } := by rw [h]

/-- A command whose object write is accepted has the write's effect and answers nothing. -/
theorem answered_eq {r : Nat × Dev} {d : Dev} (h : r = (0, d)) : answered r = d := by
  subst h
  rfl

end Sys2Proof.Machine
end

