-- ==== Sys2Proof/Laws/Deckhand.lean ====
section
/-!
SUPPORT. A deckhand's operations keep the invariant of the state.
-/
namespace Sys2Proof.Machine

@[simp] theorem State.inv_onDev (s : State) (f : Dev → Dev) : (s.onDev f).inv = s.inv := rfl
@[simp] theorem State.inv_onDh (s : State) (n : Nat) (f : DhCore → DhCore) : (s.onDh n f).inv = s.inv := rfl
@[simp] theorem State.inv_dev (s : State) (d : Dev) : ({ s with dev := d } : State).inv = s.inv := rfl
@[simp] theorem State.inv_dhCycles (s : State) (n k : Nat) : (s.dhCycles n k).inv = s.inv := rfl
@[simp] theorem State.inv_dhZ (s : State) (n : Nat) (z : Bool) : (s.dhZ n z).inv = s.inv := rfl
@[simp] theorem State.inv_dhDouble (s : State) (n : Nat) (f : CoreFault) : (s.dhDouble n f).inv = s.inv := rfl

theorem State.inv_write (s : State) (a : Nat) (b : Bytes) (h : s.inv = true) : ({ s with mem := memWrite s.mem a b } : State).inv = true :=
  memWrite_wf s.mem a b h

theorem State.inv_put (s : State) (a n v : Nat) (h : s.inv = true) : ({ s with mem := memPut s.mem a n v } : State).inv = true :=
  memPut_wf s.mem a n v h

/-- The states that an instruction's own work may end in have the invariant. -/
def DhEnd.inv : DhEnd → Prop
  | .seq s => s.inv = true
  | .jump s _ => s.inv = true
  | .fault s _ => s.inv = true
  | .event s => s.inv = true
  | .stay => True

def BlockStep.inv : BlockStep → Prop
  | .more s => s.inv = true
  | .last s => s.inv = true
  | .fault s _ => s.inv = true

@[simp] theorem DhEnd.inv_seq (s : State) : (DhEnd.seq s).inv ↔ s.inv = true := Iff.rfl
@[simp] theorem DhEnd.inv_jump (s : State) (pc : Nat) : (DhEnd.jump s pc).inv ↔ s.inv = true := Iff.rfl
@[simp] theorem DhEnd.inv_fault (s : State) (f : CoreFault) : (DhEnd.fault s f).inv ↔ s.inv = true := Iff.rfl

theorem State.dhTake_inv (s : State) (n : Nat) (f : CoreFault) (h : s.inv = true) : (s.dhTake n f).inv = true := by
  unfold State.dhTake
  extract_lets m s1 c tsbp v e saved
  have h1 : s1.inv = true := h
  have h2 : saved.inv = true := State.inv_write s1 _ _ h1
  clear_value s1 saved
  repeat' split
  all_goals simp only [State.inv_onDev, State.inv_onDh, State.inv_dhDouble, h, h1, h2]

theorem State.dhNotice_inv (s : State) (n : Nat) (h : s.inv = true) : (s.dhNotice n).inv = true := by
  unfold State.dhNotice
  simp only
  split
  · exact State.dhTake_inv _ _ _ h
  · exact h

theorem State.dhEvent_inv (s : State) (n : Nat) (h : s.inv = true) : (s.dhEvent n).inv = true := by
  unfold State.dhEvent
  simp only
  split
  · exact State.dhTake_inv _ _ _ h
  · exact h

theorem State.deckhand_inv (s : State) (n len cycles : Nat) (body : State → DhEnd)
    (hb : ∀ x : State, x.inv = true → (body x).inv) (h : s.inv = true) : (s.deckhand n len cycles body).inv = true := by
  unfold State.deckhand
  simp only
  split
  · exact h
  · split
    · exact State.dhNotice_inv _ _ h
    · split
      · exact State.dhTake_inv _ _ _ h
      · have hs := hb (s.onDh n (fun c => { c with shadow := false })) h
        split <;> rename_i e <;> rw [e] at hs
        · exact State.dhNotice_inv _ _ hs
        · exact State.dhNotice_inv _ _ hs
        · exact State.dhTake_inv _ _ _ hs
        · exact State.dhTake_inv _ _ _ hs
        · exact h

theorem State.dhReg_inv (s : State) (n len cycles : Nat) (f : DhCore → DhCore) (h : s.inv = true) : (s.dhReg n len cycles f).inv = true :=
  State.deckhand_inv s n len cycles _ (fun _ hx => hx) h

theorem State.dhLimm_inv (s : State) (n : Nat) (l : List (BitVec 11)) (cycles : Nat) (body : State → DhEnd)
    (hb : ∀ x : State, x.inv = true → (body x).inv) (h : s.inv = true) : (s.dhLimm n l cycles body).inv = true := by
  refine State.deckhand_inv _ _ _ _ _ (fun x hx => ?_) h
  split
  · exact hx
  · exact hb x hx

theorem State.dhBranch_inv (s : State) (n : Nat) (own : BitVec 10) (l : List (BitVec 11)) (link : Bool) (h : s.inv = true) :
    (s.dhBranch n own l link).inv = true := by
  refine State.dhLimm_inv _ _ _ _ _ (fun x hx => ?_) h
  simp only [DhEnd.inv]; split <;> exact hx

theorem State.dhJump_inv (s : State) (n : Nat) (r : Fin 16) (link : Bool) (h : s.inv = true) : (s.dhJump n r link).inv = true := by
  refine State.deckhand_inv _ _ _ _ _ (fun x hx => ?_) h
  simp only [DhEnd.inv]; split <;> exact hx

theorem State.dhLoop_inv (s : State) (n : Nat) (r : Fin 16) (own : BitVec 6) (l : List (BitVec 11)) (h : s.inv = true) :
    (s.dhLoop n r own l).inv = true := by
  refine State.dhLimm_inv _ _ _ _ _ (fun x hx => ?_) h
  simp only
  split
  · exact hx
  · split <;> exact hx

theorem State.dhSkip_inv (s : State) (n cc : Nat) (h : s.inv = true) : (s.dhSkip n cc).inv = true :=
  State.deckhand_inv _ _ _ _ _ (fun _ hx => hx) h

theorem State.dhWait_inv (s : State) (n : Nat) (h : s.inv = true) : (s.dhWait n).inv = true := by
  refine State.deckhand_inv _ _ _ _ _ (fun x hx => ?_) h
  split <;> exact hx

theorem State.dhTret_inv (s : State) (n : Nat) (h : s.inv = true) : (s.dhTret n).inv = true := by
  refine State.deckhand_inv _ _ _ _ _ (fun x hx => ?_) h
  extract_lets c a s1
  split
  · simp only [DhEnd.inv_jump, s1, State.inv_onDh, hx]
  · exact hx

theorem State.dhCheck_inv (s : State) (n a w : Nat) (write block : Bool) (h : s.inv = true) :
    ∀ x, s.dhCheck n a w write block = some x → x.1.inv = true := by
  intro x e
  unfold State.dhCheck at e
  simp only at e
  split at e
  · cases e; exact h
  · split at e
    · cases e
    · cases e; exact h

theorem State.dhLoad_inv (s : State) (n a w : Nat) (block : Bool) (h : s.inv = true) :
    ∀ x, s.dhLoad n a w block = .inl x → x.1.inv = true := by
  intro x e
  unfold State.dhLoad at e
  split at e
  · cases e; exact State.dhCheck_inv s n a w false block h _ (by assumption)
  · split at e
    · cases e
    · cases e; exact h

/-- A store keeps the invariant, whether it is carried out, posted or refused. -/
theorem State.dhStore_inv (s : State) (n a w v : Nat) (block : Bool) (h : s.inv = true) :
    (∀ x, s.dhStore n a w v block = .inl x → x.1.inv = true) ∧ (∀ x, s.dhStore n a w v block = .inr x → x.inv = true) := by
  unfold State.dhStore
  simp only
  split
  · next x e =>
    refine ⟨fun y ey => ?_, fun y ey => by cases ey⟩
    cases ey; exact State.dhCheck_inv s n a w true block h _ e
  · split
    · exact ⟨fun y ey => (by cases ey), fun y ey => by cases ey; exact State.inv_put _ _ _ _ h⟩
    · split
      · exact ⟨fun y ey => (by cases ey), fun y ey => by cases ey; exact State.inv_put _ _ _ _ h⟩
      · split
        · split
          · exact ⟨fun y ey => (by cases ey), fun y ey => by cases ey; exact h⟩
          · split
            · exact ⟨fun y ey => (by cases ey; exact h), fun y ey => by cases ey⟩
            · exact ⟨fun y ey => (by cases ey), fun y ey => by cases ey; exact h⟩
        · split
          · exact ⟨fun y ey => (by cases ey; exact h), fun y ey => by cases ey⟩
          · exact ⟨fun y ey => (by cases ey), fun y ey => by cases ey; exact h⟩

theorem State.dhPaired_inv (s : State) (n : Nat) (shadow : Bool) (body : State → DhEnd)
    (hb : ∀ x : State, x.inv = true → (body x).inv) (h : s.inv = true) : (s.dhPaired n shadow body).inv := by
  unfold State.dhPaired
  split
  · split
    · exact hb _ h
    · exact h
  · exact hb s h

theorem State.dhLd_inv (s : State) (n w : Nat) (r : Fin 16) (base : Fin 8) (l : List (BitVec 11)) (h : s.inv = true) :
    (s.dhLd n w r base l).inv = true := by
  refine State.dhLimm_inv _ _ _ _ _ (fun x hx => ?_) h
  split
  · exact State.dhLoad_inv x _ _ _ _ hx _ (by assumption)
  · exact hx

theorem State.dhSt_inv (s : State) (n w : Nat) (r : Fin 16) (base : Fin 8) (l : List (BitVec 11)) (shadow : Bool) (h : s.inv = true) :
    (s.dhSt n w r base l shadow).inv = true := by
  refine State.dhLimm_inv _ _ _ _ _ (fun x hx => State.dhPaired_inv _ _ _ _ (fun y hy => ?_) hx) h
  split
  · exact (State.dhStore_inv y _ _ _ _ _ hy).1 _ (by assumption)
  · exact (State.dhStore_inv y _ _ _ _ _ hy).2 _ (by assumption)

theorem State.dhMfsI_inv (s : State) (n : Nat) (r sr : Fin 16) (h : s.inv = true) : (s.dhMfsI n r sr).inv = true := by
  refine State.deckhand_inv _ _ _ _ _ (fun x hx => ?_) h
  split <;> exact hx

theorem State.dhMtsI_inv (s : State) (n : Nat) (sr r : Fin 16) (shadow : Bool) (h : s.inv = true) : (s.dhMtsI n sr r shadow).inv = true := by
  refine State.deckhand_inv _ _ _ _ _ (fun x hx => ?_) h
  split
  · exact hx
  · split
    · exact hx
    · refine State.dhPaired_inv _ _ _ _ (fun y hy => ?_) hx
      simp only; split <;> exact hy

theorem dhBlockFuel_inv (n : Nat) (step : State → BlockStep) (done : State → State)
    (hs : ∀ x : State, x.inv = true → (step x).inv) (hd : ∀ x : State, x.inv = true → (done x).inv = true) :
    ∀ (k : Nat) (upTo : Option Nat) (s : State), s.inv = true → (dhBlockFuel n step done k upTo s).inv := by
  intro k
  induction k with
  | zero => exact fun _ s h => hd s h
  | succ k ih =>
    intro upTo s h
    unfold dhBlockFuel
    split
    · exact hd s h
    · split
      · exact h
      · have hx := hs s h
        split <;> rename_i e <;> rw [e] at hx
        · exact ih _ _ hx
        · exact hx
        · exact hx

theorem State.dhBlock_inv (s : State) (n per : Nat) (dst : Bool) (upTo : Option Nat) (step : State → BlockStep) (done : State → State)
    (hs : ∀ x : State, x.inv = true → (step x).inv) (hd : ∀ x : State, x.inv = true → (done x).inv = true) (h : s.inv = true) :
    (s.dhBlock n per dst upTo step done).inv = true :=
  State.deckhand_inv _ _ _ _ _ (fun x hx => dhBlockFuel_inv n step done hs hd _ _ x hx) h

theorem dhMovsStep_inv (n : Nat) (s : State) (h : s.inv = true) : (dhMovsStep n s).inv := by
  unfold dhMovsStep
  simp only
  split
  · exact State.dhLoad_inv s _ _ _ _ h _ (by assumption)
  · split
    · exact (State.dhStore_inv s _ _ _ _ _ h).1 _ (by assumption)
    · next s1 e => exact (State.dhStore_inv s _ _ _ _ _ h).2 s1 e

theorem dhFilsStep_inv (n : Nat) (r : Fin 16) (s : State) (h : s.inv = true) : (dhFilsStep n r s).inv := by
  unfold dhFilsStep
  simp only
  split
  · exact (State.dhStore_inv s _ _ _ _ _ h).1 _ (by assumption)
  · next s1 e => exact (State.dhStore_inv s _ _ _ _ _ h).2 s1 e

theorem dhCmpsStep_inv (n : Nat) (s : State) (h : s.inv = true) : (dhCmpsStep n s).inv := by
  unfold dhCmpsStep
  simp only
  split
  · exact State.dhLoad_inv s _ _ _ _ h _ (by assumption)
  · exact State.dhLoad_inv s _ _ _ _ h _ (by assumption)
  · split <;> exact h

theorem dhScnsStep_inv (n : Nat) (r : Fin 16) (s : State) (h : s.inv = true) : (dhScnsStep n r s).inv := by
  unfold dhScnsStep
  simp only
  split
  · exact State.dhLoad_inv s _ _ _ _ h _ (by assumption)
  · split <;> exact h

theorem dhCrcsStep_inv (n : Nat) (r : Fin 16) (s : State) (h : s.inv = true) : (dhCrcsStep n r s).inv := by
  unfold dhCrcsStep
  simp only
  split
  · exact State.dhLoad_inv s _ _ _ _ h _ (by assumption)
  · exact h

theorem dhSumsStep_inv (n : Nat) (r : Fin 16) (s : State) (h : s.inv = true) : (dhSumsStep n r s).inv := by
  unfold dhSumsStep
  simp only
  split
  · exact State.dhLoad_inv s _ _ _ _ h _ (by assumption)
  · exact h

theorem State.dhFence_inv (s : State) (n : Nat) (shadow : Bool) (h : s.inv = true) : (s.dhFence n shadow).inv = true :=
  State.deckhand_inv _ _ _ _ _ (fun _ hx => State.dhPaired_inv _ _ _ _ (fun _ hy => hy) hx) h

/-! ## Unit operations -/

theorem State.dhUnit_inv (s : State) (n cycles : Nat) (ok shadow : Bool) (body : State → DhEnd)
    (hb : ∀ x : State, x.inv = true → (body x).inv) (h : s.inv = true) : (s.dhUnit n cycles ok shadow body).inv = true := by
  refine State.deckhand_inv _ _ _ _ _ (fun x hx => ?_) h
  split
  · exact State.dhPaired_inv _ _ _ _ hb hx
  · exact hx

theorem State.dhFetch_inv (s : State) (n a w : Nat) (h : s.inv = true) : ∀ x, s.dhFetch n a w = .inl x → x.1.inv = true := by
  intro x e
  unfold State.dhFetch at e
  split at e
  · next s1 f hc => cases e; exact State.dhCheck_inv s n a w false true h (s1, f) hc
  · split at e
    · cases e
    · cases e; exact h

theorem State.dhOffer_inv (s : State) (n : Nat) (r : Fin 16) (q : Nat) (o : Offer) (h : s.inv = true) : (s.dhOffer n r q o).inv := by
  unfold State.dhOffer
  split <;> first | exact h | trivial

theorem State.dhQpost_inv (s : State) (n : Nat) (r : Fin 16) (shadow : Bool) (h : s.inv = true) : (s.dhQpost n r shadow).inv = true := by
  refine State.dhUnit_inv _ _ _ _ _ _ (fun x hx => ?_) h
  simp only
  split
  · exact State.dhFetch_inv x _ _ _ hx _ (by assumption)
  · exact State.dhOffer_inv x _ _ _ _ hx

theorem State.dhLpost_inv (s : State) (n : Nat) (r : Fin 16) (shadow : Bool) (h : s.inv = true) : (s.dhLpost n r shadow).inv = true := by
  refine State.dhUnit_inv _ _ _ _ _ _ (fun x hx => ?_) h
  simp only
  split
  · exact State.dhFetch_inv x _ _ _ hx _ (by assumption)
  · exact State.dhOffer_inv x _ _ _ _ hx

theorem State.dhQtake_inv (s : State) (n : Nat) (r : Fin 16) (shadow : Bool) (h : s.inv = true) : (s.dhQtake n r shadow).inv = true := by
  refine State.dhUnit_inv _ _ _ _ _ _ (fun x hx => ?_) h
  split <;> exact hx

theorem State.dhQconf_inv (s : State) (n : Nat) (r : Fin 16) (shadow : Bool) (h : s.inv = true) : (s.dhQconf n r shadow).inv = true :=
  State.dhUnit_inv _ _ _ _ _ _ (fun _ hx => hx) h

theorem State.dhQrej_inv (s : State) (n : Nat) (r : Fin 16) (shadow : Bool) (h : s.inv = true) : (s.dhQrej n r shadow).inv = true :=
  State.dhUnit_inv _ _ _ _ _ _ (fun _ hx => hx) h

theorem State.dhFtake_inv (s : State) (n : Nat) (r : Fin 16) (shadow : Bool) (h : s.inv = true) : (s.dhFtake n r shadow).inv = true := by
  refine State.dhUnit_inv _ _ _ _ _ _ (fun x hx => ?_) h
  split <;> exact hx

theorem State.dhFdone_inv (s : State) (n : Nat) (r : Fin 16) (shadow : Bool) (h : s.inv = true) : (s.dhFdone n r shadow).inv = true :=
  State.dhUnit_inv _ _ _ _ _ _ (fun _ hx => hx) h

theorem State.dhFfwd_inv (s : State) (n : Nat) (r : Fin 16) (shadow : Bool) (h : s.inv = true) : (s.dhFfwd n r shadow).inv = true := by
  refine State.dhUnit_inv _ _ _ _ _ _ (fun x hx => ?_) h
  simp only
  split
  · split <;> exact hx
  · exact hx

theorem State.dhBvrd_inv (s : State) (n : Nat) (r : Fin 16) (shadow : Bool) (h : s.inv = true) : (s.dhBvrd n r shadow).inv = true :=
  State.dhUnit_inv _ _ _ _ _ _ (fun _ hx => hx) h

theorem State.dhClock_inv (s : State) (n : Nat) (r : Fin 16) (shadow : Bool) (h : s.inv = true) : (s.dhClock n r shadow).inv = true :=
  State.dhUnit_inv _ _ _ _ _ _ (fun _ hx => hx) h

theorem State.dhCfree_inv (s : State) (n : Nat) (r : Fin 16) (shadow : Bool) (h : s.inv = true) : (s.dhCfree n r shadow).inv = true := by
  refine State.dhUnit_inv _ _ _ _ _ _ (fun x hx => ?_) h
  simp only
  split <;> exact hx

theorem State.dhLevt_inv (s : State) (n : Nat) (r : Fin 16) (shadow : Bool) (h : s.inv = true) : (s.dhLevt n r shadow).inv = true :=
  State.dhUnit_inv _ _ _ _ _ _ (fun _ hx => hx) h

theorem State.dhWdog_inv (s : State) (n : Nat) (shadow : Bool) (h : s.inv = true) : (s.dhWdog n shadow).inv = true :=
  State.dhUnit_inv _ _ _ _ _ _ (fun _ hx => hx) h

/-- What an instruction of a lane that is ready does. -/
theorem State.deckhand_ready (s : State) (n len cycles : Nat) (body : State → DhEnd) (h : s.dev.dhReady n len = true) :
    s.deckhand n len cycles body =
      match body (s.dhFresh n) with
      | .seq s1 => s1.dhDone n len cycles
      | .jump s1 pc => s1.dhJumped n len cycles pc
      | .fault s1 f => s1.dhTake n f
      | .event s1 => s1.dhTake n { cause := 0x41 }
      | .stay => s := by
  simp only [Dev.dhReady, Bool.and_eq_true, Bool.not_eq_true', decide_eq_true_eq] at h
  unfold State.deckhand
  dsimp only
  rw [if_neg (by rw [h.1.1]; decide), if_neg (by rw [h.1.2]; decide), if_neg (by omega)]
  rfl

/-- A request of a lane that is not paired is carried out. -/
theorem State.dhPaired_single (s : State) (n : Nat) (shadow : Bool) (body : State → DhEnd) (h : s.dev.dhSingle n = true) :
    s.dhPaired n shadow body = body s := by
  unfold State.dhPaired
  rw [if_neg]
  intro hc
  unfold Dev.dhSingle at h
  rw [hc] at h
  exact absurd h (by decide)

/-- An instruction that only changes its lane's registers. -/
theorem State.dhReg_ready (s : State) (n len cycles : Nat) (f g : DhCore → DhCore) (h : s.dev.dhReady n len = true)
    (e : ∀ c, f c = g c) : s.dhReg n len cycles f = ((s.dhFresh n).onDh n g).dhDone n len cycles := by
  rw [show f = g from funext e]
  unfold State.dhReg
  rw [State.deckhand_ready _ _ _ _ _ h]

/-- An instruction with at most two LIMMs. -/
theorem State.dhLimm_ready (s : State) (n cycles : Nat) (l : List (BitVec 11)) (body : State → DhEnd)
    (h : s.dev.dhReady n (1 + l.length) = true) (hl : l.length ≤ 2) :
    s.dhLimm n l cycles body =
      match body (s.dhFresh n) with
      | .seq s1 => s1.dhDone n (1 + l.length) cycles
      | .jump s1 pc => s1.dhJumped n (1 + l.length) cycles pc
      | .fault s1 f => s1.dhTake n f
      | .event s1 => s1.dhTake n { cause := 0x41 }
      | .stay => s := by
  unfold State.dhLimm
  rw [State.deckhand_ready _ _ _ _ _ h, if_neg (by omega)]

theorem State.dhLimm_reg (s : State) (n cycles : Nat) (l : List (BitVec 11)) (f g : DhCore → DhCore)
    (h : s.dev.dhReady n (1 + l.length) = true) (hl : l.length ≤ 2) (e : ∀ c, f c = g c) :
    s.dhLimm n l cycles (fun s => .seq (s.onDh n f)) = ((s.dhFresh n).onDh n g).dhDone n (1 + l.length) cycles := by
  rw [show f = g from funext e, State.dhLimm_ready _ _ _ _ _ h hl]

/-- Only what a change does to the lane's present registers matters. -/
theorem State.onDh_congr (s : State) (n : Nat) (f g : DhCore → DhCore) (e : f (s.dev.dh n) = g (s.dev.dh n)) : s.onDh n f = s.onDh n g := by
  unfold State.onDh State.onDev
  dsimp only
  rw [e]

/-! ## The words of an instruction (R326) -/

@[simp] theorem length_limmWords (l : List (BitVec 11)) : (limmWords l).length = l.length := by simp [limmWords]

@[simp] theorem length_dhRrCode (op : Nat) (d s : Fin 16) : (dhRrCode op d s).length = 1 := rfl

@[simp] theorem length_dhRiCode (op : Nat) (d : Fin 16) (own : BitVec 6) (l : List (BitVec 11)) :
    (dhRiCode op d own l).length = 1 + l.length := by simp [dhRiCode, Nat.add_comm]

@[simp] theorem length_dhBrCode (call : Bool) (own : BitVec 10) (l : List (BitVec 11)) :
    (dhBrCode call own l).length = 1 + l.length := by simp [dhBrCode, Nat.add_comm]

@[simp] theorem length_dhLoopCode (s : Fin 16) (own : BitVec 6) (l : List (BitVec 11)) :
    (dhLoopCode s own l).length = 1 + l.length := by simp [dhLoopCode, Nat.add_comm]

@[simp] theorem length_dhControlCode (k : Nat) (v : Fin 16) : (dhControlCode k v).length = 1 := rfl

@[simp] theorem length_dhSysCode (k : Nat) : (dhSysCode k).length = 1 := rfl

@[simp] theorem length_dhMemCode (store : Bool) (w : Nat) (r : Fin 16) (base : Fin 8) (l : List (BitVec 11)) :
    (dhMemCode store w r base l).length = 1 + l.length := by simp [dhMemCode, Nat.add_comm]

@[simp] theorem length_dhMoveCode (write : Bool) (sr r : Fin 16) : (dhMoveCode write sr r).length = 1 := rfl

@[simp] theorem length_dhSubCode (unit : Bool) (sub : Nat) (r : Fin 16) : (dhSubCode unit sub r).length = 1 := rfl

/-- A deckhand's command that finds its words at the PC works. -/
theorem State.runDh_acts (s : State) (t : Ticks) (n : Nat) (w : List DhWord) (f : State → State) (h : s.dev.acts = true)
    (g : (s.dev.at_ t).dhHolds n w = true) : s.runDh t n w f = s.runS t f := by
  unfold State.runDh
  rw [State.runS_acts _ _ _ h, State.runS_acts _ _ _ h, if_pos g]

theorem State.runDh_kept (s : State) (t : Ticks) (n : Nat) (w : List DhWord) (f : State → State)
    (hf : ∀ x : State, x.inv = true → (f x).inv = true) : Kept s (s.runDh t n w f) := by
  refine State.runS_kept s t _ (fun x hx => ?_)
  split
  · exact hf x hx
  · exact hx

end Sys2Proof.Machine
end

