-- ==== Sys2Proof/Laws/Device.lean ====
section
/-!
SUPPORT. What the shared operations on the device leave alone: an event, a fault and a notice touch the collector, the
counters, the queues they are delivered to and the outputs, and nothing else.
-/
namespace Sys2Proof.Machine

/-- Two devices that differ at most where events, faults and notices leave their marks: counters of the object store,
queue positions, vectors and pins, the collector's records, and what goes out. -/
structure EventFrame (d e : Dev) : Prop where
  now : e.now = d.now
  free : e.free = d.free
  obj : e.obj = d.obj
  cmp : e.cmp = d.cmp
  lch : e.lch = d.lch
  net : e.net = d.net
  fry : e.fry = d.fry
  per : e.per = d.per
  ctl : e.ctl = d.ctl
  pwr : e.pwr = d.pwr
  lan : e.lan = d.lan
  sys : e.sys = d.sys
  cry : e.cry = d.cry
  cpu : e.cpu = d.cpu
  fls : e.fls = d.fls
  man : e.que.man = d.que.man
  convoys : e.que.convoys = d.que.convoys
  chipSafe : e.flt.chipSafe = d.flt.chipSafe
  hold : e.flt.hold = d.flt.hold
  safe : e.flt.safe = d.flt.safe
  armed : e.flt.armed = d.flt.armed
  monitor : e.flt.monitor = d.flt.monitor
  octs : e.od.direct.octs = d.od.direct.octs

theorem EventFrame.refl (d : Dev) : EventFrame d d := ⟨rfl, rfl, rfl, rfl, rfl, rfl, rfl, rfl, rfl, rfl, rfl, rfl, rfl, rfl, rfl, rfl, rfl, rfl, rfl, rfl, rfl, rfl, rfl⟩

theorem EventFrame.trans {d e f : Dev} (a : EventFrame d e) (b : EventFrame e f) : EventFrame d f :=
  ⟨b.now.trans a.now, b.free.trans a.free, b.obj.trans a.obj, b.cmp.trans a.cmp, b.lch.trans a.lch, b.net.trans a.net, b.fry.trans a.fry, b.per.trans a.per, b.ctl.trans a.ctl, b.pwr.trans a.pwr, b.lan.trans a.lan, b.sys.trans a.sys, b.cry.trans a.cry, b.cpu.trans a.cpu, b.fls.trans a.fls, b.man.trans a.man, b.convoys.trans a.convoys, b.chipSafe.trans a.chipSafe, b.hold.trans a.hold, b.safe.trans a.safe, b.armed.trans a.armed, b.monitor.trans a.monitor, b.octs.trans a.octs⟩

theorem EventFrame.ite {d x y : Dev} {c : Prop} [Decidable c] (hx : EventFrame d x) (hy : EventFrame d y) : EventFrame d (if c then x else y) := by
  split
  · exact hx
  · exact hy

/-! ## Each shared operation -/

theorem Dev.emit_frame (d : Dev) (o : Output) : EventFrame d (d.emit o) := ⟨rfl, rfl, rfl, rfl, rfl, rfl, rfl, rfl, rfl, rfl, rfl, rfl, rfl, rfl, rfl, rfl, rfl, rfl, rfl, rfl, rfl, rfl, rfl⟩
theorem Dev.setAt_frame (d : Dev) (r : OdRow) (i inst : Nat) (v : Int) : EventFrame d (d.setAt r i inst v) := ⟨rfl, rfl, rfl, rfl, rfl, rfl, rfl, rfl, rfl, rfl, rfl, rfl, rfl, rfl, rfl, rfl, rfl, rfl, rfl, rfl, rfl, rfl, rfl⟩
theorem Dev.set_frame (d : Dev) (r : OdRow) (inst : Nat) (v : Int) : EventFrame d (d.set r inst v) := d.setAt_frame r 0 inst v
theorem Dev.bump_frame (d : Dev) (r : OdRow) (inst : Nat) (n : Int) : EventFrame d (d.bump r inst n) := d.set_frame r inst _
theorem Dev.setQueue_frame (d : Dev) (q : Nat) (x : Queue) : EventFrame d (d.setQueue q x) := ⟨rfl, rfl, rfl, rfl, rfl, rfl, rfl, rfl, rfl, rfl, rfl, rfl, rfl, rfl, rfl, rfl, rfl, rfl, rfl, rfl, rfl, rfl, rfl⟩
theorem Dev.emitPf_frame (d : Dev) (pf : Nat) (o : Output) : EventFrame d (d.emitPf pf o) := .ite ⟨rfl, rfl, rfl, rfl, rfl, rfl, rfl, rfl, rfl, rfl, rfl, rfl, rfl, rfl, rfl, rfl, rfl, rfl, rfl, rfl, rfl, rfl, rfl⟩ (d.emit_frame o)
theorem Dev.vecs_frame (d : Dev) (v : Tab Vec) : EventFrame d { d with hif.vecs := v } := ⟨rfl, rfl, rfl, rfl, rfl, rfl, rfl, rfl, rfl, rfl, rfl, rfl, rfl, rfl, rfl, rfl, rfl, rfl, rfl, rfl, rfl, rfl, rfl⟩

theorem Dev.flt_frame (d : Dev) (f : Faults) (h : f.chipSafe = d.flt.chipSafe ∧ f.hold = d.flt.hold ∧ f.safe = d.flt.safe ∧
    f.armed = d.flt.armed ∧ f.monitor = d.flt.monitor) : EventFrame d { d with flt := f } := ⟨rfl, rfl, rfl, rfl, rfl, rfl, rfl, rfl, rfl, rfl, rfl, rfl, rfl, rfl, rfl, rfl, rfl, h.1, h.2.1, h.2.2.1, h.2.2.2.1, h.2.2.2.2, rfl⟩

theorem Dev.emitCpl_frame (d : Dev) (q pos : Nat) (r : CplRec) : EventFrame d (d.emitCpl q pos r) := by
  unfold Dev.emitCpl
  exact .ite ⟨rfl, rfl, rfl, rfl, rfl, rfl, rfl, rfl, rfl, rfl, rfl, rfl, rfl, rfl, rfl, rfl, rfl, rfl, rfl, rfl, rfl, rfl, rfl⟩ (d.emitPf_frame _ _)

theorem Dev.emitWork_frame (d : Dev) (q pos kind tag seq : Nat) (body : Bytes) (o : Output) :
    EventFrame d (d.emitWork q pos kind tag seq body o) := by
  unfold Dev.emitWork
  exact .ite ⟨rfl, rfl, rfl, rfl, rfl, rfl, rfl, rfl, rfl, rfl, rfl, rfl, rfl, rfl, rfl, rfl, rfl, rfl, rfl, rfl, rfl, rfl, rfl⟩ (d.emitPf_frame _ _)

theorem Dev.fireVec_frame (d : Dev) (v : Nat) : EventFrame d (d.fireVec v) := by
  unfold Dev.fireVec
  exact .ite (d.vecs_frame _) ((d.vecs_frame _).trans (Dev.emit_frame _ _))

theorem Dev.vecEvent_frame (d : Dev) (v : Nat) : EventFrame d (d.vecEvent v) := by
  unfold Dev.vecEvent
  exact .ite (.refl d) (.ite ((d.vecs_frame _).trans (Dev.fireVec_frame _ _)) (d.vecs_frame _))

theorem Dev.signalSource_frame (d : Dev) (s : Nat) : EventFrame d (d.signalSource s) := by
  unfold Dev.signalSource
  extract_lets r d1 p h d2
  have h1 : EventFrame d d1 := .ite (d.vecEvent_frame _) (.refl d)
  have h2 : EventFrame d1 d2 := .ite (.refl d1) ⟨rfl, rfl, rfl, rfl, rfl, rfl, rfl, rfl, rfl, rfl, rfl, rfl, rfl, rfl, rfl, rfl, rfl, rfl, rfl, rfl, rfl, rfl, rfl⟩
  clear_value d1 d2
  exact .ite h1 (.ite (h1.trans h2) ((h1.trans h2).trans (d2.emit_frame _)))

theorem Dev.writeGap_frame (d : Dev) (q : Nat) (g : GapRun) : EventFrame d (d.writeGap q g) := by
  unfold Dev.writeGap
  exact .ite (d.setQueue_frame _ _) (((d.setQueue_frame _ _).trans (Dev.emitCpl_frame _ _ _ _)).trans (Dev.signalSource_frame _ _))

theorem Dev.streamGapRec_frame (d : Dev) (q : Nat) (g : GapRun) : EventFrame d (d.streamGapRec q g) := by
  unfold Dev.streamGapRec
  extract_lets x d1
  have h1 : EventFrame d d1 := d.bump_frame _ _ _
  clear_value d1
  exact .ite (h1.trans (d1.setQueue_frame _ _))
    (h1.trans (((d1.setQueue_frame _ _).trans (Dev.emitCpl_frame _ _ _ _)).trans (Dev.signalSource_frame _ _)))

theorem Dev.dropNotice_frame (d : Dev) (q : Nat) : EventFrame d (d.dropNotice q) := by
  unfold Dev.dropNotice
  extract_lets x d1 x1
  have h1 : EventFrame d d1 := d.bump_frame _ _ _
  clear_value d1
  split
  · exact h1.trans (d1.setQueue_frame _ _)
  · exact h1.trans ((d1.setQueue_frame _ _).trans (Dev.emitCpl_frame _ _ _ _))
  · exact h1.trans (((d1.bump_frame _ _ _).trans (Dev.setQueue_frame _ _ _)).trans (Dev.writeGap_frame _ _ _))

theorem Dev.eventQueue_frame (d : Dev) (q : Nat) (n : Notice) : EventFrame d (d.eventQueue q n) := by
  unfold Dev.eventQueue
  exact .ite (.refl d) (.ite (d.dropNotice_frame q)
    (((d.setQueue_frame _ _).trans (Dev.emitWork_frame _ _ _ _ _ _ _ _)).trans (Dev.signalSource_frame _ _)))

theorem Dev.deliver_frame (d : Dev) (n : Notice) : EventFrame d (d.deliver n) := by
  unfold Dev.deliver
  extract_lets r d1
  have h1 : EventFrame d d1 := .ite (d.eventQueue_frame _ _) (.refl d)
  clear_value d1
  exact h1.trans (d1.signalSource_frame _)

theorem Dev.logFault_frame (d : Dev) (r : LogRec) : EventFrame d (d.logFault r) := by
  unfold Dev.logFault
  extract_lets _ d1 recent r'
  have h1 : EventFrame d d1 := (Dev.flt_frame _ _ ⟨rfl, rfl, rfl, rfl, rfl⟩)
  clear_value d1
  exact .ite h1 (.ite (h1.trans (Dev.flt_frame _ _ ⟨rfl, rfl, rfl, rfl, rfl⟩)) (h1.trans (by refine EventFrame.trans ?_ (Dev.bump_frame _ _ _ _); exact Dev.flt_frame _ _ ⟨rfl, rfl, rfl, rfl, rfl⟩)))

theorem Dev.driveFaultN_frame (d : Dev) : EventFrame d d.driveFaultN := by
  unfold Dev.driveFaultN
  extract_lets _ d1 _
  have h1 : EventFrame d d1 := (Dev.flt_frame _ _ ⟨rfl, rfl, rfl, rfl, rfl⟩)
  clear_value d1
  exact .ite h1 (h1.trans (by refine EventFrame.trans ?_ (Dev.emit_frame _ _); exact Dev.flt_frame _ _ ⟨rfl, rfl, rfl, rfl, rfl⟩))

theorem Dev.faultNotices_frame (d : Dev) (src inst sev : Nat) (origin : Option (Nat × Nat)) (merged : Bool) (detail : List Int) :
    EventFrame d (d.faultNotices src inst sev origin merged detail) := by
  unfold Dev.faultNotices
  refine .ite (.refl d) ?_
  extract_lets f
  split
  · exact d.deliver_frame _
  · exact .ite (d.deliver_frame _) ((d.deliver_frame _).trans (Dev.deliver_frame _ _))

/-- A fault that acts leaves everything but the marks of events alone; what its severity asks for is only noted. -/
theorem Dev.actFault_frame (d : Dev) (src inst sev : Nat) (origin : Option (Nat × Nat)) (detail : List Int) (escal : Bool) :
    EventFrame d (d.actFault src inst sev origin detail escal) := by
  unfold Dev.actFault
  extract_lets combined flags d1 _ d2 d3
  have h1 : EventFrame d d1 := d.logFault_frame _
  have h2 : EventFrame d1 d2 := (Dev.flt_frame _ _ ⟨rfl, rfl, rfl, rfl, rfl⟩)
  have h3 : EventFrame d2 d3 := d2.faultNotices_frame _ _ _ _ _ _
  clear_value d1 d2 d3
  exact .ite (((h1.trans h2).trans h3).trans d3.driveFaultN_frame) ((h1.trans h2).trans h3)

theorem Dev.escalate_frame (d : Dev) (src inst : Nat) : EventFrame d (d.escalate src inst) := by
  unfold Dev.escalate
  extract_lets d1
  have h1 : EventFrame d d1 := (d.bump_frame _ _ _).trans (Dev.set_frame _ _ _ _)
  clear_value d1
  exact .ite (h1.trans (d1.logFault_frame _)) (h1.trans (d1.actFault_frame _ _ _ _ _ _))

theorem Dev.endMerge_frame (d : Dev) (src : Nat) : EventFrame d (d.endMerge src) := by
  unfold Dev.endMerge
  split
  · exact EventFrame.refl d
  · extract_lets _ d1 sev
    have h1 : EventFrame d d1 := Dev.flt_frame _ _ ⟨rfl, rfl, rfl, rfl, rfl⟩
    clear_value d1
    exact .ite (h1.trans (d1.logFault_frame _)) (h1.trans (d1.faultNotices_frame _ _ _ _ _ _))

theorem Dev.mergeFault_frame (d : Dev) (src inst : Nat) : EventFrame d (d.mergeFault src inst) := by
  unfold Dev.mergeFault
  extract_lets limit limitSev past d0
  have h0 : EventFrame d d0 := .ite (d.endMerge_frame src) (EventFrame.refl d)
  clear_value d0
  refine h0.trans ?_
  split
  · exact .ite (by refine EventFrame.trans ?_ (Dev.actFault_frame _ _ _ _ _ _ _); exact Dev.flt_frame _ _ ⟨rfl, rfl, rfl, rfl, rfl⟩) (Dev.flt_frame _ _ ⟨rfl, rfl, rfl, rfl, rfl⟩)
  · exact .ite (by refine (EventFrame.trans ?_ (Dev.actFault_frame _ _ _ _ _ _ _)).trans (Dev.actFault_frame _ _ _ _ _ _ _); exact Dev.flt_frame _ _ ⟨rfl, rfl, rfl, rfl, rfl⟩)
      (by refine EventFrame.trans ?_ (Dev.actFault_frame _ _ _ _ _ _ _); exact Dev.flt_frame _ _ ⟨rfl, rfl, rfl, rfl, rfl⟩)

/-- A fault of the collector itself leaves its marks and nothing else. -/
theorem Dev.collectorFails_frame (d : Dev) (src : Nat) : EventFrame d (d.collectorFails src) := by
  unfold Dev.collectorFails
  extract_lets d1 _ d2
  have h1 : EventFrame d d1 := ((d.bump_frame _ _ _).trans (Dev.set_frame _ _ _ _)).trans (Dev.logFault_frame _ _)
  have h2 : EventFrame d1 d2 := Dev.flt_frame _ _ ⟨rfl, rfl, rfl, rfl, rfl⟩
  clear_value d1 d2
  exact (h1.trans h2).trans (d2.faultNotices_frame _ _ _ _ _ _)

theorem Dev.collectorCheck_frame (d : Dev) (words : List (OdRow × Nat)) : EventFrame d (d.collectorCheck words) := by
  unfold Dev.collectorCheck
  extract_lets d1
  have h1 : EventFrame d d1 := .ite (d.collectorFails_frame _) (.refl d)
  clear_value d1
  exact .ite h1 (h1.trans (d1.collectorFails_frame _))

theorem Dev.fault_frame (d : Dev) (src inst : Nat) (origin : Option (Nat × Nat)) (detail : List Int) :
    EventFrame d (d.fault src inst origin detail) := by
  unfold Dev.fault
  extract_lets d0 d1 sev d2
  have h1 : EventFrame d d1 := ((d.collectorCheck_frame _).trans (Dev.bump_frame _ _ _ _)).trans (Dev.set_frame _ _ _ _)
  have h2 : EventFrame d1 d2 := d1.logFault_frame _
  clear_value d1 d2
  exact .ite (h1.trans (d1.mergeFault_frame _ _))
    (.ite (.ite (h1.trans h2) ((h1.trans h2).trans (d2.escalate_frame _ _))) (h1.trans (d1.actFault_frame _ _ _ _ _ _)))

/-- An event of a function source leaves its marks and nothing else. -/
theorem Dev.raise_frame (d : Dev) (f code inst : Nat) (detail : List Int) : EventFrame d (d.raise f code inst detail) :=
  d.fault_frame _ _ _ _

theorem Dev.queueNotice_frame (d : Dev) (q code : Nat) (detail : List Int) : EventFrame d (d.queueNotice q code detail) :=
  d.deliver_frame _

/-! ### emit -/

@[simp] theorem Dev.emit_now (d : Dev) (o : Output) : (d.emit o).now = d.now := (d.emit_frame o).now
@[simp] theorem Dev.emit_free (d : Dev) (o : Output) : (d.emit o).free = d.free := (d.emit_frame o).free
@[simp] theorem Dev.emit_obj (d : Dev) (o : Output) : (d.emit o).obj = d.obj := (d.emit_frame o).obj
@[simp] theorem Dev.emit_cmp (d : Dev) (o : Output) : (d.emit o).cmp = d.cmp := (d.emit_frame o).cmp
@[simp] theorem Dev.emit_lch (d : Dev) (o : Output) : (d.emit o).lch = d.lch := (d.emit_frame o).lch
@[simp] theorem Dev.emit_net (d : Dev) (o : Output) : (d.emit o).net = d.net := (d.emit_frame o).net
@[simp] theorem Dev.emit_fry (d : Dev) (o : Output) : (d.emit o).fry = d.fry := (d.emit_frame o).fry
@[simp] theorem Dev.emit_per (d : Dev) (o : Output) : (d.emit o).per = d.per := (d.emit_frame o).per
@[simp] theorem Dev.emit_ctl (d : Dev) (o : Output) : (d.emit o).ctl = d.ctl := (d.emit_frame o).ctl
@[simp] theorem Dev.emit_pwr (d : Dev) (o : Output) : (d.emit o).pwr = d.pwr := (d.emit_frame o).pwr
@[simp] theorem Dev.emit_lan (d : Dev) (o : Output) : (d.emit o).lan = d.lan := (d.emit_frame o).lan
@[simp] theorem Dev.emit_sys (d : Dev) (o : Output) : (d.emit o).sys = d.sys := (d.emit_frame o).sys
@[simp] theorem Dev.emit_cry (d : Dev) (o : Output) : (d.emit o).cry = d.cry := (d.emit_frame o).cry
@[simp] theorem Dev.emit_cpu (d : Dev) (o : Output) : (d.emit o).cpu = d.cpu := (d.emit_frame o).cpu
@[simp] theorem Dev.emit_fls (d : Dev) (o : Output) : (d.emit o).fls = d.fls := (d.emit_frame o).fls
@[simp] theorem Dev.emit_man (d : Dev) (o : Output) : (d.emit o).que.man = d.que.man := (d.emit_frame o).man
@[simp] theorem Dev.emit_convoys (d : Dev) (o : Output) : (d.emit o).que.convoys = d.que.convoys := (d.emit_frame o).convoys
@[simp] theorem Dev.emit_chipSafe (d : Dev) (o : Output) : (d.emit o).flt.chipSafe = d.flt.chipSafe := (d.emit_frame o).chipSafe
@[simp] theorem Dev.emit_hold (d : Dev) (o : Output) : (d.emit o).flt.hold = d.flt.hold := (d.emit_frame o).hold
@[simp] theorem Dev.emit_safe (d : Dev) (o : Output) : (d.emit o).flt.safe = d.flt.safe := (d.emit_frame o).safe
@[simp] theorem Dev.emit_armed (d : Dev) (o : Output) : (d.emit o).flt.armed = d.flt.armed := (d.emit_frame o).armed
@[simp] theorem Dev.emit_monitor (d : Dev) (o : Output) : (d.emit o).flt.monitor = d.flt.monitor := (d.emit_frame o).monitor
@[simp] theorem Dev.emit_octs (d : Dev) (o : Output) : (d.emit o).od.direct.octs = d.od.direct.octs := (d.emit_frame o).octs

/-! ### set -/

@[simp] theorem Dev.set_now (d : Dev) (r : OdRow) (i : Nat) (v : Int) : (d.set r i v).now = d.now := (d.set_frame r i v).now
@[simp] theorem Dev.set_free (d : Dev) (r : OdRow) (i : Nat) (v : Int) : (d.set r i v).free = d.free := (d.set_frame r i v).free
@[simp] theorem Dev.set_obj (d : Dev) (r : OdRow) (i : Nat) (v : Int) : (d.set r i v).obj = d.obj := (d.set_frame r i v).obj
@[simp] theorem Dev.set_cmp (d : Dev) (r : OdRow) (i : Nat) (v : Int) : (d.set r i v).cmp = d.cmp := (d.set_frame r i v).cmp
@[simp] theorem Dev.set_lch (d : Dev) (r : OdRow) (i : Nat) (v : Int) : (d.set r i v).lch = d.lch := (d.set_frame r i v).lch
@[simp] theorem Dev.set_net (d : Dev) (r : OdRow) (i : Nat) (v : Int) : (d.set r i v).net = d.net := (d.set_frame r i v).net
@[simp] theorem Dev.set_fry (d : Dev) (r : OdRow) (i : Nat) (v : Int) : (d.set r i v).fry = d.fry := (d.set_frame r i v).fry
@[simp] theorem Dev.set_per (d : Dev) (r : OdRow) (i : Nat) (v : Int) : (d.set r i v).per = d.per := (d.set_frame r i v).per
@[simp] theorem Dev.set_ctl (d : Dev) (r : OdRow) (i : Nat) (v : Int) : (d.set r i v).ctl = d.ctl := (d.set_frame r i v).ctl
@[simp] theorem Dev.set_pwr (d : Dev) (r : OdRow) (i : Nat) (v : Int) : (d.set r i v).pwr = d.pwr := (d.set_frame r i v).pwr
@[simp] theorem Dev.set_lan (d : Dev) (r : OdRow) (i : Nat) (v : Int) : (d.set r i v).lan = d.lan := (d.set_frame r i v).lan
@[simp] theorem Dev.set_sys (d : Dev) (r : OdRow) (i : Nat) (v : Int) : (d.set r i v).sys = d.sys := (d.set_frame r i v).sys
@[simp] theorem Dev.set_cry (d : Dev) (r : OdRow) (i : Nat) (v : Int) : (d.set r i v).cry = d.cry := (d.set_frame r i v).cry
@[simp] theorem Dev.set_cpu (d : Dev) (r : OdRow) (i : Nat) (v : Int) : (d.set r i v).cpu = d.cpu := (d.set_frame r i v).cpu
@[simp] theorem Dev.set_fls (d : Dev) (r : OdRow) (i : Nat) (v : Int) : (d.set r i v).fls = d.fls := (d.set_frame r i v).fls
@[simp] theorem Dev.set_man (d : Dev) (r : OdRow) (i : Nat) (v : Int) : (d.set r i v).que.man = d.que.man := (d.set_frame r i v).man
@[simp] theorem Dev.set_convoys (d : Dev) (r : OdRow) (i : Nat) (v : Int) : (d.set r i v).que.convoys = d.que.convoys := (d.set_frame r i v).convoys
@[simp] theorem Dev.set_chipSafe (d : Dev) (r : OdRow) (i : Nat) (v : Int) : (d.set r i v).flt.chipSafe = d.flt.chipSafe := (d.set_frame r i v).chipSafe
@[simp] theorem Dev.set_hold (d : Dev) (r : OdRow) (i : Nat) (v : Int) : (d.set r i v).flt.hold = d.flt.hold := (d.set_frame r i v).hold
@[simp] theorem Dev.set_safe (d : Dev) (r : OdRow) (i : Nat) (v : Int) : (d.set r i v).flt.safe = d.flt.safe := (d.set_frame r i v).safe
@[simp] theorem Dev.set_armed (d : Dev) (r : OdRow) (i : Nat) (v : Int) : (d.set r i v).flt.armed = d.flt.armed := (d.set_frame r i v).armed
@[simp] theorem Dev.set_monitor (d : Dev) (r : OdRow) (i : Nat) (v : Int) : (d.set r i v).flt.monitor = d.flt.monitor := (d.set_frame r i v).monitor
@[simp] theorem Dev.set_octs (d : Dev) (r : OdRow) (i : Nat) (v : Int) : (d.set r i v).od.direct.octs = d.od.direct.octs := (d.set_frame r i v).octs

/-! ### bump -/

@[simp] theorem Dev.bump_now (d : Dev) (r : OdRow) (i : Nat) (n : Int) : (d.bump r i n).now = d.now := (d.bump_frame r i n).now
@[simp] theorem Dev.bump_free (d : Dev) (r : OdRow) (i : Nat) (n : Int) : (d.bump r i n).free = d.free := (d.bump_frame r i n).free
@[simp] theorem Dev.bump_obj (d : Dev) (r : OdRow) (i : Nat) (n : Int) : (d.bump r i n).obj = d.obj := (d.bump_frame r i n).obj
@[simp] theorem Dev.bump_cmp (d : Dev) (r : OdRow) (i : Nat) (n : Int) : (d.bump r i n).cmp = d.cmp := (d.bump_frame r i n).cmp
@[simp] theorem Dev.bump_lch (d : Dev) (r : OdRow) (i : Nat) (n : Int) : (d.bump r i n).lch = d.lch := (d.bump_frame r i n).lch
@[simp] theorem Dev.bump_net (d : Dev) (r : OdRow) (i : Nat) (n : Int) : (d.bump r i n).net = d.net := (d.bump_frame r i n).net
@[simp] theorem Dev.bump_fry (d : Dev) (r : OdRow) (i : Nat) (n : Int) : (d.bump r i n).fry = d.fry := (d.bump_frame r i n).fry
@[simp] theorem Dev.bump_per (d : Dev) (r : OdRow) (i : Nat) (n : Int) : (d.bump r i n).per = d.per := (d.bump_frame r i n).per
@[simp] theorem Dev.bump_ctl (d : Dev) (r : OdRow) (i : Nat) (n : Int) : (d.bump r i n).ctl = d.ctl := (d.bump_frame r i n).ctl
@[simp] theorem Dev.bump_pwr (d : Dev) (r : OdRow) (i : Nat) (n : Int) : (d.bump r i n).pwr = d.pwr := (d.bump_frame r i n).pwr
@[simp] theorem Dev.bump_lan (d : Dev) (r : OdRow) (i : Nat) (n : Int) : (d.bump r i n).lan = d.lan := (d.bump_frame r i n).lan
@[simp] theorem Dev.bump_sys (d : Dev) (r : OdRow) (i : Nat) (n : Int) : (d.bump r i n).sys = d.sys := (d.bump_frame r i n).sys
@[simp] theorem Dev.bump_cry (d : Dev) (r : OdRow) (i : Nat) (n : Int) : (d.bump r i n).cry = d.cry := (d.bump_frame r i n).cry
@[simp] theorem Dev.bump_cpu (d : Dev) (r : OdRow) (i : Nat) (n : Int) : (d.bump r i n).cpu = d.cpu := (d.bump_frame r i n).cpu
@[simp] theorem Dev.bump_fls (d : Dev) (r : OdRow) (i : Nat) (n : Int) : (d.bump r i n).fls = d.fls := (d.bump_frame r i n).fls
@[simp] theorem Dev.bump_man (d : Dev) (r : OdRow) (i : Nat) (n : Int) : (d.bump r i n).que.man = d.que.man := (d.bump_frame r i n).man
@[simp] theorem Dev.bump_convoys (d : Dev) (r : OdRow) (i : Nat) (n : Int) : (d.bump r i n).que.convoys = d.que.convoys := (d.bump_frame r i n).convoys
@[simp] theorem Dev.bump_chipSafe (d : Dev) (r : OdRow) (i : Nat) (n : Int) : (d.bump r i n).flt.chipSafe = d.flt.chipSafe := (d.bump_frame r i n).chipSafe
@[simp] theorem Dev.bump_hold (d : Dev) (r : OdRow) (i : Nat) (n : Int) : (d.bump r i n).flt.hold = d.flt.hold := (d.bump_frame r i n).hold
@[simp] theorem Dev.bump_safe (d : Dev) (r : OdRow) (i : Nat) (n : Int) : (d.bump r i n).flt.safe = d.flt.safe := (d.bump_frame r i n).safe
@[simp] theorem Dev.bump_armed (d : Dev) (r : OdRow) (i : Nat) (n : Int) : (d.bump r i n).flt.armed = d.flt.armed := (d.bump_frame r i n).armed
@[simp] theorem Dev.bump_monitor (d : Dev) (r : OdRow) (i : Nat) (n : Int) : (d.bump r i n).flt.monitor = d.flt.monitor := (d.bump_frame r i n).monitor
@[simp] theorem Dev.bump_octs (d : Dev) (r : OdRow) (i : Nat) (n : Int) : (d.bump r i n).od.direct.octs = d.od.direct.octs := (d.bump_frame r i n).octs

/-! ### fault -/

@[simp] theorem Dev.fault_now (d : Dev) (src inst : Nat) (o : Option (Nat × Nat)) (l : List Int) : (d.fault src inst o l).now = d.now := (d.fault_frame src inst o l).now
@[simp] theorem Dev.fault_free (d : Dev) (src inst : Nat) (o : Option (Nat × Nat)) (l : List Int) : (d.fault src inst o l).free = d.free := (d.fault_frame src inst o l).free
@[simp] theorem Dev.fault_obj (d : Dev) (src inst : Nat) (o : Option (Nat × Nat)) (l : List Int) : (d.fault src inst o l).obj = d.obj := (d.fault_frame src inst o l).obj
@[simp] theorem Dev.fault_cmp (d : Dev) (src inst : Nat) (o : Option (Nat × Nat)) (l : List Int) : (d.fault src inst o l).cmp = d.cmp := (d.fault_frame src inst o l).cmp
@[simp] theorem Dev.fault_lch (d : Dev) (src inst : Nat) (o : Option (Nat × Nat)) (l : List Int) : (d.fault src inst o l).lch = d.lch := (d.fault_frame src inst o l).lch
@[simp] theorem Dev.fault_net (d : Dev) (src inst : Nat) (o : Option (Nat × Nat)) (l : List Int) : (d.fault src inst o l).net = d.net := (d.fault_frame src inst o l).net
@[simp] theorem Dev.fault_fry (d : Dev) (src inst : Nat) (o : Option (Nat × Nat)) (l : List Int) : (d.fault src inst o l).fry = d.fry := (d.fault_frame src inst o l).fry
@[simp] theorem Dev.fault_per (d : Dev) (src inst : Nat) (o : Option (Nat × Nat)) (l : List Int) : (d.fault src inst o l).per = d.per := (d.fault_frame src inst o l).per
@[simp] theorem Dev.fault_ctl (d : Dev) (src inst : Nat) (o : Option (Nat × Nat)) (l : List Int) : (d.fault src inst o l).ctl = d.ctl := (d.fault_frame src inst o l).ctl
@[simp] theorem Dev.fault_pwr (d : Dev) (src inst : Nat) (o : Option (Nat × Nat)) (l : List Int) : (d.fault src inst o l).pwr = d.pwr := (d.fault_frame src inst o l).pwr
@[simp] theorem Dev.fault_lan (d : Dev) (src inst : Nat) (o : Option (Nat × Nat)) (l : List Int) : (d.fault src inst o l).lan = d.lan := (d.fault_frame src inst o l).lan
@[simp] theorem Dev.fault_sys (d : Dev) (src inst : Nat) (o : Option (Nat × Nat)) (l : List Int) : (d.fault src inst o l).sys = d.sys := (d.fault_frame src inst o l).sys
@[simp] theorem Dev.fault_cry (d : Dev) (src inst : Nat) (o : Option (Nat × Nat)) (l : List Int) : (d.fault src inst o l).cry = d.cry := (d.fault_frame src inst o l).cry
@[simp] theorem Dev.fault_cpu (d : Dev) (src inst : Nat) (o : Option (Nat × Nat)) (l : List Int) : (d.fault src inst o l).cpu = d.cpu := (d.fault_frame src inst o l).cpu
@[simp] theorem Dev.fault_fls (d : Dev) (src inst : Nat) (o : Option (Nat × Nat)) (l : List Int) : (d.fault src inst o l).fls = d.fls := (d.fault_frame src inst o l).fls
@[simp] theorem Dev.fault_man (d : Dev) (src inst : Nat) (o : Option (Nat × Nat)) (l : List Int) : (d.fault src inst o l).que.man = d.que.man := (d.fault_frame src inst o l).man
@[simp] theorem Dev.fault_convoys (d : Dev) (src inst : Nat) (o : Option (Nat × Nat)) (l : List Int) : (d.fault src inst o l).que.convoys = d.que.convoys := (d.fault_frame src inst o l).convoys
@[simp] theorem Dev.fault_chipSafe (d : Dev) (src inst : Nat) (o : Option (Nat × Nat)) (l : List Int) : (d.fault src inst o l).flt.chipSafe = d.flt.chipSafe := (d.fault_frame src inst o l).chipSafe
@[simp] theorem Dev.fault_hold (d : Dev) (src inst : Nat) (o : Option (Nat × Nat)) (l : List Int) : (d.fault src inst o l).flt.hold = d.flt.hold := (d.fault_frame src inst o l).hold
@[simp] theorem Dev.fault_safe (d : Dev) (src inst : Nat) (o : Option (Nat × Nat)) (l : List Int) : (d.fault src inst o l).flt.safe = d.flt.safe := (d.fault_frame src inst o l).safe
@[simp] theorem Dev.fault_armed (d : Dev) (src inst : Nat) (o : Option (Nat × Nat)) (l : List Int) : (d.fault src inst o l).flt.armed = d.flt.armed := (d.fault_frame src inst o l).armed
@[simp] theorem Dev.fault_monitor (d : Dev) (src inst : Nat) (o : Option (Nat × Nat)) (l : List Int) : (d.fault src inst o l).flt.monitor = d.flt.monitor := (d.fault_frame src inst o l).monitor
@[simp] theorem Dev.fault_octs (d : Dev) (src inst : Nat) (o : Option (Nat × Nat)) (l : List Int) : (d.fault src inst o l).od.direct.octs = d.od.direct.octs := (d.fault_frame src inst o l).octs

/-! ### raise -/

@[simp] theorem Dev.raise_now (d : Dev) (f c i : Nat) (l : List Int) : (d.raise f c i l).now = d.now := (d.raise_frame f c i l).now
@[simp] theorem Dev.raise_free (d : Dev) (f c i : Nat) (l : List Int) : (d.raise f c i l).free = d.free := (d.raise_frame f c i l).free
@[simp] theorem Dev.raise_obj (d : Dev) (f c i : Nat) (l : List Int) : (d.raise f c i l).obj = d.obj := (d.raise_frame f c i l).obj
@[simp] theorem Dev.raise_cmp (d : Dev) (f c i : Nat) (l : List Int) : (d.raise f c i l).cmp = d.cmp := (d.raise_frame f c i l).cmp
@[simp] theorem Dev.raise_lch (d : Dev) (f c i : Nat) (l : List Int) : (d.raise f c i l).lch = d.lch := (d.raise_frame f c i l).lch
@[simp] theorem Dev.raise_net (d : Dev) (f c i : Nat) (l : List Int) : (d.raise f c i l).net = d.net := (d.raise_frame f c i l).net
@[simp] theorem Dev.raise_fry (d : Dev) (f c i : Nat) (l : List Int) : (d.raise f c i l).fry = d.fry := (d.raise_frame f c i l).fry
@[simp] theorem Dev.raise_per (d : Dev) (f c i : Nat) (l : List Int) : (d.raise f c i l).per = d.per := (d.raise_frame f c i l).per
@[simp] theorem Dev.raise_ctl (d : Dev) (f c i : Nat) (l : List Int) : (d.raise f c i l).ctl = d.ctl := (d.raise_frame f c i l).ctl
@[simp] theorem Dev.raise_pwr (d : Dev) (f c i : Nat) (l : List Int) : (d.raise f c i l).pwr = d.pwr := (d.raise_frame f c i l).pwr
@[simp] theorem Dev.raise_lan (d : Dev) (f c i : Nat) (l : List Int) : (d.raise f c i l).lan = d.lan := (d.raise_frame f c i l).lan
@[simp] theorem Dev.raise_sys (d : Dev) (f c i : Nat) (l : List Int) : (d.raise f c i l).sys = d.sys := (d.raise_frame f c i l).sys
@[simp] theorem Dev.raise_cry (d : Dev) (f c i : Nat) (l : List Int) : (d.raise f c i l).cry = d.cry := (d.raise_frame f c i l).cry
@[simp] theorem Dev.raise_cpu (d : Dev) (f c i : Nat) (l : List Int) : (d.raise f c i l).cpu = d.cpu := (d.raise_frame f c i l).cpu
@[simp] theorem Dev.raise_fls (d : Dev) (f c i : Nat) (l : List Int) : (d.raise f c i l).fls = d.fls := (d.raise_frame f c i l).fls
@[simp] theorem Dev.raise_man (d : Dev) (f c i : Nat) (l : List Int) : (d.raise f c i l).que.man = d.que.man := (d.raise_frame f c i l).man
@[simp] theorem Dev.raise_convoys (d : Dev) (f c i : Nat) (l : List Int) : (d.raise f c i l).que.convoys = d.que.convoys := (d.raise_frame f c i l).convoys
@[simp] theorem Dev.raise_chipSafe (d : Dev) (f c i : Nat) (l : List Int) : (d.raise f c i l).flt.chipSafe = d.flt.chipSafe := (d.raise_frame f c i l).chipSafe
@[simp] theorem Dev.raise_hold (d : Dev) (f c i : Nat) (l : List Int) : (d.raise f c i l).flt.hold = d.flt.hold := (d.raise_frame f c i l).hold
@[simp] theorem Dev.raise_safe (d : Dev) (f c i : Nat) (l : List Int) : (d.raise f c i l).flt.safe = d.flt.safe := (d.raise_frame f c i l).safe
@[simp] theorem Dev.raise_armed (d : Dev) (f c i : Nat) (l : List Int) : (d.raise f c i l).flt.armed = d.flt.armed := (d.raise_frame f c i l).armed
@[simp] theorem Dev.raise_monitor (d : Dev) (f c i : Nat) (l : List Int) : (d.raise f c i l).flt.monitor = d.flt.monitor := (d.raise_frame f c i l).monitor
@[simp] theorem Dev.raise_octs (d : Dev) (f c i : Nat) (l : List Int) : (d.raise f c i l).od.direct.octs = d.od.direct.octs := (d.raise_frame f c i l).octs

/-! ### deliver -/

@[simp] theorem Dev.deliver_now (d : Dev) (n : Notice) : (d.deliver n).now = d.now := (d.deliver_frame n).now
@[simp] theorem Dev.deliver_free (d : Dev) (n : Notice) : (d.deliver n).free = d.free := (d.deliver_frame n).free
@[simp] theorem Dev.deliver_obj (d : Dev) (n : Notice) : (d.deliver n).obj = d.obj := (d.deliver_frame n).obj
@[simp] theorem Dev.deliver_cmp (d : Dev) (n : Notice) : (d.deliver n).cmp = d.cmp := (d.deliver_frame n).cmp
@[simp] theorem Dev.deliver_lch (d : Dev) (n : Notice) : (d.deliver n).lch = d.lch := (d.deliver_frame n).lch
@[simp] theorem Dev.deliver_net (d : Dev) (n : Notice) : (d.deliver n).net = d.net := (d.deliver_frame n).net
@[simp] theorem Dev.deliver_fry (d : Dev) (n : Notice) : (d.deliver n).fry = d.fry := (d.deliver_frame n).fry
@[simp] theorem Dev.deliver_per (d : Dev) (n : Notice) : (d.deliver n).per = d.per := (d.deliver_frame n).per
@[simp] theorem Dev.deliver_ctl (d : Dev) (n : Notice) : (d.deliver n).ctl = d.ctl := (d.deliver_frame n).ctl
@[simp] theorem Dev.deliver_pwr (d : Dev) (n : Notice) : (d.deliver n).pwr = d.pwr := (d.deliver_frame n).pwr
@[simp] theorem Dev.deliver_lan (d : Dev) (n : Notice) : (d.deliver n).lan = d.lan := (d.deliver_frame n).lan
@[simp] theorem Dev.deliver_sys (d : Dev) (n : Notice) : (d.deliver n).sys = d.sys := (d.deliver_frame n).sys
@[simp] theorem Dev.deliver_cry (d : Dev) (n : Notice) : (d.deliver n).cry = d.cry := (d.deliver_frame n).cry
@[simp] theorem Dev.deliver_cpu (d : Dev) (n : Notice) : (d.deliver n).cpu = d.cpu := (d.deliver_frame n).cpu
@[simp] theorem Dev.deliver_fls (d : Dev) (n : Notice) : (d.deliver n).fls = d.fls := (d.deliver_frame n).fls
@[simp] theorem Dev.deliver_man (d : Dev) (n : Notice) : (d.deliver n).que.man = d.que.man := (d.deliver_frame n).man
@[simp] theorem Dev.deliver_convoys (d : Dev) (n : Notice) : (d.deliver n).que.convoys = d.que.convoys := (d.deliver_frame n).convoys
@[simp] theorem Dev.deliver_chipSafe (d : Dev) (n : Notice) : (d.deliver n).flt.chipSafe = d.flt.chipSafe := (d.deliver_frame n).chipSafe
@[simp] theorem Dev.deliver_hold (d : Dev) (n : Notice) : (d.deliver n).flt.hold = d.flt.hold := (d.deliver_frame n).hold
@[simp] theorem Dev.deliver_safe (d : Dev) (n : Notice) : (d.deliver n).flt.safe = d.flt.safe := (d.deliver_frame n).safe
@[simp] theorem Dev.deliver_armed (d : Dev) (n : Notice) : (d.deliver n).flt.armed = d.flt.armed := (d.deliver_frame n).armed
@[simp] theorem Dev.deliver_monitor (d : Dev) (n : Notice) : (d.deliver n).flt.monitor = d.flt.monitor := (d.deliver_frame n).monitor
@[simp] theorem Dev.deliver_octs (d : Dev) (n : Notice) : (d.deliver n).od.direct.octs = d.od.direct.octs := (d.deliver_frame n).octs

/-! ### queueNotice -/

@[simp] theorem Dev.queueNotice_now (d : Dev) (q c : Nat) (l : List Int) : (d.queueNotice q c l).now = d.now := (d.queueNotice_frame q c l).now
@[simp] theorem Dev.queueNotice_free (d : Dev) (q c : Nat) (l : List Int) : (d.queueNotice q c l).free = d.free := (d.queueNotice_frame q c l).free
@[simp] theorem Dev.queueNotice_obj (d : Dev) (q c : Nat) (l : List Int) : (d.queueNotice q c l).obj = d.obj := (d.queueNotice_frame q c l).obj
@[simp] theorem Dev.queueNotice_cmp (d : Dev) (q c : Nat) (l : List Int) : (d.queueNotice q c l).cmp = d.cmp := (d.queueNotice_frame q c l).cmp
@[simp] theorem Dev.queueNotice_lch (d : Dev) (q c : Nat) (l : List Int) : (d.queueNotice q c l).lch = d.lch := (d.queueNotice_frame q c l).lch
@[simp] theorem Dev.queueNotice_net (d : Dev) (q c : Nat) (l : List Int) : (d.queueNotice q c l).net = d.net := (d.queueNotice_frame q c l).net
@[simp] theorem Dev.queueNotice_fry (d : Dev) (q c : Nat) (l : List Int) : (d.queueNotice q c l).fry = d.fry := (d.queueNotice_frame q c l).fry
@[simp] theorem Dev.queueNotice_per (d : Dev) (q c : Nat) (l : List Int) : (d.queueNotice q c l).per = d.per := (d.queueNotice_frame q c l).per
@[simp] theorem Dev.queueNotice_ctl (d : Dev) (q c : Nat) (l : List Int) : (d.queueNotice q c l).ctl = d.ctl := (d.queueNotice_frame q c l).ctl
@[simp] theorem Dev.queueNotice_pwr (d : Dev) (q c : Nat) (l : List Int) : (d.queueNotice q c l).pwr = d.pwr := (d.queueNotice_frame q c l).pwr
@[simp] theorem Dev.queueNotice_lan (d : Dev) (q c : Nat) (l : List Int) : (d.queueNotice q c l).lan = d.lan := (d.queueNotice_frame q c l).lan
@[simp] theorem Dev.queueNotice_sys (d : Dev) (q c : Nat) (l : List Int) : (d.queueNotice q c l).sys = d.sys := (d.queueNotice_frame q c l).sys
@[simp] theorem Dev.queueNotice_cry (d : Dev) (q c : Nat) (l : List Int) : (d.queueNotice q c l).cry = d.cry := (d.queueNotice_frame q c l).cry
@[simp] theorem Dev.queueNotice_cpu (d : Dev) (q c : Nat) (l : List Int) : (d.queueNotice q c l).cpu = d.cpu := (d.queueNotice_frame q c l).cpu
@[simp] theorem Dev.queueNotice_fls (d : Dev) (q c : Nat) (l : List Int) : (d.queueNotice q c l).fls = d.fls := (d.queueNotice_frame q c l).fls
@[simp] theorem Dev.queueNotice_man (d : Dev) (q c : Nat) (l : List Int) : (d.queueNotice q c l).que.man = d.que.man := (d.queueNotice_frame q c l).man
@[simp] theorem Dev.queueNotice_convoys (d : Dev) (q c : Nat) (l : List Int) : (d.queueNotice q c l).que.convoys = d.que.convoys := (d.queueNotice_frame q c l).convoys
@[simp] theorem Dev.queueNotice_chipSafe (d : Dev) (q c : Nat) (l : List Int) : (d.queueNotice q c l).flt.chipSafe = d.flt.chipSafe := (d.queueNotice_frame q c l).chipSafe
@[simp] theorem Dev.queueNotice_hold (d : Dev) (q c : Nat) (l : List Int) : (d.queueNotice q c l).flt.hold = d.flt.hold := (d.queueNotice_frame q c l).hold
@[simp] theorem Dev.queueNotice_safe (d : Dev) (q c : Nat) (l : List Int) : (d.queueNotice q c l).flt.safe = d.flt.safe := (d.queueNotice_frame q c l).safe
@[simp] theorem Dev.queueNotice_armed (d : Dev) (q c : Nat) (l : List Int) : (d.queueNotice q c l).flt.armed = d.flt.armed := (d.queueNotice_frame q c l).armed
@[simp] theorem Dev.queueNotice_monitor (d : Dev) (q c : Nat) (l : List Int) : (d.queueNotice q c l).flt.monitor = d.flt.monitor := (d.queueNotice_frame q c l).monitor
@[simp] theorem Dev.queueNotice_octs (d : Dev) (q c : Nat) (l : List Int) : (d.queueNotice q c l).od.direct.octs = d.od.direct.octs := (d.queueNotice_frame q c l).octs

/-! ### signalSource -/

@[simp] theorem Dev.signalSource_now (d : Dev) (n : Nat) : (d.signalSource n).now = d.now := (d.signalSource_frame n).now
@[simp] theorem Dev.signalSource_free (d : Dev) (n : Nat) : (d.signalSource n).free = d.free := (d.signalSource_frame n).free
@[simp] theorem Dev.signalSource_obj (d : Dev) (n : Nat) : (d.signalSource n).obj = d.obj := (d.signalSource_frame n).obj
@[simp] theorem Dev.signalSource_cmp (d : Dev) (n : Nat) : (d.signalSource n).cmp = d.cmp := (d.signalSource_frame n).cmp
@[simp] theorem Dev.signalSource_lch (d : Dev) (n : Nat) : (d.signalSource n).lch = d.lch := (d.signalSource_frame n).lch
@[simp] theorem Dev.signalSource_net (d : Dev) (n : Nat) : (d.signalSource n).net = d.net := (d.signalSource_frame n).net
@[simp] theorem Dev.signalSource_fry (d : Dev) (n : Nat) : (d.signalSource n).fry = d.fry := (d.signalSource_frame n).fry
@[simp] theorem Dev.signalSource_per (d : Dev) (n : Nat) : (d.signalSource n).per = d.per := (d.signalSource_frame n).per
@[simp] theorem Dev.signalSource_ctl (d : Dev) (n : Nat) : (d.signalSource n).ctl = d.ctl := (d.signalSource_frame n).ctl
@[simp] theorem Dev.signalSource_pwr (d : Dev) (n : Nat) : (d.signalSource n).pwr = d.pwr := (d.signalSource_frame n).pwr
@[simp] theorem Dev.signalSource_lan (d : Dev) (n : Nat) : (d.signalSource n).lan = d.lan := (d.signalSource_frame n).lan
@[simp] theorem Dev.signalSource_sys (d : Dev) (n : Nat) : (d.signalSource n).sys = d.sys := (d.signalSource_frame n).sys
@[simp] theorem Dev.signalSource_cry (d : Dev) (n : Nat) : (d.signalSource n).cry = d.cry := (d.signalSource_frame n).cry
@[simp] theorem Dev.signalSource_cpu (d : Dev) (n : Nat) : (d.signalSource n).cpu = d.cpu := (d.signalSource_frame n).cpu
@[simp] theorem Dev.signalSource_fls (d : Dev) (n : Nat) : (d.signalSource n).fls = d.fls := (d.signalSource_frame n).fls
@[simp] theorem Dev.signalSource_man (d : Dev) (n : Nat) : (d.signalSource n).que.man = d.que.man := (d.signalSource_frame n).man
@[simp] theorem Dev.signalSource_convoys (d : Dev) (n : Nat) : (d.signalSource n).que.convoys = d.que.convoys := (d.signalSource_frame n).convoys
@[simp] theorem Dev.signalSource_chipSafe (d : Dev) (n : Nat) : (d.signalSource n).flt.chipSafe = d.flt.chipSafe := (d.signalSource_frame n).chipSafe
@[simp] theorem Dev.signalSource_hold (d : Dev) (n : Nat) : (d.signalSource n).flt.hold = d.flt.hold := (d.signalSource_frame n).hold
@[simp] theorem Dev.signalSource_safe (d : Dev) (n : Nat) : (d.signalSource n).flt.safe = d.flt.safe := (d.signalSource_frame n).safe
@[simp] theorem Dev.signalSource_armed (d : Dev) (n : Nat) : (d.signalSource n).flt.armed = d.flt.armed := (d.signalSource_frame n).armed
@[simp] theorem Dev.signalSource_monitor (d : Dev) (n : Nat) : (d.signalSource n).flt.monitor = d.flt.monitor := (d.signalSource_frame n).monitor
@[simp] theorem Dev.signalSource_octs (d : Dev) (n : Nat) : (d.signalSource n).od.direct.octs = d.od.direct.octs := (d.signalSource_frame n).octs

/-! ### emitPf -/

@[simp] theorem Dev.emitPf_now (d : Dev) (pf : Nat) (o : Output) : (d.emitPf pf o).now = d.now := (d.emitPf_frame pf o).now
@[simp] theorem Dev.emitPf_free (d : Dev) (pf : Nat) (o : Output) : (d.emitPf pf o).free = d.free := (d.emitPf_frame pf o).free
@[simp] theorem Dev.emitPf_obj (d : Dev) (pf : Nat) (o : Output) : (d.emitPf pf o).obj = d.obj := (d.emitPf_frame pf o).obj
@[simp] theorem Dev.emitPf_cmp (d : Dev) (pf : Nat) (o : Output) : (d.emitPf pf o).cmp = d.cmp := (d.emitPf_frame pf o).cmp
@[simp] theorem Dev.emitPf_lch (d : Dev) (pf : Nat) (o : Output) : (d.emitPf pf o).lch = d.lch := (d.emitPf_frame pf o).lch
@[simp] theorem Dev.emitPf_net (d : Dev) (pf : Nat) (o : Output) : (d.emitPf pf o).net = d.net := (d.emitPf_frame pf o).net
@[simp] theorem Dev.emitPf_fry (d : Dev) (pf : Nat) (o : Output) : (d.emitPf pf o).fry = d.fry := (d.emitPf_frame pf o).fry
@[simp] theorem Dev.emitPf_per (d : Dev) (pf : Nat) (o : Output) : (d.emitPf pf o).per = d.per := (d.emitPf_frame pf o).per
@[simp] theorem Dev.emitPf_ctl (d : Dev) (pf : Nat) (o : Output) : (d.emitPf pf o).ctl = d.ctl := (d.emitPf_frame pf o).ctl
@[simp] theorem Dev.emitPf_pwr (d : Dev) (pf : Nat) (o : Output) : (d.emitPf pf o).pwr = d.pwr := (d.emitPf_frame pf o).pwr
@[simp] theorem Dev.emitPf_lan (d : Dev) (pf : Nat) (o : Output) : (d.emitPf pf o).lan = d.lan := (d.emitPf_frame pf o).lan
@[simp] theorem Dev.emitPf_sys (d : Dev) (pf : Nat) (o : Output) : (d.emitPf pf o).sys = d.sys := (d.emitPf_frame pf o).sys
@[simp] theorem Dev.emitPf_cry (d : Dev) (pf : Nat) (o : Output) : (d.emitPf pf o).cry = d.cry := (d.emitPf_frame pf o).cry
@[simp] theorem Dev.emitPf_cpu (d : Dev) (pf : Nat) (o : Output) : (d.emitPf pf o).cpu = d.cpu := (d.emitPf_frame pf o).cpu
@[simp] theorem Dev.emitPf_fls (d : Dev) (pf : Nat) (o : Output) : (d.emitPf pf o).fls = d.fls := (d.emitPf_frame pf o).fls
@[simp] theorem Dev.emitPf_man (d : Dev) (pf : Nat) (o : Output) : (d.emitPf pf o).que.man = d.que.man := (d.emitPf_frame pf o).man
@[simp] theorem Dev.emitPf_convoys (d : Dev) (pf : Nat) (o : Output) : (d.emitPf pf o).que.convoys = d.que.convoys := (d.emitPf_frame pf o).convoys
@[simp] theorem Dev.emitPf_chipSafe (d : Dev) (pf : Nat) (o : Output) : (d.emitPf pf o).flt.chipSafe = d.flt.chipSafe := (d.emitPf_frame pf o).chipSafe
@[simp] theorem Dev.emitPf_hold (d : Dev) (pf : Nat) (o : Output) : (d.emitPf pf o).flt.hold = d.flt.hold := (d.emitPf_frame pf o).hold
@[simp] theorem Dev.emitPf_safe (d : Dev) (pf : Nat) (o : Output) : (d.emitPf pf o).flt.safe = d.flt.safe := (d.emitPf_frame pf o).safe
@[simp] theorem Dev.emitPf_armed (d : Dev) (pf : Nat) (o : Output) : (d.emitPf pf o).flt.armed = d.flt.armed := (d.emitPf_frame pf o).armed
@[simp] theorem Dev.emitPf_monitor (d : Dev) (pf : Nat) (o : Output) : (d.emitPf pf o).flt.monitor = d.flt.monitor := (d.emitPf_frame pf o).monitor
@[simp] theorem Dev.emitPf_octs (d : Dev) (pf : Nat) (o : Output) : (d.emitPf pf o).od.direct.octs = d.od.direct.octs := (d.emitPf_frame pf o).octs

/-! ### emitCpl -/

@[simp] theorem Dev.emitCpl_now (d : Dev) (q pos : Nat) (r : CplRec) : (d.emitCpl q pos r).now = d.now := (d.emitCpl_frame q pos r).now
@[simp] theorem Dev.emitCpl_free (d : Dev) (q pos : Nat) (r : CplRec) : (d.emitCpl q pos r).free = d.free := (d.emitCpl_frame q pos r).free
@[simp] theorem Dev.emitCpl_obj (d : Dev) (q pos : Nat) (r : CplRec) : (d.emitCpl q pos r).obj = d.obj := (d.emitCpl_frame q pos r).obj
@[simp] theorem Dev.emitCpl_cmp (d : Dev) (q pos : Nat) (r : CplRec) : (d.emitCpl q pos r).cmp = d.cmp := (d.emitCpl_frame q pos r).cmp
@[simp] theorem Dev.emitCpl_lch (d : Dev) (q pos : Nat) (r : CplRec) : (d.emitCpl q pos r).lch = d.lch := (d.emitCpl_frame q pos r).lch
@[simp] theorem Dev.emitCpl_net (d : Dev) (q pos : Nat) (r : CplRec) : (d.emitCpl q pos r).net = d.net := (d.emitCpl_frame q pos r).net
@[simp] theorem Dev.emitCpl_fry (d : Dev) (q pos : Nat) (r : CplRec) : (d.emitCpl q pos r).fry = d.fry := (d.emitCpl_frame q pos r).fry
@[simp] theorem Dev.emitCpl_per (d : Dev) (q pos : Nat) (r : CplRec) : (d.emitCpl q pos r).per = d.per := (d.emitCpl_frame q pos r).per
@[simp] theorem Dev.emitCpl_ctl (d : Dev) (q pos : Nat) (r : CplRec) : (d.emitCpl q pos r).ctl = d.ctl := (d.emitCpl_frame q pos r).ctl
@[simp] theorem Dev.emitCpl_pwr (d : Dev) (q pos : Nat) (r : CplRec) : (d.emitCpl q pos r).pwr = d.pwr := (d.emitCpl_frame q pos r).pwr
@[simp] theorem Dev.emitCpl_lan (d : Dev) (q pos : Nat) (r : CplRec) : (d.emitCpl q pos r).lan = d.lan := (d.emitCpl_frame q pos r).lan
@[simp] theorem Dev.emitCpl_sys (d : Dev) (q pos : Nat) (r : CplRec) : (d.emitCpl q pos r).sys = d.sys := (d.emitCpl_frame q pos r).sys
@[simp] theorem Dev.emitCpl_cry (d : Dev) (q pos : Nat) (r : CplRec) : (d.emitCpl q pos r).cry = d.cry := (d.emitCpl_frame q pos r).cry
@[simp] theorem Dev.emitCpl_cpu (d : Dev) (q pos : Nat) (r : CplRec) : (d.emitCpl q pos r).cpu = d.cpu := (d.emitCpl_frame q pos r).cpu
@[simp] theorem Dev.emitCpl_fls (d : Dev) (q pos : Nat) (r : CplRec) : (d.emitCpl q pos r).fls = d.fls := (d.emitCpl_frame q pos r).fls
@[simp] theorem Dev.emitCpl_man (d : Dev) (q pos : Nat) (r : CplRec) : (d.emitCpl q pos r).que.man = d.que.man := (d.emitCpl_frame q pos r).man
@[simp] theorem Dev.emitCpl_convoys (d : Dev) (q pos : Nat) (r : CplRec) : (d.emitCpl q pos r).que.convoys = d.que.convoys := (d.emitCpl_frame q pos r).convoys
@[simp] theorem Dev.emitCpl_chipSafe (d : Dev) (q pos : Nat) (r : CplRec) : (d.emitCpl q pos r).flt.chipSafe = d.flt.chipSafe := (d.emitCpl_frame q pos r).chipSafe
@[simp] theorem Dev.emitCpl_hold (d : Dev) (q pos : Nat) (r : CplRec) : (d.emitCpl q pos r).flt.hold = d.flt.hold := (d.emitCpl_frame q pos r).hold
@[simp] theorem Dev.emitCpl_safe (d : Dev) (q pos : Nat) (r : CplRec) : (d.emitCpl q pos r).flt.safe = d.flt.safe := (d.emitCpl_frame q pos r).safe
@[simp] theorem Dev.emitCpl_armed (d : Dev) (q pos : Nat) (r : CplRec) : (d.emitCpl q pos r).flt.armed = d.flt.armed := (d.emitCpl_frame q pos r).armed
@[simp] theorem Dev.emitCpl_monitor (d : Dev) (q pos : Nat) (r : CplRec) : (d.emitCpl q pos r).flt.monitor = d.flt.monitor := (d.emitCpl_frame q pos r).monitor
@[simp] theorem Dev.emitCpl_octs (d : Dev) (q pos : Nat) (r : CplRec) : (d.emitCpl q pos r).od.direct.octs = d.od.direct.octs := (d.emitCpl_frame q pos r).octs

/-! ### driveFaultN -/

@[simp] theorem Dev.driveFaultN_now (d : Dev) : (d.driveFaultN).now = d.now := (d.driveFaultN_frame).now
@[simp] theorem Dev.driveFaultN_free (d : Dev) : (d.driveFaultN).free = d.free := (d.driveFaultN_frame).free
@[simp] theorem Dev.driveFaultN_obj (d : Dev) : (d.driveFaultN).obj = d.obj := (d.driveFaultN_frame).obj
@[simp] theorem Dev.driveFaultN_cmp (d : Dev) : (d.driveFaultN).cmp = d.cmp := (d.driveFaultN_frame).cmp
@[simp] theorem Dev.driveFaultN_lch (d : Dev) : (d.driveFaultN).lch = d.lch := (d.driveFaultN_frame).lch
@[simp] theorem Dev.driveFaultN_net (d : Dev) : (d.driveFaultN).net = d.net := (d.driveFaultN_frame).net
@[simp] theorem Dev.driveFaultN_fry (d : Dev) : (d.driveFaultN).fry = d.fry := (d.driveFaultN_frame).fry
@[simp] theorem Dev.driveFaultN_per (d : Dev) : (d.driveFaultN).per = d.per := (d.driveFaultN_frame).per
@[simp] theorem Dev.driveFaultN_ctl (d : Dev) : (d.driveFaultN).ctl = d.ctl := (d.driveFaultN_frame).ctl
@[simp] theorem Dev.driveFaultN_pwr (d : Dev) : (d.driveFaultN).pwr = d.pwr := (d.driveFaultN_frame).pwr
@[simp] theorem Dev.driveFaultN_lan (d : Dev) : (d.driveFaultN).lan = d.lan := (d.driveFaultN_frame).lan
@[simp] theorem Dev.driveFaultN_sys (d : Dev) : (d.driveFaultN).sys = d.sys := (d.driveFaultN_frame).sys
@[simp] theorem Dev.driveFaultN_cry (d : Dev) : (d.driveFaultN).cry = d.cry := (d.driveFaultN_frame).cry
@[simp] theorem Dev.driveFaultN_cpu (d : Dev) : (d.driveFaultN).cpu = d.cpu := (d.driveFaultN_frame).cpu
@[simp] theorem Dev.driveFaultN_fls (d : Dev) : (d.driveFaultN).fls = d.fls := (d.driveFaultN_frame).fls
@[simp] theorem Dev.driveFaultN_man (d : Dev) : (d.driveFaultN).que.man = d.que.man := (d.driveFaultN_frame).man
@[simp] theorem Dev.driveFaultN_convoys (d : Dev) : (d.driveFaultN).que.convoys = d.que.convoys := (d.driveFaultN_frame).convoys
@[simp] theorem Dev.driveFaultN_chipSafe (d : Dev) : (d.driveFaultN).flt.chipSafe = d.flt.chipSafe := (d.driveFaultN_frame).chipSafe
@[simp] theorem Dev.driveFaultN_hold (d : Dev) : (d.driveFaultN).flt.hold = d.flt.hold := (d.driveFaultN_frame).hold
@[simp] theorem Dev.driveFaultN_safe (d : Dev) : (d.driveFaultN).flt.safe = d.flt.safe := (d.driveFaultN_frame).safe
@[simp] theorem Dev.driveFaultN_armed (d : Dev) : (d.driveFaultN).flt.armed = d.flt.armed := (d.driveFaultN_frame).armed
@[simp] theorem Dev.driveFaultN_monitor (d : Dev) : (d.driveFaultN).flt.monitor = d.flt.monitor := (d.driveFaultN_frame).monitor
@[simp] theorem Dev.driveFaultN_octs (d : Dev) : (d.driveFaultN).od.direct.octs = d.od.direct.octs := (d.driveFaultN_frame).octs

end Sys2Proof.Machine
end

