-- ==== Sys2Proof/Laws/Living.lean ====
section
/-!
SUPPORT. What a signed life cycle request does, said once.
-/
namespace Sys2Proof.Machine

/-- A request of a command's own kind is not turned away for its kind. -/
theorem lcOther_own (b : Bytes) (kind : Nat) (h : (lcReqOf b).kind = kind) : lcOther b kind = false := by
  have h' : leAt b 5 1 = kind := h
  simp [lcOther, h']

/-- A request is checked, uses up its challenge where the check says so, and is carried out or refused. -/
theorem Dev.lcRequest_eq (d : Dev) (b : Bytes) (agree : Bool) (act : LcReq → Dev → Dev) :
    d.lcRequest b agree act =
      (let k := d.lcCheck b (lcReqOf b) agree
       let y := if k.2.1 then d.onLcy (fun x => { x with nonce := none }) else d
       if k.1 = 0 then (0, act (lcReqOf b) (y.onLcy (fun x => { x with result := 0 }))) else (k.1, y.lcRefuse k.1 k.2.2)) := rfl

end Sys2Proof.Machine
end

