-- ==== Sys2Proof/Laws/Purser.lean ====
section
/-!
SUPPORT. A purser's operations and those of its tasks keep the invariant of the state.
-/
namespace Sys2Proof.Machine

@[simp] theorem State.inv_onPu (s : State) (p : Nat) (f : PuCore → PuCore) : (s.onPu p f).inv = s.inv := rfl
@[simp] theorem State.inv_puCycles (s : State) (p k : Nat) : (s.puCycles p k).inv = s.inv := rfl
@[simp] theorem State.inv_puZ (s : State) (p : Nat) (z : Bool) : (s.puZ p z).inv = s.inv := rfl
@[simp] theorem State.inv_svcReturn (s : State) (p : Nat) (x : Option Nat) (z : Bool) : (s.svcReturn p x z).inv = s.inv := rfl
@[simp] theorem State.inv_puDouble (s : State) (p : Nat) (f : CoreFault) : (s.puDouble p f).inv = s.inv := rfl

theorem State.inv_mk (d : Dev) (m : Tab Byte) (l : List Instr) : (State.mk d m l).inv = Memory.wf m := rfl

/-- A state whose memory is in canonical form has the invariant. -/
theorem State.inv_of_wf (s : State) (h : Memory.wf s.mem = true) : s.inv = true := h

/-! ## Tasks -/

theorem State.taskEnter_inv (s : State) (p k : Nat) (h : s.inv = true) : (s.taskEnter p k).inv = true := by
  unfold State.taskEnter; simp only [State.inv_onDev, h]

theorem State.taskLeave_inv (s : State) (p k : Nat) (st : TaskState) (f : CoreFault) (h : s.inv = true) :
    (s.taskLeave p k st f).inv = true := by
  unfold State.taskLeave
  extract_lets c x r s1
  have h1 : s1.inv = true := State.inv_write s _ _ h
  clear_value s1
  simp only [State.inv_onDev, h1]

theorem State.schedule_inv (s : State) (p : Nat) (h : s.inv = true) : (s.schedule p).inv = true := by
  unfold State.schedule
  split
  · split
    · exact State.taskEnter_inv _ _ _ h
    · exact h
  · exact h

theorem State.taskFaulted_inv (s : State) (p k : Nat) (f : CoreFault) (h : s.inv = true) : (s.taskFaulted p k f).inv = true :=
  State.schedule_inv _ _ (by rw [State.inv_onDev]; exact State.taskLeave_inv s p k _ f h)

theorem State.taskFault_inv (s : State) (p k : Nat) (f : CoreFault) (h : s.inv = true) : (s.taskFault p k f).inv = true :=
  State.taskFaulted_inv _ _ _ _ (by rw [State.inv_onDev]; exact h)

theorem State.taskSlice_inv (s : State) (p : Nat) (share : Bool) (h : s.inv = true) : (s.taskSlice p share).inv = true := by
  unfold State.taskSlice
  extract_lets c s1
  have h1 : s1.inv = true := by
    unfold s1
    split
    · split
      · exact h
      · exact State.taskLeave_inv _ _ _ _ _ h
    · exact h
  clear_value s1
  split
  · exact h
  · split
    · exact h1
    · exact State.schedule_inv _ _ h1

theorem memClearAll_wf (l : List (Nat × Nat)) (m : Tab Byte) (h : Memory.wf m = true) :
    Memory.wf (l.foldl (fun m e => memClear m e.1 e.2) m) = true := by
  induction l generalizing m with
  | nil => exact h
  | cons e t ih => exact ih _ (memClear_wf m e.1 e.2 h)

theorem State.taskStart_inv (s : State) (k : Nat) (h : s.inv = true) : (s.taskStart k).2.inv = true := by
  unfold State.taskStart
  split
  · exact h
  · next im _ =>
    extract_lets i blocks
    split
    · next f d0 _ =>
      split
      · exact h
      · next parts _ =>
        extract_lets p at_ c m1 m2 m3 x
        have h3 : Memory.wf m3 = true :=
          memWrite_wf _ _ _ (memWrite_wf _ _ _ (memWrite_wf _ _ _ (memClearAll_wf parts s.mem h)))
        clear_value m3
        exact State.schedule_inv _ _ h3

theorem State.taskStop_inv (s : State) (k : Nat) (h : s.inv = true) : (s.taskStop k).inv = true := by
  unfold State.taskStop
  extract_lets x p s1 s2
  have h1 : s1.inv = true := by
    unfold s1
    split
    · exact State.taskLeave_inv _ _ _ _ _ h
    · exact h
  have h2 : s2.inv = true := memClear_wf _ _ _ (memClearAll_wf _ _ h1)
  clear_value s2
  exact State.schedule_inv _ _ (by rw [State.inv_onDev]; exact h2)

theorem State.taskEnable_inv (s : State) (k : Nat) (on : Bool) (h : s.inv = true) : (s.taskEnable k on).2.inv = true := by
  unfold State.taskEnable
  split
  · split
    · exact State.taskStart_inv s k h
    · exact h
  · exact State.taskStop_inv s k h

theorem State.objectWrite_inv (s : State) (f : State → Nat × State) (hf : (f s).2.inv = true) (h : s.inv = true) :
    (s.objectWrite f).inv = true := by
  unfold State.objectWrite
  extract_lets say
  have hs : ∀ (x : State) (n : Nat), x.inv = true → (say x n).inv = true := fun x n hx => by
    simp only [say]
    split
    · exact hx
    · exact hx
  clear_value say
  split
  · exact hs _ _ h
  · split
    · exact hs _ _ h
    · exact hs _ _ hf

/-! ## Exceptions -/

theorem State.puTake_inv (s : State) (p : Nat) (f : CoreFault) (saved : Nat) (h : s.inv = true) : (s.puTake p f saved).inv = true := by
  unfold State.puTake
  extract_lets s1 c v e s2
  have h1 : s1.inv = true := h
  have h2 : s2.inv = true := State.inv_write s1 _ _ h1
  clear_value s1 s2
  split
  · rw [State.inv_puDouble]; exact h1
  · rw [State.inv_onPu]; exact h2

theorem State.puFault_inv (s : State) (p : Nat) (f : CoreFault) (h : s.inv = true) : (s.puFault p f).inv = true := by
  unfold State.puFault
  split
  · exact State.taskFault_inv _ _ _ _ h
  · exact State.puTake_inv _ _ _ _ h

theorem State.puNotice_inv (s : State) (p : Nat) (h : s.inv = true) : (s.puNotice p).inv = true := by
  unfold State.puNotice
  extract_lets c
  split
  · exact State.puFault_inv _ _ _ h
  · exact h

theorem State.puInterruptNow_inv (s : State) (p source : Nat) (h : s.inv = true) : (s.puInterruptNow p source).inv = true := by
  unfold State.puInterruptNow
  extract_lets f s1 c
  have h1 : s1.inv = true := h
  clear_value s1
  split
  · rw [State.inv_onPu]
    exact State.inv_write s1 _ _ h1
  · exact State.puTake_inv _ _ _ _ h

theorem State.puInterrupt_inv (s : State) (p source : Nat) (h : s.inv = true) : (s.puInterrupt p source).inv = true := by
  unfold State.puInterrupt
  extract_lets c s1
  have h1 : s1.inv = true := h
  clear_value s1
  split
  · exact h
  · split
    · exact State.puInterruptNow_inv _ _ _ h1
    · exact h1

/-! ## Stepping -/

/-- The states that an instruction's own work may end in have the invariant. -/
def PuEnd.inv : PuEnd → Prop
  | .seq s => s.inv = true
  | .jump s _ => s.inv = true
  | .fault s _ => s.inv = true
  | .interrupt s _ => s.inv = true
  | .gone s => s.inv = true
  | .stay => True

@[simp] theorem PuEnd.inv_seq (s : State) : (PuEnd.seq s).inv ↔ s.inv = true := Iff.rfl
@[simp] theorem PuEnd.inv_jump (s : State) (pc : Nat) : (PuEnd.jump s pc).inv ↔ s.inv = true := Iff.rfl
@[simp] theorem PuEnd.inv_fault (s : State) (f : CoreFault) : (PuEnd.fault s f).inv ↔ s.inv = true := Iff.rfl
@[simp] theorem PuEnd.inv_interrupt (s : State) (n : Nat) : (PuEnd.interrupt s n).inv ↔ s.inv = true := Iff.rfl
@[simp] theorem PuEnd.inv_gone (s : State) : (PuEnd.gone s).inv ↔ s.inv = true := Iff.rfl
@[simp] theorem PuEnd.inv_stay : PuEnd.stay.inv ↔ True := Iff.rfl

theorem State.puFetch_inv (s : State) (p len : Nat) (h : s.inv = true) : ∀ x, s.puFetch p len = some x → x.1.inv = true := by
  intro x e
  unfold State.puFetch at e
  extract_lets c a info at e
  split at e
  · cases e; exact h
  · split at e
    · cases e
    · cases e; exact h

theorem State.purser_inv (s : State) (p len cycles : Nat) (tw : Twice) (body : State → PuEnd)
    (hb : ∀ x : State, x.inv = true → (body x).inv) (h : s.inv = true) : (s.purser p len cycles tw body).inv = true := by
  unfold State.purser
  extract_lets c next long s0 go
  have h0 : s0.inv = true := h
  have hg : ∀ (x : State) (cyc pc : Nat), x.inv = true → (go x cyc pc).inv = true := fun x cyc pc hx =>
    State.puNotice_inv _ _ (by rw [State.inv_onPu, State.inv_puCycles]; exact hx)
  clear_value s0 go
  split
  · exact h
  · split
    · exact hg _ _ _ (by rw [State.inv_onPu]; exact h0)
    · split
      · next s1 f e => exact State.puFault_inv _ _ _ (State.puFetch_inv s0 p len h0 _ e)
      · have ht : ∀ (x : State) (total : Nat), x.inv = true →
            (match body x with
              | .seq s2 => go s2 total next
              | .jump s2 pc => go s2 total pc
              | .fault s2 f => s2.puFault p f
              | .interrupt s2 src => s2.puInterruptNow p src
              | .gone s2 => s2
              | .stay => s).inv = true := by
          intro x total hx
          have hs := hb x hx
          split <;> rename_i e <;> rw [e] at hs
          · exact hg _ _ _ hs
          · exact hg _ _ _ hs
          · exact State.puFault_inv _ _ _ hs
          · exact State.puInterruptNow_inv _ _ _ hs
          · exact hs
          · exact h
        cases tw with
        | none =>
          simp only [Bool.false_eq_true, if_false]
          exact ht _ _ h0
        | some x =>
          have hd : ({ s0 with dev := (s0.dev.twiceDelay p).2 } : State).inv = true := h0
          simp only
          split
          · exact State.puFault_inv _ _ _ hd
          · exact ht _ _ hd

theorem State.fetchFault_inv (s : State) (r : CoreRef) (h : s.inv = true) : (s.fetchFault r).inv = true := by
  unfold State.fetchFault
  split
  · extract_lets c
    split
    · exact State.dhTake_inv _ _ _ h
    · exact h
  · split
    · split
      · next s1 f e => exact State.puFault_inv _ _ _ (by rw [State.inv_onPu]; exact State.puFetch_inv s _ _ h _ e)
      · exact h
    · exact h

theorem State.puReg_inv (s : State) (p len cycles : Nat) (tw : Twice) (f : PuCore → PuCore) (h : s.inv = true) :
    (s.puReg p len cycles tw f).inv = true := State.purser_inv _ _ _ _ _ _ (fun _ hx => hx) h

theorem State.puAlu_inv (s : State) (p : Nat) (x : PuPre) (op : AluOp) (r src : Fin 16) (h : s.inv = true) :
    (s.puAlu p x op r src).inv = true := State.puReg_inv _ _ _ _ _ _ h

theorem State.puIllegalAt_inv (s : State) (p len cause : Nat) (h : s.inv = true) : (s.puIllegalAt p len cause).inv = true :=
  State.purser_inv _ _ _ _ _ _ (fun _ hx => hx) h

/-! ## Memory -/

theorem State.puCheck_inv (s : State) (p a log2 : Nat) (write block aligned : Bool) (h : s.inv = true) :
    ∀ x, s.puCheck p a log2 write block aligned = some x → x.1.inv = true := by
  intro x e
  unfold State.puCheck at e
  extract_lets n at e
  split at e
  · cases e; exact h
  · split at e
    · cases e; exact h
    · split at e
      · cases e
      · cases e; exact h

theorem State.puFlash_inv (s : State) (a n : Nat) (h : s.inv = true) : ∀ x, s.puFlash a n = .inr x → x.2.inv = true := by
  intro x e
  unfold State.puFlash at e
  extract_lets sector off at e
  split at e
  · cases e
  · split at e
    · cases e
    · split at e
      · cases e; exact h
      · split at e <;> (cases e; exact h)

theorem State.puTarget_inv (s : State) (a n : Nat) (h : s.inv = true) : ∀ x, s.puTarget a n = .inr x → x.2.inv = true := by
  intro x e
  unfold State.puTarget at e
  split at e
  · cases e; exact h
  · split at e
    · exact State.puFlash_inv s a n h x e
    · split at e
      · extract_lets off at e
        split at e
        · cases e
        · cases e; exact h
      · split at e
        · cases e; exact h
        · cases e

theorem State.puLoad_inv (s : State) (p a : Nat) (w : PuWidth) (block aligned : Bool) (h : s.inv = true) :
    (∀ x, s.puLoad p a w block aligned = .inl x → x.1.inv = true) ∧ (∀ x, s.puLoad p a w block aligned = .inr x → x.2.inv = true) := by
  unfold State.puLoad
  split
  · next x e => exact ⟨fun y ey => (by cases ey; exact State.puCheck_inv s _ _ _ _ _ _ h _ e), fun y ey => by cases ey⟩
  · split
    · next b s1 e => exact ⟨fun y ey => (by cases ey), fun y ey => by cases ey; exact State.puTarget_inv s _ _ h _ e⟩
    · exact ⟨fun y ey => (by cases ey; exact h), fun y ey => by cases ey⟩

theorem State.puPut_inv (s : State) (p a n v : Nat) (h : s.inv = true) : ∀ x, s.puPut p a n v = some x → x.inv = true := by
  intro x e
  unfold State.puPut at e
  split at e
  · cases e; exact State.inv_put _ _ _ _ h
  · split at e
    · extract_lets off who at e
      split at e
      · cases e
      · split at e
        · cases e
        · split at e
          · cases e; exact h
          · split at e
            · cases e
            · cases e; exact h
    · split at e
      · cases e; exact h
      · cases e

theorem State.puStore_inv (s : State) (p a : Nat) (w : PuWidth) (v : Nat) (block aligned : Bool) (h : s.inv = true) :
    (∀ x, s.puStore p a w v block aligned = .inl x → x.1.inv = true) ∧ (∀ x, s.puStore p a w v block aligned = .inr x → x.inv = true) := by
  unfold State.puStore
  split
  · next x e => exact ⟨fun y ey => (by cases ey; exact State.puCheck_inv s _ _ _ _ _ _ h _ e), fun y ey => by cases ey⟩
  · split
    · next s1 e => exact ⟨fun y ey => (by cases ey), fun y ey => by cases ey; exact State.puPut_inv s _ _ _ _ h _ e⟩
    · split
      · exact ⟨fun y ey => (by cases ey; exact h), fun y ey => by cases ey⟩
      · exact ⟨fun y ey => (by cases ey), fun y ey => by cases ey; exact h⟩

theorem State.puAtom_inv (s : State) (p a : Nat) (w : PuWidth) (atom write : Bool) (body : State → PuEnd)
    (hb : ∀ x : State, x.inv = true → (body x).inv) (h : s.inv = true) : (s.puAtom p a w atom write body).inv := by
  unfold State.puAtom
  split
  · exact hb s h
  · extract_lets s0
    have h0 : s0.inv = true := h
    clear_value s0
    split
    · next s1 f e => exact State.puCheck_inv s0 _ _ _ _ _ _ h0 _ e
    · split
      · exact hb s0 h0
      · exact h0

theorem State.puLd_inv (s : State) (p : Nat) (w : PuWidth) (m : PuMem) (signed : Bool) (r b : Fin 16) (x : Disp) (h : s.inv = true) :
    (s.puLd p w m signed r b x).inv = true := by
  refine State.purser_inv _ _ _ _ _ _ (fun y hy => ?_) h
  split
  · exact hy
  refine State.puAtom_inv _ _ _ _ _ _ _ (fun z hz => ?_) hy
  split
  · next e => exact (State.puLoad_inv z _ _ _ _ _ hz).1 _ e
  · next v s1 e => exact (State.puLoad_inv z _ _ _ _ _ hz).2 (v, s1) e

theorem State.puSt_inv (s : State) (p : Nat) (w : PuWidth) (m : PuMem) (r b : Fin 16) (x : Disp) (h : s.inv = true) :
    (s.puSt p w m r b x).inv = true := by
  refine State.purser_inv _ _ _ _ _ _ (fun y hy => State.puAtom_inv _ _ _ _ _ _ _ (fun z hz => ?_) hy) h
  split
  · next e => exact (State.puStore_inv z _ _ _ _ _ _ hz).1 _ e
  · next e => exact (State.puStore_inv z _ _ _ _ _ _ hz).2 _ e

theorem State.puRmw_inv (s : State) (p : Nat) (w : PuWidth) (atom : Bool) (b : Fin 16) (x : Disp)
    (f : PuCore → Nat → Option Nat × PuCore) (h : s.inv = true) : (s.puRmw p w atom b x f).inv = true := by
  refine State.purser_inv _ _ _ _ _ _ (fun y hy => State.puAtom_inv _ _ _ _ _ _ _ (fun z hz => ?_) hy) h
  split
  · next e => exact (State.puLoad_inv z _ _ _ _ _ hz).1 _ e
  · next v s1 e =>
    have h1 : s1.inv = true := (State.puLoad_inv z _ _ _ _ _ hz).2 (v, s1) e
    simp only
    split
    · rw [PuEnd.inv_seq, State.inv_onPu]; exact h1
    · split
      · next e => exact (State.puStore_inv s1 _ _ _ _ _ _ h1).1 _ e
      · next s2 e => rw [PuEnd.inv_seq, State.inv_onPu]; exact (State.puStore_inv s1 _ _ _ _ _ _ h1).2 s2 e

theorem State.puPush_inv (s : State) (p : Nat) (st : Fin 16) (value : PuCore → Nat) (h : s.inv = true) :
    (∀ x, s.puPush p st value = .inl x → x.1.inv = true) ∧ (∀ x, s.puPush p st value = .inr x → x.inv = true) := by
  unfold State.puPush
  extract_lets a c
  split
  · exact ⟨fun y ey => (by cases ey; exact h), fun y ey => by cases ey⟩
  · split
    · next x e => exact ⟨fun y ey => (by cases ey; exact (State.puStore_inv s _ _ _ _ _ _ h).1 _ e), fun y ey => by cases ey⟩
    · next s1 e => exact ⟨fun y ey => (by cases ey), fun y ey => by
        cases ey; rw [State.inv_onPu]; exact (State.puStore_inv s _ _ _ _ _ _ h).2 _ e⟩

theorem State.puTop_inv (s : State) (p : Nat) (st : Fin 16) (h : s.inv = true) :
    (∀ x, s.puTop p st = .inl x → x.1.inv = true) ∧ (∀ x, s.puTop p st = .inr x → x.2.inv = true) := by
  unfold State.puTop
  extract_lets a
  split
  · exact ⟨fun y ey => (by cases ey; exact h), fun y ey => by cases ey⟩
  · exact State.puLoad_inv s _ _ _ _ _ h

/-! ## The instructions -/

theorem State.puAlui_inv (s : State) (p : Nat) (x : PuPre) (op : AluOp) (r : Fin 16) (imm : PuImm) (h : s.inv = true) :
    (s.puAlui p x op r imm).inv = true := by
  refine State.purser_inv _ _ _ _ _ _ (fun y hy => ?_) h
  split
  · exact hy
  · split <;> exact hy

theorem State.puShift_inv (s : State) (p : Nat) (x : PuPre) (op : AluOp) (r : Fin 16) (imm : BitVec 8) (h : s.inv = true) :
    (s.puShift p x op r imm).inv = true := by
  refine State.purser_inv _ _ _ _ _ _ (fun y hy => ?_) h
  split <;> exact hy

theorem State.puRnd_inv (s : State) (p : Nat) (r : Fin 16) (h : s.inv = true) : (s.puRnd p r).inv = true := by
  refine State.purser_inv _ _ _ _ _ _ (fun y hy => ?_) h
  split
  · trivial
  · exact hy
  · generalize (y.dev.rngRequest p).take = e
    exact hy

theorem State.puBr_inv (s : State) (p : Nat) (tw : Twice) (rel : PuRel) (h : s.inv = true) : (s.puBr p tw rel).inv = true :=
  State.purser_inv _ _ _ _ _ _ (fun _ hx => hx) h

theorem State.puCall_inv (s : State) (p : Nat) (tw : Twice) (st : Fin 16) (rel : BitVec 32) (h : s.inv = true) :
    (s.puCall p tw st rel).inv = true := by
  refine State.purser_inv _ _ _ _ _ _ (fun y hy => ?_) h
  extract_lets nx
  split
  · next e => exact (State.puPush_inv y _ _ _ hy).1 _ e
  · next e => exact (State.puPush_inv y _ _ _ hy).2 _ e

theorem State.puJr_inv (s : State) (p : Nat) (tw : Twice) (r : Fin 16) (h : s.inv = true) : (s.puJr p tw r).inv = true :=
  State.purser_inv _ _ _ _ _ _ (fun _ hx => hx) h

theorem State.puCallr_inv (s : State) (p : Nat) (tw : Twice) (r st : Fin 16) (h : s.inv = true) : (s.puCallr p tw r st).inv = true := by
  refine State.purser_inv _ _ _ _ _ _ (fun y hy => ?_) h
  split
  · next e => exact (State.puPush_inv y _ _ _ hy).1 _ e
  · next e => exact (State.puPush_inv y _ _ _ hy).2 _ e

theorem State.puRet_inv (s : State) (p : Nat) (tw : Twice) (st : Fin 16) (h : s.inv = true) : (s.puRet p tw st).inv = true := by
  refine State.purser_inv _ _ _ _ _ _ (fun y hy => ?_) h
  split
  · next e => exact (State.puTop_inv y _ _ hy).1 _ e
  · next v s1 e => rw [PuEnd.inv_jump, State.inv_onPu]; exact (State.puTop_inv y _ _ hy).2 (v, s1) e

theorem State.puPushI_inv (s : State) (p : Nat) (r st : Fin 16) (h : s.inv = true) : (s.puPushI p r st).inv = true := by
  refine State.purser_inv _ _ _ _ _ _ (fun y hy => ?_) h
  split
  · next e => exact (State.puPush_inv y _ _ _ hy).1 _ e
  · next e => exact (State.puPush_inv y _ _ _ hy).2 _ e

theorem State.puPopI_inv (s : State) (p : Nat) (r st : Fin 16) (h : s.inv = true) : (s.puPopI p r st).inv = true := by
  refine State.purser_inv _ _ _ _ _ _ (fun y hy => ?_) h
  split
  · next e => exact (State.puTop_inv y _ _ hy).1 _ e
  · next v s1 e => rw [PuEnd.inv_seq, State.inv_onPu]; exact (State.puTop_inv y _ _ hy).2 (v, s1) e

theorem State.puSkip_inv (s : State) (p : Nat) (tw : Twice) (cc : Fin 16) (h : s.inv = true) : (s.puSkip p tw cc).inv = true := by
  refine State.purser_inv _ _ _ _ _ _ (fun y hy => ?_) h
  simp only [PuEnd.inv_seq, State.inv_onPu]
  split <;> exact hy

theorem State.puMfs_inv (s : State) (p : Nat) (tw : Twice) (r sr : Fin 16) (h : s.inv = true) : (s.puMfs p tw r sr).inv = true :=
  State.puReg_inv _ _ _ _ _ _ h

theorem State.puMts_inv (s : State) (p : Nat) (sr r : Fin 16) (h : s.inv = true) : (s.puMts p sr r).inv = true := by
  refine State.purser_inv _ _ _ _ _ _ (fun y hy => ?_) h
  extract_lets c v bad ok
  have hb : bad.inv := hy
  have ho : ∀ f, (ok f).inv := fun f => hy
  clear_value bad ok
  split
  · split
    · exact hb
    · exact ho _
  · exact ho _
  · exact ho _
  · split
    · exact hb
    · exact ho _
  · split
    · exact hb
    · exact ho _
  · exact hb

theorem State.puWait_inv (s : State) (p : Nat) (h : s.inv = true) : (s.puWait p).inv = true :=
  State.purser_inv _ _ _ _ _ _ (fun _ hx => hx) h

theorem State.puFence_inv (s : State) (p : Nat) (h : s.inv = true) : (s.puFence p).inv = true :=
  State.purser_inv _ _ _ _ _ _ (fun _ hx => hx) h

theorem State.puResume_inv (s : State) (p a : Nat) (h : s.inv = true) : (s.puResume p a).inv := by
  unfold State.puResume
  extract_lets b s1
  have h1 : s1.inv = true := (State.inv_onPu s p _).trans h
  clear_value s1
  rw [PuEnd.inv_jump]
  exact h1

theorem State.puTret_inv (s : State) (p : Nat) (h : s.inv = true) : (s.puTret p).inv = true := by
  refine State.purser_inv _ _ _ _ _ _ (fun y hy => ?_) h
  extract_lets c a
  split
  · exact hy
  · split
    · exact State.puResume_inv _ _ _ hy
    · exact hy

theorem State.puTsw_inv (s : State) (p : Nat) (r : Fin 16) (h : s.inv = true) : (s.puTsw p r).inv = true := by
  refine State.purser_inv _ _ _ _ _ _ (fun y hy => ?_) h
  extract_lets c a old saved
  split
  · exact hy
  · split
    · exact hy
    · split
      · exact State.puResume_inv _ _ _ hy
      · split
        · exact hy
        · exact State.puResume_inv _ _ _ (State.inv_write y _ _ hy)

theorem puBlockFuel_inv (p : Nat) (step : State → BlockStep) (done : State → State)
    (hs : ∀ x : State, x.inv = true → (step x).inv) (hd : ∀ x : State, x.inv = true → (done x).inv = true) :
    ∀ (k : Nat) (upTo : Option (Nat × Nat)) (s : State), s.inv = true → (puBlockFuel p step done k upTo s).inv := by
  intro k
  induction k with
  | zero => exact fun _ s h => hd s h
  | succ k ih =>
    intro upTo s h
    unfold puBlockFuel
    extract_lets c
    split
    · exact hd s h
    · split
      · exact h
      · have hx := hs s h
        split <;> rename_i e <;> rw [e] at hx
        · exact ih _ _ hx
        · exact hx
        · exact hx

theorem State.puBlock_inv (s : State) (p : Nat) (x : PuRep) (len per : Nat) (src dst : Bool) (step : State → BlockStep) (done : State → State)
    (hs : ∀ x : State, x.inv = true → (step x).inv) (hd : ∀ x : State, x.inv = true → (done x).inv = true) (h : s.inv = true) :
    (s.puBlock p x len per src dst step done).inv = true := by
  refine State.purser_inv _ _ _ _ _ _ (fun y hy => ?_) h
  split
  · exact puBlockFuel_inv p step done hs hd _ _ y hy
  · have hx := hs y hy
    split <;> rename_i e <;> rw [e] at hx
    · exact hd _ hx
    · exact hx
    · exact hx

theorem puMovsStep_inv (p : Nat) (w : PuWidth) (s : State) (h : s.inv = true) : (puMovsStep p w s).inv := by
  unfold puMovsStep
  extract_lets c
  split
  · next e => exact (State.puLoad_inv s _ _ _ _ _ h).1 _ e
  · next v s1 e =>
    have h1 : s1.inv = true := (State.puLoad_inv s _ _ _ _ _ h).2 (v, s1) e
    split
    · next e => exact (State.puStore_inv s1 _ _ _ _ _ _ h1).1 _ e
    · next s2 e => exact (State.puStore_inv s1 _ _ _ _ _ _ h1).2 s2 e

theorem puFilsStep_inv (p : Nat) (w : PuWidth) (s : State) (h : s.inv = true) : (puFilsStep p w s).inv := by
  unfold puFilsStep
  extract_lets c
  split
  · next e => exact (State.puStore_inv s _ _ _ _ _ _ h).1 _ e
  · next s2 e => exact (State.puStore_inv s _ _ _ _ _ _ h).2 s2 e

theorem puCmpsStep_inv (p : Nat) (w : PuWidth) (s : State) (h : s.inv = true) : (puCmpsStep p w s).inv := by
  unfold puCmpsStep
  extract_lets c
  split
  · next e => exact (State.puLoad_inv s _ _ _ _ _ h).1 _ e
  · next v s1 e =>
    have h1 : s1.inv = true := (State.puLoad_inv s _ _ _ _ _ h).2 (v, s1) e
    split
    · next e => exact (State.puLoad_inv s1 _ _ _ _ _ h1).1 _ e
    · next v2 s2 e =>
      have h2 : s2.inv = true := (State.puLoad_inv s1 _ _ _ _ _ h1).2 (v2, s2) e
      split <;> exact h2

theorem puScnsStep_inv (p : Nat) (w : PuWidth) (s : State) (h : s.inv = true) : (puScnsStep p w s).inv := by
  unfold puScnsStep
  extract_lets c
  split
  · next e => exact (State.puLoad_inv s _ _ _ _ _ h).1 _ e
  · next v s1 e =>
    have h1 : s1.inv = true := (State.puLoad_inv s _ _ _ _ _ h).2 (v, s1) e
    split <;> exact h1

theorem puCrcsStep_inv (p : Nat) (w : PuWidth) (r : Fin 16) (s : State) (h : s.inv = true) : (puCrcsStep p w r s).inv := by
  unfold puCrcsStep
  extract_lets c
  split
  · next e => exact (State.puLoad_inv s _ _ _ _ _ h).1 _ e
  · next v s1 e => exact (State.puLoad_inv s _ _ _ _ _ h).2 (v, s1) e

theorem State.puMoveCheck_inv (s : State) (p : Nat) (w : PuWidth) (a n : Nat) (write : Bool) (h : s.inv = true) :
    ∀ x, s.puMoveCheck p w a n write = some x → x.2.1.inv = true := by
  intro x e
  unfold State.puMoveCheck at e
  rw [List.findSome?_eq_some_iff] at e
  obtain ⟨l, i, r, -, e, -⟩ := e
  rw [Option.map_eq_some_iff] at e
  obtain ⟨y, e, rfl⟩ := e
  exact State.puCheck_inv s _ _ _ _ _ _ h y e

theorem State.puKeywin_inv (s : State) (p : Nat) (w : PuWidth) (h : s.inv = true) : (s.puKeywin p w).inv = true := by
  unfold State.puKeywin
  extract_lets c0 bytes
  refine State.purser_inv _ _ _ _ _ _ (fun y hy => ?_) h
  extract_lets c n src dst slot k toPort moved refused
  have hm : ∀ x : State, x.inv = true → (moved x).inv := fun x hx => hx
  have hr : ∀ cause a : Nat, (refused cause a).inv := fun cause a => hy
  clear_value moved refused
  split
  · exact hy
  · split
    · exact hy
    · split
      · exact hy
      · split
        · exact hy
        · split
          · split
            · next i s1 f e =>
              have h1 : s1.inv = true := State.puMoveCheck_inv y _ _ _ _ _ hy _ e
              rw [PuEnd.inv_fault]
              split <;> exact h1
            · split
              · exact hr _ _
              · split
                · exact hm _ hy
                · exact hr _ _
          · split
            · next i s1 f e =>
              have h1 : s1.inv = true := State.puMoveCheck_inv y _ _ _ _ _ hy _ e
              rw [PuEnd.inv_fault]
              split <;> exact h1
            · split
              · exact hr _ _
              · exact hm _ hy

theorem State.puMovs_inv (s : State) (p : Nat) (x : PuRep) (keywin : Bool) (h : s.inv = true) : (s.puMovs p x keywin).inv = true := by
  unfold State.puMovs
  split
  · split
    · exact State.puKeywin_inv _ _ _ h
    · exact State.puIllegalAt_inv _ _ _ _ h
  · exact State.puBlock_inv _ _ _ _ _ _ _ _ _ (puMovsStep_inv p x.w) (fun _ hx => hx) h

/-! ## Services -/

theorem State.puSvc_inv (s : State) (p imm : Nat) (serve : Nat → State → State)
    (hf : ∀ (k : Nat) (x : State), x.inv = true → (serve k x).inv = true) (h : s.inv = true) : (s.puSvc p imm serve).inv = true := by
  refine State.purser_inv _ _ _ _ _ _ (fun y hy => ?_) h
  extract_lets c after
  split
  · exact State.puTake_inv _ _ _ _ hy
  · exact hf _ _ hy

theorem State.svcResume_inv (s : State) (p k imm : Nat) (h : s.inv = true) : (s.svcResume p k imm).inv = true := by
  unfold State.svcResume
  rw [State.inv_onPu]
  exact State.inv_write s _ _ h

theorem State.svcYield_inv (s : State) (p : Nat) (h : s.inv = true) : (s.svcYield p).inv = true :=
  State.puSvc_inv _ _ _ _ (fun _ _ hx => State.schedule_inv _ _ (State.taskLeave_inv _ _ _ _ _ hx)) h

theorem State.svcExit_inv (s : State) (p : Nat) (h : s.inv = true) : (s.svcExit p).inv = true :=
  State.puSvc_inv _ _ _ _ (fun _ x hx => State.schedule_inv _ _ (by
    rw [State.inv_onDev]; exact State.taskLeave_inv x _ _ _ _ hx)) h

theorem State.svcWait_inv (s : State) (p : Nat) (h : s.inv = true) : (s.svcWait p).inv = true := by
  refine State.puSvc_inv _ _ _ _ (fun k x hx => ?_) h
  simp only
  split
  · exact State.svcResume_inv _ _ _ _ hx
  · split
    · exact State.svcResume_inv _ _ _ _ hx
    · exact State.schedule_inv _ _ (State.taskLeave_inv _ _ _ _ _ hx)

theorem State.endWait_inv (s : State) (k bit : Nat) (h : s.inv = true) : (s.endWait k bit).inv = true := by
  unfold State.endWait
  extract_lets x f m
  have hm : Memory.wf m = true := memPut_wf _ _ _ _ (memPut_wf _ _ _ _ h)
  clear_value m
  exact State.schedule_inv _ _ hm

theorem State.waitTimeout_inv (s : State) (k : Nat) (h : s.inv = true) : (s.waitTimeout k).inv = true := by
  unfold State.waitTimeout
  extract_lets x
  split
  · exact State.endWait_inv _ _ _ h
  · exact h

theorem State.taskNotified_inv (s : State) (k : Nat) (h : s.inv = true) : (s.taskNotified k).inv = true := by
  unfold State.taskNotified
  extract_lets x
  split
  · exact State.endWait_inv _ _ _ h
  · exact h

theorem State.svcSignalLane_inv (s : State) (p : Nat) (h : s.inv = true) : (s.svcSignalLane p).inv = true := by
  refine State.puSvc_inv _ _ _ _ (fun k x hx => ?_) h
  simp only
  split <;> exact State.svcResume_inv _ _ _ _ hx

theorem State.svcTaskEvent_inv (s : State) (p : Nat) (h : s.inv = true) : (s.svcTaskEvent p).inv = true :=
  State.puSvc_inv _ _ _ _ (fun _ _ hx => State.svcResume_inv _ _ _ _ hx) h

theorem State.svcRandom_inv (s : State) (p : Nat) (h : s.inv = true) : (s.svcRandom p).inv = true := by
  refine State.puSvc_inv _ _ _ _ (fun k x hx => ?_) h
  simp only
  split
  · refine State.svcResume_inv _ _ _ _ ?_
    rw [State.inv_svcReturn, State.inv_mk]
    exact memWrite_wf _ _ _ hx
  · exact State.svcResume_inv _ _ _ _ hx

theorem State.svcOther_inv (s : State) (p code : Nat) (h : s.inv = true) : (s.svcOther p code).inv = true := by
  refine State.puSvc_inv _ _ _ _ (fun k x hx => ?_) h
  split
  · exact hx
  · exact State.taskFaulted_inv _ _ _ _ hx

/-- What an instruction of a purser that is ready does. -/
theorem State.purser_ready (s : State) (p len cycles : Nat) (tw : Twice) (body : State → PuEnd) (h : s.puReady p len tw = true) :
    s.purser p len cycles tw body =
      match body (s.puBegin p tw) with
      | .seq s2 => s2.puDone p (s.puCost p tw len cycles) ((s.dev.pu p).pc.toNat + len)
      | .jump s2 pc => s2.puDone p (s.puCost p tw len cycles) pc
      | .fault s2 f => s2.puFault p f
      | .interrupt s2 src => s2.puInterruptNow p src
      | .gone s2 => s2
      | .stay => s := by
  simp only [State.puReady, Bool.and_eq_true, Bool.not_eq_true', Option.isNone_iff_eq_none] at h
  obtain ⟨⟨⟨h1, h2⟩, h3⟩, h4⟩ := h
  unfold State.purser
  dsimp only
  rw [if_neg (by rw [h1]; decide), if_neg (by rw [h2]; decide), h3]
  rcases tw with _ | x
  · rfl
  · simp only [decide_eq_true_eq] at h4
    subst h4
    rfl

/-- What a register instruction of a purser that is ready does. -/
theorem State.puReg_ready (s : State) (p len cycles : Nat) (tw : Twice) (f g : PuCore → PuCore) (h : s.puReady p len tw = true)
    (e : ∀ c, f c = g c) : s.puReg p len cycles tw f = s.puSeq p len cycles tw (fun y => y.onPu p g) := by
  cases funext e
  exact (State.purser_ready s p len cycles tw _ h).trans rfl

/-- What an instruction of a purser whose work ends in sequence does. -/
theorem State.purser_seq (s : State) (p len cycles : Nat) (tw : Twice) (body : State → PuEnd) (work : State → State) (h : s.puReady p len tw = true)
    (e : body (s.puBegin p tw) = .seq (work (s.puBegin p tw))) : s.purser p len cycles tw body = s.puSeq p len cycles tw work := by
  rw [State.purser_ready s p len cycles tw body h, e]
  rfl

/-- What an instruction of a purser whose work transfers control does. -/
theorem State.purser_jump (s : State) (p len cycles : Nat) (tw : Twice) (body : State → PuEnd) (work : State → State) (pc : Nat)
    (h : s.puReady p len tw = true) (e : body (s.puBegin p tw) = .jump (work (s.puBegin p tw)) pc) :
    s.purser p len cycles tw body = s.puJump p len cycles tw work pc := by
  rw [State.purser_ready s p len cycles tw body h, e]
  rfl

/-- What SVC does in a task. -/
theorem State.puSvc_task (s : State) (p imm k : Nat) (serve : Nat → State → State) (h : s.puReady p 2 none = true)
    (e : ((s.puBegin p none).dev.pu p).running = some k) : s.puSvc p imm serve = serve k (s.puCalls p) := by
  refine (State.purser_ready s p 2 40 none _ h).trans ?_
  dsimp only
  rw [e]
  rfl

theorem State.onPu_congr (x : State) (p : Nat) (f g : PuCore → PuCore) (h : f (x.dev.pu p) = g (x.dev.pu p)) : x.onPu p f = x.onPu p g := by
  unfold State.onPu State.onDev Dev.onPu
  dsimp only
  rw [h]

/-! ## The bytes of an instruction (R354–R357) -/

@[simp] theorem PuWidth.length_prefix (w : PuWidth) : w.prefix.length = w.pre := by cases w <;> rfl

@[simp] theorem length_twicePre (t : Twice) : (twicePre t).length = b2n t.isSome := by cases t <;> rfl

@[simp] theorem PuPre.length_bytes (x : PuPre) : x.bytes.length = x.len := by simp [PuPre.bytes, PuPre.len]

@[simp] theorem PuMem.length_bytes (m : PuMem) : m.bytes.length = m.len := by cases m <;> rfl

@[simp] theorem length_atomPre (a : Bool) : (atomPre a).length = b2n a := by cases a <;> rfl

@[simp] theorem PuRep.length_bytes (x : PuRep) : x.bytes.length = x.w.pre + b2n x.rep := by
  cases h : x.rep <;> simp [PuRep.bytes, h, b2n]

@[simp] theorem PuImm.length_le (i : PuImm) : i.le.length = i.bytes := by cases i <;> rfl

@[simp] theorem Disp.length_le (x : Disp) : x.le.length = x.bytes := by cases x <;> rfl

@[simp] theorem length_puCode (op hi lo : Nat) : (puCode op hi lo).length = 2 := rfl

@[simp] theorem length_puRrCode (op : Nat) (d s : Fin 16) : (puRrCode op d s).length = 2 := rfl

@[simp] theorem length_puRiCode (k : Nat) (d : Fin 16) (i : PuImm) : (puRiCode k d i).length = 2 + i.bytes := by simp [puRiCode]

@[simp] theorem length_puShiftCode (k : Nat) (d : Fin 16) (i : BitVec 8) : (puShiftCode k d i).length = 3 := rfl

@[simp] theorem length_puMemCode (op : Nat) (r b : Fin 16) (x : Disp) : (puMemCode op r b x).length = 2 + x.bytes := by simp [puMemCode]

@[simp] theorem length_puBrCode (rel : PuRel) : (puBrCode rel).length = 1 + rel.bytes := by cases rel <;> rfl

@[simp] theorem length_puEscCode (k d s : Nat) : (puEscCode k d s).length = 3 := rfl

/-- A purser's command that finds its bytes at the PC works. -/
theorem State.runPu_acts (s : State) (t : Ticks) (p : Nat) (pre body : Bytes) (f : State → State) (h : s.dev.acts = true)
    (g : ({ s with dev := s.dev.at_ t } : State).puHolds p pre body = true) : s.runPu t p pre body f = s.runS t f := by
  unfold State.runPu
  rw [State.runS_acts _ _ _ h, State.runS_acts _ _ _ h, if_pos g]

theorem State.runPu_kept (s : State) (t : Ticks) (p : Nat) (pre body : Bytes) (f : State → State)
    (hf : ∀ x : State, x.inv = true → (f x).inv = true) : Kept s (s.runPu t p pre body f) := by
  refine State.runS_kept s t _ (fun x hx => ?_)
  split
  · exact hf x hx
  · exact hx

end Sys2Proof.Machine
end

