-- ==== Sys2Proof/Laws/Oap.lean ====
section
/-!
SUPPORT. The operations of the Object Access Protocol keep the invariant of the state.
-/
namespace Sys2Proof.Machine

theorem State.writeValue_inv (s : State) (env : WriteEnv) (role : Role) (r : OdRow) (a : OdAddr) (off : Nat) (b : Bytes)
    (h : s.inv = true) : (s.writeValue env role r a off b).2.inv = true := by
  unfold State.writeValue
  split
  · exact h
  · split
    · simp only
      split
      · rw [State.inv_onDev]; exact State.taskEnable_inv s _ _ h
      · exact State.taskEnable_inv s _ _ h
    · exact h

theorem State.writeOne_inv (s : State) (env : WriteEnv) (q : OapAsk) (e : OapEntry) (h : s.inv = true) :
    (s.writeOne env q e).2.inv = true := by
  unfold State.writeOne
  split
  · exact h
  · extract_lets a st d mine old
    split
    · exact h
    · split
      · split
        · exact h
        · split
          · exact h
          · exact State.writeValue_inv _ _ _ _ _ _ _ h
      · split
        · exact h
        · split
          · exact State.writeValue_inv _ _ _ _ _ _ _ h
          · split
            · exact h
            · split
              · exact State.writeValue_inv _ _ _ _ _ _ _ h
              · exact h

theorem writeAll_fold_inv (s : State) (env : WriteEnv) (q : OapAsk) (l : List OapEntry) :
    ∀ acc : List Nat × State × State, acc.2.1.inv = true ∧ acc.2.2.inv = true →
      let r := l.foldl (fun (acc : List Nat × State × State) e =>
        let (sts, tent, base) := acc
        let (st1, t1) := tent.writeOne env q e
        let st0 := s.entryStatus env q e
        let st := if st0 = 0 then st1 else st0
        if st = 0 then (sts ++ [0], t1, base)
        else
          let (st2, b1) := base.writeOne env q e
          (sts ++ [st], tent, if st2 = 0 then base else b1)) acc
      r.2.1.inv = true ∧ r.2.2.inv = true := by
  induction l with
  | nil => exact fun _ h => h
  | cons e t ih =>
    rintro ⟨sts, tent, base⟩ ⟨h1, h2⟩
    rw [List.foldl_cons]
    refine ih _ ?_
    simp only
    generalize s.entryStatus env q e = st0
    generalize hst : (if st0 = 0 then (tent.writeOne env q e).1 else st0) = st
    split
    · exact ⟨State.writeOne_inv tent env q e h1, h2⟩
    · refine ⟨h1, ?_⟩
      split
      · exact h2
      · exact State.writeOne_inv base env q e h2

theorem State.writeAll_inv (s : State) (env : WriteEnv) (q : OapAsk) (l : List OapEntry) (h : s.inv = true) :
    (s.writeAll env q l).2.inv = true := by
  have hf := writeAll_fold_inv s env q l ([], s, s) ⟨h, h⟩
  unfold State.writeAll
  simp only at hf ⊢
  split
  · exact hf.1
  · exact hf.2

theorem State.oapWrite_inv (s : State) (env : WriteEnv) (q : OapAsk) (h : s.inv = true) : (s.oapWrite env q).2.inv = true := by
  unfold State.oapWrite
  split
  · exact h
  · exact State.writeAll_inv _ env q _ (by rw [State.inv_onDev]; exact h)

theorem State.oapWriteBlock_inv (s : State) (env : WriteEnv) (q : OapAsk) (h : s.inv = true) : (s.oapWriteBlock env q).2.inv = true := by
  unfold State.oapWriteBlock
  split
  · exact h
  · split
    · exact h
    · split
      · exact h
      · exact State.writeAll_inv _ env q _ (by rw [State.inv_onDev]; exact h)

theorem State.replicated_inv (s : State) (w : Replicated) (env : WriteEnv) (h : s.inv = true) : (s.replicated w env).inv = true := by
  unfold State.replicated
  split
  · split
    · exact h
    · split
      · exact h
      · simp only
        split
        · exact State.writeValue_inv _ _ _ _ _ _ _ h
        · exact h
  · exact h

theorem State.notify_inv (s : State) (req id : Nat) (h : s.inv = true) : (s.notify req id).inv = true := by
  unfold State.notify
  extract_lets d
  split
  · exact h
  · extract_lets vals m d1
    split
    · exact h
    · split
      · exact h
      · split
        · exact h
        · exact State.taskNotified_inv _ _ h

/-- An operation keeps the invariant. -/
def OapServe.Keeps (f : OapServe) : Prop := ∀ (s : State) (q : OapAsk), s.inv = true → (f s q).2.inv = true

theorem serveDev_keeps (f : Dev → OapAsk → OapReply × Dev) : OapServe.Keeps (serveDev f) := fun _ _ h => h

theorem serveActivate_keeps : OapServe.Keeps serveActivate := fun _ _ h => h

theorem serveState_keeps (f : State → OapAsk → OapReply × State) (hf : ∀ (s : State) (q : OapAsk), s.inv = true → (f s q).2.inv = true) :
    OapServe.Keeps (serveState f) := fun s q h => hf s q h

theorem serveAny_keeps (env : WriteEnv) (op : Nat) : OapServe.Keeps (serveAny env op) := by
  unfold serveAny
  split
  · exact serveDev_keeps _
  · exact serveState_keeps _ (fun s q h => s.oapWrite_inv env q h)
  · exact serveDev_keeps _
  · exact serveState_keeps _ (fun s q h => s.oapWriteBlock_inv env q h)
  · exact serveDev_keeps _
  · exact serveActivate_keeps
  · exact serveDev_keeps _

theorem State.oapExecute_inv (s : State) (req : Nat) (m : Bytes) (serve : OapServe) (hs : serve.Keeps) (h : s.inv = true) :
    (s.oapExecute req m serve).inv = true := by
  unfold State.oapExecute
  extract_lets d hd role form waits
  split
  · exact h
  · split
    · exact h
    · split
      · exact h
      · split
        · exact h
        · split
          · exact h
          · split
            · next r s1 e =>
              rw [State.inv_onDev]
              exact (congrArg (fun x : Option OapReply × State => x.2.inv) e).symm.trans (hs s _ h)
            · next s1 e => exact (congrArg (fun x : Option OapReply × State => x.2.inv) e).symm.trans (hs s _ h)

theorem State.oapTake_inv (s : State) (src : OapSource) (mine : Bytes → Bool) (serve : OapServe) (hs : serve.Keeps) (h : s.inv = true) :
    (s.oapTake src mine serve).inv = true := by
  unfold State.oapTake
  extract_lets d
  split
  · split
    · exact State.oapExecute_inv _ _ _ _ hs h
    · exact h
  · split
    · exact h
    · split
      · exact h
      · exact State.oapExecute_inv _ _ _ _ hs h

theorem State.oap_kept (s : State) (t : Ticks) (f : State → State) (hf : ∀ x : State, x.inv = true → (f x).inv = true) :
    Kept s (s.oap t f) := by
  unfold State.oap
  have hg := hf { s with dev := s.dev.at_ t }
  generalize f { s with dev := s.dev.at_ t } = x at hg ⊢
  dsimp only
  generalize x.dev.settle = d
  split
  · exact .of_next (fun h => State.inv_of_mem (x.withDev d) _ rfl (State.withDev_inv x d (hg (State.inv_of_mem s _ rfl h)))) rfl
  · exact .of_next (State.inv_of_mem s _ rfl) rfl

theorem State.svcOap_inv (s : State) (p : Nat) (env : WriteEnv) (h : s.inv = true) : (s.svcOap p env).inv = true := by
  refine State.puSvc_inv _ _ _ _ (fun k x hx => ?_) h
  extract_lets c a n out cap may m hd form
  clear_value may
  split
  · exact State.svcResume_inv _ _ _ _ hx
  · split
    next r s1 e =>
    have h1 : s1.inv = true := by
      split at e
      · cases e; exact hx
      · exact (congrArg (fun y : Option OapReply × State => y.2.inv) e).symm.trans (serveAny_keeps env hd.op x _ hx)
    extract_lets msg
    clear_value msg
    split
    · exact h1
    · split
      · exact State.svcResume_inv _ _ _ _ h1
      · refine State.svcResume_inv _ _ _ _ ?_
        rw [State.inv_svcReturn, State.inv_mk]
        exact memWrite_wf _ _ _ h1

/-- A request in the mailbox that is to be served is served. -/
theorem State.oapTake_mailbox (s : State) (mine : Bytes → Bool) (serve : OapServe) (h : s.dev.asks mine = true) :
    s.oapTake .mailbox mine serve =
      match serve s s.dev.mailAsk with
      | (some r, x) => x.onDev (fun d => d.respond mailboxReq (oapHead s.dev.hif.mbox.request).op (oapHead s.dev.hif.mbox.request).id r)
      | (none, x) => x := by
  simp only [Dev.asks, Bool.and_eq_true, Bool.not_eq_true', decide_eq_true_eq, Option.isNone_iff_eq_none] at h
  obtain ⟨⟨⟨⟨⟨⟨⟨⟨h1, h2⟩, h3⟩, h4⟩, h5⟩, h6⟩, h7⟩, h8⟩, h9⟩ := h
  unfold State.oapTake
  dsimp only
  rw [if_pos (by rw [h1, h2, h3, h4]; rfl)]
  unfold State.oapExecute
  dsimp only
  rw [if_neg (by rw [h5]; decide), if_neg (by rw [h6]; simp), if_neg h7, h8, if_neg (by simp [h9])]
  rfl

theorem State.oap_acts (s : State) (t : Ticks) (f : State → State) (h : s.dev.boots = true) :
    s.oap t f = .next { ((f { s with dev := s.dev.at_ t }).withDev (f { s with dev := s.dev.at_ t }).dev.settle) with pending := s.pending } := by
  unfold State.oap; rw [if_pos h]

end Sys2Proof.Machine
end

