-- ==== Sys2Proof/Laws/Settle.lean ====
section
/-!
SUPPORT. What follows a command leaves a quiet device alone: the collector's list of sources being handled, lanes that wake,
what requesters left behind, the tag's copies and the accept gate are all that changes.
-/
namespace Sys2Proof.Machine

theorem Tab.get_mem {α : Type} (dflt : α) (t : Tab α) (q : Nat) : t.get dflt q = dflt ∨ ∃ e ∈ t, e.2 = t.get dflt q := by
  unfold Tab.get
  induction t with
  | nil => exact .inl rfl
  | cons e t ih =>
    obtain ⟨k, v⟩ := e
    rw [Tab.find_cons]
    split
    · exact .inr ⟨(k, v), List.mem_cons_self, rfl⟩
    · rcases ih with h | ⟨e, he, h⟩
      · exact .inl h
      · exact .inr ⟨e, List.mem_cons_of_mem _ he, h⟩

theorem filter_nil_of_all {α : Type} (l : List α) (p : α → Bool) (h : ∀ x ∈ l, p x = false) : l.filter p = [] := by
  rw [List.filter_eq_nil_iff]
  exact fun x hx => by rw [h x hx]; exact Bool.false_ne_true

/-- Devices that differ at most in what follows a command on a quiet device. -/
structure SettleFrame (d e : Dev) : Prop where
  now : e.now = d.now
  free : e.free = d.free
  od : e.od = d.od
  cmp : e.cmp = d.cmp
  lch : e.lch = d.lch
  queues : e.que.queues = d.que.queues
  convoys : e.que.convoys = d.que.convoys
  items : e.que.man.items = d.que.man.items
  net : e.net = d.net
  fry : e.fry = d.fry
  hif : e.hif = d.hif
  per : e.per = d.per
  pwr : e.pwr = d.pwr
  sys : e.sys = d.sys
  cry : e.cry = d.cry
  cpu : e.cpu = d.cpu
  fls : e.fls = d.fls
  bufOut : e.bufOut = d.bufOut
  hostHeld : e.hostHeld = d.hostHeld
  out : e.out = d.out

theorem SettleFrame.refl (d : Dev) : SettleFrame d d := ⟨rfl, rfl, rfl, rfl, rfl, rfl, rfl, rfl, rfl, rfl, rfl, rfl, rfl, rfl, rfl, rfl, rfl, rfl, rfl, rfl⟩

theorem SettleFrame.trans {d e f : Dev} (a : SettleFrame d e) (b : SettleFrame e f) : SettleFrame d f :=
  ⟨b.now.trans a.now, b.free.trans a.free, b.od.trans a.od, b.cmp.trans a.cmp, b.lch.trans a.lch, b.queues.trans a.queues, b.convoys.trans a.convoys, b.items.trans a.items, b.net.trans a.net, b.fry.trans a.fry, b.hif.trans a.hif, b.per.trans a.per, b.pwr.trans a.pwr, b.sys.trans a.sys, b.cry.trans a.cry, b.cpu.trans a.cpu, b.fls.trans a.fls, b.bufOut.trans a.bufOut, b.hostHeld.trans a.hostHeld, b.out.trans a.out⟩

theorem Dev.wakeLanes_frame (d : Dev) : SettleFrame d d.wakeLanes := ⟨rfl, rfl, rfl, rfl, rfl, rfl, rfl, rfl, rfl, rfl, rfl, rfl, rfl, rfl, rfl, rfl, rfl, rfl, rfl, rfl⟩
theorem Dev.endRequesters_frame (d : Dev) : SettleFrame d d.endRequesters := ⟨rfl, rfl, rfl, rfl, rfl, rfl, rfl, rfl, rfl, rfl, rfl, rfl, rfl, rfl, rfl, rfl, rfl, rfl, rfl, rfl⟩
theorem Dev.noteAccepting_frame (d : Dev) : SettleFrame d d.noteAccepting := ⟨rfl, rfl, rfl, rfl, rfl, rfl, rfl, rfl, rfl, rfl, rfl, rfl, rfl, rfl, rfl, rfl, rfl, rfl, rfl, rfl⟩
theorem Dev.endHandling_frame (d : Dev) : SettleFrame d d.endHandling := ⟨rfl, rfl, rfl, rfl, rfl, rfl, rfl, rfl, rfl, rfl, rfl, rfl, rfl, rfl, rfl, rfl, rfl, rfl, rfl, rfl⟩

theorem Dev.upkeep_frame (d : Dev) : SettleFrame d d.upkeep := by
  have h : SettleFrame d (d.tagSync false) := by
    unfold Dev.tagSync
    extract_lets d1 h
    have h1 : SettleFrame d d1 := ⟨rfl, rfl, rfl, rfl, rfl, rfl, rfl, rfl, rfl, rfl, rfl, rfl, rfl, rfl, rfl, rfl, rfl, rfl, rfl, rfl⟩
    clear_value d1
    split
    · exact h1.trans ⟨rfl, rfl, rfl, rfl, rfl, rfl, rfl, rfl, rfl, rfl, rfl, rfl, rfl, rfl, rfl, rfl, rfl, rfl, rfl, rfl⟩
    · exact h1
  unfold Dev.upkeep
  split
  · exact h
  · exact h
  · exact .refl d

theorem Dev.readerSettle_idle (d : Dev) (h : ∀ e ∈ d.ctl.rd.cids, e.2.state ≠ .deselecting) : d.readerSettle = d := by
  have hc : ∀ c, (d.cid c).state ≠ .deselecting := fun c => by
    rcases Tab.get_mem ({} : CidSlot) d.ctl.rd.cids c with e | ⟨e, he, hx⟩
    · unfold Dev.cid; rw [e]; decide
    · unfold Dev.cid; rw [← hx]; exact h e he
  unfold Dev.readerSettle
  generalize d.activeCids = l
  induction l with
  | nil => rfl
  | cons c t ih =>
    rw [List.foldl_cons, if_neg (by simp [hc c])]
    exact ih

theorem Dev.anchorCheck_idle (d : Dev) (h : ∀ e ∈ d.per.ledger, e.2.state ≠ .active) : d.anchorCheck = d := by
  unfold Dev.anchorCheck
  extract_lets dropped bad
  unfold Dev.endPermits
  split
  · rfl
  · rw [filter_nil_of_all _ _ (fun e he => by simp [h e he])]
    rfl

/-- What follows a command, on a quiet device. -/
theorem Dev.settle_frame (d : Dev) (h : d.atRest = true) : SettleFrame d d.settle := by
  simp only [Dev.atRest, Bool.and_eq_true, List.isEmpty_iff, List.all_eq_true, decide_eq_true_eq, Bool.not_eq_true'] at h
  obtain ⟨⟨⟨⟨⟨⟨⟨⟨ht, hs⟩, hl⟩, hc⟩, hp⟩, hm⟩, hq⟩, hy⟩, hk⟩ := h
  have ha : Dev.actFuel 64 d = d := by unfold Dev.actFuel; rw [ht]
  have hcc : d.codeCheck = d := by unfold Dev.codeCheck; rw [hk]; rfl
  unfold Dev.settle
  rw [hcc, ha]
  have he : SettleFrame d d.endHandling := d.endHandling_frame
  have hs' : ∀ e ∈ d.endHandling.net.sessions, e.2.ending = false := hs
  have hl' : ∀ e ∈ d.endHandling.lan, e.2.state ≠ .disabling := hl
  have hc' : d.endHandling.ctl = d.ctl := rfl
  have hm' : d.endHandling.man = d.man := rfl
  generalize d.endHandling = e at *
  unfold Dev.closeUp
  rw [filter_nil_of_all _ _ (fun x hx => by simp [hs' x hx])]
  extract_lets d1 d2
  have h1 : d1 = e := rfl
  have h2 : d2 = e := by
    unfold d2
    rw [h1, filter_nil_of_all _ _ (fun x hx => by simp [hl' x hx])]
    rfl
  rw [h2]
  have w1 := e.wakeLanes_frame
  have hw : e.wakeLanes.ctl = e.ctl := rfl
  have hwm : e.wakeLanes.man = e.man := rfl
  have hwp : e.wakeLanes.per = e.per := rfl
  generalize e.wakeLanes = f at *
  rw [Dev.readerSettle_idle f (by rw [hw, hc']; exact hc), Dev.anchorCheck_idle f (by rw [hwp, he.per]; exact hp)]
  have g1 := f.endRequesters_frame
  have gm : f.endRequesters.man = f.man := rfl
  generalize f.endRequesters = g at *
  have u1 := g.upkeep_frame
  have um : g.upkeep.man.shutdown = g.man.shutdown := by
    unfold Dev.upkeep
    split
    · unfold Dev.tagSync; extract_lets d1 h; split <;> rfl
    · unfold Dev.tagSync; extract_lets d1 h; split <;> rfl
    · rfl
  generalize g.upkeep = u at *
  have hg : u.yieldGo = u := by
    unfold Dev.yieldGo Dev.twin
    have : u.fry = d.fry := ((((he.trans w1).trans g1).trans u1)).fry
    rw [this, hy]
    rfl
  rw [hg]
  have n1 := u.noteAccepting_frame
  have nm : u.noteAccepting.man.shutdown = u.man.shutdown := rfl
  generalize u.noteAccepting = n at *
  have hd : n.shutdownDue = n := by
    unfold Dev.shutdownDue
    rw [nm, um, gm, hwm, hm', hm]
    rfl
  rw [hd]
  have hr : n.abandonRecals = n := by
    unfold Dev.abandonRecals
    have : n.lch = d.lch := (((he.trans w1).trans g1).trans u1).trans n1 |>.lch
    rw [this, List.all_eq_true.2 hq]
    rfl
  rw [hr]
  exact ((((he.trans w1).trans g1).trans u1).trans n1)

end Sys2Proof.Machine
end

