-- ==== Sys2Proof/Laws/State.lean ====
section
/-!
SUPPORT. What every update of the state leaves alone, and what a reader finds after it: one lemma for each field and each
update, so that no proof unfolds a record update.
-/
namespace Sys2Proof.Machine

/-! ## Updates of the state -/

@[simp] theorem State.onDev_dev (s : State) (f : Dev → Dev) : (s.onDev f).dev = f s.dev := rfl
@[simp] theorem State.onDev_mem (s : State) (f : Dev → Dev) : (s.onDev f).mem = s.mem := rfl
@[simp] theorem State.onDev_pending (s : State) (f : Dev → Dev) : (s.onDev f).pending = s.pending := rfl
@[simp] theorem State.onDh_mem (s : State) (n : Nat) (f : DhCore → DhCore) : (s.onDh n f).mem = s.mem := rfl
@[simp] theorem State.onDh_dev (s : State) (n : Nat) (f : DhCore → DhCore) : (s.onDh n f).dev = s.dev.setDh n (f (s.dev.dh n)) := rfl
@[simp] theorem State.onPu_mem (s : State) (p : Nat) (f : PuCore → PuCore) : (s.onPu p f).mem = s.mem := rfl
@[simp] theorem State.onPu_dev (s : State) (p : Nat) (f : PuCore → PuCore) : (s.onPu p f).dev = s.dev.setPu p (f (s.dev.pu p)) := rfl

/-! ## What an update leaves alone -/

@[simp] theorem Dev.free_at (d : Dev) (t : Ticks) : (d.at_ t).free = d.free := rfl
@[simp] theorem Dev.od_at (d : Dev) (t : Ticks) : (d.at_ t).od = d.od := rfl
@[simp] theorem Dev.obj_at (d : Dev) (t : Ticks) : (d.at_ t).obj = d.obj := rfl
@[simp] theorem Dev.cmp_at (d : Dev) (t : Ticks) : (d.at_ t).cmp = d.cmp := rfl
@[simp] theorem Dev.lch_at (d : Dev) (t : Ticks) : (d.at_ t).lch = d.lch := rfl
@[simp] theorem Dev.que_at (d : Dev) (t : Ticks) : (d.at_ t).que = d.que := rfl
@[simp] theorem Dev.net_at (d : Dev) (t : Ticks) : (d.at_ t).net = d.net := rfl
@[simp] theorem Dev.fry_at (d : Dev) (t : Ticks) : (d.at_ t).fry = d.fry := rfl
@[simp] theorem Dev.hif_at (d : Dev) (t : Ticks) : (d.at_ t).hif = d.hif := rfl
@[simp] theorem Dev.flt_at (d : Dev) (t : Ticks) : (d.at_ t).flt = d.flt := rfl
@[simp] theorem Dev.per_at (d : Dev) (t : Ticks) : (d.at_ t).per = d.per := rfl
@[simp] theorem Dev.ctl_at (d : Dev) (t : Ticks) : (d.at_ t).ctl = d.ctl := rfl
@[simp] theorem Dev.pwr_at (d : Dev) (t : Ticks) : (d.at_ t).pwr = d.pwr := rfl
@[simp] theorem Dev.lan_at (d : Dev) (t : Ticks) : (d.at_ t).lan = d.lan := rfl
@[simp] theorem Dev.sys_at (d : Dev) (t : Ticks) : (d.at_ t).sys = d.sys := rfl
@[simp] theorem Dev.cry_at (d : Dev) (t : Ticks) : (d.at_ t).cry = d.cry := rfl
@[simp] theorem Dev.cpu_at (d : Dev) (t : Ticks) : (d.at_ t).cpu = d.cpu := rfl
@[simp] theorem Dev.fls_at (d : Dev) (t : Ticks) : (d.at_ t).fls = d.fls := rfl
@[simp] theorem Dev.bufOut_at (d : Dev) (t : Ticks) : (d.at_ t).bufOut = d.bufOut := rfl
@[simp] theorem Dev.hostHeld_at (d : Dev) (t : Ticks) : (d.at_ t).hostHeld = d.hostHeld := rfl
@[simp] theorem Dev.out_at (d : Dev) (t : Ticks) : (d.at_ t).out = d.out := rfl

@[simp] theorem Dev.now_set (d : Dev) (r : OdRow) (i : Nat) (v : Int) : (d.set r i v).now = d.now := rfl
@[simp] theorem Dev.free_set (d : Dev) (r : OdRow) (i : Nat) (v : Int) : (d.set r i v).free = d.free := rfl
@[simp] theorem Dev.obj_set (d : Dev) (r : OdRow) (i : Nat) (v : Int) : (d.set r i v).obj = d.obj := rfl
@[simp] theorem Dev.cmp_set (d : Dev) (r : OdRow) (i : Nat) (v : Int) : (d.set r i v).cmp = d.cmp := rfl
@[simp] theorem Dev.lch_set (d : Dev) (r : OdRow) (i : Nat) (v : Int) : (d.set r i v).lch = d.lch := rfl
@[simp] theorem Dev.que_set (d : Dev) (r : OdRow) (i : Nat) (v : Int) : (d.set r i v).que = d.que := rfl
@[simp] theorem Dev.net_set (d : Dev) (r : OdRow) (i : Nat) (v : Int) : (d.set r i v).net = d.net := rfl
@[simp] theorem Dev.fry_set (d : Dev) (r : OdRow) (i : Nat) (v : Int) : (d.set r i v).fry = d.fry := rfl
@[simp] theorem Dev.hif_set (d : Dev) (r : OdRow) (i : Nat) (v : Int) : (d.set r i v).hif = d.hif := rfl
@[simp] theorem Dev.flt_set (d : Dev) (r : OdRow) (i : Nat) (v : Int) : (d.set r i v).flt = d.flt := rfl
@[simp] theorem Dev.per_set (d : Dev) (r : OdRow) (i : Nat) (v : Int) : (d.set r i v).per = d.per := rfl
@[simp] theorem Dev.ctl_set (d : Dev) (r : OdRow) (i : Nat) (v : Int) : (d.set r i v).ctl = d.ctl := rfl
@[simp] theorem Dev.pwr_set (d : Dev) (r : OdRow) (i : Nat) (v : Int) : (d.set r i v).pwr = d.pwr := rfl
@[simp] theorem Dev.lan_set (d : Dev) (r : OdRow) (i : Nat) (v : Int) : (d.set r i v).lan = d.lan := rfl
@[simp] theorem Dev.sys_set (d : Dev) (r : OdRow) (i : Nat) (v : Int) : (d.set r i v).sys = d.sys := rfl
@[simp] theorem Dev.cry_set (d : Dev) (r : OdRow) (i : Nat) (v : Int) : (d.set r i v).cry = d.cry := rfl
@[simp] theorem Dev.cpu_set (d : Dev) (r : OdRow) (i : Nat) (v : Int) : (d.set r i v).cpu = d.cpu := rfl
@[simp] theorem Dev.fls_set (d : Dev) (r : OdRow) (i : Nat) (v : Int) : (d.set r i v).fls = d.fls := rfl
@[simp] theorem Dev.bufOut_set (d : Dev) (r : OdRow) (i : Nat) (v : Int) : (d.set r i v).bufOut = d.bufOut := rfl
@[simp] theorem Dev.hostHeld_set (d : Dev) (r : OdRow) (i : Nat) (v : Int) : (d.set r i v).hostHeld = d.hostHeld := rfl
@[simp] theorem Dev.out_set (d : Dev) (r : OdRow) (i : Nat) (v : Int) : (d.set r i v).out = d.out := rfl

@[simp] theorem Dev.now_emit (d : Dev) (o : Output) : (d.emit o).now = d.now := rfl
@[simp] theorem Dev.free_emit (d : Dev) (o : Output) : (d.emit o).free = d.free := rfl
@[simp] theorem Dev.od_emit (d : Dev) (o : Output) : (d.emit o).od = d.od := rfl
@[simp] theorem Dev.obj_emit (d : Dev) (o : Output) : (d.emit o).obj = d.obj := rfl
@[simp] theorem Dev.cmp_emit (d : Dev) (o : Output) : (d.emit o).cmp = d.cmp := rfl
@[simp] theorem Dev.lch_emit (d : Dev) (o : Output) : (d.emit o).lch = d.lch := rfl
@[simp] theorem Dev.que_emit (d : Dev) (o : Output) : (d.emit o).que = d.que := rfl
@[simp] theorem Dev.net_emit (d : Dev) (o : Output) : (d.emit o).net = d.net := rfl
@[simp] theorem Dev.fry_emit (d : Dev) (o : Output) : (d.emit o).fry = d.fry := rfl
@[simp] theorem Dev.hif_emit (d : Dev) (o : Output) : (d.emit o).hif = d.hif := rfl
@[simp] theorem Dev.flt_emit (d : Dev) (o : Output) : (d.emit o).flt = d.flt := rfl
@[simp] theorem Dev.per_emit (d : Dev) (o : Output) : (d.emit o).per = d.per := rfl
@[simp] theorem Dev.ctl_emit (d : Dev) (o : Output) : (d.emit o).ctl = d.ctl := rfl
@[simp] theorem Dev.pwr_emit (d : Dev) (o : Output) : (d.emit o).pwr = d.pwr := rfl
@[simp] theorem Dev.lan_emit (d : Dev) (o : Output) : (d.emit o).lan = d.lan := rfl
@[simp] theorem Dev.sys_emit (d : Dev) (o : Output) : (d.emit o).sys = d.sys := rfl
@[simp] theorem Dev.cry_emit (d : Dev) (o : Output) : (d.emit o).cry = d.cry := rfl
@[simp] theorem Dev.cpu_emit (d : Dev) (o : Output) : (d.emit o).cpu = d.cpu := rfl
@[simp] theorem Dev.fls_emit (d : Dev) (o : Output) : (d.emit o).fls = d.fls := rfl
@[simp] theorem Dev.bufOut_emit (d : Dev) (o : Output) : (d.emit o).bufOut = d.bufOut := rfl
@[simp] theorem Dev.hostHeld_emit (d : Dev) (o : Output) : (d.emit o).hostHeld = d.hostHeld := rfl

@[simp] theorem Dev.now_setBrg (d : Dev) (n : Nat) (x : Bearing) : (d.setBrg n x).now = d.now := rfl
@[simp] theorem Dev.free_setBrg (d : Dev) (n : Nat) (x : Bearing) : (d.setBrg n x).free = d.free := rfl
@[simp] theorem Dev.od_setBrg (d : Dev) (n : Nat) (x : Bearing) : (d.setBrg n x).od = d.od := rfl
@[simp] theorem Dev.obj_setBrg (d : Dev) (n : Nat) (x : Bearing) : (d.setBrg n x).obj = d.obj := rfl
@[simp] theorem Dev.lch_setBrg (d : Dev) (n : Nat) (x : Bearing) : (d.setBrg n x).lch = d.lch := rfl
@[simp] theorem Dev.que_setBrg (d : Dev) (n : Nat) (x : Bearing) : (d.setBrg n x).que = d.que := rfl
@[simp] theorem Dev.net_setBrg (d : Dev) (n : Nat) (x : Bearing) : (d.setBrg n x).net = d.net := rfl
@[simp] theorem Dev.fry_setBrg (d : Dev) (n : Nat) (x : Bearing) : (d.setBrg n x).fry = d.fry := rfl
@[simp] theorem Dev.hif_setBrg (d : Dev) (n : Nat) (x : Bearing) : (d.setBrg n x).hif = d.hif := rfl
@[simp] theorem Dev.flt_setBrg (d : Dev) (n : Nat) (x : Bearing) : (d.setBrg n x).flt = d.flt := rfl
@[simp] theorem Dev.per_setBrg (d : Dev) (n : Nat) (x : Bearing) : (d.setBrg n x).per = d.per := rfl
@[simp] theorem Dev.ctl_setBrg (d : Dev) (n : Nat) (x : Bearing) : (d.setBrg n x).ctl = d.ctl := rfl
@[simp] theorem Dev.pwr_setBrg (d : Dev) (n : Nat) (x : Bearing) : (d.setBrg n x).pwr = d.pwr := rfl
@[simp] theorem Dev.lan_setBrg (d : Dev) (n : Nat) (x : Bearing) : (d.setBrg n x).lan = d.lan := rfl
@[simp] theorem Dev.sys_setBrg (d : Dev) (n : Nat) (x : Bearing) : (d.setBrg n x).sys = d.sys := rfl
@[simp] theorem Dev.cry_setBrg (d : Dev) (n : Nat) (x : Bearing) : (d.setBrg n x).cry = d.cry := rfl
@[simp] theorem Dev.cpu_setBrg (d : Dev) (n : Nat) (x : Bearing) : (d.setBrg n x).cpu = d.cpu := rfl
@[simp] theorem Dev.fls_setBrg (d : Dev) (n : Nat) (x : Bearing) : (d.setBrg n x).fls = d.fls := rfl
@[simp] theorem Dev.bufOut_setBrg (d : Dev) (n : Nat) (x : Bearing) : (d.setBrg n x).bufOut = d.bufOut := rfl
@[simp] theorem Dev.hostHeld_setBrg (d : Dev) (n : Nat) (x : Bearing) : (d.setBrg n x).hostHeld = d.hostHeld := rfl
@[simp] theorem Dev.out_setBrg (d : Dev) (n : Nat) (x : Bearing) : (d.setBrg n x).out = d.out := rfl

@[simp] theorem Dev.now_setEntry (d : Dev) (n : Nat) (x : Entry) : (d.setEntry n x).now = d.now := rfl
@[simp] theorem Dev.free_setEntry (d : Dev) (n : Nat) (x : Entry) : (d.setEntry n x).free = d.free := rfl
@[simp] theorem Dev.od_setEntry (d : Dev) (n : Nat) (x : Entry) : (d.setEntry n x).od = d.od := rfl
@[simp] theorem Dev.obj_setEntry (d : Dev) (n : Nat) (x : Entry) : (d.setEntry n x).obj = d.obj := rfl
@[simp] theorem Dev.cmp_setEntry (d : Dev) (n : Nat) (x : Entry) : (d.setEntry n x).cmp = d.cmp := rfl
@[simp] theorem Dev.que_setEntry (d : Dev) (n : Nat) (x : Entry) : (d.setEntry n x).que = d.que := rfl
@[simp] theorem Dev.net_setEntry (d : Dev) (n : Nat) (x : Entry) : (d.setEntry n x).net = d.net := rfl
@[simp] theorem Dev.fry_setEntry (d : Dev) (n : Nat) (x : Entry) : (d.setEntry n x).fry = d.fry := rfl
@[simp] theorem Dev.hif_setEntry (d : Dev) (n : Nat) (x : Entry) : (d.setEntry n x).hif = d.hif := rfl
@[simp] theorem Dev.flt_setEntry (d : Dev) (n : Nat) (x : Entry) : (d.setEntry n x).flt = d.flt := rfl
@[simp] theorem Dev.per_setEntry (d : Dev) (n : Nat) (x : Entry) : (d.setEntry n x).per = d.per := rfl
@[simp] theorem Dev.ctl_setEntry (d : Dev) (n : Nat) (x : Entry) : (d.setEntry n x).ctl = d.ctl := rfl
@[simp] theorem Dev.pwr_setEntry (d : Dev) (n : Nat) (x : Entry) : (d.setEntry n x).pwr = d.pwr := rfl
@[simp] theorem Dev.lan_setEntry (d : Dev) (n : Nat) (x : Entry) : (d.setEntry n x).lan = d.lan := rfl
@[simp] theorem Dev.sys_setEntry (d : Dev) (n : Nat) (x : Entry) : (d.setEntry n x).sys = d.sys := rfl
@[simp] theorem Dev.cry_setEntry (d : Dev) (n : Nat) (x : Entry) : (d.setEntry n x).cry = d.cry := rfl
@[simp] theorem Dev.cpu_setEntry (d : Dev) (n : Nat) (x : Entry) : (d.setEntry n x).cpu = d.cpu := rfl
@[simp] theorem Dev.fls_setEntry (d : Dev) (n : Nat) (x : Entry) : (d.setEntry n x).fls = d.fls := rfl
@[simp] theorem Dev.bufOut_setEntry (d : Dev) (n : Nat) (x : Entry) : (d.setEntry n x).bufOut = d.bufOut := rfl
@[simp] theorem Dev.hostHeld_setEntry (d : Dev) (n : Nat) (x : Entry) : (d.setEntry n x).hostHeld = d.hostHeld := rfl
@[simp] theorem Dev.out_setEntry (d : Dev) (n : Nat) (x : Entry) : (d.setEntry n x).out = d.out := rfl

@[simp] theorem Dev.now_setPin (d : Dev) (n : Nat) (x : Pin) : (d.setPin n x).now = d.now := rfl
@[simp] theorem Dev.free_setPin (d : Dev) (n : Nat) (x : Pin) : (d.setPin n x).free = d.free := rfl
@[simp] theorem Dev.od_setPin (d : Dev) (n : Nat) (x : Pin) : (d.setPin n x).od = d.od := rfl
@[simp] theorem Dev.obj_setPin (d : Dev) (n : Nat) (x : Pin) : (d.setPin n x).obj = d.obj := rfl
@[simp] theorem Dev.cmp_setPin (d : Dev) (n : Nat) (x : Pin) : (d.setPin n x).cmp = d.cmp := rfl
@[simp] theorem Dev.que_setPin (d : Dev) (n : Nat) (x : Pin) : (d.setPin n x).que = d.que := rfl
@[simp] theorem Dev.net_setPin (d : Dev) (n : Nat) (x : Pin) : (d.setPin n x).net = d.net := rfl
@[simp] theorem Dev.fry_setPin (d : Dev) (n : Nat) (x : Pin) : (d.setPin n x).fry = d.fry := rfl
@[simp] theorem Dev.hif_setPin (d : Dev) (n : Nat) (x : Pin) : (d.setPin n x).hif = d.hif := rfl
@[simp] theorem Dev.flt_setPin (d : Dev) (n : Nat) (x : Pin) : (d.setPin n x).flt = d.flt := rfl
@[simp] theorem Dev.per_setPin (d : Dev) (n : Nat) (x : Pin) : (d.setPin n x).per = d.per := rfl
@[simp] theorem Dev.ctl_setPin (d : Dev) (n : Nat) (x : Pin) : (d.setPin n x).ctl = d.ctl := rfl
@[simp] theorem Dev.pwr_setPin (d : Dev) (n : Nat) (x : Pin) : (d.setPin n x).pwr = d.pwr := rfl
@[simp] theorem Dev.lan_setPin (d : Dev) (n : Nat) (x : Pin) : (d.setPin n x).lan = d.lan := rfl
@[simp] theorem Dev.sys_setPin (d : Dev) (n : Nat) (x : Pin) : (d.setPin n x).sys = d.sys := rfl
@[simp] theorem Dev.cry_setPin (d : Dev) (n : Nat) (x : Pin) : (d.setPin n x).cry = d.cry := rfl
@[simp] theorem Dev.cpu_setPin (d : Dev) (n : Nat) (x : Pin) : (d.setPin n x).cpu = d.cpu := rfl
@[simp] theorem Dev.fls_setPin (d : Dev) (n : Nat) (x : Pin) : (d.setPin n x).fls = d.fls := rfl
@[simp] theorem Dev.bufOut_setPin (d : Dev) (n : Nat) (x : Pin) : (d.setPin n x).bufOut = d.bufOut := rfl
@[simp] theorem Dev.hostHeld_setPin (d : Dev) (n : Nat) (x : Pin) : (d.setPin n x).hostHeld = d.hostHeld := rfl
@[simp] theorem Dev.out_setPin (d : Dev) (n : Nat) (x : Pin) : (d.setPin n x).out = d.out := rfl

@[simp] theorem Dev.now_setQueue (d : Dev) (n : Nat) (x : Queue) : (d.setQueue n x).now = d.now := rfl
@[simp] theorem Dev.free_setQueue (d : Dev) (n : Nat) (x : Queue) : (d.setQueue n x).free = d.free := rfl
@[simp] theorem Dev.od_setQueue (d : Dev) (n : Nat) (x : Queue) : (d.setQueue n x).od = d.od := rfl
@[simp] theorem Dev.obj_setQueue (d : Dev) (n : Nat) (x : Queue) : (d.setQueue n x).obj = d.obj := rfl
@[simp] theorem Dev.cmp_setQueue (d : Dev) (n : Nat) (x : Queue) : (d.setQueue n x).cmp = d.cmp := rfl
@[simp] theorem Dev.lch_setQueue (d : Dev) (n : Nat) (x : Queue) : (d.setQueue n x).lch = d.lch := rfl
@[simp] theorem Dev.net_setQueue (d : Dev) (n : Nat) (x : Queue) : (d.setQueue n x).net = d.net := rfl
@[simp] theorem Dev.fry_setQueue (d : Dev) (n : Nat) (x : Queue) : (d.setQueue n x).fry = d.fry := rfl
@[simp] theorem Dev.hif_setQueue (d : Dev) (n : Nat) (x : Queue) : (d.setQueue n x).hif = d.hif := rfl
@[simp] theorem Dev.flt_setQueue (d : Dev) (n : Nat) (x : Queue) : (d.setQueue n x).flt = d.flt := rfl
@[simp] theorem Dev.per_setQueue (d : Dev) (n : Nat) (x : Queue) : (d.setQueue n x).per = d.per := rfl
@[simp] theorem Dev.ctl_setQueue (d : Dev) (n : Nat) (x : Queue) : (d.setQueue n x).ctl = d.ctl := rfl
@[simp] theorem Dev.pwr_setQueue (d : Dev) (n : Nat) (x : Queue) : (d.setQueue n x).pwr = d.pwr := rfl
@[simp] theorem Dev.lan_setQueue (d : Dev) (n : Nat) (x : Queue) : (d.setQueue n x).lan = d.lan := rfl
@[simp] theorem Dev.sys_setQueue (d : Dev) (n : Nat) (x : Queue) : (d.setQueue n x).sys = d.sys := rfl
@[simp] theorem Dev.cry_setQueue (d : Dev) (n : Nat) (x : Queue) : (d.setQueue n x).cry = d.cry := rfl
@[simp] theorem Dev.cpu_setQueue (d : Dev) (n : Nat) (x : Queue) : (d.setQueue n x).cpu = d.cpu := rfl
@[simp] theorem Dev.fls_setQueue (d : Dev) (n : Nat) (x : Queue) : (d.setQueue n x).fls = d.fls := rfl
@[simp] theorem Dev.bufOut_setQueue (d : Dev) (n : Nat) (x : Queue) : (d.setQueue n x).bufOut = d.bufOut := rfl
@[simp] theorem Dev.hostHeld_setQueue (d : Dev) (n : Nat) (x : Queue) : (d.setQueue n x).hostHeld = d.hostHeld := rfl
@[simp] theorem Dev.out_setQueue (d : Dev) (n : Nat) (x : Queue) : (d.setQueue n x).out = d.out := rfl

@[simp] theorem Dev.now_setItem (d : Dev) (n : Nat) (x : Item) : (d.setItem n x).now = d.now := rfl
@[simp] theorem Dev.free_setItem (d : Dev) (n : Nat) (x : Item) : (d.setItem n x).free = d.free := rfl
@[simp] theorem Dev.od_setItem (d : Dev) (n : Nat) (x : Item) : (d.setItem n x).od = d.od := rfl
@[simp] theorem Dev.obj_setItem (d : Dev) (n : Nat) (x : Item) : (d.setItem n x).obj = d.obj := rfl
@[simp] theorem Dev.cmp_setItem (d : Dev) (n : Nat) (x : Item) : (d.setItem n x).cmp = d.cmp := rfl
@[simp] theorem Dev.lch_setItem (d : Dev) (n : Nat) (x : Item) : (d.setItem n x).lch = d.lch := rfl
@[simp] theorem Dev.net_setItem (d : Dev) (n : Nat) (x : Item) : (d.setItem n x).net = d.net := rfl
@[simp] theorem Dev.fry_setItem (d : Dev) (n : Nat) (x : Item) : (d.setItem n x).fry = d.fry := rfl
@[simp] theorem Dev.hif_setItem (d : Dev) (n : Nat) (x : Item) : (d.setItem n x).hif = d.hif := rfl
@[simp] theorem Dev.flt_setItem (d : Dev) (n : Nat) (x : Item) : (d.setItem n x).flt = d.flt := rfl
@[simp] theorem Dev.per_setItem (d : Dev) (n : Nat) (x : Item) : (d.setItem n x).per = d.per := rfl
@[simp] theorem Dev.ctl_setItem (d : Dev) (n : Nat) (x : Item) : (d.setItem n x).ctl = d.ctl := rfl
@[simp] theorem Dev.pwr_setItem (d : Dev) (n : Nat) (x : Item) : (d.setItem n x).pwr = d.pwr := rfl
@[simp] theorem Dev.lan_setItem (d : Dev) (n : Nat) (x : Item) : (d.setItem n x).lan = d.lan := rfl
@[simp] theorem Dev.sys_setItem (d : Dev) (n : Nat) (x : Item) : (d.setItem n x).sys = d.sys := rfl
@[simp] theorem Dev.cry_setItem (d : Dev) (n : Nat) (x : Item) : (d.setItem n x).cry = d.cry := rfl
@[simp] theorem Dev.cpu_setItem (d : Dev) (n : Nat) (x : Item) : (d.setItem n x).cpu = d.cpu := rfl
@[simp] theorem Dev.fls_setItem (d : Dev) (n : Nat) (x : Item) : (d.setItem n x).fls = d.fls := rfl
@[simp] theorem Dev.bufOut_setItem (d : Dev) (n : Nat) (x : Item) : (d.setItem n x).bufOut = d.bufOut := rfl
@[simp] theorem Dev.hostHeld_setItem (d : Dev) (n : Nat) (x : Item) : (d.setItem n x).hostHeld = d.hostHeld := rfl
@[simp] theorem Dev.out_setItem (d : Dev) (n : Nat) (x : Item) : (d.setItem n x).out = d.out := rfl

@[simp] theorem Dev.now_onMan (d : Dev) (f : Manifest → Manifest) : (d.onMan f).now = d.now := rfl
@[simp] theorem Dev.free_onMan (d : Dev) (f : Manifest → Manifest) : (d.onMan f).free = d.free := rfl
@[simp] theorem Dev.od_onMan (d : Dev) (f : Manifest → Manifest) : (d.onMan f).od = d.od := rfl
@[simp] theorem Dev.obj_onMan (d : Dev) (f : Manifest → Manifest) : (d.onMan f).obj = d.obj := rfl
@[simp] theorem Dev.cmp_onMan (d : Dev) (f : Manifest → Manifest) : (d.onMan f).cmp = d.cmp := rfl
@[simp] theorem Dev.lch_onMan (d : Dev) (f : Manifest → Manifest) : (d.onMan f).lch = d.lch := rfl
@[simp] theorem Dev.net_onMan (d : Dev) (f : Manifest → Manifest) : (d.onMan f).net = d.net := rfl
@[simp] theorem Dev.fry_onMan (d : Dev) (f : Manifest → Manifest) : (d.onMan f).fry = d.fry := rfl
@[simp] theorem Dev.hif_onMan (d : Dev) (f : Manifest → Manifest) : (d.onMan f).hif = d.hif := rfl
@[simp] theorem Dev.flt_onMan (d : Dev) (f : Manifest → Manifest) : (d.onMan f).flt = d.flt := rfl
@[simp] theorem Dev.per_onMan (d : Dev) (f : Manifest → Manifest) : (d.onMan f).per = d.per := rfl
@[simp] theorem Dev.ctl_onMan (d : Dev) (f : Manifest → Manifest) : (d.onMan f).ctl = d.ctl := rfl
@[simp] theorem Dev.pwr_onMan (d : Dev) (f : Manifest → Manifest) : (d.onMan f).pwr = d.pwr := rfl
@[simp] theorem Dev.lan_onMan (d : Dev) (f : Manifest → Manifest) : (d.onMan f).lan = d.lan := rfl
@[simp] theorem Dev.sys_onMan (d : Dev) (f : Manifest → Manifest) : (d.onMan f).sys = d.sys := rfl
@[simp] theorem Dev.cry_onMan (d : Dev) (f : Manifest → Manifest) : (d.onMan f).cry = d.cry := rfl
@[simp] theorem Dev.cpu_onMan (d : Dev) (f : Manifest → Manifest) : (d.onMan f).cpu = d.cpu := rfl
@[simp] theorem Dev.fls_onMan (d : Dev) (f : Manifest → Manifest) : (d.onMan f).fls = d.fls := rfl
@[simp] theorem Dev.bufOut_onMan (d : Dev) (f : Manifest → Manifest) : (d.onMan f).bufOut = d.bufOut := rfl
@[simp] theorem Dev.hostHeld_onMan (d : Dev) (f : Manifest → Manifest) : (d.onMan f).hostHeld = d.hostHeld := rfl
@[simp] theorem Dev.out_onMan (d : Dev) (f : Manifest → Manifest) : (d.onMan f).out = d.out := rfl

@[simp] theorem Dev.now_setSes (d : Dev) (n : Nat) (x : Session) : (d.setSes n x).now = d.now := rfl
@[simp] theorem Dev.free_setSes (d : Dev) (n : Nat) (x : Session) : (d.setSes n x).free = d.free := rfl
@[simp] theorem Dev.od_setSes (d : Dev) (n : Nat) (x : Session) : (d.setSes n x).od = d.od := rfl
@[simp] theorem Dev.obj_setSes (d : Dev) (n : Nat) (x : Session) : (d.setSes n x).obj = d.obj := rfl
@[simp] theorem Dev.cmp_setSes (d : Dev) (n : Nat) (x : Session) : (d.setSes n x).cmp = d.cmp := rfl
@[simp] theorem Dev.lch_setSes (d : Dev) (n : Nat) (x : Session) : (d.setSes n x).lch = d.lch := rfl
@[simp] theorem Dev.que_setSes (d : Dev) (n : Nat) (x : Session) : (d.setSes n x).que = d.que := rfl
@[simp] theorem Dev.fry_setSes (d : Dev) (n : Nat) (x : Session) : (d.setSes n x).fry = d.fry := rfl
@[simp] theorem Dev.hif_setSes (d : Dev) (n : Nat) (x : Session) : (d.setSes n x).hif = d.hif := rfl
@[simp] theorem Dev.flt_setSes (d : Dev) (n : Nat) (x : Session) : (d.setSes n x).flt = d.flt := rfl
@[simp] theorem Dev.per_setSes (d : Dev) (n : Nat) (x : Session) : (d.setSes n x).per = d.per := rfl
@[simp] theorem Dev.ctl_setSes (d : Dev) (n : Nat) (x : Session) : (d.setSes n x).ctl = d.ctl := rfl
@[simp] theorem Dev.pwr_setSes (d : Dev) (n : Nat) (x : Session) : (d.setSes n x).pwr = d.pwr := rfl
@[simp] theorem Dev.lan_setSes (d : Dev) (n : Nat) (x : Session) : (d.setSes n x).lan = d.lan := rfl
@[simp] theorem Dev.sys_setSes (d : Dev) (n : Nat) (x : Session) : (d.setSes n x).sys = d.sys := rfl
@[simp] theorem Dev.cry_setSes (d : Dev) (n : Nat) (x : Session) : (d.setSes n x).cry = d.cry := rfl
@[simp] theorem Dev.cpu_setSes (d : Dev) (n : Nat) (x : Session) : (d.setSes n x).cpu = d.cpu := rfl
@[simp] theorem Dev.fls_setSes (d : Dev) (n : Nat) (x : Session) : (d.setSes n x).fls = d.fls := rfl
@[simp] theorem Dev.bufOut_setSes (d : Dev) (n : Nat) (x : Session) : (d.setSes n x).bufOut = d.bufOut := rfl
@[simp] theorem Dev.hostHeld_setSes (d : Dev) (n : Nat) (x : Session) : (d.setSes n x).hostHeld = d.hostHeld := rfl
@[simp] theorem Dev.out_setSes (d : Dev) (n : Nat) (x : Session) : (d.setSes n x).out = d.out := rfl

@[simp] theorem Dev.now_setStr (d : Dev) (n : Nat) (x : Stream) : (d.setStr n x).now = d.now := rfl
@[simp] theorem Dev.free_setStr (d : Dev) (n : Nat) (x : Stream) : (d.setStr n x).free = d.free := rfl
@[simp] theorem Dev.od_setStr (d : Dev) (n : Nat) (x : Stream) : (d.setStr n x).od = d.od := rfl
@[simp] theorem Dev.obj_setStr (d : Dev) (n : Nat) (x : Stream) : (d.setStr n x).obj = d.obj := rfl
@[simp] theorem Dev.cmp_setStr (d : Dev) (n : Nat) (x : Stream) : (d.setStr n x).cmp = d.cmp := rfl
@[simp] theorem Dev.lch_setStr (d : Dev) (n : Nat) (x : Stream) : (d.setStr n x).lch = d.lch := rfl
@[simp] theorem Dev.que_setStr (d : Dev) (n : Nat) (x : Stream) : (d.setStr n x).que = d.que := rfl
@[simp] theorem Dev.fry_setStr (d : Dev) (n : Nat) (x : Stream) : (d.setStr n x).fry = d.fry := rfl
@[simp] theorem Dev.hif_setStr (d : Dev) (n : Nat) (x : Stream) : (d.setStr n x).hif = d.hif := rfl
@[simp] theorem Dev.flt_setStr (d : Dev) (n : Nat) (x : Stream) : (d.setStr n x).flt = d.flt := rfl
@[simp] theorem Dev.per_setStr (d : Dev) (n : Nat) (x : Stream) : (d.setStr n x).per = d.per := rfl
@[simp] theorem Dev.ctl_setStr (d : Dev) (n : Nat) (x : Stream) : (d.setStr n x).ctl = d.ctl := rfl
@[simp] theorem Dev.pwr_setStr (d : Dev) (n : Nat) (x : Stream) : (d.setStr n x).pwr = d.pwr := rfl
@[simp] theorem Dev.lan_setStr (d : Dev) (n : Nat) (x : Stream) : (d.setStr n x).lan = d.lan := rfl
@[simp] theorem Dev.sys_setStr (d : Dev) (n : Nat) (x : Stream) : (d.setStr n x).sys = d.sys := rfl
@[simp] theorem Dev.cry_setStr (d : Dev) (n : Nat) (x : Stream) : (d.setStr n x).cry = d.cry := rfl
@[simp] theorem Dev.cpu_setStr (d : Dev) (n : Nat) (x : Stream) : (d.setStr n x).cpu = d.cpu := rfl
@[simp] theorem Dev.fls_setStr (d : Dev) (n : Nat) (x : Stream) : (d.setStr n x).fls = d.fls := rfl
@[simp] theorem Dev.bufOut_setStr (d : Dev) (n : Nat) (x : Stream) : (d.setStr n x).bufOut = d.bufOut := rfl
@[simp] theorem Dev.hostHeld_setStr (d : Dev) (n : Nat) (x : Stream) : (d.setStr n x).hostHeld = d.hostHeld := rfl
@[simp] theorem Dev.out_setStr (d : Dev) (n : Nat) (x : Stream) : (d.setStr n x).out = d.out := rfl

@[simp] theorem Dev.now_setFPort (d : Dev) (n : Nat) (x : FerryPort) : (d.setFPort n x).now = d.now := rfl
@[simp] theorem Dev.free_setFPort (d : Dev) (n : Nat) (x : FerryPort) : (d.setFPort n x).free = d.free := rfl
@[simp] theorem Dev.od_setFPort (d : Dev) (n : Nat) (x : FerryPort) : (d.setFPort n x).od = d.od := rfl
@[simp] theorem Dev.obj_setFPort (d : Dev) (n : Nat) (x : FerryPort) : (d.setFPort n x).obj = d.obj := rfl
@[simp] theorem Dev.cmp_setFPort (d : Dev) (n : Nat) (x : FerryPort) : (d.setFPort n x).cmp = d.cmp := rfl
@[simp] theorem Dev.lch_setFPort (d : Dev) (n : Nat) (x : FerryPort) : (d.setFPort n x).lch = d.lch := rfl
@[simp] theorem Dev.que_setFPort (d : Dev) (n : Nat) (x : FerryPort) : (d.setFPort n x).que = d.que := rfl
@[simp] theorem Dev.net_setFPort (d : Dev) (n : Nat) (x : FerryPort) : (d.setFPort n x).net = d.net := rfl
@[simp] theorem Dev.hif_setFPort (d : Dev) (n : Nat) (x : FerryPort) : (d.setFPort n x).hif = d.hif := rfl
@[simp] theorem Dev.flt_setFPort (d : Dev) (n : Nat) (x : FerryPort) : (d.setFPort n x).flt = d.flt := rfl
@[simp] theorem Dev.per_setFPort (d : Dev) (n : Nat) (x : FerryPort) : (d.setFPort n x).per = d.per := rfl
@[simp] theorem Dev.ctl_setFPort (d : Dev) (n : Nat) (x : FerryPort) : (d.setFPort n x).ctl = d.ctl := rfl
@[simp] theorem Dev.pwr_setFPort (d : Dev) (n : Nat) (x : FerryPort) : (d.setFPort n x).pwr = d.pwr := rfl
@[simp] theorem Dev.lan_setFPort (d : Dev) (n : Nat) (x : FerryPort) : (d.setFPort n x).lan = d.lan := rfl
@[simp] theorem Dev.sys_setFPort (d : Dev) (n : Nat) (x : FerryPort) : (d.setFPort n x).sys = d.sys := rfl
@[simp] theorem Dev.cry_setFPort (d : Dev) (n : Nat) (x : FerryPort) : (d.setFPort n x).cry = d.cry := rfl
@[simp] theorem Dev.cpu_setFPort (d : Dev) (n : Nat) (x : FerryPort) : (d.setFPort n x).cpu = d.cpu := rfl
@[simp] theorem Dev.fls_setFPort (d : Dev) (n : Nat) (x : FerryPort) : (d.setFPort n x).fls = d.fls := rfl
@[simp] theorem Dev.bufOut_setFPort (d : Dev) (n : Nat) (x : FerryPort) : (d.setFPort n x).bufOut = d.bufOut := rfl
@[simp] theorem Dev.hostHeld_setFPort (d : Dev) (n : Nat) (x : FerryPort) : (d.setFPort n x).hostHeld = d.hostHeld := rfl
@[simp] theorem Dev.out_setFPort (d : Dev) (n : Nat) (x : FerryPort) : (d.setFPort n x).out = d.out := rfl

@[simp] theorem Dev.now_onTwin (d : Dev) (f : Twin → Twin) : (d.onTwin f).now = d.now := rfl
@[simp] theorem Dev.free_onTwin (d : Dev) (f : Twin → Twin) : (d.onTwin f).free = d.free := rfl
@[simp] theorem Dev.od_onTwin (d : Dev) (f : Twin → Twin) : (d.onTwin f).od = d.od := rfl
@[simp] theorem Dev.obj_onTwin (d : Dev) (f : Twin → Twin) : (d.onTwin f).obj = d.obj := rfl
@[simp] theorem Dev.cmp_onTwin (d : Dev) (f : Twin → Twin) : (d.onTwin f).cmp = d.cmp := rfl
@[simp] theorem Dev.lch_onTwin (d : Dev) (f : Twin → Twin) : (d.onTwin f).lch = d.lch := rfl
@[simp] theorem Dev.que_onTwin (d : Dev) (f : Twin → Twin) : (d.onTwin f).que = d.que := rfl
@[simp] theorem Dev.net_onTwin (d : Dev) (f : Twin → Twin) : (d.onTwin f).net = d.net := rfl
@[simp] theorem Dev.hif_onTwin (d : Dev) (f : Twin → Twin) : (d.onTwin f).hif = d.hif := rfl
@[simp] theorem Dev.flt_onTwin (d : Dev) (f : Twin → Twin) : (d.onTwin f).flt = d.flt := rfl
@[simp] theorem Dev.per_onTwin (d : Dev) (f : Twin → Twin) : (d.onTwin f).per = d.per := rfl
@[simp] theorem Dev.ctl_onTwin (d : Dev) (f : Twin → Twin) : (d.onTwin f).ctl = d.ctl := rfl
@[simp] theorem Dev.pwr_onTwin (d : Dev) (f : Twin → Twin) : (d.onTwin f).pwr = d.pwr := rfl
@[simp] theorem Dev.lan_onTwin (d : Dev) (f : Twin → Twin) : (d.onTwin f).lan = d.lan := rfl
@[simp] theorem Dev.sys_onTwin (d : Dev) (f : Twin → Twin) : (d.onTwin f).sys = d.sys := rfl
@[simp] theorem Dev.cry_onTwin (d : Dev) (f : Twin → Twin) : (d.onTwin f).cry = d.cry := rfl
@[simp] theorem Dev.cpu_onTwin (d : Dev) (f : Twin → Twin) : (d.onTwin f).cpu = d.cpu := rfl
@[simp] theorem Dev.fls_onTwin (d : Dev) (f : Twin → Twin) : (d.onTwin f).fls = d.fls := rfl
@[simp] theorem Dev.bufOut_onTwin (d : Dev) (f : Twin → Twin) : (d.onTwin f).bufOut = d.bufOut := rfl
@[simp] theorem Dev.hostHeld_onTwin (d : Dev) (f : Twin → Twin) : (d.onTwin f).hostHeld = d.hostHeld := rfl
@[simp] theorem Dev.out_onTwin (d : Dev) (f : Twin → Twin) : (d.onTwin f).out = d.out := rfl

@[simp] theorem Dev.now_onHif (d : Dev) (f : HostIf → HostIf) : (d.onHif f).now = d.now := rfl
@[simp] theorem Dev.free_onHif (d : Dev) (f : HostIf → HostIf) : (d.onHif f).free = d.free := rfl
@[simp] theorem Dev.od_onHif (d : Dev) (f : HostIf → HostIf) : (d.onHif f).od = d.od := rfl
@[simp] theorem Dev.obj_onHif (d : Dev) (f : HostIf → HostIf) : (d.onHif f).obj = d.obj := rfl
@[simp] theorem Dev.cmp_onHif (d : Dev) (f : HostIf → HostIf) : (d.onHif f).cmp = d.cmp := rfl
@[simp] theorem Dev.lch_onHif (d : Dev) (f : HostIf → HostIf) : (d.onHif f).lch = d.lch := rfl
@[simp] theorem Dev.que_onHif (d : Dev) (f : HostIf → HostIf) : (d.onHif f).que = d.que := rfl
@[simp] theorem Dev.net_onHif (d : Dev) (f : HostIf → HostIf) : (d.onHif f).net = d.net := rfl
@[simp] theorem Dev.fry_onHif (d : Dev) (f : HostIf → HostIf) : (d.onHif f).fry = d.fry := rfl
@[simp] theorem Dev.flt_onHif (d : Dev) (f : HostIf → HostIf) : (d.onHif f).flt = d.flt := rfl
@[simp] theorem Dev.per_onHif (d : Dev) (f : HostIf → HostIf) : (d.onHif f).per = d.per := rfl
@[simp] theorem Dev.ctl_onHif (d : Dev) (f : HostIf → HostIf) : (d.onHif f).ctl = d.ctl := rfl
@[simp] theorem Dev.pwr_onHif (d : Dev) (f : HostIf → HostIf) : (d.onHif f).pwr = d.pwr := rfl
@[simp] theorem Dev.lan_onHif (d : Dev) (f : HostIf → HostIf) : (d.onHif f).lan = d.lan := rfl
@[simp] theorem Dev.sys_onHif (d : Dev) (f : HostIf → HostIf) : (d.onHif f).sys = d.sys := rfl
@[simp] theorem Dev.cry_onHif (d : Dev) (f : HostIf → HostIf) : (d.onHif f).cry = d.cry := rfl
@[simp] theorem Dev.cpu_onHif (d : Dev) (f : HostIf → HostIf) : (d.onHif f).cpu = d.cpu := rfl
@[simp] theorem Dev.fls_onHif (d : Dev) (f : HostIf → HostIf) : (d.onHif f).fls = d.fls := rfl
@[simp] theorem Dev.bufOut_onHif (d : Dev) (f : HostIf → HostIf) : (d.onHif f).bufOut = d.bufOut := rfl
@[simp] theorem Dev.hostHeld_onHif (d : Dev) (f : HostIf → HostIf) : (d.onHif f).hostHeld = d.hostHeld := rfl
@[simp] theorem Dev.out_onHif (d : Dev) (f : HostIf → HostIf) : (d.onHif f).out = d.out := rfl

@[simp] theorem Dev.now_onFlt (d : Dev) (f : Faults → Faults) : (d.onFlt f).now = d.now := rfl
@[simp] theorem Dev.free_onFlt (d : Dev) (f : Faults → Faults) : (d.onFlt f).free = d.free := rfl
@[simp] theorem Dev.od_onFlt (d : Dev) (f : Faults → Faults) : (d.onFlt f).od = d.od := rfl
@[simp] theorem Dev.obj_onFlt (d : Dev) (f : Faults → Faults) : (d.onFlt f).obj = d.obj := rfl
@[simp] theorem Dev.cmp_onFlt (d : Dev) (f : Faults → Faults) : (d.onFlt f).cmp = d.cmp := rfl
@[simp] theorem Dev.lch_onFlt (d : Dev) (f : Faults → Faults) : (d.onFlt f).lch = d.lch := rfl
@[simp] theorem Dev.que_onFlt (d : Dev) (f : Faults → Faults) : (d.onFlt f).que = d.que := rfl
@[simp] theorem Dev.net_onFlt (d : Dev) (f : Faults → Faults) : (d.onFlt f).net = d.net := rfl
@[simp] theorem Dev.fry_onFlt (d : Dev) (f : Faults → Faults) : (d.onFlt f).fry = d.fry := rfl
@[simp] theorem Dev.hif_onFlt (d : Dev) (f : Faults → Faults) : (d.onFlt f).hif = d.hif := rfl
@[simp] theorem Dev.per_onFlt (d : Dev) (f : Faults → Faults) : (d.onFlt f).per = d.per := rfl
@[simp] theorem Dev.ctl_onFlt (d : Dev) (f : Faults → Faults) : (d.onFlt f).ctl = d.ctl := rfl
@[simp] theorem Dev.pwr_onFlt (d : Dev) (f : Faults → Faults) : (d.onFlt f).pwr = d.pwr := rfl
@[simp] theorem Dev.lan_onFlt (d : Dev) (f : Faults → Faults) : (d.onFlt f).lan = d.lan := rfl
@[simp] theorem Dev.sys_onFlt (d : Dev) (f : Faults → Faults) : (d.onFlt f).sys = d.sys := rfl
@[simp] theorem Dev.cry_onFlt (d : Dev) (f : Faults → Faults) : (d.onFlt f).cry = d.cry := rfl
@[simp] theorem Dev.cpu_onFlt (d : Dev) (f : Faults → Faults) : (d.onFlt f).cpu = d.cpu := rfl
@[simp] theorem Dev.fls_onFlt (d : Dev) (f : Faults → Faults) : (d.onFlt f).fls = d.fls := rfl
@[simp] theorem Dev.bufOut_onFlt (d : Dev) (f : Faults → Faults) : (d.onFlt f).bufOut = d.bufOut := rfl
@[simp] theorem Dev.hostHeld_onFlt (d : Dev) (f : Faults → Faults) : (d.onFlt f).hostHeld = d.hostHeld := rfl
@[simp] theorem Dev.out_onFlt (d : Dev) (f : Faults → Faults) : (d.onFlt f).out = d.out := rfl

@[simp] theorem Dev.now_setInput (d : Dev) (n : Nat) (x : OpInput) : (d.setInput n x).now = d.now := rfl
@[simp] theorem Dev.free_setInput (d : Dev) (n : Nat) (x : OpInput) : (d.setInput n x).free = d.free := rfl
@[simp] theorem Dev.od_setInput (d : Dev) (n : Nat) (x : OpInput) : (d.setInput n x).od = d.od := rfl
@[simp] theorem Dev.obj_setInput (d : Dev) (n : Nat) (x : OpInput) : (d.setInput n x).obj = d.obj := rfl
@[simp] theorem Dev.cmp_setInput (d : Dev) (n : Nat) (x : OpInput) : (d.setInput n x).cmp = d.cmp := rfl
@[simp] theorem Dev.lch_setInput (d : Dev) (n : Nat) (x : OpInput) : (d.setInput n x).lch = d.lch := rfl
@[simp] theorem Dev.que_setInput (d : Dev) (n : Nat) (x : OpInput) : (d.setInput n x).que = d.que := rfl
@[simp] theorem Dev.net_setInput (d : Dev) (n : Nat) (x : OpInput) : (d.setInput n x).net = d.net := rfl
@[simp] theorem Dev.fry_setInput (d : Dev) (n : Nat) (x : OpInput) : (d.setInput n x).fry = d.fry := rfl
@[simp] theorem Dev.hif_setInput (d : Dev) (n : Nat) (x : OpInput) : (d.setInput n x).hif = d.hif := rfl
@[simp] theorem Dev.flt_setInput (d : Dev) (n : Nat) (x : OpInput) : (d.setInput n x).flt = d.flt := rfl
@[simp] theorem Dev.ctl_setInput (d : Dev) (n : Nat) (x : OpInput) : (d.setInput n x).ctl = d.ctl := rfl
@[simp] theorem Dev.pwr_setInput (d : Dev) (n : Nat) (x : OpInput) : (d.setInput n x).pwr = d.pwr := rfl
@[simp] theorem Dev.lan_setInput (d : Dev) (n : Nat) (x : OpInput) : (d.setInput n x).lan = d.lan := rfl
@[simp] theorem Dev.sys_setInput (d : Dev) (n : Nat) (x : OpInput) : (d.setInput n x).sys = d.sys := rfl
@[simp] theorem Dev.cry_setInput (d : Dev) (n : Nat) (x : OpInput) : (d.setInput n x).cry = d.cry := rfl
@[simp] theorem Dev.cpu_setInput (d : Dev) (n : Nat) (x : OpInput) : (d.setInput n x).cpu = d.cpu := rfl
@[simp] theorem Dev.fls_setInput (d : Dev) (n : Nat) (x : OpInput) : (d.setInput n x).fls = d.fls := rfl
@[simp] theorem Dev.bufOut_setInput (d : Dev) (n : Nat) (x : OpInput) : (d.setInput n x).bufOut = d.bufOut := rfl
@[simp] theorem Dev.hostHeld_setInput (d : Dev) (n : Nat) (x : OpInput) : (d.setInput n x).hostHeld = d.hostHeld := rfl
@[simp] theorem Dev.out_setInput (d : Dev) (n : Nat) (x : OpInput) : (d.setInput n x).out = d.out := rfl

@[simp] theorem Dev.now_onTag (d : Dev) (f : TagLogic → TagLogic) : (d.onTag f).now = d.now := rfl
@[simp] theorem Dev.free_onTag (d : Dev) (f : TagLogic → TagLogic) : (d.onTag f).free = d.free := rfl
@[simp] theorem Dev.od_onTag (d : Dev) (f : TagLogic → TagLogic) : (d.onTag f).od = d.od := rfl
@[simp] theorem Dev.obj_onTag (d : Dev) (f : TagLogic → TagLogic) : (d.onTag f).obj = d.obj := rfl
@[simp] theorem Dev.cmp_onTag (d : Dev) (f : TagLogic → TagLogic) : (d.onTag f).cmp = d.cmp := rfl
@[simp] theorem Dev.lch_onTag (d : Dev) (f : TagLogic → TagLogic) : (d.onTag f).lch = d.lch := rfl
@[simp] theorem Dev.que_onTag (d : Dev) (f : TagLogic → TagLogic) : (d.onTag f).que = d.que := rfl
@[simp] theorem Dev.net_onTag (d : Dev) (f : TagLogic → TagLogic) : (d.onTag f).net = d.net := rfl
@[simp] theorem Dev.fry_onTag (d : Dev) (f : TagLogic → TagLogic) : (d.onTag f).fry = d.fry := rfl
@[simp] theorem Dev.hif_onTag (d : Dev) (f : TagLogic → TagLogic) : (d.onTag f).hif = d.hif := rfl
@[simp] theorem Dev.flt_onTag (d : Dev) (f : TagLogic → TagLogic) : (d.onTag f).flt = d.flt := rfl
@[simp] theorem Dev.per_onTag (d : Dev) (f : TagLogic → TagLogic) : (d.onTag f).per = d.per := rfl
@[simp] theorem Dev.pwr_onTag (d : Dev) (f : TagLogic → TagLogic) : (d.onTag f).pwr = d.pwr := rfl
@[simp] theorem Dev.lan_onTag (d : Dev) (f : TagLogic → TagLogic) : (d.onTag f).lan = d.lan := rfl
@[simp] theorem Dev.sys_onTag (d : Dev) (f : TagLogic → TagLogic) : (d.onTag f).sys = d.sys := rfl
@[simp] theorem Dev.cry_onTag (d : Dev) (f : TagLogic → TagLogic) : (d.onTag f).cry = d.cry := rfl
@[simp] theorem Dev.cpu_onTag (d : Dev) (f : TagLogic → TagLogic) : (d.onTag f).cpu = d.cpu := rfl
@[simp] theorem Dev.fls_onTag (d : Dev) (f : TagLogic → TagLogic) : (d.onTag f).fls = d.fls := rfl
@[simp] theorem Dev.bufOut_onTag (d : Dev) (f : TagLogic → TagLogic) : (d.onTag f).bufOut = d.bufOut := rfl
@[simp] theorem Dev.hostHeld_onTag (d : Dev) (f : TagLogic → TagLogic) : (d.onTag f).hostHeld = d.hostHeld := rfl
@[simp] theorem Dev.out_onTag (d : Dev) (f : TagLogic → TagLogic) : (d.onTag f).out = d.out := rfl

@[simp] theorem Dev.now_onRd (d : Dev) (f : Reader → Reader) : (d.onRd f).now = d.now := rfl
@[simp] theorem Dev.free_onRd (d : Dev) (f : Reader → Reader) : (d.onRd f).free = d.free := rfl
@[simp] theorem Dev.od_onRd (d : Dev) (f : Reader → Reader) : (d.onRd f).od = d.od := rfl
@[simp] theorem Dev.obj_onRd (d : Dev) (f : Reader → Reader) : (d.onRd f).obj = d.obj := rfl
@[simp] theorem Dev.cmp_onRd (d : Dev) (f : Reader → Reader) : (d.onRd f).cmp = d.cmp := rfl
@[simp] theorem Dev.lch_onRd (d : Dev) (f : Reader → Reader) : (d.onRd f).lch = d.lch := rfl
@[simp] theorem Dev.que_onRd (d : Dev) (f : Reader → Reader) : (d.onRd f).que = d.que := rfl
@[simp] theorem Dev.net_onRd (d : Dev) (f : Reader → Reader) : (d.onRd f).net = d.net := rfl
@[simp] theorem Dev.fry_onRd (d : Dev) (f : Reader → Reader) : (d.onRd f).fry = d.fry := rfl
@[simp] theorem Dev.hif_onRd (d : Dev) (f : Reader → Reader) : (d.onRd f).hif = d.hif := rfl
@[simp] theorem Dev.flt_onRd (d : Dev) (f : Reader → Reader) : (d.onRd f).flt = d.flt := rfl
@[simp] theorem Dev.per_onRd (d : Dev) (f : Reader → Reader) : (d.onRd f).per = d.per := rfl
@[simp] theorem Dev.pwr_onRd (d : Dev) (f : Reader → Reader) : (d.onRd f).pwr = d.pwr := rfl
@[simp] theorem Dev.lan_onRd (d : Dev) (f : Reader → Reader) : (d.onRd f).lan = d.lan := rfl
@[simp] theorem Dev.sys_onRd (d : Dev) (f : Reader → Reader) : (d.onRd f).sys = d.sys := rfl
@[simp] theorem Dev.cry_onRd (d : Dev) (f : Reader → Reader) : (d.onRd f).cry = d.cry := rfl
@[simp] theorem Dev.cpu_onRd (d : Dev) (f : Reader → Reader) : (d.onRd f).cpu = d.cpu := rfl
@[simp] theorem Dev.fls_onRd (d : Dev) (f : Reader → Reader) : (d.onRd f).fls = d.fls := rfl
@[simp] theorem Dev.bufOut_onRd (d : Dev) (f : Reader → Reader) : (d.onRd f).bufOut = d.bufOut := rfl
@[simp] theorem Dev.hostHeld_onRd (d : Dev) (f : Reader → Reader) : (d.onRd f).hostHeld = d.hostHeld := rfl
@[simp] theorem Dev.out_onRd (d : Dev) (f : Reader → Reader) : (d.onRd f).out = d.out := rfl

@[simp] theorem Dev.now_onPwr (d : Dev) (f : Power → Power) : (d.onPwr f).now = d.now := rfl
@[simp] theorem Dev.free_onPwr (d : Dev) (f : Power → Power) : (d.onPwr f).free = d.free := rfl
@[simp] theorem Dev.od_onPwr (d : Dev) (f : Power → Power) : (d.onPwr f).od = d.od := rfl
@[simp] theorem Dev.obj_onPwr (d : Dev) (f : Power → Power) : (d.onPwr f).obj = d.obj := rfl
@[simp] theorem Dev.cmp_onPwr (d : Dev) (f : Power → Power) : (d.onPwr f).cmp = d.cmp := rfl
@[simp] theorem Dev.lch_onPwr (d : Dev) (f : Power → Power) : (d.onPwr f).lch = d.lch := rfl
@[simp] theorem Dev.que_onPwr (d : Dev) (f : Power → Power) : (d.onPwr f).que = d.que := rfl
@[simp] theorem Dev.net_onPwr (d : Dev) (f : Power → Power) : (d.onPwr f).net = d.net := rfl
@[simp] theorem Dev.fry_onPwr (d : Dev) (f : Power → Power) : (d.onPwr f).fry = d.fry := rfl
@[simp] theorem Dev.hif_onPwr (d : Dev) (f : Power → Power) : (d.onPwr f).hif = d.hif := rfl
@[simp] theorem Dev.flt_onPwr (d : Dev) (f : Power → Power) : (d.onPwr f).flt = d.flt := rfl
@[simp] theorem Dev.per_onPwr (d : Dev) (f : Power → Power) : (d.onPwr f).per = d.per := rfl
@[simp] theorem Dev.ctl_onPwr (d : Dev) (f : Power → Power) : (d.onPwr f).ctl = d.ctl := rfl
@[simp] theorem Dev.lan_onPwr (d : Dev) (f : Power → Power) : (d.onPwr f).lan = d.lan := rfl
@[simp] theorem Dev.sys_onPwr (d : Dev) (f : Power → Power) : (d.onPwr f).sys = d.sys := rfl
@[simp] theorem Dev.cry_onPwr (d : Dev) (f : Power → Power) : (d.onPwr f).cry = d.cry := rfl
@[simp] theorem Dev.cpu_onPwr (d : Dev) (f : Power → Power) : (d.onPwr f).cpu = d.cpu := rfl
@[simp] theorem Dev.fls_onPwr (d : Dev) (f : Power → Power) : (d.onPwr f).fls = d.fls := rfl
@[simp] theorem Dev.bufOut_onPwr (d : Dev) (f : Power → Power) : (d.onPwr f).bufOut = d.bufOut := rfl
@[simp] theorem Dev.hostHeld_onPwr (d : Dev) (f : Power → Power) : (d.onPwr f).hostHeld = d.hostHeld := rfl
@[simp] theorem Dev.out_onPwr (d : Dev) (f : Power → Power) : (d.onPwr f).out = d.out := rfl

@[simp] theorem Dev.now_setLane (d : Dev) (n : Nat) (x : LaneIo) : (d.setLane n x).now = d.now := rfl
@[simp] theorem Dev.free_setLane (d : Dev) (n : Nat) (x : LaneIo) : (d.setLane n x).free = d.free := rfl
@[simp] theorem Dev.od_setLane (d : Dev) (n : Nat) (x : LaneIo) : (d.setLane n x).od = d.od := rfl
@[simp] theorem Dev.obj_setLane (d : Dev) (n : Nat) (x : LaneIo) : (d.setLane n x).obj = d.obj := rfl
@[simp] theorem Dev.cmp_setLane (d : Dev) (n : Nat) (x : LaneIo) : (d.setLane n x).cmp = d.cmp := rfl
@[simp] theorem Dev.lch_setLane (d : Dev) (n : Nat) (x : LaneIo) : (d.setLane n x).lch = d.lch := rfl
@[simp] theorem Dev.que_setLane (d : Dev) (n : Nat) (x : LaneIo) : (d.setLane n x).que = d.que := rfl
@[simp] theorem Dev.net_setLane (d : Dev) (n : Nat) (x : LaneIo) : (d.setLane n x).net = d.net := rfl
@[simp] theorem Dev.fry_setLane (d : Dev) (n : Nat) (x : LaneIo) : (d.setLane n x).fry = d.fry := rfl
@[simp] theorem Dev.hif_setLane (d : Dev) (n : Nat) (x : LaneIo) : (d.setLane n x).hif = d.hif := rfl
@[simp] theorem Dev.flt_setLane (d : Dev) (n : Nat) (x : LaneIo) : (d.setLane n x).flt = d.flt := rfl
@[simp] theorem Dev.per_setLane (d : Dev) (n : Nat) (x : LaneIo) : (d.setLane n x).per = d.per := rfl
@[simp] theorem Dev.ctl_setLane (d : Dev) (n : Nat) (x : LaneIo) : (d.setLane n x).ctl = d.ctl := rfl
@[simp] theorem Dev.pwr_setLane (d : Dev) (n : Nat) (x : LaneIo) : (d.setLane n x).pwr = d.pwr := rfl
@[simp] theorem Dev.sys_setLane (d : Dev) (n : Nat) (x : LaneIo) : (d.setLane n x).sys = d.sys := rfl
@[simp] theorem Dev.cry_setLane (d : Dev) (n : Nat) (x : LaneIo) : (d.setLane n x).cry = d.cry := rfl
@[simp] theorem Dev.cpu_setLane (d : Dev) (n : Nat) (x : LaneIo) : (d.setLane n x).cpu = d.cpu := rfl
@[simp] theorem Dev.fls_setLane (d : Dev) (n : Nat) (x : LaneIo) : (d.setLane n x).fls = d.fls := rfl
@[simp] theorem Dev.bufOut_setLane (d : Dev) (n : Nat) (x : LaneIo) : (d.setLane n x).bufOut = d.bufOut := rfl
@[simp] theorem Dev.hostHeld_setLane (d : Dev) (n : Nat) (x : LaneIo) : (d.setLane n x).hostHeld = d.hostHeld := rfl
@[simp] theorem Dev.out_setLane (d : Dev) (n : Nat) (x : LaneIo) : (d.setLane n x).out = d.out := rfl

@[simp] theorem Dev.now_onLcy (d : Dev) (f : LifeCycle → LifeCycle) : (d.onLcy f).now = d.now := rfl
@[simp] theorem Dev.free_onLcy (d : Dev) (f : LifeCycle → LifeCycle) : (d.onLcy f).free = d.free := rfl
@[simp] theorem Dev.od_onLcy (d : Dev) (f : LifeCycle → LifeCycle) : (d.onLcy f).od = d.od := rfl
@[simp] theorem Dev.obj_onLcy (d : Dev) (f : LifeCycle → LifeCycle) : (d.onLcy f).obj = d.obj := rfl
@[simp] theorem Dev.cmp_onLcy (d : Dev) (f : LifeCycle → LifeCycle) : (d.onLcy f).cmp = d.cmp := rfl
@[simp] theorem Dev.lch_onLcy (d : Dev) (f : LifeCycle → LifeCycle) : (d.onLcy f).lch = d.lch := rfl
@[simp] theorem Dev.que_onLcy (d : Dev) (f : LifeCycle → LifeCycle) : (d.onLcy f).que = d.que := rfl
@[simp] theorem Dev.net_onLcy (d : Dev) (f : LifeCycle → LifeCycle) : (d.onLcy f).net = d.net := rfl
@[simp] theorem Dev.fry_onLcy (d : Dev) (f : LifeCycle → LifeCycle) : (d.onLcy f).fry = d.fry := rfl
@[simp] theorem Dev.hif_onLcy (d : Dev) (f : LifeCycle → LifeCycle) : (d.onLcy f).hif = d.hif := rfl
@[simp] theorem Dev.flt_onLcy (d : Dev) (f : LifeCycle → LifeCycle) : (d.onLcy f).flt = d.flt := rfl
@[simp] theorem Dev.per_onLcy (d : Dev) (f : LifeCycle → LifeCycle) : (d.onLcy f).per = d.per := rfl
@[simp] theorem Dev.ctl_onLcy (d : Dev) (f : LifeCycle → LifeCycle) : (d.onLcy f).ctl = d.ctl := rfl
@[simp] theorem Dev.pwr_onLcy (d : Dev) (f : LifeCycle → LifeCycle) : (d.onLcy f).pwr = d.pwr := rfl
@[simp] theorem Dev.lan_onLcy (d : Dev) (f : LifeCycle → LifeCycle) : (d.onLcy f).lan = d.lan := rfl
@[simp] theorem Dev.sys_onLcy (d : Dev) (f : LifeCycle → LifeCycle) : (d.onLcy f).sys = d.sys := rfl
@[simp] theorem Dev.cpu_onLcy (d : Dev) (f : LifeCycle → LifeCycle) : (d.onLcy f).cpu = d.cpu := rfl
@[simp] theorem Dev.fls_onLcy (d : Dev) (f : LifeCycle → LifeCycle) : (d.onLcy f).fls = d.fls := rfl
@[simp] theorem Dev.bufOut_onLcy (d : Dev) (f : LifeCycle → LifeCycle) : (d.onLcy f).bufOut = d.bufOut := rfl
@[simp] theorem Dev.hostHeld_onLcy (d : Dev) (f : LifeCycle → LifeCycle) : (d.onLcy f).hostHeld = d.hostHeld := rfl
@[simp] theorem Dev.out_onLcy (d : Dev) (f : LifeCycle → LifeCycle) : (d.onLcy f).out = d.out := rfl

@[simp] theorem Dev.now_setKeySlot (d : Dev) (n : Nat) (x : KeySlot) : (d.setKeySlot n x).now = d.now := rfl
@[simp] theorem Dev.free_setKeySlot (d : Dev) (n : Nat) (x : KeySlot) : (d.setKeySlot n x).free = d.free := rfl
@[simp] theorem Dev.od_setKeySlot (d : Dev) (n : Nat) (x : KeySlot) : (d.setKeySlot n x).od = d.od := rfl
@[simp] theorem Dev.obj_setKeySlot (d : Dev) (n : Nat) (x : KeySlot) : (d.setKeySlot n x).obj = d.obj := rfl
@[simp] theorem Dev.cmp_setKeySlot (d : Dev) (n : Nat) (x : KeySlot) : (d.setKeySlot n x).cmp = d.cmp := rfl
@[simp] theorem Dev.lch_setKeySlot (d : Dev) (n : Nat) (x : KeySlot) : (d.setKeySlot n x).lch = d.lch := rfl
@[simp] theorem Dev.que_setKeySlot (d : Dev) (n : Nat) (x : KeySlot) : (d.setKeySlot n x).que = d.que := rfl
@[simp] theorem Dev.net_setKeySlot (d : Dev) (n : Nat) (x : KeySlot) : (d.setKeySlot n x).net = d.net := rfl
@[simp] theorem Dev.fry_setKeySlot (d : Dev) (n : Nat) (x : KeySlot) : (d.setKeySlot n x).fry = d.fry := rfl
@[simp] theorem Dev.hif_setKeySlot (d : Dev) (n : Nat) (x : KeySlot) : (d.setKeySlot n x).hif = d.hif := rfl
@[simp] theorem Dev.flt_setKeySlot (d : Dev) (n : Nat) (x : KeySlot) : (d.setKeySlot n x).flt = d.flt := rfl
@[simp] theorem Dev.per_setKeySlot (d : Dev) (n : Nat) (x : KeySlot) : (d.setKeySlot n x).per = d.per := rfl
@[simp] theorem Dev.ctl_setKeySlot (d : Dev) (n : Nat) (x : KeySlot) : (d.setKeySlot n x).ctl = d.ctl := rfl
@[simp] theorem Dev.pwr_setKeySlot (d : Dev) (n : Nat) (x : KeySlot) : (d.setKeySlot n x).pwr = d.pwr := rfl
@[simp] theorem Dev.lan_setKeySlot (d : Dev) (n : Nat) (x : KeySlot) : (d.setKeySlot n x).lan = d.lan := rfl
@[simp] theorem Dev.sys_setKeySlot (d : Dev) (n : Nat) (x : KeySlot) : (d.setKeySlot n x).sys = d.sys := rfl
@[simp] theorem Dev.cpu_setKeySlot (d : Dev) (n : Nat) (x : KeySlot) : (d.setKeySlot n x).cpu = d.cpu := rfl
@[simp] theorem Dev.fls_setKeySlot (d : Dev) (n : Nat) (x : KeySlot) : (d.setKeySlot n x).fls = d.fls := rfl
@[simp] theorem Dev.bufOut_setKeySlot (d : Dev) (n : Nat) (x : KeySlot) : (d.setKeySlot n x).bufOut = d.bufOut := rfl
@[simp] theorem Dev.hostHeld_setKeySlot (d : Dev) (n : Nat) (x : KeySlot) : (d.setKeySlot n x).hostHeld = d.hostHeld := rfl
@[simp] theorem Dev.out_setKeySlot (d : Dev) (n : Nat) (x : KeySlot) : (d.setKeySlot n x).out = d.out := rfl

@[simp] theorem Dev.now_setCore (d : Dev) (n : Nat) (x : CipherCore) : (d.setCore n x).now = d.now := rfl
@[simp] theorem Dev.free_setCore (d : Dev) (n : Nat) (x : CipherCore) : (d.setCore n x).free = d.free := rfl
@[simp] theorem Dev.od_setCore (d : Dev) (n : Nat) (x : CipherCore) : (d.setCore n x).od = d.od := rfl
@[simp] theorem Dev.obj_setCore (d : Dev) (n : Nat) (x : CipherCore) : (d.setCore n x).obj = d.obj := rfl
@[simp] theorem Dev.cmp_setCore (d : Dev) (n : Nat) (x : CipherCore) : (d.setCore n x).cmp = d.cmp := rfl
@[simp] theorem Dev.lch_setCore (d : Dev) (n : Nat) (x : CipherCore) : (d.setCore n x).lch = d.lch := rfl
@[simp] theorem Dev.que_setCore (d : Dev) (n : Nat) (x : CipherCore) : (d.setCore n x).que = d.que := rfl
@[simp] theorem Dev.net_setCore (d : Dev) (n : Nat) (x : CipherCore) : (d.setCore n x).net = d.net := rfl
@[simp] theorem Dev.fry_setCore (d : Dev) (n : Nat) (x : CipherCore) : (d.setCore n x).fry = d.fry := rfl
@[simp] theorem Dev.hif_setCore (d : Dev) (n : Nat) (x : CipherCore) : (d.setCore n x).hif = d.hif := rfl
@[simp] theorem Dev.flt_setCore (d : Dev) (n : Nat) (x : CipherCore) : (d.setCore n x).flt = d.flt := rfl
@[simp] theorem Dev.per_setCore (d : Dev) (n : Nat) (x : CipherCore) : (d.setCore n x).per = d.per := rfl
@[simp] theorem Dev.ctl_setCore (d : Dev) (n : Nat) (x : CipherCore) : (d.setCore n x).ctl = d.ctl := rfl
@[simp] theorem Dev.pwr_setCore (d : Dev) (n : Nat) (x : CipherCore) : (d.setCore n x).pwr = d.pwr := rfl
@[simp] theorem Dev.lan_setCore (d : Dev) (n : Nat) (x : CipherCore) : (d.setCore n x).lan = d.lan := rfl
@[simp] theorem Dev.sys_setCore (d : Dev) (n : Nat) (x : CipherCore) : (d.setCore n x).sys = d.sys := rfl
@[simp] theorem Dev.cpu_setCore (d : Dev) (n : Nat) (x : CipherCore) : (d.setCore n x).cpu = d.cpu := rfl
@[simp] theorem Dev.fls_setCore (d : Dev) (n : Nat) (x : CipherCore) : (d.setCore n x).fls = d.fls := rfl
@[simp] theorem Dev.bufOut_setCore (d : Dev) (n : Nat) (x : CipherCore) : (d.setCore n x).bufOut = d.bufOut := rfl
@[simp] theorem Dev.hostHeld_setCore (d : Dev) (n : Nat) (x : CipherCore) : (d.setCore n x).hostHeld = d.hostHeld := rfl
@[simp] theorem Dev.out_setCore (d : Dev) (n : Nat) (x : CipherCore) : (d.setCore n x).out = d.out := rfl

@[simp] theorem Dev.now_setHring (d : Dev) (n : Nat) (x : HashRing) : (d.setHring n x).now = d.now := rfl
@[simp] theorem Dev.free_setHring (d : Dev) (n : Nat) (x : HashRing) : (d.setHring n x).free = d.free := rfl
@[simp] theorem Dev.od_setHring (d : Dev) (n : Nat) (x : HashRing) : (d.setHring n x).od = d.od := rfl
@[simp] theorem Dev.obj_setHring (d : Dev) (n : Nat) (x : HashRing) : (d.setHring n x).obj = d.obj := rfl
@[simp] theorem Dev.cmp_setHring (d : Dev) (n : Nat) (x : HashRing) : (d.setHring n x).cmp = d.cmp := rfl
@[simp] theorem Dev.lch_setHring (d : Dev) (n : Nat) (x : HashRing) : (d.setHring n x).lch = d.lch := rfl
@[simp] theorem Dev.que_setHring (d : Dev) (n : Nat) (x : HashRing) : (d.setHring n x).que = d.que := rfl
@[simp] theorem Dev.net_setHring (d : Dev) (n : Nat) (x : HashRing) : (d.setHring n x).net = d.net := rfl
@[simp] theorem Dev.fry_setHring (d : Dev) (n : Nat) (x : HashRing) : (d.setHring n x).fry = d.fry := rfl
@[simp] theorem Dev.hif_setHring (d : Dev) (n : Nat) (x : HashRing) : (d.setHring n x).hif = d.hif := rfl
@[simp] theorem Dev.flt_setHring (d : Dev) (n : Nat) (x : HashRing) : (d.setHring n x).flt = d.flt := rfl
@[simp] theorem Dev.per_setHring (d : Dev) (n : Nat) (x : HashRing) : (d.setHring n x).per = d.per := rfl
@[simp] theorem Dev.ctl_setHring (d : Dev) (n : Nat) (x : HashRing) : (d.setHring n x).ctl = d.ctl := rfl
@[simp] theorem Dev.pwr_setHring (d : Dev) (n : Nat) (x : HashRing) : (d.setHring n x).pwr = d.pwr := rfl
@[simp] theorem Dev.lan_setHring (d : Dev) (n : Nat) (x : HashRing) : (d.setHring n x).lan = d.lan := rfl
@[simp] theorem Dev.sys_setHring (d : Dev) (n : Nat) (x : HashRing) : (d.setHring n x).sys = d.sys := rfl
@[simp] theorem Dev.cpu_setHring (d : Dev) (n : Nat) (x : HashRing) : (d.setHring n x).cpu = d.cpu := rfl
@[simp] theorem Dev.fls_setHring (d : Dev) (n : Nat) (x : HashRing) : (d.setHring n x).fls = d.fls := rfl
@[simp] theorem Dev.bufOut_setHring (d : Dev) (n : Nat) (x : HashRing) : (d.setHring n x).bufOut = d.bufOut := rfl
@[simp] theorem Dev.hostHeld_setHring (d : Dev) (n : Nat) (x : HashRing) : (d.setHring n x).hostHeld = d.hostHeld := rfl
@[simp] theorem Dev.out_setHring (d : Dev) (n : Nat) (x : HashRing) : (d.setHring n x).out = d.out := rfl

@[simp] theorem Dev.now_onBgn (d : Dev) (f : BigNum → BigNum) : (d.onBgn f).now = d.now := rfl
@[simp] theorem Dev.free_onBgn (d : Dev) (f : BigNum → BigNum) : (d.onBgn f).free = d.free := rfl
@[simp] theorem Dev.od_onBgn (d : Dev) (f : BigNum → BigNum) : (d.onBgn f).od = d.od := rfl
@[simp] theorem Dev.obj_onBgn (d : Dev) (f : BigNum → BigNum) : (d.onBgn f).obj = d.obj := rfl
@[simp] theorem Dev.cmp_onBgn (d : Dev) (f : BigNum → BigNum) : (d.onBgn f).cmp = d.cmp := rfl
@[simp] theorem Dev.lch_onBgn (d : Dev) (f : BigNum → BigNum) : (d.onBgn f).lch = d.lch := rfl
@[simp] theorem Dev.que_onBgn (d : Dev) (f : BigNum → BigNum) : (d.onBgn f).que = d.que := rfl
@[simp] theorem Dev.net_onBgn (d : Dev) (f : BigNum → BigNum) : (d.onBgn f).net = d.net := rfl
@[simp] theorem Dev.fry_onBgn (d : Dev) (f : BigNum → BigNum) : (d.onBgn f).fry = d.fry := rfl
@[simp] theorem Dev.hif_onBgn (d : Dev) (f : BigNum → BigNum) : (d.onBgn f).hif = d.hif := rfl
@[simp] theorem Dev.flt_onBgn (d : Dev) (f : BigNum → BigNum) : (d.onBgn f).flt = d.flt := rfl
@[simp] theorem Dev.per_onBgn (d : Dev) (f : BigNum → BigNum) : (d.onBgn f).per = d.per := rfl
@[simp] theorem Dev.ctl_onBgn (d : Dev) (f : BigNum → BigNum) : (d.onBgn f).ctl = d.ctl := rfl
@[simp] theorem Dev.pwr_onBgn (d : Dev) (f : BigNum → BigNum) : (d.onBgn f).pwr = d.pwr := rfl
@[simp] theorem Dev.lan_onBgn (d : Dev) (f : BigNum → BigNum) : (d.onBgn f).lan = d.lan := rfl
@[simp] theorem Dev.sys_onBgn (d : Dev) (f : BigNum → BigNum) : (d.onBgn f).sys = d.sys := rfl
@[simp] theorem Dev.cpu_onBgn (d : Dev) (f : BigNum → BigNum) : (d.onBgn f).cpu = d.cpu := rfl
@[simp] theorem Dev.fls_onBgn (d : Dev) (f : BigNum → BigNum) : (d.onBgn f).fls = d.fls := rfl
@[simp] theorem Dev.bufOut_onBgn (d : Dev) (f : BigNum → BigNum) : (d.onBgn f).bufOut = d.bufOut := rfl
@[simp] theorem Dev.hostHeld_onBgn (d : Dev) (f : BigNum → BigNum) : (d.onBgn f).hostHeld = d.hostHeld := rfl
@[simp] theorem Dev.out_onBgn (d : Dev) (f : BigNum → BigNum) : (d.onBgn f).out = d.out := rfl

@[simp] theorem Dev.now_setDh (d : Dev) (n : Nat) (x : DhCore) : (d.setDh n x).now = d.now := rfl
@[simp] theorem Dev.free_setDh (d : Dev) (n : Nat) (x : DhCore) : (d.setDh n x).free = d.free := rfl
@[simp] theorem Dev.od_setDh (d : Dev) (n : Nat) (x : DhCore) : (d.setDh n x).od = d.od := rfl
@[simp] theorem Dev.obj_setDh (d : Dev) (n : Nat) (x : DhCore) : (d.setDh n x).obj = d.obj := rfl
@[simp] theorem Dev.cmp_setDh (d : Dev) (n : Nat) (x : DhCore) : (d.setDh n x).cmp = d.cmp := rfl
@[simp] theorem Dev.lch_setDh (d : Dev) (n : Nat) (x : DhCore) : (d.setDh n x).lch = d.lch := rfl
@[simp] theorem Dev.que_setDh (d : Dev) (n : Nat) (x : DhCore) : (d.setDh n x).que = d.que := rfl
@[simp] theorem Dev.net_setDh (d : Dev) (n : Nat) (x : DhCore) : (d.setDh n x).net = d.net := rfl
@[simp] theorem Dev.fry_setDh (d : Dev) (n : Nat) (x : DhCore) : (d.setDh n x).fry = d.fry := rfl
@[simp] theorem Dev.hif_setDh (d : Dev) (n : Nat) (x : DhCore) : (d.setDh n x).hif = d.hif := rfl
@[simp] theorem Dev.flt_setDh (d : Dev) (n : Nat) (x : DhCore) : (d.setDh n x).flt = d.flt := rfl
@[simp] theorem Dev.per_setDh (d : Dev) (n : Nat) (x : DhCore) : (d.setDh n x).per = d.per := rfl
@[simp] theorem Dev.ctl_setDh (d : Dev) (n : Nat) (x : DhCore) : (d.setDh n x).ctl = d.ctl := rfl
@[simp] theorem Dev.pwr_setDh (d : Dev) (n : Nat) (x : DhCore) : (d.setDh n x).pwr = d.pwr := rfl
@[simp] theorem Dev.lan_setDh (d : Dev) (n : Nat) (x : DhCore) : (d.setDh n x).lan = d.lan := rfl
@[simp] theorem Dev.sys_setDh (d : Dev) (n : Nat) (x : DhCore) : (d.setDh n x).sys = d.sys := rfl
@[simp] theorem Dev.cry_setDh (d : Dev) (n : Nat) (x : DhCore) : (d.setDh n x).cry = d.cry := rfl
@[simp] theorem Dev.fls_setDh (d : Dev) (n : Nat) (x : DhCore) : (d.setDh n x).fls = d.fls := rfl
@[simp] theorem Dev.bufOut_setDh (d : Dev) (n : Nat) (x : DhCore) : (d.setDh n x).bufOut = d.bufOut := rfl
@[simp] theorem Dev.hostHeld_setDh (d : Dev) (n : Nat) (x : DhCore) : (d.setDh n x).hostHeld = d.hostHeld := rfl
@[simp] theorem Dev.out_setDh (d : Dev) (n : Nat) (x : DhCore) : (d.setDh n x).out = d.out := rfl

@[simp] theorem Dev.now_setPu (d : Dev) (n : Nat) (x : PuCore) : (d.setPu n x).now = d.now := rfl
@[simp] theorem Dev.free_setPu (d : Dev) (n : Nat) (x : PuCore) : (d.setPu n x).free = d.free := rfl
@[simp] theorem Dev.od_setPu (d : Dev) (n : Nat) (x : PuCore) : (d.setPu n x).od = d.od := rfl
@[simp] theorem Dev.obj_setPu (d : Dev) (n : Nat) (x : PuCore) : (d.setPu n x).obj = d.obj := rfl
@[simp] theorem Dev.cmp_setPu (d : Dev) (n : Nat) (x : PuCore) : (d.setPu n x).cmp = d.cmp := rfl
@[simp] theorem Dev.lch_setPu (d : Dev) (n : Nat) (x : PuCore) : (d.setPu n x).lch = d.lch := rfl
@[simp] theorem Dev.que_setPu (d : Dev) (n : Nat) (x : PuCore) : (d.setPu n x).que = d.que := rfl
@[simp] theorem Dev.net_setPu (d : Dev) (n : Nat) (x : PuCore) : (d.setPu n x).net = d.net := rfl
@[simp] theorem Dev.fry_setPu (d : Dev) (n : Nat) (x : PuCore) : (d.setPu n x).fry = d.fry := rfl
@[simp] theorem Dev.hif_setPu (d : Dev) (n : Nat) (x : PuCore) : (d.setPu n x).hif = d.hif := rfl
@[simp] theorem Dev.flt_setPu (d : Dev) (n : Nat) (x : PuCore) : (d.setPu n x).flt = d.flt := rfl
@[simp] theorem Dev.per_setPu (d : Dev) (n : Nat) (x : PuCore) : (d.setPu n x).per = d.per := rfl
@[simp] theorem Dev.ctl_setPu (d : Dev) (n : Nat) (x : PuCore) : (d.setPu n x).ctl = d.ctl := rfl
@[simp] theorem Dev.pwr_setPu (d : Dev) (n : Nat) (x : PuCore) : (d.setPu n x).pwr = d.pwr := rfl
@[simp] theorem Dev.lan_setPu (d : Dev) (n : Nat) (x : PuCore) : (d.setPu n x).lan = d.lan := rfl
@[simp] theorem Dev.sys_setPu (d : Dev) (n : Nat) (x : PuCore) : (d.setPu n x).sys = d.sys := rfl
@[simp] theorem Dev.cry_setPu (d : Dev) (n : Nat) (x : PuCore) : (d.setPu n x).cry = d.cry := rfl
@[simp] theorem Dev.fls_setPu (d : Dev) (n : Nat) (x : PuCore) : (d.setPu n x).fls = d.fls := rfl
@[simp] theorem Dev.bufOut_setPu (d : Dev) (n : Nat) (x : PuCore) : (d.setPu n x).bufOut = d.bufOut := rfl
@[simp] theorem Dev.hostHeld_setPu (d : Dev) (n : Nat) (x : PuCore) : (d.setPu n x).hostHeld = d.hostHeld := rfl
@[simp] theorem Dev.out_setPu (d : Dev) (n : Nat) (x : PuCore) : (d.setPu n x).out = d.out := rfl

@[simp] theorem Dev.now_setTask (d : Dev) (n : Nat) (x : Task) : (d.setTask n x).now = d.now := rfl
@[simp] theorem Dev.free_setTask (d : Dev) (n : Nat) (x : Task) : (d.setTask n x).free = d.free := rfl
@[simp] theorem Dev.od_setTask (d : Dev) (n : Nat) (x : Task) : (d.setTask n x).od = d.od := rfl
@[simp] theorem Dev.obj_setTask (d : Dev) (n : Nat) (x : Task) : (d.setTask n x).obj = d.obj := rfl
@[simp] theorem Dev.cmp_setTask (d : Dev) (n : Nat) (x : Task) : (d.setTask n x).cmp = d.cmp := rfl
@[simp] theorem Dev.lch_setTask (d : Dev) (n : Nat) (x : Task) : (d.setTask n x).lch = d.lch := rfl
@[simp] theorem Dev.que_setTask (d : Dev) (n : Nat) (x : Task) : (d.setTask n x).que = d.que := rfl
@[simp] theorem Dev.net_setTask (d : Dev) (n : Nat) (x : Task) : (d.setTask n x).net = d.net := rfl
@[simp] theorem Dev.fry_setTask (d : Dev) (n : Nat) (x : Task) : (d.setTask n x).fry = d.fry := rfl
@[simp] theorem Dev.hif_setTask (d : Dev) (n : Nat) (x : Task) : (d.setTask n x).hif = d.hif := rfl
@[simp] theorem Dev.flt_setTask (d : Dev) (n : Nat) (x : Task) : (d.setTask n x).flt = d.flt := rfl
@[simp] theorem Dev.per_setTask (d : Dev) (n : Nat) (x : Task) : (d.setTask n x).per = d.per := rfl
@[simp] theorem Dev.ctl_setTask (d : Dev) (n : Nat) (x : Task) : (d.setTask n x).ctl = d.ctl := rfl
@[simp] theorem Dev.pwr_setTask (d : Dev) (n : Nat) (x : Task) : (d.setTask n x).pwr = d.pwr := rfl
@[simp] theorem Dev.lan_setTask (d : Dev) (n : Nat) (x : Task) : (d.setTask n x).lan = d.lan := rfl
@[simp] theorem Dev.sys_setTask (d : Dev) (n : Nat) (x : Task) : (d.setTask n x).sys = d.sys := rfl
@[simp] theorem Dev.cry_setTask (d : Dev) (n : Nat) (x : Task) : (d.setTask n x).cry = d.cry := rfl
@[simp] theorem Dev.fls_setTask (d : Dev) (n : Nat) (x : Task) : (d.setTask n x).fls = d.fls := rfl
@[simp] theorem Dev.bufOut_setTask (d : Dev) (n : Nat) (x : Task) : (d.setTask n x).bufOut = d.bufOut := rfl
@[simp] theorem Dev.hostHeld_setTask (d : Dev) (n : Nat) (x : Task) : (d.setTask n x).hostHeld = d.hostHeld := rfl
@[simp] theorem Dev.out_setTask (d : Dev) (n : Nat) (x : Task) : (d.setTask n x).out = d.out := rfl

@[simp] theorem Dev.now_setAcu (d : Dev) (n : Nat) (x : Acu) : (d.setAcu n x).now = d.now := rfl
@[simp] theorem Dev.free_setAcu (d : Dev) (n : Nat) (x : Acu) : (d.setAcu n x).free = d.free := rfl
@[simp] theorem Dev.od_setAcu (d : Dev) (n : Nat) (x : Acu) : (d.setAcu n x).od = d.od := rfl
@[simp] theorem Dev.obj_setAcu (d : Dev) (n : Nat) (x : Acu) : (d.setAcu n x).obj = d.obj := rfl
@[simp] theorem Dev.cmp_setAcu (d : Dev) (n : Nat) (x : Acu) : (d.setAcu n x).cmp = d.cmp := rfl
@[simp] theorem Dev.lch_setAcu (d : Dev) (n : Nat) (x : Acu) : (d.setAcu n x).lch = d.lch := rfl
@[simp] theorem Dev.que_setAcu (d : Dev) (n : Nat) (x : Acu) : (d.setAcu n x).que = d.que := rfl
@[simp] theorem Dev.net_setAcu (d : Dev) (n : Nat) (x : Acu) : (d.setAcu n x).net = d.net := rfl
@[simp] theorem Dev.fry_setAcu (d : Dev) (n : Nat) (x : Acu) : (d.setAcu n x).fry = d.fry := rfl
@[simp] theorem Dev.hif_setAcu (d : Dev) (n : Nat) (x : Acu) : (d.setAcu n x).hif = d.hif := rfl
@[simp] theorem Dev.flt_setAcu (d : Dev) (n : Nat) (x : Acu) : (d.setAcu n x).flt = d.flt := rfl
@[simp] theorem Dev.per_setAcu (d : Dev) (n : Nat) (x : Acu) : (d.setAcu n x).per = d.per := rfl
@[simp] theorem Dev.ctl_setAcu (d : Dev) (n : Nat) (x : Acu) : (d.setAcu n x).ctl = d.ctl := rfl
@[simp] theorem Dev.pwr_setAcu (d : Dev) (n : Nat) (x : Acu) : (d.setAcu n x).pwr = d.pwr := rfl
@[simp] theorem Dev.lan_setAcu (d : Dev) (n : Nat) (x : Acu) : (d.setAcu n x).lan = d.lan := rfl
@[simp] theorem Dev.sys_setAcu (d : Dev) (n : Nat) (x : Acu) : (d.setAcu n x).sys = d.sys := rfl
@[simp] theorem Dev.cry_setAcu (d : Dev) (n : Nat) (x : Acu) : (d.setAcu n x).cry = d.cry := rfl
@[simp] theorem Dev.fls_setAcu (d : Dev) (n : Nat) (x : Acu) : (d.setAcu n x).fls = d.fls := rfl
@[simp] theorem Dev.bufOut_setAcu (d : Dev) (n : Nat) (x : Acu) : (d.setAcu n x).bufOut = d.bufOut := rfl
@[simp] theorem Dev.hostHeld_setAcu (d : Dev) (n : Nat) (x : Acu) : (d.setAcu n x).hostHeld = d.hostHeld := rfl
@[simp] theorem Dev.out_setAcu (d : Dev) (n : Nat) (x : Acu) : (d.setAcu n x).out = d.out := rfl

@[simp] theorem Dev.now_onFls (d : Dev) (f : Flash → Flash) : (d.onFls f).now = d.now := rfl
@[simp] theorem Dev.free_onFls (d : Dev) (f : Flash → Flash) : (d.onFls f).free = d.free := rfl
@[simp] theorem Dev.od_onFls (d : Dev) (f : Flash → Flash) : (d.onFls f).od = d.od := rfl
@[simp] theorem Dev.obj_onFls (d : Dev) (f : Flash → Flash) : (d.onFls f).obj = d.obj := rfl
@[simp] theorem Dev.cmp_onFls (d : Dev) (f : Flash → Flash) : (d.onFls f).cmp = d.cmp := rfl
@[simp] theorem Dev.lch_onFls (d : Dev) (f : Flash → Flash) : (d.onFls f).lch = d.lch := rfl
@[simp] theorem Dev.que_onFls (d : Dev) (f : Flash → Flash) : (d.onFls f).que = d.que := rfl
@[simp] theorem Dev.net_onFls (d : Dev) (f : Flash → Flash) : (d.onFls f).net = d.net := rfl
@[simp] theorem Dev.fry_onFls (d : Dev) (f : Flash → Flash) : (d.onFls f).fry = d.fry := rfl
@[simp] theorem Dev.hif_onFls (d : Dev) (f : Flash → Flash) : (d.onFls f).hif = d.hif := rfl
@[simp] theorem Dev.flt_onFls (d : Dev) (f : Flash → Flash) : (d.onFls f).flt = d.flt := rfl
@[simp] theorem Dev.per_onFls (d : Dev) (f : Flash → Flash) : (d.onFls f).per = d.per := rfl
@[simp] theorem Dev.ctl_onFls (d : Dev) (f : Flash → Flash) : (d.onFls f).ctl = d.ctl := rfl
@[simp] theorem Dev.pwr_onFls (d : Dev) (f : Flash → Flash) : (d.onFls f).pwr = d.pwr := rfl
@[simp] theorem Dev.lan_onFls (d : Dev) (f : Flash → Flash) : (d.onFls f).lan = d.lan := rfl
@[simp] theorem Dev.sys_onFls (d : Dev) (f : Flash → Flash) : (d.onFls f).sys = d.sys := rfl
@[simp] theorem Dev.cry_onFls (d : Dev) (f : Flash → Flash) : (d.onFls f).cry = d.cry := rfl
@[simp] theorem Dev.cpu_onFls (d : Dev) (f : Flash → Flash) : (d.onFls f).cpu = d.cpu := rfl
@[simp] theorem Dev.bufOut_onFls (d : Dev) (f : Flash → Flash) : (d.onFls f).bufOut = d.bufOut := rfl
@[simp] theorem Dev.hostHeld_onFls (d : Dev) (f : Flash → Flash) : (d.onFls f).hostHeld = d.hostHeld := rfl
@[simp] theorem Dev.out_onFls (d : Dev) (f : Flash → Flash) : (d.onFls f).out = d.out := rfl

@[simp] theorem Dev.now_onPort (d : Dev) (n : Nat) (g : Port → Port) : (d.onPort n g).now = d.now := rfl
@[simp] theorem Dev.free_onPort (d : Dev) (n : Nat) (g : Port → Port) : (d.onPort n g).free = d.free := rfl
@[simp] theorem Dev.od_onPort (d : Dev) (n : Nat) (g : Port → Port) : (d.onPort n g).od = d.od := rfl
@[simp] theorem Dev.obj_onPort (d : Dev) (n : Nat) (g : Port → Port) : (d.onPort n g).obj = d.obj := rfl
@[simp] theorem Dev.cmp_onPort (d : Dev) (n : Nat) (g : Port → Port) : (d.onPort n g).cmp = d.cmp := rfl
@[simp] theorem Dev.lch_onPort (d : Dev) (n : Nat) (g : Port → Port) : (d.onPort n g).lch = d.lch := rfl
@[simp] theorem Dev.que_onPort (d : Dev) (n : Nat) (g : Port → Port) : (d.onPort n g).que = d.que := rfl
@[simp] theorem Dev.fry_onPort (d : Dev) (n : Nat) (g : Port → Port) : (d.onPort n g).fry = d.fry := rfl
@[simp] theorem Dev.hif_onPort (d : Dev) (n : Nat) (g : Port → Port) : (d.onPort n g).hif = d.hif := rfl
@[simp] theorem Dev.flt_onPort (d : Dev) (n : Nat) (g : Port → Port) : (d.onPort n g).flt = d.flt := rfl
@[simp] theorem Dev.per_onPort (d : Dev) (n : Nat) (g : Port → Port) : (d.onPort n g).per = d.per := rfl
@[simp] theorem Dev.ctl_onPort (d : Dev) (n : Nat) (g : Port → Port) : (d.onPort n g).ctl = d.ctl := rfl
@[simp] theorem Dev.pwr_onPort (d : Dev) (n : Nat) (g : Port → Port) : (d.onPort n g).pwr = d.pwr := rfl
@[simp] theorem Dev.lan_onPort (d : Dev) (n : Nat) (g : Port → Port) : (d.onPort n g).lan = d.lan := rfl
@[simp] theorem Dev.sys_onPort (d : Dev) (n : Nat) (g : Port → Port) : (d.onPort n g).sys = d.sys := rfl
@[simp] theorem Dev.cry_onPort (d : Dev) (n : Nat) (g : Port → Port) : (d.onPort n g).cry = d.cry := rfl
@[simp] theorem Dev.cpu_onPort (d : Dev) (n : Nat) (g : Port → Port) : (d.onPort n g).cpu = d.cpu := rfl
@[simp] theorem Dev.fls_onPort (d : Dev) (n : Nat) (g : Port → Port) : (d.onPort n g).fls = d.fls := rfl
@[simp] theorem Dev.bufOut_onPort (d : Dev) (n : Nat) (g : Port → Port) : (d.onPort n g).bufOut = d.bufOut := rfl
@[simp] theorem Dev.hostHeld_onPort (d : Dev) (n : Nat) (g : Port → Port) : (d.onPort n g).hostHeld = d.hostHeld := rfl
@[simp] theorem Dev.out_onPort (d : Dev) (n : Nat) (g : Port → Port) : (d.onPort n g).out = d.out := rfl

/-! ## What a reader finds after an update -/

@[simp] theorem Dev.brg_setBrg (d : Dev) (n m : Nat) (x : Bearing) : (d.setBrg n x).brg m = if m = n then x else d.brg m := by
  simp [Dev.setBrg, Dev.brg]
@[simp] theorem Dev.pin_setPin (d : Dev) (n m : Nat) (x : Pin) : (d.setPin n x).pin m = if m = n then x else d.pin m := by
  simp [Dev.setPin, Dev.pin]
@[simp] theorem Dev.queue_setQueue (d : Dev) (n m : Nat) (x : Queue) : (d.setQueue n x).queue m = if m = n then x else d.queue m := by
  simp [Dev.setQueue, Dev.queue]
@[simp] theorem Dev.ses_setSes (d : Dev) (n m : Nat) (x : Session) : (d.setSes n x).ses m = if m = n then x else d.ses m := by
  simp [Dev.setSes, Dev.ses]
@[simp] theorem Dev.str_setStr (d : Dev) (n m : Nat) (x : Stream) : (d.setStr n x).str m = if m = n then x else d.str m := by
  simp [Dev.setStr, Dev.str]
@[simp] theorem Dev.fport_setFPort (d : Dev) (n m : Nat) (x : FerryPort) : (d.setFPort n x).fport m = if m = n then x else d.fport m := by
  simp [Dev.setFPort, Dev.fport]
@[simp] theorem Dev.lane_setLane (d : Dev) (n m : Nat) (x : LaneIo) : (d.setLane n x).lane m = if m = n then x else d.lane m := by
  simp [Dev.setLane, Dev.lane]
@[simp] theorem Dev.core_setCore (d : Dev) (n m : Nat) (x : CipherCore) : (d.setCore n x).core m = if m = n then x else d.core m := by
  simp [Dev.setCore, Dev.core]
@[simp] theorem Dev.hring_setHring (d : Dev) (n m : Nat) (x : HashRing) : (d.setHring n x).hring m = if m = n then x else d.hring m := by
  simp [Dev.setHring, Dev.hring]
@[simp] theorem Dev.dh_setDh (d : Dev) (n m : Nat) (x : DhCore) : (d.setDh n x).dh m = if m = n then x else d.dh m := by
  simp [Dev.setDh, Dev.dh]
@[simp] theorem Dev.pu_setPu (d : Dev) (n m : Nat) (x : PuCore) : (d.setPu n x).pu m = if m = n then x else d.pu m := by
  simp [Dev.setPu, Dev.pu]
@[simp] theorem Dev.task_setTask (d : Dev) (n m : Nat) (x : Task) : (d.setTask n x).task m = if m = n then x else d.task m := by
  simp [Dev.setTask, Dev.task]
@[simp] theorem Dev.acu_setAcu (d : Dev) (n m : Nat) (x : Acu) : (d.setAcu n x).acu m = if m = n then x else d.acu m := by
  simp [Dev.setAcu, Dev.acu]

@[simp] theorem Dev.brg_onBrg (d : Dev) (n m : Nat) (f : Bearing → Bearing) :
    (d.onBrg n f).brg m = if m = n then f (d.brg n) else d.brg m := by
  simp [Dev.onBrg]
@[simp] theorem Dev.pin_onPin (d : Dev) (n m : Nat) (f : Pin → Pin) :
    (d.onPin n f).pin m = if m = n then f (d.pin n) else d.pin m := by
  simp [Dev.onPin]
@[simp] theorem Dev.queue_onQueue (d : Dev) (n m : Nat) (f : Queue → Queue) :
    (d.onQueue n f).queue m = if m = n then f (d.queue n) else d.queue m := by
  simp [Dev.onQueue]
@[simp] theorem Dev.ses_onSes (d : Dev) (n m : Nat) (f : Session → Session) :
    (d.onSes n f).ses m = if m = n then f (d.ses n) else d.ses m := by
  simp [Dev.onSes]
@[simp] theorem Dev.str_onStr (d : Dev) (n m : Nat) (f : Stream → Stream) :
    (d.onStr n f).str m = if m = n then f (d.str n) else d.str m := by
  simp [Dev.onStr]
@[simp] theorem Dev.lane_onLane (d : Dev) (n m : Nat) (f : LaneIo → LaneIo) :
    (d.onLane n f).lane m = if m = n then f (d.lane n) else d.lane m := by
  simp [Dev.onLane]
@[simp] theorem Dev.task_onTask (d : Dev) (n m : Nat) (f : Task → Task) :
    (d.onTask n f).task m = if m = n then f (d.task n) else d.task m := by
  simp [Dev.onTask]
@[simp] theorem Dev.port_onPort (d : Dev) (n m : Nat) (f : Port → Port) :
    (d.onPort n f).port m = if m = n then f (d.port n) else d.port m := by
  simp [Dev.onPort, Dev.port]

end Sys2Proof.Machine
end

