-- ==== Sys2Proof/WellFormed.lean ====
section
/-!
DEFINITION. Which commands are well formed: operands within the widths that the spec gives the fields, registers and values
that they stand for. The sizes of enumerations and numbered units are in the operand types. A command that is not well formed
stands for nothing that can happen to the device.
-/
namespace Sys2Proof
open Sys2Proof.Machine

/-- What carried a frame: an EtherType or a UDP port of 16 bits (R167). -/
def Machine.RxCarrier.wf (c : RxCarrier) : Bool :=
  match c with
  | .ethernet e => decide (e < 65536)
  | .udp _ port _ _ _ => decide (port < 65536)

/-- A received frame: the widths of the fields of the base header (R181), and no more bytes than the largest MTU. -/
def Machine.RxFrame.wf (f : RxFrame) : Bool :=
  decide (f.port < 32) && f.carrier.wf && decide (f.version < 16) && decide (f.flags < 256) && decide (f.session < 2 ^ 24) &&
    decide (f.claim < 2 ^ 32) && decide (f.seq < 2 ^ 48) && decide (f.extLen < 256) && decide (f.length < 65536) && decide (f.zero < 65536) &&
    decide (f.body.length ≤ 9216)

/-- A frame of the set-up channel: the widths of its headers' fields (R174). -/
def Machine.Fragment.wf (f : Fragment) : Bool :=
  decide (f.port < 32) && f.carrier.wf && decide (f.mac.length = 6) && decide (f.ip.length = 16) && decide (f.version < 16) && decide (f.flags < 256) &&
    decide (f.claim < 2 ^ 32) && decide (f.seq < 2 ^ 48) && decide (f.extLen < 256) && decide (f.length < 65536) && decide (f.zero < 65536) &&
    decide (f.exchange < 2 ^ 32) && decide (f.index < 256) && decide (f.count < 256) && decide (f.reserved < 256) && decide (f.bytes.length ≤ 9216)

/-- A MGMT frame is a received frame (R261). -/
def Machine.OapSource.wf (o : OapSource) : Bool :=
  match o with
  | .mailbox => true
  | .frame f => f.wf

/-- Whether every operand of a command lies within its width. -/
def Instr.wellFormed (i : Instr) : Bool :=
  match i with
  | .bearingEdge _ _ _ width raw t => decide (0 ≤ width) && decide (0 ≤ raw) && decide (0 ≤ t)
  | .indexPulse _ width t => decide (0 ≤ width) && decide (0 ≤ t)
  | .ssiSample _ word _ edge t => decide (word < 2 ^ 40) && decide (0 ≤ edge) && decide (0 ≤ t)
  | .mainsCrossing _ _ _ peak before after t => decide (peak < 65536) && decide ((before ++ after).length = 8) && (before ++ after).all (fun e => decide (0 ≤ e.1)) && decide (0 ≤ t)
  | .wireFault _ t => decide (0 ≤ t)
  | .rateFault _ t => decide (0 ≤ t)
  | .edgeTimeout _ t => decide (0 ≤ t)
  | .coastExpired _ t => decide (0 ≤ t)
  | .bearingEnable _ t => decide (0 ≤ t)
  | .bearingDisable _ t => decide (0 ≤ t)
  | .bearingDrainDone _ t => decide (0 ≤ t)
  | .positionSet _ _ t => decide (0 ≤ t)
  | .calCapture _ t => decide (0 ≤ t)
  | .calCaptureDone _ at_ t => decide (0 ≤ at_) && decide (0 ≤ t)
  | .bearingPublish _ instant t => decide (0 ≤ instant) && decide (0 ≤ t)
  | .bearingFrameReceive f t => f.wf && decide (0 ≤ t)
  | .ferryBearingSample _ _ _ _ t => decide (0 ≤ t)
  | .launchCommit _ t => decide (0 ≤ t)
  | .frameSeal h t => decide (h ≤ 2 ^ 32) && decide (0 ≤ t)
  | .launchAction t => decide (0 ≤ t)
  | .pulseEnd _ t => decide (0 ≤ t)
  | .pinSense _ _ t => decide (0 ≤ t)
  | .release h t => decide (h ≤ 2 ^ 32) && decide (0 ≤ t)
  | .cancel h t => decide (h ≤ 2 ^ 32) && decide (0 ≤ t)
  | .pinEnable _ t => decide (0 ≤ t)
  | .pinDisable _ t => decide (0 ≤ t)
  | .pinDrainDone _ t => decide (0 ≤ t)
  | .pinRecalCheck _ t => decide (0 ≤ t)
  | .pinRecalDone _ _ _ _ t => decide (0 ≤ t)
  | .lchEntrySel h t => decide (h ≤ 2 ^ 32) && decide (0 ≤ t)
  | .overlayPrepare chip h _ t => decide (chip < 32) && decide (h ≤ 2 ^ 32) && decide (0 ≤ t)
  | .overlayAnswer chip h sender _ t => decide (chip < 32) && decide (h ≤ 2 ^ 32) && decide (sender ≤ 16) && decide (0 ≤ t)
  | .overlayDecide chip h t => decide (chip < 32) && decide (h ≤ 2 ^ 32) && decide (0 ≤ t)
  | .overlayDecisionReceive chip h _ t => decide (chip < 32) && decide (h ≤ 2 ^ 32) && decide (0 ≤ t)
  | .dbSub _ _ pos t => decide (pos < 131072) && decide (0 ≤ t)
  | .dbCpl _ _ pos t => decide (pos < 131072) && decide (0 ≤ t)
  | .itemAdmit _ desc body t => decide (desc.length = 64) && body.all (fun b => decide (b.length ≤ 16384)) && decide (0 ≤ t)
  | .mirrorAck n t => decide (n < 2 ^ 64) && decide (0 ≤ t)
  | .queueDispatch _ t => decide (0 ≤ t)
  | .itemExpiry _ seq t => decide (seq < 2 ^ 48) && decide (0 ≤ t)
  | .confirmTimeout _ seq t => decide (seq < 2 ^ 48) && decide (0 ≤ t)
  | .cancelSeq _ seq t => decide (seq < 2 ^ 48) && decide (0 ≤ t)
  | .queRingCfg _ v t => decide (v < 2 ^ 32) && decide (0 ≤ t)
  | .queueEnable _ t => decide (0 ≤ t)
  | .queueDisable _ t => decide (0 ≤ t)
  | .queueDrainDone _ t => decide (0 ≤ t)
  | .replicationTimeout t => decide (0 ≤ t)
  | .manifestScrub _ t => decide (0 ≤ t)
  | .warmReset _ t => decide (0 ≤ t)
  | .powerFail low _ t => decide (0 ≤ low) && decide (0 ≤ t)
  | .saveComplete t => decide (0 ≤ t)
  | .holdupOkFall t => decide (0 ≤ t)
  | .holdupOkRise t => decide (0 ≤ t)
  | .shutdown v t => decide (v < 256) && decide (0 ≤ t)
  | .saveAreaEraseDone _ t => decide (0 ≤ t)
  | .portEnable _ _ t => decide (0 ≤ t)
  | .portLink _ _ t => decide (0 ≤ t)
  | .timeSyncMessage m t => decide (m.port < 32) && decide (m.domain < 256) && decide (m.master.length = 6) && decide (0 ≤ m.interval) && decide (0 ≤ t)
  | .syncLoss t => decide (0 ≤ t)
  | .holdoverLimit t => decide (0 ≤ t)
  | .ppsOut t => decide (0 ≤ t)
  | .setupOpen f t => f.wf && decide (0 ≤ t)
  | .setupAnswer f t => f.wf && decide (0 ≤ t)
  | .setupConfirm f t => f.wf && decide (0 ≤ t)
  | .setupRefuse f t => f.wf && decide (0 ≤ t)
  | .setupTimeout t => decide (0 ≤ t)
  | .setupRetransmit _ t => decide (0 ≤ t)
  | .cmdReceive f t => f.wf && decide (0 ≤ t)
  | .ackReceive f t => f.wf && decide (0 ≤ t)
  | .nackReceive f t => f.wf && decide (0 ≤ t)
  | .dataReceive f t => f.wf && decide (0 ≤ t)
  | .streamReceive f t => f.wf && decide (0 ≤ t)
  | .safeReceive f t => f.wf && decide (0 ≤ t)
  | .heartbeatReceive f t => f.wf && decide (0 ≤ t)
  | .claimReceive f t => f.wf && decide (0 ≤ t)
  | .keyupdReceive f t => f.wf && decide (0 ≤ t)
  | .jqueryReceive f t => f.wf && decide (0 ≤ t)
  | .heartbeatSend _ t => decide (0 ≤ t)
  | .hbTimeout _ t => decide (0 ≤ t)
  | .retxTime _ seq t => decide (seq < 2 ^ 48) && decide (0 ≤ t)
  | .rekey _ t => decide (0 ≤ t)
  | .keyupdRetry _ t => decide (0 ≤ t)
  | .keyOverlap _ t => decide (0 ≤ t)
  | .rebaseStart _ t => decide (0 ≤ t)
  | .rebaseTimeout _ t => decide (0 ≤ t)
  | .safeSend _ t => decide (0 ≤ t)
  | .safeRepeat _ t => decide (0 ≤ t)
  | .reopen _ _ t => decide (0 ≤ t)
  | .sessionEnable _ _ t => decide (0 ≤ t)
  | .streamGap _ t => decide (0 ≤ t)
  | .epochClose _ t => decide (0 ≤ t)
  | .epochSealed _ t => decide (0 ≤ t)
  | .streamEnable _ _ t => decide (0 ≤ t)
  | .certRequest _ selector _ _ ref t => decide (selector < 256) && decide (ref.length = 32) && decide (0 ≤ t)
  | .certIssued _ t => decide (0 ≤ t)
  | .ferryPortEnable _ _ t => decide (0 ≤ t)
  | .ferryTrainingTimeout _ t => decide (0 ≤ t)
  | .ferryPortUp _ _ t => decide (0 ≤ t)
  | .ferryNak _ ack _ t => decide (ack < 65536) && decide (0 ≤ t)
  | .ferryIdle _ ack _ t => decide (ack < 65536) && decide (0 ≤ t)
  | .ferryIdleSend _ t => decide (0 ≤ t)
  | .ferryResendTimeout _ t => decide (0 ≤ t)
  | .ferryDown _ t => decide (0 ≤ t)
  | .ferryTimeSend _ t => decide (0 ≤ t)
  | .ferryTimeExchange _ _ t => decide (0 ≤ t)
  | .masterLost t => decide (0 ≤ t)
  | .twinHeartbeatSend t => decide (0 ≤ t)
  | .twinHeartbeatReceive _ t => decide (0 ≤ t)
  | .replRecord n _ t => decide (n < 2 ^ 64) && decide (0 ≤ t)
  | .replSessionState _ _ t => decide (0 ≤ t)
  | .replKeys _ k r t => decide (k.switch.getD 0 < 2 ^ 48) && decide (r.length = 0 ∨ r.length = 32) && decide (0 ≤ t)
  | .unjoin claim _reason t => decide (claim < 2 ^ 32) && decide (_reason < 256) && decide (0 ≤ t)
  | .resync block half _ t => decide (block < 65536) && decide (half < 2) && decide (0 ≤ t)
  | .takeover t => decide (0 ≤ t.t)
  | .mirrorStale t => decide (0 ≤ t)
  | .joinTime t => decide (0 ≤ t.t)
  | .yield t => decide (0 ≤ t)
  | .yieldReceive claim _ t => decide (claim < 2 ^ 32) && decide (0 ≤ t)
  | .yieldInstant t => decide (0 ≤ t.t)
  | .yieldFailed t => decide (0 ≤ t)
  | .isolationConfirm t => decide (0 ≤ t)
  | .peerDead t => decide (0 ≤ t)
  | .pierRetire _ _ _ fin t => decide (0 ≤ fin) && decide (0 ≤ t)
  | .oapRead src t => src.wf && decide (0 ≤ t)
  | .oapWrite src _ t => src.wf && decide (0 ≤ t)
  | .oapReadBlock src t => src.wf && decide (0 ≤ t)
  | .oapWriteBlock src _ t => src.wf && decide (0 ≤ t)
  | .oapSubscribe src t => src.wf && decide (0 ≤ t)
  | .oapAbort src t => src.wf && decide (0 ≤ t)
  | .activateStore src t => src.wf && decide (0 ≤ t)
  | .activateChartSwitch src t => src.wf && decide (0 ≤ t)
  | .activateDelete src t => src.wf && decide (0 ≤ t)
  | .chartSwitchInstant _ t => decide (0 ≤ t)
  | .notify req id t => decide (req ≤ 65552) && decide (id < 2 ^ 32) && decide (0 ≤ t)
  | .shadowExpiry t => decide (0 ≤ t)
  | .mbDoorbell _ request t => decide (request.length < 65536) && decide (0 ≤ t)
  | .mbResponse t => decide (0 ≤ t)
  | .flr _ _ t => decide (0 ≤ t)
  | .pcieLinkDown t => decide (0 ≤ t)
  | .pcieLinkUp _ _ t => decide (0 ≤ t)
  | .hostDmaError _ _ t => decide (0 ≤ t)
  | .vectorFire _ t => decide (0 ≤ t)
  | .vectorUnmask _ t => decide (0 ≤ t)
  | .evtPendingClear _ _ _ t => decide (0 ≤ t)
  | .evtRouteWrite _ _ _ _ t => decide (0 ≤ t)
  | .registerWrite _ _ _ t => decide (0 ≤ t)
  | .dhMov _ _ _ t => decide (0 ≤ t)
  | .dhAdd _ _ _ t => decide (0 ≤ t)
  | .dhSub _ _ _ t => decide (0 ≤ t)
  | .dhAdc _ _ _ t => decide (0 ≤ t)
  | .dhSbc _ _ _ t => decide (0 ≤ t)
  | .dhAnd _ _ _ t => decide (0 ≤ t)
  | .dhOr _ _ _ t => decide (0 ≤ t)
  | .dhXor _ _ _ t => decide (0 ≤ t)
  | .dhCmp _ _ _ t => decide (0 ≤ t)
  | .dhTst _ _ _ t => decide (0 ≤ t)
  | .dhLsl _ _ _ t => decide (0 ≤ t)
  | .dhLsr _ _ _ t => decide (0 ≤ t)
  | .dhAsr _ _ _ t => decide (0 ≤ t)
  | .dhRor _ _ _ t => decide (0 ≤ t)
  | .dhMulu _ _ _ t => decide (0 ≤ t)
  | .dhMuls _ _ _ t => decide (0 ≤ t)
  | .dhProductComplete _ t => decide (0 ≤ t)
  | .dhMovi _ _ _ l t => decide (l.length ≤ 2) && decide (0 ≤ t)
  | .dhAddi _ _ _ l t => decide (l.length ≤ 2) && decide (0 ≤ t)
  | .dhCmpi _ _ _ l t => decide (l.length ≤ 2) && decide (0 ≤ t)
  | .dhShi _ _ _ t => decide (0 ≤ t)
  | .dhBr _ _ l t => decide (l.length ≤ 2) && decide (0 ≤ t)
  | .dhCall _ _ l t => decide (l.length ≤ 2) && decide (0 ≤ t)
  | .dhJr _ _ t => decide (0 ≤ t)
  | .dhCallr _ _ t => decide (0 ≤ t)
  | .dhRet _ t => decide (0 ≤ t)
  | .dhTret _ t => decide (0 ≤ t)
  | .dhWait _ t => decide (0 ≤ t)
  | .dhNop _ t => decide (0 ≤ t)
  | .dhSkcc _ _ t => decide (0 ≤ t)
  | .dhLoop _ _ _ l t => decide (l.length ≤ 2) && decide (0 ≤ t)
  | .dhLdb _ _ _ l t => decide (l.length ≤ 2) && decide (0 ≤ t)
  | .dhLdh _ _ _ l t => decide (l.length ≤ 2) && decide (0 ≤ t)
  | .dhLdw _ _ _ l t => decide (l.length ≤ 2) && decide (0 ≤ t)
  | .dhStb _ _ _ l _ t => decide (l.length ≤ 2) && decide (0 ≤ t)
  | .dhSth _ _ _ l _ t => decide (l.length ≤ 2) && decide (0 ≤ t)
  | .dhStw _ _ _ l _ t => decide (l.length ≤ 2) && decide (0 ≤ t)
  | .dhMfs _ _ _ t => decide (0 ≤ t)
  | .dhMts _ _ _ _ t => decide (0 ≤ t)
  | .dhRdfeat _ _ _ t => decide (0 ≤ t)
  | .dhBsw16 _ _ t => decide (0 ≤ t)
  | .dhBsw32 _ _ t => decide (0 ≤ t)
  | .dhMovs _ upTo t => upTo.all (fun n => decide (n < 2 ^ 32)) && decide (0 ≤ t)
  | .dhFils _ _ upTo t => upTo.all (fun n => decide (n < 2 ^ 32)) && decide (0 ≤ t)
  | .dhCmps _ upTo t => upTo.all (fun n => decide (n < 2 ^ 32)) && decide (0 ≤ t)
  | .dhScns _ _ upTo t => upTo.all (fun n => decide (n < 2 ^ 32)) && decide (0 ≤ t)
  | .dhCrcs _ _ upTo t => upTo.all (fun n => decide (n < 2 ^ 32)) && decide (0 ≤ t)
  | .dhSums _ _ upTo t => upTo.all (fun n => decide (n < 2 ^ 32)) && decide (0 ≤ t)
  | .dhSnap _ _ t => decide (0 ≤ t)
  | .dhFence _ _ t => decide (0 ≤ t)
  | .qpost _ _ _ t => decide (0 ≤ t)
  | .lpost _ _ _ t => decide (0 ≤ t)
  | .qtake _ _ _ t => decide (0 ≤ t)
  | .qconf _ _ _ t => decide (0 ≤ t)
  | .qrej _ _ _ t => decide (0 ≤ t)
  | .ftake _ _ _ t => decide (0 ≤ t)
  | .fdone _ _ _ t => decide (0 ≤ t)
  | .ffwd _ _ _ t => decide (0 ≤ t)
  | .bvrd _ _ _ t => decide (0 ≤ t)
  | .clock _ _ _ t => decide (0 ≤ t)
  | .cfree _ _ _ t => decide (0 ≤ t)
  | .levt _ _ _ t => decide (0 ≤ t)
  | .wdog _ _ t => decide (0 ≤ t)
  | .laneWatchdog _ t => decide (0 ≤ t)
  | .pairedLaneLag _ lag t => decide (lag ≤ 64) && decide (0 ≤ t)
  | .laneEnable _ _ t => decide (0 ≤ t)
  | .laneStop _ t => decide (0 ≤ t)
  | .dhEventException _ t => decide (0 ≤ t)
  | .impreciseNotice _ _ t => decide (0 ≤ t)
  | .acuImpreciseClear _ t => decide (0 ≤ t)
  | .acuRgnAttr _ _ _ t => decide (0 ≤ t)
  | .puNop _ t => decide (0 ≤ t)
  | .puTret _ t => decide (0 ≤ t)
  | .puWait _ t => decide (0 ≤ t)
  | .puFence _ t => decide (0 ≤ t)
  | .puTsw _ _ t => decide (0 ≤ t)
  | .puSnap _ _ t => decide (0 ≤ t)
  | .puMov _ _ _ _ t => decide (0 ≤ t)
  | .puAdd _ _ _ _ t => decide (0 ≤ t)
  | .puSub _ _ _ _ t => decide (0 ≤ t)
  | .puAdc _ _ _ _ t => decide (0 ≤ t)
  | .puSbc _ _ _ _ t => decide (0 ≤ t)
  | .puAnd _ _ _ _ t => decide (0 ≤ t)
  | .puOr _ _ _ _ t => decide (0 ≤ t)
  | .puXor _ _ _ _ t => decide (0 ≤ t)
  | .puCmp _ _ _ _ t => decide (0 ≤ t)
  | .puTst _ _ _ _ t => decide (0 ≤ t)
  | .puLsl _ _ _ _ t => decide (0 ≤ t)
  | .puLsr _ _ _ _ t => decide (0 ≤ t)
  | .puAsr _ _ _ _ t => decide (0 ≤ t)
  | .puRor _ _ _ _ t => decide (0 ≤ t)
  | .puMulu _ _ _ _ t => decide (0 ≤ t)
  | .puMuls _ _ _ _ t => decide (0 ≤ t)
  | .puProductComplete _ t => decide (0 ≤ t)
  | .puMovi _ _ _ _ t => decide (0 ≤ t)
  | .puAddi _ _ _ _ t => decide (0 ≤ t)
  | .puSubi _ _ _ _ t => decide (0 ≤ t)
  | .puAndi _ _ _ _ t => decide (0 ≤ t)
  | .puOri _ _ _ _ t => decide (0 ≤ t)
  | .puXori _ _ _ _ t => decide (0 ≤ t)
  | .puCmpi _ _ _ _ t => decide (0 ≤ t)
  | .puTsti _ _ _ _ t => decide (0 ≤ t)
  | .puLsli _ _ _ _ t => decide (0 ≤ t)
  | .puLsri _ _ _ _ t => decide (0 ≤ t)
  | .puAsri _ _ _ _ t => decide (0 ≤ t)
  | .puRori _ _ _ _ t => decide (0 ≤ t)
  | .puNeg _ _ _ t => decide (0 ≤ t)
  | .puNot _ _ _ t => decide (0 ≤ t)
  | .puLd _ _ _ _ _ _ t => decide (0 ≤ t)
  | .puLds _ _ _ _ _ _ t => decide (0 ≤ t)
  | .puSt _ _ _ _ _ _ t => decide (0 ≤ t)
  | .puLea _ _ _ _ _ t => decide (0 ≤ t)
  | .puMadd _ _ _ _ _ _ t => decide (0 ≤ t)
  | .puMand _ _ _ _ _ _ t => decide (0 ≤ t)
  | .puMor _ _ _ _ _ _ t => decide (0 ≤ t)
  | .puMxor _ _ _ _ _ _ t => decide (0 ≤ t)
  | .puXchg _ _ _ _ _ _ t => decide (0 ≤ t)
  | .puCas _ _ _ _ _ _ t => decide (0 ≤ t)
  | .puBr _ _ _ t => decide (0 ≤ t)
  | .puCall _ _ _ _ t => decide (0 ≤ t)
  | .puJr _ _ _ t => decide (0 ≤ t)
  | .puCallr _ _ _ _ t => decide (0 ≤ t)
  | .puRet _ _ _ t => decide (0 ≤ t)
  | .puPush _ _ _ t => decide (0 ≤ t)
  | .puPop _ _ _ t => decide (0 ≤ t)
  | .puSkcc _ _ _ t => decide (0 ≤ t)
  | .puMfs _ _ _ _ t => decide (0 ≤ t)
  | .puMts _ _ _ t => decide (0 ≤ t)
  | .puMovs _ _ _ t => decide (0 ≤ t)
  | .puFils _ _ t => decide (0 ≤ t)
  | .puCmps _ _ t => decide (0 ≤ t)
  | .puScns _ _ t => decide (0 ≤ t)
  | .puCrcs _ _ _ t => decide (0 ≤ t)
  | .puRnd _ _ t => decide (0 ≤ t)
  | .puBswap _ _ _ t => decide (0 ≤ t)
  | .puClz _ _ _ _ t => decide (0 ≤ t)
  | .puPopc _ _ _ _ t => decide (0 ≤ t)
  | .puSelz _ _ _ _ t => decide (0 ≤ t)
  | .puSext _ _ _ _ t => decide (0 ≤ t)
  | .puZext _ _ _ _ t => decide (0 ≤ t)
  | .puInterrupt _ _ t => decide (0 ≤ t)
  | .svcYield _ t => decide (0 ≤ t)
  | .svcExit _ t => decide (0 ≤ t)
  | .svcWait _ t => decide (0 ≤ t)
  | .svcWaitTimeout _ t => decide (0 ≤ t)
  | .svcOap _ _ t => decide (0 ≤ t)
  | .signalLane _ t => decide (0 ≤ t)
  | .taskEvent _ t => decide (0 ≤ t)
  | .svcRandom _ t => decide (0 ≤ t)
  | .taskEnable _ _ t => decide (0 ≤ t)
  | .taskSlice _ _ t => decide (0 ≤ t)
  | .cipLock _ _ t => decide (0 ≤ t)
  | .cipKeyh _ user _ t => decide (user < 2 ^ 16) && decide (0 ≤ t)
  | .cipKeyLoaded _ t => decide (0 ≤ t)
  | .cipGcmSeal _ user _ t => decide (user < 2 ^ 16) && decide (0 ≤ t)
  | .cipGcmOpen _ user _ t => decide (user < 2 ^ 16) && decide (0 ≤ t)
  | .cipCtr _ user _ t => decide (user < 2 ^ 16) && decide (0 ≤ t)
  | .cipCmacGen _ user _ t => decide (user < 2 ^ 16) && decide (0 ≤ t)
  | .cipCmacVerify _ user _ t => decide (user < 2 ^ 16) && decide (0 ≤ t)
  | .cipherJobDone _ blocks _ t => decide (blocks < 2 ^ 20) && decide (0 ≤ t)
  | .cipherSelftest _ _ t => decide (0 ≤ t)
  | .cipherLockHeld _ t => decide (0 ≤ t)
  | .cipherEnable _ _ t => decide (0 ≤ t)
  | .hshJqTail _ _ t => decide (0 ≤ t)
  | .hshCqHead _ _ t => decide (0 ≤ t)
  | .hshRingCfg _ _ _ t => decide (0 ≤ t)
  | .hashSha256 _ _ t => decide (0 ≤ t)
  | .hashHmac _ _ t => decide (0 ≤ t)
  | .hkdfExtract _ _ t => decide (0 ≤ t)
  | .hkdfExpand _ _ t => decide (0 ≤ t)
  | .slhSign _ _ _ t => decide (0 ≤ t)
  | .slhVerify _ _ _ t => decide (0 ≤ t)
  | .hashJobDone i t => decide (i < 48) && decide (0 ≤ t)
  | .hashSelftest _ _ t => decide (0 ≤ t)
  | .bgnLock _ t => decide (0 ≤ t)
  | .bgnSlot user _ _ t => decide (user < 2 ^ 16) && decide (0 ≤ t)
  | .bgnAdd t => decide (0 ≤ t)
  | .bgnSub t => decide (0 ≤ t)
  | .bgnMul t => decide (0 ≤ t)
  | .toMont t => decide (0 ≤ t)
  | .fromMont t => decide (0 ≤ t)
  | .bgnInv t => decide (0 ≤ t)
  | .bgnExp t => decide (0 ≤ t)
  | .expBlind t => decide (0 ≤ t)
  | .bgnCopy t => decide (0 ≤ t)
  | .setMod t => decide (0 ≤ t)
  | .bgnRandom t => decide (0 ≤ t)
  | .loadKey t => decide (0 ≤ t)
  | .storeKey t => decide (0 ≤ t)
  | .bnJob req t => decide (req.length ≤ 1540) && decide (0 ≤ t)
  | .bnJobDone t => decide (0 ≤ t)
  | .rngSeedReady t => decide (0 ≤ t)
  | .rngHealthFail _ _ t => decide (0 ≤ t)
  | .rngGroupRetest _ _ t => decide (0 ≤ t)
  | .rngClientReseed _ t => decide (0 ≤ t)
  | .keyGenerate req t => decide (req.length = 20) && decide (0 ≤ t)
  | .keyImport req t => decide (req.length = 84) && decide (0 ≤ t)
  | .keyRestrict req t => decide (req.length = 20) && decide (0 ≤ t)
  | .keyDestroy i t => decide (i < 65536) && decide (0 ≤ t)
  | .lcNonce _ t => decide (0 ≤ t)
  | .nonceExpiry t => decide (0 ≤ t)
  | .lcTransition req _ _ t => decide (req.length ≤ 40720) && decide (0 ≤ t)
  | .lcTransitionReset _ t => decide (0 ≤ t)
  | .lcAnchors req _ t => decide (req.length ≤ 40720) && decide (0 ≤ t)
  | .lcChain req _ t => decide (req.length ≤ 40720) && decide (0 ≤ t)
  | .dbgAuth req _ t => decide (req.length ≤ 40720) && decide (0 ≤ t)
  | .debugExpiry t => decide (0 ≤ t)
  | .bypass _ t => decide (0 ≤ t)
  | .idcode t => decide (0 ≤ t)
  | .samplePreload bits captured load t => decide (bits ≤ 4096) && decide (captured < 2 ^ bits) && decide (load < 2 ^ bits) && decide (0 ≤ t)
  | .extest bits captured load t => decide (bits ≤ 4096) && decide (captured < 2 ^ bits) && decide (load < 2 ^ bits) && decide (0 ≤ t)
  | .birthCert cert _ t => decide (cert.length = 4096) && decide (0 ≤ t)
  | .attestChallenge c t => decide (c.length = 32) && decide (0 ≤ t)
  | .attestDone t => decide (0 ≤ t)
  | .releaseHold v t => decide (v < 256) && decide (0 ≤ t)
  | .releaseSafe v t => decide (v < 256) && decide (0 ≤ t)
  | .fcuFaultn _ t => decide (0 ≤ t)
  | .fcuActive _ _ t => decide (0 ≤ t)
  | .mergeWindow src t => decide (src < 2 ^ 21) && decide (0 ≤ t)
  | .faultnMinLow t => decide (0 ≤ t)
  | .extFault _ t => decide (0 ≤ t)
  | .supplyGlitch _ _ width t => decide (0 ≤ width) && decide (0 ≤ t)
  | .slowSupply _ len t => decide (0 ≤ len) && decide (0 ≤ t)
  | .clockGlitch t => decide (0 ≤ t)
  | .refclkLoss gap t => decide (0 ≤ gap) && decide (0 ≤ t)
  | .temperatureHigh t => decide (0 ≤ t)
  | .temperatureLow t => decide (0 ≤ t)
  | .shieldEvent _ _ t => decide (0 ≤ t)
  | .monitorArm _ t => decide (0 ≤ t)
  | .clsEnable _ t => decide (0 ≤ t)
  | .clsPing _ _ _ t => decide (0 ≤ t)
  | .clsPoll _ unread _ _ _ t => decide (unread < 65536) && decide (0 ≤ t)
  | .rfGrant _ _ _ t => decide (0 ≤ t)
  | .rfStarved t => decide (0 ≤ t)
  | .presenceCheck _ _ _ t => decide (0 ≤ t)
  | .cardArrived _ _ t => decide (0 ≤ t)
  | .tagGetInfo inf t => decide (inf.length ≤ 256) && decide (0 ≤ t)
  | .tagRead fields t => decide (fields.length ≤ 256) && decide (0 ≤ t)
  | .tagWrite _ _ data mac _ t => decide (data.length = 64) && decide (mac.length = 8) && decide (0 ≤ t)
  | .tagFieldLoss _ t => decide (0 ≤ t)
  | .vharvRecover t => decide (0 ≤ t)
  | .tagPage _ data t => decide (data.length = 64) && decide (0 ≤ t)
  | .cardDetect _ t => decide (0 ≤ t)
  | .cardRemoved _ t => decide (0 ≤ t)
  | .atrReceive _ atr t => atr.all (fun b => decide (b.length ≤ 33)) && decide (0 ≤ t)
  | .atrTimeout _ t => decide (0 ≤ t)
  | .ppsAnswer _ ans t => ans.all (fun b => decide (b.length ≤ 6)) && decide (0 ≤ t)
  | .t1BlockReceive _ blk t => blk.all (fun b => decide (b.length ≤ 259)) && decide (0 ≤ t)
  | .bwtTimeout _ t => decide (0 ≤ t)
  | .kolzelSelect _ resp t => decide (resp.length ≤ 4096) && decide (0 ≤ t)
  | .kolzelIdentify _ resp t => decide (resp.length ≤ 4096) && decide (0 ≤ t)
  | .kolzelAuthenticate _ resp _ t => decide (resp.length ≤ 4096) && decide (0 ≤ t)
  | .recordGrant _ resp _ t => decide (resp.length ≤ 4096) && decide (0 ≤ t)
  | .journalQuery _ resp _ t => decide (resp.length ≤ 4096) && decide (0 ≤ t)
  | .opiChange _ _ _ _ t => decide (0 ≤ t)
  | .discTime _ t => decide (0 ≤ t)
  | .permitRequest rule _ t => decide (rule < 65536) && decide (0 ≤ t)
  | .revoke _ _ t => decide (0 ≤ t)
  | .clearInDoubt _ t => decide (0 ≤ t)
  | .permitExpiry n t => decide (n < 2 ^ 32) && decide (0 ≤ t)
  | .flashEraseRoundDone _ _ t => decide (0 ≤ t)
  | .flashScrub _ _ t => decide (0 ≤ t)
  | .dataWrite c off b _ t => decide (c < 65536) && decide (off < 2 ^ 32) && decide (b.length ≤ 16384) && decide (0 ≤ t)
  | .eraseSector c pulses _ t => decide (c < 65536) && decide (pulses < 65536) && decide (0 ≤ t)
  | .setPassword r b t => decide (r < 65536) && decide (b.length = 32) && decide (0 ≤ t)
  | .unlockRegion r p t => decide (r < 65536) && decide (p.length = 16) && decide (0 ≤ t)
  | .lockRegion r v t => decide (r < 65536) && decide (v < 256) && decide (0 ≤ t)
  | .passwordLockoutEnd _ t => decide (0 ≤ t)
  | .flsWearSel _ t => decide (0 ≤ t)
  | .powerEpoch _ t => decide (0 ≤ t)
  | .demandSend t => decide (0 ≤ t)
  | .demandReceive _ _ t => decide (0 ≤ t)
  | .shareSet _ t => decide (0 ≤ t)
  | .shareStale t => decide (0 ≤ t)
  | .modelsMeasured t => decide (0 ≤ t)
  | .powerOn t => decide (0 ≤ t)
  | .resetNAssert low t => decide (0 ≤ low) && decide (0 ≤ t)
  | .resetNRelease _ t => decide (0 ≤ t)
  | .startComplete t => decide (0 ≤ t)
  | .restart v _ t => decide (v < 256) && decide (0 ≤ t)
  | .lateTolPassed h t => decide (h ≤ 2 ^ 32) && decide (0 ≤ t)
  | .vddAonLoss t => decide (0 ≤ t)
  | .certificateExpiry _ t => decide (0 ≤ t)
  | .bothPathsSilent t => decide (0 ≤ t)
  | .heartbeatPathLost _ t => decide (0 ≤ t)
  | .dhIllegalOpcode _ _ _ t => decide (0 ≤ t)
  | .puIllegalOpcode _ _ _ t => decide (0 ≤ t)
  | .fetchFault _ t => decide (0 ≤ t)
  | .svcOtherCode _ _ t => decide (0 ≤ t)
  | .tagActivation t => decide (0 ≤ t)
  | .fwtTimeout _ _ _ t => decide (0 ≤ t)
  | .cardOvercurrent _ t => decide (0 ≤ t)
  | .ppsIn stamp t => decide (0 ≤ stamp) && decide (0 ≤ t)
  | .d3hot _ t => decide (0 ≤ t)
  | .replicatedWrite _ _ t => decide (0 ≤ t)

end Sys2Proof
end

