-- ==== Sys2Proof/Tests/Slice0.lean ====
section
/-!
SUPPORT. Tests of the model's own: well-formedness refusals, worked values of the spec, and for every statement with hypotheses a
concrete state and operands that meet them.
-/
set_option maxRecDepth 4000
namespace Sys2Proof.Machine

/-! ## States the witnesses stand in -/

def wit (f : Dev → Dev) : State := { dev := f { ({} : Dev) with sys.phase := .running, net.ports := [(0, { up := true }), (1, { up := true })] } }

def wTrk : TrkCfg := { order := 1, n := 8, acqM := 4, vmin := 0, vmax := 0, gate := 2, k := 1, floor := 0, uSrc := 0, uEnv := 0, count := 1, widen := 0 }
def wTracking : Bearing :=
  { state := .tracking, fit := some { t0 := 0, x0 := 0, c0 := 0, c1 := 1, c2 := 0, s2 := 0, m := 3, quad := false, p1 := 0, p2 := 0, p3 := 0, p4 := 0 },
    newest := some { t := 0, x := 0 } }
def wKeys : SessionKeys := { gen := 0, k := List.replicate 32 7, u := [] }
def wSession (x : Session) : State := wit (fun d => ({ d with net.sessions := [(5, { x with state := .opened, keys := some wKeys })] }).set Od.ses_SESSION_ID 5 77)
def wFrame : RxFrame := { port := 1, arrival := 0, crcOk := true, carrier := .ethernet 0x88B5, version := 1, flags := 0, session := 77, claim := 0, seq := 3, extLen := 0, length := 0, zero := 0, body := [] }
/-- A frame with a payload of `n` bytes: ciphertext and tag. -/
def sealedAs (n : Nat) (body : Bytes) : RxFrame := { wFrame with length := n, body := body }
def wImage : EntryImage :=
  { trig := .time, dir := .rise, brg := 0, target := .pin 3 .set false 0, late := .launch, unc := .flagged, acq := .edge, tte := false, armed := true,
    trigger := 0, early := 0, lateTol := 0 }
def wEntry : Entry := { item := 7, image := wImage, raw := [] }
def wItem : Item := { queue := 3, seq := 1, kind := .command, source := .host, cseq := 0 }
def wFrag : Fragment := { port := 1, crcOk := true, carrier := .ethernet 0x88B5, mac := List.replicate 6 0, ip := List.replicate 16 0, version := 1, flags := 0x40, claim := 0, seq := 0, extLen := 0, length := 9, zero := 0, exchange := 9, index := 0, count := 1, reserved := 0, bytes := [1] }
def wUpd : KeyUpdate := { gen := 0, switch := 0, rebase := false, attempts := 1, sentAt := 0, startedAt := 0 }
def wSetup : Setup := { exchange := 9, fresh := true, initiator := true, expect := 2, openMsg := [], answerMsg := [], z := [], ni := [], nr := [], sentMsg := 1, sent := [1], startedAt := 0, lastSent := 0 }
def wMail (op : Nat) (n : Nat) (body : Bytes) : State := wit (fun d => { d.set Od.mbx_MAILBOX_ROLE 0 3 with
  hif.mbox := { busy := true, request := [1, BitVec.ofNat 8 op, 0, 0, 7, 0, 0, 0, 0, 0, BitVec.ofNat 8 n, 0] ++ toLe 4 body.length ++ body } })
def wLane (f : DhCore → DhCore) : State := wit (fun d =>
  ({ d with lan := [(3, { state := .running, code := List.replicate 20 0 })] }).setDh 3 (f {}))
def wLaneMem (f : DhCore → DhCore) : State := wit (fun d =>
  ({ d with lan := [(3, { state := .running, code := List.replicate 20 0 })],
            cpu.acu := [(d.laneMaster 3, { regions := [(0, { base := 0, limit := 0x07FFFFE0, hi := 0, attr := 7 })] })] }).setDh 3 (f {}))
/-- The lane's program starts with these words. -/
def coded (w : List DhWord) (s : State) : State := s.onDev (fun d => d.onLane 3 (fun x => { x with code := w ++ List.replicate 20 0 }))
/-- The task's next instruction is SVC k. -/
def served (k : Byte) (s : State) : State := { s with mem := memWrite s.mem 0x0300000100 [4, k] }
def wSlot (b : Bool) : InboxSlot := { item := 9, queue := 4, seq := 1, bytes := [], turn := 0, taken := b }
def wRec (b : Bool) : FrameRec := { offset := 0x40, bytes := List.replicate 36 0, arrival := 0, type := 2, taken := b, hasTime := false }
def wG (a b : Word32) : DhCore := { g := ((Vector.replicate 16 0).set 2 a).set 3 b }
def wPost (target : Int) : State := { wit (fun d =>
  let d1 : Dev := { d with lan := [(3, { state := .running, code := List.replicate 20 0 })], que.man.accepting := true, que.man.holdupOk := true, cpu.acu := [(d.laneMaster 3, { regions := [(0, { base := 0, limit := 0x07FFFFE0, hi := 0, attr := 7 })] })] }
  ((((d1.setDh 3 (wG 4 0x100)).setQueue 4 { state := .on }).set Od.que_SOURCES 4 4).set Od.que_TARGET 4 target).set Od.que_CONVOY 4 0xFFFF) with
  mem := [(laneMem 3 + 0x100, 1), (laneMem 3 + 0x102, 1), (laneMem 3 + 0x110, 1)] }
def wPu (f : PuCore → PuCore) : State := wit (fun d =>
  ({ d with cpu.acu := [(136, { regions := [(0, { base := 0, limit := 0xFFFFFFE0, hi := 0xFF00, attr := 15 })] })] }).setPu 0 (f { pc := 0x0300000100 }))
def wRng : State := { wPu id with dev.cry.rng.state := .ok }
def wTask (f : Task → Task) : State := { wPu (fun c => { c with running := some 2 }) with
  dev.cpu.tasks := [(2, f { state := .running, tsb := 0x0300005000 })], dev.cry.rng.state := .ok }
def wTaskX (a b : Word64) : State := { wPu (fun c => { c with running := some 2, x := (c.x.set 0 a).set 1 b }) with
  dev.cpu.tasks := [(2, { state := .running, tsb := 0x0300005000 })], dev.cry.rng.state := .ok }
def wPuMem : State := wPu (fun c => { c with x := c.x.set 3 0x0300000200 })
def wPuCas : State := wPu (fun c => { c with x := (c.x.set 3 0x0300000200).set 0 7 })
def wPuTsw (b : Bool) : State := wPu (fun c => { c with x := c.x.set 2 0x0300001000, handler := b, tsbp := 0x0300002000 })
def wPuBlock : State := wPu (fun c => { c with x := (((c.x.set 12 2).set 13 0x0300000200).set 14 0x0300000300).set 0 7 })
def wKeywin : State := { wPu (fun c => { c with x := ((c.x.set 12 2).set 13 0x0300000200).set 14 0, kwin := 0x1003 }) with
  dev.cry.keys.slots := [(3, { full := true, key := List.replicate 32 0, policy := List.replicate 32 255 })], dev.cry.lcy.state := .operational }
def wLanes : State := { wTaskX 5 0 with dev := (wTaskX 5 0).dev.setAt Od.tsk_LANES 0 2 5 }
def wTaskOap : State := { wPu (fun c => { c with running := some 2, x := (((c.x.set 0 0x0300003000).set 1 20).set 2 0x0300004000).set 3 64 }) with
  dev.cpu.tasks := [(2, { state := .running, tsb := 0x0300005000 })]
  mem := [(0x0300003000, 1), (0x0300003001, 7), (0x030000300C, 4)] }
def wStart : State := wit (fun d => { d.setOct Od.tsk_IMAGE_DIGEST 2 [1] with
  obj.customer := [{ kind := 4, flags := 0, keyId := 0, secVersion := 0, imgVersion := 0, set := 0, layer := 0, base := [], digest := [1], units := none, records := [], body := [] }] })
def wTaskSig : State := { wTaskX 2 0 with dev.cpu.tasks := [(2, { state := .running, tsb := 0x0300005000, signalled := 2 })] }
def wCipher : State := wit (fun d => ({ d with cry.lcy.state := .operational, cry.keys.slots := [(3, { full := true, key := List.replicate 16 0, policy := [1, 255, 255, 255, 255, 0, 16, 0, 255, 255, 255, 255, 255] })] }).setCore 3
  { user := 0xFFF, loading := some 3 })
def wCipherIdle : State := wit (fun d => d.setCore 3 { user := 0xFFF })
def wCipherRun : State := wit (fun d => d.setCore 3 { user := 0xFFF, busy := true, job := some { mode := 3, key256 := false, ctrWidth := 0, ivAuto := false, tagLen := 16, aadAddr := 0, aadLen := 0, src := 0, dst := 0, len := 0, tagAddr := 0, iv := [] } })
def wHash : State := wit (fun d => ({ d with cry.lcy.state := .operational, cry.keys.slots := [(3, { full := true, key := List.replicate 16 0, policy := [1, 255, 255, 255, 255, 0, 16, 0, 255, 255, 255, 255, 255] })] }.setHring 7
  { valid := true, jobTail := 1 }).set Od.hif_WINDOW_SIZE 0 0x100000)
def wHashF (op param fl keyh out key : Nat) : HashFetch := {
  desc := ([BitVec.ofNat 8 op, BitVec.ofNat 8 param, BitVec.ofNat 8 fl, 0] ++ toLe 4 keyh ++ List.replicate 12 0 ++ toLe 4 key ++ List.replicate 16 0 ++ toLe 4 out ++ List.replicate 20 0 : Bytes)
  input := some [], aux := some (List.replicate 32 0), pk := some [] }
def wBgn (op : Nat) : State := wit (fun d => { d with cry.rng.state := .ok, cry.bgn := { user := 0x100, slots := [(0, 0x10000), (1, 0x10001), (2, 0x10002), (3, 0x10003), (4, 0x10004)], mem := [(95, 3), (159, 5), (223, 7)], cache := [(3, 7)], queue := [{ op := op, dst := 0, a := 1, b := 2, m := 3, arg := 4 }] } })
def wBgnKey (op : Nat) : State := wit (fun d => { d with cry.lcy.state := .operational, cry.keys.slots := [(3, { full := true, key := List.replicate 32 0, policy := [1, 255, 255, 255, 255, 0, 16, 0, 255, 255, 255, 255, 255] })], cry.bgn := { user := 0x100, slots := [(0, 0x18000), (1, 0x18001)], queue := [{ op := op, dst := 0, a := 1, b := 2, m := 3, arg := 3 }] } })
def wArmed : State := wit (fun d => { d with flt.armed := true })
def wAttest (n : Nat) : State := wit (fun d => { d with cry.lcy.attest := n, cry.lcy.state := .operational, cry.keys.slots := [(1, { full := true, key := List.replicate 16 0, policy := [1, 255, 255, 255, 255, 0, 16, 0, 255, 255, 255, 255, 255] })] })
def wReader : State := wit (fun d => { d with ctl.rd.on := true })
def wReaderF : State := wit (fun d => { d with ctl.rd.on := true, ctl.rd.field := true, ctl.rd.valid := true })
def wReaderW : State := wit (fun d => { d with ctl.rd.on := true, ctl.rd.waiting := some (.ping, 0) })
def wBadge (x : Dialogue) : State := wit (fun d => { d with ctl.rd.cids := [(1, { state := .credential, dlg := x })] })
def wHolder : CardHolder := { cardId := [7], name := [1], role := 3, chain := [], at_ := 0 }
def wTag : State := { dev := { ({} : Dev) with ctl.tag.active := true } }
def wTagLow : State := { dev := { ({} : Dev) with ctl.tag.active := true, ctl.tag.low := true } }
def wTagW : State := { dev := { ({} : Dev) with ctl.tag.active := true, ctl.tag.key := List.replicate 16 1, ctl.tag.cfg := List.replicate 16 3 } }
def wTagMac : Bytes := (cmac (roundKeys (List.replicate 16 1)) (padTo 16 ((wTagW.dev.at_ 0).oct Od.idn_DIE_ID 0) ++ toBe 1 5 ++ toBe 2 1 ++ List.replicate 64 0)).take 8
theorem wTagLen : wTagMac.length = 8 := by decide
theorem wTagOk : (wTagW.dev.at_ 0).tagWriteCheck (5 : Byte).toNat (1 : BitVec 16).toNat (List.replicate 64 0) wTagMac = none := by
  unfold Dev.tagWriteCheck
  dsimp only
  refine (if_neg (by rw [wTagLen]; decide)).trans ?_
  refine (if_neg (by decide)).trans ?_
  refine (if_neg (by decide)).trans ?_
  refine (if_neg (show ¬ ((allZero (wTagW.dev.at_ 0).tag.key || !(wTagMac == wTagMac)) = true) from by rw [beq_self_eq_true]; decide)).trans ?_
  exact if_pos (by decide)
def wCard (x : CardSlot) : State := wit (fun d => { d with per.slots := [(1, { x with det := true })] })
def wLedger (x : LedgerState) : LedgerRec := { state := x, rule := 2, actions := 0, holder := [7], granted := 0, validUntil := 0, scope := [] }
def wLedgerState (x : LedgerState) : State := wit (fun d => { d with per.ledger := [(5, wLedger x)] })
def wGrant : State := wit (fun d => { d with per.ledger := [(5, wLedger .pending)], per.slots := [(1, { det := true, dlg := { step := .grant, entry := some 5, holder := some wHolder }, link := { reply := some (List.replicate 68 0 ++ [0x90, 0]) } })] })
def wQuery : State := wit (fun d => { d with per.slots := [(1, { det := true, dlg := { step := .query, entry := some 5, holder := some wHolder }, link := { reply := some ([0, 0, 0, 0, 0] ++ [0x90, 0]) } })] })
def wRule : State := wit (fun d => ({ d with per.slots := [(1, { det := true, state := .identified, dlg := { holder := some wHolder }, link := {} })] }.set Od.rul_TRIGGER 2 1).set Od.rul_INPUT 2 0xFF)
def wPass : State := { (wit id) with dev.fls.regions := [(5, { record := some (((wit id).dev.at_ 0).passRecord 5 (List.replicate 16 0)) })] }
def wPower : State := wit (fun d => ({ d with pwr.model := true, pwr.thermalLimited := true }.set Od.pwr_POWER_LIMIT 0 100000).set Od.pwr_THERMAL_TARGET 0 10000)
def wBoard (m : Nat) : State := wit (fun d => ((({ d with fry.flo.master := m } : Dev).set Od.flo_TOPOLOGY 0 1).set Od.pwr_BOARD_LIMIT 0 500).set Od.flo_MEMBERS 0 3)

/-! ## Well-formedness refuses -/

theorem test_ill_formed_1 : ([
    .bearingEdge 0 false false (-1) 0 0,
    .bearingEdge 0 false false 0 (-1) 0,
    .indexPulse 0 (-1) 0,
    .ssiSample 0 (2 ^ 40) false 0 0,
    .ssiSample 0 0 false (-1) 0,
    .mainsCrossing 0 0 false 65537 [] [] 0,
    .mainsCrossing 0 0 false 0 [(-1, 0)] [] 0,
    .bearingPublish 0 (-1) 0,
    .bearingFrameReceive { wFrame with flags := 256 } 0,
    .frameSeal (2 ^ 32 + 1) 0,
    .release (2 ^ 32 + 1) 0,
    .cancel (2 ^ 32 + 1) 0,
    .lchEntrySel (2 ^ 32 + 1) 0,
    .overlayPrepare 32 0 wImage 0,
    .overlayPrepare 0 (2 ^ 32 + 1) wImage 0,
    .overlayAnswer 32 0 0 .refuse 0,
    .overlayAnswer 0 (2 ^ 32 + 1) 0 .refuse 0,
    .overlayAnswer 0 0 17 .refuse 0,
    .overlayDecide 32 0 0,
    .overlayDecide 0 (2 ^ 32 + 1) 0,
    .overlayDecisionReceive 32 0 .commit 0,
    .overlayDecisionReceive 0 (2 ^ 32 + 1) .commit 0,
    .dbSub 0 0 131073 0,
    .dbCpl 0 0 131073 0] : List Instr).all (fun i => !i.wellFormed) = true := by decide

theorem test_ill_formed_2 : ([
    .itemAdmit 0 [] none 0,
    .mirrorAck (2 ^ 64) 0,
    .itemExpiry 0 (2 ^ 48) 0,
    .confirmTimeout 0 (2 ^ 48) 0,
    .cancelSeq 0 (2 ^ 48) 0,
    .queRingCfg 0 (2 ^ 32) 0,
    .powerFail (-1) [] 0,
    .shutdown 257 0,
    .setupOpen { wFrag with port := 32 } 0,
    .setupAnswer { wFrag with port := 32 } 0,
    .setupConfirm { wFrag with port := 32 } 0,
    .setupRefuse { wFrag with port := 32 } 0,
    .cmdReceive { wFrame with flags := 256 } 0,
    .ackReceive { wFrame with flags := 256 } 0,
    .nackReceive { wFrame with flags := 256 } 0,
    .dataReceive { wFrame with flags := 256 } 0,
    .streamReceive { wFrame with flags := 256 } 0,
    .safeReceive { wFrame with flags := 256 } 0,
    .heartbeatReceive { wFrame with flags := 256 } 0,
    .claimReceive { wFrame with flags := 256 } 0,
    .keyupdReceive { wFrame with flags := 256 } 0,
    .jqueryReceive { wFrame with flags := 256 } 0,
    .retxTime 0 (2 ^ 48) 0,
    .certRequest 0 257 0 0 (List.replicate 32 0) 0] : List Instr).all (fun i => !i.wellFormed) = true := by decide

theorem test_ill_formed_3 : ([
    .certRequest 0 0 0 0 [] 0,
    .ferryNak 0 65537 false 0,
    .ferryIdle 0 65537 false 0,
    .replRecord (2 ^ 64) (.free 0) 0,
    .unjoin (2 ^ 32) 0 0,
    .unjoin 0 257 0,
    .resync 65537 0 [] 0,
    .resync 0 3 [] 0,
    .yieldReceive (2 ^ 32) 0 0,
    .pierRetire 0 0 [] (-1) 0,
    .oapRead (.frame { wFrame with seq := 2 ^ 48 }) 0,
    .oapWrite (.frame { wFrame with seq := 2 ^ 48 }) { start := { flotId := 0, sramKept := false, holdup := true, readsAgree := true, scrub := [], badA := false, badB := false, saveOk := true, chartOk := true, pierFails := [], ready := 0 }, agree := true, verify := true, pulses := 0, cut := false, lcCut := none } 0,
    .oapReadBlock (.frame { wFrame with seq := 2 ^ 48 }) 0,
    .oapWriteBlock (.frame { wFrame with seq := 2 ^ 48 }) { start := { flotId := 0, sramKept := false, holdup := true, readsAgree := true, scrub := [], badA := false, badB := false, saveOk := true, chartOk := true, pierFails := [], ready := 0 }, agree := true, verify := true, pulses := 0, cut := false, lcCut := none } 0,
    .oapSubscribe (.frame { wFrame with seq := 2 ^ 48 }) 0,
    .oapAbort (.frame { wFrame with seq := 2 ^ 48 }) 0,
    .activateStore (.frame { wFrame with seq := 2 ^ 48 }) 0,
    .activateChartSwitch (.frame { wFrame with seq := 2 ^ 48 }) 0,
    .activateDelete (.frame { wFrame with seq := 2 ^ 48 }) 0,
    .notify 65553 0 0,
    .notify 0 (2 ^ 32) 0,
    .dhMovi 0 0 0 (List.replicate 3 0) 0,
    .dhAddi 0 0 0 (List.replicate 3 0) 0,
    .dhCmpi 0 0 0 (List.replicate 3 0) 0] : List Instr).all (fun i => !i.wellFormed) = true := by decide

theorem test_ill_formed_4 : ([
    .dhBr 0 0 (List.replicate 3 0) 0,
    .dhCall 0 0 (List.replicate 3 0) 0,
    .dhLoop 0 0 0 (List.replicate 3 0) 0,
    .dhLdb 0 0 0 (List.replicate 3 0) 0,
    .dhLdh 0 0 0 (List.replicate 3 0) 0,
    .dhLdw 0 0 0 (List.replicate 3 0) 0,
    .dhStb 0 0 0 (List.replicate 3 0) false 0,
    .dhSth 0 0 0 (List.replicate 3 0) false 0,
    .dhStw 0 0 0 (List.replicate 3 0) false 0,
    .dhMovs 0 (some (2 ^ 32)) 0,
    .dhFils 0 0 (some (2 ^ 32)) 0,
    .dhCmps 0 (some (2 ^ 32)) 0,
    .dhScns 0 0 (some (2 ^ 32)) 0,
    .dhCrcs 0 0 (some (2 ^ 32)) 0,
    .dhSums 0 0 (some (2 ^ 32)) 0,
    .pairedLaneLag 0 65 0,
    .cipKeyh 0 (2 ^ 16) 0 0,
    .cipGcmSeal 0 (2 ^ 16) 0 0,
    .cipGcmOpen 0 (2 ^ 16) 0 0,
    .cipCtr 0 (2 ^ 16) 0 0,
    .cipCmacGen 0 (2 ^ 16) 0 0,
    .cipCmacVerify 0 (2 ^ 16) 0 0,
    .cipherJobDone 0 (2 ^ 20) false 0,
    .hashJobDone 49 0] : List Instr).all (fun i => !i.wellFormed) = true := by decide

theorem test_ill_formed_5 : ([
    .bgnSlot (2 ^ 16) 0 0 0,
    .keyGenerate [] 0,
    .keyImport [] 0,
    .keyRestrict [] 0,
    .keyDestroy 65537 0,
    .samplePreload 4097 0 0 0,
    .samplePreload 0 2 0 0,
    .samplePreload 0 0 2 0,
    .extest 4097 0 0 0,
    .extest 0 2 0 0,
    .extest 0 0 2 0,
    .birthCert [] false 0,
    .attestChallenge [] 0,
    .releaseHold 257 0,
    .releaseSafe 257 0,
    .mergeWindow (2 ^ 21) 0,
    .supplyGlitch 0 false (-1) 0,
    .slowSupply 0 (-1) 0,
    .refclkLoss (-1) 0,
    .clsPoll [] 65537 false 0 0 0,
    .tagGetInfo (List.replicate 257 0) 0,
    .tagRead (List.replicate 257 0) 0,
    .tagWrite 0 0 [] (List.replicate 8 0) false 0,
    .tagWrite 0 0 (List.replicate 64 0) [] false 0] : List Instr).all (fun i => !i.wellFormed) = true := by decide

theorem test_ill_formed_6 : ([
    .tagPage 0 [] 0,
    .atrReceive 0 (some (List.replicate 34 0)) 0,
    .ppsAnswer 0 (some (List.replicate 7 0)) 0,
    .t1BlockReceive 0 (some (List.replicate 260 0)) 0,
    .permitRequest 65537 false 0,
    .permitExpiry (2 ^ 32) 0,
    .dataWrite 65537 0 [] false 0,
    .dataWrite 0 (2 ^ 32) [] false 0,
    .eraseSector 65537 0 false 0,
    .eraseSector 0 65537 false 0,
    .setPassword 65537 (List.replicate 32 0) 0,
    .setPassword 0 [] 0,
    .unlockRegion 65537 (List.replicate 16 0) 0,
    .unlockRegion 0 [] 0,
    .lockRegion 65537 0 0,
    .lockRegion 0 257 0,
    .resetNAssert (-1) 0,
    .restart 257 { flotId := 0, sramKept := false, holdup := true, readsAgree := true, scrub := [], badA := false, badB := false, saveOk := true, chartOk := true, pierFails := [], ready := 0 } 0,
    .lateTolPassed (2 ^ 32 + 1) 0,
    .ppsIn (-1) 0] : List Instr).all (fun i => !i.wellFormed) = true := by decide

theorem test_ill_formed_lengths (b : Bytes) (h : 65536 ≤ b.length) :
    (.itemAdmit 0 b (some b) 0 : Instr).wellFormed = false ∧
    (.mbDoorbell 0 b 0 : Instr).wellFormed = false ∧
    (.bnJob b 0 : Instr).wellFormed = false ∧
    (.lcTransition b false none 0 : Instr).wellFormed = false ∧
    (.lcAnchors b false 0 : Instr).wellFormed = false ∧
    (.lcChain b false 0 : Instr).wellFormed = false ∧
    (.dbgAuth b false 0 : Instr).wellFormed = false ∧
    (.kolzelSelect 0 b 0 : Instr).wellFormed = false ∧
    (.kolzelIdentify 0 b 0 : Instr).wellFormed = false ∧
    (.kolzelAuthenticate 0 b false 0 : Instr).wellFormed = false ∧
    (.recordGrant 0 b false 0 : Instr).wellFormed = false ∧
    (.journalQuery 0 b false 0 : Instr).wellFormed = false ∧
    (.dataWrite 0 0 b false 0 : Instr).wellFormed = false := by
  simp only [Instr.wellFormed, Option.all_some, Bool.and_eq_false_iff, decide_eq_false_iff_not]
  omega

theorem test_ill_formed_time : ([.launchAction (-1), .cancel 3 (-1), .dhNop 3 (-1), .powerOn (-1)] : List Instr).all (fun i => !i.wellFormed) = true := by decide

theorem test_ill_formed_frames : [{ wFrame with port := 32 }, { wFrame with flags := 256 }, { wFrame with session := 2 ^ 24 }, { wFrame with claim := 2 ^ 32 },
    { wFrame with seq := 2 ^ 48 }, { wFrame with version := 16 }, { wFrame with carrier := .ethernet 65536 }].all (fun f => !f.wf) = true := by decide

theorem test_ill_formed_fragments : [{ wFrag with port := 32 }, { wFrag with claim := 2 ^ 32 }, { wFrag with index := 256 }, { wFrag with mac := [] }].all (fun f => !f.wf) = true := by decide

theorem test_well_formed : ([.cancel 3 0, .dhAdd 3 1 2 0, .cmdReceive wFrame 5, .oapRead .mailbox 0] : List Instr).all (fun i => i.wellFormed) = true := by decide

/-! ## Worked values of the spec, one step each -/

/-- The worked example of two chips sharing 172 W (18_power_arbiter.md): shares of 107.5 W and 64.4 W, no shortage. -/
theorem test_share_two_chips :
    apportion 1720 [(0, { floorW := 605, demandW := 1167, measuredW := 0 }), (1, { floorW := 487, demandW := 675, measuredW := 0 })] =
      ([(0, 1075), (1, 644)], false) := by decide

/-- The same example: the configured terms of 149.3 A and 160.0 A, the share terms of 92.6 A and 45.8 A. -/
theorem test_current_terms : currentOf 1500 380 = 1493 ∧ currentOf 1500 300 = 1600 ∧ currentOf 1075 380 = 926 ∧ currentOf 644 300 = 458 := by decide

/-- The same example: chip 0's 826 units go out in class order, STREAM_IN (class 1) short at 26. -/
theorem test_grant_order :
    let l : List Demand := [{ consumer := 0, cls := 5, units := 200 }, { consumer := 0, cls := 4, units := 400 }, { consumer := 0, cls := 3, units := 100 },
      { consumer := 0, cls := 2, units := 100 }, { consumer := 0, cls := 1, units := 150 }]
    let g := grantClasses l [5, 4, 3, 2, 1] 826
    (g.get 0 5, g.get 0 4, g.get 0 3, g.get 0 2, g.get 0 1) = (200, 400, 100, 100, 26) := by decide

/-- A signed overflow and a carry of the 32-bit ADD (R328). -/
theorem test_dh_add_flags :
    (DhCore.rr .add 2 3 { g := ((Vector.replicate 16 0).set 2 0x7FFFFFFF).set 3 1 }).flags = { c := false, z := false, n := true, v := true } ∧
    (DhCore.rr .add 2 3 { g := ((Vector.replicate 16 0).set 2 0xFFFFFFFF).set 3 1 }).flags = { c := true, z := true, n := false, v := false } := by decide

/-- C after SUB is set where no borrow arises (R328). -/
theorem test_dh_sub_carry :
    (DhCore.rr .sub 2 3 { g := ((Vector.replicate 16 0).set 2 5).set 3 5 }).flags = { c := true, z := true, n := false, v := false } ∧
    (DhCore.rr .sub 2 3 { g := ((Vector.replicate 16 0).set 2 4).set 3 5 }).flags = { c := false, z := false, n := true, v := false } := by decide

/-- A shift by 0 leaves C (R328). -/
theorem test_dh_shift_zero_keeps_c : (DhCore.rr .lsl 2 3 { c := true, g := (Vector.replicate 16 0).set 2 1 }).c = true := by decide

/-- The BCCs of the badges of the worked example of 15_contactless.md. -/
theorem test_badge_bcc : (0x5C ^^^ 0x21 ^^^ 0x9E ^^^ 0x33 : Byte) = 0xD0 ∧ (0x5C ^^^ 0x21 ^^^ 0x9E ^^^ 0xB3 : Byte) = 0x50 := by decide

/-- The same example: one collision, at the last UID bit; badge Q is named by 93 60 and selected with its BCC. -/
theorem test_anticollision :
    let card (u : Bytes) : FieldCard := { typeB := false, uid := u, isoDep := true, noCid := false, rate := 848 }
    let r := anticollLevels true 3 0 [card [0x5C, 0x21, 0x9E, 0x33], card [0x5C, 0x21, 0x9E, 0xB3]]
    (r.1.map (fun c => c.uid), r.2.1, r.2.2.map (fun f => f.take 7)) =
      (some [0x5C, 0x21, 0x9E, 0xB3], 1, [[0x93, 0x20], [0x93, 0x60, 0x5C, 0x21, 0x9E, 0xB3], [0x93, 0x70, 0x5C, 0x21, 0x9E, 0xB3, 0x50]]) := by decide

/-- Words of the worked program of 08_deckhand_isa.md: MOVI G11, 256; FTAKE G8; STW G7, [G11+4]; MOVI G0, 300. -/
theorem test_lane_words :
    dhRiCode 0 11 0 [4] = [0x3804, 0x12C0] ∧ dhSubCode true 5 8 = [0x3758] ∧ dhMemCode true 2 7 3 [4] = [0x3804, 0x3337] ∧
      dhRiCode 0 0 0x2C [4] = [0x3804, 0x102C] := by decide

/-- Bytes of the worked program of 09_purser_isa.md: TWICE CMPI X3, 0; LD X4, [X1]; XOR X4, X5. -/
theorem test_purser_bytes :
    twicePre (some 0) ++ puRiCode 6 3 (.i1 0) = [0xF4, 0x26, 0x30, 0x00] ∧ puMemCode 0x30 4 1 .d0 = [0x30, 0x41] ∧ puRrCode 7 4 5 = [0x17, 0x45] := by decide

/-- Each constant of SHA-256 is the fraction of the cube root of its prime (FIPS 180-4): k + 2^32 m is the root of 2^96 p, rounded down. -/
theorem test_sha_constants :
    ([2, 3, 5, 7, 11, 13, 17, 19, 23, 29, 31, 37, 41, 43, 47, 53, 59, 61, 67, 71, 73, 79, 83, 89, 97, 101, 103, 107, 109, 113, 127, 131, 137, 139, 149, 151,
      157, 163, 167, 173, 179, 181, 191, 193, 197, 199, 211, 223, 227, 229, 233, 239, 241, 251, 257, 263, 269, 271, 277, 281, 283, 293, 307, 311].zip shaK).all
      (fun e =>
        let n := (((List.range 7).filter (fun m => (m + 1) ^ 3 ≤ e.1)).length) * 2 ^ 32 + e.2.toNat
        decide (n ^ 3 ≤ e.1 * 2 ^ 96) && decide (e.1 * 2 ^ 96 < (n + 1) ^ 3)) = true := by decide +kernel

/-- The message "abc" of FIPS 180-4, and the block of FIPS 197 under its 128-bit key. -/
theorem test_sha_and_aes :
    (sha256 [0x61, 0x62, 0x63]).take 4 = [0xBA, 0x78, 0x16, 0xBF] ∧
      (aesBlock (roundKeys ((List.range 16).map (fun i => BitVec.ofNat 8 i))) ((List.range 16).map (fun i => BitVec.ofNat 8 (17 * i)))).take 4 =
        [0x69, 0xC4, 0xE0, 0xD8] := by decide +kernel

/-- The element at 0x0100_5000 of the worked example of 10_exceptions_and_access_checks.md is denied with cause 0x20, the element
before it is not. -/
theorem test_copy_off_region :
    let rs : Tab Region := [(2, { base := 0x20, limit := 0x6FE0, hi := 0, attr := 0x7 }), (5, { base := 0x01004000, limit := 0x01004FE0, hi := 0, attr := 0x103 })]
    acuCheck rs 0x01004FFF 0x01004FFF .read false = none ∧ (acuCheck rs 0x01005000 0x01005000 .read false).map (fun x => x.cause) = some 0x20 ∧
      (acuCheck rs 0x01004000 0x01004000 .write false).map (fun x => x.cause) = some 0x22 := by decide

/-- A little-endian store and its bytes (R4, R319). -/
theorem test_store_little_endian : memRead (memPut [] 0x100 4 0x11223344) 0x100 4 = [0x44, 0x33, 0x22, 0x11] := by decide

/-- Writing what an unlisted byte reads as takes the entry away. -/
theorem test_memory_canonical : memWrite (memWrite [] 7 [1, 2]) 7 [0, 2] = [(8, 2)] := by decide

/-- Doorbell positions carry a wrap bit above the index (R110). -/
theorem test_doorbell_distance : ringAhead 4 14 (65536 + 2) = some 4 ∧ ringAhead 4 2 1 = some 31 ∧ ringAhead 4 0 16 = none := by decide

/-- One step of an empty queue, and of a queue of one. -/
theorem test_step_takes_front :
    step { pending := [.cancel 3 10, .cancel 4 20] } = .next { ({} : State) with dev := ({} : Dev).at_ 10, pending := [.cancel 4 20] } := rfl


/-! ## Witnesses -/

theorem witness_StepRunsFrontCommand : (∃ (s : State) (c : Instr) (l : List Instr), (s.pending = c :: l)) :=
  ⟨{ pending := [.cancel 3 0] }, .cancel 3 0, [], by decide⟩

theorem witness_EmptyQueueIdles : (∃ (s : State), (s.pending = [])) :=
  ⟨State.reset, by decide⟩

theorem witness_MemoryCanonicalKept : (∃ (s e : State), (s.clean = true) ∧ (step s = .next e)) :=
  ⟨{ pending := [.cancel 3 0] }, _, by decide, rfl⟩

theorem witness_ChipSafeAnswersState : (∃ (c : Instr) (s : State), (c.writes = true) ∧ (s.dev.acts = true) ∧ ((s.dev.at_ c.time).flt.chipSafe = true)) :=
  ⟨.cancel 3 0, wit (fun d => { d with flt.chipSafe := true }), by decide⟩

theorem witness_StandbyAnswersStandby : (∃ (c : Instr) (s : State), (c.acts = true) ∧ (s.dev.acts = true) ∧ ((s.dev.at_ c.time).flt.chipSafe = false) ∧ ((s.dev.at_ c.time).isStandby = true)) :=
  ⟨.cancel 3 0, wit (fun d => { d with fry.twin.role := .standby }), by decide⟩

theorem witness_OffDeviceKeepsItsState : (∃ (c : Instr) (s : State), (c.reachesOff = false) ∧ (s.dev.sys.phase = .off)) :=
  ⟨.cancel 3 0, { dev := { ({} : Dev) with sys.phase := .off } }, by decide⟩

theorem witness_DeckhandRegisterFrame : (∃ (c : Instr) (u : RegUse) (s : State), (c.dhRegs = some u) ∧ (s.clean = true) ∧ (s.dev.acts = true ∧ (s.dev.at_ c.time).atRest = true) ∧ ((s.dev.at_ c.time).dhReads u.core u.words = true) ∧ ((s.dev.dh u.core).notice = false)) :=
  ⟨.dhAdd 3 1 2 0, _, coded (dhRrCode 1 1 2) (wLane id), rfl, by decide, by decide, by decide, by decide⟩

theorem witness_DeckhandMemoryFrame :
    (∃ (s : State) (n : Fin 128) (r : Fin 16) (base : Fin 8) (l : List (BitVec 11)) (sh : Bool) (q : Nat) (t : Ticks), let d := s.dev.at_ t; (s.clean = true) ∧ (s.dev.acts = true ∧ d.atRest = true) ∧ (d.dhReads n (dhMemCode true 0 r base l) = true ∧ l.length ≤ 2 ∧ (d.dh n).notice = false) ∧ (d.dhSingle n = true) ∧ (d.dhPlace n ((d.dh n).ea base l) = some q) ∧ ((d.dh n).ea base l % 1 = 0) ∧ (acuCheck (d.acu (d.laneMaster n)).regions ((d.dh n).ea base l) ((d.dh n).ea base l + 1 - 1) .write false = none)) ∧
    (∃ (s : State) (n : Fin 128) (r : Fin 16) (base : Fin 8) (l : List (BitVec 11)) (q : Nat) (t : Ticks), let d := s.dev.at_ t; (s.clean = true) ∧ (s.dev.acts = true ∧ d.atRest = true) ∧ (d.dhReads n (dhMemCode false 0 r base l) = true ∧ l.length ≤ 2 ∧ (d.dh n).notice = false) ∧ (d.dhPlace n ((d.dh n).ea base l) = some q) ∧ ((d.dh n).ea base l % 1 = 0) ∧ (acuCheck (d.acu (d.laneMaster n)).regions ((d.dh n).ea base l) ((d.dh n).ea base l + 1 - 1) .read false = none)) ∧
    (∃ (s : State) (n : Fin 128) (r : Fin 16) (base : Fin 8) (l : List (BitVec 11)) (sh : Bool) (q : Nat) (t : Ticks), let d := s.dev.at_ t; (s.clean = true) ∧ (s.dev.acts = true ∧ d.atRest = true) ∧ (d.dhReads n (dhMemCode true 1 r base l) = true ∧ l.length ≤ 2 ∧ (d.dh n).notice = false) ∧ (d.dhSingle n = true) ∧ (d.dhPlace n ((d.dh n).ea base l) = some q) ∧ ((d.dh n).ea base l % 2 = 0) ∧ (acuCheck (d.acu (d.laneMaster n)).regions ((d.dh n).ea base l) ((d.dh n).ea base l + 2 - 1) .write false = none)) ∧
    (∃ (s : State) (n : Fin 128) (r : Fin 16) (base : Fin 8) (l : List (BitVec 11)) (q : Nat) (t : Ticks), let d := s.dev.at_ t; (s.clean = true) ∧ (s.dev.acts = true ∧ d.atRest = true) ∧ (d.dhReads n (dhMemCode false 1 r base l) = true ∧ l.length ≤ 2 ∧ (d.dh n).notice = false) ∧ (d.dhPlace n ((d.dh n).ea base l) = some q) ∧ ((d.dh n).ea base l % 2 = 0) ∧ (acuCheck (d.acu (d.laneMaster n)).regions ((d.dh n).ea base l) ((d.dh n).ea base l + 2 - 1) .read false = none)) ∧
    (∃ (s : State) (n : Fin 128) (r : Fin 16) (base : Fin 8) (l : List (BitVec 11)) (sh : Bool) (q : Nat) (t : Ticks), let d := s.dev.at_ t; (s.clean = true) ∧ (s.dev.acts = true ∧ d.atRest = true) ∧ (d.dhReads n (dhMemCode true 2 r base l) = true ∧ l.length ≤ 2 ∧ (d.dh n).notice = false) ∧ (d.dhSingle n = true) ∧ (d.dhPlace n ((d.dh n).ea base l) = some q) ∧ ((d.dh n).ea base l % 4 = 0) ∧ (acuCheck (d.acu (d.laneMaster n)).regions ((d.dh n).ea base l) ((d.dh n).ea base l + 4 - 1) .write false = none)) ∧
    (∃ (s : State) (n : Fin 128) (r : Fin 16) (base : Fin 8) (l : List (BitVec 11)) (q : Nat) (t : Ticks), let d := s.dev.at_ t; (s.clean = true) ∧ (s.dev.acts = true ∧ d.atRest = true) ∧ (d.dhReads n (dhMemCode false 2 r base l) = true ∧ l.length ≤ 2 ∧ (d.dh n).notice = false) ∧ (d.dhPlace n ((d.dh n).ea base l) = some q) ∧ ((d.dh n).ea base l % 4 = 0) ∧ (acuCheck (d.acu (d.laneMaster n)).regions ((d.dh n).ea base l) ((d.dh n).ea base l + 4 - 1) .read false = none)) :=
  ⟨⟨coded (dhMemCode true 0 2 0 [4]) (wLaneMem id), 3, 2, 0, [4], false, _, 0, by decide, by decide, by decide, by decide, rfl, by decide, by decide⟩,
   ⟨coded (dhMemCode false 0 2 0 [4]) (wLaneMem id), 3, 2, 0, [4], _, 0, by decide, by decide, by decide, rfl, by decide, by decide⟩,
   ⟨coded (dhMemCode true 1 2 0 [4]) (wLaneMem id), 3, 2, 0, [4], false, _, 0, by decide, by decide, by decide, by decide, rfl, by decide, by decide⟩,
   ⟨coded (dhMemCode false 1 2 0 [4]) (wLaneMem id), 3, 2, 0, [4], _, 0, by decide, by decide, by decide, rfl, by decide, by decide⟩,
   ⟨coded (dhMemCode true 2 2 0 [4]) (wLaneMem id), 3, 2, 0, [4], false, _, 0, by decide, by decide, by decide, by decide, rfl, by decide, by decide⟩,
   ⟨coded (dhMemCode false 2 2 0 [4]) (wLaneMem id), 3, 2, 0, [4], _, 0, by decide, by decide, by decide, rfl, by decide, by decide⟩⟩

theorem witness_PurserRegisterFrame : (∃ (c : Instr) (u : RegUse) (s : State), (c.puRegs = some u) ∧ (s.clean = true) ∧ (s.dev.acts = true ∧ (s.dev.at_ c.time).atRest = true) ∧ (({ s with dev := s.dev.at_ c.time } : State).puReads u.core u.pre u.body u.twice = true) ∧ ((s.dev.pu u.core).notice = false)) :=
  ⟨.puAdd 0 { w := .w32, twice := none } 1 2 0, _, wPu id, rfl, by decide, by decide, by decide, by decide⟩

theorem witness_PurserMemoryFrame :
    (∃ (s : State) (p : Fin 4) (w : PuWidth) (r b : Fin 16) (x : Disp) (a : Nat) (t : Ticks), let d := s.dev.at_ t; let st : State := { s with dev := s.dev.at_ t }; (s.clean = true) ∧ (s.dev.acts = true ∧ d.atRest = true) ∧ (st.puReads p (w.prefix ++ PuMem.plain.bytes) (puMemCode 0x38 r b x) none = true ∧ (d.pu p).notice = false) ∧ (a = (d.pu p).ea b x) ∧ (puRam a w.bytes = true ∨ (inPierBuffer a w.bytes = true ∧ a % w.bytes = 0)) ∧ (acuCheck (d.acu (puMaster p)).regions a (a + w.bytes - 1) .write (d.pu p).task = none)) ∧
    (∃ (s : State) (p : Fin 4) (w : PuWidth) (r b : Fin 16) (x : Disp) (a : Nat) (sg : Bool) (t : Ticks), let d := s.dev.at_ t; let st : State := { s with dev := s.dev.at_ t }; (s.clean = true) ∧ (s.dev.acts = true ∧ d.atRest = true) ∧ (st.puReads p (w.prefix ++ PuMem.plain.bytes) (puMemCode (if sg then 0x34 else 0x30) r b x) none = true ∧ (d.pu p).notice = false) ∧ (a = (d.pu p).ea b x) ∧ (puRam a w.bytes = true ∨ (inPierBuffer a w.bytes = true ∧ a % w.bytes = 0)) ∧ (acuCheck (d.acu (puMaster p)).regions a (a + w.bytes - 1) .read (d.pu p).task = none)) :=
  ⟨⟨wPuMem, 0, .w32, 2, 3, .d1 4, _, 0, by decide, by decide, by decide, rfl, by decide, by decide⟩,
   ⟨wPuMem, 0, .w32, 2, 3, .d1 4, _, true, 0, by decide, by decide, by decide, rfl, by decide, by decide⟩⟩

theorem witness_SavedContextIsRestored : (∃ (c x : PuCore) (f : CoreFault) (v o : Nat), (c.kwin.toNat < 8192)) :=
  ⟨{}, {}, { cause := 1 }, 1, 0, by decide⟩

theorem witness_BadDoorbellIsIgnored :
    (∃ (s : State) (pf : Fin 4) (q : Fin 16384) (pos : Nat) (t : Ticks), let d := s.dev.at_ t; (s.dev.acts = true) ∧ (d.pfOf q = (pf : Nat)) ∧ ((d.queue q).ringValid = true) ∧ ((∀ n, ringAhead (d.queue q).workLog2 (d.queue q).hostPos (pos % 2 ^ 17) = some n → (if d.delivers q then (d.queue q).devPos - (d.queue q).hostPos else 2 ^ (d.queue q).workLog2 - ((d.queue q).hostPos - (d.queue q).devPos)) < n))) ∧
    (∃ (s : State) (pf : Fin 4) (q : Fin 16384) (pos : Nat) (t : Ticks), let d := s.dev.at_ t; (s.dev.acts = true) ∧ (d.pfOf q = (pf : Nat)) ∧ ((d.queue q).ringValid = true) ∧ ((∀ n, ringAhead (d.queue q).cplLog2 (d.queue q).cplHead (pos % 2 ^ 17) = some n → (d.queue q).cplTail - (d.queue q).cplHead < n))) :=
  ⟨⟨wit (fun d => ((d.set Od.que_TARGET 3 1).set Od.qpf_QUEUE_PF 3 0).setQueue 3 { state := .on, ringValid := true, hostPos := 2, workLog2 := 4 }), 0, 3, 1, 0, by decide, by decide, by decide, (fun n h => by have e : n = 31 := (Option.some.inj h).symm; subst e; decide)⟩,
   ⟨wit (fun d => ((d.set Od.que_TARGET 3 1).set Od.qpf_QUEUE_PF 3 0).setQueue 3 { state := .on, ringValid := true, cplTail := 5, cplLog2 := 4 }), 0, 3, 7, 0, by decide, by decide, by decide, (fun n h => by have e : n = 7 := (Option.some.inj h).symm; subst e; decide)⟩⟩

theorem witness_CommittedEntryIsNotCancelled :
    (∃ (s : State) (h : Nat) (e : Entry) (t : Ticks), let d := s.dev.at_ t; (s.dev.acts = true) ∧ (d.flt.chipSafe = false) ∧ (d.isStandby = false) ∧ (d.entry h = some e) ∧ ((d.item e.item).any d.held = false) ∧ (e.state.isCommitted = true)) ∧
    (∃ (s : State) (h : Nat) (e : Entry) (t : Ticks), let d := s.dev.at_ t; (s.dev.acts = true) ∧ (d.flt.chipSafe = false) ∧ (d.isStandby = false) ∧ (d.entry h = some e) ∧ ((d.item e.item).any d.held = false) ∧ (e.state.isCommitted = false)) :=
  ⟨⟨wit (fun d => d.setEntry 9 { wEntry with state := .committed }), 9, _, 0, by decide, by decide, by decide, rfl, by decide, by decide⟩,
   ⟨wit (fun d => d.setEntry 9 wEntry), 9, _, 0, by decide, by decide, by decide, rfl, by decide, by decide⟩⟩

theorem witness_BearingSamplesComplete :
    (∃ (s : State) (b : Fin 16) (a c : Bool) (width raw t : Ticks) (k : Int), let d := s.dev.at_ t; (s.dev.acts = true) ∧ (d.isQuad b = true) ∧ ((d.brg b).state ≠ .off) ∧ (¬ width < d.cfg Od.brg_GLITCH_WIDTH b) ∧ (quadStep (d.brg b).levelA (d.brg b).levelB a c = some k) ∧ (k ≠ 0) ∧ ((d.brg b).tooClose (decide (a ≠ (d.brg b).levelA)) raw = false)) ∧
    (∃ (s : State) (b : Fin 16) (width t : Ticks), let d := s.dev.at_ t; (s.dev.acts = true) ∧ (d.isQuad b = true) ∧ ((d.brg b).state ≠ .off) ∧ (¬ width < d.cfg Od.brg_GLITCH_WIDTH b) ∧ ((d.brg b).levelA = true ∧ (d.brg b).levelB = true) ∧ (d.cfgN Od.brg_Z_MODE b = 3) ∧ ((d.brg b).ref = false)) ∧
    (∃ (s : State) (b : Fin 16) (word : Nat) (parity : Bool) (edge t : Ticks), let d := s.dev.at_ t; (s.dev.acts = true) ∧ (d.isSsi b = true) ∧ ((d.brg b).state ≠ .off) ∧ (ssiParityOk (d.cfgN Od.ssi_SSI_PARITY b) (d.cfgN Od.ssi_SSI_BITS b) word parity = true) ∧ ((d.brg b).newest = none ∧ (d.brg b).fit = none)) ∧
    (∃ (s : State) (b : Fin 16) (phase : Fin 3) (rising : Bool) (peak : Nat) (before after : List (Ticks × Int)) (at_ t : Ticks) (rms : Rat), let d := s.dev.at_ t; (s.dev.acts = true) ∧ (d.brgType b = 3) ∧ ((d.brg b).state ≠ .off) ∧ (bitOf (d.cfgN Od.mns_PHASES b) phase = true) ∧ (¬ (peak : Int) < d.cfg Od.mns_AMPLITUDE_MIN b) ∧ (mainsInOrder (d.brg b).mainsStep (mainsSixth (d.cfgB Od.mns_SEQUENCE b) phase rising) = true) ∧ (mainsZero (before ++ after) = some (at_, rms))) ∧
    (∃ (s : State) (b : Fin 16) (r : RemoteCfg) (x : Sample) (t : Ticks), let d := s.dev.at_ t; (s.dev.acts = true) ∧ (d.brgType b = 5) ∧ ((d.brg b).state ≠ .off) ∧ (¬ x.t + r.glitch + 200 * ns < d.now)) ∧
    (∃ (s : State) (f : RxFrame) (t : Ticks) (i : Nat) (p : Bytes) (at_ : Ticks) (n q : Nat) (x : BVal) (rest : List (Nat × Nat × BVal)), let d := s.dev.at_ t; (s.dev.acts = true) ∧ ((d.receive 4 f).1 = some (i, p)) ∧ (f.time = some at_) ∧ (f.stamps = (n, q, x) :: rest)) :=
  ⟨⟨wit (fun d => (d.set Od.brg_TYPE 3 1).setBrg 3 { state := .acquiring }), 3, true, false, 10 ^ 9, 10, 20, 1, by decide⟩,
   ⟨wit (fun d => ((d.set Od.brg_TYPE 3 1).set Od.brg_Z_MODE 3 3).setBrg 3 { state := .acquiring, levelA := true, levelB := true }), 3, 10 ^ 9, 10, by decide⟩,
   ⟨wit (fun d => ((d.set Od.brg_TYPE 3 1).set Od.brg_ENCODING 3 1).setBrg 3 { state := .acquiring }), 3, 5, false, 10, 20, by decide⟩,
   ⟨wit (fun d => ((d.set Od.brg_TYPE 3 3).set Od.mns_PHASES 3 7).setBrg 3 { state := .acquiring }), 3, 0, true, 10 ^ 6, [(10, -7), (20, -5), (30, -3), (40, -1)], [(50, 1), (60, 3), (70, 5), (80, 7)], 45, 20, 0, by decide +kernel⟩,
   ⟨wit (fun d => (d.set Od.brg_TYPE 3 5).setBrg 3 { state := .acquiring }), 3, { chip := 1, trk := wTrk, horizon := 0, glitch := 0, ref := true }, { t := 10 ^ 9, x := 5 }, 10, by decide⟩,
   ⟨wSession {}, { sealedAs 24 [0, 0, 0, 0, 0, 0, 0, 0, 0, 0, 0, 9, 2, 2, 0, 0, 0, 0, 0, 0, 0, 0, 0, 7, 168, 44, 16, 70, 218, 11, 112, 68, 243, 222, 205, 139, 245, 52, 90, 86, 223, 27, 226, 61, 109, 95, 189, 249, 103, 199, 36, 91, 174, 120, 207, 134, 246, 104, 54, 81, 189, 246, 245, 157] with flags := 24, extLen := 6 }, 10, 5, List.replicate 24 0, 9, 2, 2, 7, [], by decide +kernel⟩⟩

theorem witness_BearingStateCommandsComplete :
    (∃ (s : State) (b : Fin 16) (t : Ticks), let d := s.dev.at_ t; (s.dev.acts = true) ∧ ((d.brg b).state ≠ .off)) ∧
    (∃ (s : State) (b : Fin 16) (t : Ticks), (s.dev.acts = true)) ∧
    (∃ (s : State) (b : Fin 16) (t : Ticks), let d := s.dev.at_ t; (s.dev.acts = true) ∧ ((d.brg b).state ≠ .off)) ∧
    (∃ (s : State) (b : Fin 16) (t : Ticks), (s.dev.acts = true)) ∧
    (∃ (s : State) (b : Fin 16) (t : Ticks), let d := s.dev.at_ t; (s.dev.acts = true) ∧ ((d.brg b).state = .tracking ∧ (d.brg b).still = false) ∧ (d.isVirtual b = false) ∧ (d.gatePassed b = true)) ∧
    (∃ (s : State) (b : Fin 16) (t : Ticks), let d := s.dev.at_ t; (s.dev.acts = true) ∧ ((d.brg b).state = .coasting) ∧ (d.isVirtual b = false) ∧ ((d.brg b).coastAt + d.cfg Od.brg_COAST_TIME b ≤ d.now)) ∧
    (∃ (s : State) (b : Fin 16) (t : Ticks), let d := s.dev.at_ t; (s.dev.acts = true) ∧ (d.flt.chipSafe = false) ∧ (d.isStandby = false) ∧ (d.brgType b ≠ 0) ∧ (((d.set Od.brg_ENABLE b 1).brg b).state = .off) ∧ ((d.set Od.brg_ENABLE b 1).brgType b ≠ 0) ∧ ((d.brg b).wireLive = false ∧ (d.brg b).rateLive = false)) ∧
    (∃ (s : State) (b : Fin 16) (t : Ticks), let d := s.dev.at_ t; (s.dev.acts = true) ∧ (d.flt.chipSafe = false) ∧ (d.isStandby = false) ∧ (((d.set Od.brg_ENABLE b 0).brg b).state ≠ .off)) ∧
    (∃ (s : State) (b : Fin 16) (t : Ticks), let d := s.dev.at_ t; (s.dev.acts = true) ∧ ((d.brg b).draining = true) ∧ (d.brgPending b = false)) ∧
    (∃ (s : State) (b : Fin 16) (v : BVal) (t : Ticks), let d := s.dev.at_ t; (s.dev.acts = true) ∧ (d.flt.chipSafe = false)) :=
  ⟨⟨wit (fun d => d.setBrg 15 { state := .tracking }), 15, 0, by decide⟩,
   ⟨wit id, 15, 0, by decide⟩,
   ⟨wit (fun d => d.setBrg 15 { state := .tracking }), 15, 0, by decide⟩,
   ⟨wit id, 15, 0, by decide⟩,
   ⟨wit (fun d => ((d.set Od.brg_TYPE 3 4).set Od.pub_PUB_PERIOD 3 5).setBrg 3 wTracking), 3, 10 ^ 12, by decide⟩,
   ⟨wit (fun d => (d.set Od.brg_TYPE 3 1).setBrg 3 { state := .coasting }), 3, 10 ^ 20, by decide⟩,
   ⟨wit (fun d => d.set Od.brg_TYPE 3 1), 3, 0, by decide⟩,
   ⟨wit (fun d => d.setBrg 3 { state := .tracking }), 3, 0, by decide⟩,
   ⟨wit (fun d => d.setBrg 3 { state := .tracking, draining := true }), 3, 0, by decide⟩,
   ⟨wit id, 3, 5, 0, by decide⟩⟩

theorem witness_CalibrationAndPublicationComplete :
    (∃ (s : State) (b : Fin 16) (t : Ticks), let d := s.dev.at_ t; (s.dev.acts = true) ∧ (d.flt.chipSafe = false) ∧ (d.mayCapture b = true)) ∧
    (∃ (s : State) (b : Fin 16) (t : Ticks), let d := s.dev.at_ t; let c := (d.brg b).capture; (s.dev.acts = true) ∧ (c.state = 1 ∧ 0 < c.samples ∧ c.firstT < c.lastT) ∧ (64 * d.cfg Od.cal_CAL_PERIOD b ≤ c.run.natAbs)) ∧
    (∃ (s : State) (b : Fin 16) (instant t : Ticks), let d := s.dev.at_ t; (s.dev.acts = true) ∧ (d.holdsClaim = true) ∧ (¬ d.cfg Od.pub_PUB_PERIOD b ≤ 0) ∧ (instant % d.cfg Od.pub_PUB_PERIOD b = 0)) :=
  ⟨⟨wit (fun d => (d.set Od.brg_TYPE 3 1).setBrg 3 { state := .tracking, ref := true }), 3, 0, by decide⟩,
   ⟨wit (fun d => d.setBrg 3 { capture := { state := 1, samples := 1, firstT := 0, lastT := 5, run := 10 ^ 15 } }), 3, 0, by decide⟩,
   ⟨wit (fun d => d.set Od.pub_PUB_PERIOD 3 5), 3, 10, 0, by decide⟩⟩

theorem witness_LaunchesCommitActAndEnd :
    (∃ (s : State) (h : Nat) (t : Ticks) (e : Entry) (p : Pred), let d := s.dev.at_ t; (s.dev.acts = true) ∧ (d.entry h = some e) ∧ (e.state = .predicted ∧ e.pred = some p) ∧ (d.commits = true) ∧ (d.commitPoint e.image p ≤ d.now) ∧ (d.rateFree h 32 = true)) ∧
    (∃ (s : State) (h : Nat) (t : Ticks) (e : Entry), let d := s.dev.at_ t; (s.dev.acts = true) ∧ (d.entry h = some e) ∧ (e.state = .committed ∧ e.sealed = false) ∧ (e.image.isFrame = true) ∧ (e.instant - 400 * ns ≤ d.now)) ∧
    (∃ (s : State) (t : Ticks), (s.dev.acts = true)) ∧
    (∃ (s : State) (h : Nat) (t : Ticks) (e : Entry), let d := s.dev.at_ t; (s.dev.acts = true) ∧ (d.entry h = some e) ∧ (¬ d.now ≤ e.instant + e.image.lateTol) ∧ (e.state = .atSample)) ∧
    (∃ (s : State) (h : Nat) (t : Ticks) (e : Entry), let d := s.dev.at_ t; (s.dev.acts = true) ∧ (d.flt.chipSafe = false) ∧ (d.isStandby = false) ∧ (d.entry h = some e) ∧ (e.state = .held) ∧ ((d.item e.item).any d.held = false) ∧ (e.image.isOverlay = false)) ∧
    (∃ (s : State) (h : Nat) (t : Ticks) (e : Entry), let d := s.dev.at_ t; (s.dev.acts = true) ∧ (d.flt.chipSafe = false) ∧ (d.isStandby = false) ∧ (d.entry h = some e) ∧ (e.state.isCommitted = false) ∧ ((d.item e.item).any d.held = false)) ∧
    (∃ (s : State) (h : Nat) (t : Ticks), (s.dev.acts = true)) :=
  ⟨⟨wit (fun d => d.setEntry 9 { wEntry with state := .predicted, pred := some { at_ := 10, unc := 0 } }), 9, 10 ^ 15, _, { at_ := 10, unc := 0 }, by decide, rfl, by decide, by decide, by decide⟩,
   ⟨wit (fun d => d.setEntry 9 { wEntry with state := .committed, image := { wImage with target := .frame 1 0 0 } }), 9, 10 ^ 15, _, by decide, rfl, by decide, by decide, by decide⟩,
   ⟨wit id, 0, by decide⟩,
   ⟨wit (fun d => d.setEntry 9 { wEntry with state := .atSample }), 9, 10 ^ 15, _, by decide, rfl, by decide, by decide⟩,
   ⟨wit (fun d => d.setEntry 9 { wEntry with state := .held }), 9, 10, _, by decide, by decide, by decide, rfl, by decide, by decide, by decide⟩,
   ⟨wit (fun d => d.setEntry 9 wEntry), 9, 10, _, by decide, by decide, by decide, rfl, by decide, by decide⟩,
   ⟨wit id, 9, 10, by decide⟩⟩

theorem witness_PinsAndOverlaysComplete :
    (∃ (s : State) (n : Fin 32) (t : Ticks), let d := s.dev.at_ t; (s.dev.acts = true) ∧ (((d.pin n).ends.filter (fun x => x.dueBy d.now)).isEmpty = false) ∧ (d.man.saving = false) ∧ (d.suppressed = false) ∧ (d.flt.hold = false ∧ d.yielding = false)) ∧
    (∃ (s : State) (n : Fin 32) (m t : Ticks) (w : SenseWait) (rest : List SenseWait), let d := s.dev.at_ t; (s.dev.acts = true) ∧ ((d.pin n).sense = w :: rest) ∧ (m - w.sched ≤ 10 * ns ∧ w.sched - m ≤ 10 * ns) ∧ (d.cfgB Od.pin_SENSE_ENABLE n = true) ∧ (d.holdsClaim = true) ∧ (w.handle = none) ∧ (¬ d.cfg Od.pin_SENSE_LIMIT n < (if m - w.sched < 0 then -(m - w.sched) else m - w.sched))) ∧
    (∃ (s : State) (n : Fin 32) (t : Ticks), let d := s.dev.at_ t; (s.dev.acts = true) ∧ (d.flt.chipSafe = false) ∧ (d.isStandby = false) ∧ (d.admitsWork = true) ∧ ((d.set Od.pin_ENABLE n 1).admitsWork = true) ∧ (((d.set Od.pin_ENABLE n 1).pin n).state = .off) ∧ (d.flt.hold = false)) ∧
    (∃ (s : State) (n : Fin 32) (t : Ticks), let d := s.dev.at_ t; (s.dev.acts = true) ∧ (d.flt.chipSafe = false) ∧ (d.isStandby = false) ∧ (((d.set Od.pin_ENABLE n 0).pin n).state = .on)) ∧
    (∃ (s : State) (n : Fin 32) (t : Ticks), let d := s.dev.at_ t; (s.dev.acts = true) ∧ ((d.pin n).state = .draining ∨ (d.pin n).state = .cancelling) ∧ ((d.pinEntries n).isEmpty = true) ∧ ((d.pin n).ends.isEmpty = true)) ∧
    (∃ (s : State) (n : Fin 32) (t : Ticks), let d := s.dev.at_ t; (s.dev.acts = true) ∧ ((d.pin n).state ≠ .off) ∧ ((d.pin n).lastEdge = none) ∧ (d.cfgB Od.pcl_RECAL_ENABLE n = true) ∧ (d.edgeDue n (20 * us) = false)) ∧
    (∃ (s : State) (n : Fin 32) (rise fall temp : Int) (t at_ : Ticks), let d := s.dev.at_ t; (s.dev.acts = true) ∧ ((d.pin n).recal = some at_) ∧ ((d.pin n).lastEdge = none) ∧ (d.edgeDue n (2 * us) = false)) ∧
    (∃ (s : State) (chip h : Nat) (image : EntryImage) (t : Ticks), (s.dev.acts = true)) ∧
    (∃ (s : State) (chip h sender : Nat) (a : OvlAnswer) (t : Ticks), (s.dev.acts = true) ∧ (chip < 16)) ∧
    (∃ (s : State) (chip h sender : Nat) (a : OvlAnswer) (t : Ticks) (x : OvlExchange) (b : OvlAnswer), let d := s.dev.at_ t; let d1 := d.onExchange chip h (fun x => if sender ∈ x.members && x.answers.all (fun y => y.1 ≠ sender) then { x with answers := x.answers ++ [(sender, a)] } else x); (s.dev.acts = true) ∧ (16 ≤ chip) ∧ (d1.lch.masterEx.find? (fun x => x.chip == chip && x.handle == h && x.decided.isNone) = some x) ∧ (x.joint = some b)) ∧
    (∃ (s : State) (chip h : Nat) (t : Ticks) (x : OvlExchange) (l : Ticks), let d := s.dev.at_ t; (s.dev.acts = true) ∧ (d.lch.masterEx.find? (fun x => x.chip == chip && x.handle == h && x.decided.isNone) = some x) ∧ (d.exchangeInstant x = some l) ∧ (d.isMaster = true) ∧ (chip < 16) ∧ (¬ d.now < l - d.cfg Od.lch_OVL_DECIDE 0)) ∧
    (∃ (s : State) (chip h : Nat) (t : Ticks) (p : OvlPart), let d := s.dev.at_ t; (s.dev.acts = true) ∧ (d.ovlPart chip h = some p) ∧ (chip ≠ d.fry.flo.ownId) ∧ ((match p.image.target with | .overlay _ 0 _ => true | _ => false) = false)) :=
  ⟨⟨wit (fun d => d.setPin 3 { ends := [{ handle := 0, at_ := some 0, brg := 0, goal := 0, dir := .rise, start := 0, committed := true }] }), 3, 10, by decide⟩,
   ⟨wit (fun d => ((d.set Od.pin_SENSE_ENABLE 3 1).set Od.pin_SENSE_LIMIT 3 100).setPin 3 { sense := [{ sched := 5, handle := none, isEnd := false }] }), 3, 6, 10, _, _, by decide, rfl, by decide, by decide, by decide, by decide, by decide⟩,
   ⟨wit (fun d => { d with obj.activeSlot := some 0, cry.lcy.state := .operational }), 3, 0, by decide⟩,
   ⟨wit (fun d => d.setPin 3 { state := .on }), 3, 0, by decide⟩,
   ⟨wit (fun d => d.setPin 3 { state := .draining }), 3, 0, by decide⟩,
   ⟨wit (fun d => (d.set Od.pcl_RECAL_ENABLE 3 1).setPin 3 { state := .on }), 3, 0, by decide⟩,
   ⟨wit (fun d => d.setPin 3 { state := .on, recal := some 5 }), 3, 1, 1, 25, 10, _, by decide, rfl, by decide, by decide⟩,
   ⟨wit id, 1, 2, wImage, 0, by decide⟩,
   ⟨wit id, 1, 2, 3, .refuse, 0, by decide⟩,
   ⟨wit (fun d => { d with lch.masterEx := [{ chip := 17, handle := 2, image := wImage, members := [3], answers := [(3, .ready 5)] }] }), 17, 2, 4, .ready 5, 0, { chip := 17, handle := 2, image := wImage, members := [3], answers := [(3, .ready 5)] }, .ready 5, by decide⟩,
   ⟨wit (fun d => { d with lch.masterEx := [{ chip := 1, handle := 2, image := wImage, members := [3], answers := [(3, .ready 5)] }] }), 1, 2, 10 ^ 15, _, 5, by decide, rfl, rfl, by decide, by decide⟩,
   ⟨wit (fun d => { d with lch.parts := [{ chip := 1, handle := 2, image := wImage, pred := none }] }), 1, 2, 0, _, by decide, rfl, by decide, by decide⟩⟩

theorem witness_DoorbellsAndDispatchComplete :
    (∃ (s : State) (pf : Fin 4) (q : Fin 16384) (pos n : Nat) (t : Ticks), let d := s.dev.at_ t; (s.dev.acts = true) ∧ (d.pfOf q = (pf : Nat)) ∧ ((d.queue q).ringValid = true) ∧ (ringAhead (d.queue q).workLog2 (d.queue q).hostPos (pos % 2 ^ 17) = some n) ∧ (d.delivers q = false) ∧ (¬ 2 ^ (d.queue q).workLog2 - ((d.queue q).hostPos - (d.queue q).devPos) < n)) ∧
    (∃ (s : State) (pf : Fin 4) (q : Fin 16384) (pos n : Nat) (t : Ticks), let d := s.dev.at_ t; (s.dev.acts = true) ∧ (d.pfOf q = (pf : Nat)) ∧ ((d.queue q).ringValid = true) ∧ (ringAhead (d.queue q).workLog2 (d.queue q).hostPos (pos % 2 ^ 17) = some n) ∧ (d.delivers q = true) ∧ (¬ (d.queue q).devPos - (d.queue q).hostPos < n)) ∧
    (∃ (s : State) (pf : Fin 4) (q : Fin 16384) (pos n : Nat) (t : Ticks), let d := s.dev.at_ t; (s.dev.acts = true) ∧ (d.pfOf q = (pf : Nat)) ∧ ((d.queue q).ringValid = true) ∧ (ringAhead (d.queue q).cplLog2 (d.queue q).cplHead (pos % 2 ^ 17) = some n) ∧ (¬ (d.queue q).cplTail - (d.queue q).cplHead < n) ∧ ((d.queue q).gapOpen = none)) ∧
    (∃ (s : State) (q : Fin 16384) (desc : Bytes) (body : Option Bytes) (t : Ticks), let d := s.dev.at_ t; (s.dev.acts = true) ∧ (d.flt.chipSafe = false) ∧ (d.cfg Od.que_TARGET q ≠ 0) ∧ ((d.queue q).ringValid = true ∧ (d.queue q).workChip = false) ∧ ((d.queue q).devPos ≠ (d.queue q).hostPos) ∧ ((d.queue q).slotsFree = true)) ∧
    (∃ (s : State) (n k : Nat) (t0 t : Ticks), let d := s.dev.at_ t; (s.dev.acts = true) ∧ (d.fry.twin.role = .active) ∧ (d.fry.twin.ackedJournal < n ∧ n ≤ d.fry.twin.journal) ∧ ((d.man.unackedAt.filter (fun e => decide (e.1 ≤ n))).getLast? = some (k, t0))) ∧
    (∃ (s : State) (q : Fin 16384) (t : Ticks) (h : Nat) (x : Item), let d := s.dev.at_ t; (s.dev.acts = true) ∧ (d.isStandby = false) ∧ (d.man.saving = false ∧ d.man.parked = false) ∧ (d.flt.chipSafe = false) ∧ ((d.queue q).dmaStall = false ∧ (d.queue q).replay = []) ∧ (d.nextItem q = some (h, x)) ∧ (x.kind ≠ .launchEntry) ∧ (x.unacked = false ∧ x.resend = false ∧ x.expiry = none) ∧ (d.held x = false) ∧ (d.queueOrder x = true ∧ d.convoyOrder x = true) ∧ (d.cfg Od.que_TARGET q = 0) ∧ ((d.queue q).isOpen = true)) ∧
    (∃ (s : State) (q : Fin 16384) (seq h : Nat) (x : Item) (e t : Ticks), let d := s.dev.at_ t; (s.dev.acts = true) ∧ (d.findItem q seq = some (h, x)) ∧ (x.expiry = some e) ∧ (x.state = .accepted ∧ x.unacked = false) ∧ (e ≤ d.now) ∧ (d.held x = false) ∧ (d.isStandby = false)) ∧
    (∃ (s : State) (q : Fin 16384) (seq h : Nat) (x : Item) (t : Ticks), let d := s.dev.at_ t; (s.dev.acts = true) ∧ (d.findItem q seq = some (h, x)) ∧ (x.state = .dispatched) ∧ (¬ d.now < x.dispatchedAt + d.cfg Od.que_CONFIRM_TIMEOUT q) ∧ (d.isStandby = false) ∧ (d.held x = false) ∧ (x.kind ≠ .launchEntry)) ∧
    (∃ (s : State) (q : Fin 16384) (seq h : Nat) (x : Item) (t : Ticks), let d := s.dev.at_ t; (s.dev.acts = true) ∧ (d.flt.chipSafe = false) ∧ (d.isStandby = false) ∧ (d.findItem q seq = some (h, x)) ∧ (d.held x = false) ∧ (x.state = .accepted ∧ x.unacked = false)) ∧
    (∃ (s : State) (q : Fin 16384) (seq h : Nat) (x : Item) (t : Ticks), let d := s.dev.at_ t; (s.dev.acts = true) ∧ (d.flt.chipSafe = false) ∧ (d.isStandby = false) ∧ (d.findItem q seq = some (h, x)) ∧ (d.held x = false) ∧ (x.state = .dispatched)) :=
  ⟨⟨wit (fun d => ((d.set Od.que_TARGET 3 1).set Od.qpf_QUEUE_PF 3 0).setQueue 3 { state := .on, ringValid := true }), 0, 3, 2, 2, 0, by decide⟩,
   ⟨wit (fun d => ((d.set Od.que_TARGET 3 0).set Od.qpf_QUEUE_PF 3 0).setQueue 3 { state := .on, ringValid := true, devPos := 4 }), 0, 3, 2, 2, 0, by decide⟩,
   ⟨wit (fun d => ((d.set Od.que_TARGET 3 1).set Od.qpf_QUEUE_PF 3 0).setQueue 3 { state := .on, ringValid := true, cplTail := 5 }), 0, 3, 2, 2, 0, by decide⟩,
   ⟨wit (fun d => (d.set Od.que_TARGET 3 1).setQueue 3 { state := .on, ringValid := true, hostPos := 1 }), 3, List.replicate 64 0, none, 0, by decide⟩,
   ⟨wit (fun d => { d with fry.twin.role := .active, fry.twin.journal := 4, que.man.unackedAt := [(2, 0)] }), 2, 2, 0, 0, by decide⟩,
   ⟨wit (fun d => { ((d.set Od.que_TARGET 3 0).set Od.que_CONVOY 3 0xFFFF).setQueue 3 { state := .on, ringValid := true } with que.man.items := [(9, wItem)] }), 3, 0, 9, wItem, by decide⟩,
   ⟨wit (fun d => d.setItem 9 { wItem with expiry := some 5 }), 3, 1, 9, { wItem with expiry := some 5 }, 5, 10, by decide⟩,
   ⟨wit (fun d => d.setItem 9 { wItem with state := .dispatched }), 3, 1, 9, { wItem with state := .dispatched }, 10 ^ 15, by decide⟩,
   ⟨wit (fun d => d.setItem 9 wItem), 3, 1, 9, wItem, 0, by decide⟩,
   ⟨wit (fun d => d.setItem 9 { wItem with state := .dispatched }), 3, 1, 9, { wItem with state := .dispatched }, 0, by decide⟩⟩

theorem witness_QueueControlAndHoldupComplete :
    (∃ (s : State) (q : Fin 16384) (v : Nat) (t : Ticks), let d := s.dev.at_ t; (s.dev.acts = true) ∧ (bitOf v 31 = true) ∧ ((d.queue q).ringValid = false) ∧ (4 ≤ bitsOf v 4 0 ∧ bitsOf v 4 0 ≤ 16) ∧ (4 ≤ bitsOf v 12 8 ∧ bitsOf v 12 8 ≤ 16)) ∧
    (∃ (s : State) (q : Fin 16384) (v : Nat) (t : Ticks), let d := s.dev.at_ t; (s.dev.acts = true) ∧ (bitOf v 31 = false) ∧ ((d.queue q).state = .off)) ∧
    (∃ (s : State) (q : Fin 16384) (t : Ticks), let d := s.dev.at_ t; (s.dev.acts = true) ∧ (d.flt.chipSafe = false) ∧ (d.isStandby = false) ∧ (d.queueConfigOk q = true ∧ d.admitsWork = true) ∧ ((d.queue q).ringValid = false ∨ d.queueWindowOk q = true)) ∧
    (∃ (s : State) (q : Fin 16384) (t : Ticks), let d := s.dev.at_ t; (s.dev.acts = true) ∧ (d.flt.chipSafe = false) ∧ (d.isStandby = false) ∧ (d.cfg Od.que_DISABLE_MODE q = 0) ∧ ((d.queue q).state ≠ .off)) ∧
    (∃ (s : State) (q : Fin 16384) (t : Ticks), let d := s.dev.at_ t; (s.dev.acts = true) ∧ (d.flt.chipSafe = false) ∧ (d.isStandby = false) ∧ (d.cfg Od.que_DISABLE_MODE q = 1) ∧ ((d.queue q).state ≠ .off)) ∧
    (∃ (s : State) (q : Fin 16384) (t : Ticks), let d := s.dev.at_ t; (s.dev.acts = true) ∧ ((d.queue q).state = .draining ∨ (d.queue q).state = .cancelling) ∧ (d.queueIdle q = true) ∧ ((d.queue q).written = true)) ∧
    (∃ (s : State) (n : Nat) (rest : List (Nat × Ticks)) (t at_ : Ticks), let d := s.dev.at_ t; (s.dev.acts = true) ∧ (d.man.unackedAt = (n, at_) :: rest) ∧ (d.fry.twin.role = .active) ∧ (at_ + d.cfg Od.twn_DETECT_TIME 0 ≤ d.now)) ∧
    (∃ (s : State) (found : List (Nat × CellFault)) (t : Ticks), (s.dev.acts = true)) ∧
    (∃ (s : State) (t : Ticks), (s.dev.acts = true)) ∧
    (∃ (s : State) (t : Ticks), (s.dev.acts = true)) :=
  ⟨⟨wit id, 3, 0x80000404, 0, by decide⟩,
   ⟨wit id, 3, 0x404, 0, by decide⟩,
   ⟨wit (fun d => { ((d.set Od.que_TARGET 3 1).set Od.que_CONVOY 3 0xFFFF).setQueue 3 { workChip := true, cplChip := true } with obj.activeSlot := some 0, cry.lcy.state := .operational }), 3, 0, by decide⟩,
   ⟨wit (fun d => d.setQueue 3 { state := .on }), 3, 0, by decide⟩,
   ⟨wit (fun d => (d.set Od.que_DISABLE_MODE 3 1).setQueue 3 { state := .on }), 3, 0, by decide⟩,
   ⟨wit (fun d => d.setQueue 3 { state := .draining }), 3, 0, by decide⟩,
   ⟨wit (fun d => { d with fry.twin.role := .active, que.man.unackedAt := [(2, 0)] }), 2, [], 10 ^ 15, 0, by decide⟩,
   ⟨wit id, [(3, .corrected)], 0, by decide⟩,
   ⟨wit id, 0, by decide⟩,
   ⟨wit id, 0, by decide⟩⟩

theorem witness_PortsAndTimeComplete :
    (∃ (s : State) (p : Fin 32) (t : Ticks), let d := s.dev.at_ t; (s.dev.acts = true) ∧ (d.flt.chipSafe = false) ∧ (d.isStandby = false) ∧ (d.cfg Od.prt_MODE p ≠ 0)) ∧
    (∃ (s : State) (p : Fin 32) (t : Ticks), let d := s.dev.at_ t; (s.dev.acts = true) ∧ (d.flt.chipSafe = false) ∧ (d.isStandby = false)) ∧
    (∃ (s : State) (p : Fin 32) (up : Bool) (t : Ticks), let d := s.dev.at_ t; (s.dev.acts = true) ∧ ((d.port p).link ≠ up)) ∧
    (∃ (s : State) (m : SyncMsg) (t : Ticks), let d := s.dev.at_ t; (s.dev.acts = true) ∧ (d.cfg Od.tim_PROFILE 0 ≠ 0) ∧ (d.syncTaken m = true) ∧ (betterClock d.ownClock m.master = false) ∧ (d.net.time.master = [] ∨ betterClock d.net.time.master m.master = false) ∧ (m.offset < d.cfg Od.tim_LOCK_THRESHOLD 0 ∧ -m.offset < d.cfg Od.tim_LOCK_THRESHOLD 0) ∧ (d.net.time.state = .locked)) ∧
    (∃ (s : State) (t : Ticks), let d := s.dev.at_ t; (s.dev.acts = true) ∧ (d.net.time.state = .locked) ∧ (d.net.time.lastSync + 4 * d.net.time.syncInterval ≤ d.now)) ∧
    (∃ (s : State) (t : Ticks), let d := s.dev.at_ t; (s.dev.acts = true) ∧ (d.net.time.state = .holdover) ∧ (d.net.time.enteredAt + d.cfg Od.tim_HOLDOVER_LIMIT 0 < d.now)) ∧
    (∃ (s : State) (t : Ticks), let d := s.dev.at_ t; (s.dev.acts = true) ∧ (d.cfgB Od.tim_PPS_OUT_ENABLE 0 = true) ∧ (d.now % sec = 0)) ∧
    (∃ (s : State) (stamp t : Ticks), let d := s.dev.at_ t; (s.dev.acts = true) ∧ (d.net.time.state = .holdover) ∧ (d.cfg Od.tim_REF_SOURCE 0 = 1 ∨ d.cfg Od.tim_REF_SOURCE 0 = 3)) :=
  ⟨⟨wit (fun d => d.set Od.prt_MODE 3 1), 3, 0, by decide⟩,
   ⟨wit id, 3, 0, by decide⟩,
   ⟨wit id, 3, true, 0, by decide⟩,
   ⟨wit (fun d => { ((d.set Od.tim_PROFILE 0 1).set Od.tim_LOCK_THRESHOLD 0 100).set Od.tim_TIME_PORTS 0 2 with net.time.state := .locked }), { port := 1, domain := 0, master := [0, 0, 0, 0, 0, 0], offset := 0, unc := 0, gm := [], steps := 0, pathDelay := 0, interval := 1 }, 0, by decide⟩,
   ⟨wit (fun d => { d with net.time.state := .locked }), 10 ^ 18, by decide⟩,
   ⟨wit (fun d => { d with net.time.state := .holdover }), 10 ^ 21, by decide⟩,
   ⟨wit (fun d => d.set Od.tim_PPS_OUT_ENABLE 0 1), 0, by decide⟩,
   ⟨wit (fun d => { d.set Od.tim_REF_SOURCE 0 1 with net.time.state := .holdover }), 5, 0, by decide⟩⟩

theorem witness_SessionSetupAndControlComplete :
    (∃ (s : State) (f : Fragment) (m : Bytes) (d0 e : Dev) (t : Ticks), let d := s.dev.at_ t; (s.dev.acts = true) ∧ (d.linkTake f.port (28 + f.bytes.length) f.crcOk f.carrier = (true, d0)) ∧ (d0.reassemble 1 f = (some m, e))) ∧
    (∃ (s : State) (f : Fragment) (m : Bytes) (d0 e : Dev) (t : Ticks), let d := s.dev.at_ t; (s.dev.acts = true) ∧ (d.linkTake f.port (28 + f.bytes.length) f.crcOk f.carrier = (true, d0)) ∧ (d0.reassemble 2 f = (some m, e))) ∧
    (∃ (s : State) (f : Fragment) (m : Bytes) (d0 e : Dev) (t : Ticks), let d := s.dev.at_ t; (s.dev.acts = true) ∧ (d.linkTake f.port (28 + f.bytes.length) f.crcOk f.carrier = (true, d0)) ∧ (d0.reassemble 3 f = (some m, e))) ∧
    (∃ (s : State) (f : Fragment) (m : Bytes) (d0 e : Dev) (t : Ticks), let d := s.dev.at_ t; (s.dev.acts = true) ∧ (d.linkTake f.port (28 + f.bytes.length) f.crcOk f.carrier = (true, d0)) ∧ (d0.reassemble 4 f = (some m, e))) ∧
    (∃ (s : State) (t : Ticks), (s.dev.acts = true)) ∧
    (∃ (s : State) (i : Fin 16384) (u : Setup) (t : Ticks), let d := s.dev.at_ t; (s.dev.acts = true) ∧ ((d.ses i).setup = some u) ∧ (u.lastSent + 20 * ms ≤ d.now) ∧ (u.expect ≠ 0 ∧ u.sent ≠ [])) ∧
    (∃ (s : State) (i : Fin 16384) (fresh : Bool) (t : Ticks), let d := s.dev.at_ t; (s.dev.acts = true) ∧ (d.flt.chipSafe = false) ∧ (d.isStandby = false) ∧ (d.cfgB Od.ses_ENABLE i = true)) ∧
    (∃ (s : State) (i : Fin 16384) (t : Ticks), let d := s.dev.at_ t; (s.dev.acts = true) ∧ (d.flt.chipSafe = false) ∧ (d.isStandby = false)) ∧
    (∃ (s : State) (i : Fin 16384) (t : Ticks), let d := s.dev.at_ t; (s.dev.acts = true) ∧ (d.flt.chipSafe = false) ∧ (d.isStandby = false)) ∧
    (∃ (s : State) (i : Fin 16384) (e t : Ticks), let d := s.dev.at_ t; (s.dev.acts = true) ∧ ((d.ses i).certExpires = some e) ∧ (e ≤ d.now) ∧ ((d.ses i).state ≠ .closed)) ∧
    (∃ (s : State) (i : Fin 16384) (t : Ticks), let d := s.dev.at_ t; (s.dev.acts = true) ∧ ((d.ses i).state.live = true) ∧ ((d.ses i).lastHbTx + d.cfg Od.ses_HB_PERIOD i ≤ d.now) ∧ (d.standsBy i = false)) ∧
    (∃ (s : State) (i : Fin 16384) (t : Ticks), let d := s.dev.at_ t; (s.dev.acts = true) ∧ ((d.ses i).state = .opened) ∧ ((d.ses i).lastHbRx + d.cfg Od.ses_HB_TIMEOUT i ≤ d.now) ∧ (d.standsBy i = false)) :=
  ⟨⟨wit id, wFrag, _, _, _, 0, by decide, rfl, rfl⟩,
   ⟨wit id, wFrag, _, _, _, 0, by decide, rfl, rfl⟩,
   ⟨wit id, wFrag, _, _, _, 0, by decide, rfl, rfl⟩,
   ⟨wit id, wFrag, _, _, _, 0, by decide, rfl, rfl⟩,
   ⟨wit id, 0, by decide⟩,
   ⟨wSession { setup := some wSetup }, 5, wSetup, 10 ^ 15, by decide⟩,
   ⟨wit (fun d => d.set Od.ses_ENABLE 5 1), 5, true, 0, by decide⟩,
   ⟨wit id, 5, 0, by decide⟩,
   ⟨wit id, 5, 0, by decide⟩,
   ⟨wSession { certExpires := some 4 }, 5, 4, 10, by decide⟩,
   ⟨wSession {}, 5, 10 ^ 15, by decide⟩,
   ⟨wSession {}, 5, 10 ^ 15, by decide⟩⟩

theorem witness_ReceivedFramesComplete :
    (∃ (s : State) (f : RxFrame) (i : Nat) (p : Bytes) (t : Ticks), let d := s.dev.at_ t; (s.dev.acts = true) ∧ ((d.receive 0 f).1 = some (i, p)) ∧ (f.seq < ((d.receive 0 f).2.ses i).rxFloor)) ∧
    (∃ (s : State) (f : RxFrame) (i q : Nat) (p : Bytes) (t : Ticks), let d := s.dev.at_ t; (s.dev.acts = true) ∧ ((d.receive 0 f).1 = some (i, p)) ∧ (¬ f.seq < ((d.receive 0 f).2.ses i).rxFloor) ∧ ((d.receive 0 f).2.ingressQueue i = some q) ∧ (p.length ≠ 0 ∧ ¬ 240 < p.length)) ∧
    (∃ (s : State) (f : RxFrame) (i : Nat) (p : Bytes) (t : Ticks), let d := s.dev.at_ t; (s.dev.acts = true) ∧ ((d.receive 1 f).1 = some (i, p))) ∧
    (∃ (s : State) (f : RxFrame) (i : Nat) (p : Bytes) (t : Ticks), let d := s.dev.at_ t; (s.dev.acts = true) ∧ ((d.receive 11 f).1 = some (i, p))) ∧
    (∃ (s : State) (f : RxFrame) (i : Nat) (p : Bytes) (t : Ticks), let d := s.dev.at_ t; (s.dev.acts = true) ∧ ((d.receive 2 f).1 = some (i, p))) ∧
    (∃ (s : State) (f : RxFrame) (i : Nat) (p : Bytes) (t : Ticks), let d := s.dev.at_ t; (s.dev.acts = true) ∧ ((d.receive 5 f).1 = some (i, p))) ∧
    (∃ (s : State) (f : RxFrame) (i : Nat) (p : Bytes) (t : Ticks), let d := s.dev.at_ t; (s.dev.acts = true) ∧ ((d.receive 3 f).1 = some (i, p))) ∧
    (∃ (s : State) (f : RxFrame) (i : Nat) (p : Bytes) (t : Ticks), let d := s.dev.at_ t; (s.dev.acts = true) ∧ ((d.receive 6 f).1 = some (i, p))) ∧
    (∃ (s : State) (f : RxFrame) (i : Nat) (p : Bytes) (t : Ticks), let d := s.dev.at_ t; (s.dev.acts = true) ∧ ((d.receive 7 f).1 = some (i, p)) ∧ (((d.receive 7 f).2.ses i).claim < beAt p 0 4)) ∧
    (∃ (s : State) (f : RxFrame) (i : Nat) (p : Bytes) (u : KeyUpdate) (t : Ticks), let d := s.dev.at_ t; (s.dev.acts = true) ∧ ((d.receive 8 f).1 = some (i, p)) ∧ (((d.receive 8 f).2.ses i).upd = some u) ∧ (beAt p 0 4 = ((d.receive 8 f).2.ses i).newestGen ∧ u.gen = ((d.receive 8 f).2.ses i).newestGen) ∧ (bitOf (leAt p 10 1) 1 = true) ∧ (u.rebase = false)) ∧
    (∃ (s : State) (f : RxFrame) (i : Nat) (p : Bytes) (t : Ticks), let d := s.dev.at_ t; (s.dev.acts = true) ∧ ((d.receive 9 f).1 = some (i, p)) ∧ (p.length = 8) ∧ ((d.receive 9 f).2.que.man.items = [])) :=
  ⟨⟨wSession { rxFloor := 9 }, sealedAs 1 [169, 106, 202, 245, 107, 94, 235, 82, 11, 196, 124, 58, 42, 103, 166, 54, 0], 5, [1], 10, by decide +kernel⟩,
   ⟨wSession {} |>.onDev (fun d => ((d.set Od.que_TARGET 3 1).set Od.que_SOURCES 3 2).set Od.que_SESSION 3 77), sealedAs 1 [169, 106, 202, 245, 107, 94, 235, 82, 11, 196, 124, 58, 42, 103, 166, 54, 0], 5, 3, [1], 10, by decide +kernel⟩,
   ⟨wSession {}, sealedAs 8 [168, 44, 16, 70, 218, 11, 112, 68, 234, 247, 176, 121, 27, 174, 37, 53, 224, 50, 134, 21, 39, 163, 146, 33], 5, List.replicate 8 0, 10, by decide +kernel⟩,
   ⟨wSession {}, sealedAs 8 [168, 44, 16, 70, 218, 11, 112, 68, 190, 243, 2, 220, 241, 232, 72, 3, 78, 204, 159, 105, 220, 234, 245, 18], 5, List.replicate 8 0, 10, by decide +kernel⟩,
   ⟨wSession {}, sealedAs 1 [169, 123, 158, 208, 181, 150, 85, 78, 80, 178, 79, 104, 204, 255, 78, 125, 15], 5, [1], 10, by decide +kernel⟩,
   ⟨wSession {}, sealedAs 1 [26, 181, 26, 112, 9, 1, 244, 247, 66, 206, 217, 180, 217, 51, 173, 232, 165], 5, [1], 10, by decide +kernel⟩,
   ⟨wSession {}, sealedAs 1 [169, 146, 52, 194, 90, 242, 10, 64, 125, 9, 86, 193, 191, 179, 58, 88, 136], 5, [1], 10, by decide +kernel⟩,
   ⟨wSession {}, sealedAs 24 [30, 148, 237, 194, 145, 236, 82, 251, 203, 171, 250, 156, 172, 92, 198, 190, 209, 81, 42, 141, 206, 143, 146, 178, 143, 10, 247, 240, 200, 153, 55, 16, 74, 6, 156, 115, 176, 91, 151, 0], 5, List.replicate 24 0, 10, by decide +kernel⟩,
   ⟨wSession {}, sealedAs 8 [30, 148, 237, 198, 145, 236, 82, 251, 76, 182, 83, 41, 24, 237, 163, 83, 130, 216, 214, 130, 182, 172, 146, 184], 5, [0, 0, 0, 4, 0, 0, 0, 0], 10, by decide +kernel⟩,
   ⟨wSession { upd := some wUpd }, sealedAs 12 [30, 148, 237, 194, 145, 236, 82, 251, 203, 162, 248, 156, 228, 66, 13, 127, 152, 84, 212, 32, 32, 202, 14, 91, 161, 221, 130, 9], 5, [0, 0, 0, 0, 0, 0, 0, 0, 0, 9, 2, 0], wUpd, 10, by decide +kernel⟩,
   ⟨wSession {}, sealedAs 8 [168, 44, 16, 70, 218, 10, 112, 68, 85, 228, 25, 178, 137, 186, 191, 2, 148, 180, 58, 101, 112, 119, 244, 162], 5, [0, 0, 0, 0, 0, 1, 0, 0], 10, by decide +kernel⟩⟩

theorem witness_SessionKeysAndSafeFramesComplete :
    (∃ (s : State) (q : Fin 16384) (seq h n i : Nat) (x : Item) (t : Ticks), let d := s.dev.at_ t; (s.dev.acts = true) ∧ (d.findItem q seq = some (h, x)) ∧ (x.state = .dispatched ∧ x.sff = some n) ∧ (¬ d.now < x.retxAt) ∧ (d.isStandby = false) ∧ (x.kind ≠ .launchEntry) ∧ (d.sesOf (d.cfgN Od.que_SESSION q) = some i) ∧ (d.maySeal0 i = true)) ∧
    (∃ (s : State) (i : Fin 16384) (t : Ticks), let d := s.dev.at_ t; (s.dev.acts = true) ∧ (d.flt.chipSafe = false) ∧ (d.isStandby = false) ∧ ((d.ses i).state.live = true) ∧ ((d.ses i).updating = false) ∧ ((d.ses i).keys.isSome = true)) ∧
    (∃ (s : State) (i : Fin 16384) (u : KeyUpdate) (t : Ticks), let d := s.dev.at_ t; (s.dev.acts = true) ∧ ((d.ses i).upd = some u) ∧ (u.replied = false) ∧ (¬ d.now < u.sentAt + (if u.attempts ≤ 3 then 10 * ms else d.cfg Od.ses_HB_PERIOD i)) ∧ (d.standsBy i = false)) ∧
    (∃ (s : State) (i : Fin 16384) (k : SessionKeys) (e t : Ticks), let d := s.dev.at_ t; (s.dev.acts = true) ∧ ((d.ses i).overlapEnd = some e) ∧ ((d.ses i).nextKeys = some k) ∧ (e ≤ d.now)) ∧
    (∃ (s : State) (i : Fin 16384) (t : Ticks), let d := s.dev.at_ t; (s.dev.acts = true) ∧ ((d.ses i).state = .exhausted) ∧ ((d.ses i).rebasing = false) ∧ (d.oldestCmd i = none) ∧ (d.standsBy i = false)) ∧
    (∃ (s : State) (i : Fin 16384) (u : KeyUpdate) (t : Ticks), let d := s.dev.at_ t; (s.dev.acts = true) ∧ ((d.ses i).upd = some u) ∧ ((d.ses i).rebasing = true) ∧ (u.replied = false) ∧ (u.startedAt + sec ≤ d.now)) ∧
    (∃ (s : State) (i : Fin 16384) (t : Ticks), let d := s.dev.at_ t; (s.dev.acts = true) ∧ (d.flt.chipSafe = false) ∧ (d.isStandby = false) ∧ ((d.ses i).state.live = true) ∧ (d.cfgB Od.ses_SAFE_ENABLE i = true) ∧ ((d.ses i).safeSealed.isSome = true)) ∧
    (∃ (s : State) (i : Fin 16384) (t : Ticks), let d := s.dev.at_ t; (s.dev.acts = true) ∧ ((d.ses i).safeLeft = 1) ∧ (¬ d.now < (d.ses i).safeAt)) :=
  ⟨⟨wit (fun d => ((({ d with net.sessions := [(5, { state := .opened, keys := some wKeys })] }).set Od.ses_SESSION_ID 5 77).set Od.que_SESSION 3 77).setItem 9 { wItem with state := .dispatched, sff := some 4 }), 3, 1, 9, 4, 5, { wItem with state := .dispatched, sff := some 4 }, 10 ^ 15, by decide⟩,
   ⟨wSession {}, 5, 0, by decide⟩,
   ⟨wSession { upd := some wUpd }, 5, wUpd, 10 ^ 15, by decide⟩,
   ⟨wSession { overlapEnd := some 4, nextKeys := some { gen := 1, k := [], u := [] } }, 5, { gen := 1, k := [], u := [] }, 4, 10, by decide⟩,
   ⟨wit (fun d => { d with net.sessions := [(5, { state := .exhausted })] }), 5, 0, by decide⟩,
   ⟨wSession { rebasing := true, upd := some wUpd }, 5, wUpd, 10 ^ 15, by decide⟩,
   ⟨wit (fun d => ({ d with net.sessions := [(5, { state := .opened, safeSealed := some ({ type := 5, flags := 0, session := 77, claim := 0, seq := 0 }, []) })] }).set Od.ses_SAFE_ENABLE 5 1), 5, 0, by decide⟩,
   ⟨wSession { safeLeft := 1 }, 5, 10 ^ 15, by decide⟩⟩

theorem witness_StreamsComplete :
    (∃ (s : State) (n : Fin 1024) (t : Ticks), let d := s.dev.at_ t; (s.dev.acts = true) ∧ (d.flt.chipSafe = false) ∧ (d.isStandby = false)) ∧
    (∃ (s : State) (n : Fin 1024) (a k : Nat) (r : StreamIn) (rest : Tab StreamIn) (t : Ticks), let d := s.dev.at_ t; (s.dev.acts = true) ∧ ((d.str n).next = some a) ∧ ((d.str n).ahead = (k, r) :: rest) ∧ ((d.str n).on = true ∧ a < k) ∧ (rest.foldl (fun m e => min m e.2.arrival) r.arrival + d.cfg Od.str_REORDER_TIME n ≤ d.now)) ∧
    (∃ (s : State) (n : Fin 1024) (e : Epoch) (t : Ticks), let d := s.dev.at_ t; (s.dev.acts = true) ∧ ((d.str n).cur = some e) ∧ (e.openAt + d.cfg Od.str_EPOCH_TIME n * (if bitOf e.flags epExtended then 2 else 1) ≤ d.now) ∧ (d.isStandby = false)) ∧
    (∃ (s : State) (n : Fin 1024) (e : EpochRec) (rest : List EpochRec) (t : Ticks), let d := s.dev.at_ t; (s.dev.acts = true) ∧ ((d.str n).waiting = e :: rest) ∧ (d.isStandby = false)) ∧
    (∃ (s : State) (n : Fin 1024) (low high : BVal) (ref : Bytes) (t : Ticks), let d := s.dev.at_ t; (s.dev.acts = true) ∧ (d.flt.chipSafe = false) ∧ (d.isStandby = false) ∧ ((d.str n).certState ≠ 1 ∧ (d.str n).certState ≠ 2) ∧ (d.cfgN Od.str_BEARING_A n ≠ 0xFF) ∧ (bvBefore low high = true) ∧ ((d.str n).on = true)) ∧
    (∃ (s : State) (n : Fin 1024) (b : Bytes) (t : Ticks), let d := s.dev.at_ t; (s.dev.acts = true) ∧ ((d.str n).certSigning = some b)) :=
  ⟨⟨wit (fun d => { d with net.streams := [(4, { on := true })] }), 4, 0, by decide⟩,
   ⟨wit (fun d => { d with net.streams := [(4, { on := true, next := some 2, ahead := [(5, { seq := 5, at_ := 0, arrival := 0, stampA := none, stampB := none, flags := 0, data := [] })] })] }), 4, 2, 5, { seq := 5, at_ := 0, arrival := 0, stampA := none, stampB := none, flags := 0, data := [] }, [], 10 ^ 15, by decide⟩,
   ⟨wit (fun d => { d with net.streams := [(4, { on := true, cur := some { number := 3, openAt := 0 } })] }), 4, { number := 3, openAt := 0 }, 10 ^ 18, by decide⟩,
   ⟨wit (fun d => { d with net.streams := [(4, { waiting := [{ number := 1, lastSeq := 2, chain := [], body := [] }] })] }), 4, { number := 1, lastSeq := 2, chain := [], body := [] }, [], 0, by decide⟩,
   ⟨wit (fun d => { d.set Od.str_BEARING_A 4 2 with net.streams := [(4, { on := true })] }), 4, 0, 5, [], 0, by decide⟩,
   ⟨wit (fun d => { d with net.streams := [(4, { certSigning := some [1] })] }), 4, [1], 0, by decide⟩⟩

theorem witness_FerryPortsComplete :
    (∃ (s : State) (p : Fin 8) (t : Ticks), let d := s.dev.at_ t; (s.dev.acts = true) ∧ (d.flt.chipSafe = false) ∧ (d.isStandby = false) ∧ ((d.fport p).state = .off ∨ (d.fport p).state = .fault)) ∧
    (∃ (s : State) (p : Fin 8) (t : Ticks), let d := s.dev.at_ t; (s.dev.acts = true) ∧ (d.flt.chipSafe = false) ∧ (d.isStandby = false)) ∧
    (∃ (s : State) (p : Fin 8) (t : Ticks), let d := s.dev.at_ t; (s.dev.acts = true) ∧ ((d.fport p).trains = true) ∧ ((d.fport p).trainStart + 20 * ms ≤ d.now)) ∧
    (∃ (s : State) (p : Fin 8) (r : FerryTrained) (t : Ticks), let d := s.dev.at_ t; (s.dev.acts = true) ∧ ((d.fport p).trains = true) ∧ (r.width ≠ 0) ∧ (d.idConflict p r = false) ∧ (d.wiring p = some (r.peerId, r.peerPort)) ∧ (d.ferryAuth r = true) ∧ ((d.fport p).width = r.width)) ∧
    (∃ (s : State) (p : Fin 8) (ack : Nat) (t : Ticks), let d := s.dev.at_ t; (s.dev.acts = true) ∧ ((d.fport p).state = .up)) ∧
    (∃ (s : State) (p : Fin 8) (ack : Nat) (t : Ticks), let d := s.dev.at_ t; (s.dev.acts = true) ∧ ((d.fport p).state = .up)) ∧
    (∃ (s : State) (p : Fin 8) (ack : Nat) (t : Ticks), let d := s.dev.at_ t; (s.dev.acts = true) ∧ ((d.fport p).state = .up)) ∧
    (∃ (s : State) (p : Fin 8) (ack : Nat) (t : Ticks), let d := s.dev.at_ t; (s.dev.acts = true) ∧ ((d.fport p).state = .up)) ∧
    (∃ (s : State) (p : Fin 8) (t : Ticks), let d := s.dev.at_ t; (s.dev.acts = true) ∧ ((d.fport p).state = .up) ∧ ((d.fport p).lastTx + 200 * ns ≤ d.now)) ∧
    (∃ (s : State) (p : Fin 8) (f : LinkFrame) (rest : List LinkFrame) (t : Ticks), let d := s.dev.at_ t; (s.dev.acts = true) ∧ ((d.fport p).replay = f :: rest) ∧ ((d.fport p).state = .up) ∧ (f.sentAt + 500 * ns ≤ d.now)) ∧
    (∃ (s : State) (p : Fin 8) (t : Ticks), let d := s.dev.at_ t; (s.dev.acts = true) ∧ ((d.fport p).state = .up) ∧ ((d.fport p).lastRx + 2 * us ≤ d.now)) ∧
    (∃ (s : State) (p : Fin 8) (t : Ticks), let d := s.dev.at_ t; (s.dev.acts = true) ∧ ((d.fport p).state = .up) ∧ ((d.fport p).timeSent + us ≤ d.now)) ∧
    (∃ (s : State) (p : Fin 8) (x : TimeExchange) (t : Ticks), let d := s.dev.at_ t; (s.dev.acts = true) ∧ ((d.fport p).state = .up) ∧ (x.link.crcOk = true ∧ x.link.seq = (d.fport p).rxSeq ∧ x.link.tagOk = true)) ∧
    (∃ (s : State) (p : Fin 8) (x : TimeExchange) (t : Ticks), let d := s.dev.at_ t; (s.dev.acts = true) ∧ ((d.fport p).state = .up) ∧ (x.link.crcOk = false ∨ x.link.seq ≠ (d.fport p).rxSeq)) ∧
    (∃ (s : State) (p : Fin 8) (x : TimeExchange) (t : Ticks), let d := s.dev.at_ t; (s.dev.acts = true) ∧ ((d.fport p).state = .up) ∧ (x.link.crcOk = true ∧ x.link.seq = (d.fport p).rxSeq) ∧ (x.link.tagOk = false)) ∧
    (∃ (s : State) (t : Ticks), let d := s.dev.at_ t; (s.dev.acts = true) ∧ (d.fry.flo.master ≠ d.fry.flo.ownId) ∧ (d.fry.flo.heard.find d.fry.flo.master = none)) :=
  ⟨⟨wit id, 2, 0, by decide⟩,
   ⟨wit id, 2, 0, by decide⟩,
   ⟨wit (fun d => d.setFPort 2 { state := .training }), 2, 10 ^ 15, by decide⟩,
   ⟨wit (fun d => ((d.set Od.flo_MEMBERS 0 3).set Od.flo_TOPOLOGY 0 1).setFPort 0 { state := .training, width := 4 }), 0, { lane0 := true, lane1 := true, lane2 := true, lane3 := true, peerId := 1, peerPort := 0, peerUnit := List.replicate 16 0, peerChart := [], peerPub := [], authOk := true }, 0, by decide⟩,
   ⟨wit (fun d => d.setFPort 2 { state := .up }), 2, 0, 0, by decide⟩,
   ⟨wit (fun d => d.setFPort 2 { state := .up }), 2, 0, 0, by decide⟩,
   ⟨wit (fun d => d.setFPort 2 { state := .up }), 2, 0, 0, by decide⟩,
   ⟨wit (fun d => d.setFPort 2 { state := .up }), 2, 0, 0, by decide⟩,
   ⟨wit (fun d => d.setFPort 2 { state := .up }), 2, 10 ^ 15, by decide⟩,
   ⟨wit (fun d => d.setFPort 2 { state := .up, replay := [{ cls := 1, msg := 1, dst := 1, seq := 3, payload := [], sentAt := 0, resends := 0 }] }), 2, _, _, 10 ^ 15, by decide, rfl, by decide, by decide⟩,
   ⟨wit (fun d => d.setFPort 2 { state := .up }), 2, 10 ^ 15, by decide⟩,
   ⟨wit (fun d => d.setFPort 2 { state := .up }), 2, 10 ^ 15, by decide⟩,
   ⟨wit (fun d => d.setFPort 2 { state := .up }), 2, { link := { seq := 0, tagOk := true }, t1 := 0, t2 := 5, t3 := 6, t4 := 11, filtered := 0, src := 1, chartValid := true, beyond := [], hops := 0, timeState := .locked, timeUnc := 0 }, 100, by decide⟩,
   ⟨wit (fun d => d.setFPort 2 { state := .up }), 2, { link := { seq := 1, tagOk := true }, t1 := 0, t2 := 5, t3 := 6, t4 := 11, filtered := 0, src := 1, chartValid := true, beyond := [], hops := 0, timeState := .locked, timeUnc := 0 }, 100, by decide⟩,
   ⟨wit (fun d => d.setFPort 2 { state := .up }), 2, { link := { seq := 0, tagOk := false }, t1 := 0, t2 := 5, t3 := 6, t4 := 11, filtered := 0, src := 1, chartValid := true, beyond := [], hops := 0, timeState := .locked, timeUnc := 0 }, 100, by decide⟩,
   ⟨wit (fun d => { d with fry.flo.master := 3 }), 0, by decide⟩⟩

theorem witness_TwinPairComplete :
    (∃ (s : State) (t : Ticks), let d := s.dev.at_ t; (s.dev.acts = true) ∧ (d.twin.role ≠ .alone) ∧ (¬ d.now < d.twin.hbSentAt + us) ∧ (d.flt.chipSafe = false) ∧ (d.twinMode ≠ 1)) ∧
    (∃ (s : State) (h : TwinHeartbeat) (t : Ticks), let d := s.dev.at_ t; (s.dev.acts = true) ∧ (d.twin.role ≠ .alone) ∧ (h.crcOk = true) ∧ (h.path = 1)) ∧
    (∃ (s : State) (n : Nat) (c : CellRec) (t : Ticks), let d := s.dev.at_ t; (s.dev.acts = true) ∧ (d.twin.role = .standby) ∧ (n = d.twin.applied + 1 ∨ n = d.twin.applied)) ∧
    (∃ (s : State) (i : Fin 16384) (c : SessionCopy) (t : Ticks), let d := s.dev.at_ t; (s.dev.acts = true) ∧ (d.twin.role = .standby ∨ d.twin.role = .syncing)) ∧
    (∃ (s : State) (i : Fin 16384) (k : SessionKeys) (r : Bytes) (t : Ticks), let d := s.dev.at_ t; (s.dev.acts = true) ∧ (d.twin.role = .standby ∨ d.twin.role = .syncing)) ∧
    (∃ (s : State) (i : Fin 16384) (k old : SessionKeys) (n : Nat) (t : Ticks), let d := s.dev.at_ t; (s.dev.acts = true) ∧ (d.twin.role = .standby ∨ d.twin.role = .syncing) ∧ ((d.twinGot.ses i).keys = some old)) ∧
    (∃ (s : State) (claim reason : Nat) (t : Ticks), let d := s.dev.at_ t; (s.dev.acts = true) ∧ (d.twin.role = .standby)) ∧
    (∃ (s : State) (block half : Nat) (cells : List CellRec) (t : Ticks), let d := s.dev.at_ t; (s.dev.acts = true) ∧ (d.twin.role = .syncing)) ∧
    (∃ (s : State) (t : Ticks), let d := s.dev.at_ t; (s.dev.acts = true) ∧ (d.silent = true) ∧ (d.twin.role = .standby)) ∧
    (∃ (s : State) (t : Ticks), let d := s.dev.at_ t; (s.dev.acts = true) ∧ (d.silent = true) ∧ (d.twin.role = .standby)) ∧
    (∃ (s : State) (since t : Ticks), let d := s.dev.at_ t; (s.dev.acts = true) ∧ (d.twin.role = .standby) ∧ (d.twin.behindSince = some since) ∧ (since + d.cfg Od.twn_DETECT_TIME 0 ≤ d.now)) ∧
    (∃ (s : State) (t : Ticks), let d := s.dev.at_ t; (s.dev.acts = true) ∧ (d.twin.role = .waiting) ∧ (d.twin.waitingSince + d.cfg Od.twn_JOIN_TIME 0 ≤ d.now)) ∧
    (∃ (s : State) (t : Ticks), let d := s.dev.at_ t; (s.dev.acts = true) ∧ (d.twin.isolated = true) ∧ (d.twin.isolatedAt + d.cfg Od.twn_ISOLATION_CONFIRM 0 ≤ d.now) ∧ (d.twin.seen ≤ d.twin.claim) ∧ (d.net.sessions.all (fun e => e.2.state ≠ .opened || decide (d.twin.isolatedAt ≤ e.2.lastHbTx)) = true)) ∧
    (∃ (s : State) (t : Ticks), let d := s.dev.at_ t; (s.dev.acts = true) ∧ (d.flt.chipSafe = false)) ∧
    (∃ (s : State) (t : Ticks), let d := s.dev.at_ t; (s.dev.acts = true) ∧ (d.twin.role = .active) ∧ (d.silent = true)) ∧
    (∃ (s : State) (path : Fin 3) (since t : Ticks), let d := s.dev.at_ t; (s.dev.acts = true) ∧ (path = 1) ∧ (d.twin.hb1 = some since ∧ d.twin.path1 = true) ∧ (since + d.cfg Od.twn_DETECT_TIME 0 ≤ d.now)) :=
  ⟨⟨wit (fun d => d.onTwin (fun x => { x with role := .activeSingle })), 10 ^ 15, by decide⟩,
   ⟨wit (fun d => d.onTwin (fun x => { x with role := .activeSingle })), { path := 1, crcOk := true, claim := 0, role := .standby, joined := false, mirrorStale := false, yield := false, pinsDriven := false, isolated := false, seq := 0, journal := 0, digest := [], ceiling := 0 }, 5, by decide⟩,
   ⟨wit (fun d => d.onTwin (fun x => { x with role := .standby })), 1, .free 0, 0, by decide⟩,
   ⟨wit (fun d => d.onTwin (fun x => { x with role := .standby })), 5, {}, 0, by decide⟩,
   ⟨wit (fun d => d.onTwin (fun x => { x with role := .standby })), 5, wKeys, [], 0, by decide⟩,
   ⟨wSession {} |>.onDev (fun d => d.onTwin (fun x => { x with role := .standby })), 5, { wKeys with gen := 1 }, wKeys, 40, 0, by decide⟩,
   ⟨wit (fun d => d.onTwin (fun x => { x with role := .standby })), 5, 1, 0, by decide⟩,
   ⟨wit (fun d => d.onTwin (fun x => { x with role := .syncing })), 0, 0, [], 0, by decide⟩,
   ⟨wit (fun d => d.onTwin (fun x => { x with role := .standby })), 0, by decide⟩,
   ⟨wit (fun d => d.onTwin (fun x => { x with role := .standby })), 0, by decide⟩,
   ⟨wit (fun d => d.onTwin (fun x => { x with role := .standby, behindSince := some 0 })), 0, 10 ^ 15, by decide⟩,
   ⟨wit (fun d => d.onTwin (fun x => { x with role := .waiting })), 10 ^ 18, by decide⟩,
   ⟨wit (fun d => d.onTwin (fun x => { x with role := .active, isolated := true })), 10 ^ 18, by decide⟩,
   ⟨wit (fun d => d.onTwin (fun x => { x with role := .active, isolated := true })), 0, by decide⟩,
   ⟨wit (fun d => d.onTwin (fun x => { x with role := .active })), 0, by decide⟩,
   ⟨wit (fun d => d.onTwin (fun x => { x with role := .active, hb1 := some 0, path1 := true })), 1, 0, 10 ^ 15, by decide⟩⟩

theorem witness_YieldsAndPiersComplete :
    (∃ (s : State) (t : Ticks), let d := s.dev.at_ t; (s.dev.acts = true) ∧ (d.flt.chipSafe = false) ∧ (d.twin.role = .active) ∧ (d.twin.yieldAt = none) ∧ (d.man.unackedAt = []) ∧ (d.twinMode ≠ 1)) ∧
    (∃ (s : State) (claim : Nat) (y t : Ticks), let d := s.dev.at_ t; (s.dev.acts = true) ∧ (d.twin.role = .standby) ∧ (d.twin.claim ≤ claim)) ∧
    (∃ (s : State) (y t : Ticks), let d := s.dev.at_ t; (s.dev.acts = true) ∧ (d.twin.role = .standby) ∧ (d.twin.yieldAt = some y) ∧ (y ≤ d.now)) ∧
    (∃ (s : State) (y t : Ticks), let d := s.dev.at_ t; (s.dev.acts = true) ∧ (d.twin.role = .active) ∧ (d.twin.yieldAt = some y) ∧ (y + us ≤ d.now)) ∧
    (∃ (s : State) (p : Fin 17) (cause : Fin 6) (excess : List Nat) (fin t : Ticks), let d := s.dev.at_ t; (s.dev.acts = true) ∧ ((d.pier p).state = 1) ∧ ((cause : Nat) ≠ 0) ∧ (d.fry.twin.role ≠ .active)) :=
  ⟨⟨wit (fun d => d.onTwin (fun x => { x with role := .active })), 0, by decide⟩,
   ⟨wit (fun d => d.onTwin (fun x => { x with role := .standby })), 4, 9, 0, by decide⟩,
   ⟨wit (fun d => d.onTwin (fun x => { x with role := .standby, yieldAt := some 3 })), 3, 9, by decide⟩,
   ⟨wit (fun d => d.onTwin (fun x => { x with role := .active, yieldAt := some 3 })), 3, 10 ^ 15, by decide⟩,
   ⟨wit (fun d => { d with fry.piers := [(16, { state := 1 })] }), 16, 1, [], 0, 0, by decide⟩⟩

theorem witness_ObjectAccessRequestsComplete :
    (∃ (s : State) (t : Ticks), let d := s.dev.at_ t; (s.dev.boots = true) ∧ (d.asks (opIs 1) = true)) ∧
    (∃ (s : State) (t : Ticks), let d := s.dev.at_ t; (s.dev.boots = true) ∧ (d.asks (opIs 3) = true)) ∧
    (∃ (s : State) (env : WriteEnv) (t : Ticks), let d := s.dev.at_ t; (s.dev.boots = true) ∧ (d.asks (opIs 2) = true)) ∧
    (∃ (s : State) (env : WriteEnv) (t : Ticks), let d := s.dev.at_ t; (s.dev.boots = true) ∧ (d.asks (opIs 4) = true)) ∧
    (∃ (s : State) (t : Ticks), let d := s.dev.at_ t; (s.dev.boots = true) ∧ (d.asks (opIs 5) = true)) ∧
    (∃ (s : State) (t : Ticks), let d := s.dev.at_ t; (s.dev.boots = true) ∧ (d.asks (opIs 7) = true)) ∧
    (∃ (s : State) (t : Ticks), let d := s.dev.at_ t; (s.dev.boots = true) ∧ (d.asks (activateIs 1) = true)) ∧
    (∃ (s : State) (t : Ticks), let d := s.dev.at_ t; (s.dev.boots = true) ∧ (d.asks (activateIs 2) = true)) ∧
    (∃ (s : State) (t : Ticks), let d := s.dev.at_ t; (s.dev.boots = true) ∧ (d.asks (activateIs 3) = true)) ∧
    (∃ (s : State) (id : Nat) (x : Subscription) (t : Ticks), let d := s.dev.at_ t; (s.dev.boots = true) ∧ (d.obj.subs.find? (fun x => x.requester == mailboxReq && x.reqId == id) = some x) ∧ (d.flt.chipSafe = false) ∧ (x.due d.now (d.subValues x) = true)) ∧
    (∃ (s : State) (t : Ticks), (s.dev.boots = true)) ∧
    (∃ (s : State) (request : Bytes) (t : Ticks), let d := s.dev.at_ t; (s.dev.boots = true) ∧ (d.hif.mbox.busy = false) ∧ (¬ request.length < 16 ∧ ¬ 16384 < request.length)) ∧
    (∃ (s : State) (m : Bytes) (t : Ticks), let d := s.dev.at_ t; (s.dev.boots = true) ∧ (d.hif.mbox.busy = true) ∧ (d.hif.mbox.answer = some m)) ∧
    (∃ (s : State) (a : OdAddr) (value : Bytes) (env : WriteEnv) (t : Ticks) (r : OdRow), let d := s.dev.at_ t; (s.dev.acts = true) ∧ (lookupObject a.index a.sub a.inst = .ok r) ∧ (d.isStandby = true) ∧ (r.persist ≠ .vol) ∧ (({ s with dev := d }.writeValue env .so r a 0 value).1 = 0)) :=
  ⟨⟨wMail 1 1 ([0x10, 0x42, 0, 0, 0, 0, 0, 0, 0, 0, 0, 0, 0, 0, 0, 0]), 0, by decide⟩,
   ⟨wMail 3 1 ([0x10, 0x42, 0, 0, 0, 0, 0, 0, 0, 0, 0, 0, 0, 0, 0, 0]), 0, by decide⟩,
   ⟨wMail 2 1 ([0x10, 0x42, 0, 0, 0, 0, 0, 0, 0, 0, 0, 0, 0, 0, 0, 0]), { start := { flotId := 0, sramKept := false, holdup := true, readsAgree := true, scrub := [], badA := false, badB := false, saveOk := true, chartOk := true, pierFails := [], ready := 0 }, agree := true, verify := true, pulses := 1, cut := false, lcCut := none }, 0, by decide⟩,
   ⟨wMail 4 1 ([0x10, 0x42, 0, 0, 0, 0, 0, 0, 0, 0, 0, 0, 0, 0, 0, 0]), { start := { flotId := 0, sramKept := false, holdup := true, readsAgree := true, scrub := [], badA := false, badB := false, saveOk := true, chartOk := true, pierFails := [], ready := 0 }, agree := true, verify := true, pulses := 1, cut := false, lcCut := none }, 0, by decide⟩,
   ⟨wMail 5 1 ([0x10, 0x42, 0, 0, 0, 0, 0, 0, 0, 0, 0, 0, 0, 0, 0, 0]), 0, by decide⟩,
   ⟨wMail 7 1 ([4, 0, 0, 0]), 0, by decide⟩,
   ⟨wMail 6 1 (1 :: List.replicate 47 0), 0, by decide⟩,
   ⟨wMail 6 1 (2 :: List.replicate 47 0), 0, by decide⟩,
   ⟨wMail 6 1 (3 :: List.replicate 47 0), 0, by decide⟩,
   ⟨wit (fun d => { d with obj.subs := [{ requester := mailboxReq, reqId := 4, mode := 1, period := 0, minInterval := 0, addrs := [], since := 0, lastAt := none, lastVals := [[1]] }] }), 4, _, 10, by decide, rfl, by decide, by decide⟩,
   ⟨wit id, 0, by decide⟩,
   ⟨wit id, List.replicate 20 0, 0, by decide⟩,
   ⟨wit (fun d => { d with hif.mbox := { busy := true, answer := some [1] } }), [1], 0, by decide⟩,
   ⟨wit (fun d => d.onTwin (fun x => { x with role := .standby })), { index := 0x4000, sub := 1, inst := 0 }, [1], { start := { flotId := 0, sramKept := false, holdup := true, readsAgree := true, scrub := [], badA := false, badB := false, saveOk := true, chartOk := true, pierFails := [], ready := 0 }, agree := true, verify := true, pulses := 1, cut := false, lcCut := none }, 0, _, by decide, rfl, by decide, by decide, by decide⟩⟩

theorem witness_HostInterfaceComplete :
    (∃ (s : State) (f : Fin 4) (t : Ticks), (s.dev.acts = true)) ∧
    (∃ (s : State) (f : Fin 4) (t : Ticks), (s.dev.acts = true)) ∧
    (∃ (s : State) (t : Ticks), let d := s.dev.at_ t; (s.dev.acts = true) ∧ (d.hif.linkUp = true)) ∧
    (∃ (s : State) (width : Fin 3) (speed : Fin 5) (t : Ticks), (s.dev.acts = true)) ∧
    (∃ (s : State) (q : Fin 16384) (t : Ticks), let d := s.dev.at_ t; (s.dev.acts = true) ∧ ((d.queue q).isOpen = true ∧ (d.queue q).workChip = false) ∧ ((d.queue q).devPos ≠ (d.queue q).hostPos ∧ d.delivers q = false)) ∧
    (∃ (s : State) (q : Fin 16384) (desc : Bytes) (t : Ticks), let d := s.dev.at_ t; (s.dev.acts = true) ∧ ((d.queue q).isOpen = true) ∧ ((d.queue q).devPos ≠ (d.queue q).hostPos ∧ d.delivers q = false)) ∧
    (∃ (s : State) (q : Fin 16384) (chan : Fin 32) (addr : Nat) (cause : Fin 256) (t : Ticks), let d := s.dev.at_ t; (s.dev.acts = true) ∧ ((d.queue q).isOpen = true)) ∧
    (∃ (s : State) (v : Fin 8192) (t : Ticks), let d := s.dev.at_ t; let x := d.hif.vecs.get ({} : Vec) v; (s.dev.acts = true) ∧ (x.pending ≠ 0) ∧ (x.count ≤ x.pending ∨ x.firstAt + (x.time * 100 : Int) * ns ≤ d.now)) ∧
    (∃ (s : State) (v : Fin 8192) (t : Ticks), (s.dev.acts = true)) ∧
    (∃ (s : State) (f : Fin 4) (t : Ticks), (s.dev.acts = true)) ∧
    (∃ (s : State) (f : Fin 4) (t : Ticks), (s.dev.acts = true)) ∧
    (∃ (s : State) (pf : Fin 4) (w : Fin 544) (v : Word32) (t : Ticks), (s.dev.acts = true)) ∧
    (∃ (s : State) (pf : Fin 4) (src : Fin 17408) (v : Word32) (t : Ticks), let d := s.dev.at_ t; (s.dev.acts = true) ∧ ((pf : Nat) = 0 ∨ (d.srcPf src = pf ∧ bitsOf v.toNat 12 11 = pf))) ∧
    (∃ (s : State) (pf : Fin 4) (src : Fin 17408) (v : Word32) (t : Ticks), let d := s.dev.at_ t; (s.dev.acts = true) ∧ ((pf : Nat) = 0 ∨ d.srcPf src = pf) ∧ (bitOf v.toNat 14 = false ∨ d.cfg Od.que_CLASS (bitsOf v.toNat 13 0) = 2)) ∧
    (∃ (s : State) (pf : Fin 4) (src : Fin 17408) (k : Fin 2) (v : Word32) (t : Ticks), let d := s.dev.at_ t; (s.dev.acts = true) ∧ (((pf : Nat) ≠ 0 ∧ d.srcPf src ≠ pf) ∨ ((pf : Nat) ≠ 0 ∧ k = 0 ∧ bitsOf v.toNat 12 11 ≠ pf) ∨ (k = 1 ∧ bitOf v.toNat 14 = true ∧ d.cfg Od.que_CLASS (bitsOf v.toNat 13 0) ≠ 2))) ∧
    (∃ (s : State) (f : Fin 4) (t : Ticks), (s.dev.acts = true)) ∧
    (∃ (s : State) (pf : Fin 4) (v : Word32) (t : Ticks), (s.dev.acts = true)) ∧
    (∃ (s : State) (pf : Fin 4) (word : Fin 16777216) (n : Nat) (v : Word32) (t : Ticks), (s.dev.acts = true) ∧ (n < 8192 ∧ ((pf : Nat) = 0 ∨ n / 2048 = pf)) ∧ ((word : Nat) = (0xF40000 + 8 * n) / 4)) ∧
    (∃ (s : State) (pf : Fin 4) (word : Fin 16777216) (n : Nat) (v : Word32) (t : Ticks), (s.dev.acts = true) ∧ (n < 8192 ∧ ((pf : Nat) = 0 ∨ n / 2048 = pf)) ∧ ((word : Nat) = (0xF40000 + 8 * n) / 4 + 1)) ∧
    (∃ (s : State) (v : Word32) (t : Ticks), (s.dev.acts = true) ∧ (bitOf v.toNat 1 = true)) ∧
    (∃ (s : State) (pf : Fin 4) (r : HostReg) (v : Word32) (t : Ticks), (s.dev.acts = true)) :=
  ⟨⟨wit id, 0, 0, by decide⟩,
   ⟨wit id, 1, 0, by decide⟩,
   ⟨wit (fun d => { d with hif.linkUp := true }), 0, by decide⟩,
   ⟨wit id, 2, 3, 0, by decide⟩,
   ⟨wit (fun d => (d.set Od.que_TARGET 3 1).setQueue 3 { state := .on, ringValid := true, hostPos := 1 }), 3, 0, by decide⟩,
   ⟨wit (fun d => (d.set Od.que_TARGET 3 1).setQueue 3 { state := .on, ringValid := true, hostPos := 1 }), 3, List.replicate 64 0, 0, by decide⟩,
   ⟨wit (fun d => d.setQueue 3 { state := .on, ringValid := true }), 3, 1, 64, 2, 0, by decide⟩,
   ⟨wit (fun d => { d with hif.vecs := [(4, { pending := 2 })] }), 4, 0, by decide⟩,
   ⟨wit (fun d => { d with hif.vecs := [(4, { masked := true, held := true })] }), 4, 0, by decide⟩,
   ⟨wit (fun d => { d with hif.vecs := [(4, { held := true })], hif.fns := [(0, { masked := true })] }), 0, 0, by decide⟩,
   ⟨wit (fun d => { d with hif.vecs := [(4, { held := true })], hif.fns := [(0, { d3hot := true })] }), 0, 0, by decide⟩,
   ⟨wit (fun d => { d with hif.evtPending := [33] }), 1, 1, 2, 0, by decide⟩,
   ⟨wit id, 0, 5, 1, 0, by decide⟩,
   ⟨wit id, 0, 5, 1, 0, by decide⟩,
   ⟨wit id, 0, 5, 1, 0x4000, 0, by decide⟩,
   ⟨wit id, 1, 0, by decide⟩,
   ⟨wit id, 1, 1, 0, by decide⟩,
   ⟨wit id, 0, 0x3D0008, 4, 3, 0, by decide⟩,
   ⟨wit id, 0, 0x3D0009, 4, 3, 0, by decide⟩,
   ⟨wit (fun d => { d with hif.mbox.responseReady := true }), 2, 0, by decide⟩,
   ⟨wit id, 0, .functionMask, 0, 0, by decide⟩⟩

theorem witness_LaneArithmeticCompletes :
    (∃ (s : State) (n : Fin 128) (i j : Fin 16) (t : Ticks), let d := s.dev.at_ t; (s.dev.acts = true) ∧ (d.dhReads n (dhRrCode 0 i j) = true)) ∧
    (∃ (s : State) (n : Fin 128) (i j : Fin 16) (t : Ticks), let d := s.dev.at_ t; (s.dev.acts = true) ∧ (d.dhReads n (dhRrCode 1 i j) = true)) ∧
    (∃ (s : State) (n : Fin 128) (i j : Fin 16) (t : Ticks), let d := s.dev.at_ t; (s.dev.acts = true) ∧ (d.dhReads n (dhRrCode 2 i j) = true)) ∧
    (∃ (s : State) (n : Fin 128) (i j : Fin 16) (t : Ticks), let d := s.dev.at_ t; (s.dev.acts = true) ∧ (d.dhReads n (dhRrCode 3 i j) = true)) ∧
    (∃ (s : State) (n : Fin 128) (i j : Fin 16) (t : Ticks), let d := s.dev.at_ t; (s.dev.acts = true) ∧ (d.dhReads n (dhRrCode 4 i j) = true)) ∧
    (∃ (s : State) (n : Fin 128) (i j : Fin 16) (t : Ticks), let d := s.dev.at_ t; (s.dev.acts = true) ∧ (d.dhReads n (dhRrCode 8 i j) = true)) ∧
    (∃ (s : State) (n : Fin 128) (i j : Fin 16) (t : Ticks), let d := s.dev.at_ t; (s.dev.acts = true) ∧ (d.dhReads n (dhRrCode 5 i j) = true)) ∧
    (∃ (s : State) (n : Fin 128) (i j : Fin 16) (t : Ticks), let d := s.dev.at_ t; (s.dev.acts = true) ∧ (d.dhReads n (dhRrCode 6 i j) = true)) ∧
    (∃ (s : State) (n : Fin 128) (i j : Fin 16) (t : Ticks), let d := s.dev.at_ t; (s.dev.acts = true) ∧ (d.dhReads n (dhRrCode 7 i j) = true)) ∧
    (∃ (s : State) (n : Fin 128) (i j : Fin 16) (t : Ticks), let d := s.dev.at_ t; (s.dev.acts = true) ∧ (d.dhReads n (dhRrCode 9 i j) = true)) ∧
    (∃ (s : State) (n : Fin 128) (i j : Fin 16) (t : Ticks), let d := s.dev.at_ t; (s.dev.acts = true) ∧ (d.dhReads n (dhRrCode 10 i j) = true)) ∧
    (∃ (s : State) (n : Fin 128) (i j : Fin 16) (t : Ticks), let d := s.dev.at_ t; (s.dev.acts = true) ∧ (d.dhReads n (dhRrCode 11 i j) = true)) ∧
    (∃ (s : State) (n : Fin 128) (i j : Fin 16) (t : Ticks), let d := s.dev.at_ t; (s.dev.acts = true) ∧ (d.dhReads n (dhRrCode 12 i j) = true)) ∧
    (∃ (s : State) (n : Fin 128) (i j : Fin 16) (t : Ticks), let d := s.dev.at_ t; (s.dev.acts = true) ∧ (d.dhReads n (dhRrCode 13 i j) = true)) ∧
    (∃ (s : State) (n : Fin 128) (i j : Fin 16) (t : Ticks), let d := s.dev.at_ t; (s.dev.acts = true) ∧ (d.dhReads n (dhRrCode 14 i j) = true)) ∧
    (∃ (s : State) (n : Fin 128) (i j : Fin 16) (t : Ticks), let d := s.dev.at_ t; (s.dev.acts = true) ∧ (d.dhReads n (dhRrCode 15 i j) = true)) ∧
    (∃ (s : State) (n : Fin 128) (p : BitVec 64) (rest : List (BitVec 64)) (t : Ticks), let d := s.dev.at_ t; (s.dev.acts = true) ∧ ((d.dh n).products = p :: rest)) :=
  ⟨⟨coded (dhRrCode 0 1 2) (wLane id), 3, 1, 2, 0, by decide⟩,
   ⟨coded (dhRrCode 1 1 2) (wLane id), 3, 1, 2, 0, by decide⟩,
   ⟨coded (dhRrCode 2 1 2) (wLane id), 3, 1, 2, 0, by decide⟩,
   ⟨coded (dhRrCode 3 1 2) (wLane id), 3, 1, 2, 0, by decide⟩,
   ⟨coded (dhRrCode 4 1 2) (wLane id), 3, 1, 2, 0, by decide⟩,
   ⟨coded (dhRrCode 8 1 2) (wLane id), 3, 1, 2, 0, by decide⟩,
   ⟨coded (dhRrCode 5 1 2) (wLane id), 3, 1, 2, 0, by decide⟩,
   ⟨coded (dhRrCode 6 1 2) (wLane id), 3, 1, 2, 0, by decide⟩,
   ⟨coded (dhRrCode 7 1 2) (wLane id), 3, 1, 2, 0, by decide⟩,
   ⟨coded (dhRrCode 9 1 2) (wLane id), 3, 1, 2, 0, by decide⟩,
   ⟨coded (dhRrCode 10 1 2) (wLane id), 3, 1, 2, 0, by decide⟩,
   ⟨coded (dhRrCode 11 1 2) (wLane id), 3, 1, 2, 0, by decide⟩,
   ⟨coded (dhRrCode 12 1 2) (wLane id), 3, 1, 2, 0, by decide⟩,
   ⟨coded (dhRrCode 13 1 2) (wLane id), 3, 1, 2, 0, by decide⟩,
   ⟨coded (dhRrCode 14 1 2) (wLane id), 3, 1, 2, 0, by decide⟩,
   ⟨coded (dhRrCode 15 1 2) (wLane id), 3, 1, 2, 0, by decide⟩,
   ⟨wLane (fun c => { c with products := [5] }), 3, 5, [], 0, by decide⟩⟩

theorem witness_LaneImmediatesAndControlComplete :
    (∃ (s : State) (n : Fin 128) (i : Fin 16) (own : BitVec 6) (l : List (BitVec 11)) (t : Ticks), let d := s.dev.at_ t; (s.dev.acts = true) ∧ (d.dhReads n (dhRiCode 0 i own l) = true) ∧ (l.length ≤ 2)) ∧
    (∃ (s : State) (n : Fin 128) (i : Fin 16) (own : BitVec 6) (l : List (BitVec 11)) (t : Ticks), let d := s.dev.at_ t; (s.dev.acts = true) ∧ (d.dhReads n (dhRiCode 1 i own l) = true) ∧ (l.length ≤ 2)) ∧
    (∃ (s : State) (n : Fin 128) (i : Fin 16) (own : BitVec 6) (l : List (BitVec 11)) (t : Ticks), let d := s.dev.at_ t; (s.dev.acts = true) ∧ (d.dhReads n (dhRiCode 2 i own l) = true) ∧ (l.length ≤ 2)) ∧
    (∃ (s : State) (n : Fin 128) (i : Fin 16) (imm : BitVec 6) (t : Ticks), let d := s.dev.at_ t; (s.dev.acts = true) ∧ (d.dhReads n (dhRiCode 3 i imm []) = true)) ∧
    (∃ (s : State) (n : Fin 128) (own : BitVec 10) (l : List (BitVec 11)) (t : Ticks), let d := s.dev.at_ t; (s.dev.acts = true) ∧ (d.dhReads n (dhBrCode false own l) = true) ∧ (l.length ≤ 2)) ∧
    (∃ (s : State) (n : Fin 128) (own : BitVec 10) (l : List (BitVec 11)) (t : Ticks), let d := s.dev.at_ t; (s.dev.acts = true) ∧ (d.dhReads n (dhBrCode true own l) = true) ∧ (l.length ≤ 2)) ∧
    (∃ (s : State) (n : Fin 128) (r : Fin 16) (t : Ticks), let d := s.dev.at_ t; (s.dev.acts = true) ∧ (d.dhReads n (dhControlCode 1 r) = true)) ∧
    (∃ (s : State) (n : Fin 128) (r : Fin 16) (t : Ticks), let d := s.dev.at_ t; (s.dev.acts = true) ∧ (d.dhReads n (dhControlCode 2 r) = true)) ∧
    (∃ (s : State) (n : Fin 128) (t : Ticks), let d := s.dev.at_ t; (s.dev.acts = true) ∧ (d.dhReads n (dhSysCode 0) = true)) ∧
    (∃ (s : State) (n : Fin 128) (t : Ticks), let d := s.dev.at_ t; let st : State := { s with dev := s.dev.at_ t }; (s.dev.acts = true) ∧ (d.dhReads n (dhSysCode 1) = true) ∧ ((st.dhFresh n).dev.dhTsbOk n ((st.dhFresh n).dev.dh n).tsbp.toNat = true)) ∧
    (∃ (s : State) (n : Fin 128) (t : Ticks), let d := s.dev.at_ t; let st : State := { s with dev := s.dev.at_ t }; (s.dev.acts = true) ∧ (d.dhReads n (dhSysCode 2) = true) ∧ ((st.dhFresh n).dev.evp n = 0)) ∧
    (∃ (s : State) (n : Fin 128) (t : Ticks), let d := s.dev.at_ t; (s.dev.acts = true) ∧ (d.dhReads n (dhSysCode 3) = true)) ∧
    (∃ (s : State) (n : Fin 128) (cc : Fin 16) (t : Ticks), let d := s.dev.at_ t; (s.dev.acts = true) ∧ (d.dhReads n (dhControlCode 0 cc) = true)) ∧
    (∃ (s : State) (n : Fin 128) (r : Fin 16) (own : BitVec 6) (l : List (BitVec 11)) (t : Ticks), let d := s.dev.at_ t; let st : State := { s with dev := s.dev.at_ t }; (s.dev.acts = true) ∧ (d.dhReads n (dhLoopCode r own l) = true) ∧ (l.length ≤ 2) ∧ (limmUnsigned 6 own.toNat l ≠ 0) ∧ (((st.dhFresh n).dev.dh n).g[r] ≠ 0)) ∧
    (∃ (s : State) (n : Fin 128) (r : Fin 16) (own : BitVec 6) (l : List (BitVec 11)) (t : Ticks), let d := s.dev.at_ t; let st : State := { s with dev := s.dev.at_ t }; (s.dev.acts = true) ∧ (d.dhReads n (dhLoopCode r own l) = true) ∧ (l.length ≤ 2) ∧ (limmUnsigned 6 own.toNat l ≠ 0) ∧ (((st.dhFresh n).dev.dh n).g[r] = 0)) :=
  ⟨⟨coded (dhRiCode 0 1 5 []) (wLane id), 3, 1, 5, [], 0, by decide⟩,
   ⟨coded (dhRiCode 1 1 5 []) (wLane id), 3, 1, 5, [], 0, by decide⟩,
   ⟨coded (dhRiCode 2 1 5 []) (wLane id), 3, 1, 5, [], 0, by decide⟩,
   ⟨coded (dhRiCode 3 1 5 []) (wLane id), 3, 1, 5, 0, by decide⟩,
   ⟨coded (dhBrCode false 5 []) (wLane id), 3, 5, [], 0, by decide⟩,
   ⟨coded (dhBrCode true 5 []) (wLane id), 3, 5, [], 0, by decide⟩,
   ⟨coded (dhControlCode 1 5) (wLane id), 3, 5, 0, by decide⟩,
   ⟨coded (dhControlCode 2 5) (wLane id), 3, 5, 0, by decide⟩,
   ⟨coded (dhSysCode 0) (wLane id), 3, 0, by decide⟩,
   ⟨coded (dhSysCode 1) (wLaneMem (fun c => { c with tsbp := 0x40 })), 3, 0, by decide⟩,
   ⟨coded (dhSysCode 2) (wLane id), 3, 0, by decide⟩,
   ⟨coded (dhSysCode 3) (wLane id), 3, 0, by decide⟩,
   ⟨coded (dhControlCode 0 5) (wLane id), 3, 5, 0, by decide⟩,
   ⟨coded (dhLoopCode 2 5 []) (wLane (fun c => { c with g := c.g.set 2 7 })), 3, 2, 5, [], 0, by decide⟩,
   ⟨coded (dhLoopCode 2 5 []) (wLane id), 3, 2, 5, [], 0, by decide⟩⟩

theorem witness_LaneMemoryAndRegistersComplete :
    (∃ (s : State) (n : Fin 128) (r : Fin 16) (base : Fin 8) (l : List (BitVec 11)) (v : Nat) (t : Ticks), let d := s.dev.at_ t; let st : State := { s with dev := s.dev.at_ t }; (s.dev.acts = true) ∧ (d.dhReads n (dhMemCode false 0 r base l) = true) ∧ (l.length ≤ 2) ∧ ((st.dhFresh n).dhLoad n ((d.dh n).ea base l) 1 false = .inr v)) ∧
    (∃ (s : State) (n : Fin 128) (r : Fin 16) (base : Fin 8) (l : List (BitVec 11)) (v : Nat) (t : Ticks), let d := s.dev.at_ t; let st : State := { s with dev := s.dev.at_ t }; (s.dev.acts = true) ∧ (d.dhReads n (dhMemCode false 1 r base l) = true) ∧ (l.length ≤ 2) ∧ ((st.dhFresh n).dhLoad n ((d.dh n).ea base l) 2 false = .inr v)) ∧
    (∃ (s : State) (n : Fin 128) (r : Fin 16) (base : Fin 8) (l : List (BitVec 11)) (v : Nat) (t : Ticks), let d := s.dev.at_ t; let st : State := { s with dev := s.dev.at_ t }; (s.dev.acts = true) ∧ (d.dhReads n (dhMemCode false 2 r base l) = true) ∧ (l.length ≤ 2) ∧ ((st.dhFresh n).dhLoad n ((d.dh n).ea base l) 4 false = .inr v)) ∧
    (∃ (s : State) (n : Fin 128) (r : Fin 16) (base : Fin 8) (l : List (BitVec 11)) (sh : Bool) (y : State) (t : Ticks), let d := s.dev.at_ t; let st : State := { s with dev := s.dev.at_ t }; (s.dev.acts = true) ∧ (d.dhReads n (dhMemCode true 0 r base l) = true) ∧ (l.length ≤ 2) ∧ ((st.dhFresh n).dev.dhSingle n = true) ∧ ((st.dhFresh n).dhStore n (((st.dhFresh n).dev.dh n).ea base l) 1 (((st.dhFresh n).dev.dh n).get r % 256 ^ 1) false = .inr y)) ∧
    (∃ (s : State) (n : Fin 128) (r : Fin 16) (base : Fin 8) (l : List (BitVec 11)) (sh : Bool) (y : State) (t : Ticks), let d := s.dev.at_ t; let st : State := { s with dev := s.dev.at_ t }; (s.dev.acts = true) ∧ (d.dhReads n (dhMemCode true 1 r base l) = true) ∧ (l.length ≤ 2) ∧ ((st.dhFresh n).dev.dhSingle n = true) ∧ ((st.dhFresh n).dhStore n (((st.dhFresh n).dev.dh n).ea base l) 2 (((st.dhFresh n).dev.dh n).get r % 256 ^ 2) false = .inr y)) ∧
    (∃ (s : State) (n : Fin 128) (r : Fin 16) (base : Fin 8) (l : List (BitVec 11)) (sh : Bool) (y : State) (t : Ticks), let d := s.dev.at_ t; let st : State := { s with dev := s.dev.at_ t }; (s.dev.acts = true) ∧ (d.dhReads n (dhMemCode true 2 r base l) = true) ∧ (l.length ≤ 2) ∧ ((st.dhFresh n).dev.dhSingle n = true) ∧ ((st.dhFresh n).dhStore n (((st.dhFresh n).dev.dh n).ea base l) 4 (((st.dhFresh n).dev.dh n).get r % 256 ^ 4) false = .inr y)) ∧
    (∃ (s : State) (n : Fin 128) (r sr : Fin 16) (v : Nat) (t : Ticks), let d := s.dev.at_ t; let st : State := { s with dev := s.dev.at_ t }; (s.dev.acts = true) ∧ (d.dhReads n (dhMoveCode false sr r) = true) ∧ ((st.dhFresh n).dev.dhMfs n sr = some v)) ∧
    (∃ (s : State) (n : Fin 128) (sr r : Fin 16) (sh : Bool) (t : Ticks), let d := s.dev.at_ t; let st : State := { s with dev := s.dev.at_ t }; (s.dev.acts = true) ∧ (d.dhReads n (dhMoveCode true sr r) = true) ∧ ((sr : Nat) < 10) ∧ ((st.dhFresh n).dev.dhSingle n = true)) ∧
    (∃ (s : State) (n : Fin 128) (r : Fin 16) (sh : Bool) (t : Ticks), let d := s.dev.at_ t; let st : State := { s with dev := s.dev.at_ t }; (s.dev.acts = true) ∧ (d.dhReads n (dhMoveCode true 13 r) = true) ∧ ((st.dhFresh n).dev.dhSingle n = true)) ∧
    (∃ (s : State) (n : Fin 128) (r : Fin 16) (k : Fin 4) (t : Ticks), let d := s.dev.at_ t; (s.dev.acts = true) ∧ (d.dhReads n (dhSubCode false k r) = true)) ∧
    (∃ (s : State) (n : Fin 128) (r : Fin 16) (t : Ticks), let d := s.dev.at_ t; (s.dev.acts = true) ∧ (d.dhReads n (dhSubCode false 4 r) = true)) ∧
    (∃ (s : State) (n : Fin 128) (r : Fin 16) (t : Ticks), let d := s.dev.at_ t; (s.dev.acts = true) ∧ (d.dhReads n (dhSubCode false 5 r) = true)) ∧
    (∃ (s : State) (n : Fin 128) (r : Fin 16) (t : Ticks), let d := s.dev.at_ t; (s.dev.acts = true) ∧ (d.dhReads n (dhSubCode false 12 r) = true)) ∧
    (∃ (s : State) (n : Fin 128) (sh : Bool) (t : Ticks), let d := s.dev.at_ t; let st : State := { s with dev := s.dev.at_ t }; (s.dev.acts = true) ∧ (d.dhReads n (dhSubCode false 13 0) = true) ∧ ((st.dhFresh n).dev.dhSingle n = true)) :=
  ⟨⟨coded (dhMemCode false 0 2 0 [4]) (wLaneMem id), 3, 2, 0, [4], 0, 0, by decide⟩,
   ⟨coded (dhMemCode false 1 2 0 [4]) (wLaneMem id), 3, 2, 0, [4], 0, 0, by decide⟩,
   ⟨coded (dhMemCode false 2 2 0 [4]) (wLaneMem id), 3, 2, 0, [4], 0, 0, by decide⟩,
   ⟨coded (dhMemCode true 0 2 0 [4]) (wLaneMem id), 3, 2, 0, [4], false, _, 0, by decide, by decide, by decide, by decide, rfl⟩,
   ⟨coded (dhMemCode true 1 2 0 [4]) (wLaneMem id), 3, 2, 0, [4], false, _, 0, by decide, by decide, by decide, by decide, rfl⟩,
   ⟨coded (dhMemCode true 2 2 0 [4]) (wLaneMem id), 3, 2, 0, [4], false, _, 0, by decide, by decide, by decide, by decide, rfl⟩,
   ⟨coded (dhMoveCode false 10 2) (wLane id), 3, 2, 10, 3, 0, by decide⟩,
   ⟨coded (dhMoveCode true 2 3) (wLane id), 3, 2, 3, false, 0, by decide⟩,
   ⟨coded (dhMoveCode true 13 2) (wLane id), 3, 2, false, 0, by decide⟩,
   ⟨coded (dhSubCode false 1 2) (wLane id), 3, 2, 1, 0, by decide⟩,
   ⟨coded (dhSubCode false 4 2) (wLane id), 3, 2, 0, by decide⟩,
   ⟨coded (dhSubCode false 5 2) (wLane id), 3, 2, 0, by decide⟩,
   ⟨coded (dhSubCode false 12 2) (wLane id), 3, 2, 0, by decide⟩,
   ⟨coded (dhSubCode false 13 0) (wLane id), 3, false, 0, by decide⟩⟩

theorem witness_LaneBlockOperationsComplete :
    (∃ (s : State) (n : Fin 128) (up : Option Nat) (y : State) (t : Ticks), let d := s.dev.at_ t; let st : State := { s with dev := s.dev.at_ t }; (s.dev.acts = true) ∧ (d.dhReads n (dhSubCode false 6 0) = true) ∧ (dhBlockFuel n (dhMovsStep n) id ((d.dh n).brc.toNat + 1) (if (d.dh n).shadow && up = some 0 then none else up) (st.dhFresh n) = .seq y)) ∧
    (∃ (s : State) (n : Fin 128) (r : Fin 16) (up : Option Nat) (y : State) (t : Ticks), let d := s.dev.at_ t; let st : State := { s with dev := s.dev.at_ t }; (s.dev.acts = true) ∧ (d.dhReads n (dhSubCode false 7 r) = true) ∧ (dhBlockFuel n (dhFilsStep n r) id ((d.dh n).brc.toNat + 1) (if (d.dh n).shadow && up = some 0 then none else up) (st.dhFresh n) = .seq y)) ∧
    (∃ (s : State) (n : Fin 128) (up : Option Nat) (y : State) (t : Ticks), let d := s.dev.at_ t; let st : State := { s with dev := s.dev.at_ t }; (s.dev.acts = true) ∧ (d.dhReads n (dhSubCode false 8 0) = true) ∧ (dhBlockFuel n (dhCmpsStep n) (fun x => x.dhZ n true) ((d.dh n).brc.toNat + 1) (if (d.dh n).shadow && up = some 0 then none else up) (st.dhFresh n) = .seq y)) ∧
    (∃ (s : State) (n : Fin 128) (r : Fin 16) (up : Option Nat) (y : State) (t : Ticks), let d := s.dev.at_ t; let st : State := { s with dev := s.dev.at_ t }; (s.dev.acts = true) ∧ (d.dhReads n (dhSubCode false 9 r) = true) ∧ (dhBlockFuel n (dhScnsStep n r) (fun x => x.dhZ n false) ((d.dh n).brc.toNat + 1) (if (d.dh n).shadow && up = some 0 then none else up) (st.dhFresh n) = .seq y)) ∧
    (∃ (s : State) (n : Fin 128) (r : Fin 16) (up : Option Nat) (y : State) (t : Ticks), let d := s.dev.at_ t; let st : State := { s with dev := s.dev.at_ t }; (s.dev.acts = true) ∧ (d.dhReads n (dhSubCode false 10 r) = true) ∧ (dhBlockFuel n (dhCrcsStep n r) id ((d.dh n).brc.toNat + 1) (if (d.dh n).shadow && up = some 0 then none else up) (st.dhFresh n) = .seq y)) ∧
    (∃ (s : State) (n : Fin 128) (r : Fin 16) (up : Option Nat) (y : State) (t : Ticks), let d := s.dev.at_ t; let st : State := { s with dev := s.dev.at_ t }; (s.dev.acts = true) ∧ (d.dhReads n (dhSubCode false 11 r) = true) ∧ (dhBlockFuel n (dhSumsStep n r) id ((d.dh n).brc.toNat + 1) (if (d.dh n).shadow && up = some 0 then none else up) (st.dhFresh n) = .seq y)) :=
  ⟨⟨coded (dhSubCode false 6 0) (wLaneMem (fun c => { c with brc := 2, brd := 16 })), 3, none, _, 0, by decide, by decide, rfl⟩,
   ⟨coded (dhSubCode false 7 2) (wLaneMem (fun c => { c with brc := 2, brd := 16 })), 3, 2, none, _, 0, by decide, by decide, rfl⟩,
   ⟨coded (dhSubCode false 8 0) (wLaneMem (fun c => { c with brc := 2, brd := 16 })), 3, none, _, 0, by decide, by decide, rfl⟩,
   ⟨coded (dhSubCode false 9 2) (wLaneMem (fun c => { c with brc := 2, brd := 16 })), 3, 2, none, _, 0, by decide, by decide, rfl⟩,
   ⟨coded (dhSubCode false 10 2) (wLaneMem (fun c => { c with brc := 2, brd := 16 })), 3, 2, none, _, 0, by decide, by decide, rfl⟩,
   ⟨coded (dhSubCode false 11 2) (wLaneMem (fun c => { c with brc := 2, brd := 16 })), 3, 2, none, _, 0, by decide, by decide, rfl⟩⟩

theorem witness_LaneUnitOperationsComplete :
    (∃ (s : State) (n : Fin 128) (r : Fin 16) (sh : Bool) (b : Bytes) (k : Nat) (e : Dev) (y : State) (t : Ticks), let d := s.dev.at_ t; let st : State := { s with dev := s.dev.at_ t }; (s.dev.acts = true) ∧ (d.take.2.dhReads n (dhSubCode true 0 r) = true) ∧ (Fin16.pair r = true) ∧ ((({ st with dev := st.dev.take.2 } : State).dhFresh n).dev.dhSingle n = true) ∧ (y = ({ st with dev := st.dev.take.2 } : State).dhFresh n) ∧ (y.dhFetch n ((y.dev.dh n).get (regAfter r 1)) 64 = .inr b) ∧ (y.dev.admitOffer ((y.dev.dh n).get r) (decodeOffer .lane b (y.dhBody n b)) = (.accepted k, e))) ∧
    (∃ (s : State) (n : Fin 128) (r : Fin 16) (sh : Bool) (b : Bytes) (k : Nat) (e : Dev) (y : State) (t : Ticks), let d := s.dev.at_ t; let st : State := { s with dev := s.dev.at_ t }; (s.dev.acts = true) ∧ (d.take.2.dhReads n (dhSubCode true 1 r) = true) ∧ (Fin16.pair r = true) ∧ ((({ st with dev := st.dev.take.2 } : State).dhFresh n).dev.dhSingle n = true) ∧ (y = ({ st with dev := st.dev.take.2 } : State).dhFresh n) ∧ (y.dhFetch n ((y.dev.dh n).get (regAfter r 1)) 32 = .inr b) ∧ (y.dev.admitOffer ((y.dev.dh n).get r) { source := .lane, kind := .launchEntry, body := b } = (.accepted k, e))) ∧
    (∃ (s : State) (n : Fin 128) (r : Fin 16) (sh : Bool) (k : Nat) (e : InboxSlot) (t : Ticks), let d := s.dev.at_ t; let st : State := { s with dev := s.dev.at_ t }; (s.dev.acts = true) ∧ (d.dhReads n (dhSubCode true 2 r) = true) ∧ (Fin16.pair r = true) ∧ ((st.dhFresh n).dev.dhSingle n = true) ∧ (((st.dhFresh n).dev.lane n).nextSlot = some (k, e))) ∧
    (∃ (s : State) (n : Fin 128) (r : Fin 16) (sh : Bool) (t : Ticks), let d := s.dev.at_ t; let st : State := { s with dev := s.dev.at_ t }; (s.dev.acts = true) ∧ (d.dhReads n (dhSubCode true 2 r) = true) ∧ (Fin16.pair r = true) ∧ ((st.dhFresh n).dev.dhSingle n = true) ∧ (((st.dhFresh n).dev.lane n).nextSlot = none)) ∧
    (∃ (s : State) (n : Fin 128) (r : Fin 16) (sh : Bool) (k : Nat) (e : InboxSlot) (t : Ticks), let d := s.dev.at_ t; let st : State := { s with dev := s.dev.at_ t }; (s.dev.acts = true) ∧ (d.dhReads n (dhSubCode true 3 r) = true) ∧ ((st.dhFresh n).dev.dhSingle n = true) ∧ (((st.dhFresh n).dev.lane n).heldSlot (((st.dhFresh n).dev.dh n).get r) = some (k, e))) ∧
    (∃ (s : State) (n : Fin 128) (r : Fin 16) (sh : Bool) (k : Nat) (e : InboxSlot) (t : Ticks), let d := s.dev.at_ t; let st : State := { s with dev := s.dev.at_ t }; (s.dev.acts = true) ∧ (d.dhReads n (dhSubCode true 4 r) = true) ∧ (Fin16.pair r = true) ∧ ((st.dhFresh n).dev.dhSingle n = true) ∧ (((st.dhFresh n).dev.lane n).heldSlot (((st.dhFresh n).dev.dh n).get r) = some (k, e))) ∧
    (∃ (s : State) (n : Fin 128) (r : Fin 16) (sh : Bool) (e : FrameRec) (t : Ticks), let d := s.dev.at_ t; let st : State := { s with dev := s.dev.at_ t }; (s.dev.acts = true) ∧ (d.dhReads n (dhSubCode true 5 r) = true) ∧ (Fin16.pair r = true) ∧ ((st.dhFresh n).dev.dhSingle n = true) ∧ (((st.dhFresh n).dev.lane n).records.find? (fun e => !e.taken) = some e)) ∧
    (∃ (s : State) (n : Fin 128) (r : Fin 16) (sh : Bool) (e : FrameRec) (t : Ticks), let d := s.dev.at_ t; let st : State := { s with dev := s.dev.at_ t }; (s.dev.acts = true) ∧ (d.dhReads n (dhSubCode true 6 r) = true) ∧ ((st.dhFresh n).dev.dhSingle n = true) ∧ (((st.dhFresh n).dev.lane n).heldRecord (((st.dhFresh n).dev.dh n).get r) = some e)) ∧
    (∃ (s : State) (n : Fin 128) (r : Fin 16) (sh : Bool) (e : FrameRec) (i : Nat) (t : Ticks), let d := s.dev.at_ t; let st : State := { s with dev := s.dev.at_ t }; (s.dev.acts = true) ∧ (d.dhReads n (dhSubCode true 7 r) = true) ∧ (Fin16.pair r = true) ∧ ((st.dhFresh n).dev.dhSingle n = true) ∧ (((st.dhFresh n).dev.lane n).heldRecord (((st.dhFresh n).dev.dh n).get r) = some e) ∧ ((st.dhFresh n).dev.sesOf (((st.dhFresh n).dev.dh n).get (regAfter r 1)) = some i) ∧ (((st.dhFresh n).dev.ses i).state = .opened ∧ (st.dhFresh n).dev.maySeal0 i = true)) ∧
    (∃ (s : State) (n : Fin 128) (r : Fin 16) (sh : Bool) (t : Ticks), let d := s.dev.at_ t; let st : State := { s with dev := s.dev.at_ t }; (s.dev.acts = true) ∧ (d.dhReads n (dhSubCode true 8 r) = true) ∧ ((r : Nat) = 0 ∨ (r : Nat) = 4 ∨ (r : Nat) = 8) ∧ ((st.dhFresh n).dev.dhSingle n = true)) ∧
    (∃ (s : State) (n : Fin 128) (r : Fin 16) (sh : Bool) (t : Ticks), let d := s.dev.at_ t; let st : State := { s with dev := s.dev.at_ t }; (s.dev.acts = true) ∧ (d.dhReads n (dhSubCode true 9 r) = true) ∧ ((st.dhFresh n).dev.dhSingle n = true)) ∧
    (∃ (s : State) (n : Fin 128) (r : Fin 16) (sh : Bool) (t : Ticks), let d := s.dev.at_ t; let st : State := { s with dev := s.dev.at_ t }; (s.dev.acts = true) ∧ (d.dhReads n (dhSubCode true 10 r) = true) ∧ ((st.dhFresh n).dev.dhSingle n = true) ∧ (((st.dhFresh n).dev.core ((st.dhFresh n).dev.dhCore n r)).user = n + 1)) ∧
    (∃ (s : State) (n : Fin 128) (r : Fin 16) (sh : Bool) (t : Ticks), let d := s.dev.at_ t; let st : State := { s with dev := s.dev.at_ t }; (s.dev.acts = true) ∧ (d.dhReads n (dhSubCode true 11 r) = true) ∧ ((st.dhFresh n).dev.dhSingle n = true)) ∧
    (∃ (s : State) (n : Fin 128) (sh : Bool) (t : Ticks), let d := s.dev.at_ t; let st : State := { s with dev := s.dev.at_ t }; (s.dev.acts = true) ∧ (d.dhReads n (dhSubCode true 12 0) = true) ∧ ((st.dhFresh n).dev.dhSingle n = true)) :=
  ⟨⟨coded (dhSubCode true 0 2) (wPost 0), 3, 2, false, _, _, _, _, 0, by decide, by decide, by decide, by decide, rfl, rfl, rfl⟩,
   ⟨coded (dhSubCode true 1 2) (wPost 3), 3, 2, false, _, _, _, _, 0, by decide, by decide, by decide, by decide, rfl, rfl, rfl⟩,
   ⟨coded (dhSubCode true 2 2) (wit (fun d => ({ d with lan := [(3, { state := .running, code := List.replicate 20 0, inbox := [(1, wSlot false)] })] }).setDh 3 (wG 0x7200 0))), 3, 2, false, 1, wSlot false, 0, by decide⟩,
   ⟨coded (dhSubCode true 2 2) (wLane id), 3, 2, false, 0, by decide⟩,
   ⟨coded (dhSubCode true 3 2) (wit (fun d => ({ d with lan := [(3, { state := .running, code := List.replicate 20 0, inbox := [(1, wSlot true)] })] }).setDh 3 (wG 0x7200 0))), 3, 2, false, 1, wSlot true, 0, by decide⟩,
   ⟨coded (dhSubCode true 4 2) (wit (fun d => ({ d with lan := [(3, { state := .running, code := List.replicate 20 0, inbox := [(1, wSlot true)] })] }).setDh 3 (wG 0x7200 0))), 3, 2, false, 1, wSlot true, 0, by decide⟩,
   ⟨coded (dhSubCode true 5 2) (wit (fun d => ({ d with lan := [(3, { state := .running, code := List.replicate 20 0, records := [wRec false] })] }).setDh 3 (wG 0x01000040 77))), 3, 2, false, wRec false, 0, by decide⟩,
   ⟨coded (dhSubCode true 6 2) (wit (fun d => ({ d with lan := [(3, { state := .running, code := List.replicate 20 0, records := [wRec true] })] }).setDh 3 (wG 0x01000040 77))), 3, 2, false, wRec true, 0, by decide⟩,
   ⟨coded (dhSubCode true 7 2) (wit (fun d => (({ d with lan := [(3, { state := .running, code := List.replicate 20 0, records := [wRec true] })], net.sessions := [(5, { state := .opened })] }).setDh 3 (wG 0x01000040 77)).set Od.ses_SESSION_ID 5 77)), 3, 2, false, wRec true, 5, 0, by decide⟩,
   ⟨coded (dhSubCode true 8 4) (wLane id), 3, 4, false, 0, by decide⟩,
   ⟨coded (dhSubCode true 9 4) (wLane id), 3, 4, false, 0, by decide⟩,
   ⟨coded (dhSubCode true 10 4) (wit (fun d => ({ d with lan := [(3, { state := .running, code := List.replicate 20 0 })] }).setCore (d.dhCore 3 4) { user := 4 })), 3, 4, false, 0, by decide⟩,
   ⟨coded (dhSubCode true 11 4) (wLane id), 3, 4, false, 0, by decide⟩,
   ⟨coded (dhSubCode true 12 0) (wLane id), 3, false, 0, by decide⟩⟩

theorem witness_LanesAndChecksComplete :
    (∃ (s : State) (n : Fin 128) (t : Ticks), let d := s.dev.at_ t; let st : State := { s with dev := s.dev.at_ t }; (s.dev.acts = true) ∧ ((d.lane n).runs = true ∧ (d.lane n).origin ≠ 3) ∧ (d.flt.chipSafe = false ∧ (d.dh n).notice = false) ∧ (st.dhEventDue n = true)) ∧
    (∃ (s : State) (n : Fin 128) (words : Fin 3) (cause : Fin 4) (t : Ticks), let d := s.dev.at_ t; (s.dev.acts = true) ∧ (d.dhReady n (1 + words) = true) ∧ (dhIllegal ((d.lane n).code.drop (d.dh n).pc.toNat) = some (1 + words.val, 1 + cause.val))) ∧
    (∃ (s : State) (n : Fin 136) (t : Ticks), let d := s.dev.at_ t; (s.dev.acts = true) ∧ (d.flt.chipSafe = false) ∧ (d.isStandby = false) ∧ (d.cfg Od.lan_DISABLE_MODE n ≠ 1) ∧ ((d.lane n).state ≠ .off)) ∧
    (∃ (s : State) (n : Fin 136) (t : Ticks), let d := s.dev.at_ t; (s.dev.acts = true) ∧ ((d.lane n).state = .disabling) ∧ (d.laneMayStop n = true)) ∧
    (∃ (s : State) (n : Fin 128) (w t : Ticks), let d := s.dev.at_ t; (s.dev.acts = true) ∧ ((d.lane n).watchdog = some w) ∧ ((d.lane n).runs = true ∧ (d.lane n).inWait = false) ∧ (w ≤ d.now)) ∧
    (∃ (s : State) (n : Fin 128) (lag : Nat) (t : Ticks), let d := s.dev.at_ t; (s.dev.acts = true) ∧ ((d.lane n).runs = true) ∧ ((d.lane (n + 1)).origin = 3 ∧ (n : Nat) % 2 = 0) ∧ (64 < lag)) ∧
    (∃ (s : State) (m : Fin 174) (r : Fin 32) (v : Word32) (t : Ticks), let d := s.dev.at_ t; (s.dev.acts = true) ∧ (d.flt.chipSafe = false) ∧ ((r : Nat) < regionCount m) ∧ (bitOf ((d.acu m).regions.get ({} : Region) r).attr 9 = false) ∧ (bitsOf (v.toNat % 1024) 6 5 ≠ 3 ∧ bitsOf (v.toNat % 1024) 8 7 ≠ 3) ∧ (¬ ((d.acu m).regions.get ({} : Region) r).top < ((d.acu m).regions.get ({} : Region) r).lo + 31) ∧ (bitOf (v.toNat % 1024) 3 = false ∧ bitOf (v.toNat % 1024) 4 = false)) ∧
    (∃ (s : State) (m : Fin 174) (t : Ticks), let d := s.dev.at_ t; (s.dev.acts = true) ∧ (d.flt.chipSafe = false)) :=
  ⟨⟨{ wit (fun d => ({ d with lan := [(3, { state := .running, soft := true, code := List.replicate 20 0 })] }).setDh 3 { ee := true }) with mem := [(laneMem 3 + 16, 4)] }, 3, 0, by decide⟩,
   ⟨coded [0x2F04] (wLane id), 3, 0, 0, 0, by decide⟩,
   ⟨wLane id, 3, 0, by decide⟩,
   ⟨wit (fun d => { d with lan := [(3, { state := .disabling })] }), 3, 0, by decide⟩,
   ⟨wit (fun d => { d with lan := [(3, { state := .running, watchdog := some 5 })] }), 3, 5, 10, by decide⟩,
   ⟨wit (fun d => { d with lan := [(2, { state := .running }), (3, { state := .running, origin := 3 })] }), 2, 65, 0, by decide⟩,
   ⟨wit id, 3, 2, 7, 0, by decide⟩,
   ⟨wit id, 3, 0, by decide⟩⟩

theorem witness_PurserArithmeticCompletes :
    (∃ (s : State) (p : Fin 4) (x : PuPre) (i j : Fin 16) (t : Ticks), let st : State := { s with dev := s.dev.at_ t }; (s.dev.acts = true) ∧ (st.puReads p x.bytes (puRrCode 0 i j) (x.twice) = true)) ∧
    (∃ (s : State) (p : Fin 4) (x : PuPre) (i j : Fin 16) (t : Ticks), let st : State := { s with dev := s.dev.at_ t }; (s.dev.acts = true) ∧ (st.puReads p x.bytes (puRrCode 1 i j) (x.twice) = true)) ∧
    (∃ (s : State) (p : Fin 4) (x : PuPre) (i j : Fin 16) (t : Ticks), let st : State := { s with dev := s.dev.at_ t }; (s.dev.acts = true) ∧ (st.puReads p x.bytes (puRrCode 2 i j) (x.twice) = true)) ∧
    (∃ (s : State) (p : Fin 4) (x : PuPre) (i j : Fin 16) (t : Ticks), let st : State := { s with dev := s.dev.at_ t }; (s.dev.acts = true) ∧ (st.puReads p x.bytes (puRrCode 3 i j) (x.twice) = true)) ∧
    (∃ (s : State) (p : Fin 4) (x : PuPre) (i j : Fin 16) (t : Ticks), let st : State := { s with dev := s.dev.at_ t }; (s.dev.acts = true) ∧ (st.puReads p x.bytes (puRrCode 4 i j) (x.twice) = true)) ∧
    (∃ (s : State) (p : Fin 4) (x : PuPre) (i j : Fin 16) (t : Ticks), let st : State := { s with dev := s.dev.at_ t }; (s.dev.acts = true) ∧ (st.puReads p x.bytes (puRrCode 8 i j) (x.twice) = true)) ∧
    (∃ (s : State) (p : Fin 4) (x : PuPre) (i j : Fin 16) (t : Ticks), let st : State := { s with dev := s.dev.at_ t }; (s.dev.acts = true) ∧ (st.puReads p x.bytes (puRrCode 5 i j) (x.twice) = true)) ∧
    (∃ (s : State) (p : Fin 4) (x : PuPre) (i j : Fin 16) (t : Ticks), let st : State := { s with dev := s.dev.at_ t }; (s.dev.acts = true) ∧ (st.puReads p x.bytes (puRrCode 6 i j) (x.twice) = true)) ∧
    (∃ (s : State) (p : Fin 4) (x : PuPre) (i j : Fin 16) (t : Ticks), let st : State := { s with dev := s.dev.at_ t }; (s.dev.acts = true) ∧ (st.puReads p x.bytes (puRrCode 7 i j) (x.twice) = true)) ∧
    (∃ (s : State) (p : Fin 4) (x : PuPre) (i j : Fin 16) (t : Ticks), let st : State := { s with dev := s.dev.at_ t }; (s.dev.acts = true) ∧ (st.puReads p x.bytes (puRrCode 9 i j) (x.twice) = true)) ∧
    (∃ (s : State) (p : Fin 4) (x : PuPre) (i j : Fin 16) (t : Ticks), let st : State := { s with dev := s.dev.at_ t }; (s.dev.acts = true) ∧ (st.puReads p x.bytes (puRrCode 10 i j) (x.twice) = true)) ∧
    (∃ (s : State) (p : Fin 4) (x : PuPre) (i j : Fin 16) (t : Ticks), let st : State := { s with dev := s.dev.at_ t }; (s.dev.acts = true) ∧ (st.puReads p x.bytes (puRrCode 11 i j) (x.twice) = true)) ∧
    (∃ (s : State) (p : Fin 4) (x : PuPre) (i j : Fin 16) (t : Ticks), let st : State := { s with dev := s.dev.at_ t }; (s.dev.acts = true) ∧ (st.puReads p x.bytes (puRrCode 12 i j) (x.twice) = true)) ∧
    (∃ (s : State) (p : Fin 4) (x : PuPre) (i j : Fin 16) (t : Ticks), let st : State := { s with dev := s.dev.at_ t }; (s.dev.acts = true) ∧ (st.puReads p x.bytes (puRrCode 13 i j) (x.twice) = true)) ∧
    (∃ (s : State) (p : Fin 4) (w : PuWidth) (i j : Fin 16) (t : Ticks), let st : State := { s with dev := s.dev.at_ t }; (s.dev.acts = true) ∧ (st.puReads p w.prefix (puRrCode 14 i j) (none) = true)) ∧
    (∃ (s : State) (p : Fin 4) (w : PuWidth) (i j : Fin 16) (t : Ticks), let st : State := { s with dev := s.dev.at_ t }; (s.dev.acts = true) ∧ (st.puReads p w.prefix (puRrCode 15 i j) (none) = true)) ∧
    (∃ (s : State) (p : Fin 4) (q : BitVec 128) (rest : List (BitVec 128)) (t : Ticks), let d := s.dev.at_ t; (s.dev.acts = true) ∧ (d.flt.chipSafe = false) ∧ ((d.pu p).products = q :: rest)) :=
  ⟨⟨wPu id, 0, ⟨.w32, none⟩, 2, 3, 0, by decide⟩,
   ⟨wPu id, 0, ⟨.w32, none⟩, 2, 3, 0, by decide⟩,
   ⟨wPu id, 0, ⟨.w32, none⟩, 2, 3, 0, by decide⟩,
   ⟨wPu id, 0, ⟨.w32, none⟩, 2, 3, 0, by decide⟩,
   ⟨wPu id, 0, ⟨.w32, none⟩, 2, 3, 0, by decide⟩,
   ⟨wPu id, 0, ⟨.w32, none⟩, 2, 3, 0, by decide⟩,
   ⟨wPu id, 0, ⟨.w32, none⟩, 2, 3, 0, by decide⟩,
   ⟨wPu id, 0, ⟨.w32, none⟩, 2, 3, 0, by decide⟩,
   ⟨wPu id, 0, ⟨.w32, none⟩, 2, 3, 0, by decide⟩,
   ⟨wPu id, 0, ⟨.w32, none⟩, 2, 3, 0, by decide⟩,
   ⟨wPu id, 0, ⟨.w32, none⟩, 2, 3, 0, by decide⟩,
   ⟨wPu id, 0, ⟨.w32, none⟩, 2, 3, 0, by decide⟩,
   ⟨wPu id, 0, ⟨.w32, none⟩, 2, 3, 0, by decide⟩,
   ⟨wPu id, 0, ⟨.w32, none⟩, 2, 3, 0, by decide⟩,
   ⟨wPu id, 0, .w32, 2, 3, 0, by decide⟩,
   ⟨wPu id, 0, .w32, 2, 3, 0, by decide⟩,
   ⟨wPu (fun c => { c with products := [5] }), 0, 5, [], 0, by decide⟩⟩

theorem witness_PurserImmediatesComplete :
    (∃ (s : State) (p : Fin 4) (x : PuPre) (i : Fin 16) (imm : PuImm) (t : Ticks), let st : State := { s with dev := s.dev.at_ t }; (s.dev.acts = true) ∧ (st.puReads p x.bytes (puRiCode 0 i imm) (x.twice) = true) ∧ (imm.bytes ≤ x.w.bytes)) ∧
    (∃ (s : State) (p : Fin 4) (x : PuPre) (i : Fin 16) (imm : PuImm) (t : Ticks), let st : State := { s with dev := s.dev.at_ t }; (s.dev.acts = true) ∧ (st.puReads p x.bytes (puRiCode 1 i imm) (x.twice) = true) ∧ (imm.bytes ≤ x.w.bytes) ∧ (imm.bytes ≠ 8)) ∧
    (∃ (s : State) (p : Fin 4) (x : PuPre) (i : Fin 16) (imm : PuImm) (t : Ticks), let st : State := { s with dev := s.dev.at_ t }; (s.dev.acts = true) ∧ (st.puReads p x.bytes (puRiCode 2 i imm) (x.twice) = true) ∧ (imm.bytes ≤ x.w.bytes) ∧ (imm.bytes ≠ 8)) ∧
    (∃ (s : State) (p : Fin 4) (x : PuPre) (i : Fin 16) (imm : PuImm) (t : Ticks), let st : State := { s with dev := s.dev.at_ t }; (s.dev.acts = true) ∧ (st.puReads p x.bytes (puRiCode 6 i imm) (x.twice) = true) ∧ (imm.bytes ≤ x.w.bytes) ∧ (imm.bytes ≠ 8)) ∧
    (∃ (s : State) (p : Fin 4) (x : PuPre) (i : Fin 16) (imm : PuImm) (t : Ticks), let st : State := { s with dev := s.dev.at_ t }; (s.dev.acts = true) ∧ (st.puReads p x.bytes (puRiCode 3 i imm) (x.twice) = true) ∧ (imm.bytes ≤ x.w.bytes) ∧ (imm.bytes ≠ 8)) ∧
    (∃ (s : State) (p : Fin 4) (x : PuPre) (i : Fin 16) (imm : PuImm) (t : Ticks), let st : State := { s with dev := s.dev.at_ t }; (s.dev.acts = true) ∧ (st.puReads p x.bytes (puRiCode 4 i imm) (x.twice) = true) ∧ (imm.bytes ≤ x.w.bytes) ∧ (imm.bytes ≠ 8)) ∧
    (∃ (s : State) (p : Fin 4) (x : PuPre) (i : Fin 16) (imm : PuImm) (t : Ticks), let st : State := { s with dev := s.dev.at_ t }; (s.dev.acts = true) ∧ (st.puReads p x.bytes (puRiCode 5 i imm) (x.twice) = true) ∧ (imm.bytes ≤ x.w.bytes) ∧ (imm.bytes ≠ 8)) ∧
    (∃ (s : State) (p : Fin 4) (x : PuPre) (i : Fin 16) (imm : PuImm) (t : Ticks), let st : State := { s with dev := s.dev.at_ t }; (s.dev.acts = true) ∧ (st.puReads p x.bytes (puRiCode 7 i imm) (x.twice) = true) ∧ (imm.bytes ≤ x.w.bytes) ∧ (imm.bytes ≠ 8)) ∧
    (∃ (s : State) (p : Fin 4) (x : PuPre) (i : Fin 16) (imm : BitVec 8) (t : Ticks), let st : State := { s with dev := s.dev.at_ t }; (s.dev.acts = true) ∧ (st.puReads p x.bytes (puShiftCode 0 i imm) (x.twice) = true) ∧ (imm.toNat < x.w.bits)) ∧
    (∃ (s : State) (p : Fin 4) (x : PuPre) (i : Fin 16) (imm : BitVec 8) (t : Ticks), let st : State := { s with dev := s.dev.at_ t }; (s.dev.acts = true) ∧ (st.puReads p x.bytes (puShiftCode 1 i imm) (x.twice) = true) ∧ (imm.toNat < x.w.bits)) ∧
    (∃ (s : State) (p : Fin 4) (x : PuPre) (i : Fin 16) (imm : BitVec 8) (t : Ticks), let st : State := { s with dev := s.dev.at_ t }; (s.dev.acts = true) ∧ (st.puReads p x.bytes (puShiftCode 2 i imm) (x.twice) = true) ∧ (imm.toNat < x.w.bits)) ∧
    (∃ (s : State) (p : Fin 4) (x : PuPre) (i : Fin 16) (imm : BitVec 8) (t : Ticks), let st : State := { s with dev := s.dev.at_ t }; (s.dev.acts = true) ∧ (st.puReads p x.bytes (puShiftCode 3 i imm) (x.twice) = true) ∧ (imm.toNat < x.w.bits)) ∧
    (∃ (s : State) (p : Fin 4) (x : PuPre) (i : Fin 16) (t : Ticks), let st : State := { s with dev := s.dev.at_ t }; (s.dev.acts = true) ∧ (st.puReads p x.bytes (puCode 0x2C i 0) (x.twice) = true)) ∧
    (∃ (s : State) (p : Fin 4) (x : PuPre) (i : Fin 16) (t : Ticks), let st : State := { s with dev := s.dev.at_ t }; (s.dev.acts = true) ∧ (st.puReads p x.bytes (puCode 0x2D i 0) (x.twice) = true)) ∧
    (∃ (s : State) (p : Fin 4) (z : PuPre) (i b : Fin 16) (e : Disp) (t : Ticks), let st : State := { s with dev := s.dev.at_ t }; (s.dev.acts = true) ∧ (st.puReads p z.bytes (puMemCode 0x3C i b e) (z.twice) = true)) ∧
    (∃ (s : State) (p : Fin 4) (w : PuWidth) (i : Fin 16) (t : Ticks), let st : State := { s with dev := s.dev.at_ t }; (s.dev.acts = true) ∧ (st.puReads p w.prefix (puEscCode 1 i 0) (none) = true)) ∧
    (∃ (s : State) (p : Fin 4) (w : PuWidth) (i j : Fin 16) (t : Ticks), let st : State := { s with dev := s.dev.at_ t }; (s.dev.acts = true) ∧ (st.puReads p w.prefix (puEscCode 2 i j) (none) = true)) ∧
    (∃ (s : State) (p : Fin 4) (w : PuWidth) (i j : Fin 16) (t : Ticks), let st : State := { s with dev := s.dev.at_ t }; (s.dev.acts = true) ∧ (st.puReads p w.prefix (puEscCode 3 i j) (none) = true)) ∧
    (∃ (s : State) (p : Fin 4) (w : PuWidth) (i j : Fin 16) (t : Ticks), let st : State := { s with dev := s.dev.at_ t }; (s.dev.acts = true) ∧ (st.puReads p w.prefix (puEscCode 5 i j) (none) = true)) ∧
    (∃ (s : State) (p : Fin 4) (w : PuWidth) (i j : Fin 16) (t : Ticks), let st : State := { s with dev := s.dev.at_ t }; (s.dev.acts = true) ∧ (st.puReads p w.prefix (puEscCode 6 i j) (none) = true)) ∧
    (∃ (s : State) (p : Fin 4) (w : PuWidth) (i j : Fin 16) (t : Ticks), let st : State := { s with dev := s.dev.at_ t }; (s.dev.acts = true) ∧ (st.puReads p w.prefix (puEscCode 4 i j) (none) = true)) :=
  ⟨⟨wPu id, 0, ⟨.w32, none⟩, 2, .i1 5, 0, by decide⟩,
   ⟨wPu id, 0, ⟨.w32, none⟩, 2, .i1 5, 0, by decide⟩,
   ⟨wPu id, 0, ⟨.w32, none⟩, 2, .i1 5, 0, by decide⟩,
   ⟨wPu id, 0, ⟨.w32, none⟩, 2, .i1 5, 0, by decide⟩,
   ⟨wPu id, 0, ⟨.w32, none⟩, 2, .i1 5, 0, by decide⟩,
   ⟨wPu id, 0, ⟨.w32, none⟩, 2, .i1 5, 0, by decide⟩,
   ⟨wPu id, 0, ⟨.w32, none⟩, 2, .i1 5, 0, by decide⟩,
   ⟨wPu id, 0, ⟨.w32, none⟩, 2, .i1 5, 0, by decide⟩,
   ⟨wPu id, 0, ⟨.w32, none⟩, 2, 5, 0, by decide⟩,
   ⟨wPu id, 0, ⟨.w32, none⟩, 2, 5, 0, by decide⟩,
   ⟨wPu id, 0, ⟨.w32, none⟩, 2, 5, 0, by decide⟩,
   ⟨wPu id, 0, ⟨.w32, none⟩, 2, 5, 0, by decide⟩,
   ⟨wPu id, 0, ⟨.w32, none⟩, 2, 0, by decide⟩,
   ⟨wPu id, 0, ⟨.w32, none⟩, 2, 0, by decide⟩,
   ⟨wPu id, 0, ⟨.w64, none⟩, 2, 3, .d1 4, 0, by decide⟩,
   ⟨wPu id, 0, .w32, 2, 0, by decide⟩,
   ⟨wPu id, 0, .w32, 2, 3, 0, by decide⟩,
   ⟨wPu id, 0, .w32, 2, 3, 0, by decide⟩,
   ⟨wPu id, 0, .w32, 2, 3, 0, by decide⟩,
   ⟨wPu id, 0, .w32, 2, 3, 0, by decide⟩,
   ⟨wPu id, 0, .w32, 2, 3, 0, by decide⟩⟩

theorem witness_PurserMemoryCompletes :
    (∃ (s : State) (p : Fin 4) (w : PuWidth) (m : PuMem) (r b : Fin 16) (e : Disp) (v : Nat) (z : State) (t : Ticks), let d := s.dev.at_ t; let st : State := { s with dev := s.dev.at_ t }; (s.dev.acts = true) ∧ (st.puReads p (w.prefix ++ m.bytes) (puMemCode 0x30 r b e) (m.tw) = true) ∧ (m.isAtom = false) ∧ ((st.puBegin p m.tw).puLoad p ((d.pu p).ea b e) w false false = .inr (v, z))) ∧
    (∃ (s : State) (p : Fin 4) (w : PuWidth) (m : PuMem) (r b : Fin 16) (e : Disp) (v : Nat) (y z : State) (t : Ticks), let d := s.dev.at_ t; let st : State := { s with dev := s.dev.at_ t }; (s.dev.acts = true) ∧ (st.puReads p (w.prefix ++ m.bytes) (puMemCode 0x30 r b e) (m.tw) = true) ∧ (m.isAtom = true) ∧ (y = (st.puBegin p m.tw).onDev (fun d => d.puDeliver p)) ∧ (y.puCheck p ((d.pu p).ea b e) w.log2 false false true = none) ∧ ((puRam ((d.pu p).ea b e) w.bytes || inPierBuffer ((d.pu p).ea b e) w.bytes) = true) ∧ (y.puLoad p ((d.pu p).ea b e) w false true = .inr (v, z))) ∧
    (∃ (s : State) (p : Fin 4) (w : PuWidth) (m : PuMem) (r b : Fin 16) (e : Disp) (v : Nat) (z : State) (t : Ticks), let d := s.dev.at_ t; let st : State := { s with dev := s.dev.at_ t }; (s.dev.acts = true) ∧ (st.puReads p (w.prefix ++ m.bytes) (puMemCode 0x34 r b e) (m.tw) = true) ∧ (m.isAtom = false) ∧ ((st.puBegin p m.tw).puLoad p ((d.pu p).ea b e) w false false = .inr (v, z))) ∧
    (∃ (s : State) (p : Fin 4) (w : PuWidth) (m : PuMem) (r b : Fin 16) (e : Disp) (t : Ticks), let st : State := { s with dev := s.dev.at_ t }; (s.dev.acts = true) ∧ (st.puReads p (w.prefix ++ m.bytes) (puMemCode 0x34 r b e) (m.tw) = true) ∧ (m.isAtom = true)) ∧
    (∃ (s : State) (p : Fin 4) (w : PuWidth) (m : PuMem) (r b : Fin 16) (e : Disp) (z : State) (t : Ticks), let d := s.dev.at_ t; let st : State := { s with dev := s.dev.at_ t }; (s.dev.acts = true) ∧ (st.puReads p (w.prefix ++ m.bytes) (puMemCode 0x38 r b e) (m.tw) = true) ∧ (m.isAtom = false) ∧ ((st.puBegin p m.tw).puStore p ((d.pu p).ea b e) w (((st.puBegin p m.tw).dev.pu p).low r w) false false = .inr z)) ∧
    (∃ (s : State) (p : Fin 4) (w : PuWidth) (m : PuMem) (r b : Fin 16) (e : Disp) (y z : State) (t : Ticks), let d := s.dev.at_ t; let st : State := { s with dev := s.dev.at_ t }; (s.dev.acts = true) ∧ (st.puReads p (w.prefix ++ m.bytes) (puMemCode 0x38 r b e) (m.tw) = true) ∧ (m.isAtom = true) ∧ (y = (st.puBegin p m.tw).onDev (fun d => d.puDeliver p)) ∧ (y.puCheck p ((d.pu p).ea b e) w.log2 true false true = none) ∧ ((puRam ((d.pu p).ea b e) w.bytes || inPierBuffer ((d.pu p).ea b e) w.bytes) = true) ∧ (y.puStore p ((d.pu p).ea b e) w ((y.dev.pu p).low r w) false true = .inr z)) ∧
    (∃ (s : State) (p : Fin 4) (w : PuWidth) (atom : Bool) (r b : Fin 16) (e : Disp) (v : Nat) (y z u : State) (t : Ticks), let d := s.dev.at_ t; let st : State := { s with dev := s.dev.at_ t }; (s.dev.acts = true) ∧ (st.puReads p (w.prefix ++ atomPre atom) (puMemCode 0x40 r b e) (none) = true) ∧ (y = (if atom then (st.puBegin p none).onDev (fun d => d.puDeliver p) else st.puBegin p none)) ∧ ((atom = true → y.puCheck p ((d.pu p).ea b e) w.log2 true false true = none ∧ (puRam ((d.pu p).ea b e) w.bytes || inPierBuffer ((d.pu p).ea b e) w.bytes) = true)) ∧ (y.puLoad p ((d.pu p).ea b e) w false atom = .inr (v, z)) ∧ (z.puStore p ((d.pu p).ea b e) w ((v + (z.dev.pu p).low r w) % 2 ^ w.bits) false atom = .inr u)) ∧
    (∃ (s : State) (p : Fin 4) (w : PuWidth) (atom : Bool) (r b : Fin 16) (e : Disp) (v : Nat) (y z u : State) (t : Ticks), let d := s.dev.at_ t; let st : State := { s with dev := s.dev.at_ t }; (s.dev.acts = true) ∧ (st.puReads p (w.prefix ++ atomPre atom) (puMemCode 0x44 r b e) (none) = true) ∧ (y = (if atom then (st.puBegin p none).onDev (fun d => d.puDeliver p) else st.puBegin p none)) ∧ ((atom = true → y.puCheck p ((d.pu p).ea b e) w.log2 true false true = none ∧ (puRam ((d.pu p).ea b e) w.bytes || inPierBuffer ((d.pu p).ea b e) w.bytes) = true)) ∧ (y.puLoad p ((d.pu p).ea b e) w false atom = .inr (v, z)) ∧ (z.puStore p ((d.pu p).ea b e) w (v &&& (z.dev.pu p).low r w) false atom = .inr u)) ∧
    (∃ (s : State) (p : Fin 4) (w : PuWidth) (atom : Bool) (r b : Fin 16) (e : Disp) (v : Nat) (y z u : State) (t : Ticks), let d := s.dev.at_ t; let st : State := { s with dev := s.dev.at_ t }; (s.dev.acts = true) ∧ (st.puReads p (w.prefix ++ atomPre atom) (puMemCode 0x48 r b e) (none) = true) ∧ (y = (if atom then (st.puBegin p none).onDev (fun d => d.puDeliver p) else st.puBegin p none)) ∧ ((atom = true → y.puCheck p ((d.pu p).ea b e) w.log2 true false true = none ∧ (puRam ((d.pu p).ea b e) w.bytes || inPierBuffer ((d.pu p).ea b e) w.bytes) = true)) ∧ (y.puLoad p ((d.pu p).ea b e) w false atom = .inr (v, z)) ∧ (z.puStore p ((d.pu p).ea b e) w (v ||| (z.dev.pu p).low r w) false atom = .inr u)) ∧
    (∃ (s : State) (p : Fin 4) (w : PuWidth) (atom : Bool) (r b : Fin 16) (e : Disp) (v : Nat) (y z u : State) (t : Ticks), let d := s.dev.at_ t; let st : State := { s with dev := s.dev.at_ t }; (s.dev.acts = true) ∧ (st.puReads p (w.prefix ++ atomPre atom) (puMemCode 0x4C r b e) (none) = true) ∧ (y = (if atom then (st.puBegin p none).onDev (fun d => d.puDeliver p) else st.puBegin p none)) ∧ ((atom = true → y.puCheck p ((d.pu p).ea b e) w.log2 true false true = none ∧ (puRam ((d.pu p).ea b e) w.bytes || inPierBuffer ((d.pu p).ea b e) w.bytes) = true)) ∧ (y.puLoad p ((d.pu p).ea b e) w false atom = .inr (v, z)) ∧ (z.puStore p ((d.pu p).ea b e) w (v ^^^ (z.dev.pu p).low r w) false atom = .inr u)) ∧
    (∃ (s : State) (p : Fin 4) (w : PuWidth) (atom : Bool) (r b : Fin 16) (e : Disp) (v : Nat) (y z u : State) (t : Ticks), let d := s.dev.at_ t; let st : State := { s with dev := s.dev.at_ t }; (s.dev.acts = true) ∧ (st.puReads p (w.prefix ++ atomPre atom) (puMemCode 0x50 r b e) (none) = true) ∧ (y = (if atom then (st.puBegin p none).onDev (fun d => d.puDeliver p) else st.puBegin p none)) ∧ ((atom = true → y.puCheck p ((d.pu p).ea b e) w.log2 true false true = none ∧ (puRam ((d.pu p).ea b e) w.bytes || inPierBuffer ((d.pu p).ea b e) w.bytes) = true)) ∧ (y.puLoad p ((d.pu p).ea b e) w false atom = .inr (v, z)) ∧ (z.puStore p ((d.pu p).ea b e) w ((z.dev.pu p).low r w) false atom = .inr u)) ∧
    (∃ (s : State) (p : Fin 4) (w : PuWidth) (atom : Bool) (r b : Fin 16) (e : Disp) (v : Nat) (y z u : State) (t : Ticks), let d := s.dev.at_ t; let st : State := { s with dev := s.dev.at_ t }; (s.dev.acts = true) ∧ (st.puReads p (w.prefix ++ atomPre atom) (puMemCode 0x54 r b e) (none) = true) ∧ (y = (if atom then (st.puBegin p none).onDev (fun d => d.puDeliver p) else st.puBegin p none)) ∧ ((atom = true → y.puCheck p ((d.pu p).ea b e) w.log2 true false true = none ∧ (puRam ((d.pu p).ea b e) w.bytes || inPierBuffer ((d.pu p).ea b e) w.bytes) = true)) ∧ (y.puLoad p ((d.pu p).ea b e) w false atom = .inr (v, z)) ∧ (v = (z.dev.pu p).low 0 w) ∧ (z.puStore p ((d.pu p).ea b e) w ((z.dev.pu p).low r w) false atom = .inr u)) ∧
    (∃ (s : State) (p : Fin 4) (w : PuWidth) (atom : Bool) (r b : Fin 16) (e : Disp) (v : Nat) (y z : State) (t : Ticks), let d := s.dev.at_ t; let st : State := { s with dev := s.dev.at_ t }; (s.dev.acts = true) ∧ (st.puReads p (w.prefix ++ atomPre atom) (puMemCode 0x54 r b e) (none) = true) ∧ (y = (if atom then (st.puBegin p none).onDev (fun d => d.puDeliver p) else st.puBegin p none)) ∧ ((atom = true → y.puCheck p ((d.pu p).ea b e) w.log2 true false true = none ∧ (puRam ((d.pu p).ea b e) w.bytes || inPierBuffer ((d.pu p).ea b e) w.bytes) = true)) ∧ (y.puLoad p ((d.pu p).ea b e) w false atom = .inr (v, z)) ∧ (v ≠ (z.dev.pu p).low 0 w)) ∧
    (∃ (s : State) (p : Fin 4) (r k : Fin 16) (z : State) (t : Ticks), let st : State := { s with dev := s.dev.at_ t }; (s.dev.acts = true) ∧ (st.puReads p [] (puCode 0x66 r k) (none) = true) ∧ ((st.puBegin p none).puPush p k (fun c => c.get r) = .inr z)) ∧
    (∃ (s : State) (p : Fin 4) (r k : Fin 16) (v : Nat) (z : State) (t : Ticks), let st : State := { s with dev := s.dev.at_ t }; (s.dev.acts = true) ∧ (st.puReads p [] (puCode 0x67 r k) (none) = true) ∧ ((st.puBegin p none).puTop p k = .inr (v, z))) :=
  ⟨⟨wPuMem, 0, .w32, .plain, 2, 3, .d1 4, 0, _, 0, by decide, by decide, by decide, rfl⟩,
   ⟨wPuMem, 0, .w32, .atom, 2, 3, .d1 4, 0, _, _, 0, by decide, by decide, by decide, rfl, by decide, by decide, rfl⟩,
   ⟨wPuMem, 0, .w32, .plain, 2, 3, .d1 4, 0, _, 0, by decide, by decide, by decide, rfl⟩,
   ⟨wPuMem, 0, .w32, .atom, 2, 3, .d1 4, 0, by decide, by decide, by decide⟩,
   ⟨wPuMem, 0, .w32, .plain, 2, 3, .d1 4, _, 0, by decide, by decide, by decide, rfl⟩,
   ⟨wPuMem, 0, .w32, .atom, 2, 3, .d1 4, _, _, 0, by decide, by decide, by decide, rfl, by decide, by decide, rfl⟩,
   ⟨wPuMem, 0, .w32, true, 2, 3, .d1 4, 0, _, _, _, 0, by decide, by decide, rfl, by decide, rfl, rfl⟩,
   ⟨wPuMem, 0, .w32, false, 2, 3, .d1 4, 0, _, _, _, 0, by decide, by decide, rfl, by decide, rfl, rfl⟩,
   ⟨wPuMem, 0, .w32, false, 2, 3, .d1 4, 0, _, _, _, 0, by decide, by decide, rfl, by decide, rfl, rfl⟩,
   ⟨wPuMem, 0, .w32, false, 2, 3, .d1 4, 0, _, _, _, 0, by decide, by decide, rfl, by decide, rfl, rfl⟩,
   ⟨wPuMem, 0, .w32, false, 2, 3, .d1 4, 0, _, _, _, 0, by decide, by decide, rfl, by decide, rfl, rfl⟩,
   ⟨wPuMem, 0, .w32, true, 2, 3, .d1 4, 0, _, _, _, 0, by decide, by decide, rfl, by decide, rfl, by decide, rfl⟩,
   ⟨wPuCas, 0, .w32, true, 2, 3, .d1 4, 0, _, _, 0, by decide, by decide, rfl, by decide, rfl, by decide⟩,
   ⟨wPuMem, 0, 2, 3, _, 0, by decide, by decide, rfl⟩,
   ⟨wPuMem, 0, 2, 3, 0, _, 0, by decide, by decide, rfl⟩⟩

theorem witness_PurserControlCompletes :
    (∃ (s : State) (p : Fin 4) (t : Ticks), let st : State := { s with dev := s.dev.at_ t }; (s.dev.acts = true) ∧ (st.puReads p [] ([0x00]) (none) = true)) ∧
    (∃ (s : State) (p : Fin 4) (t : Ticks), let st : State := { s with dev := s.dev.at_ t }; (s.dev.acts = true) ∧ (st.puReads p [] ([0x02]) (none) = true)) ∧
    (∃ (s : State) (p : Fin 4) (t : Ticks), let st : State := { s with dev := s.dev.at_ t }; (s.dev.acts = true) ∧ (st.puReads p [] ([0x03]) (none) = true)) ∧
    (∃ (s : State) (p : Fin 4) (r : Fin 16) (t : Ticks), let st : State := { s with dev := s.dev.at_ t }; (s.dev.acts = true) ∧ (st.puReads p [] (puCode 0x06 r 0) (none) = true)) ∧
    (∃ (s : State) (p : Fin 4) (t : Ticks), let st : State := { s with dev := s.dev.at_ t }; (s.dev.acts = true) ∧ (st.puReads p [] ([0x01]) (none) = true) ∧ (((st.puBegin p none).dev.pu p).task = false) ∧ ((st.puBegin p none).dev.puTsbOk p ((st.puBegin p none).dev.pu p).tsbp.toNat = true)) ∧
    (∃ (s : State) (p : Fin 4) (r : Fin 16) (t : Ticks), let st : State := { s with dev := s.dev.at_ t }; (s.dev.acts = true) ∧ (st.puReads p [] (puCode 0x05 0 r) (none) = true) ∧ (((st.puBegin p none).dev.pu p).task = false) ∧ ((st.puBegin p none).dev.puTsbOk p (((st.puBegin p none).dev.pu p).get r) = true) ∧ (((st.puBegin p none).dev.pu p).handler = true)) ∧
    (∃ (s : State) (p : Fin 4) (r : Fin 16) (t : Ticks), let st : State := { s with dev := s.dev.at_ t }; (s.dev.acts = true) ∧ (st.puReads p [] (puCode 0x05 0 r) (none) = true) ∧ (((st.puBegin p none).dev.pu p).task = false) ∧ ((st.puBegin p none).dev.puTsbOk p (((st.puBegin p none).dev.pu p).get r) = true) ∧ (((st.puBegin p none).dev.pu p).handler = false) ∧ ((st.puBegin p none).dev.puTsbOk p ((st.puBegin p none).dev.pu p).tsbp.toNat = true)) ∧
    (∃ (s : State) (p : Fin 4) (tw : Twice) (rel : PuRel) (t : Ticks), let st : State := { s with dev := s.dev.at_ t }; (s.dev.acts = true) ∧ (st.puReads p (twicePre tw) (puBrCode rel) (tw) = true)) ∧
    (∃ (s : State) (p : Fin 4) (tw : Twice) (k : Fin 16) (rel : BitVec 32) (z : State) (t : Ticks), let st : State := { s with dev := s.dev.at_ t }; (s.dev.acts = true) ∧ (st.puReads p (twicePre tw) (puCode 0x62 0 k ++ toLe 4 rel.toNat) (tw) = true) ∧ ((st.puBegin p tw).puPush p k (fun _ => ((st.puBegin p tw).dev.pu p).next (6 + b2n tw.isSome)) = .inr z)) ∧
    (∃ (s : State) (p : Fin 4) (tw : Twice) (r : Fin 16) (t : Ticks), let st : State := { s with dev := s.dev.at_ t }; (s.dev.acts = true) ∧ (st.puReads p (twicePre tw) (puCode 0x63 0 r) (tw) = true)) ∧
    (∃ (s : State) (p : Fin 4) (tw : Twice) (r k : Fin 16) (z : State) (t : Ticks), let st : State := { s with dev := s.dev.at_ t }; (s.dev.acts = true) ∧ (st.puReads p (twicePre tw) (puCode 0x64 r k) (tw) = true) ∧ ((st.puBegin p tw).puPush p k (fun c => c.next (2 + b2n tw.isSome)) = .inr z)) ∧
    (∃ (s : State) (p : Fin 4) (tw : Twice) (k : Fin 16) (v : Nat) (z : State) (t : Ticks), let st : State := { s with dev := s.dev.at_ t }; (s.dev.acts = true) ∧ (st.puReads p (twicePre tw) (puCode 0x65 0 k) (tw) = true) ∧ ((st.puBegin p tw).puTop p k = .inr (v, z))) ∧
    (∃ (s : State) (p : Fin 4) (tw : Twice) (cc : Fin 16) (t : Ticks), let st : State := { s with dev := s.dev.at_ t }; (s.dev.acts = true) ∧ (st.puReads p (twicePre tw) ([BitVec.ofNat 8 (0x70 + cc)]) (tw) = true) ∧ (cc ≠ 14)) ∧
    (∃ (s : State) (p : Fin 4) (tw : Twice) (t : Ticks), let st : State := { s with dev := s.dev.at_ t }; (s.dev.acts = true) ∧ (st.puReads p (twicePre tw) ([BitVec.ofNat 8 (0x70 + 14)]) (tw) = true)) ∧
    (∃ (s : State) (p : Fin 4) (tw : Twice) (r k : Fin 16) (t : Ticks), let st : State := { s with dev := s.dev.at_ t }; (s.dev.acts = true) ∧ (st.puReads p (twicePre tw) (puCode 0x80 r k) (tw) = true)) ∧
    (∃ (s : State) (p : Fin 4) (r : Fin 16) (t : Ticks), let st : State := { s with dev := s.dev.at_ t }; (s.dev.acts = true) ∧ (st.puReads p [] (puCode 0x81 0 r) (none) = true) ∧ (((st.puBegin p none).dev.pu p).task = false)) ∧
    (∃ (s : State) (p : Fin 4) (r : Fin 16) (t : Ticks), let st : State := { s with dev := s.dev.at_ t }; (s.dev.acts = true) ∧ (st.puReads p [] (puCode 0x81 1 r) (none) = true)) ∧
    (∃ (s : State) (p : Fin 4) (r : Fin 16) (t : Ticks), let st : State := { s with dev := s.dev.at_ t }; (s.dev.acts = true) ∧ (st.puReads p [] (puCode 0x81 2 r) (none) = true)) ∧
    (∃ (s : State) (p : Fin 4) (r : Fin 16) (t : Ticks), let st : State := { s with dev := s.dev.at_ t }; (s.dev.acts = true) ∧ (st.puReads p [] (puCode 0x81 3 r) (none) = true) ∧ (((st.puBegin p none).dev.pu p).task = false)) ∧
    (∃ (s : State) (p : Fin 4) (r : Fin 16) (t : Ticks), let st : State := { s with dev := s.dev.at_ t }; (s.dev.acts = true) ∧ (st.puReads p [] (puCode 0x81 6 r) (none) = true) ∧ (((st.puBegin p none).dev.pu p).task = false)) ∧
    (∃ (s : State) (p : Fin 4) (r : Fin 16) (t : Ticks), let st : State := { s with dev := s.dev.at_ t }; (s.dev.acts = true) ∧ (st.puReads p [] (puEscCode 0 r 0) (none) = true) ∧ ((st.puBegin p none).dev.rngUp = true)) :=
  ⟨⟨wPu id, 0, 0, by decide⟩,
   ⟨wPu id, 0, 0, by decide⟩,
   ⟨wPu id, 0, 0, by decide⟩,
   ⟨wPu id, 0, 2, 0, by decide⟩,
   ⟨wPu (fun c => { c with tsbp := 0x0300001000 }), 0, 0, by decide⟩,
   ⟨wPuTsw true, 0, 2, 0, by decide⟩,
   ⟨wPuTsw false, 0, 2, 0, by decide⟩,
   ⟨wPu id, 0, none, .r1 4, 0, by decide⟩,
   ⟨wPuMem, 0, none, 3, 8, _, 0, by decide, by decide, rfl⟩,
   ⟨wPu id, 0, none, 3, 0, by decide⟩,
   ⟨wPuMem, 0, none, 2, 3, _, 0, by decide, by decide, rfl⟩,
   ⟨wPuMem, 0, none, 3, 0, _, 0, by decide, by decide, rfl⟩,
   ⟨wPu id, 0, none, 3, 0, by decide⟩,
   ⟨wPu id, 0, none, 0, by decide⟩,
   ⟨wPu id, 0, none, 2, 5, 0, by decide⟩,
   ⟨wPu id, 0, 2, 0, by decide⟩,
   ⟨wPu id, 0, 2, 0, by decide⟩,
   ⟨wPu id, 0, 2, 0, by decide⟩,
   ⟨wPu id, 0, 2, 0, by decide⟩,
   ⟨wPu id, 0, 2, 0, by decide⟩,
   ⟨wRng, 0, 2, 0, by decide⟩⟩

theorem witness_PurserBlockOperationsComplete :
    (∃ (s : State) (p : Fin 4) (x : PuRep) (y : State) (t : Ticks), let d := s.dev.at_ t; let st : State := { s with dev := s.dev.at_ t }; (s.dev.acts = true) ∧ (st.puReads p (x.bytes ++ (if false then [0xF6] else [])) ([0x90]) (none) = true) ∧ (x.rep = true) ∧ (puBlockFuel p (puMovsStep p x.w) id (((st.puBegin p none).dev.pu p).get 12 + 1) (if (d.pu p).shadow then none else x.upTo.map (fun e => (e.1, e.2.val))) (st.puBegin p none) = .seq y)) ∧
    (∃ (s : State) (p : Fin 4) (x : PuRep) (y : State) (t : Ticks), let st : State := { s with dev := s.dev.at_ t }; (s.dev.acts = true) ∧ (st.puReads p (x.bytes ++ (if false then [0xF6] else [])) ([0x90]) (none) = true) ∧ (x.rep = false) ∧ (puMovsStep p x.w (st.puBegin p none) = .more y)) ∧
    (∃ (s : State) (p : Fin 4) (x : PuRep) (y : State) (t : Ticks), let d := s.dev.at_ t; let st : State := { s with dev := s.dev.at_ t }; (s.dev.acts = true) ∧ (st.puReads p x.bytes ([0x91]) (none) = true) ∧ (x.rep = true) ∧ (puBlockFuel p (puFilsStep p x.w) id (((st.puBegin p none).dev.pu p).get 12 + 1) (if (d.pu p).shadow then none else x.upTo.map (fun e => (e.1, e.2.val))) (st.puBegin p none) = .seq y)) ∧
    (∃ (s : State) (p : Fin 4) (x : PuRep) (y : State) (t : Ticks), let st : State := { s with dev := s.dev.at_ t }; (s.dev.acts = true) ∧ (st.puReads p x.bytes ([0x91]) (none) = true) ∧ (x.rep = false) ∧ (puFilsStep p x.w (st.puBegin p none) = .more y)) ∧
    (∃ (s : State) (p : Fin 4) (x : PuRep) (y : State) (t : Ticks), let d := s.dev.at_ t; let st : State := { s with dev := s.dev.at_ t }; (s.dev.acts = true) ∧ (st.puReads p x.bytes ([0x92]) (none) = true) ∧ (x.rep = true) ∧ (puBlockFuel p (puCmpsStep p x.w) (fun s => s.puZ p true) (((st.puBegin p none).dev.pu p).get 12 + 1) (if (d.pu p).shadow then none else x.upTo.map (fun e => (e.1, e.2.val))) (st.puBegin p none) = .seq y)) ∧
    (∃ (s : State) (p : Fin 4) (x : PuRep) (y : State) (t : Ticks), let st : State := { s with dev := s.dev.at_ t }; (s.dev.acts = true) ∧ (st.puReads p x.bytes ([0x92]) (none) = true) ∧ (x.rep = false) ∧ (puCmpsStep p x.w (st.puBegin p none) = .more y)) ∧
    (∃ (s : State) (p : Fin 4) (x : PuRep) (y : State) (t : Ticks), let d := s.dev.at_ t; let st : State := { s with dev := s.dev.at_ t }; (s.dev.acts = true) ∧ (st.puReads p x.bytes ([0x93]) (none) = true) ∧ (x.rep = true) ∧ (puBlockFuel p (puScnsStep p x.w) (fun s => s.puZ p false) (((st.puBegin p none).dev.pu p).get 12 + 1) (if (d.pu p).shadow then none else x.upTo.map (fun e => (e.1, e.2.val))) (st.puBegin p none) = .seq y)) ∧
    (∃ (s : State) (p : Fin 4) (x : PuRep) (y : State) (t : Ticks), let st : State := { s with dev := s.dev.at_ t }; (s.dev.acts = true) ∧ (st.puReads p x.bytes ([0x93]) (none) = true) ∧ (x.rep = false) ∧ (puScnsStep p x.w (st.puBegin p none) = .more y)) ∧
    (∃ (s : State) (p : Fin 4) (x : PuRep) (r : Fin 16) (y : State) (t : Ticks), let d := s.dev.at_ t; let st : State := { s with dev := s.dev.at_ t }; (s.dev.acts = true) ∧ (st.puReads p x.bytes (puCode 0x94 r 0) (none) = true) ∧ (x.rep = true) ∧ (puBlockFuel p (puCrcsStep p x.w r) id (((st.puBegin p none).dev.pu p).get 12 + 1) (if (d.pu p).shadow then none else x.upTo.map (fun e => (e.1, e.2.val))) (st.puBegin p none) = .seq y)) ∧
    (∃ (s : State) (p : Fin 4) (x : PuRep) (r : Fin 16) (y : State) (t : Ticks), let st : State := { s with dev := s.dev.at_ t }; (s.dev.acts = true) ∧ (st.puReads p x.bytes (puCode 0x94 r 0) (none) = true) ∧ (x.rep = false) ∧ (puCrcsStep p x.w r (st.puBegin p none) = .more y)) ∧
    (∃ (s : State) (p : Fin 4) (x : PuRep) (n src dst : Nat) (t : Ticks), let d := s.dev.at_ t; let st : State := { s with dev := s.dev.at_ t }; (s.dev.acts = true) ∧ (st.puReads p (x.bytes ++ (if true then [0xF6] else [])) ([0x90]) (none) = true) ∧ (x.rep = true) ∧ (((st.puBegin p none).dev.pu p).task = false) ∧ ((d.pu p).get 12 = n ∧ ((st.puBegin p none).dev.pu p).get 12 = n ∧ ((st.puBegin p none).dev.pu p).get 13 = src ∧ ((st.puBegin p none).dev.pu p).get 14 = dst) ∧ (n ≠ 0 ∧ n * x.w.bytes ≤ 512) ∧ (bitOf ((st.puBegin p none).dev.pu p).kwin.toNat 12 = true) ∧ (((st.puBegin p none).dev.keyUse (keyhOf (((st.puBegin p none).dev.pu p).kwin.toNat % 4096) ((st.puBegin p none).dev.keySlot (((st.puBegin p none).dev.pu p).kwin.toNat % 4096))) [6] .firmware).isSome = true) ∧ ((st.puBegin p none).puMoveCheck p x.w src n false = none) ∧ (puRam src (n * x.w.bytes) = true ∧ dst + n * x.w.bytes ≤ ((st.puBegin p none).dev.keySlot (((st.puBegin p none).dev.pu p).kwin.toNat % 4096)).key.length)) ∧
    (∃ (s : State) (p : Fin 4) (e : Fin 65536) (t : Ticks), let d := s.dev.at_ t; (s.dev.acts = true) ∧ ((d.pu p).parked = false ∧ d.flt.chipSafe = false ∧ (d.pu p).shadow = false ∧ (d.pu p).skip = false ∧ (d.pu p).notice = false) ∧ ((d.pu p).ie = true ∧ (d.pu p).handler = false)) ∧
    (∃ (s : State) (p : Fin 4) (n : Fin 15) (k : Fin 4) (t : Ticks), let st : State := { s with dev := s.dev.at_ t }; (s.dev.acts = true) ∧ (st.puReady p (1 + n) (none) = true) ∧ ((st.dev.pu p).running.isNone = true ∨ puIllegal (memRead st.mem (st.dev.pu p).pc.toNat 15) = some (1 + n.val, 1 + k.val))) :=
  ⟨⟨wPuBlock, 0, ⟨.w16, true, none⟩, _, 0, by decide, by decide, by decide, rfl⟩,
   ⟨wPuBlock, 0, ⟨.w16, false, none⟩, _, 0, by decide, by decide, by decide, rfl⟩,
   ⟨wPuBlock, 0, ⟨.w16, true, none⟩, _, 0, by decide, by decide, by decide, rfl⟩,
   ⟨wPuBlock, 0, ⟨.w16, false, none⟩, _, 0, by decide, by decide, by decide, rfl⟩,
   ⟨wPuBlock, 0, ⟨.w16, true, none⟩, _, 0, by decide, by decide, by decide, rfl⟩,
   ⟨wPuBlock, 0, ⟨.w16, false, none⟩, _, 0, by decide, by decide, by decide, rfl⟩,
   ⟨wPuBlock, 0, ⟨.w16, true, none⟩, _, 0, by decide, by decide, by decide, rfl⟩,
   ⟨wPuBlock, 0, ⟨.w16, false, none⟩, _, 0, by decide, by decide, by decide, rfl⟩,
   ⟨wPuBlock, 0, ⟨.w16, true, none⟩, 2, _, 0, by decide, by decide, by decide, rfl⟩,
   ⟨wPuBlock, 0, ⟨.w16, false, none⟩, 2, _, 0, by decide, by decide, by decide, rfl⟩,
   ⟨wKeywin, 0, ⟨.w64, true, none⟩, 2, 0x0300000200, 0, 0, by decide⟩,
   ⟨wPu (fun c => { c with ie := true }), 0, 3, 0, by decide⟩,
   ⟨wPu id, 0, 0, 1, 0, by decide⟩⟩

theorem witness_TaskServicesComplete :
    (∃ (s : State) (p : Fin 4) (k : Nat) (t : Ticks), let st : State := { s with dev := s.dev.at_ t }; (s.dev.acts = true) ∧ (st.puReads p [] ([0x04, 0x00]) (none) = true) ∧ (((st.puBegin p none).dev.pu p).running = some k)) ∧
    (∃ (s : State) (p : Fin 4) (k : Nat) (t : Ticks), let st : State := { s with dev := s.dev.at_ t }; (s.dev.acts = true) ∧ (st.puReads p [] ([0x04, 0x01]) (none) = true) ∧ (((st.puBegin p none).dev.pu p).running = some k)) ∧
    (∃ (s : State) (p : Fin 4) (k : Nat) (t : Ticks), let st : State := { s with dev := s.dev.at_ t }; (s.dev.acts = true) ∧ (st.puReads p [] ([0x04, 0x02]) (none) = true) ∧ (((st.puBegin p none).dev.pu p).running = some k) ∧ ((((st.puCalls p).dev.task k).signalled &&& (((st.puCalls p).dev.pu p).get 0 % 8)) ≠ 0)) ∧
    (∃ (s : State) (p : Fin 4) (k : Nat) (t : Ticks), let st : State := { s with dev := s.dev.at_ t }; (s.dev.acts = true) ∧ (st.puReads p [] ([0x04, 0x02]) (none) = true) ∧ (((st.puBegin p none).dev.pu p).running = some k) ∧ ((((st.puCalls p).dev.task k).signalled &&& (((st.puCalls p).dev.pu p).get 0 % 8)) = 0) ∧ (bitOf (((st.puCalls p).dev.pu p).get 0 % 8) 0 = true ∧ (st.puCalls p).dev.now + signedOf 64 (((st.puCalls p).dev.pu p).get 1) ≤ (st.puCalls p).dev.now)) ∧
    (∃ (s : State) (p : Fin 4) (k : Nat) (t : Ticks), let st : State := { s with dev := s.dev.at_ t }; (s.dev.acts = true) ∧ (st.puReads p [] ([0x04, 0x02]) (none) = true) ∧ (((st.puBegin p none).dev.pu p).running = some k) ∧ ((((st.puCalls p).dev.task k).signalled &&& (((st.puCalls p).dev.pu p).get 0 % 8)) = 0) ∧ (bitOf (((st.puCalls p).dev.pu p).get 0 % 8) 0 = false ∨ (st.puCalls p).dev.now < (st.puCalls p).dev.now + signedOf 64 (((st.puCalls p).dev.pu p).get 1))) ∧
    (∃ (s : State) (p : Fin 4) (k : Nat) (t : Ticks), let st : State := { s with dev := s.dev.at_ t }; (s.dev.acts = true) ∧ (st.puReads p [] ([0x04, 0x04]) (none) = true) ∧ (((st.puBegin p none).dev.pu p).running = some k) ∧ (((st.puCalls p).dev.pu p).get 0 < 128) ∧ ((List.range 4).any (fun i => (st.puCalls p).dev.cfgAt Od.tsk_LANES i k = ((((st.puCalls p).dev.pu p).get 0 : Nat) : Int)) = true)) ∧
    (∃ (s : State) (p : Fin 4) (k : Nat) (t : Ticks), let st : State := { s with dev := s.dev.at_ t }; (s.dev.acts = true) ∧ (st.puReads p [] ([0x04, 0x05]) (none) = true) ∧ (((st.puBegin p none).dev.pu p).running = some k)) ∧
    (∃ (s : State) (p : Fin 4) (a n : Nat) (k : Nat) (t : Ticks), let st : State := { s with dev := s.dev.at_ t }; (s.dev.acts = true) ∧ (st.puReads p [] ([0x04, 0x06]) (none) = true) ∧ (((st.puBegin p none).dev.pu p).running = some k) ∧ (((st.puCalls p).dev.pu p).get 0 = a ∧ ((st.puCalls p).dev.pu p).get 1 = n ∧ 1 ≤ n ∧ n ≤ 256) ∧ ((puRam a n || inPierBuffer a n) = true ∧ (st.puCalls p).dev.rngUp = true) ∧ (acuCheck ((st.puCalls p).dev.acu (puMaster p)).regions a (a + n - 1) .write true = none)) ∧
    (∃ (s : State) (p : Fin 4) (c : Fin 256) (k : Nat) (t : Ticks), let st : State := { s with dev := s.dev.at_ t }; (s.dev.acts = true) ∧ (st.puReads p [] ([0x04, BitVec.ofNat 8 c]) (none) = true) ∧ (((st.puBegin p none).dev.pu p).running = some k) ∧ (6 < (c : Nat))) ∧
    (∃ (s : State) (p : Fin 4) (env : WriteEnv) (a n out cap : Nat) (m : Bytes) (r : OapReply) (z : State) (k : Nat) (t : Ticks), let st : State := { s with dev := s.dev.at_ t }; (s.dev.acts = true) ∧ (st.puReads p [] ([0x04, 0x03]) (none) = true) ∧ (((st.puBegin p none).dev.pu p).running = some k) ∧ (((st.puCalls p).dev.pu p).get 0 = a ∧ ((st.puCalls p).dev.pu p).get 1 = n ∧ ((st.puCalls p).dev.pu p).get 2 = out ∧ ((st.puCalls p).dev.pu p).get 3 = cap) ∧ (16 ≤ n ∧ n ≤ 16384 ∧ 16 ≤ cap) ∧ ((puRam a n || inPierBuffer a n) = true ∧ (acuCheck ((st.puCalls p).dev.acu (puMaster p)).regions a (a + n - 1) .read true).isNone = true) ∧ ((puRam out cap || inPierBuffer out cap) = true ∧ (acuCheck ((st.puCalls p).dev.acu (puMaster p)).regions out (out + cap - 1) .write true).isNone = true) ∧ (m = memRead (st.puCalls p).mem a n) ∧ (oapForm m = 0) ∧ (serveAny env (oapHead m).op (st.puCalls p) { req := mailboxReq + 1 + k, id := (oapHead m).id, role := (st.puCalls p).dev.requesterRole (mailboxReq + 1 + k), count := (oapHead m).count, body := m.drop 16, room := cap - 16 } = (some r, z)) ∧ ((z.dev.pu p).running = some k) ∧ ((oapMessage ((oapHead m).op + 0x80) (oapHead m).id r).length ≤ cap)) ∧
    (∃ (s : State) (k : Fin 16) (t : Ticks), let d := s.dev.at_ t; (s.dev.acts = true) ∧ ((d.task k).state = .waiting ∧ bitOf (d.task k).waitMask 0 = true) ∧ ((d.task k).waitUntil ≤ d.now) ∧ (d.flt.chipSafe = false)) ∧
    (∃ (s : State) (k : Fin 16) (t : Ticks), let d := s.dev.at_ t; (s.dev.acts = true) ∧ (d.flt.chipSafe = false) ∧ (d.isStandby = false)) ∧
    (∃ (s : State) (k : Fin 16) (z : State) (t : Ticks), let d := s.dev.at_ t; let st : State := { s with dev := s.dev.at_ t }; (s.dev.acts = true) ∧ (d.flt.chipSafe = false) ∧ (d.isStandby = false) ∧ ((d.task k).state = .off) ∧ (st.taskStart k = (0, z))) ∧
    (∃ (s : State) (p : Fin 4) (share : Bool) (k : Nat) (t : Ticks), let d := s.dev.at_ t; (s.dev.acts = true) ∧ ((d.pu p).parked = false ∧ d.flt.chipSafe = false ∧ (d.pu p).shadow = false ∧ (d.pu p).skip = false) ∧ ((d.pu p).running = some k)) ∧
    (∃ (s : State) (n : Fin 128) (t : Ticks), let d := s.dev.at_ t; (s.dev.acts = true) ∧ (d.dhRuns n = true ∧ (d.dh n).skip = false) ∧ ((d.lane n).code.length ≤ (d.dh n).pc.toNat)) ∧
    (∃ (s : State) (p : Fin 4) (f : CoreFault) (z : State) (t : Ticks), let d := s.dev.at_ t; let st : State := { s with dev := s.dev.at_ t }; (s.dev.acts = true) ∧ (d.puRuns p = true ∧ (d.pu p).skip = false) ∧ (st.puFetch p 1 = some (z, f))) ∧
    (∃ (s : State) (m : Fin 174) (a c : Nat) (t : Ticks), (s.dev.acts = true) ∧ (140 ≤ (m : Nat))) ∧
    (∃ (s : State) (m : Fin 174) (a c : Nat) (t : Ticks), let d := s.dev.at_ t; (s.dev.acts = true) ∧ (136 ≤ (m : Nat) ∧ (m : Nat) < 140) ∧ ((d.acu m).impValid = false)) :=
  ⟨⟨served 0x00 (wTask id), 0, 2, 0, by decide⟩,
   ⟨served 0x01 (wTask id), 0, 2, 0, by decide⟩,
   ⟨served 0x02 (wTaskSig), 0, 2, 0, by decide⟩,
   ⟨served 0x02 (wTaskX 1 0), 0, 2, 0, by decide⟩,
   ⟨served 0x02 (wTaskX 1 5), 0, 2, 0, by decide⟩,
   ⟨served 0x04 ((fun s => { s with dev := s.dev.setAt Od.tsk_LANES 0 2 5 }) (wTaskX 5 0)), 0, 2, 0, by decide⟩,
   ⟨served 0x05 (wTask id), 0, 2, 0, by decide⟩,
   ⟨served 0x06 (wTaskX 0x0300003000 16), 0, 0x0300003000, 16, 2, 0, by decide⟩,
   ⟨served 9 (wTask id), 0, 9, 2, 0, by decide⟩,
   ⟨served 0x03 (wTaskOap), 0, { start := { flotId := 0, sramKept := false, holdup := true, readsAgree := true, scrub := [], badA := false, badB := false, saveOk := true, chartOk := true, pierFails := [], ready := 0 }, agree := false, verify := false, pulses := 0, cut := false, lcCut := none }, 0x0300003000, 20, 0x0300004000, 64, _, _, _, 2, 0, by decide, by decide, rfl, by decide, by decide, by decide, by decide, rfl, by decide, rfl, by decide, by decide⟩,
   ⟨wTask (fun e => { e with state := .waiting, waitMask := 1 }), 2, 0, by decide⟩,
   ⟨wTask id, 2, 0, by decide⟩,
   ⟨wStart, 2, _, 0, by decide, by decide, by decide, by decide, rfl⟩,
   ⟨wTask id, 0, false, 2, 0, by decide⟩,
   ⟨wLane (fun c => { c with pc := 20 }), 3, 0, by decide⟩,
   ⟨wPu (fun c => { c with pc := 0x10000000000 }), 0, _, _, 0, by decide, by decide, rfl⟩,
   ⟨wit id, 150, 0x100, 0x2C, 0, by decide⟩,
   ⟨wit id, 137, 0x100, 0x2C, 0, by decide⟩⟩

theorem witness_CipherCoresComplete :
    (∃ (s : State) (c : Fin 68) (who : Nat) (t : Ticks), let d := s.dev.at_ t; (s.dev.acts = true) ∧ (who ≠ 0) ∧ ((d.core c).user = 0) ∧ (d.coreAdmits c who = true)) ∧
    (∃ (s : State) (c : Fin 68) (who : Nat) (t : Ticks), let d := s.dev.at_ t; (s.dev.acts = true) ∧ (who ≠ 0) ∧ ((d.core c).user = who) ∧ ((d.core c).releasing = false ∧ (d.core c).busy = false)) ∧
    (∃ (s : State) (c : Fin 68) (user : Nat) (keyh : Word32) (j : Nat) (k : KeySlot) (t : Ticks), let d := s.dev.at_ t; (s.dev.acts = true) ∧ (d.coreTakes c user = true) ∧ (keyh ≠ 0) ∧ (d.keyUse keyh.toNat [0, 1] (keyUserOf (d.core c).user) = some (j, k)) ∧ (k.type = 1 ∨ k.type = 2)) ∧
    (∃ (s : State) (c : Fin 68) (h j : Nat) (k : KeySlot) (t : Ticks), let d := s.dev.at_ t; (s.dev.acts = true) ∧ ((d.core c).loading = some h) ∧ (d.keyUse h [0, 1] (keyUserOf (d.core c).user) = some (j, k)) ∧ ((d.core c).waitsKey = false)) ∧
    (∃ (s : State) (c : Fin 68) (user : Nat) (ctrl : Word32) (t : Ticks), let d := s.dev.at_ t; (s.dev.acts = true) ∧ (d.coreTakes c user = true) ∧ ((d.core c).busy = false ∧ (d.core c).loading = none) ∧ (bitsOf ctrl.toNat 2 0 = 1 ∧ bitOf ctrl.toNat 31 = true)) ∧
    (∃ (s : State) (c : Fin 68) (user : Nat) (ctrl : Word32) (t : Ticks), let d := s.dev.at_ t; (s.dev.acts = true) ∧ (d.coreTakes c user = true) ∧ ((d.core c).busy = false ∧ (d.core c).loading = none) ∧ (bitsOf ctrl.toNat 2 0 = 2 ∧ bitOf ctrl.toNat 31 = true)) ∧
    (∃ (s : State) (c : Fin 68) (user : Nat) (ctrl : Word32) (t : Ticks), let d := s.dev.at_ t; (s.dev.acts = true) ∧ (d.coreTakes c user = true) ∧ ((d.core c).busy = false ∧ (d.core c).loading = none) ∧ (bitsOf ctrl.toNat 2 0 = 3 ∧ bitOf ctrl.toNat 31 = true)) ∧
    (∃ (s : State) (c : Fin 68) (user : Nat) (ctrl : Word32) (t : Ticks), let d := s.dev.at_ t; (s.dev.acts = true) ∧ (d.coreTakes c user = true) ∧ ((d.core c).busy = false ∧ (d.core c).loading = none) ∧ (bitsOf ctrl.toNat 2 0 = 4 ∧ bitOf ctrl.toNat 31 = true)) ∧
    (∃ (s : State) (c : Fin 68) (user : Nat) (ctrl : Word32) (t : Ticks), let d := s.dev.at_ t; (s.dev.acts = true) ∧ (d.coreTakes c user = true) ∧ ((d.core c).busy = false ∧ (d.core c).loading = none) ∧ (bitsOf ctrl.toNat 2 0 = 5 ∧ bitOf ctrl.toNat 31 = true)) ∧
    (∃ (s : State) (c : Fin 68) (blocks r : Nat) (t : Ticks) (j : CipherJob) (aad : Bytes) (out tag : Option Bytes) (iv : Bytes), let d := s.dev.at_ t; (s.dev.acts = true) ∧ ((d.core c).job = some j) ∧ ((d.core c).busy = true ∧ (d.core c).waitsKey = false ∧ (d.core c).aborting = false) ∧ (aad = (if j.mode = 1 ∨ j.mode = 2 then memRead s.mem (coreBuf c j.aadAddr) j.aadLen else [])) ∧ (jobOutput j j.key (memRead s.mem (coreBuf c j.src) j.len) aad (memRead s.mem (coreBuf c j.tagAddr) j.tagLen) = (r, out, tag, iv))) ∧
    (∃ (s : State) (c : Fin 68) (t : Ticks), let d := s.dev.at_ t; (s.dev.acts = true) ∧ ((d.core c).user = 0)) ∧
    (∃ (s : State) (c : Fin 68) (t : Ticks), let d := s.dev.at_ t; (s.dev.acts = true) ∧ (limitedUser (d.core c).user = true ∧ (d.core c).heldRaised = false) ∧ ((d.core c).lockedAt + d.cfg Od.cic_LOCK_HOLD_LIMIT (c / 4) < d.now)) ∧
    (∃ (s : State) (c : Fin 68) (t : Ticks), let d := s.dev.at_ t; (s.dev.acts = true) ∧ (d.flt.chipSafe = false) ∧ (d.isStandby = false)) ∧
    (∃ (s : State) (c : Fin 68) (t : Ticks), let d := s.dev.at_ t; (s.dev.acts = true) ∧ (d.flt.chipSafe = false) ∧ (d.isStandby = false) ∧ (((d.set Od.cip_ENABLE c 0).core c).user ≠ 0 ∧ ((d.set Od.cip_ENABLE c 0).core c).busy = false)) :=
  ⟨⟨wit id, 3, 0xF00, 0, by decide⟩,
   ⟨wit (fun d => d.setCore 3 { user := 5 }), 3, 5, 0, by decide⟩,
   ⟨wCipher, 3, 0xFFF, 3, _, _, 0, by decide, by decide, by decide, rfl, by decide⟩,
   ⟨wCipher, 3, 3, _, _, 0, by decide, by decide, rfl, by decide⟩,
   ⟨wCipherIdle, 3, 0xFFF, 2147483649, 0, by decide⟩,
   ⟨wCipherIdle, 3, 0xFFF, 2147483650, 0, by decide⟩,
   ⟨wCipherIdle, 3, 0xFFF, 2147483651, 0, by decide⟩,
   ⟨wCipherIdle, 3, 0xFFF, 2147483652, 0, by decide⟩,
   ⟨wCipherIdle, 3, 0xFFF, 2147483653, 0, by decide⟩,
   ⟨wCipherRun, 3, 0, _, 0, _, _, _, _, _, by decide, rfl, by decide, rfl, rfl⟩,
   ⟨wit id, 3, 0, by decide⟩,
   ⟨wit (fun d => d.setCore 3 { user := 5 }), 3, 10 ^ 18, by decide⟩,
   ⟨wit id, 3, 0, by decide⟩,
   ⟨wit (fun d => d.setCore 3 { user := 5 }), 3, 0, by decide⟩⟩

theorem witness_HashRingsComplete :
    (∃ (s : State) (r : Fin 8) (pos : Word32) (n : Nat) (t : Ticks), let d := s.dev.at_ t; (s.dev.acts = true) ∧ ((d.hring r).valid = true) ∧ (ringAhead (d.hring r).jobLog2 (d.hring r).jobTail (pos.toNat % 2 ^ 17) = some n) ∧ (n ≤ 2 ^ (d.hring r).jobLog2 - ((d.hring r).jobTail - (d.hring r).jobHead))) ∧
    (∃ (s : State) (r : Fin 8) (pos : Word32) (n : Nat) (t : Ticks), let d := s.dev.at_ t; (s.dev.acts = true) ∧ ((d.hring r).valid = true) ∧ (ringAhead (d.hring r).cplLog2 (d.hring r).cplHead (pos.toNat % 2 ^ 17) = some n) ∧ (n ≤ (d.hring r).cplTail - (d.hring r).cplHead)) ∧
    (∃ (s : State) (r : Fin 8) (v : Word32) (tags : List Nat) (t : Ticks), let d := s.dev.at_ t; (s.dev.acts = true) ∧ ((d.hring r).valid = false) ∧ (bitOf v.toNat 31 = true) ∧ (4 ≤ bitsOf v.toNat 3 0 ∧ bitsOf v.toNat 3 0 ≤ 12 ∧ 4 ≤ bitsOf v.toNat 11 8 ∧ bitsOf v.toNat 11 8 ≤ 12) ∧ ((r : Nat) ≠ 5 ∧ (r : Nat) ≠ 6) ∧ (((r : Nat) = 7 → d.inWindow 0 (d.hring r).jobBase (64 * 2 ^ bitsOf v.toNat 3 0) = true ∧ d.inWindow 0 (d.hring r).cplBase (16 * 2 ^ bitsOf v.toNat 11 8) = true))) ∧
    (∃ (s : State) (r : Fin 8) (f g : HashFetch) (m k : Bytes) (j : Nat) (t : Ticks), let d := s.dev.at_ t; (s.dev.acts = true) ∧ (g = d.hashFetch (memRead s.mem) r f) ∧ (d.hashReady r 1 g = true) ∧ (g.input = some m) ∧ ((d.hashTaken r).hashKey r 1 (leAt g.desc 2 1) (leAt g.desc 4 4) g.aux = .inr (k, j))) ∧
    (∃ (s : State) (r : Fin 8) (f g : HashFetch) (m k : Bytes) (j : Nat) (t : Ticks), let d := s.dev.at_ t; (s.dev.acts = true) ∧ (g = d.hashFetch (memRead s.mem) r f) ∧ (d.hashReady r 2 g = true) ∧ (g.input = some m) ∧ ((d.hashTaken r).hashKey r 2 (leAt g.desc 2 1) (leAt g.desc 4 4) g.aux = .inr (k, j))) ∧
    (∃ (s : State) (r : Fin 8) (f g : HashFetch) (m k : Bytes) (j : Nat) (t : Ticks), let d := s.dev.at_ t; (s.dev.acts = true) ∧ (g = d.hashFetch (memRead s.mem) r f) ∧ (d.hashReady r 3 g = true) ∧ (g.input = some m) ∧ ((d.hashTaken r).hashKey r 3 (leAt g.desc 2 1) (leAt g.desc 4 4) g.aux = .inr (k, j))) ∧
    (∃ (s : State) (r : Fin 8) (f g : HashFetch) (m k : Bytes) (j : Nat) (t : Ticks), let d := s.dev.at_ t; (s.dev.acts = true) ∧ (g = d.hashFetch (memRead s.mem) r f) ∧ (d.hashReady r 4 g = true) ∧ (g.input = some m) ∧ ((d.hashTaken r).hashKey r 4 (leAt g.desc 2 1) (leAt g.desc 4 4) g.aux = .inr (k, j))) ∧
    (∃ (s : State) (r : Fin 8) (f g : HashFetch) (m k : Bytes) (j : Nat) (t : Ticks), let d := s.dev.at_ t; (s.dev.acts = true) ∧ (g = d.hashFetch (memRead s.mem) r f) ∧ (d.hashReady r 5 g = true) ∧ (g.input = some m) ∧ ((d.hashTaken r).hashKey r 5 (leAt g.desc 2 1) (leAt g.desc 4 4) g.aux = .inr (k, j)) ∧ (bitOf (leAt g.desc 2 1) 3 = true)) ∧
    (∃ (s : State) (r : Fin 8) (f g : HashFetch) (m k : Bytes) (j : Nat) (t : Ticks), let d := s.dev.at_ t; (s.dev.acts = true) ∧ (g = d.hashFetch (memRead s.mem) r f) ∧ (d.hashReady r 6 g = true) ∧ (g.input = some m) ∧ ((d.hashTaken r).hashKey r 6 (leAt g.desc 2 1) (leAt g.desc 4 4) g.aux = .inr (k, j)) ∧ (g.aux.isSome = true ∧ (bitOf (leAt g.desc 2 1) 4 = true → g.pk.isSome = true))) ∧
    (∃ (s : State) (i : Nat) (j : HashJob) (t : Ticks), let d := s.dev.at_ t; (s.dev.acts = true) ∧ (d.cry.hash.running[i]? = some j) ∧ (j.status = 0 ∧ j.outKeyh = none ∧ j.op < 5) ∧ (j.out ≠ [] ∧ j.ring ≠ 7)) ∧
    (∃ (s : State) (n : Fin 48) (t : Ticks), let d := s.dev.at_ t; (s.dev.acts = true) ∧ ((n : Nat) ∉ d.cry.hash.retired)) :=
  ⟨⟨wit (fun d => d.setHring 2 { valid := true }), 2, 3, 3, 0, by decide⟩,
   ⟨wit (fun d => d.setHring 2 { valid := true, cplTail := 4 }), 2, 3, 3, 0, by decide⟩,
   ⟨wit (fun d => d.set Od.hif_WINDOW_SIZE 0 0x100000), 7, 0x80000504, [], 0, by decide⟩,
   ⟨wHash, 7, wHashF 1 0 0 0 32 0, _, _, _, _, 0, by decide, rfl, by decide, rfl, rfl⟩,
   ⟨wHash, 7, wHashF 2 0 3 0 32 32, _, _, _, _, 0, by decide, rfl, by decide, rfl, rfl⟩,
   ⟨wHash, 7, wHashF 3 0 3 0 32 32, _, _, _, _, 0, by decide, rfl, by decide, rfl, rfl⟩,
   ⟨wHash, 7, wHashF 4 0 3 0 4 32, _, _, _, _, 0, by decide, rfl, by decide, rfl, rfl⟩,
   ⟨wHash, 7, wHashF 5 1 9 3 7856 0, _, _, _, _, 0, by decide, rfl, by decide, rfl, rfl, by decide⟩,
   ⟨wHash, 7, wHashF 6 1 16 0 0 7856, _, _, _, _, 0, by decide, rfl, by decide, rfl, rfl, by decide⟩,
   ⟨wit (fun d => { d with cry.hash.running := [{ ring := 0, op := 1, param := 0, tag := 5, status := 0, out := [1], outAddr := 0, outKeyh := none, keyh := 0, compressions := 1 }] }), 0, _, 0, by decide, rfl, by decide, by decide⟩,
   ⟨wit id, 3, 0, by decide⟩⟩

theorem witness_BignumUnitCompletes :
    (∃ (s : State) (u : Nat) (t : Ticks), let d := s.dev.at_ t; (s.dev.acts = true) ∧ (d.bgn.user = 0) ∧ (0x100 ≤ u ∧ u ≤ 0x103)) ∧
    (∃ (s : State) (u : Nat) (t : Ticks), let d := s.dev.at_ t; (s.dev.acts = true) ∧ (d.bgn.user = u ∧ u ≠ 0)) ∧
    (∃ (s : State) (u : Nat) (i : Fin 64) (v : Word32) (w : Nat) (t : Ticks), let d := s.dev.at_ t; (s.dev.acts = true) ∧ (d.bgn.user = u ∧ u ≠ 0) ∧ (w = v.toNat % 2 ^ 17 - (if bitOf v.toNat 11 then 2048 else 0)) ∧ (d.bgn.queue = [] ∧ slotCode w ≤ 4 ∧ slotBase w + slotBytes w ≤ 131072) ∧ (d.bgn.slots.any (fun e => decide (e.1 ≠ (i : Nat)) && slotsOverlap e.2 w) = false)) ∧
    (∃ (s : State) (c : BgnCmd) (t : Ticks), let d := s.dev.at_ t; (s.dev.acts = true) ∧ (d.bgnTakes 1 c [c.dst, c.a, c.b, c.m] (some c.m) = true) ∧ (d.bgn.value c.a < d.bgn.modulus c.m ∧ d.bgn.value c.b < d.bgn.modulus c.m)) ∧
    (∃ (s : State) (c : BgnCmd) (t : Ticks), let d := s.dev.at_ t; (s.dev.acts = true) ∧ (d.bgnTakes 2 c [c.dst, c.a, c.b, c.m] (some c.m) = true) ∧ (d.bgn.value c.a < d.bgn.modulus c.m ∧ d.bgn.value c.b < d.bgn.modulus c.m)) ∧
    (∃ (s : State) (c : BgnCmd) (t : Ticks), let d := s.dev.at_ t; (s.dev.acts = true) ∧ (d.bgnTakes 3 c [c.dst, c.a, c.b, c.m] (some c.m) = true) ∧ (d.bgn.value c.a < d.bgn.modulus c.m ∧ d.bgn.value c.b < d.bgn.modulus c.m)) ∧
    (∃ (s : State) (c : BgnCmd) (t : Ticks), let d := s.dev.at_ t; (s.dev.acts = true) ∧ (d.bgnTakes 4 c [c.dst, c.a, c.m] (some c.m) = true)) ∧
    (∃ (s : State) (c : BgnCmd) (t : Ticks), let d := s.dev.at_ t; (s.dev.acts = true) ∧ (d.bgnTakes 5 c [c.dst, c.a, c.m] (some c.m) = true) ∧ (d.bgn.value c.a < d.bgn.modulus c.m)) ∧
    (∃ (s : State) (c : BgnCmd) (t : Ticks), let d := s.dev.at_ t; (s.dev.acts = true) ∧ (d.bgnTakes 7 c [c.dst, c.a, c.b, c.m] (some c.m) = true)) ∧
    (∃ (s : State) (c : BgnCmd) (v : Nat) (t : Ticks), let d := s.dev.at_ t; (s.dev.acts = true) ∧ (d.bgnTakes 6 c [c.dst, c.a, c.m] (some c.m) = true) ∧ (invMod (d.bgnBits c) (d.bgn.value c.a) (d.bgn.modulus c.m) = some v)) ∧
    (∃ (s : State) (c : BgnCmd) (t : Ticks), let d := s.dev.at_ t; (s.dev.acts = true) ∧ (d.bgnTakes 8 c [c.dst, c.a, c.b, c.m, c.arg % 64] (some c.m) = true) ∧ (d.rngUp = true)) ∧
    (∃ (s : State) (c : BgnCmd) (t : Ticks), let d := s.dev.at_ t; (s.dev.acts = true) ∧ (d.bgnTakes 9 c [c.dst, c.a] none = true)) ∧
    (∃ (s : State) (c : BgnCmd) (t : Ticks), let d := s.dev.at_ t; (s.dev.acts = true) ∧ (d.bgnTakes 10 c [c.m] none = true) ∧ (d.bgn.value c.m % 2 = 1)) ∧
    (∃ (s : State) (c : BgnCmd) (t : Ticks), let d := s.dev.at_ t; (s.dev.acts = true) ∧ (d.bgnTakes 11 c [c.dst, c.m] (some c.m) = true) ∧ (d.rngUp = true)) ∧
    (∃ (s : State) (c : BgnCmd) (d1 : Dev) (t : Ticks), let d := s.dev.at_ t; (s.dev.acts = true) ∧ (d.bgn.queue.head? = some c ∧ c.op = 12) ∧ (d.loadOperand c.dst c.arg = .inr d1)) ∧
    (∃ (s : State) (c : BgnCmd) (j : Nat) (k : KeySlot) (t : Ticks), let d := s.dev.at_ t; (s.dev.acts = true) ∧ (d.bgn.queue.head? = some c ∧ c.op = 13) ∧ (slotValid (d.bgn.slot c.a) = true ∧ slotSecret (d.bgn.slot c.a) = true ∧ slotCode (d.bgn.slot c.a) ≤ 1) ∧ (d.keyUse c.arg [7] .firmware = some (j, k)) ∧ (k.key.length = slotBytes (d.bgn.slot c.a))) ∧
    (∃ (s : State) (req : Bytes) (t : Ticks), let d := s.dev.at_ t; (s.dev.acts = true) ∧ (d.flt.chipSafe = false) ∧ (d.bgn.job.state ≠ 1) ∧ (leAt req 0 1 ≤ 4 ∧ leAt req 1 3 = 0 ∧ 4 + 3 * (bnBits (leAt req 0 1) / 8) ≤ req.length)) ∧
    (∃ (s : State) (n : Nat) (t : Ticks), let d := s.dev.at_ t; (s.dev.acts = true) ∧ (d.bgn.job.state = 1) ∧ (n = bnBits (leAt d.bgn.job.request 0 1) / 8) ∧ (beAt d.bgn.job.request (4 + 2 * n) n % 2 = 1)) :=
  ⟨⟨wit id, 0x101, 0, by decide⟩,
   ⟨wit (fun d => d.onBgn (fun b => { b with user := 0x101 })), 0x101, 0, by decide⟩,
   ⟨wit (fun d => d.onBgn (fun b => { b with user := 0x101 })), 0x101, 3, 0x10000, 0x10000, 0, by decide⟩,
   ⟨wBgn 1, { op := 1, dst := 0, a := 1, b := 2, m := 3, arg := 4 }, 0, by decide⟩,
   ⟨wBgn 2, { op := 2, dst := 0, a := 1, b := 2, m := 3, arg := 4 }, 0, by decide⟩,
   ⟨wBgn 3, { op := 3, dst := 0, a := 1, b := 2, m := 3, arg := 4 }, 0, by decide⟩,
   ⟨wBgn 4, { op := 4, dst := 0, a := 1, b := 2, m := 3, arg := 4 }, 0, by decide⟩,
   ⟨wBgn 5, { op := 5, dst := 0, a := 1, b := 2, m := 3, arg := 4 }, 0, by decide⟩,
   ⟨wBgn 7, { op := 7, dst := 0, a := 1, b := 2, m := 3, arg := 4 }, 0, by decide⟩,
   ⟨wBgn 6, { op := 6, dst := 0, a := 1, b := 2, m := 3, arg := 4 }, 5, 0, by decide⟩,
   ⟨wBgn 8, { op := 8, dst := 0, a := 1, b := 2, m := 3, arg := 4 }, 0, by decide⟩,
   ⟨wBgn 9, { op := 9, dst := 0, a := 1, b := 2, m := 3, arg := 4 }, 0, by decide⟩,
   ⟨wBgn 10, { op := 10, dst := 0, a := 1, b := 2, m := 3, arg := 4 }, 0, by decide⟩,
   ⟨wBgn 11, { op := 11, dst := 0, a := 1, b := 2, m := 3, arg := 4 }, 0, by decide⟩,
   ⟨wBgnKey 12, { op := 12, dst := 0, a := 1, b := 2, m := 3, arg := 3 }, _, 0, by decide, by decide, rfl⟩,
   ⟨wBgnKey 13, { op := 13, dst := 0, a := 1, b := 2, m := 3, arg := 3 }, _, _, 0, by decide, by decide, by decide, rfl, by decide⟩,
   ⟨wit id, List.replicate 100 0, 0, by decide⟩,
   ⟨wit (fun d => d.onBgn (fun x => { x with job := { state := 1, request := List.replicate 99 0 ++ [7] } })), 32, 0, by decide⟩⟩

theorem witness_RandomSourceAndKeysComplete :
    (∃ (s : State) (t : Ticks), let d := s.dev.at_ t; (s.dev.acts = true) ∧ (d.cry.rng.state = .starting ∧ d.cry.rng.excluded = [])) ∧
    (∃ (s : State) (g test : Fin 4) (t : Ticks), let d := s.dev.at_ t; (s.dev.acts = true) ∧ (d.cry.rng.state = .ok ∧ d.cry.rng.excluded = [])) ∧
    (∃ (s : State) (g : Fin 4) (t0 t : Ticks), let d := s.dev.at_ t; (s.dev.acts = true) ∧ (d.cry.rng.state = .degraded ∧ d.cry.rng.excluded = [((g : Nat), t0)]) ∧ (t0 + 10 * ms ≤ d.now)) ∧
    (∃ (s : State) (c : Fin 64) (t : Ticks), let d := s.dev.at_ t; (s.dev.acts = true) ∧ (d.rngUp = true ∧ (d.cry.rng.clients.get {} c).ready = true) ∧ (2 ^ 20 ≤ (d.cry.rng.clients.get {} c).sinceSeed ∨ (d.cry.rng.clients.get {} c).seededAt + sec ≤ d.now)) ∧
    (∃ (s : State) (req : Bytes) (t : Ticks), let d := s.dev.at_ t; (s.dev.acts = true) ∧ (d.flt.chipSafe = false) ∧ (req.length = 20) ∧ (d.keySlotRefusal (leAt req 0 2) (leAt req 2 2) (sliceB req 4 16) = none) ∧ (d.cry.rng.state ≠ .failed)) ∧
    (∃ (s : State) (req : Bytes) (t : Ticks), let d := s.dev.at_ t; (s.dev.acts = true) ∧ (d.flt.chipSafe = false) ∧ (req.length = 84) ∧ (d.keySlotRefusal (leAt req 0 2) (leAt req 2 2) (sliceB req 4 16) = none)) ∧
    (∃ (s : State) (req : Bytes) (t : Ticks), let d := s.dev.at_ t; (s.dev.acts = true) ∧ (d.flt.chipSafe = false) ∧ (req.length = 20 ∧ leAt req 2 2 = 0) ∧ (64 ≤ leAt req 0 2 ∧ leAt req 0 2 < 4096) ∧ ((d.keySlot (leAt req 0 2)).full = true) ∧ (narrows (d.keySlot (leAt req 0 2)).policy (sliceB req 4 16) = true)) ∧
    (∃ (s : State) (n : Nat) (t : Ticks), let d := s.dev.at_ t; (s.dev.acts = true) ∧ (d.flt.chipSafe = false) ∧ (64 ≤ n ∧ n < 4096)) :=
  ⟨⟨wit id, 0, by decide⟩,
   ⟨wit (fun d => { d with cry.rng.state := .ok }), 2, 1, 0, by decide⟩,
   ⟨wit (fun d => { d with cry.rng.state := .degraded, cry.rng.excluded := [(2, 0)] }), 2, 0, 10 ^ 15, by decide⟩,
   ⟨wit (fun d => { d with cry.rng.state := .ok, cry.rng.clients := [(5, { ready := true, sinceSeed := 2 ^ 20 })] }), 5, 0, by decide⟩,
   ⟨wit id, [100, 0, 0, 0, 1, 1, 1, 0, 31, 0, 16, 0, 255, 255, 255, 255, 255, 0, 0, 0], 0, by decide⟩,
   ⟨wit id, [100, 0, 0, 0, 1, 1, 1, 0, 31, 0, 16, 0, 255, 255, 255, 255, 255, 0, 0, 0] ++ List.replicate 64 0, 0, by decide⟩,
   ⟨wit (fun d => { d with cry.keys.slots := [(100, { full := true, policy := [1, 1, 1, 0, 31, 0, 16, 0, 255, 255, 255, 255, 255, 0, 0, 0] })] }), [100, 0, 0, 0, 1, 1, 1, 0, 31, 0, 16, 0, 255, 255, 255, 255, 255, 0, 0, 0], 0, by decide⟩,
   ⟨wit id, 100, 0, by decide⟩⟩

theorem witness_LifeCycleCommandsComplete :
    (∃ (s : State) (t : Ticks), let d := s.dev.at_ t; (s.dev.boots = true) ∧ (d.rngUp = true)) ∧
    (∃ (s : State) (t : Ticks), let d := s.dev.at_ t; (s.dev.boots = true) ∧ (d.nonce = none)) ∧
    (∃ (s : State) (req : Bytes) (agree : Bool) (t : Ticks), let d := s.dev.at_ t; (s.dev.boots = true) ∧ (d.flt.chipSafe = false) ∧ (d.sys.phase ≠ .recovery) ∧ ((lcReqOf req).kind = 1)) ∧
    (∃ (s : State) (i : StartIn) (t : Ticks), let d := s.dev.at_ t; (s.dev.boots = true) ∧ (d.sys.restartAs = some 4)) ∧
    (∃ (s : State) (req : Bytes) (agree : Bool) (t : Ticks), let d := s.dev.at_ t; (s.dev.boots = true) ∧ (d.flt.chipSafe = false) ∧ (d.sys.phase ≠ .recovery) ∧ ((lcReqOf req).kind = 3)) ∧
    (∃ (s : State) (req : Bytes) (agree : Bool) (t : Ticks), let d := s.dev.at_ t; (s.dev.boots = true) ∧ (d.flt.chipSafe = false) ∧ (d.sys.phase ≠ .recovery) ∧ ((lcReqOf req).kind = 4)) ∧
    (∃ (s : State) (req : Bytes) (agree : Bool) (t : Ticks), (s.dev.boots = true) ∧ ((lcReqOf req).kind = 2)) ∧
    (∃ (s : State) (t u : Ticks), let d := s.dev.at_ t; (s.dev.boots = true) ∧ (d.lcy.scopesEnd = some u) ∧ (u ≤ d.now)) ∧
    (∃ (s : State) (cert : Bytes) (t : Ticks), let d := s.dev.at_ t; (s.dev.boots = true) ∧ (d.flt.chipSafe = false) ∧ (d.sys.phase ≠ .recovery) ∧ (d.lcy.state = .manufactured ∧ d.lcy.birthCert = []) ∧ (cert.length ≤ 4096)) ∧
    (∃ (s : State) (c : Bytes) (t : Ticks), let d := s.dev.at_ t; (s.dev.boots = true) ∧ (d.flt.chipSafe = false) ∧ (d.sys.phase ≠ .recovery) ∧ (c.length = 32) ∧ (d.lcy.attest ≠ 1) ∧ (d.attestKey = true)) ∧
    (∃ (s : State) (t : Ticks), let d := s.dev.at_ t; (s.dev.boots = true) ∧ (d.lcy.attest = 1) ∧ (d.attestKey = true)) ∧
    (∃ (s : State) (bits : List Bool) (t : Ticks), (s.dev.sys.phase ≠ .off)) ∧
    (∃ (s : State) (t : Ticks), (s.dev.sys.phase ≠ .off)) ∧
    (∃ (s : State) (bits captured load : Nat) (t : Ticks), (s.dev.sys.phase ≠ .off)) ∧
    (∃ (s : State) (bits captured load : Nat) (t : Ticks), (s.dev.sys.phase ≠ .off)) :=
  ⟨⟨wRng, 0, by decide⟩,
   ⟨wit id, 0, by decide⟩,
   ⟨wit id, [0, 0, 0, 0, 0, 1], true, 0, by decide⟩,
   ⟨wit (fun d => { d with sys.restartAs := some 4 }), { flotId := 0, sramKept := false, holdup := true, readsAgree := true, scrub := [], badA := false, badB := false, saveOk := true, chartOk := true, pierFails := [], ready := 0 }, 0, by decide⟩,
   ⟨wit id, [0, 0, 0, 0, 0, 3], true, 0, by decide⟩,
   ⟨wit id, [0, 0, 0, 0, 0, 4], true, 0, by decide⟩,
   ⟨wit id, [0, 0, 0, 0, 0, 2], true, 0, by decide⟩,
   ⟨wit (fun d => { d with cry.lcy.scopesEnd := some 5 }), 10, 5, by decide⟩,
   ⟨wit (fun d => { d with cry.lcy.state := .manufactured }), [1], 0, by decide⟩,
   ⟨wAttest 0, List.replicate 32 0, 0, by decide⟩,
   ⟨wAttest 1, 0, by decide⟩,
   ⟨wit id, [true], 0, by decide⟩,
   ⟨wit id, 0, by decide⟩,
   ⟨wit id, 8, 3, 4, 0, by decide⟩,
   ⟨wit id, 8, 3, 4, 0, by decide⟩⟩

theorem witness_FaultLevelsComplete :
    (∃ (s : State) (t : Ticks), let d := s.dev.at_ t; (s.dev.acts = true) ∧ (d.flt.chipSafe = false) ∧ (d.flt.active.any (fun e => e.2 == 3) = false) ∧ (d.flt.hold = true)) ∧
    (∃ (s : State) (t : Ticks), let d := s.dev.at_ t; (s.dev.acts = true) ∧ (d.flt.chipSafe = false) ∧ (d.flt.active.any (fun e => e.2 == 4) = false) ∧ (d.flt.safe = true)) ∧
    (∃ (s : State) (v : Word32) (t : Ticks), let d := s.dev.at_ t; (s.dev.boots = true) ∧ (bitOf v.toNat 0 = true) ∧ (d.faultnLocked = false)) ∧
    (∃ (s : State) (w : Fin 32) (v : Word32) (t : Ticks), (s.dev.boots = true)) ∧
    (∃ (s : State) (src : Nat) (m : Merge) (t : Ticks), let d := s.dev.at_ t; (s.dev.boots = true) ∧ (d.flt.merges.find src = some m) ∧ (m.start + d.cfg Od.flt_MERGE_WINDOW src ≤ d.now)) ∧
    (∃ (s : State) (t : Ticks), let d := s.dev.at_ t; (s.dev.boots = true) ∧ (d.flt.faultnUntil ≤ d.now) ∧ (d.flt.faultnHold = false ∧ d.faultnLocked = false) ∧ (d.flt.faultnDriven = true)) ∧
    (∃ (s : State) (w t : Ticks), let d := s.dev.at_ t; (s.dev.boots = true) ∧ (d.flt.faultnDriven = false) ∧ (us ≤ w)) ∧
    (∃ (s : State) (t : Ticks), (s.dev.boots = true)) :=
  ⟨⟨wit (fun d => { d with flt.hold := true }), 0, by decide⟩,
   ⟨wit (fun d => { d with flt.safe := true }), 0, by decide⟩,
   ⟨wit id, 1, 0, by decide⟩,
   ⟨wit id, 2, 3, 0, by decide⟩,
   ⟨wit (fun d => { d with flt.merges := [(5, { inst := 0, start := 0, count := 2 })] }), 5, _, 10 ^ 18, by decide, rfl, by decide⟩,
   ⟨wit (fun d => { d with flt.faultnDriven := true }), 0, by decide⟩,
   ⟨wit id, 10 ^ 12, 0, by decide⟩,
   ⟨wit id, 0, by decide⟩⟩

theorem witness_TamperMonitorsComplete :
    (∃ (s : State) (rail : Fin 8) (rising : Bool) (width t : Ticks), let d := s.dev.at_ t; (s.dev.sys.phase ≠ .off) ∧ (d.flt.armed = true) ∧ (ns ≤ width ∧ width ≤ 100 * ns) ∧ (d.man.saving = false ∨ rising = true)) ∧
    (∃ (s : State) (rail : Fin 8) (len t : Ticks), let d := s.dev.at_ t; (s.dev.sys.phase ≠ .off) ∧ (d.flt.armed = true) ∧ (2 * us ≤ len)) ∧
    (∃ (s : State) (t : Ticks), let d := s.dev.at_ t; (s.dev.sys.phase ≠ .off) ∧ (d.flt.armed = true)) ∧
    (∃ (s : State) (gap t : Ticks), (s.dev.sys.phase ≠ .off) ∧ (50 * ns ≤ gap)) ∧
    (∃ (s : State) (t : Ticks), let d := s.dev.at_ t; (s.dev.sys.phase ≠ .off) ∧ (d.flt.armed = true)) ∧
    (∃ (s : State) (t : Ticks), let d := s.dev.at_ t; (s.dev.sys.phase ≠ .off) ∧ (d.flt.armed = true)) ∧
    (∃ (s : State) (short : Bool) (t : Ticks), (s.dev.sys.phase ≠ .off)) ∧
    (∃ (s : State) (short : Bool) (t : Ticks), (s.dev.sys.phase ≠ .off)) ∧
    (∃ (s : State) (t : Ticks), let d := s.dev.at_ t; (s.dev.boots = true) ∧ (d.sys.releasedAt + ms ≤ d.now)) :=
  ⟨⟨wArmed, 3, true, 5 * ns, 0, by decide⟩,
   ⟨wArmed, 3, 5 * us, 0, by decide⟩,
   ⟨wArmed, 0, by decide⟩,
   ⟨wArmed, us, 0, by decide⟩,
   ⟨wArmed, 0, by decide⟩,
   ⟨wArmed, 0, by decide⟩,
   ⟨wArmed, true, 0, by decide⟩,
   ⟨wArmed, true, 0, by decide⟩,
   ⟨wit id, 10 ^ 18, by decide⟩⟩

theorem witness_ReaderAndTagComplete :
    (∃ (s : State) (t : Ticks), let d := s.dev.at_ t; (s.dev.acts = true) ∧ (d.flt.chipSafe = false) ∧ (d.isStandby = false) ∧ (d.rd.on = false)) ∧
    (∃ (s : State) (t : Ticks), let d := s.dev.at_ t; (s.dev.acts = true) ∧ (d.flt.chipSafe = false) ∧ (d.isStandby = false) ∧ (d.activeCids = [])) ∧
    (∃ (s : State) (ext : Bool) (a p : Int) (t : Ticks), let d := s.dev.at_ t; (s.dev.acts = true) ∧ (d.flt.chipSafe = false) ∧ (d.rd.on = true ∧ d.rd.field = false ∧ d.rd.waiting = none)) ∧
    (∃ (s : State) (a p : Int) (t : Ticks), let d := s.dev.at_ t; (s.dev.acts = true) ∧ (d.flt.chipSafe = false) ∧ (d.rd.on = true ∧ d.rd.field = true ∧ d.rd.valid = true ∧ d.rd.detected = false ∧ d.activeCids = [])) ∧
    (∃ (s : State) (ext : Bool) (a p : Int) (t since : Ticks) (u : FieldUse), let d := s.dev.at_ t; (s.dev.acts = true) ∧ (d.flt.chipSafe = false) ∧ (d.rd.waiting = some (u, since)) ∧ (d.rd.on = true ∧ d.fieldGrant = true)) ∧
    (∃ (s : State) (t since : Ticks) (u : FieldUse), let d := s.dev.at_ t; (s.dev.acts = true) ∧ (d.flt.chipSafe = false) ∧ (d.rd.waiting = some (u, since)) ∧ (since + d.cfg Od.cls_RF_WAIT_MAX 0 ≤ d.now)) ∧
    (∃ (s : State) (c : Fin 4) (agree : Bool) (t : Ticks), let d := s.dev.at_ t; (s.dev.acts = true) ∧ (d.flt.chipSafe = false) ∧ ((d.cid (c + 1)).state = .credential ∧ (d.cid (c + 1)).dlg.step = .idle)) ∧
    (∃ (s : State) (c : Fin 4) (agree : Bool) (t : Ticks), let d := s.dev.at_ t; (s.dev.acts = true) ∧ (d.flt.chipSafe = false) ∧ ((d.cid (c + 1)).state = .credential ∧ (d.cid (c + 1)).dlg.step = .idle) ∧ ((d.cid (c + 1)).missed = 0)) ∧
    (∃ (s : State) (c : Fin 4) (agree : Bool) (h : CardHolder) (t : Ticks), let d := s.dev.at_ t; (s.dev.acts = true) ∧ (d.flt.chipSafe = false) ∧ ((d.cid (c + 1)).dlg.found = some h) ∧ ((d.cid (c + 1)).dlg.verified = true)) ∧
    (∃ (s : State) (c : Fin 4) (sent agree : Bool) (t : Ticks), let d := s.dev.at_ t; (s.dev.acts = true) ∧ (d.flt.chipSafe = false) ∧ ((d.cid (c + 1)).state ≠ .free ∧ (d.cid (c + 1)).dlg.step ≠ .idle) ∧ ((d.cid (c + 1)).retries < 3)) ∧
    (∃ (s : State) (t : Ticks), let d := s.dev.at_ t; (d.tagMode = true) ∧ (d.tag.active = true)) ∧
    (∃ (s : State) (p : Byte) (t : Ticks), let d := s.dev.at_ t; (d.tagMode = true) ∧ (d.tag.active = true) ∧ (p.toNat < 128) ∧ (bitOf (d.tag.groupCfg p.toNat) 0 = true)) ∧
    (∃ (s : State) (p : Byte) (n : BitVec 16) (data mac : Bytes) (t : Ticks), let d := s.dev.at_ t; (d.tagMode = true) ∧ (d.tag.active = true) ∧ (d.tagWriteCheck p.toNat n.toNat data mac = none)) ∧
    (∃ (s : State) (t : Ticks), let d := s.dev.at_ t; (d.tagMode = true)) ∧
    (∃ (s : State) (t : Ticks), let d := s.dev.at_ t; (d.tagMode = true)) ∧
    (∃ (s : State) (t : Ticks), let d := s.dev.at_ t; (d.tagMode = true) ∧ (d.tag.active = true ∧ d.tag.low = true)) ∧
    (∃ (s : State) (p : Fin 128) (data : Bytes) (t : Ticks), let d := s.dev.at_ t; (s.dev.acts = true) ∧ (d.flt.chipSafe = false) ∧ (data.length = 64)) :=
  ⟨⟨wit id, 0, by decide⟩,
   ⟨wit id, 0, by decide⟩,
   ⟨wReader, false, 0, 0, 0, by decide⟩,
   ⟨wReaderF, 0, 0, 0, by decide⟩,
   ⟨wReaderW, false, 0, 0, 0, 0, .ping, by decide⟩,
   ⟨wReaderW, 10 ^ 18, 0, .ping, by decide⟩,
   ⟨wBadge {}, 0, true, 0, by decide⟩,
   ⟨wBadge {}, 0, true, 0, by decide⟩,
   ⟨wBadge { found := some wHolder, verified := true }, 0, true, _, 0, by decide, by decide, rfl, by decide⟩,
   ⟨wBadge { step := .identify }, 0, true, true, 0, by decide⟩,
   ⟨wTag, 0, by decide⟩,
   ⟨wTag, 5, 0, by decide⟩,
   ⟨wTagW, 5, 1, List.replicate 64 0, wTagMac, 0, by decide, by decide, wTagOk⟩,
   ⟨wTag, 0, by decide⟩,
   ⟨wTag, 0, by decide⟩,
   ⟨wTagLow, 0, by decide⟩,
   ⟨wit id, 5, List.replicate 64 0, 0, by decide⟩⟩

theorem witness_CardSlotsComplete :
    (∃ (s : State) (x : Fin 2) (t : Ticks), let d := s.dev.at_ t; (s.dev.acts = true) ∧ (d.flt.chipSafe = false) ∧ ((d.cardSlot x).det = false)) ∧
    (∃ (s : State) (x : Fin 2) (t : Ticks), let d := s.dev.at_ t; (s.dev.acts = true) ∧ ((d.cardSlot x).det = true)) ∧
    (∃ (s : State) (x : Fin 2) (atr : Bytes) (a : Atr) (t : Ticks), let d := s.dev.at_ t; (s.dev.acts = true) ∧ (d.flt.chipSafe = false) ∧ ((d.cardSlot x).state = .activating ∧ (d.cardSlot x).powered = true ∧ (d.cardSlot x).ppsTried = false) ∧ (parseAtr atr = some a) ∧ (a.protocols.contains 1 = true ∧ a.ta2 = none ∧ a.classes = none)) ∧
    (∃ (s : State) (x : Fin 2) (t : Ticks), let d := s.dev.at_ t; (s.dev.acts = true) ∧ (d.flt.chipSafe = false) ∧ ((d.cardSlot x).state = .activating ∧ (d.cardSlot x).powered = true)) ∧
    (∃ (s : State) (x : Fin 2) (req : Bytes) (fi di f : Nat) (t : Ticks), let d := s.dev.at_ t; (s.dev.acts = true) ∧ (d.flt.chipSafe = false) ∧ ((d.cardSlot x).state = .pps) ∧ (ppsRequest (d.cardSlot x).link.ta1 = (req, some (fi, di, f)))) ∧
    (∃ (s : State) (x : Fin 2) (b : Bytes) (t : Ticks), let d := s.dev.at_ t; (s.dev.acts = true) ∧ (d.flt.chipSafe = false) ∧ ((d.cardSlot x).linkUp = true) ∧ (b.length = 3 + beAt b 2 1 + (1 + b2n (d.cardSlot x).link.crc) ∧ beAt b 2 1 ≠ 255) ∧ (b.drop (3 + beAt b 2 1) = (d.cardSlot x).link.edc (b.take (3 + beAt b 2 1)) ∧ beAt b 0 1 = 0)) ∧
    (∃ (s : State) (x : Fin 2) (t : Ticks), let d := s.dev.at_ t; (s.dev.acts = true) ∧ (d.flt.chipSafe = false) ∧ ((d.cardSlot x).linkUp = true ∧ (d.cardSlot x).link.reply = none) ∧ ((d.cardSlot x).link.deadline ≤ d.now)) ∧
    (∃ (s : State) (p : Fin 6) (resp data : Bytes) (t : Ticks), let d := s.dev.at_ t; (s.dev.acts = true) ∧ (d.flt.chipSafe = false) ∧ (d.response p resp = some (data, 0x9000)) ∧ ((d.dlg p).step = .select)) ∧
    (∃ (s : State) (p : Fin 6) (resp data : Bytes) (h : CardHolder) (t : Ticks), let d := s.dev.at_ t; (s.dev.acts = true) ∧ (d.flt.chipSafe = false) ∧ (d.response p resp = some (data, 0x9000)) ∧ ((d.dlg p).step = .identify) ∧ (parseIdentify data d.now = some h)) ∧
    (∃ (s : State) (p : Fin 2) (resp data : Bytes) (h : CardHolder) (t : Ticks), let d := s.dev.at_ t; (s.dev.acts = true) ∧ (d.flt.chipSafe = false) ∧ (d.response p resp = some (data, 0x9000)) ∧ ((d.dlg p).step = .authenticate ∧ (d.dlg p).found = some h)) ∧
    (∃ (s : State) (p : Fin 6) (n : Nat) (resp data : Bytes) (h : CardHolder) (r : LedgerRec) (t : Ticks), let d := s.dev.at_ t; (s.dev.acts = true) ∧ (d.flt.chipSafe = false) ∧ (d.permitsHere = true) ∧ ((d.dlg p).entry = some n ∧ (d.dlg p).step = .grant ∧ (d.dlg p).holder = some h) ∧ (d.response p resp = some (data, 0x9000)) ∧ (d.per.ledger.find n = some r) ∧ (r.state = .pending ∧ r.counter = 0 ∧ r.holder = h.cardId ∧ (r.waits.drop 1).isEmpty = true) ∧ (data.length = 68)) ∧
    (∃ (s : State) (p : Fin 6) (n : Nat) (resp data : Bytes) (h : CardHolder) (t : Ticks), let d := s.dev.at_ t; (s.dev.acts = true) ∧ (d.flt.chipSafe = false) ∧ (d.permitsHere = true) ∧ ((d.dlg p).entry = some n ∧ (d.dlg p).holder = some h ∧ (d.dlg p).step = .query) ∧ (d.response p resp = some (data, 0x9000)) ∧ (data.length = 5 ∧ beAt data 0 1 ≤ 2)) ∧
    (∃ (s : State) (x : Fin 2) (t : Ticks), let d := s.dev.at_ t; (s.dev.acts = true) ∧ ((d.cardSlot x).powered = true)) :=
  ⟨⟨wit id, 1, 0, by decide⟩,
   ⟨wCard {} , 1, 0, by decide⟩,
   ⟨wCard { state := .activating, powered := true }, 1, [0x3B, 0x80, 0x01, 0x81], _, 0, by decide, by decide, by decide, rfl, by decide⟩,
   ⟨wCard { state := .activating, powered := true }, 1, 0, by decide⟩,
   ⟨wCard { state := .pps }, 1, _, _, _, _, 0, by decide, by decide, by decide, rfl⟩,
   ⟨wCard { state := .identifying, powered := true }, 1, [0, 0, 0, 0], 0, by decide⟩,
   ⟨wCard { state := .identifying, powered := true }, 1, 0, by decide⟩,
   ⟨wCard { dlg := { step := .select }, link := { reply := some [0x90, 0] } }, 1, [], _, 0, by decide, by decide, rfl, by decide⟩,
   ⟨wCard { dlg := { step := .identify }, link := { reply := some (List.replicate 16 7 ++ [0, 2, 0x90, 0]) } }, 1, [], _, _, 0, by decide, by decide, rfl, by decide, rfl⟩,
   ⟨wCard { dlg := { step := .authenticate, found := some wHolder }, link := { reply := some [0x90, 0] } }, 1, [], _, _, 0, by decide, by decide, rfl, ⟨by decide, rfl⟩⟩,
   ⟨wGrant, 1, 5, [], _, wHolder, wLedger .pending, 0, by decide, by decide, by decide, by decide, rfl, by decide, by decide, by decide⟩,
   ⟨wQuery, 1, 5, [], _, wHolder, 0, by decide, by decide, by decide, by decide, rfl, by decide⟩,
   ⟨wCard { powered := true }, 1, 0, by decide⟩⟩

theorem witness_OperatorInputsAndPermitsComplete :
    (∃ (s : State) (k : Fin 8) (t : Ticks), let d := s.dev.at_ t; (s.dev.acts = true) ∧ ((d.input k).state = .inactive ∧ (d.input k).b = true)) ∧
    (∃ (s : State) (k : Fin 8) (agree : Bool) (t : Ticks), let d := s.dev.at_ t; (s.dev.acts = true) ∧ ((d.input k).state = .inactive ∧ (d.input k).b = false)) ∧
    (∃ (s : State) (k : Fin 8) (u t : Ticks), let d := s.dev.at_ t; (s.dev.acts = true) ∧ ((d.input k).state = .pending ∧ (d.input k).since = some u) ∧ (u + d.cfg Od.opi_DISC_TIME k ≤ d.now)) ∧
    (∃ (s : State) (k : Fin 8) (u t : Ticks), let d := s.dev.at_ t; (s.dev.acts = true) ∧ ((d.input k).state = .discrepant ∧ (d.input k).releasedAt = some u) ∧ (u + d.cfg Od.opi_DISC_TIME k ≤ d.now)) ∧
    (∃ (s : State) (rule : Nat) (cs : List (Nat × CardHolder)) (t : Ticks), let d := s.dev.at_ t; (s.dev.acts = true) ∧ (d.flt.chipSafe = false) ∧ (d.isStandby = false) ∧ (rule < 64) ∧ (d.cfg Od.rul_TRIGGER rule = 1 ∧ d.ruleInput rule = true) ∧ (d.cardsFor rule (fun _ => true) = some cs) ∧ ((d.grant rule cs true).per.nextNumber ≠ d.per.nextNumber)) ∧
    (∃ (s : State) (n : Word32) (r : LedgerRec) (t : Ticks), let d := s.dev.at_ t; (s.dev.acts = true) ∧ (d.flt.chipSafe = false) ∧ (d.isStandby = false) ∧ (d.per.ledger.find n.toNat = some r) ∧ (r.state.live = true ∧ r.waits = [])) ∧
    (∃ (s : State) (n : Word32) (r : LedgerRec) (t : Ticks), let d := s.dev.at_ t; (s.dev.acts = true) ∧ (d.flt.chipSafe = false) ∧ (d.isStandby = false) ∧ (d.per.ledger.find n.toNat = some r) ∧ (r.state = .inDoubt)) ∧
    (∃ (s : State) (n : Nat) (r : LedgerRec) (t : Ticks), let d := s.dev.at_ t; (s.dev.acts = true) ∧ (d.flt.chipSafe = false) ∧ (d.per.ledger.find n = some r) ∧ (d.permitsHere = true ∧ r.state = .active) ∧ (r.validUntil ≤ d.now)) :=
  ⟨⟨wit (fun d => d.setInput 3 { b := true }), 3, 0, by decide⟩,
   ⟨wit id, 3, true, 0, by decide⟩,
   ⟨wit (fun d => d.setInput 3 { state := .pending, since := some 0 }), 3, 0, 10 ^ 18, by decide⟩,
   ⟨wit (fun d => d.setInput 3 { state := .discrepant, releasedAt := some 0 }), 3, 0, 10 ^ 18, by decide⟩,
   ⟨wRule, 2, [(1, wHolder)], 0, by decide, by decide, by decide, by decide, by decide, rfl, by decide⟩,
   ⟨wLedgerState .active, 5, wLedger .active, 0, by decide⟩,
   ⟨wLedgerState .inDoubt, 5, wLedger .inDoubt, 0, by decide⟩,
   ⟨wLedgerState .active, 5, wLedger .active, 0, by decide⟩⟩

theorem witness_FlashCommandsComplete :
    (∃ (s : State) (bank : Fin 4) (n k : Nat) (t : Ticks), let d := s.dev.at_ t; (s.dev.acts = true) ∧ (n / 512 = bank ∧ n ∉ d.fls.failed ∧ n ∈ d.fls.half)) ∧
    (∃ (s : State) (found : List ScrubFind) (old : List (Nat × Nat)) (t : Ticks), let d := s.dev.at_ t; (s.dev.acts = true) ∧ (d.fls.lastScrub + d.cfg Od.fls_SCRUB_PERIOD 0 * sec ≤ d.now)) ∧
    (∃ (s : State) (c off : Nat) (b : Bytes) (verify : Bool) (t : Ticks), let d := s.dev.at_ t; (s.dev.acts = true) ∧ (d.flt.chipSafe = false) ∧ (c < 576 ∧ off + b.length ≤ 16384) ∧ (d.imageSector c = false ∧ d.sectorLock c = 0 ∧ (1472 + c) ∉ d.fls.failed ∧ (1472 + c) ∉ d.fls.half) ∧ (((d.fls.read c off b.length).zip b).any (fun e => decide (e.1 ≠ e.2) && decide (e.1 ≠ 0xFF)) = false) ∧ (verify = true ∨ 0 < d.cfg Od.bnk_SPARES_LEFT ((1472 + c) / 512))) ∧
    (∃ (s : State) (c pulses : Nat) (t : Ticks), let d := s.dev.at_ t; (s.dev.acts = true) ∧ (d.flt.chipSafe = false) ∧ (c < 576) ∧ (d.imageSector c = false ∧ d.sectorLock c = 0 ∧ (1472 + c) ∉ d.fls.failed) ∧ (pulses ≤ 32)) ∧
    (∃ (s : State) (r : Nat) (b : Bytes) (t : Ticks), let d := s.dev.at_ t; (s.dev.acts = true) ∧ (d.flt.chipSafe = false) ∧ (r < 64 ∧ b.length = 32) ∧ (d.lockedOut r = false) ∧ ((d.passRegion r).record = none ∧ allZero (b.take 16) = true) ∧ (allZero (b.drop 16) = false)) ∧
    (∃ (s : State) (r : Nat) (p : Bytes) (t : Ticks), let d := s.dev.at_ t; (s.dev.acts = true) ∧ (d.flt.chipSafe = false) ∧ (r < 64 ∧ p.length = 16) ∧ (d.lockedOut r = false) ∧ ((d.passRegion r).record = none)) ∧
    (∃ (s : State) (r : Nat) (p : Bytes) (t : Ticks), let d := s.dev.at_ t; (s.dev.acts = true) ∧ (d.flt.chipSafe = false) ∧ (r < 64 ∧ p.length = 16) ∧ (d.lockedOut r = false) ∧ ((d.passRegion r).record = some (d.passRecord r p))) ∧
    (∃ (s : State) (r : Nat) (t : Ticks), let d := s.dev.at_ t; (s.dev.acts = true) ∧ (d.flt.chipSafe = false) ∧ (r < 64)) ∧
    (∃ (s : State) (r : Fin 64) (u t : Ticks), let d := s.dev.at_ t; (s.dev.acts = true) ∧ ((d.passRegion r).lockout = some u) ∧ (u ≤ d.now)) ∧
    (∃ (s : State) (v : Word32) (t : Ticks), (s.dev.acts = true)) :=
  ⟨⟨wit (fun d => { d with fls.half := [600] }), 1, 600, 3, 0, by decide⟩,
   ⟨wit (fun d => { d with fls.lastScrub := - 10 ^ 25 }), [], [], 0, by decide⟩,
   ⟨wit id, 500, 7, [1, 2], true, 0, by decide⟩,
   ⟨wit id, 500, 3, 0, by decide⟩,
   ⟨wit id, 5, List.replicate 16 0 ++ List.replicate 16 7, 0, by decide⟩,
   ⟨wit id, 5, List.replicate 16 0, 0, by decide⟩,
   ⟨wPass, 5, List.replicate 16 0, 0, by decide, by decide, by decide, by decide, rfl⟩,
   ⟨wit id, 5, 0, by decide⟩,
   ⟨wit (fun d => d.onPass 5 (fun x => { x with lockout := some 0 })), 5, 0, 1, by decide⟩,
   ⟨wit id, 5, 0, by decide⟩⟩

theorem witness_PowerCommandsComplete :
    (∃ (s : State) (r : PowerReading) (t : Ticks) (d1 : Dev) (l : List Demand) (g : Tab Nat) (term : Int) (which : Nat), let d := s.dev.at_ t; (s.dev.acts = true) ∧ (d1 = d.powerMeasure r) ∧ (l = d1.pwr.demandsOf r.demands) ∧ (d1.leastTerm = (term, which)) ∧ ((floorUnits l : Int) ≤ term ∧ r.tHot < 14000) ∧ (d1.flt.chipSafe = false ∧ d1.pwr.save = false ∧ d1.pwr.limited = false ∧ d1.pwr.critical = false ∧ d1.pwr.thermalLimited = decide (which = 1)) ∧ (g = grantClasses l [5, 4, 3, 2, 1] (min (term.toNat - reserves) (d1.pwr.granted + 40))) ∧ ([1, 2, 3, 4, 5].filter (fun c => g.get 0 c < classUnits l c) = [])) ∧
    (∃ (s : State) (t : Ticks), let d := s.dev.at_ t; (s.dev.acts = true) ∧ (d.sharesBoard = true ∧ d.isMaster = false)) ∧
    (∃ (s : State) (src : Fin 8) (x : ChipDemand) (t : Ticks), let d := s.dev.at_ t; (s.dev.acts = true) ∧ (d.sharesBoard = true ∧ d.isMaster = true) ∧ (d.floMembers.contains src = true ∧ (src : Nat) ≠ d.fry.flo.ownId)) ∧
    (∃ (s : State) (l : List Nat) (t : Ticks), let d := s.dev.at_ t; (s.dev.acts = true) ∧ (d.sharesBoard = true ∧ d.isMaster = false)) ∧
    (∃ (s : State) (t : Ticks) (v : Nat), let d := s.dev.at_ t; (s.dev.acts = true) ∧ (d.sharesBoard = true ∧ d.isMaster = false ∧ d.pwr.shareStale = false) ∧ (d.pwr.lastShare + 100 * us ≤ d.now) ∧ (v = (match d.pwr.share with | some x => min x (d.cfgN Od.pwr_BOARD_LIMIT 0 / d.floMembers.length) | none => d.cfgN Od.pwr_BOARD_LIMIT 0 / d.floMembers.length))) ∧
    (∃ (s : State) (t : Ticks), let d := s.dev.at_ t; (s.dev.acts = true) ∧ (d.pwr.model = false) ∧ (d.sys.releasedAt + 10 * ms ≤ d.now)) :=
  ⟨⟨wPower, { other := 0, tHot := 0, tPins := 0, measured := 0, droop := 0, demands := [] }, 0, _, _, _, _, _, by decide, rfl, rfl, rfl, by decide, by decide, rfl, by decide⟩,
   ⟨wBoard 1, 0, by decide⟩,
   ⟨wBoard 0, 1, { floorW := 1, demandW := 2, measuredW := 3 }, 0, by decide⟩,
   ⟨wBoard 1, [5], 0, by decide⟩,
   ⟨wBoard 1, 10 ^ 18, _, by decide, by decide, by decide, rfl⟩,
   ⟨wit id, 10 ^ 18, by decide⟩⟩

theorem witness_StartAndPowerDownComplete :
    (∃ (s : State) (t : Ticks), let d := s.dev.at_ t; (d.sys.phase = .off)) ∧
    (∃ (s : State) (low t : Ticks) (e : Dev), let d := s.dev.at_ t; (s.dev.sys.phase ≠ .off) ∧ (us ≤ low) ∧ (d.sys.phase = .running ∨ d.sys.phase = .starting ∨ d.sys.phase = .recovery) ∧ (e = d.saveComplete)) ∧
    (∃ (s : State) (i : StartIn) (t : Ticks), let d := s.dev.at_ t; (s.dev.sys.phase ≠ .off) ∧ (d.sys.phase = .inReset)) ∧
    (∃ (s : State) (t : Ticks), let d := s.dev.at_ t; (s.dev.acts = true) ∧ (d.sys.phase = .starting ∧ d.fry.twin.role ≠ .waiting)) ∧
    (∃ (s : State) (i : StartIn) (t : Ticks), let d := s.dev.at_ t; (s.dev.boots = true) ∧ (d.flt.chipSafe = false ∧ d.sys.phase ≠ .minimal)) ∧
    (∃ (s : State) (t : Ticks), (s.dev.sys.phase ≠ .off)) ∧
    (∃ (s : State) (i : StartIn) (t : Ticks), let d := s.dev.at_ t; (s.dev.acts = true) ∧ (d.sys.restartAs = some 5 ∧ d.flt.chipSafe = false)) ∧
    (∃ (s : State) (low t : Ticks), let d := s.dev.at_ t; (s.dev.sys.phase ≠ .off) ∧ (us ≤ low) ∧ (d.sys.phase = .running ∨ d.sys.phase = .starting)) ∧
    (∃ (s : State) (t : Ticks), let d := s.dev.at_ t; (s.dev.sys.phase ≠ .off) ∧ (d.man.saving = true ∧ d.man.parked = false)) ∧
    (∃ (s : State) (t : Ticks), let d := s.dev.at_ t; (s.dev.acts = true) ∧ (d.flt.chipSafe = false) ∧ (d.fry.twin.role ≠ .active)) ∧
    (∃ (s : State) (t : Ticks), let d := s.dev.at_ t; (s.dev.acts = true) ∧ (d.flt.chipSafe = false) ∧ (d.fry.twin.role = .active)) ∧
    (∃ (s : State) (a : Fin 2) (t : Ticks), let d := s.dev.at_ t; (s.dev.acts = true) ∧ (d.man.area a = .erasing ∧ d.man.restoreHold = false)) ∧
    (∃ (s : State) (i : StartIn) (c : ChartSwitch) (t : Ticks), let d := s.dev.at_ t; (s.dev.acts = true) ∧ (d.obj.switch = some c) ∧ (c.committed = true ∧ c.instant ≤ d.now ∧ d.flt.chipSafe = false)) :=
  ⟨⟨{ dev := { ({} : Dev) with sys.phase := .off } }, 0, by decide⟩,
   ⟨wit id, us, 0, _, by decide, by decide, by decide, rfl⟩,
   ⟨State.reset, { flotId := 0, sramKept := false, holdup := true, readsAgree := true, scrub := [], badA := false, badB := false, saveOk := true, chartOk := true, pierFails := [], ready := 0 }, 0, by decide⟩,
   ⟨wit (fun d => { d with sys.phase := .starting }), 0, by decide⟩,
   ⟨wit id, { flotId := 0, sramKept := false, holdup := true, readsAgree := true, scrub := [], badA := false, badB := false, saveOk := true, chartOk := true, pierFails := [], ready := 0 }, 0, by decide⟩,
   ⟨wit id, 0, by decide⟩,
   ⟨wit (fun d => { d with sys.restartAs := some 5 }), { flotId := 0, sramKept := false, holdup := true, readsAgree := true, scrub := [], badA := false, badB := false, saveOk := true, chartOk := true, pierFails := [], ready := 0 }, 0, by decide⟩,
   ⟨wit id, us, 0, by decide⟩,
   ⟨wit (fun d => { d with que.man.saving := true }), 0, by decide⟩,
   ⟨wit id, 0, by decide⟩,
   ⟨wit (fun d => { d with fry.twin.role := .active }), 0, by decide⟩,
   ⟨wit (fun d => d.onMan (fun m => m.setArea 1 .erasing)), 1, 0, by decide⟩,
   ⟨wit (fun d => { d with obj.switch := some { slot := 1, instant := 0, committed := true, asker := none } }), { flotId := 0, sramKept := false, holdup := true, readsAgree := true, scrub := [], badA := false, badB := false, saveOk := true, chartOk := true, pierFails := [], ready := 0 }, { slot := 1, instant := 0, committed := true, asker := none }, 0, by decide⟩⟩

theorem witness_WrappedKeyRecordOpens : (∃ (wk : Bytes) (n s g : Nat) (policy key : Bytes), (wk.length = 32) ∧ (policy.length = 16) ∧ (leAt policy 6 1 = key.length ∧ key.length ≤ 64)) :=
  ⟨List.replicate 32 7, 1, 24, 1, [2, 1, 3, 0, 0x0C, 0, 16, 0, 0xFF, 0xFF, 0xFF, 0xFF, 0xFF, 0, 0, 0], List.replicate 16 9, by decide, by decide, by decide⟩

theorem witness_ListedLaneWordsAreLegal :
    (∃ (op : Fin 3) (a : Fin 16) (own : BitVec 6) (l : List (BitVec 11)) (rest : List DhWord), (l.length ≤ 2)) ∧
    (∃ (call : Bool) (own : BitVec 10) (l : List (BitVec 11)) (rest : List DhWord), (l.length ≤ 2)) ∧
    (∃ (a : Fin 16) (own : BitVec 6) (l : List (BitVec 11)) (rest : List DhWord), (l.length ≤ 2)) ∧
    (∃ (store : Bool) (width : Fin 3) (r : Fin 16) (base : Fin 8) (l : List (BitVec 11)) (rest : List DhWord), (l.length ≤ 2)) ∧
    (∃ (sub : Fin 14) (r : Fin 16) (rest : List DhWord), (sub = 6 ∨ sub = 8 ∨ sub = 13) ∧ (r = 0)) ∧
    (∃ (sub : Fin 14) (r : Fin 16) (rest : List DhWord), (sub ≠ 6 ∧ sub ≠ 8 ∧ sub ≠ 13)) ∧
    (∃ (l : List (BitVec 11)) (w : DhWord) (rest : List DhWord), (l.length = 1 ∨ l.length = 2) ∧ ((∃ (op : AluOp) (a b : Fin 16), dhRrCode op.code a b = [w]) ∨ (∃ (a : Fin 16) (own : BitVec 6), dhRiCode 3 a own [] = [w]) ∨ (∃ (k : Fin 3) (a : Fin 16), dhControlCode k a = [w]) ∨ (∃ k : Fin 4, dhSysCode k = [w]) ∨ (∃ (write : Bool) (sr r : Fin 16), dhMoveCode write sr r = [w]) ∨ (∃ (unit : Bool) (sub r : Fin 16), dhSubCode unit sub r = [w]))) :=
  ⟨⟨2, 15, 0x3F, [0x7FF, 0x7FF], [], by decide⟩,
   ⟨true, 0x3FF, [0x7FF, 0x7FF], [], by decide⟩,
   ⟨15, 0x3F, [0x7FF, 0x7FF], [], by decide⟩,
   ⟨true, 2, 15, 7, [0x7FF, 0x7FF], [], by decide⟩,
   ⟨13, 0, [], by decide, rfl⟩,
   ⟨12, 15, [], by decide⟩,
   ⟨[0x7FF, 0x7FF], BitVec.ofNat 14 (0x3600 + 256 * 1 + 16 * 15 + 15), [], by decide, .inr (.inr (.inr (.inr (.inr ⟨true, 15, 15, rfl⟩))))⟩⟩

theorem witness_BrokenCollectorGoesToChipSafe :
    (∃ (d : Dev) (src inst : Nat) (origin : Option (Nat × Nat)) (detail : List Int), (d.flt.parityBad = true)) ∧
    (∃ (d : Dev) (src inst : Nat) (origin : Option (Nat × Nat)) (detail : List Int), ((collectorWords src).all (fun w => d.pairOk w.1 w.2) = false)) :=
  ⟨⟨{ ({} : Dev) with flt.parityBad := true }, 0x003, 0, none, [], rfl⟩,
   ⟨{ ({} : Dev) with flt.inverse := [(odKey Od.flt_SEVERITY.index Od.flt_SEVERITY.sub 3, 0)] }, 0x003, 0, none, [], by decide⟩⟩

end Sys2Proof.Machine
end

section
/-!
SUPPORT. The compass unit: a command's effect from its arm, and the statements about the Bearings' commands.
-/
namespace Sys2Proof.Machine

/-! ## A command's effect, from its arm and the arm's effect on the device -/

section
variable {c : Instr} {s : State} {t : Ticks} {f : Dev → Dev} (g : Dev → Dev)

/-- A command whose arm is `State.run`, on a device that acts. -/
theorem Does.of_run (harm : exec c s = s.run t g) (hacts : s.dev.acts = true) (heff : g (s.dev.at_ t) = f (s.dev.at_ t)) :
    Does c s t f :=
  harm.trans ((State.run_acts s t g hacts).trans (effect_congr s heff))

/-- A command whose arm is `State.write`, out of chip safe state (R508). -/
theorem Does.of_write (harm : exec c s = s.write t g) (hacts : s.dev.acts = true)
    (hsafe : (s.dev.at_ t).flt.chipSafe = false) (heff : g (s.dev.at_ t) = f (s.dev.at_ t)) : Does c s t f :=
  harm.trans ((State.write_acts s t g hacts hsafe).trans (effect_congr s heff))

/-- A command whose arm is `State.action`, out of chip safe state, on a unit that is no standby (R260, R508). -/
theorem Does.of_action (harm : exec c s = s.action t g) (hacts : s.dev.acts = true)
    (hsafe : (s.dev.at_ t).flt.chipSafe = false) (hclaim : (s.dev.at_ t).isStandby = false)
    (heff : g (s.dev.at_ t) = f (s.dev.at_ t)) : Does c s t f :=
  harm.trans ((State.action_acts s t g hacts hsafe hclaim).trans (effect_congr s heff))

end

/-! ## The note of a peak (R32), and the marks of a Ferry message (R217) -/

/-- Taking a set bit's weight from a number clears the bit. -/
theorem bitOf_sub_pow {v i : Nat} (h : bitOf v i = true) : bitOf (v - 2 ^ i) i = false := by
  have hdiv : (v - 2 ^ i) / 2 ^ i = v / 2 ^ i - 1 := by rw [← Nat.sub_mul_div, Nat.mul_one]
  simp only [bitOf, beq_iff_eq, beq_eq_false_iff_ne] at h ⊢
  rw [hdiv]
  omega

@[simp] theorem Dev.mainsStep_notePeak (d : Dev) (b phase peak : Nat) :
    ((d.notePeak b phase peak).brg b).mainsStep = (d.brg b).mainsStep := by
  simp [Dev.notePeak]

/-- A phase whose peak reaches AMPLITUDE_MIN is not weak: its bit was clear and stays, or was set and is taken away. -/
theorem Dev.weak_notePeak (d : Dev) (b phase peak : Nat) (hpeak : ¬ (peak : Int) < d.cfg Od.mns_AMPLITUDE_MIN b) :
    bitOf ((d.notePeak b phase peak).brg b).weak phase = false := by
  cases hweak : bitOf (d.brg b).weak phase with
  | false => simp [Dev.notePeak, hpeak, hweak]
  | true => simp [Dev.notePeak, hpeak, hweak, bitOf_sub_pow]

theorem Dev.ferryGot_eq (d : Dev) (chip : Nat) : ∃ y, d.ferryGot chip = { d with fry := y } := by
  unfold Dev.ferryGot
  split
  · exact ⟨_, rfl⟩
  · exact ⟨d.fry, rfl⟩

@[simp] theorem Dev.now_ferryGot (d : Dev) (chip : Nat) : (d.ferryGot chip).now = d.now := by
  obtain ⟨y, hy⟩ := d.ferryGot_eq chip
  rw [hy]

@[simp] theorem Dev.brg_ferryGot (d : Dev) (chip b : Nat) : (d.ferryGot chip).brg b = d.brg b := by
  obtain ⟨y, hy⟩ := d.ferryGot_eq chip
  rw [hy]
  rfl

@[simp] theorem Dev.brgType_ferryGot (d : Dev) (chip b : Nat) : (d.ferryGot chip).brgType b = d.brgType b := by
  obtain ⟨y, hy⟩ := d.ferryGot_eq chip
  rw [hy]
  rfl

/-! ## Samples -/

/-- R32: a crossing in sequence, of a phase that is in use and strong enough, is taken as a sample. -/
theorem Dev.mainsCrossing_inOrder (d : Dev) (b phase : Nat) (rising : Bool) (peak : Nat) (l : List (Ticks × Int)) (at_ : Ticks) (rms : Rat)
    (htype : d.brgType b = 3) (hon : (d.brg b).state ≠ .off) (hphase : bitOf (d.cfgN Od.mns_PHASES b) phase = true)
    (hpeak : ¬ (peak : Int) < d.cfg Od.mns_AMPLITUDE_MIN b)
    (horder : mainsInOrder (d.brg b).mainsStep (mainsSixth (d.cfgB Od.mns_SEQUENCE b) phase rising) = true)
    (hzero : mainsZero l = some (at_, rms)) :
    d.mainsCrossing b phase rising peak l =
      (d.notePeak b phase peak).mainsTake b (mainsSixth (d.cfgB Od.mns_SEQUENCE b) phase rising) at_ rms := by
  have hweak := d.weak_notePeak b phase peak hpeak
  simp [Dev.mainsCrossing, htype, hon, hphase, hweak, hzero, horder]

/-- Settles O16: each command's tests, in the order in which it makes them, come out so that the sample is taken. -/
theorem bearingSamplesComplete : Obligations.BearingSamplesComplete := by
  refine ⟨?edge, ?index, ?ssi, ?mains, ?ferry, ?frame⟩
  case edge =>
    intro s b a c width raw t k d hacts hquad hon hwide hstep hcounts hclose
    refine Does.of_run (fun d => d.bearingEdge b a c width raw) rfl hacts
      ((if_neg (by simp [d, hquad, hon])).trans ((if_neg hwide).trans ?_))
    -- the step counts: it is neither undecodable nor no change
    simp only [d, hstep]
    exact if_neg (Bool.eq_false_iff.mp hclose)
  case index =>
    intro s b width t d hacts hquad hon hwide hlevels hmode hunref
    exact Does.of_run (fun d => d.indexPulse b width) rfl hacts
      ((if_neg (by simp [d, hquad, hon])).trans ((if_neg hwide).trans
        ((if_neg (by simp [d, hlevels, hmode])).trans (if_pos (by simp [d, hmode, hunref])))))
  case ssi =>
    intro s b word parity edge t d hacts hssi hon hparity hfirst
    obtain ⟨hnew, hfit⟩ := hfirst
    refine Does.of_run (fun d => d.ssiSample b word parity edge) rfl hacts
      ((if_neg (by simp [d, hssi, hon])).trans ((if_neg (by simp [d, hparity])).trans ?_))
    -- the first word: no count to unwrap near, no fit to jump from
    simp [d, hnew, hfit]
  case mains =>
    intro s b phase rising peak before after at_ t rms d hacts htype hon hphase hpeak horder hzero
    exact Does.of_run (fun d => d.mainsCrossing b phase rising peak (before ++ after)) rfl hacts
      (d.mainsCrossing_inOrder b phase rising peak _ at_ rms htype hon hphase hpeak horder hzero)
  case ferry =>
    intro s b r x t d hacts htype hon htime
    refine Does.of_run (fun d => d.ferrySample b r x false) rfl hacts ?_
    simp [Dev.ferrySample, d, htype, hon, htime]
  case frame =>
    intro s f t i p at_ n q x rest d hacts hreceive htime hstamps
    refine Does.of_run (fun d => d.bearingReceive f) rfl hacts ?_
    show d.bearingReceive f = _
    rw [Dev.bearingReceive]
    generalize d.receive 4 f = r at hreceive ⊢
    obtain ⟨handled, d1⟩ := r
    obtain rfl : handled = some (i, p) := hreceive
    simp only [htime, hstamps]

/-! ## States -/

/-- Settles O17: each command's tests come out so that the state changes; a Bearing that is enabled has no fault on its wires
that would take it to LOST at once. -/
theorem bearingStateCommandsComplete : Obligations.BearingStateCommandsComplete := by
  refine ⟨?wire, ?wireEnds, ?rate, ?rateEnds, ?timeout, ?coast, ?enable, ?disable, ?drained, ?position⟩
  case wire =>
    intro s b t d hacts hon
    exact Does.of_run (fun d => d.wireFault b true) rfl hacts (if_neg (by simpa using hon))
  case wireEnds =>
    intro s b t hacts
    exact Does.of_run (fun d => d.wireFault b false) rfl hacts (if_pos (by simp))
  case rate =>
    intro s b t d hacts hon
    exact Does.of_run (fun d => d.rateFault b true) rfl hacts (if_neg (by simpa using hon))
  case rateEnds =>
    intro s b t hacts
    exact Does.of_run (fun d => d.rateFault b false) rfl hacts (if_pos (by simp))
  case timeout =>
    intro s b t d hacts hmoves hown hgate
    exact Does.of_run (fun d => d.edgeTimeout b) rfl hacts (if_pos (by simp [d, hmoves, hown, hgate]))
  case coast =>
    intro s b t d hacts hcoasts hown htime
    exact Does.of_run (fun d => d.coastExpired b) rfl hacts (if_pos (by simp [d, hcoasts, hown, htime]))
  case enable =>
    intro s b t d hacts hsafe hclaim htype hoff htype' hclear
    have hwire : ((d.set Od.brg_ENABLE b 1).brg b).wireLive = false := hclear.1
    have hrate : ((d.set Od.brg_ENABLE b 1).brg b).rateLive = false := hclear.2
    refine Does.of_action (fun d => d.bearingEnableWrite b) rfl hacts hsafe hclaim
      ((if_neg htype).trans ((if_neg htype').trans ((if_neg (not_not_intro hoff)).trans ?_)))
    simp [d, hwire, hrate]
  case disable =>
    intro s b t d hacts hsafe hclaim hon
    exact Does.of_action (fun d => (d.set Od.brg_ENABLE b 0).bearingDisable b) rfl hacts hsafe hclaim (if_neg hon)
  case drained =>
    intro s b t d hacts hdrains hnone
    exact Does.of_run (fun d => d.bearingDrainDone b) rfl hacts (if_pos (by simp [d, hdrains, hnone]))
  case position =>
    intro s b v t d hacts hsafe
    exact Does.of_write (fun d => d.positionSet b v) rfl hacts hsafe rfl

/-! ## Calibration and publication -/

/-- Settles O18: the capture may start, is complete, and the publication is due. -/
theorem calibrationAndPublicationComplete : Obligations.CalibrationAndPublicationComplete := by
  refine ⟨?capture, ?captured, ?publish⟩
  case capture =>
    intro s b t d hacts hsafe hmay
    exact Does.of_write (fun d => d.calCapture b) rfl hacts hsafe (if_neg (by simp [d, hmay]))
  case captured =>
    intro s b t d c hacts hruns hperiods
    obtain ⟨hrunning, hsamples, hspan⟩ := hruns
    have hcomplete : d.captureComplete b c.lastT = true := by
      simp only [Dev.captureComplete, Bool.and_eq_true, decide_eq_true_eq]
      exact ⟨⟨⟨⟨hrunning, hsamples⟩, hperiods⟩, hspan⟩, rfl⟩
    exact Does.of_run (fun d => d.calCaptureDone b c.lastT) rfl hacts (if_neg (by simp [d, c, hcomplete]))
  case publish =>
    intro s b instant t d hacts hclaim hperiod hwhole
    exact Does.of_run (fun d => d.bearingPublish b instant) rfl hacts (if_neg (by simp [d, hclaim, hperiod, hwhole]))

end Sys2Proof.Machine
end

section
/-!
SUPPORT. The launch table: what CANCEL, the pin commands and the overlay exchange do in each of their cases, and the
statements about their commands.
-/
namespace Sys2Proof.Machine

section
variable {d : Dev} {h : Nat} {e : Entry}

/-! ## Entries: commit, release and cancel (R68, R71, R74, R75) -/

/-- R71, R76: a commit point that has passed, with a commit left in this microsecond. -/
theorem Dev.maybeCommit_due {p : Pred} (hentry : d.entry h = some e) (hstate : e.state = .predicted) (hpred : e.pred = some p)
    (hcommits : d.commits = true) (hpoint : d.commitPoint e.image p ≤ d.now) (hrate : d.rateFree h 32 = true) :
    d.maybeCommit h = (d.spendRate h 32).commit h p := by
  simp [Dev.maybeCommit, hentry, hstate, hpred, hcommits, hpoint, hrate]

/-- R70: the frame of a committed entry, 400 ns before its instant. -/
theorem Dev.frameSeal_due (hentry : d.entry h = some e) (hstate : e.state = .committed) (hopen : e.sealed = false)
    (hframe : e.image.isFrame = true) (hdue : e.instant - 400 * ns ≤ d.now) :
    d.frameSeal h = d.setEntry h { e with sealed := true, sealClaim := d.fry.twin.claim } := by
  simp [Dev.frameSeal, hentry, hstate, hopen, hframe, hdue]

theorem Dev.lateTolPassed_atSample (hentry : d.entry h = some e) (hpassed : ¬ d.now ≤ e.instant + e.image.lateTol)
    (hstate : e.state = .atSample) : d.lateTolPassed h = (d.late h).runDue := by
  simp [Dev.lateTolPassed, hentry, hpassed, hstate]

/-- R74: a HELD entry that is no overlay's acts at once. -/
theorem Dev.releaseEntry_held (hentry : d.entry h = some e) (hstate : e.state = .held)
    (hfree : (d.item e.item).any d.held = false) (htarget : e.image.isOverlay = false) :
    d.releaseEntry h = (d.commitAt h { (e.flag flLate).flag flReleased with committedAt := d.now } d.now e.unc).runDue := by
  simp [Dev.releaseEntry, hentry, hstate, hfree, Entry.flag, htarget]

/-- R75: a committed entry stays. -/
theorem Dev.cancelEntry_committed (hentry : d.entry h = some e) (hfree : (d.item e.item).any d.held = false)
    (hcommitted : e.state.isCommitted = true) : d.cancelEntry h = d := by
  simp [Dev.cancelEntry, hentry, hfree, hcommitted]

/-- R75: an entry that is not committed ends. -/
theorem Dev.cancelEntry_uncommitted (hentry : d.entry h = some e) (hfree : (d.item e.item).any d.held = false)
    (huncommitted : e.state.isCommitted = false) :
    d.cancelEntry h = (d.delPart d.fry.flo.ownId h).endEntry h .cancelled 0x2E := by
  simp [Dev.cancelEntry, hentry, hfree, huncommitted]

end

/-- R75: CANCEL of an entry that is not committed. -/
theorem cancel_uncommitted_does {s : State} {h : Nat} {e : Entry} {t : Ticks} (hacts : s.dev.acts = true)
    (hsafe : (s.dev.at_ t).flt.chipSafe = false) (hclaim : (s.dev.at_ t).isStandby = false)
    (hentry : (s.dev.at_ t).entry h = some e) (hfree : ((s.dev.at_ t).item e.item).any (s.dev.at_ t).held = false)
    (huncommitted : e.state.isCommitted = false) :
    Does (.cancel h t) s t (fun d => (d.delPart d.fry.flo.ownId h).endEntry h .cancelled 0x2E) :=
  Does.of_action (fun d => d.cancelEntry h) rfl hacts hsafe hclaim (Dev.cancelEntry_uncommitted hentry hfree huncommitted)

/-- Settles O15: CANCEL turns on whether the entry is committed. -/
theorem committedEntryIsNotCancelled : Obligations.CommittedEntryIsNotCancelled := by
  refine ⟨?committed, ?uncommitted⟩
  case committed =>
    intro s h e t d hacts hsafe hclaim hentry hfree hcommitted
    exact Does.of_action (fun d => d.cancelEntry h) rfl hacts hsafe hclaim (Dev.cancelEntry_committed hentry hfree hcommitted)
  case uncommitted =>
    intro s h e t d hacts hsafe hclaim hentry hfree huncommitted
    exact cancel_uncommitted_does hacts hsafe hclaim hentry hfree huncommitted

/-- Settles O19: each command finds its entry in the state it is for; the snapshot goes by the entry's state and prediction. -/
theorem launchesCommitActAndEnd : Obligations.LaunchesCommitActAndEnd := by
  refine ⟨?commit, ?frame, ?action, ?late, ?release, ?cancel, ?select⟩
  case commit =>
    intro s h t e p d hacts hentry hpredicted hcommits hpoint hrate
    obtain ⟨hstate, hpred⟩ := hpredicted
    exact Does.of_run (fun d => d.launchCommit (.entry h)) rfl hacts
      (congrArg Dev.runDue (Dev.maybeCommit_due hentry hstate hpred hcommits hpoint hrate))
  case frame =>
    intro s h t e d hacts hentry hcommitted hframe hdue
    obtain ⟨hstate, hopen⟩ := hcommitted
    exact Does.of_run (fun d => d.frameSeal h) rfl hacts (Dev.frameSeal_due hentry hstate hopen hframe hdue)
  case action =>
    intro s t hacts
    exact Does.of_run (fun d => d.runDue) rfl hacts rfl
  case late =>
    intro s h t e d hacts hentry hpassed hstate
    exact Does.of_run (fun d => d.lateTolPassed h) rfl hacts (Dev.lateTolPassed_atSample hentry hpassed hstate)
  case release =>
    intro s h t e d hacts hsafe hclaim hentry hstate hfree htarget
    exact Does.of_action (fun d => d.releaseEntry h) rfl hacts hsafe hclaim (Dev.releaseEntry_held hentry hstate hfree htarget)
  case cancel =>
    intro s h t e d hacts hsafe hclaim hentry huncommitted hfree
    exact cancel_uncommitted_does hacts hsafe hclaim hentry hfree huncommitted
  case select =>
    intro s h t hacts
    refine Does.of_run (fun d => d.entrySel h) rfl hacts ?_
    simp only [Dev.entrySel]
    cases (s.dev.at_ t).entry h with
    | none => rfl
    | some e =>
      dsimp only
      -- a prediction shows only while the entry is PREDICTED
      cases e.state with
      | predicted => cases e.pred <;> rfl
      | unarmed | waiting | held | atSample | committed | acting => rfl

/-! ## Pins (R78, R90–R92, R648) -/

section
variable {d : Dev} {n : Nat}

/-- R78: pulse ends that are due, with nothing that keeps or discards them. -/
theorem Dev.endPulses_due (hdue : ((d.pin n).ends.filter (fun x => x.dueBy d.now)).isEmpty = false) (hsaving : d.man.saving = false)
    (hsuppressed : d.suppressed = false) (hhold : d.flt.hold = false) (hyielding : d.yielding = false) :
    d.endPulses n = Dev.pinSlot 1 d n (d.endSlot ((d.pin n).ends.filter (fun x => x.dueBy d.now))) [] := by
  unfold Dev.endPulses
  rw [if_neg (by simp only [hdue, hsaving]; decide), if_neg (by simp [hsuppressed]), if_neg (by simp [hhold, hyielding])]

/-- R91: an edge seen within 10 ns of its schedule and within SENSE_LIMIT, on which no entry waits. -/
theorem Dev.pinSense_inLimit {m : Ticks} {w : SenseWait} {rest : List SenseWait} (hsense : (d.pin n).sense = w :: rest)
    (hafter : m - w.sched ≤ 10 * ns) (hbefore : w.sched - m ≤ 10 * ns) (henabled : d.cfgB Od.pin_SENSE_ENABLE n = true)
    (hclaim : d.holdsClaim = true) (hnone : w.handle = none)
    (hlimit : ¬ d.cfg Od.pin_SENSE_LIMIT n < (if m - w.sched < 0 then -(m - w.sched) else m - w.sched)) :
    d.pinSense n (some m) =
      ((d.setPin n { d.pin n with sense := rest }).set Od.pst_LAST_DEV n (m - w.sched)).set Od.pst_MAX_ABS_DEV n
        (max (d.cfg Od.pst_MAX_ABS_DEV n) (if m - w.sched < 0 then -(m - w.sched) else m - w.sched)) := by
  simp only [Dev.pinSense, hsense, hafter, hbefore, henabled, hclaim, hnone, hlimit, decide_true, decide_false, Bool.and_self,
    Bool.not_true, Bool.or_self, Bool.false_eq_true, if_false]

/-- R90: ON takes an OFF pin to its idle level. -/
theorem Dev.pinEnable_off (hadmits : d.admitsWork = true) (hoff : (d.pin n).state = .off) (hhold : d.flt.hold = false) :
    d.pinEnable n = d.drivePins (d.setPin n ((d.pin n).idle (d.cfgB Od.pin_IDLE_LEVEL n))) := by
  simp [Dev.pinEnable, hadmits, hoff, hhold]

/-- R92: a measurement in which no edge came between is written. -/
theorem Dev.pinRecalDone_unmoved {rise fall temp : Int} {start : Ticks} (hrecal : (d.pin n).recal = some start)
    (hunmoved : (d.pin n).lastEdge = none) (hidle : d.edgeDue n (2 * us) = false) :
    d.pinRecalDone n rise fall temp =
      ((((d.setPin n { d.pin n with recal := none }).setAt Od.pcl_RISE d.pwr.bin n rise).setAt Od.pcl_FALL d.pwr.bin n fall).setAt
        Od.pcl_BIN_TEMP d.pwr.bin n temp).set Od.pcl_VALID n (setBit (d.cfgN Od.pcl_VALID n) d.pwr.bin) := by
  simp [Dev.pinRecalDone, hrecal, hunmoved, hidle]

end

/-! ## The overlay exchange (R94, R95) -/

/-- A message sent to each of some chips only goes out. -/
theorem Dev.foldl_sendOvl_eq (d : Dev) (msg : OvlMsg) (ms : List Nat) :
    ∃ o, ms.foldl (fun e m => e.sendOvl m msg) d = { d with out := o } := by
  induction ms generalizing d with
  | nil => exact ⟨d.out, rfl⟩
  | cons m ms ih => exact ih (d.sendOvl m msg)

/-- Passing a decision on ends the master's exchange and sends messages, no more. -/
theorem Dev.passDecision_eq (d : Dev) (chip h : Nat) (dec : OvlDecision) :
    ∃ x o, d.passDecision chip h dec = { d with lch.masterEx := x, out := o } := by
  unfold Dev.passDecision
  split
  · exact ⟨d.lch.masterEx, d.out, rfl⟩
  · next x _ =>
    obtain ⟨o, ho⟩ := Dev.foldl_sendOvl_eq
      { d with lch.masterEx := d.lch.masterEx.filter (fun y => !(y.chip == chip && y.handle == h)) } (.decide chip h dec)
      (x.members.filter (fun m => m ≠ d.fry.flo.ownId))
    exact ⟨_, o, ho⟩

@[simp] theorem Dev.ovlPart_passDecision (d : Dev) (chip h chip' h' : Nat) (dec : OvlDecision) :
    (d.passDecision chip h dec).ovlPart chip' h' = d.ovlPart chip' h' := by
  obtain ⟨x, o, hpass⟩ := d.passDecision_eq chip h dec
  rw [hpass]
  rfl

@[simp] theorem Dev.fry_passDecision (d : Dev) (chip h : Nat) (dec : OvlDecision) : (d.passDecision chip h dec).fry = d.fry := by
  obtain ⟨x, o, hpass⟩ := d.passDecision_eq chip h dec
  rw [hpass]

/-- R94: in an exchange of this flotilla an answer is kept once, while the exchange is open. -/
theorem Dev.takeAnswer_own (d : Dev) {chip : Nat} (h sender : Nat) (a : OvlAnswer) (hown : chip < 16) :
    d.takeAnswer chip h sender a = { d with lch.masterEx := d.lch.masterEx.map (fun x =>
      if x.chip == chip && x.handle == h && x.decided.isNone && sender ∈ x.members && x.answers.all (fun y => y.1 ≠ sender)
      then { x with answers := x.answers ++ [(sender, a)] } else x) } := by
  refine (if_pos hown).trans (congrArg (fun f => { d with lch.masterEx := d.lch.masterEx.map f }) (funext fun x => ?_))
  by_cases hopen : (x.chip == chip && x.handle == h && x.decided.isNone) = true
  · simp only [hopen, if_true, Bool.true_and]
  · simp only [Bool.eq_false_iff.mpr hopen, Bool.false_and, Bool.false_eq_true, if_false]

/-- R95: a refusal of another chip's overlay, not of a chart switch, drops the part that this chip took in it. -/
theorem Dev.decisionReceive_abortRefused {d : Dev} {chip h : Nat} {p : OvlPart} (hpart : d.ovlPart chip h = some p)
    (hother : chip ≠ d.fry.flo.ownId) (hlayer : ∀ slot digest, p.image.target ≠ .overlay slot 0 digest) :
    d.decisionReceive chip h .abortRefused = (d.passDecision chip h .abortRefused).delPart chip h := by
  -- by `hlayer` the target's match takes its other case, and by `hother` no entry of this chip's ends
  simp only [Dev.decisionReceive, Dev.ovlPart_passDecision, Dev.fry_passDecision, hpart, hother, decide_false, Bool.false_and,
    Bool.false_eq_true, if_false]

/-- Settles O20: each command's tests, in the order in which it makes them, come out so that it takes effect. -/
theorem pinsAndOverlaysComplete : Obligations.PinsAndOverlaysComplete := by
  refine ⟨?ends, ?sense, ?enable, ?disable, ?drained, ?recal, ?measured, ?prepare, ?answer, ?agreed, ?decide, ?refused⟩
  case ends =>
    intro s n t d hacts hdue hsaving hsuppressed ⟨hhold, hyielding⟩
    exact Does.of_run (fun d => d.endPulses n) rfl hacts (Dev.endPulses_due hdue hsaving hsuppressed hhold hyielding)
  case sense =>
    intro s n m t w rest d hacts hsense ⟨hafter, hbefore⟩ henabled hclaim hnone hlimit
    exact Does.of_run (fun d => d.pinSense n (some m)) rfl hacts
      (Dev.pinSense_inLimit hsense hafter hbefore henabled hclaim hnone hlimit)
  case enable =>
    intro s n t d hacts hsafe hclaim hadmits hadmits' hoff hhold
    exact Does.of_action (fun d => d.pinEnableWrite n) rfl hacts hsafe hclaim
      ((if_pos hadmits).trans (Dev.pinEnable_off hadmits' hoff hhold))
  case disable =>
    intro s n t d hacts hsafe hclaim hon
    refine Does.of_action (fun d => (d.set Od.pin_ENABLE n 0).pinDisable n) rfl hacts hsafe hclaim ?_
    simp only [Dev.pinDisable, d, hon]
  case drained =>
    intro s n t d hacts hdrains hnoEntry hnoEnd
    exact Does.of_run (fun d => d.pinDrainDone n) rfl hacts (if_pos (by simp [d, hdrains, hnoEntry, hnoEnd]))
  case recal =>
    intro s n t d hacts hon hidle henabled hdue
    exact Does.of_run (fun d => d.pinRecalCheck n) rfl hacts (if_pos (by simp [d, hon, hidle, henabled, hdue]))
  case measured =>
    intro s n rise fall temp t start d hacts hrecal hunmoved hidle
    exact Does.of_run (fun d => d.pinRecalDone n rise fall temp) rfl hacts (Dev.pinRecalDone_unmoved hrecal hunmoved hidle)
  case prepare =>
    intro s chip h image t hacts
    exact Does.of_run (fun d => d.overlayPrepare chip h image) rfl hacts rfl
  case answer =>
    intro s chip h sender a t hacts hown
    exact Does.of_run (fun d => d.takeAnswer chip h sender a) rfl hacts (Dev.takeAnswer_own _ h sender a hown)
  case agreed =>
    intro s chip h sender a t x b d d1 hacts hpeer hopen hjoint
    refine Does.of_run (fun d => d.takeAnswer chip h sender a) rfl hacts ((if_neg (by omega)).trans ?_)
    simp only [d1, d] at hopen
    simp only [hopen, Option.bind_some, hjoint, d1, d]
  case decide =>
    intro s chip h t x l d hacts hopen hinstant hmaster hown htime
    refine Does.of_run (fun d => d.overlayDecide chip h) rfl hacts ?_
    simp only [d] at hopen hinstant
    simp only [Dev.overlayDecide, hopen, hinstant]
    exact if_neg (by simp [d, hmaster, hown, htime])
  case refused =>
    intro s chip h t p d hacts hpart hother hlayer
    have htarget : ∀ slot digest, p.image.target ≠ .overlay slot 0 digest := fun slot digest htarget => by
      rw [htarget] at hlayer
      exact Bool.noConfusion hlayer
    exact Does.of_run (fun d => d.decisionReceive chip h .abortRefused) rfl hacts
      (Dev.decisionReceive_abortRefused hpart hother htarget)

end Sys2Proof.Machine
end

section
/-!
SUPPORT. The queues: what a doorbell, a dispatch, a command on an item and a write of a queue's objects do in each of their
cases, and the statements about their commands.
-/
namespace Sys2Proof.Machine

/-! ## How a doorbell and an admission reach the device -/

section
variable {s : State} {pf : Fin 4} {q : Fin 16384} {pos : Nat} {t : Ticks} {f : Dev → Dev}

/-- R282: a submission doorbell of the function that owns the queue. -/
theorem Does.of_dbSub (hacts : s.dev.acts = true) (hown : (s.dev.at_ t).pfOf q = (pf : Nat))
    (heff : (s.dev.at_ t).dbSub q pos = f (s.dev.at_ t)) : Does (.dbSub pf q pos t) s t f :=
  Does.of_run (fun d => d.doorbell pf q (fun d => d.dbSub q pos)) rfl hacts ((if_pos hown).trans heff)

/-- R282: a completion doorbell of the function that owns the queue. -/
theorem Does.of_dbCpl (hacts : s.dev.acts = true) (hown : (s.dev.at_ t).pfOf q = (pf : Nat))
    (heff : (s.dev.at_ t).dbCpl q pos = f (s.dev.at_ t)) : Does (.dbCpl pf q pos t) s t f :=
  Does.of_run (fun d => d.doorbell pf q (fun d => d.dbCpl q pos)) rfl hacts ((if_pos hown).trans heff)

end

/-- A device that acts has recognised no power failure (R140). -/
theorem Dev.stopping_of_acts {d : Dev} (hacts : d.acts = true) (t : Ticks) : d.stopping t = false := by
  simp only [Dev.acts, Bool.and_eq_true, Bool.not_eq_true'] at hacts
  obtain ⟨⟨_, hsaving⟩, _⟩ := hacts
  simp [Dev.stopping, hsaving]

/-- An admission on a device that acts. -/
theorem Does.of_offer {c : Instr} {s : State} {t : Ticks} {f : Dev → Dev} (g : Dev → (Nat → Nat → Bytes) → Dev)
    (harm : exec c s = s.offerWith t g) (hacts : s.dev.acts = true)
    (heff : g (s.dev.at_ t) (memRead s.mem) = f (s.dev.at_ t)) : Does c s t f :=
  harm.trans ((if_neg (by simp [Dev.stopping_of_acts hacts])).trans ((State.runM_acts s t g hacts).trans (effect_congr s heff)))

/-! ## Doorbells (R113–R116) -/

section
variable {d : Dev} {q pos n : Nat}

/-- How far a submission doorbell may move: to the delivered items of a delivery ring, into the free slots of another. -/
def Dev.subRoom (d : Dev) (q : Nat) : Nat :=
  let x := d.queue q
  if d.delivers q then x.devPos - x.hostPos else 2 ^ x.workLog2 - (x.hostPos - x.devPos)

theorem Dev.dbSub_backwards (hvalid : (d.queue q).ringValid = true)
    (hahead : ringAhead (d.queue q).workLog2 (d.queue q).hostPos (pos % 2 ^ 17) = none) : d.dbSub q pos = d.doorbellError q := by
  simp only [Dev.dbSub, hvalid, Bool.not_true, Bool.false_eq_true, if_false, hahead]

/-- A position ahead of the host's moves it there where the ring has the room. -/
theorem Dev.dbSub_ahead (hvalid : (d.queue q).ringValid = true)
    (hahead : ringAhead (d.queue q).workLog2 (d.queue q).hostPos (pos % 2 ^ 17) = some n) :
    d.dbSub q pos =
      if d.subRoom q < n then d.doorbellError q
      else
        let d1 := d.setQueue q { d.queue q with hostPos := (d.queue q).hostPos + n }
        if d.delivers q then d1.confirmTaken q ((d.queue q).hostPos + n) else d1 := by
  simp only [Dev.dbSub, hvalid, Bool.not_true, Bool.false_eq_true, if_false, hahead, Dev.subRoom]
  cases d.delivers q with
  | false => rfl
  | true => rfl

theorem Dev.dbSub_beyond (hvalid : (d.queue q).ringValid = true)
    (hahead : ringAhead (d.queue q).workLog2 (d.queue q).hostPos (pos % 2 ^ 17) = some n) (hroom : d.subRoom q < n) :
    d.dbSub q pos = d.doorbellError q :=
  (Dev.dbSub_ahead hvalid hahead).trans (if_pos hroom)

theorem Dev.dbSub_submits (hvalid : (d.queue q).ringValid = true)
    (hahead : ringAhead (d.queue q).workLog2 (d.queue q).hostPos (pos % 2 ^ 17) = some n) (hring : d.delivers q = false)
    (hroom : ¬ 2 ^ (d.queue q).workLog2 - ((d.queue q).hostPos - (d.queue q).devPos) < n) :
    d.dbSub q pos = d.setQueue q { d.queue q with hostPos := (d.queue q).hostPos + n } :=
  (Dev.dbSub_ahead hvalid hahead).trans ((if_neg (by simpa [Dev.subRoom, hring] using hroom)).trans (if_neg (by simp [hring])))

theorem Dev.dbSub_takes (hvalid : (d.queue q).ringValid = true)
    (hahead : ringAhead (d.queue q).workLog2 (d.queue q).hostPos (pos % 2 ^ 17) = some n) (hring : d.delivers q = true)
    (hroom : ¬ (d.queue q).devPos - (d.queue q).hostPos < n) :
    d.dbSub q pos =
      (d.setQueue q { d.queue q with hostPos := (d.queue q).hostPos + n }).confirmTaken q ((d.queue q).hostPos + n) :=
  (Dev.dbSub_ahead hvalid hahead).trans ((if_neg (by simpa [Dev.subRoom, hring] using hroom)).trans (if_pos hring))

theorem Dev.dbCpl_backwards (hvalid : (d.queue q).ringValid = true)
    (hahead : ringAhead (d.queue q).cplLog2 (d.queue q).cplHead (pos % 2 ^ 17) = none) : d.dbCpl q pos = d.doorbellError q := by
  simp only [Dev.dbCpl, hvalid, Bool.not_true, Bool.false_eq_true, if_false, hahead]

theorem Dev.dbCpl_beyond (hvalid : (d.queue q).ringValid = true)
    (hahead : ringAhead (d.queue q).cplLog2 (d.queue q).cplHead (pos % 2 ^ 17) = some n)
    (hroom : (d.queue q).cplTail - (d.queue q).cplHead < n) : d.dbCpl q pos = d.doorbellError q := by
  simp only [Dev.dbCpl, hvalid, Bool.not_true, Bool.false_eq_true, if_false, hahead, hroom, if_true]

/-- R115, R117, R133, R149: records that the host has read free their slots; no gap record is open that it could have passed. -/
theorem Dev.dbCpl_frees (hvalid : (d.queue q).ringValid = true)
    (hahead : ringAhead (d.queue q).cplLog2 (d.queue q).cplHead (pos % 2 ^ 17) = some n)
    (hroom : ¬ (d.queue q).cplTail - (d.queue q).cplHead < n) (hgap : (d.queue q).gapOpen = none) :
    d.dbCpl q pos =
      let x := d.queue q
      let d1 := ((d.setQueue q { x with cplHead := x.cplHead + n }).freeRetired q (x.cplHead + n)).pump q
      let y := d1.queue q
      let d2 := if y.state = .stalled && !y.dmaStall && y.slotsFree then d1.setQueue q { y with state := .on } else d1
      d2.retryBlocked := by
  simp only [Dev.dbCpl, hvalid, Bool.not_true, Bool.false_eq_true, if_false, hahead, hroom, hgap]

end

/-- Settles O14: a position that is none of the ring's, or one beyond the room there is, is an error. -/
theorem badDoorbellIsIgnored : Obligations.BadDoorbellIsIgnored := by
  refine ⟨?submission, ?completion⟩
  case submission =>
    intro s pf q pos t d hacts hown hvalid hbad
    refine Does.of_dbSub hacts hown ?_
    cases hahead : ringAhead (d.queue q).workLog2 (d.queue q).hostPos (pos % 2 ^ 17) with
    | none => exact Dev.dbSub_backwards hvalid hahead
    | some n => exact Dev.dbSub_beyond hvalid hahead (hbad n hahead)
  case completion =>
    intro s pf q pos t d hacts hown hvalid hbad
    refine Does.of_dbCpl hacts hown ?_
    cases hahead : ringAhead (d.queue q).cplLog2 (d.queue q).cplHead (pos % 2 ^ 17) with
    | none => exact Dev.dbCpl_backwards hvalid hahead
    | some n => exact Dev.dbCpl_beyond hvalid hahead (hbad n hahead)

/-! ## Items: admission, acknowledgement, dispatch, expiry, time-out and cancelling (R113, R128, R133) -/

section
variable {d : Dev} {q seq h : Nat} {x : Item}

/-- R159: a descriptor of a work ring in host memory comes with the command. -/
theorem Dev.admitNext_host (rd : Nat → Nat → Bytes) (desc : Bytes) (body : Option Bytes) (hhost : (d.queue q).workChip = false) :
    d.admitNext rd q desc body = d.admitHost q desc body :=
  congrArg (fun desc => d.admitHost q desc body) (if_neg (by simp [hhost]))

theorem Dev.twinGot_eq (d : Dev) : ∃ ports, d.twinGot = { d with fry.ports := ports } := by
  unfold Dev.twinGot Dev.ferryGot
  split
  · split
    · exact ⟨_, rfl⟩
    · exact ⟨d.fry.ports, rfl⟩
  · exact ⟨d.fry.ports, rfl⟩

@[simp] theorem Dev.twin_twinGot (d : Dev) : d.twinGot.fry.twin = d.fry.twin := by
  obtain ⟨ports, hports⟩ := d.twinGot_eq
  rw [hports]

@[simp] theorem Dev.man_twinGot (d : Dev) : d.twinGot.man = d.man := by
  obtain ⟨ports, hports⟩ := d.twinGot_eq
  rw [hports]
  rfl

/-- R128, R131: an acknowledgement of journal writes that are there and were not acknowledged before. -/
theorem Dev.mirrorAck_covers {n k : Nat} {t0 : Ticks} (hrole : d.fry.twin.role = .active)
    (hcovers : d.fry.twin.ackedJournal < n ∧ n ≤ d.fry.twin.journal)
    (hnewest : (d.man.unackedAt.filter (fun e => decide (e.1 ≤ n))).getLast? = some (k, t0)) :
    d.mirrorAck n =
      let d1 := ({ d with fry.twin.ackedJournal := n }.onMan (fun m =>
        { m with unackedAt := m.unackedAt.filter (fun e => decide (n < e.1)) })).set Od.man_REPL_RTT 0 (d.now - t0)
      (sortBy (fun e => (e.2.journal : Int)) (d.que.man.items.filter (fun e => e.2.unacked && decide (e.2.journal ≤ n)))).foldl
        (fun x e => x.completeAccept e.1) (if d.cfg Od.man_REPL_RTT_LIMIT 0 < d.now - t0 then d1.raise 17 0xD9 0 [d.now - t0] else d1) := by
  obtain ⟨hnew, hthere⟩ := hcovers
  refine (if_neg (by simp [hrole, hnew, hthere])).trans ?_
  simp only [hnewest]

/-- R133: the next item of an open delivery queue, with nothing that keeps it. -/
theorem Dev.dispatch_delivers (hclaim : d.isStandby = false) (hsaving : d.man.saving = false ∧ d.man.parked = false)
    (hsafe : d.flt.chipSafe = false) (hquiet : (d.queue q).dmaStall = false ∧ (d.queue q).replay = [])
    (hnext : d.nextItem q = some (h, x)) (hkind : x.kind ≠ .launchEntry)
    (hready : x.unacked = false ∧ x.resend = false ∧ x.expiry = none) (hfree : d.held x = false)
    (horder : d.queueOrder x = true ∧ d.convoyOrder x = true) (htarget : d.cfg Od.que_TARGET q = 0)
    (hopen : (d.queue q).isOpen = true) : d.dispatch q = d.deliverItem h x := by
  obtain ⟨hacked, hfirst, hlasting⟩ := hready
  refine (if_neg (by simp [hclaim, hsaving, hsafe, hquiet])).trans ?_
  simp only [hnext]
  refine (if_neg (by simp [hkind, hacked, hfree])).trans ((if_neg (by simp [hlasting])).trans ((if_neg (by simp [horder])).trans ?_))
  simp only [htarget]
  exact if_pos hopen

theorem Dev.expireItem_due {e : Ticks} (hitem : d.findItem q seq = some (h, x)) (hexpiry : x.expiry = some e)
    (hwaits : x.state = .accepted ∧ x.unacked = false) (hdue : e ≤ d.now) (hfree : d.held x = false) (hclaim : d.isStandby = false) :
    d.expireItem q seq = d.endItem h .expired 0x01 := by
  simp [Dev.expireItem, hitem, hexpiry, hwaits, hdue, hfree, hclaim]

theorem Dev.confirmTimeout_due (hitem : d.findItem q seq = some (h, x)) (hstate : x.state = .dispatched)
    (hdue : ¬ d.now < x.dispatchedAt + d.cfg Od.que_CONFIRM_TIMEOUT q) (hclaim : d.isStandby = false) (hfree : d.held x = false)
    (hkind : x.kind ≠ .launchEntry) : d.confirmTimeout q seq = ((d.lapseSlot h).endItem h .failed 0x06).retryBlocked := by
  simp [Dev.confirmTimeout, hitem, hstate, hdue, hclaim, hfree, hkind]

theorem Dev.cancelSeq_accepted (hitem : d.findItem q seq = some (h, x)) (hfree : d.held x = false)
    (hwaits : x.state = .accepted ∧ x.unacked = false) : d.cancelSeq q seq = d.cancelItem h x 0x02 0x2E := by
  simp [Dev.cancelSeq, hitem, hfree, hwaits]

theorem Dev.cancelSeq_dispatched (hitem : d.findItem q seq = some (h, x)) (hfree : d.held x = false)
    (hstate : x.state = .dispatched) : d.cancelSeq q seq = d.bump Od.qst_CANCEL_LATE q := by
  simp [Dev.cancelSeq, hitem, hfree, hstate]

end

/-- Settles O21: each doorbell finds room, and each command on an item finds it in the state it is for. -/
theorem doorbellsAndDispatchComplete : Obligations.DoorbellsAndDispatchComplete := by
  refine ⟨?submits, ?takes, ?frees, ?admission, ?ack, ?dispatch, ?expiry, ?timeout, ?cancel, ?cancelLate⟩
  case submits =>
    intro s pf q pos n t d hacts hown hvalid hahead hring hroom
    exact Does.of_dbSub hacts hown (Dev.dbSub_submits hvalid hahead hring hroom)
  case takes =>
    intro s pf q pos n t d hacts hown hvalid hahead hring hroom
    exact Does.of_dbSub hacts hown (Dev.dbSub_takes hvalid hahead hring hroom)
  case frees =>
    intro s pf q pos n t d hacts hown hvalid hahead hroom hgap
    exact Does.of_dbCpl hacts hown (Dev.dbCpl_frees hvalid hahead hroom hgap)
  case admission =>
    intro s q desc body t d hacts hsafe htarget hring hsubmitted hslots
    obtain ⟨hvalid, hhost⟩ := hring
    exact Does.of_offer (fun d rd => d.admitNext rd q desc body) rfl hacts ((Dev.admitNext_host _ desc body hhost).trans
      ((if_neg (by simp [hsubmitted, hvalid, htarget, hsafe])).trans (if_neg (by simp [hslots]))))
  case ack =>
    intro s n k t0 t d hacts hrole hcovers hnewest
    exact Does.of_run (fun d => d.twinGot.mirrorAck n) rfl hacts
      (Dev.mirrorAck_covers (by rwa [Dev.twin_twinGot]) (by rwa [Dev.twin_twinGot]) (by rwa [Dev.man_twinGot]))
  case dispatch =>
    intro s q t h x d hacts hclaim hsaving hsafe hquiet hnext hkind hready hfree horder htarget hopen
    exact Does.of_run (fun d => d.dispatch q) rfl hacts
      (Dev.dispatch_delivers hclaim hsaving hsafe hquiet hnext hkind hready hfree horder htarget hopen)
  case expiry =>
    intro s q seq h x e t d hacts hitem hexpiry hwaits hdue hfree hclaim
    exact Does.of_run (fun d => d.expireItem q seq) rfl hacts (Dev.expireItem_due hitem hexpiry hwaits hdue hfree hclaim)
  case timeout =>
    intro s q seq h x t d hacts hitem hstate hdue hclaim hfree hkind
    exact Does.of_run (fun d => d.confirmTimeout q seq) rfl hacts (Dev.confirmTimeout_due hitem hstate hdue hclaim hfree hkind)
  case cancel =>
    intro s q seq h x t d hacts hsafe hclaim hitem hfree hwaits
    exact Does.of_action (fun d => d.cancelSeq q seq) rfl hacts hsafe hclaim (Dev.cancelSeq_accepted hitem hfree hwaits)
  case cancelLate =>
    intro s q seq h x t d hacts hsafe hclaim hitem hfree hstate
    exact Does.of_action (fun d => d.cancelSeq q seq) rfl hacts hsafe hclaim (Dev.cancelSeq_dispatched hitem hfree hstate)

/-! ## Opening, closing and draining (R112, R151), and the manifest (R132, R139, R156) -/

/-- R151: the configured mode of a disable, on a queue that is not OFF; the write of ENABLE leaves the queue alone. -/
theorem Dev.queueDisable_open {d : Dev} {q : Nat} (hon : (d.queue q).state ≠ .off) :
    d.queueDisable q =
      if d.cfg Od.que_DISABLE_MODE q = 1 then ((d.set Od.que_ENABLE q 0).setQueue q { d.queue q with state := .cancelling }).cancelQueue q
      else (d.set Od.que_ENABLE q 0).setQueue q { d.queue q with state := .draining } := by
  refine (if_neg hon).trans ?_
  simp only [decide_eq_true_eq]
  rfl

theorem Dev.replicationTimeout_due {d : Dev} {n : Nat} {start : Ticks} {rest : List (Nat × Ticks)}
    (hwaits : d.man.unackedAt = (n, start) :: rest) (hrole : d.fry.twin.role = .active)
    (hdue : start + d.cfg Od.twn_DETECT_TIME 0 ≤ d.now) : d.replicationTimeout = d.unjoin := by
  simp [Dev.replicationTimeout, hwaits, hrole, hdue]

/-- Settles O22: each write and each event finds its queue, or the manifest, in the state it is for. -/
theorem queueControlAndHoldupComplete : Obligations.QueueControlAndHoldupComplete := by
  refine ⟨?latch, ?unlatch, ?enable, ?drain, ?cancel, ?drained, ?lost, ?scrub, ?fall, ?rise⟩
  case latch =>
    intro s q v t d hacts hlatch hunlatched hwork hcpl
    refine Does.of_run (fun d => d.ringCfg q v) rfl hacts ((if_pos hlatch).trans (if_neg ?_))
    simp [d, hunlatched, hwork, hcpl]
  case unlatch =>
    intro s q v t d hacts hunlatch hoff
    exact Does.of_run (fun d => d.ringCfg q v) rfl hacts ((if_neg (by simp [hunlatch])).trans (if_neg (not_not_intro hoff)))
  case enable =>
    intro s q t d hacts hsafe hclaim hmay hwindow
    refine Does.of_action (fun d => d.queueEnable q) rfl hacts hsafe hclaim ((if_neg (by simp [d, hmay])).trans ((if_neg ?_).trans ?_))
    · rcases hwindow with hring | hinside
      · simp [d, hring]
      · simp [d, hinside]
    · simp only [Bool.or_eq_true, decide_eq_true_eq]
  case drain =>
    intro s q t d hacts hsafe hclaim hmode hon
    exact Does.of_action (fun d => d.queueDisable q) rfl hacts hsafe hclaim
      ((Dev.queueDisable_open hon).trans (if_neg (by simp [d, hmode])))
  case cancel =>
    intro s q t d hacts hsafe hclaim hmode hon
    exact Does.of_action (fun d => d.queueDisable q) rfl hacts hsafe hclaim ((Dev.queueDisable_open hon).trans (if_pos hmode))
  case drained =>
    intro s q t d hacts hcloses hidle hwritten
    exact Does.of_run (fun d => d.queueDrainDone q) rfl hacts (if_pos (by simp [d, hcloses, hidle, hwritten]))
  case lost =>
    intro s n rest t start d hacts hwaits hrole hdue
    exact Does.of_run (fun d => d.replicationTimeout) rfl hacts (Dev.replicationTimeout_due hwaits hrole hdue)
  case scrub =>
    intro s found t hacts
    exact Does.of_run (fun d => d.scrub found) rfl hacts rfl
  case fall =>
    intro s t hacts
    exact Does.of_run (fun d => d.holdupFall) rfl hacts rfl
  case rise =>
    intro s t hacts
    exact Does.of_run (fun d => d.holdupRise) rfl hacts rfl

end Sys2Proof.Machine
end

section
/-!
SUPPORT. Field sessions: what a link, a received frame, a session's timer and a stream do in each of their cases, and the
statements about ports and time, sessions and streams.
-/
namespace Sys2Proof.Machine

/-! ## Ports and time (R166, R169–R171) -/

section
variable {d : Dev}

/-- R169, R170: a device whose time is LOCKED takes a message of a master that is better than itself and no worse than the present
one, with a small offset, as the newest and as one more of the run. -/
theorem Dev.syncMessage_locked {m : SyncMsg} (hprofile : d.cfg Od.tim_PROFILE 0 ≠ 0) (htaken : d.syncTaken m = true)
    (hown : betterClock d.ownClock m.master = false)
    (hpresent : d.net.time.master = [] ∨ betterClock d.net.time.master m.master = false)
    (hsmall : m.offset < d.cfg Od.tim_LOCK_THRESHOLD 0 ∧ -m.offset < d.cfg Od.tim_LOCK_THRESHOLD 0)
    (hlocked : d.net.time.state = .locked) :
    d.syncMessage m =
      { d with net.time := { d.net.time with
          offset := m.offset, servoUnc := m.unc, gm := m.gm, steps := m.steps, pathDelay := m.pathDelay, syncInterval := m.interval,
          lastSync := d.now, master := m.master, elected := false,
          good := (if d.net.time.master ≠ m.master || d.net.time.missed d.now then 0 else d.net.time.good) + 1 } } := by
  have hfollow : (!d.net.time.master.isEmpty && betterClock d.net.time.master m.master) = false := by
    rcases hpresent with hnone | hworse
    · simp [hnone]
    · simp [hworse]
  refine (if_neg hprofile).trans ((if_neg (by simp [htaken])).trans ((if_neg (by simp [hown])).trans
    ((if_neg (by simp [hfollow])).trans ?_)))
  simp [hlocked, hsmall]

theorem Dev.syncLoss_due (hlocked : d.net.time.state = .locked)
    (hsilent : d.net.time.lastSync + 4 * d.net.time.syncInterval ≤ d.now) :
    d.syncLoss = ({ d with net.time.good := 0 }).timeState .holdover :=
  if_pos (by simp [hlocked, TimeSync.lost, hsilent])

theorem Dev.holdoverLimit_passed (hholdover : d.net.time.state = .holdover)
    (hlong : d.net.time.enteredAt + d.cfg Od.tim_HOLDOVER_LIMIT 0 < d.now) : d.holdoverLimit = d.timeState .free :=
  if_pos (by simp [hholdover, hlong])

/-- R171: a reference pulse in holdover is kept, and the next free value steers the clock (log entry 35). -/
theorem Dev.ppsIn_steers {stamp : Ticks} (hholdover : d.net.time.state = .holdover)
    (hsource : d.cfg Od.tim_REF_SOURCE 0 = 1 ∨ d.cfg Od.tim_REF_SOURCE 0 = 3) :
    d.ppsIn stamp = { d with free := d.free + 1, net.time.pps := some stamp, net.time.steer := Config.freeInt d.free } :=
  if_pos (by simp [hholdover, hsource])

end

/-- Settles O23: the port, the link, the message and the time state are those that each command is for. -/
theorem portsAndTimeComplete : Obligations.PortsAndTimeComplete := by
  refine ⟨?enable, ?disable, ?link, ?message, ?loss, ?limit, ?ppsOut, ?ppsIn⟩
  case enable =>
    intro s p t d hacts hsafe hclaim hmode
    exact Does.of_action (fun d => d.portEnable p true) rfl hacts hsafe hclaim (if_neg hmode)
  case disable =>
    intro s p t d hacts hsafe hclaim
    exact Does.of_action (fun d => d.portEnable p false) rfl hacts hsafe hclaim rfl
  case link =>
    intro s p up t d hacts hchange
    exact Does.of_run (fun d => d.portLink p up) rfl hacts (if_neg hchange)
  case message =>
    intro s m t d hacts hprofile htaken hown hpresent hsmall hlocked
    exact Does.of_run (fun d => d.syncMessage m) rfl hacts
      (Dev.syncMessage_locked hprofile htaken hown hpresent hsmall hlocked)
  case loss =>
    intro s t d hacts hlocked hsilent
    exact Does.of_run Dev.syncLoss rfl hacts (Dev.syncLoss_due hlocked hsilent)
  case limit =>
    intro s t d hacts hholdover hlong
    exact Does.of_run Dev.holdoverLimit rfl hacts (Dev.holdoverLimit_passed hholdover hlong)
  case ppsOut =>
    intro s t d hacts henabled hsecond
    exact Does.of_run Dev.ppsOut rfl hacts (if_pos (by simp [d, henabled, hsecond]))
  case ppsIn =>
    intro s stamp t d hacts hholdover hsource
    exact Does.of_run (fun d => d.ppsIn stamp) rfl hacts (Dev.ppsIn_steers hholdover hsource)

/-! ## Set-up and control (R173–R175, R186, R209) -/

section
variable {d : Dev} {i : Nat}

/-- A unit that is no standby leaves no session to another one (R183). -/
theorem Dev.standsBy_of_claim (hclaim : d.isStandby = false) (i : Nat) : d.standsBy i = false := by
  simp [Dev.standsBy, hclaim]

/-- R174: a fragment that the link takes and that completes a message hands it to the step of the handshake of its number. -/
theorem Dev.setupFragment_complete {msg : Nat} {f : Fragment} {m : Bytes} {d0 e : Dev}
    (htaken : d.linkTake f.port (28 + f.bytes.length) f.crcOk f.carrier = (true, d0)) (hwhole : d0.reassemble msg f = (some m, e)) :
    d.setupFragment msg f =
      match (generalizing := false) msg with
      | 1 => e.openReceived f m
      | 2 => e.answerReceived f m
      | 3 => e.confirmReceived f m
      | _ => e.refuseReceived f m := by
  simp only [Dev.setupFragment, htaken, hwhole]
  exact if_neg (by simp)

theorem Dev.setupRetransmit_due {u : Setup} (hsetup : (d.ses i).setup = some u) (hdue : u.lastSent + 20 * ms ≤ d.now)
    (hwaits : u.expect ≠ 0 ∧ u.sent ≠ []) : d.setupRetransmit i = d.sendSetup i u.sentMsg u.sent := by
  simp [Dev.setupRetransmit, hsetup, hdue, hwaits]

theorem Dev.certExpiry_due {e : Ticks} (hexpires : (d.ses i).certExpires = some e) (hdue : e ≤ d.now)
    (hopen : (d.ses i).state ≠ .closed) :
    d.certExpiry i =
      (((d.refuseTo i (d.ses i).exchange 1).onSes i (fun y => { y with lastRefuse := 1 })).raise 18 0xE1 i [1]).sessionClosed i := by
  simp [Dev.certExpiry, hexpires, hdue, hopen]

end

/-- Settles O24: each message is complete, each time has come, and each write finds its session. -/
theorem sessionSetupAndControlComplete : Obligations.SessionSetupAndControlComplete := by
  refine ⟨?opens, ?answers, ?confirms, ?refuses, ?ageLimit, ?again, ?reopen, ?enable, ?disable, ?expiry, ?heartbeat, ?silence⟩
  case opens =>
    intro s f m d0 e t d hacts htaken hwhole
    exact Does.of_run (fun d => d.setupFragment 1 f) rfl hacts (Dev.setupFragment_complete htaken hwhole)
  case answers =>
    intro s f m d0 e t d hacts htaken hwhole
    exact Does.of_run (fun d => d.setupFragment 2 f) rfl hacts (Dev.setupFragment_complete htaken hwhole)
  case confirms =>
    intro s f m d0 e t d hacts htaken hwhole
    exact Does.of_run (fun d => d.setupFragment 3 f) rfl hacts (Dev.setupFragment_complete htaken hwhole)
  case refuses =>
    intro s f m d0 e t d hacts htaken hwhole
    exact Does.of_run (fun d => d.setupFragment 4 f) rfl hacts (Dev.setupFragment_complete htaken hwhole)
  case ageLimit =>
    intro s t hacts
    exact Does.of_run Dev.setupExpire rfl hacts rfl
  case again =>
    intro s i u t d hacts hsetup hdue hwaits
    exact Does.of_run (fun d => d.setupRetransmit i) rfl hacts (Dev.setupRetransmit_due hsetup hdue hwaits)
  case reopen =>
    intro s i fresh t d hacts hsafe hclaim henabled
    exact Does.of_action (fun d => d.reopen i fresh) rfl hacts hsafe hclaim (if_pos henabled)
  case enable =>
    intro s i t d hacts hsafe hclaim
    exact Does.of_action (fun d => d.sessionEnable i true) rfl hacts hsafe hclaim rfl
  case disable =>
    intro s i t d hacts hsafe hclaim
    exact Does.of_action (fun d => d.sessionEnable i false) rfl hacts hsafe hclaim rfl
  case expiry =>
    intro s i e t d hacts hexpires hdue hopen
    exact Does.of_run (fun d => d.certExpiry i) rfl hacts (Dev.certExpiry_due hexpires hdue hopen)
  case heartbeat =>
    intro s i t d hacts hlive hdue hown
    exact Does.of_run (fun d => d.heartbeatSend i) rfl hacts (if_pos (by simp [d, hlive, hdue, hown]))
  case silence =>
    intro s i t d hacts hopened hsilent hown
    exact Does.of_run (fun d => d.hbTimeout i) rfl hacts (if_pos (by simp [d, hopened, hsilent, hown]))

/-! ## What leaves the device leaves its queues alone (R167, R217, R227, R231) -/

@[simp] theorem Dev.que_portOut (d : Dev) (p len : Nat) (o : Output) : (d.portOut p len o).que = d.que := by
  unfold Dev.portOut
  split
  · rfl
  · rfl

@[simp] theorem Dev.que_frameOut (d : Dev) (i : Nat) (f : Sff) : (d.frameOut i f).que = d.que := by
  unfold Dev.frameOut
  split
  · rfl
  · exact d.que_portOut _ _ _

@[simp] theorem Dev.que_twinData (d : Dev) (path cls msg : Nat) (payload : Bytes) : (d.twinData path cls msg payload).que = d.que := by
  unfold Dev.twinData
  split
  · rfl
  · dsimp only
    split
    · rfl
    · exact Dev.que_frameOut _ _ _

@[simp] theorem Dev.que_ferryOut (d : Dev) (p cls msg dst : Nat) (payload : Bytes) : (d.ferryOut p cls msg dst payload).que = d.que := by
  unfold Dev.ferryOut
  dsimp only
  split
  · rfl
  · split
    · rfl
    · rfl

@[simp] theorem Dev.que_ferrySend (d : Dev) (cls msg dst : Nat) (payload : Bytes) : (d.ferrySend cls msg dst payload).que = d.que := by
  unfold Dev.ferrySend
  split
  · exact d.que_ferryOut _ _ _ _ _
  · rfl

@[simp] theorem Dev.que_sendTwin (d : Dev) (msg : Nat) (payload : Bytes) : (d.sendTwin msg payload).que = d.que := by
  unfold Dev.sendTwin
  dsimp only
  split
  · rfl
  · split
    · exact d.que_ferrySend _ _ _ _
    · exact d.que_twinData _ _ _ _

@[simp] theorem Dev.que_replSession (d : Dev) (i : Nat) : (d.replSession i).que = d.que := by
  unfold Dev.replSession
  split
  · exact d.que_sendTwin _ _
  · rfl

@[simp] theorem Dev.que_markSeq (d : Dev) (i seq : Nat) : (d.markSeq i seq).que = d.que :=
  Dev.que_replSession _ i

/-! ## Frames that pass the receive checks (R186, R187, R190, R191, R195, R197) -/

section
variable {d d1 : Dev} {f : RxFrame} {i : Nat} {p : Bytes}

theorem Dev.cmdReceive_inDoubt (hopen : d.receive 0 f = (some (i, p), d1)) (hfloor : f.seq < (d1.ses i).rxFloor) :
    d.cmdReceive f = (d1.bump Od.sst_IN_DOUBT i).decideNack i f.seq 4 := by
  simp only [Dev.cmdReceive, hopen, if_pos hfloor]

/-- R123, R191: a CMD that no reservation holds back, of a legal length, is offered to the queue that takes the session's CMDs. -/
theorem Dev.cmdReceive_offered {q : Nat} (hopen : d.receive 0 f = (some (i, p), d1)) (hfloor : ¬ f.seq < (d1.ses i).rxFloor)
    (hqueue : d1.ingressQueue i = some q) (hlegal : p.length ≠ 0 ∧ ¬ 240 < p.length) :
    d.cmdReceive f =
      match d1.admitOffer q { source := .ingress, kind := .command, body := p, ingress := some (i, f.seq), ackNow := bitOf f.flags 1 } with
      | (.accepted _, d2) => d2
      | (.waiting, d2) => d2.sendNack i f.seq 3
      | (.refused r, d2) =>
        let d3 := (d2.onQueue q (fun x => { x with lastRefusal := r })).bump Od.qst_REFUSED q
        if r = 0x02 then d3.decideNack i f.seq 5
        else if r = 0x03 then d3.decideNack i f.seq 6
        else d3.sendNack i f.seq 3 := by
  simp only [Dev.cmdReceive, hopen, if_neg hfloor, hqueue]
  exact if_neg (by simpa using hlegal)

theorem Dev.ackReceive_opened (hopen : d.receive 1 f = (some (i, p), d1)) :
    d.ackReceive f = (((ackEntries 64 p).foldl (fun x e => x.ackOne i e.1) d1).markSeq i f.seq).retryBlocked := by
  simp only [Dev.ackReceive, hopen]

theorem Dev.nackReceive_opened (hopen : d.receive 11 f = (some (i, p), d1)) :
    d.nackReceive f = (((ackEntries 64 p).foldl (fun x e => x.nackOne i e.1 e.2) d1).markSeq i f.seq).retryBlocked := by
  simp only [Dev.nackReceive, hopen]

/-- R190, R191: a DATA frame is decided once its lane has taken it. -/
theorem Dev.dataReceive_data (hopen : d.receive 2 f = (some (i, p), d1)) :
    d.dataReceive 2 f =
      if (d1.deliverFrame 2 f p).1 then (d1.deliverFrame 2 f p).2.markSeq i f.seq else (d1.deliverFrame 2 f p).2 := by
  simp only [Dev.dataReceive, hopen]
  cases (d1.deliverFrame 2 f p).1 with
  | false => rfl
  | true => rfl

/-- R190: a SAFE frame has its own count and no place in the window. -/
theorem Dev.dataReceive_safe (hopen : d.receive 5 f = (some (i, p), d1)) :
    d.dataReceive 5 f = (d1.deliverFrame 5 f p).2 := by
  simp only [Dev.dataReceive, hopen]
  rfl

theorem Dev.streamReceive_opened (hopen : d.receive 3 f = (some (i, p), d1)) :
    d.streamReceive f = (d1.streamsOf f.session).foldl (fun y n => y.streamArrive n f p) (d1.markSeq i f.seq) := by
  simp only [Dev.streamReceive, hopen]

theorem Dev.heartbeatReceive_opened (hopen : d.receive 6 f = (some (i, p), d1)) :
    d.heartbeatReceive f =
      let d2 := d1.onSes i (fun x => { x with lastHbRx := d.now, peerHigh := beAt p 0 6 })
      if (d2.ses i).state = .stalled && !((d2.ses i).upd.any (fun u => !u.replied && decide (3 ≤ u.attempts))) then d2.sesState i .opened
      else d2 := by
  simp only [Dev.heartbeatReceive, hopen]

theorem Dev.claimReceive_higher (hopen : d.receive 7 f = (some (i, p), d1)) (hhigher : (d1.ses i).claim < beAt p 0 4) :
    d.claimReceive f =
      ((d1.onSes i (fun x => { x with claim := beAt p 0 4 })).replSession i).raise 18 0xE2 i [(beAt p 0 4 : Int)] := by
  simp only [Dev.claimReceive, hopen, if_pos hhigher]

/-- R187: the REPLY to this device's update, whose generation is the newest here, completes it. -/
theorem Dev.keyupdReceive_reply {u : KeyUpdate} (hopen : d.receive 8 f = (some (i, p), d1)) (hupd : (d1.ses i).upd = some u)
    (hgen : beAt p 0 4 = (d1.ses i).newestGen ∧ u.gen = (d1.ses i).newestGen) (hreply : bitOf (leAt p 10 1) 1 = true)
    (hupdate : u.rebase = false) :
    d.keyupdReceive f =
      let x := d1.ses i
      let d2 := d1.setSes i { x with upd := some { u with replied := true }, rxSwitch := beAt p 4 6, keyUses := x.nextUses, nextUses := 0 }
      ((if x.state = .stalled then d2.sesState i .opened else d2).replKeys i).presealSafe i := by
  obtain ⟨hnewest, hours⟩ := hgen
  simp [Dev.keyupdReceive, hopen, hupd, hnewest, hours, hreply, hupdate]

/-- R186: where the manifest holds no item, the answer to a query rests on the receive window alone. -/
theorem Dev.jqueryReceive_unheld (hopen : d.receive 9 f = (some (i, p), d1)) (hquery : p.length = 8) (hitems : d1.que.man.items = []) :
    d.jqueryReceive f =
      let d2 := d1.markSeq i f.seq
      let seq := beAt p 0 6
      let res : Nat := if seq ∈ (d2.ses i).window then 1
        else if seq < (d2.ses i).rxFloor || seq + 1024 ≤ (d2.ses i).high then 3
        else 2
      d2.send0 i 9 0 (toBe 6 seq ++ [BitVec.ofNat 8 res, 0, 0, 0, 0, 0]) := by
  have hnone : (d1.markSeq i f.seq).que.man.items = [] := by rw [Dev.que_markSeq, hitems]
  simp only [Dev.jqueryReceive, hopen, hquery, hnone, List.find?_nil, ne_eq, not_true_eq_false, if_false]
  split
  · rfl
  · split
    · rfl
    · rfl

end

/-- Settles O25: each frame passes the receive checks and finds its session in the state that its case names. -/
theorem receivedFramesComplete : Obligations.ReceivedFramesComplete := by
  refine ⟨?inDoubt, ?offered, ?ack, ?nack, ?data, ?safe, ?stream, ?heartbeat, ?claim, ?reply, ?query⟩
  case inDoubt =>
    intro s f i p t d hacts hopen hfloor
    exact Does.of_run (fun d => d.cmdReceive f) rfl hacts (Dev.cmdReceive_inDoubt (Prod.ext hopen rfl) hfloor)
  case offered =>
    intro s f i q p t d hacts hopen hfloor hqueue hlegal
    exact Does.of_run (fun d => d.cmdReceive f) rfl hacts (Dev.cmdReceive_offered (Prod.ext hopen rfl) hfloor hqueue hlegal)
  case ack =>
    intro s f i p t d hacts hopen
    exact Does.of_run (fun d => d.ackReceive f) rfl hacts (Dev.ackReceive_opened (Prod.ext hopen rfl))
  case nack =>
    intro s f i p t d hacts hopen
    exact Does.of_run (fun d => d.nackReceive f) rfl hacts (Dev.nackReceive_opened (Prod.ext hopen rfl))
  case data =>
    intro s f i p t d hacts hopen
    exact Does.of_run (fun d => d.dataReceive 2 f) rfl hacts (Dev.dataReceive_data (Prod.ext hopen rfl))
  case safe =>
    intro s f i p t d hacts hopen
    exact Does.of_run (fun d => d.dataReceive 5 f) rfl hacts (Dev.dataReceive_safe (Prod.ext hopen rfl))
  case stream =>
    intro s f i p t d hacts hopen
    exact Does.of_run (fun d => d.streamReceive f) rfl hacts (Dev.streamReceive_opened (Prod.ext hopen rfl))
  case heartbeat =>
    intro s f i p t d hacts hopen
    exact Does.of_run (fun d => d.heartbeatReceive f) rfl hacts (Dev.heartbeatReceive_opened (Prod.ext hopen rfl))
  case claim =>
    intro s f i p t d hacts hopen hhigher
    exact Does.of_run (fun d => d.claimReceive f) rfl hacts (Dev.claimReceive_higher (Prod.ext hopen rfl) hhigher)
  case reply =>
    intro s f i p u t d hacts hopen hupd hgen hreply hupdate
    exact Does.of_run (fun d => d.keyupdReceive f) rfl hacts
      (Dev.keyupdReceive_reply (Prod.ext hopen rfl) hupd hgen hreply hupdate)
  case query =>
    intro s f i p t d hacts hopen hquery hitems
    exact Does.of_run (fun d => d.jqueryReceive f) rfl hacts (Dev.jqueryReceive_unheld (Prod.ext hopen rfl) hquery hitems)

/-! ## Retransmission, keys and SAFE frames (R187, R188, R193, R196) -/

section
variable {d : Dev} {i : Nat}

/-- A session that may seal its own domain-0 frames is live, and the device is not in chip safe state. -/
theorem Dev.live_of_maySeal0 (hseal : d.maySeal0 i = true) : (d.ses i).state.live = true ∧ d.flt.chipSafe = false := by
  simp only [Dev.maySeal0, Bool.and_eq_true, Bool.not_eq_true'] at hseal
  obtain ⟨⟨⟨⟨⟨hstate, _⟩, _⟩, hsafe⟩, _⟩, _⟩ := hseal
  refine ⟨?_, hsafe⟩
  revert hstate
  cases (d.ses i).state <;> simp [SState.live]

/-- R193: a dispatched item that no launch entry sends goes out again with its own sequence, as the identical bytes where claim and
key are the same, and else sealed anew. -/
theorem Dev.retransmit_due {q seq h n : Nat} {x : Item} (hitem : d.findItem q seq = some (h, x))
    (hsent : x.state = .dispatched ∧ x.sff = some n) (hdue : ¬ d.now < x.retxAt) (hclaim : d.isStandby = false)
    (hkind : x.kind ≠ .launchEntry) (hses : d.sesOf (d.cfgN Od.que_SESSION q) = some i) (hseal : d.maySeal0 i = true) :
    d.retransmit q seq =
      let gap := d.nextGap i x.retxGap
      let d1 := (d.setItem h { x with
        retxAt := d.now + gap, retxGap := gap, claim := d.fry.twin.claim, keyGen := (d.ses i).genAt n }).bump Od.sst_RETRANSMISSIONS i
      if x.claim = d.fry.twin.claim ∧ x.keyGen = (d.ses i).genAt n then d1.putFrame i 0 0 n x.wireBody
      else d1.sendFrame i 0 0 n x.wireBody := by
  obtain ⟨hstate, hseq⟩ := hsent
  obtain ⟨hlive, hsafe⟩ := Dev.live_of_maySeal0 hseal
  simp only [Dev.retransmit, hitem, hstate, hseq, hses]
  refine (if_neg (by simp [hdue, hclaim])).trans ((if_neg hkind).trans ?_)
  by_cases hsame : x.claim = d.fry.twin.claim ∧ x.keyGen = (d.ses i).genAt n
  · simp [hsame, hlive, hsafe]
  · simp [hsame, hseal]

/-- R187: an unanswered update goes out again after its time. -/
theorem Dev.keyupdRetry_due {u : KeyUpdate} (hupd : (d.ses i).upd = some u) (hwaits : u.replied = false)
    (hdue : ¬ d.now < u.sentAt + (if u.attempts ≤ 3 then 10 * ms else d.cfg Od.ses_HB_PERIOD i)) (hown : d.standsBy i = false) :
    d.keyupdRetry i = (if u.attempts = 3 && (d.ses i).state = .opened then d.sesState i .stalled else d).sendKeyUpd i u.rebase := by
  simp only [Dev.keyupdRetry, hupd]
  exact if_neg (by simp [hwaits, hdue, hown])

theorem Dev.keyOverlap_due {k : SessionKeys} {e : Ticks} (hend : (d.ses i).overlapEnd = some e) (hnext : (d.ses i).nextKeys = some k)
    (hdue : e ≤ d.now) :
    d.keyOverlap i =
      ((d.setSes i { d.ses i with keys := some k, nextKeys := none, overlapEnd := none }).replKeys i).presealSafe i := by
  simp only [Dev.keyOverlap, hend, hnext, if_pos hdue]

/-- R196: the prepared SAFE frame of a live session goes out, and its repeats are due from 100 µs on. -/
theorem Dev.safeSend_prepared (hlive : (d.ses i).state.live = true) (henabled : d.cfgB Od.ses_SAFE_ENABLE i = true)
    (hprepared : (d.ses i).safeSealed.isSome = true) :
    d.safeSend i = (d.emitSafe i).onSes i (fun x => { x with safeLeft := d.cfgN Od.ses_SAFE_REPEAT i, safeAt := d.now + 100 * us }) :=
  (if_pos (by simp [hlive, henabled])).trans (if_neg (by simpa [Option.isSome_iff_ne_none] using hprepared))

theorem Dev.rebaseTimeout_due {u : KeyUpdate} (hupd : (d.ses i).upd = some u) (hrebasing : (d.ses i).rebasing = true)
    (hwaits : u.replied = false) (hdue : u.startedAt + sec ≤ d.now) :
    d.rebaseTimeout i =
      ((d.setSes i { d.ses i with rebasing := false, upd := none, nextKeys := none }).endDispatched i 0x42).endSent i 0x42 := by
  simp [Dev.rebaseTimeout, hupd, hrebasing, hwaits, hdue]

end

/-- Settles O26: each time has come, and each write finds a live session. -/
theorem sessionKeysAndSafeFramesComplete : Obligations.SessionKeysAndSafeFramesComplete := by
  refine ⟨?again, ?rekey, ?retry, ?overlap, ?rebase, ?rebaseEnds, ?safe, ?lastRepeat⟩
  case again =>
    intro s q seq h n i x t d hacts hitem hsent hdue hclaim hkind hses hseal
    exact Does.of_run (fun d => d.retransmit q seq) rfl hacts (Dev.retransmit_due hitem hsent hdue hclaim hkind hses hseal)
  case rekey =>
    intro s i t d hacts hsafe hclaim hlive hidle hkeys
    exact Does.of_action (fun d => d.rekey i) rfl hacts hsafe hclaim
      (if_pos (by simp [d, hlive, hidle, hkeys, Dev.standsBy_of_claim hclaim]))
  case retry =>
    intro s i u t d hacts hupd hwaits hdue hown
    exact Does.of_run (fun d => d.keyupdRetry i) rfl hacts (Dev.keyupdRetry_due hupd hwaits hdue hown)
  case overlap =>
    intro s i k e t d hacts hend hnext hdue
    exact Does.of_run (fun d => d.keyOverlap i) rfl hacts (Dev.keyOverlap_due hend hnext hdue)
  case rebase =>
    intro s i t d hacts hexhausted hidle hnone hown
    exact Does.of_run (fun d => d.rebaseStart i) rfl hacts (if_pos (by simp [d, hexhausted, hidle, hnone, hown]))
  case rebaseEnds =>
    intro s i u t d hacts hupd hrebasing hwaits hdue
    exact Does.of_run (fun d => d.rebaseTimeout i) rfl hacts (Dev.rebaseTimeout_due hupd hrebasing hwaits hdue)
  case safe =>
    intro s i t d hacts hsafe hclaim hlive henabled hprepared
    exact Does.of_action (fun d => d.safeSend i) rfl hacts hsafe hclaim
      (Dev.safeSend_prepared hlive henabled hprepared)
  case lastRepeat =>
    intro s i t d hacts hlast hdue
    exact Does.of_run (fun d => d.safeRepeat i) rfl hacts ((if_neg (by simp [d, hlast, hdue])).trans (if_pos hlast))

/-! ## Streams, epochs and certificates (R197, R201–R207) -/

section
variable {d : Dev} {n : Nat}

/-- R197: what is missing below the oldest record received ahead is given up once that record has waited long enough. -/
theorem Dev.streamGap_due {a k : Nat} {r : StreamIn} {rest : Tab StreamIn} (hnext : (d.str n).next = some a)
    (hahead : (d.str n).ahead = (k, r) :: rest) (hmissing : (d.str n).on = true ∧ a < k)
    (hdue : rest.foldl (fun m e => min m e.2.arrival) r.arrival + d.cfg Od.str_REORDER_TIME n ≤ d.now) :
    d.streamGap n = Dev.streamDrain (rest.length + 1) ((d.setStr n { d.str n with next := some k }).streamLoss n a (k - a)) n := by
  simp only [Dev.streamGap, hnext, hahead]
  exact if_pos (by simp [hmissing, hdue])

theorem Dev.epochClose_due {e : Epoch} (hcur : (d.str n).cur = some e)
    (hdue : e.openAt + d.cfg Od.str_EPOCH_TIME n * (if bitOf e.flags epExtended then 2 else 1) ≤ d.now) (hclaim : d.isStandby = false) :
    d.epochClose n = d.closeEpoch n := by
  simp only [Dev.epochClose, hcur]
  exact if_pos (by simpa only [hclaim, Bool.not_false, Bool.and_true, decide_eq_true_eq] using hdue)

/-- R202, R205: the oldest closed epoch is signed, becomes the last sealed one, and goes to its seal slot. -/
theorem Dev.epochSealed_oldest {e : EpochRec} {rest : List EpochRec} (hwaiting : (d.str n).waiting = e :: rest)
    (hclaim : d.isStandby = false) :
    d.epochSealed n =
      let sig := padTo 17088 (Config.pkSign algSlh128f (keyName (d.cfgN Od.str_SIGN_KEY n)) (slhPure e.body))
      let d1 := (((d.setStr n { d.str n with waiting := rest, sealedEpoch := some e.number, sealedSeq := e.lastSeq, sealedChain := e.chain }).setOct
        Od.ssr_CHAIN n e.chain).set Od.ssr_SIGN_WAITING n rest.length).journalStream n
      ((d1.emitPf (d.pfOf (d.cfgN Od.str_QUEUE n)) (.dma (d.cfgN Od.str_SEAL_BASE n + 32768 * (e.number % d.cfgN Od.str_SEAL_SLOTS n)) (e.body ++ sig))).raise
        18 0xE6 n [(e.number : Int)]).noteSigning n := by
  simp only [Dev.epochSealed, hwaiting]
  exact if_neg (by simp [hclaim])

/-- R207: a request over Bearing A, over an interval that is one, of a stream that is on and has no request under way. -/
theorem Dev.certRequest_starts {low high : BVal} {ref : Bytes} (hidle : (d.str n).certState ≠ 1 ∧ (d.str n).certState ≠ 2)
    (hbearing : d.cfgN Od.str_BEARING_A n ≠ 0xFF) (hinterval : bvBefore low high = true) (hon : (d.str n).on = true) :
    d.certRequest n 1 low high ref =
      (0, d.setStr n { d.str n with
        certState := 1
        cert := some { selector := 1, from_ := low, to_ := high, ref := ref,
                       first := (d.str n).cur.map (fun e => (e.number, e.prevChain)) } }) := by
  simp [Dev.certRequest, hidle, hbearing, hinterval, hon]

/-- R206: the certificate in hand, with its issue instant and its signature, goes to its slot and is counted. -/
theorem Dev.certIssued_signed {b : Bytes} (hsigning : (d.str n).certSigning = some b) :
    d.certIssued n =
      let x := d.str n
      let body := overlayB b 148 (timeBe d.now)
      let cert := body ++ padTo 17088 (Config.pkSign algSlh128f (keyName (d.cfgN Od.str_SIGN_KEY n)) (slhPure body))
      let slot := d.cfgN Od.str_SEAL_SLOTS n + x.certNo % d.cfgN Od.str_CERT_SLOTS n
      (((d.setStr n { x with certSigning := none, certState := 3, certNo := x.certNo + 1, certLast := cert }).journalStream n).emitPf
        (d.pfOf (d.cfgN Od.str_QUEUE n)) (.dma (d.cfgN Od.str_SEAL_BASE n + 32768 * slot) cert)).raise 18 0xE7 n [(x.certNo : Int)] := by
  simp only [Dev.certIssued, hsigning]

end

/-- Settles O27: the stream holds the record, the epoch or the request that each command is for. -/
theorem streamsComplete : Obligations.StreamsComplete := by
  refine ⟨?disable, ?gap, ?close, ?sealed, ?request, ?issued⟩
  case disable =>
    intro s n t d hacts hsafe hclaim
    exact Does.of_action (fun d => answered (d.streamEnable n false)) rfl hacts hsafe hclaim (answered_eq rfl)
  case gap =>
    intro s n a k r rest t d hacts hnext hahead hmissing hdue
    exact Does.of_run (fun d => d.streamGap n) rfl hacts (Dev.streamGap_due hnext hahead hmissing hdue)
  case close =>
    intro s n e t d hacts hcur hdue hclaim
    exact Does.of_run (fun d => d.epochClose n) rfl hacts (Dev.epochClose_due hcur hdue hclaim)
  case sealed =>
    intro s n e rest t d hacts hwaiting hclaim
    exact Does.of_run (fun d => d.epochSealed n) rfl hacts (Dev.epochSealed_oldest hwaiting hclaim)
  case request =>
    intro s n low high ref t d hacts hsafe hclaim hidle hbearing hinterval hon
    exact Does.of_action (fun d => answered (d.certRequest n 1 low high ref)) rfl hacts hsafe hclaim
      (answered_eq (Dev.certRequest_starts hidle hbearing hinterval hon))
  case issued =>
    intro s n b t d hacts hsigning
    exact Does.of_run (fun d => d.certIssued n) rfl hacts (Dev.certIssued_signed hsigning)

end Sys2Proof.Machine
end

section
/-!
SUPPORT. Ferry ports, the twin pair and the piers: what a link frame, a twin message, a due time and a yield do in each of their
cases, and the statements about their commands.
-/
namespace Sys2Proof.Machine

/-! ## Ferry ports (R213–R215, R217, R219, R222, R223) -/

section
variable {d : Dev} {p : Nat}

/-- R213–R215: a port that trained on working lanes, whose partner passes every check and whose width is the one it had, comes UP
with new keys and without WIDTH_CHANGED. -/
theorem Dev.ferryUp_passed {r : FerryTrained} (htrains : (d.fport p).trains = true) (hlanes : r.width ≠ 0)
    (hids : d.idConflict p r = false) (hwired : d.wiring p = some (r.peerId, r.peerPort)) (hauth : d.ferryAuth r = true)
    (hwidth : (d.fport p).width = r.width) :
    d.ferryUp p r =
      let keys := d.linkKeys (d.draw 32).1 r.peerPub r.peerId
      let d1 := ((d.draw 32).2.fillSlot (linkSlot p false) linkPolicy keys.1 []).fillSlot (linkSlot p true) linkPolicy keys.2 []
      let d2 := d1.setFPort p { d.fport p with
        state := .up, width := r.width, peerId := r.peerId, peerValid := true, peerPort := r.peerPort, peerUnit := r.peerUnit,
        peerChart := r.peerChart, lastRx := d.now, lastTx := d.now, txCount := 0 }
      d.repath ((d2.resend p).linkPump p) := by
  refine (if_neg (by simp [htrains, hlanes])).trans ((if_neg (by simp [hids])).trans ((if_neg (not_not_intro hwired)).trans
    ((if_neg (by simp [hauth])).trans ?_)))
  simp only [if_pos hwidth]

/-- R217: a NAK or IDLE frame with a good tag on an UP port is taken. -/
theorem Dev.ferryTag_good (f : Dev → Dev) (hup : (d.fport p).state = .up) : d.ferryTag p true f = f d :=
  (if_neg (not_not_intro hup)).trans (if_pos rfl)

theorem Dev.ferryTag_bad (f : Dev → Dev) (hup : (d.fport p).state = .up) : d.ferryTag p false f = d.ferryFault p 0xF3 :=
  (if_neg (not_not_intro hup)).trans (if_neg (by simp))

section
variable {l : LinkRx} (f : Dev → Dev)

/-- R217: a frame in sequence with a good tag acknowledges, and is passed up. -/
theorem Dev.ferryTake_inSequence (hup : (d.fport p).state = .up) (hcrc : l.crcOk = true) (hseq : l.seq = (d.fport p).rxSeq)
    (htag : l.tagOk = true) :
    d.ferryTake p l f = f ((d.setFPort p { d.fport p with rxSeq := ((d.fport p).rxSeq + 1) % 65536 }).ferryAck p l.ack) :=
  (if_neg (not_not_intro hup)).trans ((if_neg (by simp [hcrc, hseq])).trans (if_neg (by simp [htag])))

/-- R217: a frame with a bad checksum or out of sequence is answered with a NAK, whatever its tag. -/
theorem Dev.ferryTake_discarded (hup : (d.fport p).state = .up) (hbad : l.crcOk = false ∨ l.seq ≠ (d.fport p).rxSeq) :
    d.ferryTake p l f = d.linkFrame p 2 :=
  (if_neg (not_not_intro hup)).trans (if_pos (by simpa using hbad))

/-- R217: a frame in sequence with a bad tag faults the port. -/
theorem Dev.ferryTake_badTag (hup : (d.fport p).state = .up) (hcrc : l.crcOk = true) (hseq : l.seq = (d.fport p).rxSeq)
    (htag : l.tagOk = false) : d.ferryTake p l f = d.ferryFault p 0xF3 :=
  (if_neg (not_not_intro hup)).trans ((if_neg (by simp [hcrc, hseq])).trans (if_pos (by simp [htag])))

end

theorem Dev.ferryResendTimeout_due {f : LinkFrame} {rest : List LinkFrame} (hreplay : (d.fport p).replay = f :: rest)
    (hup : (d.fport p).state = .up) (hdue : f.sentAt + 500 * ns ≤ d.now) : d.ferryResendTimeout p = d.resend p := by
  simp only [Dev.ferryResendTimeout, hreplay]
  exact if_pos (by simp [hup, hdue])

/-- R222: a master that no TIME frame told of is given up. -/
theorem Dev.masterLost_unheard (hother : d.fry.flo.master ≠ d.fry.flo.ownId) (hnone : d.fry.flo.heard.find d.fry.flo.master = none) :
    d.masterLost =
      let e : Dev := { d with fry.flo.heard := d.fry.flo.heard.del d.fry.flo.master }
      e.dropParts.setMaster e.electMaster := by
  simp only [Dev.masterLost, hnone]
  exact if_neg (by simp [hother])

end

/-- Settles O28: each port stands where its command finds it, and each frame has the checksum, the sequence and the tag that its
case names. -/
theorem ferryPortsComplete : Obligations.FerryPortsComplete := by
  refine ⟨?enable, ?disable, ?trainAgain, ?up, ?nak, ?idle, ?nakBadTag, ?idleBadTag, ?idleSend, ?resend, ?down, ?timeSend, ?exchange,
    ?exchangeDiscarded, ?exchangeBadTag, ?master⟩
  case enable =>
    intro s p t d hacts hsafe hclaim hoff
    exact Does.of_action (fun d => d.ferryEnable p true) rfl hacts hsafe hclaim (if_pos (by simpa using hoff))
  case disable =>
    intro s p t d hacts hsafe hclaim
    exact Does.of_action (fun d => d.ferryEnable p false) rfl hacts hsafe hclaim rfl
  case trainAgain =>
    intro s p t d hacts htrains hdue
    exact Does.of_run (fun d => d.ferryTrainTimeout p) rfl hacts (if_pos (by simp [d, htrains, hdue]))
  case up =>
    intro s p r t d hacts htrains hlanes hids hwired hauth hwidth
    exact Does.of_run (fun d => d.ferryUp p r) rfl hacts (Dev.ferryUp_passed htrains hlanes hids hwired hauth hwidth)
  case nak =>
    intro s p ack t d hacts hup
    exact Does.of_run (fun d => d.ferryNak p ack true) rfl hacts (Dev.ferryTag_good _ hup)
  case idle =>
    intro s p ack t d hacts hup
    exact Does.of_run (fun d => d.ferryIdle p ack true) rfl hacts (Dev.ferryTag_good _ hup)
  case nakBadTag =>
    intro s p ack t d hacts hup
    exact Does.of_run (fun d => d.ferryNak p ack false) rfl hacts (Dev.ferryTag_bad _ hup)
  case idleBadTag =>
    intro s p ack t d hacts hup
    exact Does.of_run (fun d => d.ferryIdle p ack false) rfl hacts (Dev.ferryTag_bad _ hup)
  case idleSend =>
    intro s p t d hacts hup hdue
    exact Does.of_run (fun d => d.ferryIdleSend p) rfl hacts (if_pos (by simp [d, hup, hdue]))
  case resend =>
    intro s p f rest t d hacts hreplay hup hdue
    exact Does.of_run (fun d => d.ferryResendTimeout p) rfl hacts (Dev.ferryResendTimeout_due hreplay hup hdue)
  case down =>
    intro s p t d hacts hup hsilent
    exact Does.of_run (fun d => d.ferryDown p) rfl hacts (if_pos (by simp [d, hup, hsilent]))
  case timeSend =>
    intro s p t d hacts hup hdue
    exact Does.of_run (fun d => d.ferryTimeSend p) rfl hacts (if_pos (by simp [d, hup, hdue]))
  case exchange =>
    intro s p x t d hacts hup ⟨hcrc, hseq, htag⟩
    exact Does.of_run (fun d => d.timeExchange p x) rfl hacts (Dev.ferryTake_inSequence (fun e => e.exchanged p x) hup hcrc hseq htag)
  case exchangeDiscarded =>
    intro s p x t d hacts hup hbad
    exact Does.of_run (fun d => d.timeExchange p x) rfl hacts (Dev.ferryTake_discarded _ hup hbad)
  case exchangeBadTag =>
    intro s p x t d hacts hup ⟨hcrc, hseq⟩ htag
    exact Does.of_run (fun d => d.timeExchange p x) rfl hacts (Dev.ferryTake_badTag _ hup hcrc hseq htag)
  case master =>
    intro s t d hacts hother hnone
    exact Does.of_run Dev.masterLost rfl hacts (Dev.masterLost_unheard hother hnone)

/-! ## The twin pair (R228, R230, R232, R234–R236, R241, R247) -/

/-- A message that has come changes nothing of the unit's place in its pair. -/
theorem Dev.twinGot_twin (d : Dev) : d.twinGot.twin = d.twin := Dev.twin_twinGot d

section
variable {d : Dev} {i : Nat}

theorem Dev.twinHbSend_due (hpaired : d.twin.role ≠ .alone) (hdue : ¬ d.now < d.twin.hbSentAt + us) (hsafe : d.flt.chipSafe = false)
    (hmode : d.twinMode ≠ 1) :
    d.twinHbSend =
      ((d.onTwin (fun t => { t with hbSeq := (t.hbSeq + 1) % 65536, hbSentAt := d.now })).twinData 1 1 1 d.hbBytes).twinData 2 1 1 d.hbBytes :=
  (if_neg (by simp [hpaired, hdue, hsafe])).trans (if_neg hmode)

/-- R228: a good heartbeat on path 1. -/
theorem Dev.twinHbReceive_path1 {h : TwinHeartbeat} (hpaired : d.twin.role ≠ .alone) (hcrc : h.crcOk = true) (hpath : h.path = 1) :
    d.twinHbReceive h =
      ((((d.twinGot.onTwin (fun t => { t with hb1 := some d.now, path1 := true, peerClaim := h.claim, peerRole := h.role, isolated := false })).noteClaim
        h.claim).noteJournal h).followClaim h).hearPeer h := by
  refine (if_neg (by simp [hpaired, hcrc])).trans ?_
  simp only [if_pos hpath]

/-- R130, R230: a standby applies the record that follows, or one more of the update last applied, and acknowledges it. -/
theorem Dev.replRecord_follows {n : Nat} {c : CellRec} (hrole : d.twin.role = .standby)
    (hfollows : n = d.twin.applied + 1 ∨ n = d.twin.applied) :
    d.replRecord n c =
      ((d.mirrorPut c).onTwin (fun t => { t with
        applied := max t.applied n, behindSince := if t.peerJournal ≤ n then none else t.behindSince })).sendTwin 2 (toBe 8 (max d.twin.applied n)) := by
  simp only [Dev.replRecord, hrole]
  exact if_neg (by simpa [← not_or] using hfollows)

/-- R230, R231: a unit that mirrors keeps the session copy it is sent. -/
theorem Dev.replSessionState_mirrors {c : SessionCopy} (hrole : d.twin.role = .standby ∨ d.twin.role = .syncing) :
    d.replSessionState i c =
      let d2 := ((d.onTwin (fun t => { t with copies := t.copies.ins i c, claim := max t.claim c.claim })).seeClaim c.claim).onSes i (fun x =>
        { x with safeNext := max x.safeNext c.safeNext, state := c.state })
      if c.state.live then d2.presealSafe i
      else d2.onSes i (fun x => { x with keys := none, nextKeys := none, upd := none, overlapEnd := none, safeSealed := none, safeLeft := 0 }) := by
  rcases hrole with hrole | hrole
  · simp only [Dev.replSessionState, hrole]
  · simp only [Dev.replSessionState, hrole]

/-- R179, R230: keys without a switch sequence take the place of the present ones. -/
theorem Dev.replKeysIn_replaces {k : SessionKeys} {r : Bytes} (hrole : d.twin.role = .standby ∨ d.twin.role = .syncing) :
    d.replKeysIn i k none r =
      (d.onSes i (fun x => { x with
        keys := some k, nextKeys := none, upd := none, overlapEnd := none, resume := if r.isEmpty then x.resume else some (d.resumeRecord i r),
        responder := !d.cfgB Od.ses_INITIATE i, state := if x.state.live then x.state else .opened })).presealSafe i := by
  rcases hrole with hrole | hrole
  · simp only [Dev.replKeysIn, hrole]
  · simp only [Dev.replKeysIn, hrole]

/-- R187, R230: the keys of an update wait beside the present ones until its switch sequence. -/
theorem Dev.replKeysIn_update {k old : SessionKeys} {n : Nat} (hrole : d.twin.role = .standby ∨ d.twin.role = .syncing)
    (hkeys : (d.ses i).keys = some old) :
    d.replKeysIn i k (some n) [] =
      (d.onSes i (fun x => { x with
        nextKeys := some k, overlapEnd := none, responder := !d.cfgB Od.ses_INITIATE i, state := if x.state.live then x.state else .opened,
        upd := some { gen := k.gen, switch := n, rebase := false, attempts := 1, sentAt := d.now, startedAt := d.now, replied := true } })).presealSafe i := by
  rcases hrole with hrole | hrole
  · simp [Dev.replKeysIn, hrole, Dev.onSes, hkeys]
  · simp [Dev.replKeysIn, hrole, Dev.onSes, hkeys]

theorem Dev.unjoinReceive_standby {c : Nat} (hrole : d.twin.role = .standby) :
    d.unjoinReceive c = (d.onTwin (fun t => { t with role := .stale, joined := false })).noteClaim c := by
  simp only [Dev.unjoinReceive, hrole]

/-- R236: what a standby that hears no one does is the raise of its claim, taken twice (R517). -/
theorem Dev.takeoverDue_silent {agree : Bool} (hsilent : d.silent = true) (hrole : d.twin.role = .standby) :
    d.takeoverDue agree = d.claimRaise agree Dev.takeOver := by
  simp only [Dev.takeoverDue, hrole]
  exact if_neg (by simp [hsilent])

theorem Dev.mirrorStale_due {since : Ticks} (hrole : d.twin.role = .standby) (hbehind : d.twin.behindSince = some since)
    (hdue : since + d.cfg Od.twn_DETECT_TIME 0 ≤ d.now) :
    d.mirrorStale = d.onTwin (fun t => { t with role := .stale, joined := false }) := by
  simp only [Dev.mirrorStale, hrole, hbehind, if_pos hdue]

/-- R241: isolation ends with the unit's claim still the highest and a heartbeat sent in every OPEN session. -/
theorem Dev.isolationConfirm_due (hisolated : d.twin.isolated = true)
    (hdue : d.twin.isolatedAt + d.cfg Od.twn_ISOLATION_CONFIRM 0 ≤ d.now) (hseen : d.twin.seen ≤ d.twin.claim)
    (hsent : d.net.sessions.all (fun e => e.2.state ≠ .opened || decide (d.twin.isolatedAt ≤ e.2.lastHbTx)) = true) :
    d.isolationConfirm = d.onTwin (fun t => { t with isolated := false }) := by
  refine if_pos ?_
  simp only [Bool.and_eq_true, decide_eq_true_eq]
  exact ⟨⟨⟨hisolated, hdue⟩, hseen⟩, hsent⟩

theorem Dev.pathLost_path1 {since : Ticks} (hlast : d.twin.hb1 = some since) (hup : d.twin.path1 = true)
    (hdue : since + d.cfg Od.twn_DETECT_TIME 0 ≤ d.now) :
    d.pathLost 1 = (d.onTwin (fun t => { t with path1 := false })).raise 21 0xFE 0xFFFF [1] := by
  simp [Dev.pathLost, hlast, hup, hdue]

end

/-- Settles O29: each unit has the role and the peer that its command is for; a message that has come leaves both as they are. -/
theorem twinPairComplete : Obligations.TwinPairComplete := by
  refine ⟨?send, ?receive, ?record, ?session, ?keys, ?update, ?unjoin, ?resync, ?takeover, ?disagree, ?stale, ?join, ?confirmed, ?dead,
    ?silence, ?path⟩
  case send =>
    intro s t d hacts hpaired hdue hsafe hmode
    exact Does.of_run Dev.twinHbSend rfl hacts (Dev.twinHbSend_due hpaired hdue hsafe hmode)
  case receive =>
    intro s h t d hacts hpaired hcrc hpath
    exact Does.of_run (fun d => d.twinHbReceive h) rfl hacts (Dev.twinHbReceive_path1 hpaired hcrc hpath)
  case record =>
    intro s n c t d hacts hrole hfollows
    rw [← d.twinGot_twin] at hrole hfollows
    exact Does.of_run (fun d => d.twinGot.replRecord n c) rfl hacts (Dev.replRecord_follows hrole hfollows)
  case session =>
    intro s i c t d hacts hrole
    rw [← d.twinGot_twin] at hrole
    exact Does.of_run (fun d => d.twinGot.replSessionState i c) rfl hacts (Dev.replSessionState_mirrors hrole)
  case keys =>
    intro s i k r t d hacts hrole
    rw [← d.twinGot_twin] at hrole
    exact Does.of_run (fun d => d.twinGot.replKeysIn i k none r) rfl hacts (Dev.replKeysIn_replaces hrole)
  case update =>
    intro s i k old n t d hacts hrole hkeys
    rw [← d.twinGot_twin] at hrole
    exact Does.of_run (fun d => d.twinGot.replKeysIn i k (some n) []) rfl hacts (Dev.replKeysIn_update hrole hkeys)
  case unjoin =>
    intro s claim reason t d hacts hrole
    rw [← d.twinGot_twin] at hrole
    exact Does.of_run (fun d => d.twinGot.unjoinReceive claim) rfl hacts (Dev.unjoinReceive_standby hrole)
  case resync =>
    intro s block half cells t d hacts hrole
    rw [← d.twinGot_twin] at hrole
    exact Does.of_run (fun d => d.twinGot.resync block half cells) rfl hacts (if_neg (not_not_intro hrole))
  case takeover =>
    intro s t d hacts hsilent hrole
    exact Does.of_run (fun d => d.takeoverDue true) rfl hacts (Dev.takeoverDue_silent hsilent hrole)
  case disagree =>
    intro s t d hacts hsilent hrole
    exact Does.of_run (fun d => d.takeoverDue false) rfl hacts (Dev.takeoverDue_silent hsilent hrole)
  case stale =>
    intro s since t d hacts hrole hbehind hdue
    exact Does.of_run Dev.mirrorStale rfl hacts (Dev.mirrorStale_due hrole hbehind hdue)
  case join =>
    intro s t d hacts hrole hdue
    exact Does.of_run (fun d => d.joinTime true) rfl hacts (if_pos (by simp [d, hrole, hdue]))
  case confirmed =>
    intro s t d hacts hisolated hdue hseen hsent
    exact Does.of_run Dev.isolationConfirm rfl hacts (Dev.isolationConfirm_due hisolated hdue hseen hsent)
  case dead =>
    intro s t d hacts hsafe
    exact Does.of_write Dev.peerDead rfl hacts hsafe rfl
  case silence =>
    intro s t d hacts hrole hsilent
    exact Does.of_run Dev.bothSilent rfl hacts (if_pos (by simp [d, hrole, hsilent]))
  case path =>
    intro s path since t d hacts hpath ⟨hlast, hup⟩ hdue
    subst hpath
    exact Does.of_run (fun d => d.pathLost 1) rfl hacts (Dev.pathLost_path1 hlast hup hdue)

/-! ## Yields and piers (R239, R244) -/

section
variable {d : Dev}

/-- R239: a unit that was asked to yield and has nothing left to replicate sends YIELD on both paths, with the instant 2 µs ahead. -/
theorem Dev.yieldGo_replicated (hasked : d.twin.yieldAsked = true) (hrole : d.twin.role = .active) (hacked : d.man.unackedAt = [])
    (hmode : d.twinMode ≠ 1) :
    d.yieldGo =
      let msg := toBe 4 d.twin.claim ++ timeBe (d.now + 2 * us)
      ((d.onTwin (fun t => { t with yieldAsked := false, yieldAt := some (d.now + 2 * us) })).twinData 1 2 6 msg).twinData 2 2 6 msg :=
  (if_neg (by simp [hasked, hrole, hacked])).trans (if_neg hmode)

/-- R239: with nothing left to replicate, the yield goes at once; that it was asked for is not seen afterwards. -/
theorem Dev.yieldNow_replicated (hrole : d.twin.role = .active) (hnone : d.twin.yieldAt = none) (hacked : d.man.unackedAt = [])
    (hmode : d.twinMode ≠ 1) :
    d.yieldNow =
      let msg := toBe 4 d.twin.claim ++ timeBe (d.now + 2 * us)
      ((d.onTwin (fun t => { t with yieldAsked := false, yieldAt := some (d.now + 2 * us) })).twinData 1 2 6 msg).twinData 2 2 6 msg :=
  (if_neg (by simp [hrole, hnone])).trans
    (Dev.yieldGo_replicated (d := d.onTwin (fun t => { t with yieldAsked := true })) rfl hrole hacked hmode)

theorem Dev.yieldReceive_standby {c : Nat} {y : Ticks} (hrole : d.twin.role = .standby) (hclaim : d.twin.claim ≤ c) :
    d.yieldReceive c y = d.onTwin (fun t => { t with yieldAt := some y }) :=
  if_pos (by simp [hrole, hclaim])

theorem Dev.yieldInstant_come {y : Ticks} {agree : Bool} (hrole : d.twin.role = .standby) (hyield : d.twin.yieldAt = some y)
    (hcome : y ≤ d.now) : d.yieldInstant agree = d.claimRaise agree Dev.takeOver := by
  simp only [Dev.yieldInstant, hrole, hyield, if_pos hcome]

theorem Dev.yieldFailed_due {y : Ticks} (hrole : d.twin.role = .active) (hyield : d.twin.yieldAt = some y) (hdue : y + us ≤ d.now) :
    d.yieldFailed =
      let d1 := d.onTwin (fun t => { t with yieldAt := none })
      let d2 := { d1 with lch.entries := d1.lch.entries.mapVals (fun _ e => if e.blocked && e.image.isPin then { e with blocked := false } else e) }
      (((List.range 32).foldl (fun e n => e.endPulses n) d2.runDue).retryBlocked).raise 21 0xFD 0xFFFF := by
  simp only [Dev.yieldFailed, hrole, hyield, if_pos hdue]

/-- R243, R244: a hot spare serves no slice: its retirement ends with its cores and access control entries, and no active unit
yields for it. -/
theorem Dev.pierRetire_spare {p cause : Nat} {excess : List Nat} {fin : Ticks} (hspare : (d.pier p).state = 1) (hcause : cause ≠ 0 ∧ cause ≤ 5)
    (hrole : d.fry.twin.role ≠ .active) :
    d.pierRetire p cause excess fin =
      let d2 := d.fault (0x080 + 5 * p + (cause - 1)) p none [(cause : Int)]
      let d3 := (({ d2 with fry.piers := d2.fry.piers.ins p { state := 2, cause := cause, logical := 31 } }).clearPierCores p).raise 22 0x56 p [(cause : Int)]
      { d3 with cpu.acu := d3.cpu.acu.filter (fun e => !(decide (8 * p ≤ e.1) && decide (e.1 < 8 * p + 8))) } := by
  obtain ⟨hnonzero, hlegal⟩ := hcause
  have hyields : ¬ (decide (d.fry.twin.role = .active) && d.cfgB Od.twn_YIELD_ON_PIER 0) = true := by simp [hrole]
  refine (if_neg (by simp [hspare, hnonzero, hlegal])).trans ((if_pos (by simp [hspare])).trans ?_)
  simp only [if_neg hyields]

end

/-- Settles O30: the unit's role and yield instant, or the pier's state, are those that each command is for. -/
theorem yieldsAndPiersComplete : Obligations.YieldsAndPiersComplete := by
  refine ⟨?yield, ?receive, ?instant, ?failed, ?retire⟩
  case yield =>
    intro s t d hacts hsafe hrole hnone hacked hmode
    exact Does.of_write Dev.yieldNow rfl hacts hsafe (Dev.yieldNow_replicated hrole hnone hacked hmode)
  case receive =>
    intro s claim y t d hacts hrole hclaim
    rw [← d.twinGot_twin] at hrole hclaim
    exact Does.of_run (fun d => d.twinGot.yieldReceive claim y) rfl hacts (Dev.yieldReceive_standby hrole hclaim)
  case instant =>
    intro s y t d hacts hrole hyield hcome
    exact Does.of_run (fun d => d.yieldInstant true) rfl hacts (Dev.yieldInstant_come hrole hyield hcome)
  case failed =>
    intro s y t d hacts hrole hyield hdue
    exact Does.of_run Dev.yieldFailed rfl hacts (Dev.yieldFailed_due hrole hyield hdue)
  case retire =>
    intro s p cause excess fin t d hacts hspare hcause hrole
    exact Does.of_run (fun d => d.pierRetire p cause excess fin) rfl hacts
      (Dev.pierRetire_spare hspare ⟨hcause, Nat.le_of_lt_succ cause.isLt⟩ hrole)

end Sys2Proof.Machine
end

section
/-!
SUPPORT. The object dictionary: the commands that are action writes, a command's effect from an arm that the Object Access
Protocol, minimal firmware or memory takes part in, the requests of the mailbox, and the statements about them.
-/
namespace Sys2Proof.Machine

/-! ## Action writes (R260) -/

/-- R260: a unit of a twin that does not hold the claim answers STANDBY. -/
theorem State.action_standby (s : State) (t : Ticks) (f : Dev → Dev) (hacts : s.dev.acts = true)
    (hsafe : (s.dev.at_ t).flt.chipSafe = false) (hstandby : (s.dev.at_ t).isStandby = true) :
    s.action t f = .next (s.withDev ((s.dev.at_ t).emit (.writeStatus 15)).settle) :=
  (State.write_acts s t _ hacts hsafe).trans (effect_congr s (if_pos hstandby))

/-- The arm of every action write is `State.action`. -/
theorem exec_eq_action {c : Instr} (s : State) (hc : c.acts = true) : ∃ f, exec c s = s.action c.time f := by
  unfold Instr.acts at hc
  split at hc
  case h_24 => cases hc -- a command that is no action write
  all_goals
    dsimp only [exec]
    exact ⟨_, rfl⟩

/-- Settles O7: every action write goes through `State.action`, which asks for the claim before it carries the write out. -/
theorem standbyAnswersStandby : Obligations.StandbyAnswersStandby := by
  intro c s hc hacts hsafe hstandby
  obtain ⟨f, harm⟩ := exec_eq_action s hc
  exact harm.trans (State.action_standby s c.time f hacts hsafe hstandby)

/-! ## A command's effect, from its arm and the arm's effect -/

section
variable {c : Instr} {s : State} {t : Ticks}

/-- A command whose arm is `State.boot`, on a device that runs, if only minimal or recovery firmware. -/
theorem Does.of_boot {f : Dev → Dev} (g : Dev → Dev) (harm : exec c s = s.boot t g) (hboots : s.dev.boots = true)
    (heff : g (s.dev.at_ t) = f (s.dev.at_ t)) : Does c s t f :=
  harm.trans ((State.boot_acts s t g hboots).trans (effect_congr s heff))

variable {f : State → State} (g : State → State)

/-- A command whose arm is `State.oap`, on a device that runs, if only minimal or recovery firmware. -/
theorem DoesAll.of_oap (harm : exec c s = s.oap t g) (hboots : s.dev.boots = true)
    (heff : g { s with dev := s.dev.at_ t } = f { s with dev := s.dev.at_ t }) : DoesAll c s t f :=
  harm.trans ((State.oap_acts s t g hboots).trans (effect_congr_all s.pending heff))

/-- A command whose arm is `State.runS`, on a device that acts. -/
theorem DoesAll.of_runS (harm : exec c s = s.runS t g) (hacts : s.dev.acts = true)
    (heff : g { s with dev := s.dev.at_ t } = f { s with dev := s.dev.at_ t }) : DoesAll c s t f :=
  harm.trans ((State.runS_acts s t g hacts).trans (effect_congr_all s.pending heff))

end

/-! ## Requests of the mailbox (R263, R264, R267, R271, R272) -/

section
variable {s : State} {mine : Bytes → Bool}

/-- An operation on the device alone is carried out, and answered at once. -/
theorem State.oapTake_serveDev (op : Dev → OapAsk → OapReply × Dev) (hasks : s.dev.asks mine = true) :
    s.oapTake .mailbox mine (serveDev op) =
      let r := op s.dev s.dev.mailAsk
      { s with dev := r.2.respond mailboxReq (oapHead s.dev.hif.mbox.request).op (oapHead s.dev.hif.mbox.request).id r.1 } :=
  s.oapTake_mailbox mine (serveDev op) hasks

/-- An operation that may reach memory is carried out, and answered at once. -/
theorem State.oapTake_serveState (op : State → OapAsk → OapReply × State) (hasks : s.dev.asks mine = true) :
    s.oapTake .mailbox mine (serveState op) =
      let r := op s s.dev.mailAsk
      r.2.onDev (fun d => d.respond mailboxReq (oapHead s.dev.hif.mbox.request).op (oapHead s.dev.hif.mbox.request).id r.1) :=
  s.oapTake_mailbox mine (serveState op) hasks

/-- ACTIVATE is answered at once where it has an answer; a chart switch that has begun is answered later. -/
theorem State.oapTake_serveActivate (hasks : s.dev.asks mine = true) :
    s.oapTake .mailbox mine serveActivate =
      match s.dev.oapActivate s.dev.mailAsk with
      | (some r, d1) => { s with dev := d1.respond mailboxReq (oapHead s.dev.hif.mbox.request).op (oapHead s.dev.hif.mbox.request).id r }
      | (none, d1) => { s with dev := d1 } := by
  refine (s.oapTake_mailbox mine serveActivate hasks).trans ?_
  rw [serveActivate]
  generalize s.dev.oapActivate s.dev.mailAsk = answer
  obtain ⟨_ | r, d1⟩ := answer <;> rfl

/-- R267: a due subscription of the mailbox reports to its notice queue and notes what it has reported. -/
theorem State.notify_mailbox {id : Nat} {x : Subscription}
    (hsub : s.dev.obj.subs.find? (fun x => x.requester == mailboxReq && x.reqId == id) = some x)
    (hsafe : s.dev.flt.chipSafe = false) (hdue : x.due s.dev.now (s.dev.subValues x) = true) :
    s.notify mailboxReq id =
      let d := s.dev
      let d1 : Dev := { d with obj.subs := d.obj.subs.map (fun z => if z.requester == mailboxReq && z.reqId == id then { z with lastAt := some d.now, lastVals := d.subValues x } else z) }
      { s with dev := d1.notifyQueue (d.cfgN Od.mbx_MB_NOTIFY_QUEUE 0) (notifyMessage id d.now (d.subValues x)) } := by
  simp only [State.notify, hsub, if_true]
  rw [if_neg (by simp [hsafe, hdue]), if_neg (by decide)]

/-- R260: a standby carries out an object write of its partner, unless the object is volatile or the write is not accepted. -/
theorem State.replicated_object {a : OdAddr} {value : Bytes} {env : WriteEnv} {r : OdRow}
    (hlisted : lookupObject a.index a.sub a.inst = .ok r) (hstandby : s.dev.isStandby = true) (hkept : r.persist ≠ .vol)
    (haccepted : (s.writeValue env .so r a 0 value).1 = 0) :
    s.replicated (.object a value) env = (s.writeValue env .so r a 0 value).2 := by
  simp only [State.replicated, hlisted]
  rw [if_neg (by simp [hstandby, hkept]), if_pos haccepted]

/-- R299: the doorbell of function 0 takes a request of a legal length into an idle mailbox. -/
theorem Dev.mbDoorbell_idle {d : Dev} {request : Bytes} (hidle : d.hif.mbox.busy = false)
    (hlength : ¬ request.length < 16 ∧ ¬ 16384 < request.length) :
    d.mbDoorbell 0 request = { d with hif.mbox := { busy := true, request := request, answer := none } } := by
  obtain ⟨hlong, hfits⟩ := hlength
  simp [Dev.mbDoorbell, hidle, hlong, hfits]

/-- R299: a prepared answer becomes the response. -/
theorem Dev.mbRespond_answered {d : Dev} {m : Bytes} (hbusy : d.hif.mbox.busy = true) (hanswer : d.hif.mbox.answer = some m) :
    d.mbRespond = ({ d with hif.mbox := { responseReady := true, response := m } }).raise 34 0x130 0xFFFF := by
  simp only [Dev.mbRespond, hbusy, hanswer]

end

/-- Settles O31: the request in the mailbox passes every test that precedes its operation, and each other command finds the
subscription, the mailbox or the object in the state it is for. -/
theorem objectAccessRequestsComplete : Obligations.ObjectAccessRequestsComplete := by
  refine ⟨?read, ?readBlock, ?write, ?writeBlock, ?subscribe, ?abort, ?store, ?switch, ?delete, ?notify, ?shadows, ?doorbell,
    ?response, ?replicated⟩
  case read =>
    intro s t d hboots hasks
    exact DoesAll.of_oap (fun s => s.oapTake .mailbox (opIs 1) (serveDev Dev.oapRead)) rfl hboots
      (State.oapTake_serveDev _ hasks)
  case readBlock =>
    intro s t d hboots hasks
    exact DoesAll.of_oap (fun s => s.oapTake .mailbox (opIs 3) (serveDev Dev.oapReadBlock)) rfl hboots
      (State.oapTake_serveDev _ hasks)
  case write =>
    intro s env t d hboots hasks
    exact DoesAll.of_oap (fun s => s.oapTake .mailbox (opIs 2) (serveState (fun s q => s.oapWrite env q))) rfl hboots
      (State.oapTake_serveState _ hasks)
  case writeBlock =>
    intro s env t d hboots hasks
    exact DoesAll.of_oap (fun s => s.oapTake .mailbox (opIs 4) (serveState (fun s q => s.oapWriteBlock env q))) rfl hboots
      (State.oapTake_serveState _ hasks)
  case subscribe =>
    intro s t d hboots hasks
    exact DoesAll.of_oap (fun s => s.oapTake .mailbox (opIs 5) (serveDev Dev.oapSubscribe)) rfl hboots
      (State.oapTake_serveDev _ hasks)
  case abort =>
    intro s t d hboots hasks
    exact DoesAll.of_oap (fun s => s.oapTake .mailbox (opIs 7) (serveDev Dev.oapAbort)) rfl hboots
      (State.oapTake_serveDev _ hasks)
  case store =>
    intro s t d hboots hasks
    exact DoesAll.of_oap (fun s => s.oapTake .mailbox (activateIs 1) serveActivate) rfl hboots
      (State.oapTake_serveActivate hasks)
  case switch =>
    intro s t d hboots hasks
    exact DoesAll.of_oap (fun s => s.oapTake .mailbox (activateIs 2) serveActivate) rfl hboots
      (State.oapTake_serveActivate hasks)
  case delete =>
    intro s t d hboots hasks
    exact DoesAll.of_oap (fun s => s.oapTake .mailbox (activateIs 3) serveActivate) rfl hboots
      (State.oapTake_serveActivate hasks)
  case notify =>
    intro s id x t d hboots hsub hsafe hdue
    exact DoesAll.of_oap (fun s => s.notify mailboxReq id) rfl hboots (State.notify_mailbox hsub hsafe hdue)
  case shadows =>
    intro s t hboots
    exact Does.of_boot Dev.dropShadows rfl hboots rfl
  case doorbell =>
    intro s request t d hboots hidle hlength
    exact Does.of_boot (fun d => d.mbDoorbell 0 request) rfl hboots (Dev.mbDoorbell_idle hidle hlength)
  case response =>
    intro s m t d hboots hbusy hanswer
    exact Does.of_boot Dev.mbRespond rfl hboots (Dev.mbRespond_answered hbusy hanswer)
  case replicated =>
    intro s a value env t r d hacts hlisted hstandby hkept haccepted
    exact DoesAll.of_runS (fun s => s.replicated (.object a value) env) rfl hacts
      (State.replicated_object hlisted hstandby hkept haccepted)

end Sys2Proof.Machine
end

section
/-!
SUPPORT. The host interface: a command's effect from an arm that reads memory, the registers of the vectors, and the statement
about the host's commands.
-/
namespace Sys2Proof.Machine

/-! ## A command's effect, from its arm and the arm's effect on the device -/

/-- A command whose arm is `State.runM`, on a device that acts. -/
theorem Does.of_runM {c : Instr} {s : State} {t : Ticks} {f : Dev → Dev} (g : Dev → (Nat → Nat → Bytes) → Dev)
    (harm : exec c s = s.runM t g) (hacts : s.dev.acts = true) (heff : g (s.dev.at_ t) (memRead s.mem) = f (s.dev.at_ t)) :
    Does c s t f :=
  harm.trans ((State.runM_acts s t g hacts).trans (effect_congr s heff))

/-! ## Failed DMA (R287) -/

section
variable {d : Dev} {q : Nat}

/-- R287: a descriptor that cannot be read, of an open queue with its work ring in host memory, stalls the queue. -/
theorem Dev.hostDmaError_descriptor (rd : Nat → Nat → Bytes) (hring : (d.queue q).isOpen = true ∧ (d.queue q).workChip = false)
    (hsubmitted : (d.queue q).devPos ≠ (d.queue q).hostPos ∧ d.delivers q = false) :
    d.hostDmaError rd q .descriptor = (d.dmaStallQueue q).dmaFailed q :=
  (if_neg (by simp [hring])).trans (if_neg (by simp [hring, hsubmitted]))

/-- R287: a descriptor whose body cannot be read is admitted without it, which refuses it. -/
theorem Dev.hostDmaError_body (rd : Nat → Nat → Bytes) (desc : Bytes) (hopen : (d.queue q).isOpen = true)
    (hsubmitted : (d.queue q).devPos ≠ (d.queue q).hostPos ∧ d.delivers q = false) :
    d.hostDmaError rd q (.body desc) = (d.admitNext rd q desc none).dmaFailed q :=
  (if_neg (by simp [hopen])).trans (if_neg (by simp [hsubmitted]))

/-- R285, R396: a write that the access check of its DMA channel refuses leaves the imprecise notice and stalls the queue. -/
theorem Dev.hostDmaError_write (rd : Nat → Nat → Bytes) (chan : Fin 32) (addr : Nat) (cause : Fin 256)
    (hopen : (d.queue q).isOpen = true) :
    d.hostDmaError rd q (.write chan addr cause) = ((d.noteImprecise (140 + chan) addr cause).dmaStallQueue q).dmaFailed q :=
  if_neg (by simp [hopen])

end

/-! ## Vectors and routes (R297, R302, R303) -/

section
variable {d : Dev}

/-- R297: a vector with a pending event fires once its count is reached or its time has passed. -/
theorem Dev.vectorFire_due {v : Nat} (hpending : (d.hif.vecs.get ({} : Vec) v).pending ≠ 0)
    (hdue : (d.hif.vecs.get ({} : Vec) v).count ≤ (d.hif.vecs.get ({} : Vec) v).pending ∨
      (d.hif.vecs.get ({} : Vec) v).firstAt + ((d.hif.vecs.get ({} : Vec) v).time * 100 : Int) * ns ≤ d.now) :
    d.vectorFire v = d.fireVec v :=
  (if_neg hpending).trans (if_pos (by simpa using hdue))

variable {pf src v : Nat}

/-- R302: word 0 of a route names vector and interrupt pin; a data function writes its own sources to its own vectors. -/
theorem Dev.routeWrite_vector (hown : pf = 0 ∨ (d.srcPf src = pf ∧ bitsOf v 12 11 = pf)) :
    d.routeWrite pf src 0 v = d.irqEdges (d.onHif (fun h =>
      { h with routes := h.routes.ins src (d.route src / 2 ^ 32 * 2 ^ 32 + (bitsOf v 13 0 + bitsOf v 19 16 * 65536)) })) := by
  refine if_neg ?_
  obtain hpf0 | ⟨hsrc, hvec⟩ := hown
  · simp [hpf0]
  · simp [hsrc, hvec]

/-- R303: word 1 of a route names a queue, which is an EVENT queue where EVQ_EN is set. -/
theorem Dev.routeWrite_queue (hown : pf = 0 ∨ d.srcPf src = pf)
    (hevent : bitOf v 14 = false ∨ d.cfg Od.que_CLASS (bitsOf v 13 0) = 2) :
    d.routeWrite pf src 1 v = d.irqEdges (d.onHif (fun h =>
      { h with routes := h.routes.ins src (d.route src % 2 ^ 32 + bitsOf v 14 0 * 2 ^ 32) })) := by
  refine if_neg ?_
  obtain hpf0 | hsrc := hown <;> obtain hoff | hclass := hevent
  · simp [hpf0, hoff]
  · simp [hpf0, hclass]
  · simp [hsrc, hoff]
  · simp [hsrc, hclass]

/-- R282, R302, R303: a route of a source that is not the writer's, to a vector that is not the writer's, or to a queue that is
no EVENT queue, is not written. -/
theorem Dev.routeWrite_denied {k : Fin 2} (hdenied : (pf ≠ 0 ∧ d.srcPf src ≠ pf) ∨ (pf ≠ 0 ∧ k = 0 ∧ bitsOf v 12 11 ≠ pf) ∨
      (k = 1 ∧ bitOf v 14 = true ∧ d.cfg Od.que_CLASS (bitsOf v 13 0) ≠ 2)) : d.routeWrite pf src k v = d.accessDenied pf := by
  refine if_pos ?_
  obtain ⟨hpf, hsrc⟩ | ⟨hpf, hk, hvec⟩ | ⟨hk, henabled, hclass⟩ := hdenied
  · simp [hpf, hsrc]
  · simp [hpf, hk, hvec]
  · simp [hk, henabled, hclass]

end

/-! ## Register writes (R282, R304, R305) -/

section
variable {pf n k word : Nat} (d : Dev) (rd : Nat → Nat → Bytes) (v : Nat)

/-- R304, R305: words 0 and 1 of EVT_VEC[n] lie at 0x40000 + 8n; a function reaches those of its own vectors. -/
theorem Dev.hifWrite_vec (hown : n < 8192 ∧ (pf = 0 ∨ n / 2048 = pf)) (hk : k < 2) :
    d.hifWrite pf (0x40000 + 8 * n + 4 * k) v = d.vecWrite n k v := by
  obtain ⟨hn, hreach⟩ := hown
  have hvec : (0x40000 + 8 * n + 4 * k - 0x40000) / 8 = n := by omega
  have hword : (0x40000 + 8 * n + 4 * k) % 8 / 4 = k := by omega
  refine (if_neg (by simp; omega)).trans ((if_pos (by simp; omega)).trans ?_)
  rw [hvec, hword]
  exact if_pos (by simpa using hreach)

/-- Block 30 of the register space holds the HIF and EVT registers, which every function may try to write. -/
theorem Dev.regWrite_hif (who : Nat) {off : Nat} (hblock : off / 0x80000 = 30) :
    d.regWrite rd (.host who) off v = (true, d.hifWrite who (off % 0x80000) v) :=
  (if_neg (by omega)).trans (if_pos hblock)

end

/-- R304, R305: word `k` of EVT_VEC[n] through BAR0, by PF0 or the function that owns the vector. -/
theorem Does.of_vecWrite {s : State} {pf : Fin 4} {word : Fin 16777216} {n k : Nat} {v : Word32} {t : Ticks} {f : Dev → Dev}
    (hacts : s.dev.acts = true) (hown : n < 8192 ∧ ((pf : Nat) = 0 ∨ n / 2048 = pf)) (hk : k < 2)
    (hword : (word : Nat) = (0xF40000 + 8 * n) / 4 + k) (heff : (s.dev.at_ t).vecWrite n k v.toNat = f (s.dev.at_ t)) :
    Does (.registerWrite pf (.bar0 word) v t) s t f := by
  have hoff : 4 * (word : Nat) % 0x80000 = 0x40000 + 8 * n + 4 * k := by omega
  have hwrite := Dev.regWrite_hif (s.dev.at_ t) (memRead s.mem) v.toNat pf (off := 4 * word) (by omega)
  rw [hoff, Dev.hifWrite_vec _ _ hown hk] at hwrite
  exact Does.of_runM (fun d rd => d.registerWrite rd pf (.bar0 word) v.toNat) rfl hacts
    ((congrArg Prod.snd hwrite).trans heff)

/-- Settles O32: each arm is its command's effect, in the state the command is for: a link that is up, a queue with work
submitted, a vector that is due, a route or a register that the writer may reach. -/
theorem hostInterfaceComplete : Obligations.HostInterfaceComplete := by
  refine ⟨?reset, ?busMaster, ?linkDown, ?linkUp, ?descriptor, ?body, ?write, ?fire, ?unmaskVector, ?unmaskFunction, ?returnToD0,
    ?pending, ?routeVector, ?routeQueue, ?routeDenied, ?hold, ?functionMask, ?count, ?time, ?response, ?total⟩
  case reset =>
    intro s f t hacts
    exact Does.of_run (fun d => d.flr f false) rfl hacts rfl
  case busMaster =>
    intro s f t hacts
    exact Does.of_run (fun d => d.flr f true) rfl hacts rfl
  case linkDown =>
    intro s t d hacts hup
    exact Does.of_run Dev.linkDown rfl hacts (if_pos hup)
  case linkUp =>
    intro s width speed t hacts
    exact Does.of_run (fun d => d.linkUp width speed) rfl hacts rfl
  case descriptor =>
    intro s q t d hacts hring hsubmitted
    exact Does.of_runM (fun d rd => d.hostDmaError rd q .descriptor) rfl hacts (Dev.hostDmaError_descriptor _ hring hsubmitted)
  case body =>
    intro s q desc t d hacts hopen hsubmitted
    exact Does.of_runM (fun d rd => d.hostDmaError rd q (.body desc)) rfl hacts (Dev.hostDmaError_body _ desc hopen hsubmitted)
  case write =>
    intro s q chan addr cause t d hacts hopen
    exact Does.of_runM (fun d rd => d.hostDmaError rd q (.write chan addr cause)) rfl hacts
      (Dev.hostDmaError_write _ chan addr cause hopen)
  case fire =>
    intro s v t d x hacts hpending hdue
    exact Does.of_run (fun d => d.vectorFire v) rfl hacts (Dev.vectorFire_due hpending hdue)
  case unmaskVector =>
    intro s v t hacts
    exact Does.of_run (fun d => d.vectorUnmask (.vector v)) rfl hacts rfl
  case unmaskFunction =>
    intro s f t hacts
    exact Does.of_run (fun d => d.vectorUnmask (.function f)) rfl hacts rfl
  case returnToD0 =>
    intro s f t hacts
    exact Does.of_run (fun d => d.vectorUnmask (.d0 f)) rfl hacts rfl
  case pending =>
    intro s pf w v t hacts
    exact Does.of_run (fun d => d.evtPendingClear pf w v.toNat) rfl hacts rfl
  case routeVector =>
    intro s pf src v t d hacts hown
    exact Does.of_run (fun d => d.routeWrite pf src 0 v.toNat) rfl hacts (Dev.routeWrite_vector hown)
  case routeQueue =>
    intro s pf src v t d hacts hown hevent
    exact Does.of_run (fun d => d.routeWrite pf src 1 v.toNat) rfl hacts (Dev.routeWrite_queue hown hevent)
  case routeDenied =>
    intro s pf src k v t d hacts hdenied
    exact Does.of_run (fun d => d.routeWrite pf src k v.toNat) rfl hacts (Dev.routeWrite_denied hdenied)
  case hold =>
    intro s f t hacts
    exact Does.of_run (fun d => d.toD3hot f) rfl hacts rfl
  case functionMask =>
    intro s pf v t hacts
    exact Does.of_runM (fun d rd => d.registerWrite rd pf .functionMask v.toNat) rfl hacts rfl
  case count =>
    intro s pf word n v t hacts hown hword
    exact Does.of_vecWrite (k := 0) hacts hown (by decide) hword rfl
  case time =>
    intro s pf word n v t hacts hown hword
    exact Does.of_vecWrite (k := 1) hacts hown (by decide) hword rfl
  case response =>
    intro s v t hacts hbit
    exact Does.of_runM (fun d rd => d.registerWrite rd 0 (.bar4 1) v.toNat) rfl hacts (if_pos (by simp [hbit]))
  case total =>
    intro s pf r v t hacts
    exact ⟨_, State.runM_acts s t (fun d rd => d.registerWrite rd pf r v.toNat) hacts⟩

end Sys2Proof.Machine
end

section
/-!
SUPPORT. Every command keeps memory in its canonical form and leaves no memory write undone; the statements on one step and on
the state after reset.
-/
namespace Sys2Proof.Machine

/-! ## What each way of reaching the device keeps -/

/-- What every command does: `Kept`, and no memory write of the device is left to be made where none was before it. -/
structure KeptClean (s : State) (o : Host.Outcome State Fault Refusal) : Prop extends Kept s o where
  writesMade : ∀ e, o = .next e → s.dev.bufOut = [] → e.dev.bufOut = []

theorem KeptClean.of_kept {s x : State} (hkept : Kept s (.next x)) (hmade : s.dev.bufOut = [] → x.dev.bufOut = []) :
    KeptClean s (.next x) :=
  ⟨hkept, fun _ he => by cases he; exact hmade⟩

theorem KeptClean.of_next {s x : State} (hinv : s.inv = true → x.inv = true) (hqueue : x.pending = s.pending)
    (hmade : s.dev.bufOut = [] → x.dev.bufOut = []) : KeptClean s (.next x) :=
  .of_kept (.of_next hinv hqueue) hmade

/-- Whether a device acts or lets the command pass, no write is left. -/
theorem KeptClean.of_ite {s x y : State} {c : Prop} [Decidable c] (hkept : Kept s (.next (if c then x else y)))
    (hx : s.dev.bufOut = [] → x.dev.bufOut = []) (hy : s.dev.bufOut = [] → y.dev.bufOut = []) :
    KeptClean s (.next (if c then x else y)) := by
  refine .of_kept hkept (fun hs => ?_)
  split
  · exact hx hs
  · exact hy hs

/-- Both halves of the invariant of every step are kept. -/
theorem KeptClean.clean {s e : State} {o : Host.Outcome State Fault Refusal} (h : KeptClean s o) (hs : s.clean = true)
    (he : o = .next e) : e.clean = true := by
  simp only [State.clean, Bool.and_eq_true, List.isEmpty_iff] at hs ⊢
  exact ⟨h.inv e he hs.1, h.writesMade e he hs.2⟩

section
variable (s : State) {t : Ticks}

section
variable {f : Dev → Dev}

theorem State.run_keptClean : KeptClean s (s.run t f) := .of_ite (s.run_kept t f) (fun _ => rfl) (fun h => h)

theorem State.write_keptClean : KeptClean s (s.write t f) := s.run_keptClean

theorem State.action_keptClean : KeptClean s (s.action t f) := s.write_keptClean

theorem State.work_keptClean : KeptClean s (s.work t f) := s.run_keptClean

theorem State.boot_keptClean : KeptClean s (s.boot t f) := .of_ite (s.boot_kept t f) (fun _ => rfl) (fun h => h)

theorem State.bootWrite_keptClean : KeptClean s (s.bootWrite t f) := s.boot_keptClean

theorem State.watch_keptClean : KeptClean s (s.watch t f) := .of_ite (s.watch_kept t f) (fun h => h) (fun _ => rfl)

theorem State.tap_keptClean (hf : ∀ d : Dev, (f d).bufOut = d.bufOut) : KeptClean s (s.tap t f) :=
  .of_ite (s.tap_kept t f) (fun h => h) (fun h => (hf _).trans h)

theorem State.tagRun_keptClean (hf : ∀ d : Dev, (f d).bufOut = d.bufOut) : KeptClean s (s.tagRun t f) :=
  .of_kept (s.tagRun_kept t f) (fun h => (hf _).trans h)

end

section
variable {f : Dev → (Nat → Nat → Bytes) → Dev}

theorem State.runM_keptClean : KeptClean s (s.runM t f) := s.run_keptClean

theorem State.offerWith_keptClean : KeptClean s (s.offerWith t f) := by
  unfold State.offerWith
  split
  · exact .of_next (s.withDev_inv _) rfl (fun _ => rfl)
  · exact s.runM_keptClean

end

section
variable {f : State → State} (hf : ∀ x : State, x.inv = true → (f x).inv = true)
include hf

theorem State.runS_keptClean : KeptClean s (s.runS t f) := .of_ite (s.runS_kept t f hf) (fun _ => rfl) (fun h => h)

theorem State.oap_keptClean : KeptClean s (s.oap t f) := .of_ite (s.oap_kept t f hf) (fun _ => rfl) (fun h => h)

theorem State.runDh_keptClean {n : Nat} {w : List DhWord} : KeptClean s (s.runDh t n w f) :=
  .of_ite (s.runDh_kept t n w f hf) (fun _ => rfl) (fun h => h)

theorem State.runPu_keptClean {p : Nat} {pre body : Bytes} : KeptClean s (s.runPu t p pre body f) :=
  .of_ite (s.runPu_kept t p pre body f hf) (fun _ => rfl) (fun h => h)

end

end

/-! ## The tag logic writes no memory (R539–R547) -/

section
variable (d : Dev)

@[simp] theorem Dev.setVharv_bufOut (on : Bool) : (d.setVharv on).bufOut = d.bufOut := by
  unfold Dev.setVharv
  split <;> rfl

@[simp] theorem Dev.putTagSlot_bufOut (p k : Nat) (x : TagSlot) : (d.putTagSlot p k x).bufOut = d.bufOut := rfl

@[simp] theorem Dev.tagCommit_bufOut (p wsn : Nat) (mac data : Bytes) : (d.tagCommit p wsn mac data).bufOut = d.bufOut := by
  unfold Dev.tagCommit
  extract_lets k d1 o
  split <;> rfl

theorem Dev.vharvRecover_bufOut : d.vharvRecover.bufOut = d.bufOut := by
  unfold Dev.vharvRecover
  split
  · simp
  · rfl

theorem Dev.tagActivation_bufOut : d.tagActivation.bufOut = d.bufOut := by
  unfold Dev.tagActivation
  split
  · rfl
  · simp

theorem Dev.tagGetInfo_bufOut (inf : Bytes) : (d.tagGetInfo inf).bufOut = d.bufOut := by
  unfold Dev.tagGetInfo
  split
  · rfl
  · split <;> rfl

theorem Dev.tagRead_bufOut (fields : Bytes) : (d.tagRead fields).bufOut = d.bufOut := by
  unfold Dev.tagRead
  extract_lets p n
  repeat' split
  all_goals rfl

theorem Dev.tagWrite_bufOut (p wsn : Nat) (data mac : Bytes) (energy : Bool) :
    (d.tagWrite p wsn data mac energy).bufOut = d.bufOut := by
  unfold Dev.tagWrite
  split
  · rfl
  · split
    · rfl
    · split <;> simp

theorem Dev.tagFieldLoss_bufOut (w : Option (Nat × Nat × Bytes × Bytes × TagCut)) : (d.tagFieldLoss w).bufOut = d.bufOut := by
  unfold Dev.tagFieldLoss
  extract_lets off
  have hoff : ∀ y : Dev, (off y).bufOut = y.bufOut := fun y => Dev.setVharv_bufOut y false
  split
  · rfl
  · split
    · exact hoff d
    · split
      · exact hoff d
      · extract_lets k new
        split <;> exact hoff _

end

/-! ## Every command -/

/-- Every command reaches the device in one of the ways above. -/
theorem exec_keptClean (c : Instr) (s : State) : KeptClean s (exec c s) := by
  unfold exec
  cases c with
  | bearingEdge | indexPulse | ssiSample | mainsCrossing | wireFault | rateFault | edgeTimeout | coastExpired
  | bearingDrainDone | calCaptureDone | bearingPublish | bearingFrameReceive | ferryBearingSample | cardRemoved | opiChange
  | discTime | cardOvercurrent | cipLock | cipKeyh | cipKeyLoaded | cipGcmSeal | cipGcmOpen | cipCtr | cipCmacGen
  | cipCmacVerify | cipherSelftest | cipherLockHeld | hshJqTail | hshCqHead | hashJobDone | hashSelftest | laneStop
  | laneWatchdog | pairedLaneLag | releaseHold | releaseSafe | ferryTrainingTimeout | ferryPortUp | ferryNak | ferryIdle
  | ferryIdleSend | ferryResendTimeout | ferryDown | ferryTimeSend | ferryTimeExchange | masterLost | twinHeartbeatSend
  | twinHeartbeatReceive | replRecord | replSessionState | replKeys | unjoin | resync | takeover | mirrorStale | joinTime
  | yieldReceive | yieldInstant | yieldFailed | isolationConfirm | bothPathsSilent | heartbeatPathLost | pierRetire
  | flashEraseRoundDone | flashScrub | passwordLockoutEnd | flsWearSel | flr | pcieLinkDown | pcieLinkUp | vectorFire
  | vectorUnmask | evtPendingClear | evtRouteWrite | d3hot | bgnLock | bgnSlot | bgnAdd | bgnSub | bgnMul | toMont | fromMont
  | bgnInv | bgnExp | expBlind | bgnCopy | setMod | bgnRandom | loadKey | storeKey | bnJobDone | rngSeedReady | rngHealthFail
  | rngGroupRetest | rngClientReseed | launchCommit | frameSeal | launchAction | pulseEnd | pinSense | pinDrainDone
  | pinRecalCheck | pinRecalDone | lchEntrySel | overlayPrepare | overlayAnswer | overlayDecide | overlayDecisionReceive
  | lateTolPassed | portLink | timeSyncMessage | syncLoss | holdoverLimit | ppsOut | setupOpen | setupAnswer | setupConfirm
  | setupRefuse | setupTimeout | setupRetransmit | cmdReceive | ackReceive | nackReceive | dataReceive | streamReceive
  | safeReceive | heartbeatReceive | claimReceive | keyupdReceive | jqueryReceive | heartbeatSend | hbTimeout | retxTime
  | keyupdRetry | keyOverlap | rebaseStart | rebaseTimeout | safeRepeat | streamGap | epochClose | epochSealed | certIssued
  | certificateExpiry | ppsIn | powerEpoch | demandSend | demandReceive | shareSet | shareStale | modelsMeasured
  | impreciseNotice | dbSub | dbCpl | mirrorAck | queueDispatch | itemExpiry | confirmTimeout | queRingCfg | queueDrainDone
  | replicationTimeout | manifestScrub | holdupOkFall | holdupOkRise | startComplete | warmReset | saveAreaEraseDone
  | chartSwitchInstant => exact s.run_keptClean
  | positionSet | calCapture | tagPage | yield | peerDead | dataWrite | eraseSector | setPassword | unlockRegion | lockRegion
  | bnJob | keyGenerate | keyImport | keyRestrict | keyDestroy | shutdown => exact s.write_keptClean
  | bearingEnable | bearingDisable | clsEnable | permitRequest | revoke | clearInDoubt | cipherEnable | laneEnable
  | ferryPortEnable | release | cancel | pinEnable | pinDisable | portEnable | rekey | safeSend | reopen | sessionEnable
  | streamEnable | certRequest | cancelSeq | queueEnable | queueDisable => exact s.action_keptClean
  | clsPing | clsPoll | rfGrant | rfStarved | presenceCheck | cardArrived | cardDetect | atrReceive | atrTimeout | ppsAnswer
  | t1BlockReceive | bwtTimeout | kolzelSelect | kolzelIdentify | kolzelAuthenticate | recordGrant | journalQuery
  | permitExpiry | fwtTimeout | acuRgnAttr | acuImpreciseClear => exact s.work_keptClean
  | cipherJobDone | hshRingCfg | hashSha256 | hashHmac | hkdfExtract | hkdfExpand | slhSign | slhVerify | hostDmaError
  | registerWrite => exact s.runM_keptClean
  | fcuFaultn | fcuActive | mergeWindow | faultnMinLow | extFault | monitorArm | lcNonce | nonceExpiry | lcTransitionReset
  | dbgAuth | debugExpiry | attestDone | shadowExpiry | mbDoorbell | mbResponse | restart => exact s.boot_keptClean
  | lcTransition | lcAnchors | lcChain | birthCert | attestChallenge => exact s.bootWrite_keptClean
  | supplyGlitch | slowSupply | clockGlitch | refclkLoss | temperatureHigh | temperatureLow | shieldEvent | resetNAssert
  | resetNRelease | vddAonLoss | powerFail | saveComplete => exact s.watch_keptClean
  | itemAdmit => exact s.offerWith_keptClean
  | powerOn => exact .of_next (s.withDev_inv _) rfl (fun _ => rfl)
  | tagGetInfo => exact s.tagRun_keptClean (fun d => d.tagGetInfo_bufOut _)
  | tagRead => exact s.tagRun_keptClean (fun d => d.tagRead_bufOut _)
  | tagWrite => exact s.tagRun_keptClean (fun d => d.tagWrite_bufOut _ _ _ _ _)
  | tagFieldLoss => exact s.tagRun_keptClean (fun d => d.tagFieldLoss_bufOut _)
  | tagActivation => exact s.tagRun_keptClean (fun d => d.tagActivation_bufOut)
  | vharvRecover => exact s.tagRun_keptClean (fun d => d.vharvRecover_bufOut)
  | bypass | idcode | samplePreload | extest => exact s.tap_keptClean (fun _ => rfl)
  | oapRead | oapReadBlock | oapSubscribe | oapAbort =>
    exact s.oap_keptClean (fun x hx => x.oapTake_inv _ _ _ (serveDev_keeps _) hx)
  | oapWrite =>
    exact s.oap_keptClean (fun x hx => x.oapTake_inv _ _ _ (serveState_keeps _ (fun y _ hy => y.oapWrite_inv _ _ hy)) hx)
  | oapWriteBlock =>
    exact s.oap_keptClean (fun x hx => x.oapTake_inv _ _ _ (serveState_keeps _ (fun y _ hy => y.oapWriteBlock_inv _ _ hy)) hx)
  | activateStore | activateChartSwitch | activateDelete =>
    exact s.oap_keptClean (fun x hx => x.oapTake_inv _ _ _ serveActivate_keeps hx)
  | notify => exact s.oap_keptClean (fun x hx => x.notify_inv _ _ hx)
  | dhProductComplete => exact s.runS_keptClean (fun x hx => hx)
  | dhEventException => exact s.runS_keptClean (fun x hx => x.dhEvent_inv _ hx)
  | replicatedWrite => exact s.runS_keptClean (fun x hx => x.replicated_inv _ _ hx)
  | puInterrupt => exact s.runS_keptClean (fun x hx => x.puInterrupt_inv _ _ hx)
  | svcWaitTimeout => exact s.runS_keptClean (fun x hx => x.waitTimeout_inv _ hx)
  | taskEnable => exact s.runS_keptClean (fun x hx => x.objectWrite_inv _ (x.taskEnable_inv _ _ hx) hx)
  | taskSlice => exact s.runS_keptClean (fun x hx => x.taskSlice_inv _ _ hx)
  | fetchFault => exact s.runS_keptClean (fun x hx => x.fetchFault_inv _ hx)
  | dhIllegalOpcode =>
    refine s.runS_keptClean (fun x hx => ?_)
    split
    · exact x.deckhand_inv _ _ _ _ (fun _ hy => hy) hx
    · exact hx
  | puProductComplete =>
    refine s.runS_keptClean (fun x hx => ?_)
    split <;> exact hx
  | puIllegalOpcode =>
    refine s.runS_keptClean (fun x hx => ?_)
    split
    · exact x.puIllegalAt_inv _ _ _ hx
    · exact hx
  | dhMov | dhAdd | dhSub | dhAdc | dhSbc | dhAnd | dhOr | dhXor | dhCmp | dhTst | dhLsl | dhLsr | dhAsr | dhRor | dhMulu
  | dhMuls | dhShi | dhRdfeat | dhBsw16 | dhBsw32 => exact s.runDh_keptClean (fun x hx => x.dhReg_inv _ _ _ _ hx)
  | dhBr | dhCall => exact s.runDh_keptClean (fun x hx => x.dhBranch_inv _ _ _ _ hx)
  | dhJr | dhCallr | dhRet => exact s.runDh_keptClean (fun x hx => x.dhJump_inv _ _ _ hx)
  | dhTret => exact s.runDh_keptClean (fun x hx => x.dhTret_inv _ hx)
  | dhWait => exact s.runDh_keptClean (fun x hx => x.dhWait_inv _ hx)
  | dhSkcc => exact s.runDh_keptClean (fun x hx => x.dhSkip_inv _ _ hx)
  | dhLoop => exact s.runDh_keptClean (fun x hx => x.dhLoop_inv _ _ _ _ hx)
  | dhLdb | dhLdh | dhLdw => exact s.runDh_keptClean (fun x hx => x.dhLd_inv _ _ _ _ _ hx)
  | dhStb | dhSth | dhStw => exact s.runDh_keptClean (fun x hx => x.dhSt_inv _ _ _ _ _ _ hx)
  | dhMfs => exact s.runDh_keptClean (fun x hx => x.dhMfsI_inv _ _ _ hx)
  | dhMts => exact s.runDh_keptClean (fun x hx => x.dhMtsI_inv _ _ _ _ hx)
  | dhFence => exact s.runDh_keptClean (fun x hx => x.dhFence_inv _ _ hx)
  | qpost => exact s.runDh_keptClean (fun x hx => x.dhQpost_inv _ _ _ hx)
  | lpost => exact s.runDh_keptClean (fun x hx => x.dhLpost_inv _ _ _ hx)
  | qtake => exact s.runDh_keptClean (fun x hx => x.dhQtake_inv _ _ _ hx)
  | qconf => exact s.runDh_keptClean (fun x hx => x.dhQconf_inv _ _ _ hx)
  | qrej => exact s.runDh_keptClean (fun x hx => x.dhQrej_inv _ _ _ hx)
  | ftake => exact s.runDh_keptClean (fun x hx => x.dhFtake_inv _ _ _ hx)
  | fdone => exact s.runDh_keptClean (fun x hx => x.dhFdone_inv _ _ _ hx)
  | ffwd => exact s.runDh_keptClean (fun x hx => x.dhFfwd_inv _ _ _ hx)
  | bvrd => exact s.runDh_keptClean (fun x hx => x.dhBvrd_inv _ _ _ hx)
  | clock => exact s.runDh_keptClean (fun x hx => x.dhClock_inv _ _ _ hx)
  | cfree => exact s.runDh_keptClean (fun x hx => x.dhCfree_inv _ _ _ hx)
  | levt => exact s.runDh_keptClean (fun x hx => x.dhLevt_inv _ _ _ hx)
  | wdog => exact s.runDh_keptClean (fun x hx => x.dhWdog_inv _ _ hx)
  | dhMovi | dhAddi | dhCmpi =>
    refine s.runDh_keptClean (fun x hx => x.dhLimm_inv _ _ _ _ (fun _ hy => ?_) hx)
    exact hy
  | dhNop | dhSnap =>
    refine s.runDh_keptClean (fun x hx => x.deckhand_inv _ _ _ _ (fun _ hy => ?_) hx)
    exact hy
  | dhMovs =>
    refine s.runDh_keptClean (fun x hx => x.dhBlock_inv _ _ _ _ _ _ (dhMovsStep_inv _) (fun _ hy => ?_) hx)
    exact hy
  | dhFils =>
    refine s.runDh_keptClean (fun x hx => x.dhBlock_inv _ _ _ _ _ _ (dhFilsStep_inv _ _) (fun _ hy => ?_) hx)
    exact hy
  | dhCmps =>
    refine s.runDh_keptClean (fun x hx => x.dhBlock_inv _ _ _ _ _ _ (dhCmpsStep_inv _) (fun _ hy => ?_) hx)
    exact hy
  | dhScns =>
    refine s.runDh_keptClean (fun x hx => x.dhBlock_inv _ _ _ _ _ _ (dhScnsStep_inv _ _) (fun _ hy => ?_) hx)
    exact hy
  | dhCrcs =>
    refine s.runDh_keptClean (fun x hx => x.dhBlock_inv _ _ _ _ _ _ (dhCrcsStep_inv _ _) (fun _ hy => ?_) hx)
    exact hy
  | dhSums =>
    refine s.runDh_keptClean (fun x hx => x.dhBlock_inv _ _ _ _ _ _ (dhSumsStep_inv _ _) (fun _ hy => ?_) hx)
    exact hy
  | puTret => exact s.runPu_keptClean (fun x hx => x.puTret_inv _ hx)
  | puWait => exact s.runPu_keptClean (fun x hx => x.puWait_inv _ hx)
  | puFence => exact s.runPu_keptClean (fun x hx => x.puFence_inv _ hx)
  | puTsw => exact s.runPu_keptClean (fun x hx => x.puTsw_inv _ _ hx)
  | puSnap | puMulu | puMuls | puNeg | puNot | puLea | puBswap | puClz | puPopc | puSelz | puSext | puZext =>
    exact s.runPu_keptClean (fun x hx => x.puReg_inv _ _ _ _ _ hx)
  | puMov | puAdd | puSub | puAdc | puSbc | puAnd | puOr | puXor | puCmp | puTst | puLsl | puLsr | puAsr | puRor =>
    exact s.runPu_keptClean (fun x hx => x.puAlu_inv _ _ _ _ _ hx)
  | puMovi | puAddi | puSubi | puAndi | puOri | puXori | puCmpi | puTsti =>
    exact s.runPu_keptClean (fun x hx => x.puAlui_inv _ _ _ _ _ hx)
  | puLsli | puLsri | puAsri | puRori => exact s.runPu_keptClean (fun x hx => x.puShift_inv _ _ _ _ _ hx)
  | puLd | puLds => exact s.runPu_keptClean (fun x hx => x.puLd_inv _ _ _ _ _ _ _ hx)
  | puSt => exact s.runPu_keptClean (fun x hx => x.puSt_inv _ _ _ _ _ _ hx)
  | puBr => exact s.runPu_keptClean (fun x hx => x.puBr_inv _ _ _ hx)
  | puCall => exact s.runPu_keptClean (fun x hx => x.puCall_inv _ _ _ _ hx)
  | puJr => exact s.runPu_keptClean (fun x hx => x.puJr_inv _ _ _ hx)
  | puCallr => exact s.runPu_keptClean (fun x hx => x.puCallr_inv _ _ _ _ hx)
  | puRet => exact s.runPu_keptClean (fun x hx => x.puRet_inv _ _ _ hx)
  | puPush => exact s.runPu_keptClean (fun x hx => x.puPushI_inv _ _ _ hx)
  | puPop => exact s.runPu_keptClean (fun x hx => x.puPopI_inv _ _ _ hx)
  | puSkcc => exact s.runPu_keptClean (fun x hx => x.puSkip_inv _ _ _ hx)
  | puMfs => exact s.runPu_keptClean (fun x hx => x.puMfs_inv _ _ _ _ hx)
  | puMts => exact s.runPu_keptClean (fun x hx => x.puMts_inv _ _ _ hx)
  | puMovs => exact s.runPu_keptClean (fun x hx => x.puMovs_inv _ _ _ hx)
  | puRnd => exact s.runPu_keptClean (fun x hx => x.puRnd_inv _ _ hx)
  | svcYield => exact s.runPu_keptClean (fun x hx => x.svcYield_inv _ hx)
  | svcExit => exact s.runPu_keptClean (fun x hx => x.svcExit_inv _ hx)
  | svcWait => exact s.runPu_keptClean (fun x hx => x.svcWait_inv _ hx)
  | signalLane => exact s.runPu_keptClean (fun x hx => x.svcSignalLane_inv _ hx)
  | taskEvent => exact s.runPu_keptClean (fun x hx => x.svcTaskEvent_inv _ hx)
  | svcRandom => exact s.runPu_keptClean (fun x hx => x.svcRandom_inv _ hx)
  | svcOtherCode => exact s.runPu_keptClean (fun x hx => x.svcOther_inv _ _ hx)
  | svcOap => exact s.runPu_keptClean (fun x hx => x.svcOap_inv _ _ hx)
  | puNop =>
    refine s.runPu_keptClean (fun x hx => x.purser_inv _ _ _ _ _ (fun _ hy => ?_) hx)
    exact hy
  | puMadd | puMand | puMor | puMxor | puXchg | puCas => exact s.runPu_keptClean (fun x hx => x.puRmw_inv _ _ _ _ _ _ hx)
  | puFils =>
    refine s.runPu_keptClean (fun x hx => x.puBlock_inv _ _ _ _ _ _ _ _ (puFilsStep_inv _ _) (fun _ hy => ?_) hx)
    exact hy
  | puCmps =>
    refine s.runPu_keptClean (fun x hx => x.puBlock_inv _ _ _ _ _ _ _ _ (puCmpsStep_inv _ _) (fun _ hy => ?_) hx)
    exact hy
  | puScns =>
    refine s.runPu_keptClean (fun x hx => x.puBlock_inv _ _ _ _ _ _ _ _ (puScnsStep_inv _ _) (fun _ hy => ?_) hx)
    exact hy
  | puCrcs =>
    refine s.runPu_keptClean (fun x hx => x.puBlock_inv _ _ _ _ _ _ _ _ (puCrcsStep_inv _ _ _) (fun _ hy => ?_) hx)
    exact hy

theorem step_clean (s e : State) (hs : s.clean = true) (he : step s = .next e) : e.clean = true := by
  unfold step at he
  split at he
  · cases he
    exact hs
  · next c rest _ => exact (exec_keptClean c { s with pending := rest }).clean hs he

/-- Settles O4: an empty queue leaves the state, and every command keeps memory canonical and makes its writes. -/
theorem memoryCanonicalKept : Obligations.MemoryCanonicalKept := step_clean

/-! ## The state after reset -/

/-- Settles O5: the state after reset lists no byte, no core, no pin, no entry, no item and no permit. -/
theorem resetHolds : Obligations.ResetHolds := by
  have hregs : ∀ n (r : Fin 16), (State.reset.dev.dh n).get r = 0 ∧ (State.reset.dev.pu n).get r = 0 := fun n r =>
    ⟨congrArg BitVec.toNat (Vector.getElem_replicate r.isLt), congrArg BitVec.toNat (Vector.getElem_replicate r.isLt)⟩
  exact ⟨rfl, rfl, rfl, fun _ => rfl, fun _ => rfl, fun _ => rfl, hregs, fun _ => rfl, fun _ => rfl, rfl, fun _ => rfl, rfl⟩

end Sys2Proof.Machine
end

section
/-!
SUPPORT. A deckhand's instructions: a command's effect from its arm and the instruction's own work, and the statements about
arithmetic, immediates and control, memory and registers, and block operations.
-/
namespace Sys2Proof.Machine

/-! ## The lane that executes an instruction -/

section
variable {d : Dev} {n : Nat} {w : List DhWord}

theorem Dev.dhReads_iff : d.dhReads n w = true ↔ d.dhReady n w.length = true ∧ d.dhHolds n w = true := by
  simp [Dev.dhReads]

/-- A lane that executes an instruction's words is ready for as many. -/
theorem Dev.dhReady_of_reads {len : Nat} (hreads : d.dhReads n w = true) (hlen : w.length = len) : d.dhReady n len = true :=
  hlen ▸ (Dev.dhReads_iff.mp hreads).1

end

section
variable (x : State) (n : Nat)

/-- Before an instruction's work only the shadow of a skip ends. -/
theorem State.dhFresh_dh : (x.dhFresh n).dev.dh n = { x.dev.dh n with shadow := false } := by
  simp [State.dhFresh]

@[simp] theorem State.dhFresh_get (r : Fin 16) : ((x.dhFresh n).dev.dh n).get r = (x.dev.dh n).get r := by
  rw [State.dhFresh_dh]
  rfl

@[simp] theorem State.dhFresh_next (len : Nat) : ((x.dhFresh n).dev.dh n).next len = (x.dev.dh n).next len := by
  rw [State.dhFresh_dh]
  rfl

@[simp] theorem State.dhFresh_ea (base : Fin 8) (l : List (BitVec 11)) :
    ((x.dhFresh n).dev.dh n).ea base l = (x.dev.dh n).ea base l := by
  rw [State.dhFresh_dh]
  rfl

end

/-! ## An instruction that is ready, from its own work -/

section
variable {x y : State} {n len cycles : Nat} {body : State → DhEnd}

theorem State.deckhand_seq (hready : x.dev.dhReady n len = true) (hbody : body (x.dhFresh n) = .seq y) :
    x.deckhand n len cycles body = y.dhDone n len cycles := by
  rw [State.deckhand_ready _ _ _ _ _ hready, hbody]

theorem State.deckhand_jump {pc : Nat} (hready : x.dev.dhReady n len = true) (hbody : body (x.dhFresh n) = .jump y pc) :
    x.deckhand n len cycles body = y.dhJumped n len cycles pc := by
  rw [State.deckhand_ready _ _ _ _ _ hready, hbody]

section
variable {l : List (BitVec 11)} (hready : x.dev.dhReady n (1 + l.length) = true) (hlimms : l.length ≤ 2)
include hready hlimms

theorem State.dhLimm_seq (hbody : body (x.dhFresh n) = .seq y) : x.dhLimm n l cycles body = y.dhDone n (1 + l.length) cycles := by
  rw [State.dhLimm_ready _ _ _ _ _ hready hlimms, hbody]

theorem State.dhLimm_jump {pc : Nat} (hbody : body (x.dhFresh n) = .jump y pc) :
    x.dhLimm n l cycles body = y.dhJumped n (1 + l.length) cycles pc := by
  rw [State.dhLimm_ready _ _ _ _ _ hready hlimms, hbody]

/-- R334: a load that passes its checks. -/
theorem State.dhLd_loaded {w v : Nat} {r : Fin 16} {base : Fin 8}
    (hload : (x.dhFresh n).dhLoad n ((x.dev.dh n).ea base l) w false = .inr v) :
    x.dhLd n w r base l =
      ((x.dhFresh n).onDh n (fun c => c.put r v)).dhDone n (1 + l.length) (dhLoadCycles ((x.dev.dh n).ea base l)) :=
  State.dhLimm_seq hready hlimms (by rw [hload])

/-- R334: a store, of a lane that is not paired, that passes its checks. -/
theorem State.dhSt_stored {w : Nat} {r : Fin 16} {base : Fin 8} {sh : Bool} (hsingle : (x.dhFresh n).dev.dhSingle n = true)
    (hstore : (x.dhFresh n).dhStore n (((x.dhFresh n).dev.dh n).ea base l) w (((x.dhFresh n).dev.dh n).get r % 256 ^ w) false = .inr y) :
    x.dhSt n w r base l sh = y.dhDone n (1 + l.length) 1 :=
  State.dhLimm_seq hready hlimms ((State.dhPaired_single _ _ _ _ hsingle).trans (by rw [hstore]))

end

/-- A request of a lane that is not paired (R344). -/
theorem State.dhPaired_seq {sh : Bool} (hready : x.dev.dhReady n len = true) (hsingle : (x.dhFresh n).dev.dhSingle n = true)
    (hbody : body (x.dhFresh n) = .seq y) : x.deckhand n len cycles (fun z => z.dhPaired n sh body) = y.dhDone n len cycles :=
  State.deckhand_seq hready ((State.dhPaired_single _ _ _ _ hsingle).trans hbody)

end

/-! ## A command's effect, from its arm and the arm's effect -/

section
variable {c : Instr} {s : State} {t : Ticks} {n : Nat} {w : List DhWord} {f : State → State}

/-- A deckhand's command, of a lane that executes its words. -/
theorem DoesAll.of_runDh (g : State → State) (hacts : s.dev.acts = true) (hreads : (s.dev.at_ t).dhReads n w = true)
    (harm : exec c s = s.runDh t n w g) (heff : g { s with dev := s.dev.at_ t } = f { s with dev := s.dev.at_ t }) :
    DoesAll c s t f :=
  .of_runS g (harm.trans (State.runDh_acts s t n w g hacts (Dev.dhReads_iff.mp hreads).2)) hacts heff

/-- An instruction that changes its lane's registers alone. -/
theorem DoesAll.of_dhReg {len cycles : Nat} (h : DhCore → DhCore) {g : DhCore → DhCore} (hacts : s.dev.acts = true)
    (hreads : (s.dev.at_ t).dhReads n w = true) (hlen : w.length = len)
    (harm : exec c s = s.runDh t n w (fun x => x.dhReg n len cycles h)) (heff : ∀ x, h x = g x) :
    DoesAll c s t (fun x => ((x.dhFresh n).onDh n g).dhDone n len cycles) :=
  .of_runDh _ hacts hreads harm (State.dhReg_ready _ _ _ _ h g (Dev.dhReady_of_reads hreads hlen) heff)

/-- An instruction with LIMMs that changes its lane's registers alone. -/
theorem DoesAll.of_dhLimmReg {cycles : Nat} {l : List (BitVec 11)} (h : DhCore → DhCore) {g : DhCore → DhCore}
    (hacts : s.dev.acts = true) (hreads : (s.dev.at_ t).dhReads n w = true) (hlen : w.length = 1 + l.length) (hlimms : l.length ≤ 2)
    (harm : exec c s = s.runDh t n w (fun x => x.dhLimm n l cycles (fun y => .seq (y.onDh n h)))) (heff : ∀ x, h x = g x) :
    DoesAll c s t (fun x => ((x.dhFresh n).onDh n g).dhDone n (1 + l.length) cycles) :=
  .of_runDh _ hacts hreads harm (State.dhLimm_reg _ _ _ _ h g (Dev.dhReady_of_reads hreads hlen) hlimms heff)

end

/-! ## Sums and differences without a carry (R328) -/

theorem aluAdd_zero (w a b : Nat) : aluAdd w a b 0 = ((a + b) % 2 ^ w,
    { c := decide (2 ^ w ≤ a + b), z := decide ((a + b) % 2 ^ w = 0), n := bitOf ((a + b) % 2 ^ w) (w - 1),
      v := decide (signedOf w a + signedOf w b ≠ signedOf w ((a + b) % 2 ^ w)) }) := by
  simp [aluAdd]

theorem aluSub_zero (w a b : Nat) : aluSub w a b 0 = ((a + 2 * 2 ^ w - b) % 2 ^ w,
    { c := decide (b ≤ a), z := decide ((a + 2 * 2 ^ w - b) % 2 ^ w = 0), n := bitOf ((a + 2 * 2 ^ w - b) % 2 ^ w) (w - 1),
      v := decide (signedOf w a - signedOf w b ≠ signedOf w ((a + 2 * 2 ^ w - b) % 2 ^ w)) }) := by
  simp [aluSub]

/-- R333: an unsigned product of `out` bits. -/
theorem ofNat_productOf_unsigned (w out a b : Nat) : BitVec.ofNat out (productOf false w out a b) = BitVec.ofNat out (a * b) :=
  BitVec.eq_of_toNat_eq (by simp [productOf])

/-- A result and its flags go into a register. -/
theorem DhCore.gives_congr (c : DhCore) (r : Fin 16) {a b : AluOut} (h : a = b) : c.gives r a.1 a.2 = c.gives r b.1 b.2 := by rw [h]

/-- The flags of a result that no register takes. -/
theorem DhCore.setFlags_congr (c : DhCore) {a b : AluOut} (h : a = b) : c.setFlags a.2 = c.setFlags b.2 := by rw [h]

/-- Settles O33: each arm is a register instruction whose operation is the one its clause writes out. -/
theorem laneArithmeticCompletes : Obligations.LaneArithmeticCompletes := by
  refine ⟨?mov, ?add, ?sub, ?adc, ?sbc, ?cmp, ?and, ?or, ?xor, ?tst, ?lsl, ?lsr, ?asr, ?ror, ?mulu, ?muls, ?product⟩
  case mov =>
    intro s n i j t d hacts hreads
    exact .of_dhReg (DhCore.rr .mov i j) hacts hreads rfl rfl (fun _ => rfl)
  case add =>
    intro s n i j t d hacts hreads
    exact .of_dhReg (DhCore.rr .add i j) hacts hreads rfl rfl (fun c => c.gives_congr i (aluAdd_zero 32 _ _))
  case sub =>
    intro s n i j t d hacts hreads
    exact .of_dhReg (DhCore.rr .sub i j) hacts hreads rfl rfl (fun c => c.gives_congr i (aluSub_zero 32 _ _))
  case adc =>
    intro s n i j t d hacts hreads
    exact .of_dhReg (DhCore.rr .adc i j) hacts hreads rfl rfl (fun _ => rfl)
  case sbc =>
    intro s n i j t d hacts hreads
    exact .of_dhReg (DhCore.rr .sbc i j) hacts hreads rfl rfl (fun _ => rfl)
  case cmp =>
    intro s n i j t d hacts hreads
    exact .of_dhReg (DhCore.rr .cmp i j) hacts hreads rfl rfl (fun c => c.setFlags_congr (aluSub_zero 32 _ _))
  case and =>
    intro s n i j t d hacts hreads
    exact .of_dhReg (DhCore.rr .and i j) hacts hreads rfl rfl (fun _ => rfl)
  case or =>
    intro s n i j t d hacts hreads
    exact .of_dhReg (DhCore.rr .or i j) hacts hreads rfl rfl (fun _ => rfl)
  case xor =>
    intro s n i j t d hacts hreads
    exact .of_dhReg (DhCore.rr .xor i j) hacts hreads rfl rfl (fun _ => rfl)
  case tst =>
    intro s n i j t d hacts hreads
    exact .of_dhReg (DhCore.rr .tst i j) hacts hreads rfl rfl (fun _ => rfl)
  case lsl =>
    intro s n i j t d hacts hreads
    exact .of_dhReg (DhCore.rr .lsl i j) hacts hreads rfl rfl (fun _ => rfl)
  case lsr =>
    intro s n i j t d hacts hreads
    exact .of_dhReg (DhCore.rr .lsr i j) hacts hreads rfl rfl (fun _ => rfl)
  case asr =>
    intro s n i j t d hacts hreads
    exact .of_dhReg (DhCore.rr .asr i j) hacts hreads rfl rfl (fun _ => rfl)
  case ror =>
    intro s n i j t d hacts hreads
    exact .of_dhReg (DhCore.rr .ror i j) hacts hreads rfl rfl (fun _ => rfl)
  case mulu =>
    intro s n i j t d hacts hreads
    exact .of_dhReg (fun c => { c with products := c.products ++ [BitVec.ofNat 64 (productOf false 32 64 (c.get i) (c.get j))] })
      hacts hreads rfl rfl (fun x => by rw [ofNat_productOf_unsigned])
  case muls =>
    intro s n i j t d hacts hreads
    exact .of_dhReg (fun c => { c with products := c.products ++ [BitVec.ofNat 64 (productOf true 32 64 (c.get i) (c.get j))] })
      hacts hreads rfl rfl (fun _ => rfl)
  case product =>
    intro s n p rest t d hacts hproducts
    exact .of_runS (fun x => x.onDh n DhCore.completeProduct) rfl hacts
      (State.onDh_congr _ _ _ _ (by unfold DhCore.completeProduct; rw [hproducts]; rfl))

/-! ## Immediates and control (R329–R332, R388) -/

/-- R329: SHI shifts right where bit 5 of its immediate is set, else left. -/
theorem DhCore.shi_eq (c : DhCore) (r : Fin 16) (imm : BitVec 6) : DhCore.shi r imm c =
    (let k := imm.toNat % 32
     let right := bitOf imm.toNat 5
     let v := if right then c.get r / 2 ^ k else c.get r * 2 ^ k % 2 ^ 32
     c.gives r v { c.flags with
       z := decide (v = 0), n := bitOf v 31, c := if k = 0 then c.c else bitOf (c.get r) (if right then k - 1 else 32 - k) }) := by
  unfold DhCore.shi
  cases bitOf imm.toNat 5 <;> rfl

section
variable {x : State} {n : Nat}

/-- R330: BR and CALL go to the address after the instruction plus the offset; CALL leaves that address in G15. -/
theorem State.dhBranch_taken {own : BitVec 10} {l : List (BitVec 11)} {link : Bool} (hready : x.dev.dhReady n (1 + l.length) = true)
    (hlimms : l.length ≤ 2) : x.dhBranch n own l link =
      (if link then (x.dhFresh n).onDh n (fun c => c.put 15 (c.next (1 + l.length))) else x.dhFresh n).dhJumped n (1 + l.length) 2
        (patternOf 14 (((x.dev.dh n).next (1 + l.length) : Int) + limmSigned 10 own.toNat l)) :=
  State.dhLimm_jump hready hlimms (by rw [← State.dhFresh_next]; rfl)

/-- R330: JR, CALLR and RET go to a register's address; CALLR leaves the address after it in G15. -/
theorem State.dhJump_taken {r : Fin 16} {link : Bool} (hready : x.dev.dhReady n 1 = true) : x.dhJump n r link =
      (if link then (x.dhFresh n).onDh n (fun c => c.put 15 (c.next 1)) else x.dhFresh n).dhJumped n 1 3 ((x.dev.dh n).get r) :=
  State.deckhand_jump hready (by rw [← State.dhFresh_get])

section
variable {r : Fin 16} {own : BitVec 6} {l : List (BitVec 11)} (hready : x.dev.dhReady n (1 + l.length) = true)
  (hlimms : l.length ≤ 2) (hbodyWords : limmUnsigned 6 own.toNat l ≠ 0)
include hready hlimms hbodyWords

/-- R332: LOOP with a body and a count. -/
theorem State.dhLoop_counted (hcount : ((x.dhFresh n).dev.dh n).g[r] ≠ 0) : x.dhLoop n r own l =
    ((x.dhFresh n).onDh n (fun c => { c with
      lps := BitVec.ofNat 32 (c.pc.toNat + l.length + 1),
      lpe := BitVec.ofNat 32 (c.pc.toNat + l.length + limmUnsigned 6 own.toNat l),
      lpc := c.g[r] })).dhDone n (1 + l.length) 2 :=
  State.dhLimm_seq hready hlimms (by dsimp only; rw [if_neg hbodyWords, if_neg hcount]; rfl)

/-- R332: LOOP with a body and count 0 jumps over the body. -/
theorem State.dhLoop_skipped (hcount : ((x.dhFresh n).dev.dh n).g[r] = 0) : x.dhLoop n r own l =
    ((x.dhFresh n).onDh n (fun c => { c with
      lps := BitVec.ofNat 32 (c.pc.toNat + l.length + 1),
      lpe := BitVec.ofNat 32 (c.pc.toNat + l.length + limmUnsigned 6 own.toNat l),
      lpc := c.g[r] })).dhJumped n (1 + l.length) 2
        (((x.dhFresh n).dev.dh n).pc.toNat + l.length + limmUnsigned 6 own.toNat l + 1) :=
  State.dhLimm_jump hready hlimms (by dsimp only; rw [if_neg hbodyWords, if_pos hcount]; rfl)

end

end

/-- Settles O34: with at most two LIMMs the work of each instruction is done, in sequence or with a transfer of control. -/
theorem laneImmediatesAndControlComplete : Obligations.LaneImmediatesAndControlComplete := by
  refine ⟨?movi, ?addi, ?cmpi, ?shi, ?br, ?call, ?jr, ?callr, ?ret, ?tret, ?wait, ?nop, ?skcc, ?loop, ?loopNone⟩
  case movi =>
    intro s n i own l t d hacts hreads hlimms
    exact .of_dhLimmReg (DhCore.ri .mov i (limmSigned 6 own.toNat l)) hacts hreads (length_dhRiCode _ _ _ _) hlimms rfl (fun _ => rfl)
  case addi =>
    intro s n i own l t d hacts hreads hlimms
    exact .of_dhLimmReg (DhCore.ri .add i (limmSigned 6 own.toNat l)) hacts hreads (length_dhRiCode _ _ _ _) hlimms rfl
      (fun c => c.gives_congr i (aluAdd_zero 32 _ _))
  case cmpi =>
    intro s n i own l t d hacts hreads hlimms
    exact .of_dhLimmReg (DhCore.ri .cmp i (limmSigned 6 own.toNat l)) hacts hreads (length_dhRiCode _ _ _ _) hlimms rfl
      (fun c => c.setFlags_congr (aluSub_zero 32 _ _))
  case shi =>
    intro s n i imm t d hacts hreads
    exact .of_dhReg (DhCore.shi i imm) hacts hreads rfl rfl (fun c => c.shi_eq i imm)
  case br =>
    intro s n own l t d hacts hreads hlimms
    exact .of_runDh (fun x => x.dhBranch n own l false) hacts hreads rfl
      (State.dhBranch_taken (Dev.dhReady_of_reads hreads (length_dhBrCode _ _ _)) hlimms)
  case call =>
    intro s n own l t d hacts hreads hlimms
    exact .of_runDh (fun x => x.dhBranch n own l true) hacts hreads rfl
      (State.dhBranch_taken (Dev.dhReady_of_reads hreads (length_dhBrCode _ _ _)) hlimms)
  case jr =>
    intro s n r t d hacts hreads
    exact .of_runDh (fun x => x.dhJump n r false) hacts hreads rfl (State.dhJump_taken (Dev.dhReady_of_reads hreads rfl))
  case callr =>
    intro s n r t d hacts hreads
    exact .of_runDh (fun x => x.dhJump n r true) hacts hreads rfl (State.dhJump_taken (Dev.dhReady_of_reads hreads rfl))
  case ret =>
    intro s n t d hacts hreads
    exact .of_runDh (fun x => x.dhJump n 15 false) hacts hreads rfl (State.dhJump_taken (Dev.dhReady_of_reads hreads rfl))
  case tret =>
    intro s n t d st hacts hreads hvalid
    exact .of_runDh (fun x => x.dhTret n) hacts hreads rfl (State.deckhand_jump (Dev.dhReady_of_reads hreads rfl) (if_pos hvalid))
  case wait =>
    intro s n t d st hacts hreads hnone
    exact .of_runDh (fun x => x.dhWait n) hacts hreads rfl
      (State.deckhand_seq (Dev.dhReady_of_reads hreads rfl) (if_neg (not_not_intro hnone)))
  case nop =>
    intro s n t d hacts hreads
    exact .of_runDh (fun x => x.deckhand n 1 1 .seq) hacts hreads rfl (State.deckhand_seq (Dev.dhReady_of_reads hreads rfl) rfl)
  case skcc =>
    intro s n cc t d hacts hreads
    exact .of_runDh (fun x => x.dhSkip n cc) hacts hreads rfl (State.deckhand_seq (Dev.dhReady_of_reads hreads rfl) rfl)
  case loop =>
    intro s n r own l t d st hacts hreads hlimms hbodyWords hcount
    exact .of_runDh (fun x => x.dhLoop n r own l) hacts hreads rfl
      (State.dhLoop_counted (Dev.dhReady_of_reads hreads (length_dhLoopCode _ _ _)) hlimms hbodyWords hcount)
  case loopNone =>
    intro s n r own l t d st hacts hreads hlimms hbodyWords hcount
    exact .of_runDh (fun x => x.dhLoop n r own l) hacts hreads rfl
      (State.dhLoop_skipped (Dev.dhReady_of_reads hreads (length_dhLoopCode _ _ _)) hlimms hbodyWords hcount)

/-! ## Special registers (R322, R324) -/

section
variable {x : State} {n : Nat} {r sr : Fin 16}

/-- R322: MFS of a special register. -/
theorem State.dhMfsI_read {v : Nat} (hready : x.dev.dhReady n 1 = true) (hread : (x.dhFresh n).dev.dhMfs n sr = some v) :
    x.dhMfsI n r sr = ((x.dhFresh n).onDh n (fun c => c.put r v)).dhDone n 1 1 :=
  State.deckhand_seq hready (by rw [hread])

/-- R322: MTS of a special register below EVP that takes writes. -/
theorem State.dhMtsI_written {sh : Bool} (hready : x.dev.dhReady n 1 = true) (hsr : (sr : Nat) < 10)
    (hsingle : (x.dhFresh n).dev.dhSingle n = true) : x.dhMtsI n sr r sh =
      ((x.dhFresh n).onDh n (DhCore.mts sr (((x.dhFresh n).dev.dh n).get r))).dhDone n 1 1 := by
  have hevp : sr ≠ 13 := fun h => absurd (h ▸ hsr) (by decide)
  refine State.deckhand_seq hready ?_
  rw [if_neg (by omega), if_neg (by simp; omega), State.dhPaired_single _ _ _ _ hsingle]
  exact if_neg hevp

end

/-- Settles O35: the work of each instruction is done in sequence, where its checks pass and its lane is not paired. -/
theorem laneMemoryAndRegistersComplete : Obligations.LaneMemoryAndRegistersComplete := by
  refine ⟨?ldb, ?ldh, ?ldw, ?stb, ?sth, ?stw, ?mfs, ?mts, ?mtsEvp, ?rdfeat, ?bsw16, ?bsw32, ?snap, ?fence⟩
  case ldb =>
    intro s n r base l v t d st hacts hreads hlimms hload
    exact .of_runDh (fun x => x.dhLd n 1 r base l) hacts hreads rfl
      (State.dhLd_loaded (x := st) (Dev.dhReady_of_reads hreads (length_dhMemCode _ _ _ _ _)) hlimms hload)
  case ldh =>
    intro s n r base l v t d st hacts hreads hlimms hload
    exact .of_runDh (fun x => x.dhLd n 2 r base l) hacts hreads rfl
      (State.dhLd_loaded (x := st) (Dev.dhReady_of_reads hreads (length_dhMemCode _ _ _ _ _)) hlimms hload)
  case ldw =>
    intro s n r base l v t d st hacts hreads hlimms hload
    exact .of_runDh (fun x => x.dhLd n 4 r base l) hacts hreads rfl
      (State.dhLd_loaded (x := st) (Dev.dhReady_of_reads hreads (length_dhMemCode _ _ _ _ _)) hlimms hload)
  case stb =>
    intro s n r base l sh y t d st hacts hreads hlimms hsingle hstore
    exact .of_runDh (fun x => x.dhSt n 1 r base l sh) hacts hreads rfl
      (State.dhSt_stored (x := st) (Dev.dhReady_of_reads hreads (length_dhMemCode _ _ _ _ _)) hlimms hsingle hstore)
  case sth =>
    intro s n r base l sh y t d st hacts hreads hlimms hsingle hstore
    exact .of_runDh (fun x => x.dhSt n 2 r base l sh) hacts hreads rfl
      (State.dhSt_stored (x := st) (Dev.dhReady_of_reads hreads (length_dhMemCode _ _ _ _ _)) hlimms hsingle hstore)
  case stw =>
    intro s n r base l sh y t d st hacts hreads hlimms hsingle hstore
    exact .of_runDh (fun x => x.dhSt n 4 r base l sh) hacts hreads rfl
      (State.dhSt_stored (x := st) (Dev.dhReady_of_reads hreads (length_dhMemCode _ _ _ _ _)) hlimms hsingle hstore)
  case mfs =>
    intro s n r sr v t d st hacts hreads hread
    exact .of_runDh (fun x => x.dhMfsI n r sr) hacts hreads rfl (State.dhMfsI_read (x := st) (Dev.dhReady_of_reads hreads rfl) hread)
  case mts =>
    intro s n sr r sh t d st hacts hreads hsr hsingle
    exact .of_runDh (fun x => x.dhMtsI n sr r sh) hacts hreads rfl
      (State.dhMtsI_written (Dev.dhReady_of_reads hreads rfl) hsr hsingle)
  case mtsEvp =>
    intro s n r sh t d st hacts hreads hsingle
    exact .of_runDh (fun x => x.dhMtsI n 13 r sh) hacts hreads rfl
      (State.dhPaired_seq (Dev.dhReady_of_reads hreads rfl) hsingle rfl)
  case rdfeat =>
    intro s n r k t d hacts hreads
    exact .of_dhReg (fun c => c.put r (dhFeat k)) hacts hreads rfl rfl (fun _ => rfl)
  case bsw16 =>
    intro s n r t d hacts hreads
    exact .of_dhReg (fun c => c.put r (c.get r % 256 * 256 + c.get r / 256 % 256)) hacts hreads rfl rfl (fun _ => rfl)
  case bsw32 =>
    intro s n r t d hacts hreads
    exact .of_dhReg (fun c => c.put r (leNat (toBe 4 (c.get r)))) hacts hreads rfl rfl (fun _ => rfl)
  case snap =>
    intro s n r t d hacts hreads
    exact .of_runDh (fun x => x.deckhand n 1 4 (fun y => .seq (y.onDh n (DhCore.snap r y.dev.now)))) hacts hreads rfl
      (State.deckhand_seq (Dev.dhReady_of_reads hreads rfl) rfl)
  case fence =>
    intro s n sh t d st hacts hreads hsingle
    exact .of_runDh (fun x => x.dhFence n sh) hacts hreads rfl (State.dhPaired_seq (Dev.dhReady_of_reads hreads rfl) hsingle rfl)

/-- Settles O36: a block operation that no fault and no event ends completes in sequence. -/
theorem laneBlockOperationsComplete : Obligations.LaneBlockOperationsComplete := by
  refine ⟨?movs, ?fils, ?cmps, ?scns, ?crcs, ?sums⟩
  case movs =>
    intro s n up y t d st hacts hreads hends
    exact .of_runDh (fun x => x.dhBlock n 8 true up (dhMovsStep n) id) hacts hreads rfl
      (State.deckhand_seq (Dev.dhReady_of_reads hreads rfl) hends)
  case fils =>
    intro s n r up y t d st hacts hreads hends
    exact .of_runDh (fun x => x.dhBlock n 8 true up (dhFilsStep n r) id) hacts hreads rfl
      (State.deckhand_seq (Dev.dhReady_of_reads hreads rfl) hends)
  case cmps =>
    intro s n up y t d st hacts hreads hends
    exact .of_runDh (fun x => x.dhBlock n 8 true up (dhCmpsStep n) (fun y => y.dhZ n true)) hacts hreads rfl
      (State.deckhand_seq (Dev.dhReady_of_reads hreads rfl) hends)
  case scns =>
    intro s n r up y t d st hacts hreads hends
    exact .of_runDh (fun x => x.dhBlock n 8 false up (dhScnsStep n r) (fun y => y.dhZ n false)) hacts hreads rfl
      (State.deckhand_seq (Dev.dhReady_of_reads hreads rfl) hends)
  case crcs =>
    intro s n r up y t d st hacts hreads hends
    exact .of_runDh (fun x => x.dhBlock n 4 false up (dhCrcsStep n r) id) hacts hreads rfl
      (State.deckhand_seq (Dev.dhReady_of_reads hreads rfl) hends)
  case sums =>
    intro s n r up y t d st hacts hreads hends
    exact .of_runDh (fun x => x.dhBlock n 8 false up (dhSumsStep n r) id) hacts hreads rfl
      (State.deckhand_seq (Dev.dhReady_of_reads hreads rfl) hends)

end Sys2Proof.Machine
end

section
/-!
SUPPORT. FFWD on a session whose send window is full: the model holds the record back (R192), where the statement about unit
operations lets every session that may seal forward it.
-/
namespace Sys2Proof.Machine

/-- A record that lane 3 holds, of an empty payload. -/
def heldBackRecord : FrameRec :=
  { offset := 0x40, bytes := List.replicate 36 0, arrival := 0, type := 2, taken := true, hasTime := false }

/-- A launched frame of session 77, sent under the sequence 0 and not yet acknowledged. -/
def unackedFrame : Entry :=
  { item := 0, raw := [], sent := true, sff := some 0
    image := { trig := .time, dir := .rise, brg := 0, target := .frame 77 0 0, late := .launch, unc := .flagged, acq := .edge,
               tte := false, armed := true, trigger := 0, early := 0, lateTol := 0 } }

/-- Lane 3 stands before an FFWD of its record to session 77, which is OPEN and 2 000 sequences ahead of its oldest
unacknowledged frame, where 1 024 fill its window (R192). -/
def windowFull : State :=
  { dev := ((({ ({} : Dev) with
      sys.phase := .running
      lan := [(3, { state := .running, code := dhSubCode true 7 2 ++ List.replicate 20 0, records := [heldBackRecord] })]
      net.sessions := [(5, { state := .opened, tx := 2000 })]
      lch.entries := [(0, unackedFrame)] } : Dev).setDh 3
        { g := ((Vector.replicate 16 0).set 2 0x01000040).set 3 77 }).set Od.ses_SESSION_ID 5 77) }

/-- Lane 3's flag Z after a command. -/
def zAfter : Host.Outcome State Fault Refusal → Bool
  | .next s => (s.dev.dh 3).z
  | _ => false

/-- R337: the model's FFWD of the record that is held back sets Z. -/
theorem zAfter_ffwd_windowFull : zAfter (exec (.ffwd 3 2 false 0) windowFull) = true := by decide

/-- Refutes O37: its clause of FFWD asks only that the session may seal a frame, where one whose send window is full holds the
record back and sets Z (R192, log entry 152). -/
theorem not_laneUnitOperationsComplete : ¬ Obligations.LaneUnitOperationsComplete := by
  intro h
  obtain ⟨-, -, -, -, -, -, -, -, hffwd, -⟩ := h
  have hforwarded := hffwd windowFull 3 2 false heldBackRecord 5 0 (by decide) (by decide) (by decide) (by decide) (by decide)
    (by decide) (by decide)
  have hclear : zAfter (exec (.ffwd 3 2 false 0) windowFull) = false := (congrArg zAfter hforwarded).trans (by decide)
  exact absurd (zAfter_ffwd_windowFull.symm.trans hclear) (by decide)

end Sys2Proof.Machine
end

section
/-!
SUPPORT. The words of a deckhand's instructions: how many LIMMs a program starts with, which words are reserved, and that the
words of every listed instruction are no illegal encoding.
-/
namespace Sys2Proof.Machine

/-! ## LIMMs before a word (R326, R327) -/

section
variable {l : List (BitVec 11)} {rest : List DhWord} {v : Nat}

/-- A word of the classes below a LIMM, as a number. -/
theorem toNat_dhWord (hv : v < 0x3800) : (BitVec.ofNat 14 v).toNat = v := by
  rw [BitVec.toNat_ofNat]
  omega

theorem isLimm_dhWord (hv : v < 0x3800) : isLimm (BitVec.ofNat 14 v) = false := by
  rw [isLimm, toNat_dhWord hv]
  exact decide_eq_false (by omega)

theorem isLimm_of_mem_limmWords {w : DhWord} (hw : w ∈ limmWords l) : isLimm w = true := by
  obtain ⟨x, -, rfl⟩ := List.mem_map.mp hw
  have hx := x.isLt
  rw [isLimm, BitVec.toNat_ofNat]
  exact decide_eq_true (by omega)

theorem takeWhile_isLimm (hv : v < 0x3800) : (limmWords l ++ BitVec.ofNat 14 v :: rest).takeWhile isLimm = limmWords l := by
  rw [List.takeWhile_append_of_pos (fun _ => isLimm_of_mem_limmWords), List.takeWhile_cons_of_neg (by simp [isLimm_dhWord hv]),
    List.append_nil]

/-- R326, R327: at most two LIMMs and a word are illegal where the word is reserved, or takes no LIMM and has one. -/
theorem dhIllegal_limmWords (hv : v < 0x3800) (hl : l.length ≤ 2) :
    dhIllegal (limmWords l ++ BitVec.ofNat 14 v :: rest) =
      if dhReserved v || (l.length ≠ 0 && !dhTakesLimm v) then some (l.length + 1, 0x01) else none := by
  have hword : (limmWords l ++ BitVec.ofNat 14 v :: rest)[l.length]? = some (BitVec.ofNat 14 v) := by
    simp
  simp only [dhIllegal, takeWhile_isLimm hv, length_limmWords, if_neg (show ¬ 3 ≤ l.length by omega), hword, toNat_dhWord hv]

/-- R327: three LIMMs in a row. -/
theorem dhIllegal_three_limms (hl : l.length = 3) : dhIllegal (limmWords l ++ rest) = some (3, 0x02) := by
  have hk : 3 ≤ ((limmWords l ++ rest).takeWhile isLimm).length := by
    rw [List.takeWhile_append_of_pos (fun _ => isLimm_of_mem_limmWords), List.length_append, length_limmWords, hl]
    exact Nat.le_add_right 3 _
  exact if_pos hk

theorem dhIllegal_alone (hv : v < 0x3800) (hlisted : dhReserved v = false) : dhIllegal (BitVec.ofNat 14 v :: rest) = none := by
  simpa [hlisted, limmWords] using dhIllegal_limmWords (l := []) (rest := rest) hv (Nat.zero_le 2)

theorem dhIllegal_with_limms (hv : v < 0x3800) (hl : l.length ≤ 2) (hlisted : dhReserved v = false) (htakes : dhTakesLimm v = true) :
    dhIllegal (limmWords l ++ [BitVec.ofNat 14 v] ++ rest) = none := by
  rw [List.append_assoc, List.singleton_append, dhIllegal_limmWords hv hl, hlisted, htakes]
  simp

theorem dhIllegal_limm_refused (hv : v < 0x3800) (hl : l.length = 1 ∨ l.length = 2) (hrefuses : dhTakesLimm v = false) :
    dhIllegal (limmWords l ++ BitVec.ofNat 14 v :: rest) = some (l.length + 1, 0x01) := by
  have hsome : l.length ≠ 0 := by omega
  rw [dhIllegal_limmWords hv (by omega), hrefuses, if_pos (by simp [hsome])]

end

/-! ## The reserved words and those that take a LIMM, by class -/

section
variable {w : Nat}

/-- Classes 00 and 01, BR, CALL and LOOP. -/
theorem dhReserved_of_lt (h : w < 0x2C00) : dhReserved w = false := by
  unfold dhReserved
  split
  case h_4 => rfl
  all_goals omega

/-- SKcc, JR and CALLR: [7:4] is 0. -/
theorem dhReserved_control (hlow : 0x2C00 ≤ w) (hhigh : w < 0x2F00) (hzero : w / 16 % 16 = 0) : dhReserved w = false := by
  have hclass : w / 4096 = 2 ∧ w / 1024 % 4 = 3 ∧ w / 256 % 4 ≠ 3 := by omega
  simp [dhReserved, hclass, hzero]

/-- SYS: four codes. -/
theorem dhReserved_sys (hlow : 0x2F00 ≤ w) (hhigh : w < 0x2F04) : dhReserved w = false := by
  have hclass : w / 4096 = 2 ∧ w / 1024 % 4 = 3 ∧ w / 256 % 4 = 3 := by omega
  simp [dhReserved, hclass]
  omega

/-- Loads and stores: width 0, 1 or 2. -/
theorem dhReserved_memory (hlow : 0x3000 ≤ w) (hhigh : w < 0x3400) (hwidth : w / 128 % 4 ≠ 3) : dhReserved w = false := by
  have hclass : w / 4096 = 3 ∧ w / 1024 % 4 = 0 := by omega
  simp [dhReserved, hclass, hwidth]

/-- MFS and MTS. -/
theorem dhReserved_move (hlow : 0x3400 ≤ w) (hhigh : w < 0x3600) : dhReserved w = false := by
  have hclass : w / 4096 = 3 ∧ w / 1024 % 4 = 1 ∧ w / 512 % 2 = 0 := by omega
  simp [dhReserved, hclass]

/-- A misc sub-op: 14 are listed, and three of them want r to be 0. -/
theorem dhReserved_misc {sub r : Nat} (hsub : sub < 14) (hr : r < 16) (hzero : sub = 6 ∨ sub = 8 ∨ sub = 13 → r = 0) :
    dhReserved (0x3600 + 16 * sub + r) = false := by
  have hclass : (0x3600 + 16 * sub + r) / 4096 = 3 ∧ (0x3600 + 16 * sub + r) / 1024 % 4 = 1 ∧
      (0x3600 + 16 * sub + r) / 512 % 2 = 1 ∧ (0x3600 + 16 * sub + r) / 256 % 2 = 0 := by omega
  have hfields : (0x3600 + 16 * sub + r) / 16 % 16 = sub ∧ (0x3600 + 16 * sub + r) % 16 = r := by omega
  simp [dhReserved, hclass, hfields, hsub]
  omega

/-- A unit sub-op: 13 are listed, and the last wants r to be 0. -/
theorem dhReserved_unit {sub r : Nat} (hsub : sub < 13) (hr : r < 16) (hzero : sub = 12 → r = 0) :
    dhReserved (0x3700 + 16 * sub + r) = false := by
  have hclass : (0x3700 + 16 * sub + r) / 4096 = 3 ∧ (0x3700 + 16 * sub + r) / 1024 % 4 = 1 ∧
      (0x3700 + 16 * sub + r) / 512 % 2 = 1 ∧ (0x3700 + 16 * sub + r) / 256 % 2 = 1 := by omega
  have hfields : (0x3700 + 16 * sub + r) / 16 % 16 = sub ∧ (0x3700 + 16 * sub + r) % 16 = r := by omega
  simp [dhReserved, hclass, hfields, hsub]
  omega

/-- MOVI, ADDI and CMPI; BR, CALL and LOOP; loads and stores. -/
theorem dhTakesLimm_of_mem (h : 0x1000 ≤ w ∧ w < 0x1C00 ∨ 0x2000 ≤ w ∧ w < 0x2C00 ∨ 0x3000 ≤ w ∧ w < 0x3400) :
    dhTakesLimm w = true := by
  rcases h with h | h | h
  · have hclass : w / 4096 = 1 ∧ w / 1024 % 4 ≠ 3 := by omega
    simp [dhTakesLimm, hclass]
  · have hclass : w / 4096 = 2 ∧ w / 1024 % 4 ≠ 3 := by omega
    simp [dhTakesLimm, hclass]
  · have hclass : w / 4096 = 3 ∧ w / 1024 % 4 = 0 := by omega
    simp [dhTakesLimm, hclass]

/-- RR; SHI; SKcc, JR, CALLR and SYS; MFS, MTS and the sub-ops. -/
theorem dhTakesLimm_of_not_mem (h : w < 0x1000 ∨ 0x1C00 ≤ w ∧ w < 0x2000 ∨ 0x2C00 ≤ w ∧ w < 0x3000 ∨ 0x3400 ≤ w ∧ w < 0x3800) :
    dhTakesLimm w = false := by
  unfold dhTakesLimm
  split
  case h_4 => rfl
  all_goals exact decide_eq_false (by omega)

end

/-! ## The fields of a word -/

theorem AluOp.code_lt (op : AluOp) : op.code < 14 := by cases op <;> decide

theorem b2n_le_one (b : Bool) : b2n b ≤ 1 := by cases b <;> decide

/-- The word of an instruction that takes no LIMM lies in no class of those that do. -/
theorem refusesLimm_cases {w : DhWord}
    (h : (∃ (op : AluOp) (a b : Fin 16), dhRrCode op.code a b = [w]) ∨ (∃ (a : Fin 16) (own : BitVec 6), dhRiCode 3 a own [] = [w]) ∨
      (∃ (k : Fin 3) (a : Fin 16), dhControlCode k a = [w]) ∨ (∃ k : Fin 4, dhSysCode k = [w]) ∨
      (∃ (write : Bool) (sr r : Fin 16), dhMoveCode write sr r = [w]) ∨ (∃ (unit : Bool) (sub r : Fin 16), dhSubCode unit sub r = [w])) :
    ∃ v, w = BitVec.ofNat 14 v ∧
      (v < 0x1000 ∨ 0x1C00 ≤ v ∧ v < 0x2000 ∨ 0x2C00 ≤ v ∧ v < 0x3000 ∨ 0x3400 ≤ v ∧ v < 0x3800) := by
  rcases h with ⟨op, a, b, hw⟩ | ⟨a, own, hw⟩ | ⟨k, a, hw⟩ | ⟨k, hw⟩ | ⟨write, sr, r, hw⟩ | ⟨unit, sub, r, hw⟩
  · have := op.code_lt
    exact ⟨_, (List.singleton_inj.mp hw).symm, by omega⟩
  · exact ⟨_, (List.singleton_inj.mp hw).symm, by omega⟩
  · exact ⟨_, (List.singleton_inj.mp hw).symm, by omega⟩
  · exact ⟨_, (List.singleton_inj.mp hw).symm, by omega⟩
  · have := b2n_le_one write
    exact ⟨_, (List.singleton_inj.mp hw).symm, by omega⟩
  · have := b2n_le_one unit
    exact ⟨_, (List.singleton_inj.mp hw).symm, by omega⟩

/-- Settles O59: each listed word is of a class that is not reserved, and the instructions of R327 are those that take a LIMM. -/
theorem listedLaneWordsAreLegal : Obligations.ListedLaneWordsAreLegal := by
  refine ⟨?rr, ?ri, ?shi, ?br, ?loop, ?control, ?sys, ?memory, ?move, ?miscZero, ?misc, ?unit, ?wdog, ?three, ?refused⟩
  case rr =>
    intro op a b rest
    have := op.code_lt
    exact dhIllegal_alone (by omega) (dhReserved_of_lt (by omega))
  case ri =>
    intro op a own l rest hl
    exact dhIllegal_with_limms (by omega) hl (dhReserved_of_lt (by omega)) (dhTakesLimm_of_mem (by omega))
  case shi =>
    intro a own rest
    exact dhIllegal_alone (by omega) (dhReserved_of_lt (by omega))
  case br =>
    intro call own l rest hl
    have := b2n_le_one call
    exact dhIllegal_with_limms (by omega) hl (dhReserved_of_lt (by omega)) (dhTakesLimm_of_mem (by omega))
  case loop =>
    intro a own l rest hl
    exact dhIllegal_with_limms (by omega) hl (dhReserved_of_lt (by omega)) (dhTakesLimm_of_mem (by omega))
  case control =>
    intro k a rest
    exact dhIllegal_alone (by omega) (dhReserved_control (by omega) (by omega) (by omega))
  case sys =>
    intro k rest
    exact dhIllegal_alone (by omega) (dhReserved_sys (by omega) (by omega))
  case memory =>
    intro store width r base l rest hl
    have := b2n_le_one store
    exact dhIllegal_with_limms (by omega) hl (dhReserved_memory (by omega) (by omega) (by omega)) (dhTakesLimm_of_mem (by omega))
  case move =>
    intro write sr r rest
    have := b2n_le_one write
    exact dhIllegal_alone (by omega) (dhReserved_move (by omega) (by omega))
  case miscZero =>
    intro sub r rest _ hzero
    exact dhIllegal_alone (by simp [b2n]; omega) (dhReserved_misc sub.isLt r.isLt (fun _ => by rw [hzero]; rfl))
  case misc =>
    intro sub r rest hother
    exact dhIllegal_alone (by simp [b2n]; omega) (dhReserved_misc sub.isLt r.isLt (by omega))
  case unit =>
    intro sub r rest
    exact dhIllegal_alone (by simp [b2n]; omega) (dhReserved_unit (by omega) r.isLt (by omega))
  case wdog =>
    intro rest
    exact dhIllegal_alone (by decide) (by decide)
  case three =>
    intro a b c rest
    exact dhIllegal_three_limms rfl
  case refused =>
    intro l w rest hl hw
    obtain ⟨v, rfl, hv⟩ := refusesLimm_cases hw
    exact dhIllegal_limm_refused (by omega) hl (dhTakesLimm_of_not_mem hv)

end Sys2Proof.Machine
end

section
/-!
SUPPORT. What an instruction of a lane leaves as it was: of the lane's own registers, of the other cores and of memory; and the
frame of a deckhand's register instructions.
-/
namespace Sys2Proof.Machine

/-! ## What an operation on a deckhand's registers leaves -/

/-- Of a deckhand's registers all stays but `dest`, the PC, the loop count, the products in flight, the shadow of a skip and,
unless `keeps`, the condition flags. -/
structure DhCore.Keeps (dest : Option (Fin 16)) (keeps : Bool) (c x : DhCore) : Prop where
  regs : ∀ k : Fin 16, dest ≠ some k → x.get k = c.get k
  flags : keeps = true → x.flags = c.flags
  ee : x.ee = c.ee
  mlo : x.mlo = c.mlo
  mhi : x.mhi = c.mhi
  lps : x.lps = c.lps
  lpe : x.lpe = c.lpe
  brs : x.brs = c.brs
  brd : x.brd = c.brd
  brc : x.brc = c.brc
  tsbp : x.tsbp = c.tsbp
  tsnap : x.tsnap = c.tsnap
  handler : x.handler = c.handler
  skip : x.skip = c.skip
  posted : x.posted = c.posted
  notice : x.notice = c.notice

section
variable {dest : Option (Fin 16)} {keeps : Bool} (c : DhCore) {x y : DhCore}

theorem DhCore.get_put_of_ne {r k : Fin 16} (hne : r ≠ k) (v : Nat) : (c.put r v).get k = c.get k := by
  have hval : (r : Nat) ≠ k := fun h => hne (Fin.ext h)
  simp [DhCore.get, DhCore.put, Vector.getElem_set_ne _ _ hval]

theorem DhCore.get_put_same (r : Fin 16) (v : Nat) : (c.put r v).get r = v % 2 ^ 32 := by
  simp [DhCore.get, DhCore.put]

theorem DhCore.Keeps.trans (h : DhCore.Keeps dest keeps c x) (g : DhCore.Keeps dest keeps x y) : DhCore.Keeps dest keeps c y where
  regs k hk := (g.regs k hk).trans (h.regs k hk)
  flags hk := (g.flags hk).trans (h.flags hk)
  ee := g.ee.trans h.ee
  mlo := g.mlo.trans h.mlo
  mhi := g.mhi.trans h.mhi
  lps := g.lps.trans h.lps
  lpe := g.lpe.trans h.lpe
  brs := g.brs.trans h.brs
  brd := g.brd.trans h.brd
  brc := g.brc.trans h.brc
  tsbp := g.tsbp.trans h.tsbp
  tsnap := g.tsnap.trans h.tsnap
  handler := g.handler.trans h.handler
  skip := g.skip.trans h.skip
  posted := g.posted.trans h.posted
  notice := g.notice.trans h.notice

theorem DhCore.keeps_put (r : Fin 16) (v : Nat) : DhCore.Keeps (some r) keeps c (c.put r v) := by
  constructor
  case regs => exact fun k hk => c.get_put_of_ne (fun h => hk (congrArg some h)) v
  all_goals intros; rfl

theorem DhCore.keeps_setFlags (f : Flags) : DhCore.Keeps dest false c (c.setFlags f) := by
  constructor
  case flags => exact fun h => absurd h (by decide)
  all_goals intros; rfl

theorem DhCore.keeps_products (l : List (BitVec 64)) : DhCore.Keeps dest keeps c { c with products := l } := by
  constructor <;> intros <;> rfl

theorem DhCore.keeps_unshadowed : DhCore.Keeps dest keeps c { c with shadow := false } := by constructor <;> intros <;> rfl

/-- R332: completing in sequence moves the PC and the loop count alone. -/
theorem DhCore.seq_pc_lpc (len : Nat) : ∃ pc lpc, c.seq len = { c with pc := pc, lpc := lpc } := by
  simp only [DhCore.seq]
  split
  · split <;> exact ⟨_, _, rfl⟩
  · exact ⟨_, _, rfl⟩

theorem DhCore.keeps_seq (len : Nat) : DhCore.Keeps dest keeps c (c.seq len) := by
  obtain ⟨pc, lpc, h⟩ := c.seq_pc_lpc len
  rw [h]
  constructor <;> intros <;> rfl

theorem DhCore.get_seq (len : Nat) (r : Fin 16) : (c.seq len).get r = c.get r :=
  (c.keeps_seq (dest := none) (keeps := true) len).regs r nofun

/-- An operation that writes its result and its flags (R328, R329). -/
theorem DhCore.keeps_gives (r : Fin 16) (v : Nat) (f : Flags) : DhCore.Keeps (some r) false c ((c.setFlags f).put r v) :=
  (c.keeps_setFlags f).trans _ (DhCore.keeps_put _ r v)

/-- MOV and MOVI write their register and leave the flags. -/
theorem DhCore.keeps_mov (r : Fin 16) (v : Nat) : DhCore.Keeps (some r) true c ((c.setFlags c.flags).put r v) := c.keeps_put r v

end

/-! ## What a step of a lane leaves -/

/-- Of the cores only lane `n`'s deckhand may have changed, and it holds `w`; nothing waits to follow and no memory write of the
device is left to make. -/
structure State.LaneHolds (s : State) (n : Nat) (w : DhCore) (y : State) : Prop where
  lane : y.dev.dh n = w
  others : ∀ m, m ≠ n → y.dev.dh m = s.dev.dh m
  pursers : ∀ p, y.dev.pu p = s.dev.pu p
  rest : y.dev.atRest = true
  writesMade : y.dev.bufOut = []

section
variable {s y : State} {n : Nat} {w : DhCore}

theorem State.LaneHolds.start {t : Ticks} (hclean : s.clean = true) (hrest : (s.dev.at_ t).atRest = true) :
    s.LaneHolds n (s.dev.dh n) { s with dev := s.dev.at_ t } :=
  ⟨rfl, fun _ _ => rfl, fun _ => rfl, hrest, List.isEmpty_iff.mp (Bool.and_eq_true_iff.mp hclean).2⟩

theorem State.LaneHolds.onDh (h : s.LaneHolds n w y) (g : DhCore → DhCore) : s.LaneHolds n (g w) (y.onDh n g) where
  lane := by simp [h.lane]
  others m hm := by simp [hm, h.others m hm]
  pursers := h.pursers
  rest := h.rest
  writesMade := h.writesMade

theorem State.LaneHolds.dhFresh (h : s.LaneHolds n w y) : s.LaneHolds n { w with shadow := false } (y.dhFresh n) :=
  h.onDh (fun c => { c with shadow := false })

theorem State.LaneHolds.dhCycles (h : s.LaneHolds n w y) (k : Nat) : s.LaneHolds n w (y.dhCycles n k) :=
  ⟨h.lane, h.others, h.pursers, h.rest, h.writesMade⟩

theorem State.LaneHolds.withMem (h : s.LaneHolds n w y) (m : Tab Byte) : s.LaneHolds n w { y with mem := m } :=
  ⟨h.lane, h.others, h.pursers, h.rest, h.writesMade⟩

/-- No notice of an earlier store waits. -/
theorem State.dhNotice_none (hnone : (y.dev.dh n).notice = false) : y.dhNotice n = y := by simp [State.dhNotice, hnone]

theorem State.LaneHolds.dhDone_eq (h : s.LaneHolds n w y) (hnone : w.notice = false) (len cycles : Nat) :
    y.dhDone n len cycles = (y.dhCycles n (cycles + (len - 1))).onDh n (fun c => c.seq len) :=
  State.dhNotice_none (by
    rw [((h.dhCycles _).onDh _).lane]
    exact (w.keeps_seq (dest := none) (keeps := true) len).notice.trans hnone)

theorem State.LaneHolds.dhDone (h : s.LaneHolds n w y) (hnone : w.notice = false) (len cycles : Nat) :
    s.LaneHolds n (w.seq len) (y.dhDone n len cycles) := by
  rw [h.dhDone_eq hnone]
  exact (h.dhCycles _).onDh (fun c => c.seq len)

/-- What follows from a command leaves the cores of a device at rest, and memory. -/
theorem State.LaneHolds.settled (h : s.LaneHolds n w y) (q : List Instr) :
    ∃ e, { y.withDev y.dev.settle with pending := q } = e ∧ e.mem = y.mem ∧ e.dev.cpu = y.dev.cpu := by
  have hframe := Dev.settle_frame _ h.rest
  generalize y.dev.settle = d at hframe
  refine ⟨_, rfl, ?_, hframe.cpu⟩
  rw [State.withDev_mem, hframe.bufOut, h.writesMade]
  rfl

/-- A lane's instruction that completes in sequence leaves the other cores, and memory as its own work left it. -/
theorem State.LaneHolds.completes {c : Instr} {t : Ticks} {f : State → State} {len cycles : Nat} (h : s.LaneHolds n w y)
    (hnone : w.notice = false) (hdoes : DoesAll c s t f) (hf : f { s with dev := s.dev.at_ t } = y.dhDone n len cycles) :
    ∃ e, exec c s = .next e ∧ e.mem = y.mem ∧ e.dev.dh n = w.seq len ∧ (∀ m, m ≠ n → e.dev.dh m = s.dev.dh m) ∧
      ∀ p, e.dev.pu p = s.dev.pu p := by
  have hdone := h.dhDone hnone len cycles
  have hmem : (y.dhDone n len cycles).mem = y.mem := by rw [h.dhDone_eq hnone]; rfl
  unfold DoesAll at hdoes
  rw [hf] at hdoes
  obtain ⟨e, he, hmemSettled, hcpu⟩ := hdone.settled s.pending
  refine ⟨e, hdoes.trans (congrArg _ he), hmemSettled.trans hmem, ?_, fun m hm => ?_, fun p => ?_⟩
  · exact (congrArg (fun u => u.dh.get {} n) hcpu).trans hdone.lane
  · exact (congrArg (fun u => u.dh.get {} m) hcpu).trans (hdone.others m hm)
  · exact (congrArg (fun u => u.pu.get {} p) hcpu).trans (hdone.pursers p)

theorem DhCore.Keeps.dhKeeps {e : State} {dest : Option (Fin 16)} {keeps : Bool} {x : DhCore} (h : DhCore.Keeps dest keeps (s.dev.dh n) x)
    (hlane : e.dev.dh n = x) (hothers : ∀ m, m ≠ n → e.dev.dh m = s.dev.dh m) (hpursers : ∀ p, e.dev.pu p = s.dev.pu p) :
    s.dhKeeps e n dest keeps := by
  subst hlane
  exact ⟨h.regs, h.flags, h.ee, h.mlo, h.mhi, h.lps, h.lpe, h.brs, h.brd, h.brc, h.tsbp, h.tsnap, h.handler, h.skip, h.posted,
    hothers, hpursers⟩

end

/-! ## The register instructions of a deckhand (R328, R329, R335) -/

section
variable {c : DhCore} {op : AluOp} {d r : Fin 16} {imm : Int}

/-- An RR operation that has a result writes its register and the flags. -/
theorem DhCore.keeps_rr (hwrites : op.writes = true) : DhCore.Keeps (some d) false c (DhCore.rr op d r c) := by
  unfold DhCore.rr
  rw [if_pos hwrites]
  exact c.keeps_gives d _ _

/-- CMP and TST write the flags alone. -/
theorem DhCore.keeps_rr_compare (hcompares : op.writes = false) : DhCore.Keeps none false c (DhCore.rr op d r c) := by
  unfold DhCore.rr
  rw [if_neg (by simp [hcompares])]
  exact c.keeps_setFlags _

theorem DhCore.keeps_ri (hwrites : op.writes = true) : DhCore.Keeps (some d) false c (DhCore.ri op d imm c) := by
  unfold DhCore.ri
  rw [if_pos hwrites]
  exact c.keeps_gives d _ _

theorem DhCore.keeps_ri_compare (hcompares : op.writes = false) : DhCore.Keeps none false c (DhCore.ri op d imm c) := by
  unfold DhCore.ri
  rw [if_neg (by simp [hcompares])]
  exact c.keeps_setFlags _

end

/-- The frame of the register instruction `u`: the command answers a next state that has the memory of `s`, and of the cores
differs in what `u` may change. -/
def State.RegFrame (s : State) (c : Instr) (u : RegUse) : Prop :=
  ∃ e, exec c s = .next e ∧ (∀ a, e.byte a = s.byte a) ∧ s.dhKeeps e u.core u.dest u.keeps

section
variable {s y : State} {c : Instr} {u : RegUse} {w : DhCore} {cycles len : Nat} {f : State → State} {g : DhCore → DhCore}

theorem State.LaneHolds.regFrame (h : s.LaneHolds u.core w y) (hnone : w.notice = false) (hmem : y.mem = s.mem)
    (hkeeps : DhCore.Keeps u.dest u.keeps (s.dev.dh u.core) w) (hdoes : DoesAll c s c.time f)
    (hf : f { s with dev := s.dev.at_ c.time } = y.dhDone u.core len cycles) : s.RegFrame c u := by
  obtain ⟨e, he, hmemory, hlane, hothers, hpursers⟩ := h.completes hnone hdoes hf
  exact ⟨e, he, fun a => congrArg (memByte · a) (hmemory.trans hmem),
    (hkeeps.trans _ (w.keeps_seq len)).dhKeeps hlane hothers hpursers⟩

/-- A lane executes the register instruction `u`, on a quiet device and with no notice pending. -/
structure State.RunsReg (s : State) (c : Instr) (u : RegUse) : Prop where
  clean : s.clean = true
  acts : s.dev.acts = true
  rest : (s.dev.at_ c.time).atRest = true
  reads : (s.dev.at_ c.time).dhReads u.core u.words = true
  noNotice : (s.dev.dh u.core).notice = false

variable (h : s.RunsReg c u)
include h

theorem State.RunsReg.fresh :
    s.LaneHolds u.core { s.dev.dh u.core with shadow := false } (({ s with dev := s.dev.at_ c.time } : State).dhFresh u.core) :=
  (State.LaneHolds.start h.clean h.rest).dhFresh

theorem State.RunsReg.regFrame_of_onDh (hkeeps : ∀ x, DhCore.Keeps u.dest u.keeps x (g x))
    (hdoes : DoesAll c s c.time (fun x => ((x.dhFresh u.core).onDh u.core g).dhDone u.core len cycles)) : s.RegFrame c u :=
  (h.fresh.onDh g).regFrame ((hkeeps _).notice.trans h.noNotice) rfl ((s.dev.dh u.core).keeps_unshadowed.trans _ (hkeeps _)) hdoes rfl

theorem State.RunsReg.dhReg (hlen : u.words.length = 1)
    (harm : exec c s = s.runDh c.time u.core u.words (fun x => x.dhReg u.core 1 cycles g))
    (hkeeps : ∀ x, DhCore.Keeps u.dest u.keeps x (g x)) : s.RegFrame c u :=
  h.regFrame_of_onDh hkeeps (.of_dhReg g h.acts h.reads hlen harm (fun _ => rfl))

theorem State.RunsReg.dhLimm {l : List (BitVec 11)} (hlimms : l.length ≤ 2) (hlen : u.words.length = 1 + l.length)
    (harm : exec c s = s.runDh c.time u.core u.words (fun x => x.dhLimm u.core l cycles (fun y => .seq (y.onDh u.core g))))
    (hkeeps : ∀ x, DhCore.Keeps u.dest u.keeps x (g x)) : s.RegFrame c u :=
  h.regFrame_of_onDh hkeeps (.of_dhLimmReg g h.acts h.reads hlen hlimms harm (fun _ => rfl))

/-- NOP does no work of its own. -/
theorem State.RunsReg.nop (hlen : u.words.length = 1)
    (harm : exec c s = s.runDh c.time u.core u.words (fun x => x.deckhand u.core 1 cycles .seq)) : s.RegFrame c u :=
  h.fresh.regFrame h.noNotice rfl (s.dev.dh u.core).keeps_unshadowed
    (f := fun x => (x.dhFresh u.core).dhDone u.core 1 cycles)
    (.of_runDh _ h.acts h.reads harm (State.deckhand_seq (Dev.dhReady_of_reads h.reads hlen) rfl)) rfl

end

/-- Every register instruction has its frame, by what its operation writes: a result and flags, a result alone, flags alone, a
product in flight, or nothing. -/
theorem State.RunsReg.regFrame {s : State} {c : Instr} {u : RegUse} (hu : c.dhRegs = some u) (h : s.RunsReg c u) : s.RegFrame c u := by
  unfold Instr.dhRegs at hu
  split at hu
  case h_1 n d r t =>
    obtain rfl := Option.some.inj hu
    exact h.dhReg rfl rfl (fun x => x.keeps_mov d _)
  case h_2 n d r t | h_3 n d r t | h_4 n d r t | h_5 n d r t | h_6 n d r t | h_7 n d r t | h_8 n d r t | h_9 n d r t |
      h_10 n d r t | h_11 n d r t | h_12 n d r t =>
    obtain rfl := Option.some.inj hu
    exact h.dhReg rfl rfl (fun _ => DhCore.keeps_rr rfl)
  case h_13 n d r t | h_14 n d r t =>
    obtain rfl := Option.some.inj hu
    exact h.dhReg rfl rfl (fun _ => DhCore.keeps_rr_compare rfl)
  case h_15 n d r t | h_16 n d r t =>
    obtain rfl := Option.some.inj hu
    exact h.dhReg rfl rfl (fun x => x.keeps_products _)
  case h_17 n d own l t =>
    obtain ⟨hlimms, hsome⟩ := Option.ite_none_right_eq_some.mp hu
    obtain rfl := Option.some.inj hsome
    exact h.dhLimm hlimms (length_dhRiCode _ _ _ _) rfl (fun x => x.keeps_mov d _)
  case h_18 n d own l t =>
    obtain ⟨hlimms, hsome⟩ := Option.ite_none_right_eq_some.mp hu
    obtain rfl := Option.some.inj hsome
    exact h.dhLimm hlimms (length_dhRiCode _ _ _ _) rfl (fun _ => DhCore.keeps_ri rfl)
  case h_19 n d own l t =>
    obtain ⟨hlimms, hsome⟩ := Option.ite_none_right_eq_some.mp hu
    obtain rfl := Option.some.inj hsome
    exact h.dhLimm hlimms (length_dhRiCode _ _ _ _) rfl (fun _ => DhCore.keeps_ri_compare rfl)
  case h_20 n d imm t =>
    obtain rfl := Option.some.inj hu
    exact h.dhReg rfl rfl (fun x => x.keeps_gives d _ _)
  case h_21 n t =>
    obtain rfl := Option.some.inj hu
    exact h.nop rfl rfl
  case h_22 n r k t =>
    obtain rfl := Option.some.inj hu
    exact h.dhReg rfl rfl (fun x => x.keeps_put r _)
  case h_23 n r t | h_24 n r t =>
    obtain rfl := Option.some.inj hu
    exact h.dhReg rfl rfl (fun x => x.keeps_put r _)
  case h_25 => cases hu

/-- Settles O9: its hypotheses say that the lane executes the instruction, whose frame then holds. -/
theorem deckhandRegisterFrame : Obligations.DeckhandRegisterFrame := by
  intro c u s hu hclean hquiet hreads hnotice
  obtain ⟨hacts, hrest⟩ := hquiet
  exact State.RunsReg.regFrame hu ⟨hclean, hacts, hrest, hreads, hnotice⟩

end Sys2Proof.Machine
end

section
/-!
SUPPORT. Little-endian numbers in memory, the loads and stores of a deckhand whose address lies in memory, and their frame.
-/
namespace Sys2Proof.Machine

/-! ## Little-endian numbers in memory (R4) -/

@[simp] theorem length_toLe (n v : Nat) : (toLe n v).length = n := by
  induction n generalizing v with
  | zero => rfl
  | succ n ih => simp [toLe, ih]

theorem leNat_toLe (n v : Nat) : leNat (toLe n v) = v % 256 ^ n := by
  induction n generalizing v with
  | zero => simp [toLe, leNat, Nat.mod_one]
  | succ n ih => rw [toLe, leNat, ih, BitVec.toNat_ofNat, Nat.pow_succ' (m := 256), Nat.mod_mul]

theorem leNat_lt (b : Bytes) : leNat b < 256 ^ b.length := by
  induction b with
  | nil => decide
  | cons x b ih =>
    have hx := x.isLt
    rw [leNat, List.length_cons, Nat.pow_succ']
    omega

theorem memRead_memWrite (m : Tab Byte) (a : Nat) (b : Bytes) : memRead (memWrite m a b) a b.length = b := by
  refine List.ext_getElem (by simp [memRead]) fun i _ hi => ?_
  simp [memRead, memByte_write, hi]

theorem memNat_memPut (m : Tab Byte) (a n v : Nat) : memNat (memPut m a n v) a n = v % 256 ^ n := by
  have hread := memRead_memWrite m a (toLe n v)
  rw [length_toLe] at hread
  rw [memNat, memPut, hread, leNat_toLe]

theorem memNat_lt (m : Tab Byte) (a n : Nat) : memNat m a n < 256 ^ n := by
  have hlt := leNat_lt (memRead m a n)
  rwa [memRead, List.length_map, List.length_range] at hlt

theorem memByte_memPut_outside (m : Tab Byte) {a n k : Nat} (v : Nat) (hk : k < a ∨ a + n ≤ k) : memByte (memPut m a n v) k = memByte m k :=
  memByte_write_outside m a k _ (by rwa [length_toLe])

/-! ## A load and a store where the address lies in memory (R318–R320, R334) -/

/-- A map that always answers. -/
theorem mapM_eq_map {α β : Type} {f : α → Option β} {g : α → β} {l : List α} (h : ∀ i ∈ l, f i = some (g i)) :
    l.mapM f = some (l.map g) := by
  induction l with
  | nil => rfl
  | cons a l ih => simp [List.mapM_cons, h a (by simp), ih (fun i hi => h i (by simp [hi]))]

section
variable {x : State} {n a w q : Nat}

/-- An aligned access that starts below a multiple of 4 ends below it. -/
theorem add_lt_of_aligned {i b : Nat} (hw : w = 1 ∨ w = 2 ∨ w = 4) (haligned : a % w = 0) (hi : i < w) (hb : b % 4 = 0) (ha : a < b) :
    a + i < b := by
  rcases hw with rfl | rfl | rfl <;> omega

/-- The bytes of an aligned access lie side by side. -/
theorem Dev.dhPlace_add {d : Dev} {i : Nat} (hw : w = 1 ∨ w = 2 ∨ w = 4) (hplace : d.dhPlace n a = some q) (haligned : a % w = 0) (hi : i < w) :
    d.dhPlace n (a + i) = some (q + i) := by
  unfold Dev.dhPlace at hplace ⊢
  split at hplace
  case isTrue hlocal =>
    rw [if_pos (add_lt_of_aligned hw haligned hi rfl hlocal), ← Option.some.inj hplace, Nat.add_assoc]
  case isFalse hlocal =>
    obtain ⟨hbuffer, hq⟩ := Option.ite_none_right_eq_some.mp hplace
    have hend := add_lt_of_aligned hw haligned hi rfl hbuffer.2
    rw [if_neg (by omega), if_pos ⟨by omega, hend⟩, ← Option.some.inj hq, Nat.sub_add_comm hbuffer.1, Nat.add_assoc _ _ i]

theorem State.dhByte_place (hplace : x.dev.dhPlace n a = some q) : x.dhByte n a = some (memByte x.mem q) := by
  unfold Dev.dhPlace at hplace
  unfold State.dhByte
  split at hplace
  case isTrue hlocal => rw [if_pos hlocal, Option.some.inj hplace]
  case isFalse hlocal =>
    obtain ⟨hbuffer, hq⟩ := Option.ite_none_right_eq_some.mp hplace
    simp only [if_neg hlocal, if_neg (show ¬ a < 0x8000 by omega), decide_eq_true hbuffer.1, decide_eq_true hbuffer.2,
      Bool.and_self, if_true, Option.some.inj hq]

variable (hw : w = 1 ∨ w = 2 ∨ w = 4) (hplace : x.dev.dhPlace n a = some q) (haligned : a % w = 0)
include haligned

/-- R319, R397: an aligned access that its regions allow passes. -/
theorem State.dhCheck_allowed {write block : Bool}
    (hallowed : acuCheck (x.dev.acu (x.dev.laneMaster n)).regions a (a + w - 1) (if write then .write else .read) false = none) :
    x.dhCheck n a w write block = none := by
  simp [State.dhCheck, haligned, hallowed]

include hw hplace

theorem State.dhBytes_place : x.dhBytes n a w = some (memRead x.mem q w) :=
  mapM_eq_map fun _ hi => State.dhByte_place (Dev.dhPlace_add hw hplace haligned (List.mem_range.mp hi))

theorem State.dhLoad_place (hallowed : acuCheck (x.dev.acu (x.dev.laneMaster n)).regions a (a + w - 1) .read false = none) :
    x.dhLoad n a w false = .inr (memNat x.mem q w) := by
  rw [State.dhLoad, State.dhCheck_allowed (write := false) haligned hallowed, State.dhBytes_place hw hplace haligned]
  rfl

omit hw in
theorem State.dhStore_place {v : Nat}
    (hallowed : acuCheck (x.dev.acu (x.dev.laneMaster n)).regions a (a + w - 1) .write false = none) :
    x.dhStore n a w v false = .inr { x with mem := memPut x.mem q w v } := by
  simp only [State.dhStore, State.dhCheck_allowed (write := true) haligned hallowed]
  unfold Dev.dhPlace at hplace
  split at hplace
  case isTrue hlocal => rw [if_pos hlocal, Option.some.inj hplace]
  case isFalse hlocal =>
    obtain ⟨hbuffer, hq⟩ := Option.ite_none_right_eq_some.mp hplace
    simp only [if_neg hlocal, decide_eq_true hbuffer.1, decide_eq_true hbuffer.2, Bool.and_self, if_true, Option.some.inj hq]

end

/-! ## The frame of a deckhand's loads and stores -/

section
variable {s : State} {c : Instr} {n w q : Nat} {r : Fin 16} {base : Fin 8} {l : List (BitVec 11)} {words : List DhWord} {t : Ticks}
  (hclean : s.clean = true) (hquiet : s.dev.acts = true ∧ (s.dev.at_ t).atRest = true)
  (hruns : (s.dev.at_ t).dhReads n words = true ∧ l.length ≤ 2 ∧ ((s.dev.at_ t).dh n).notice = false)
  (hlen : words.length = 1 + l.length) (hw : w = 1 ∨ w = 2 ∨ w = 4)
  (hplace : (s.dev.at_ t).dhPlace n (((s.dev.at_ t).dh n).ea base l) = some q)
  (haligned : ((s.dev.at_ t).dh n).ea base l % w = 0)
include hclean hquiet hruns hlen hplace haligned

/-- R334: a store writes its bytes, and of the cores changes what completing in sequence changes. -/
theorem State.dhSt_frame {sh : Bool} (hsingle : (s.dev.at_ t).dhSingle n = true)
    (hallowed : acuCheck ((s.dev.at_ t).acu ((s.dev.at_ t).laneMaster n)).regions (((s.dev.at_ t).dh n).ea base l)
      (((s.dev.at_ t).dh n).ea base l + w - 1) .write false = none)
    (harm : exec c s = s.runDh t n words (fun x => x.dhSt n w r base l sh)) :
    ∃ e, exec c s = .next e ∧ (∀ k, k < q ∨ q + w ≤ k → e.byte k = s.byte k) ∧
      memNat e.mem q w = (s.dev.dh n).get r % 256 ^ w ∧ s.dhKeeps e n none true := by
  obtain ⟨hacts, hrest⟩ := hquiet
  obtain ⟨hreads, hlimms, hnotice⟩ := hruns
  have hfresh := (State.LaneHolds.start (n := n) hclean hrest).dhFresh
  have hstore := State.dhStore_place (x := ({ s with dev := s.dev.at_ t } : State).dhFresh n) (v := (s.dev.dh n).get r % 256 ^ w)
    hplace haligned hallowed
  have hdoes : DoesAll c s t (fun x => ({ x.dhFresh n with mem := memPut s.mem q w ((s.dev.dh n).get r % 256 ^ w) }).dhDone n (1 + l.length) 1) :=
    .of_runDh _ hacts hreads harm
      (State.dhSt_stored (x := { s with dev := s.dev.at_ t }) (Dev.dhReady_of_reads hreads hlen) hlimms hsingle
        (by rw [State.dhFresh_ea, State.dhFresh_get]; exact hstore))
  obtain ⟨e, he, hmem, hlane, hothers, hpursers⟩ := (hfresh.withMem _).completes hnotice hdoes rfl
  refine ⟨e, he, fun k hk => ?_, ?_, ((s.dev.dh n).keeps_unshadowed.trans _ (DhCore.keeps_seq _ _)).dhKeeps hlane hothers hpursers⟩
  · exact (congrArg (memByte · k) hmem).trans (memByte_memPut_outside _ _ hk)
  · rw [hmem, memNat_memPut, Nat.mod_mod]

include hw

/-- R334: a load writes its register alone, with the bytes it reads. -/
theorem State.dhLd_frame
    (hallowed : acuCheck ((s.dev.at_ t).acu ((s.dev.at_ t).laneMaster n)).regions (((s.dev.at_ t).dh n).ea base l)
      (((s.dev.at_ t).dh n).ea base l + w - 1) .read false = none)
    (harm : exec c s = s.runDh t n words (fun x => x.dhLd n w r base l)) :
    ∃ e, exec c s = .next e ∧ (∀ k, e.byte k = s.byte k) ∧ (e.dev.dh n).get r = memNat s.mem q w ∧ s.dhKeeps e n (some r) true := by
  obtain ⟨hacts, hrest⟩ := hquiet
  obtain ⟨hreads, hlimms, hnotice⟩ := hruns
  have hfresh := (State.LaneHolds.start (n := n) hclean hrest).dhFresh
  have hload := State.dhLoad_place (x := ({ s with dev := s.dev.at_ t } : State).dhFresh n) hw hplace haligned hallowed
  have hdoes : DoesAll c s t (fun x => ((x.dhFresh n).onDh n (fun c => c.put r (memNat s.mem q w))).dhDone n (1 + l.length)
      (dhLoadCycles ((x.dev.dh n).ea base l))) :=
    .of_runDh _ hacts hreads harm
      (State.dhLd_loaded (x := { s with dev := s.dev.at_ t }) (Dev.dhReady_of_reads hreads hlen) hlimms hload)
  obtain ⟨e, he, hmem, hlane, hothers, hpursers⟩ :=
    (hfresh.onDh (fun c => c.put r (memNat s.mem q w))).completes hnotice hdoes rfl
  have hword : memNat s.mem q w < 2 ^ 32 :=
    Nat.lt_of_lt_of_le (memNat_lt s.mem q w) (by rcases hw with rfl | rfl | rfl <;> decide)
  refine ⟨e, he, fun k => congrArg (memByte · k) hmem, ?_,
    (((s.dev.dh n).keeps_unshadowed.trans _ (DhCore.keeps_put _ r _)).trans _ (DhCore.keeps_seq _ _)).dhKeeps hlane hothers hpursers⟩
  rw [hlane, DhCore.get_seq, DhCore.get_put_same, Nat.mod_eq_of_lt hword]

end

/-- Settles O10: each width is the frame of a store, or of a load, at its place in memory. -/
theorem deckhandMemoryFrame : Obligations.DeckhandMemoryFrame := by
  refine ⟨?stb, ?ldb, ?sth, ?ldh, ?stw, ?ldw⟩
  case stb =>
    intro s n r base l sh q t d hclean hquiet hruns hsingle hplace haligned hallowed
    exact State.dhSt_frame hclean hquiet hruns (length_dhMemCode _ _ _ _ _) hplace haligned hsingle hallowed rfl
  case sth =>
    intro s n r base l sh q t d hclean hquiet hruns hsingle hplace haligned hallowed
    exact State.dhSt_frame hclean hquiet hruns (length_dhMemCode _ _ _ _ _) hplace haligned hsingle hallowed rfl
  case stw =>
    intro s n r base l sh q t d hclean hquiet hruns hsingle hplace haligned hallowed
    exact State.dhSt_frame hclean hquiet hruns (length_dhMemCode _ _ _ _ _) hplace haligned hsingle hallowed rfl
  case ldb =>
    intro s n r base l q t d hclean hquiet hruns hplace haligned hallowed
    exact State.dhLd_frame hclean hquiet hruns (length_dhMemCode _ _ _ _ _) (.inl rfl) hplace haligned hallowed rfl
  case ldh =>
    intro s n r base l q t d hclean hquiet hruns hplace haligned hallowed
    exact State.dhLd_frame hclean hquiet hruns (length_dhMemCode _ _ _ _ _) (.inr (.inl rfl)) hplace haligned hallowed rfl
  case ldw =>
    intro s n r base l q t d hclean hquiet hruns hplace haligned hallowed
    exact State.dhLd_frame hclean hquiet hruns (length_dhMemCode _ _ _ _ _) (.inr (.inr rfl)) hplace haligned hallowed rfl

end Sys2Proof.Machine
end

section
/-!
SUPPORT. A purser's instructions: a command's effect from its arm and the instruction's own work, and the statements about
arithmetic and immediates.
-/
namespace Sys2Proof.Machine

/-! ## The purser that executes an instruction -/

section
variable {x : State} {p : Nat} {pre body : Bytes} {tw : Twice}

theorem State.puReads_iff :
    x.puReads p pre body tw = true ↔ x.puReady p (pre.length + body.length) tw = true ∧ x.puHolds p pre body = true := by
  simp [State.puReads]

/-- A purser that executes an instruction's bytes is ready for as many. -/
theorem State.puReady_of_reads {len : Nat} (hreads : x.puReads p pre body tw = true) (hlen : pre.length + body.length = len) :
    x.puReady p len tw = true :=
  hlen ▸ (State.puReads_iff.mp hreads).1

end

section
variable {c : Instr} {s : State} {t : Ticks} {p len cycles : Nat} {pre body : Bytes} {tw : Twice} {f : State → State}

/-- A purser's command, of a purser that executes its bytes. -/
theorem DoesAll.of_runPu (g : State → State) (hacts : s.dev.acts = true)
    (hreads : ({ s with dev := s.dev.at_ t } : State).puReads p pre body tw = true) (harm : exec c s = s.runPu t p pre body g)
    (heff : g { s with dev := s.dev.at_ t } = f { s with dev := s.dev.at_ t }) : DoesAll c s t f :=
  .of_runS g (harm.trans (State.runPu_acts s t p pre body g hacts (State.puReads_iff.mp hreads).2)) hacts heff

/-- An instruction that changes its purser's registers alone. -/
theorem DoesAll.of_puReg (h : PuCore → PuCore) {g : PuCore → PuCore} (hacts : s.dev.acts = true)
    (hreads : ({ s with dev := s.dev.at_ t } : State).puReads p pre body tw = true) (hlen : pre.length + body.length = len)
    (harm : exec c s = s.runPu t p pre body (fun x => x.puReg p len cycles tw h)) (heff : ∀ x, h x = g x) :
    DoesAll c s t (fun x => x.puSeq p len cycles tw (fun y => y.onPu p g)) :=
  .of_runPu _ hacts hreads harm (State.puReg_ready _ _ _ _ _ h g (State.puReady_of_reads hreads hlen) heff)

end

/-! ## The length of an instruction (R354–R357) -/

section
variable {pre body : Bytes} {k n m : Nat}

theorem length_pre_add (hpre : pre.length = k) (hbody : body.length = n) : pre.length + body.length = n + k := by
  rw [hpre, hbody, Nat.add_comm]

/-- The body ends in an immediate or a displacement. -/
theorem length_pre_add_operand (hpre : pre.length = k) (hbody : body.length = n + m) : pre.length + body.length = n + k + m := by
  rw [length_pre_add hpre hbody, Nat.add_right_comm]

theorem PuPre.length_riForm (x : PuPre) (k : Nat) (d : Fin 16) (i : PuImm) :
    x.bytes.length + (puRiCode k d i).length = 2 + x.len + i.bytes :=
  length_pre_add_operand x.length_bytes (length_puRiCode k d i)

end

/-! ## Results and flags -/

/-- A result and its flags go into a register. -/
theorem PuCore.gives_congr (c : PuCore) (r : Fin 16) {a b : AluOut} (h : a = b) : c.gives r a.1 a.2 = c.gives r b.1 b.2 := by rw [h]

/-- The flags of a result that no register takes. -/
theorem PuCore.setCond_congr (c : PuCore) {a b : AluOut} (h : a = b) : c.setCond a.2 = c.setCond b.2 := by rw [h]

/-- A register operation at the operation width. -/
theorem DoesAll.of_puAlu {c : Instr} {s : State} {t : Ticks} {p : Nat} {body : Bytes} {x : PuPre} {r src : Fin 16} {g : PuCore → PuCore}
    (op : AluOp) (hacts : s.dev.acts = true) (hreads : ({ s with dev := s.dev.at_ t } : State).puReads p x.bytes body x.twice = true)
    (hlen : body.length = 2) (harm : exec c s = s.runPu t p x.bytes body (fun y => y.puAlu p x op r src))
    (heff : ∀ y, PuCore.alu op x.w r src y = g y) :
    DoesAll c s t (fun y => y.puSeq p (2 + x.len) 1 x.twice (fun y => y.onPu p g)) :=
  .of_puReg _ hacts hreads (length_pre_add x.length_bytes hlen) harm heff

/-- Settles O39: each arm is a register instruction whose operation is the one its clause writes out. -/
theorem purserArithmeticCompletes : Obligations.PurserArithmeticCompletes := by
  refine ⟨?mov, ?add, ?sub, ?adc, ?sbc, ?cmp, ?and, ?or, ?xor, ?tst, ?lsl, ?lsr, ?asr, ?ror, ?mulu, ?muls, ?product⟩
  case mov =>
    intro s p x i j t st hacts hreads
    exact .of_puAlu .mov hacts hreads rfl rfl (fun _ => rfl)
  case add =>
    intro s p x i j t st hacts hreads
    exact .of_puAlu .add hacts hreads rfl rfl (fun c => c.gives_congr i (aluAdd_zero _ _ _))
  case sub =>
    intro s p x i j t st hacts hreads
    exact .of_puAlu .sub hacts hreads rfl rfl (fun c => c.gives_congr i (aluSub_zero _ _ _))
  case adc =>
    intro s p x i j t st hacts hreads
    exact .of_puAlu .adc hacts hreads rfl rfl (fun _ => rfl)
  case sbc =>
    intro s p x i j t st hacts hreads
    exact .of_puAlu .sbc hacts hreads rfl rfl (fun _ => rfl)
  case cmp =>
    intro s p x i j t st hacts hreads
    exact .of_puAlu .cmp hacts hreads rfl rfl (fun c => c.setCond_congr (aluSub_zero _ _ _))
  case and =>
    intro s p x i j t st hacts hreads
    exact .of_puAlu .and hacts hreads rfl rfl (fun _ => rfl)
  case or =>
    intro s p x i j t st hacts hreads
    exact .of_puAlu .or hacts hreads rfl rfl (fun _ => rfl)
  case xor =>
    intro s p x i j t st hacts hreads
    exact .of_puAlu .xor hacts hreads rfl rfl (fun _ => rfl)
  case tst =>
    intro s p x i j t st hacts hreads
    exact .of_puAlu .tst hacts hreads rfl rfl (fun _ => rfl)
  case lsl =>
    intro s p x i j t st hacts hreads
    exact .of_puAlu .lsl hacts hreads rfl rfl (fun _ => rfl)
  case lsr =>
    intro s p x i j t st hacts hreads
    exact .of_puAlu .lsr hacts hreads rfl rfl (fun _ => rfl)
  case asr =>
    intro s p x i j t st hacts hreads
    exact .of_puAlu .asr hacts hreads rfl rfl (fun _ => rfl)
  case ror =>
    intro s p x i j t st hacts hreads
    exact .of_puAlu .ror hacts hreads rfl rfl (fun _ => rfl)
  case mulu =>
    intro s p w i j t st hacts hreads
    exact .of_puReg (PuCore.mul false w i j) hacts hreads (length_pre_add w.length_prefix rfl) rfl
      (fun c => by rw [PuCore.mul, ofNat_productOf_unsigned])
  case muls =>
    intro s p w i j t st hacts hreads
    exact .of_puReg (PuCore.mul true w i j) hacts hreads (length_pre_add w.length_prefix rfl) rfl (fun _ => rfl)
  case product =>
    intro s p q rest t d hacts hrunning hproducts
    exact .of_runS (fun x => if x.dev.flt.chipSafe then x else x.onPu p PuCore.completeProduct) rfl hacts
      ((if_neg (Bool.eq_false_iff.mp hrunning)).trans
        (State.onPu_congr _ _ _ _ (by unfold PuCore.completeProduct; rw [hproducts]; rfl)))

/-! ## Immediates (R356, R357) -/

section
variable {c : Instr} {s : State} {t : Ticks} {p : Nat} {pre body : Bytes} {x : PuPre} {r : Fin 16} {g : PuCore → PuCore}
  (hacts : s.dev.acts = true) (hreads : ({ s with dev := s.dev.at_ t } : State).puReads p x.bytes body x.twice = true)
include hacts hreads

/-- An immediate form whose immediate is no wider than the operation and, but for MOVI, no longer than 4 bytes. -/
theorem DoesAll.of_puAlui (op : AluOp) {imm : PuImm} (hlen : x.bytes.length + body.length = 2 + x.len + imm.bytes)
    (hfits : imm.bytes ≤ x.w.bytes) (hlong : imm.bytes = 8 → op = .mov)
    (harm : exec c s = s.runPu t p x.bytes body (fun y => y.puAlui p x op r imm)) (heff : ∀ y, PuCore.alui op x.w r imm.val y = g y) :
    DoesAll c s t (fun y => y.puSeq p (2 + x.len + imm.bytes) 1 x.twice (fun y => y.onPu p g)) := by
  obtain rfl := funext heff
  refine .of_runPu _ hacts hreads harm (State.purser_seq _ _ _ _ _ _ _ (State.puReady_of_reads hreads hlen) ?_)
  rw [if_neg (by simpa using hlong), if_neg (Nat.not_lt.mpr hfits)]

/-- A shift by an immediate below the width. -/
theorem DoesAll.of_puShift (op : AluOp) {imm : BitVec 8} (hlen : body.length = 3) (hbelow : imm.toNat < x.w.bits)
    (harm : exec c s = s.runPu t p x.bytes body (fun y => y.puShift p x op r imm))
    (heff : ∀ y : PuCore, (let o := aluDo op x.w.bits (y.low r x.w) 0 imm.toNat y.cond; y.gives r o.1 o.2) = g y) :
    DoesAll c s t (fun y => y.puSeq p (3 + x.len) 1 x.twice (fun y => y.onPu p g)) := by
  obtain rfl := funext heff
  have hready := State.puReady_of_reads hreads (length_pre_add x.length_bytes hlen)
  exact .of_runPu _ hacts hreads harm (State.purser_seq _ _ _ _ _ _ _ hready (if_neg (Nat.not_le.mpr hbelow)))

end

/-- R357: NEG subtracts from 0. -/
theorem aluSub_from_zero (w b : Nat) : aluSub w 0 b 0 = ((2 * 2 ^ w - b) % 2 ^ w,
    { c := decide (b = 0), z := decide ((2 * 2 ^ w - b) % 2 ^ w = 0), n := bitOf ((2 * 2 ^ w - b) % 2 ^ w) (w - 1),
      v := decide (signedOf w 0 - signedOf w b ≠ signedOf w ((2 * 2 ^ w - b) % 2 ^ w)) }) := by
  simp [aluSub_zero]

/-- Settles O40: no immediate is too wide, so each arm is a register instruction whose operation is the one its clause writes out. -/
theorem purserImmediatesComplete : Obligations.PurserImmediatesComplete := by
  refine ⟨?movi, ?addi, ?subi, ?cmpi, ?andi, ?ori, ?xori, ?tsti, ?lsli, ?lsri, ?asri, ?rori, ?neg, ?not, ?lea, ?bswap, ?clz, ?popc,
    ?sext, ?zext, ?selz⟩
  case movi =>
    intro s p x i imm t st hacts hreads hfits
    exact .of_puAlui hacts hreads .mov (x.length_riForm _ _ _) hfits (fun _ => rfl) rfl (fun _ => rfl)
  case addi =>
    intro s p x i imm t st hacts hreads hfits hshort
    exact .of_puAlui hacts hreads .add (x.length_riForm _ _ _) hfits (absurd · hshort) rfl
      (fun c => c.gives_congr i (aluAdd_zero _ _ _))
  case subi =>
    intro s p x i imm t st hacts hreads hfits hshort
    exact .of_puAlui hacts hreads .sub (x.length_riForm _ _ _) hfits (absurd · hshort) rfl
      (fun c => c.gives_congr i (aluSub_zero _ _ _))
  case cmpi =>
    intro s p x i imm t st hacts hreads hfits hshort
    exact .of_puAlui hacts hreads .cmp (x.length_riForm _ _ _) hfits (absurd · hshort) rfl
      (fun c => c.setCond_congr (aluSub_zero _ _ _))
  case andi =>
    intro s p x i imm t st hacts hreads hfits hshort
    exact .of_puAlui hacts hreads .and (x.length_riForm _ _ _) hfits (absurd · hshort) rfl (fun _ => rfl)
  case ori =>
    intro s p x i imm t st hacts hreads hfits hshort
    exact .of_puAlui hacts hreads .or (x.length_riForm _ _ _) hfits (absurd · hshort) rfl (fun _ => rfl)
  case xori =>
    intro s p x i imm t st hacts hreads hfits hshort
    exact .of_puAlui hacts hreads .xor (x.length_riForm _ _ _) hfits (absurd · hshort) rfl (fun _ => rfl)
  case tsti =>
    intro s p x i imm t st hacts hreads hfits hshort
    exact .of_puAlui hacts hreads .tst (x.length_riForm _ _ _) hfits (absurd · hshort) rfl (fun _ => rfl)
  case lsli =>
    intro s p x i imm t st hacts hreads hbelow
    exact .of_puShift hacts hreads .lsl rfl hbelow rfl (fun _ => rfl)
  case lsri =>
    intro s p x i imm t st hacts hreads hbelow
    exact .of_puShift hacts hreads .lsr rfl hbelow rfl (fun _ => rfl)
  case asri =>
    intro s p x i imm t st hacts hreads hbelow
    exact .of_puShift hacts hreads .asr rfl hbelow rfl (fun _ => rfl)
  case rori =>
    intro s p x i imm t st hacts hreads hbelow
    exact .of_puShift hacts hreads .ror rfl hbelow rfl (fun _ => rfl)
  case neg =>
    intro s p x i t st hacts hreads
    exact .of_puReg (PuCore.neg x.w i) hacts hreads (length_pre_add x.length_bytes rfl) rfl
      (fun c => c.gives_congr i (aluSub_from_zero _ _))
  case not =>
    intro s p x i t st hacts hreads
    exact .of_puReg (PuCore.inv x.w i) hacts hreads (length_pre_add x.length_bytes rfl) rfl (fun _ => rfl)
  case lea =>
    intro s p y i b e t st hacts hreads
    exact .of_puReg (PuCore.lea y.w i b e) hacts hreads (length_pre_add_operand y.length_bytes (length_puMemCode _ _ _ _)) rfl
      (fun _ => rfl)
  case bswap =>
    intro s p w i t st hacts hreads
    exact .of_puReg (PuCore.bswap w i) hacts hreads (length_pre_add w.length_prefix rfl) rfl (fun _ => rfl)
  case clz =>
    intro s p w i j t st hacts hreads
    exact .of_puReg (PuCore.clz w i j) hacts hreads (length_pre_add w.length_prefix rfl) rfl (fun _ => rfl)
  case popc =>
    intro s p w i j t st hacts hreads
    exact .of_puReg (PuCore.popc w i j) hacts hreads (length_pre_add w.length_prefix rfl) rfl (fun _ => rfl)
  case sext =>
    intro s p w i j t st hacts hreads
    exact .of_puReg (PuCore.sext w i j) hacts hreads (length_pre_add w.length_prefix rfl) rfl (fun _ => rfl)
  case zext =>
    intro s p w i j t st hacts hreads
    exact .of_puReg (PuCore.zext w i j) hacts hreads (length_pre_add w.length_prefix rfl) rfl (fun _ => rfl)
  case selz =>
    intro s p w i j t st hacts hreads
    exact .of_puReg (PuCore.selz w i j) hacts hreads (length_pre_add w.length_prefix rfl) rfl (fun _ => rfl)

end Sys2Proof.Machine
end

section
/-!
SUPPORT. A purser's instructions that reach memory: loads, stores, read-modify-writes and the stack, from what their accesses
answer.
-/
namespace Sys2Proof.Machine

section
variable {x y z u : State} {p v : Nat} {w : PuWidth} {atom write : Bool} {m : PuMem} {r b : Fin 16} {e : Disp}

theorem State.puAtom_plain {a : Nat} (h : atom = false) (body : State → PuEnd) : x.puAtom p a w atom write body = body x := by
  subst h
  rfl

/-- R365: without ATOM the access is made at once; with it, once the notices are delivered and the address has been found
aligned, allowed and in memory. -/
theorem State.puAtom_checked {a : Nat} (hy : y = if atom then x.onDev (fun d => d.puDeliver p) else x)
    (hcheck : atom = true → y.puCheck p a w.log2 write false true = none ∧ (puRam a w.bytes || inPierBuffer a w.bytes) = true)
    (body : State → PuEnd) : x.puAtom p a w atom write body = body y := by
  cases atom with
  | false => rw [hy]; rfl
  | true =>
    obtain ⟨hnone, hplace⟩ := hcheck rfl
    subst hy
    rw [if_pos rfl] at hnone
    simp only [State.puAtom, Bool.not_true, if_true, hnone, hplace]
    rfl

/-- R357, R359: a load whose access is answered. -/
theorem State.puLd_loaded {signed : Bool} (hready : x.puReady p (2 + w.pre + m.len + e.bytes) m.tw = true)
    (hlegal : (signed && m.isAtom) = false)
    (hatom : ∀ body, (x.puBegin p m.tw).puAtom p ((x.dev.pu p).ea b e) w m.isAtom false body = body y)
    (hload : y.puLoad p ((x.dev.pu p).ea b e) w false m.isAtom = .inr (v, z)) :
    x.puLd p w m signed r b e = x.puSeq p (2 + w.pre + m.len + e.bytes) (puLoadCycles p ((x.dev.pu p).ea b e)) m.tw
      (fun _ => z.onPu p (fun c => c.put r (if signed then patternOf 64 (signedOf w.bits v) else v))) := by
  unfold State.puLd
  refine State.purser_seq _ _ _ _ _ _ _ hready ?_
  rw [if_neg (by simp [hlegal]), hatom, hload]

/-- R355, R378: LDS with ATOM is illegal. -/
theorem State.puLds_atom (hready : x.puReady p (2 + w.pre + m.len + e.bytes) m.tw = true) (hatom : m.isAtom = true) :
    x.puLd p w m true r b e = (x.puBegin p m.tw).puFault p { cause := 0x02 } := by
  unfold State.puLd
  refine (State.purser_ready _ _ _ _ _ _ hready).trans ?_
  simp only [hatom, Bool.and_self, if_true]

/-- R357, R359: a store whose access is answered. -/
theorem State.puSt_stored (hready : x.puReady p (2 + w.pre + m.len + e.bytes) m.tw = true)
    (hatom : ∀ body, (x.puBegin p m.tw).puAtom p ((x.dev.pu p).ea b e) w m.isAtom true body = body y)
    (hstore : y.puStore p ((x.dev.pu p).ea b e) w ((y.dev.pu p).low r w) false m.isAtom = .inr z) :
    x.puSt p w m r b e = x.puSeq p (2 + w.pre + m.len + e.bytes) 1 m.tw (fun _ => z) := by
  unfold State.puSt
  refine State.purser_seq _ _ _ _ _ _ _ hready ?_
  rw [hatom, hstore]

section
variable {f : PuCore → Nat → Option Nat × PuCore} {c : PuCore} (hready : x.puReady p (2 + w.pre + b2n atom + e.bytes) none = true)
  (hatom : ∀ body, (x.puBegin p none).puAtom p ((x.dev.pu p).ea b e) w atom true body = body y)
  (hload : y.puLoad p ((x.dev.pu p).ea b e) w false atom = .inr (v, z))
include hready hatom hload

/-- R365: a read-modify-write whose two accesses are answered. -/
theorem State.puRmw_written {n : Nat} (hf : f (z.dev.pu p) v = (some n, c))
    (hstore : z.puStore p ((x.dev.pu p).ea b e) w n false atom = .inr u) :
    x.puRmw p w atom b e f = x.puSeq p (2 + w.pre + b2n atom + e.bytes) (puLoadCycles p ((x.dev.pu p).ea b e) + 2 + 4 * b2n atom) none
      (fun _ => u.onPu p (fun q => { c with posted := q.posted })) := by
  unfold State.puRmw
  refine State.purser_seq _ _ _ _ _ _ _ hready ?_
  simp only [hatom, hload, hf, hstore]

/-- R365: a read-modify-write that writes nothing back. -/
theorem State.puRmw_read (hf : f (z.dev.pu p) v = (none, c)) :
    x.puRmw p w atom b e f = x.puSeq p (2 + w.pre + b2n atom + e.bytes) (puLoadCycles p ((x.dev.pu p).ea b e) + 2 + 4 * b2n atom) none
      (fun _ => z.onPu p (fun _ => c)) := by
  unfold State.puRmw
  refine State.purser_seq _ _ _ _ _ _ _ hready ?_
  simp only [hatom, hload, hf]

end

end

/-! ## What a read-modify-write makes of memory and register (R357) -/

section
variable (c : PuCore) (w : PuWidth) (r : Fin 16) (v : Nat)

theorem PuCore.memOp_add : PuCore.memOp .add w r c v = (some ((v + c.low r w) % 2 ^ w.bits), c.setCond
    { c := decide (2 ^ w.bits ≤ v + c.low r w), z := decide ((v + c.low r w) % 2 ^ w.bits = 0)
      n := bitOf ((v + c.low r w) % 2 ^ w.bits) (w.bits - 1)
      v := decide (signedOf w.bits v + signedOf w.bits (c.low r w) ≠ signedOf w.bits ((v + c.low r w) % 2 ^ w.bits)) }) := by
  simp only [PuCore.memOp, aluDo, aluAdd_zero]

theorem PuCore.cas_equal (h : v = c.low 0 w) : PuCore.cas w r c v = (some (c.low r w), { c with z := true }) := if_pos h

theorem PuCore.cas_differs (h : v ≠ c.low 0 w) : PuCore.cas w r c v = (none, { c.put 0 v with z := false }) := if_neg h

end

section
variable {pre own : Bytes} {k l op : Nat} {r b : Fin 16} {e : Disp} (hpre : pre.length = k) (hown : own.length = l)
include hpre hown

theorem length_memForm : (pre ++ own).length + (puMemCode op r b e).length = 2 + k + l + e.bytes := by
  rw [length_pre_add_operand List.length_append (length_puMemCode op r b e), hpre, hown, ← Nat.add_assoc]

theorem State.puReady_of_memForm {x : State} {p : Nat} {tw : Twice} (hreads : x.puReads p (pre ++ own) (puMemCode op r b e) tw = true) :
    x.puReady p (2 + k + l + e.bytes) tw = true :=
  State.puReady_of_reads hreads (length_memForm hpre hown)

end

/-- Settles O41: the accesses of each instruction are answered, so its work is done in sequence. -/
theorem purserMemoryCompletes : Obligations.PurserMemoryCompletes := by
  refine ⟨?ld, ?ldAtom, ?lds, ?ldsAtom, ?st, ?stAtom, ?madd, ?mand, ?mor, ?mxor, ?xchg, ?cas, ?casDiffers, ?push, ?pop⟩
  case ld =>
    intro s p w m r b e v z t d st hacts hreads hplain hload
    have hready := State.puReady_of_memForm w.length_prefix m.length_bytes hreads
    exact .of_runPu (fun x => x.puLd p w m false r b e) hacts hreads rfl
      (State.puLd_loaded (x := st) hready rfl (State.puAtom_plain hplain) (hplain ▸ hload))
  case ldAtom =>
    intro s p w m r b e v y z t d st hacts hreads hm hy hcheck hplace hload
    have hready := State.puReady_of_memForm w.length_prefix m.length_bytes hreads
    exact .of_runPu (fun x => x.puLd p w m false r b e) hacts hreads rfl
      (State.puLd_loaded (x := st) hready rfl
        (State.puAtom_checked (by rw [hm]; exact hy) (fun _ => ⟨hcheck, hplace⟩)) (hm ▸ hload))
  case lds =>
    intro s p w m r b e v z t d st hacts hreads hplain hload
    have hready := State.puReady_of_memForm w.length_prefix m.length_bytes hreads
    exact .of_runPu (fun x => x.puLd p w m true r b e) hacts hreads rfl
      (State.puLd_loaded (x := st) hready hplain (State.puAtom_plain hplain) (hplain ▸ hload))
  case ldsAtom =>
    intro s p w m r b e t st hacts hreads hm
    have hready := State.puReady_of_memForm w.length_prefix m.length_bytes hreads
    exact .of_runPu (fun x => x.puLd p w m true r b e) hacts hreads rfl (State.puLds_atom hready hm)
  case st =>
    intro s p w m r b e z t d st hacts hreads hplain hstore
    have hready := State.puReady_of_memForm w.length_prefix m.length_bytes hreads
    exact .of_runPu (fun x => x.puSt p w m r b e) hacts hreads rfl
      (State.puSt_stored (x := st) hready (State.puAtom_plain hplain) (hplain ▸ hstore))
  case stAtom =>
    intro s p w m r b e y z t d st hacts hreads hm hy hcheck hplace hstore
    have hready := State.puReady_of_memForm w.length_prefix m.length_bytes hreads
    exact .of_runPu (fun x => x.puSt p w m r b e) hacts hreads rfl
      (State.puSt_stored (x := st) hready
        (State.puAtom_checked (by rw [hm]; exact hy) (fun _ => ⟨hcheck, hplace⟩)) (hm ▸ hstore))
  case madd =>
    intro s p w atom r b e v y z u t d st hacts hreads hy hcheck hload hstore
    have hready := State.puReady_of_memForm w.length_prefix (length_atomPre atom) hreads
    exact .of_runPu (fun x => x.puRmw p w atom b e (PuCore.memOp .add w r)) hacts hreads rfl
      (State.puRmw_written (x := st) hready (State.puAtom_checked hy hcheck) hload ((z.dev.pu p).memOp_add w r v) hstore)
  case mand =>
    intro s p w atom r b e v y z u t d st hacts hreads hy hcheck hload hstore
    have hready := State.puReady_of_memForm w.length_prefix (length_atomPre atom) hreads
    exact .of_runPu (fun x => x.puRmw p w atom b e (PuCore.memOp .and w r)) hacts hreads rfl
      (State.puRmw_written (x := st) hready (State.puAtom_checked hy hcheck) hload rfl hstore)
  case mor =>
    intro s p w atom r b e v y z u t d st hacts hreads hy hcheck hload hstore
    have hready := State.puReady_of_memForm w.length_prefix (length_atomPre atom) hreads
    exact .of_runPu (fun x => x.puRmw p w atom b e (PuCore.memOp .or w r)) hacts hreads rfl
      (State.puRmw_written (x := st) hready (State.puAtom_checked hy hcheck) hload rfl hstore)
  case mxor =>
    intro s p w atom r b e v y z u t d st hacts hreads hy hcheck hload hstore
    have hready := State.puReady_of_memForm w.length_prefix (length_atomPre atom) hreads
    exact .of_runPu (fun x => x.puRmw p w atom b e (PuCore.memOp .xor w r)) hacts hreads rfl
      (State.puRmw_written (x := st) hready (State.puAtom_checked hy hcheck) hload rfl hstore)
  case xchg =>
    intro s p w atom r b e v y z u t d st hacts hreads hy hcheck hload hstore
    have hready := State.puReady_of_memForm w.length_prefix (length_atomPre atom) hreads
    exact .of_runPu (fun x => x.puRmw p w atom b e (PuCore.xchg w r)) hacts hreads rfl
      (State.puRmw_written (x := st) hready (State.puAtom_checked hy hcheck) hload rfl hstore)
  case cas =>
    intro s p w atom r b e v y z u t d st hacts hreads hy hcheck hload hequal hstore
    have hready := State.puReady_of_memForm w.length_prefix (length_atomPre atom) hreads
    exact .of_runPu (fun x => x.puRmw p w atom b e (PuCore.cas w r)) hacts hreads rfl
      (State.puRmw_written (x := st) (c := { z.dev.pu p with z := true }) hready
        (State.puAtom_checked hy hcheck) hload ((z.dev.pu p).cas_equal w r v hequal) hstore)
  case casDiffers =>
    intro s p w atom r b e v y z t d st hacts hreads hy hcheck hload hdiffers
    have hready := State.puReady_of_memForm w.length_prefix (length_atomPre atom) hreads
    exact .of_runPu (fun x => x.puRmw p w atom b e (PuCore.cas w r)) hacts hreads rfl
      (State.puRmw_read (x := st) hready (State.puAtom_checked hy hcheck) hload
        ((z.dev.pu p).cas_differs w r v hdiffers))
  case push =>
    intro s p r k z t st hacts hreads hpush
    exact .of_runPu (fun x => x.puPushI p r k) hacts hreads rfl
      (State.purser_seq _ _ _ _ _ _ _ (State.puReady_of_reads hreads rfl) (by rw [hpush]))
  case pop =>
    intro s p r k v z t st hacts hreads htop
    exact .of_runPu (fun x => x.puPopI p r k) hacts hreads rfl
      (State.purser_seq _ _ _ _ _ _ _ (State.puReady_of_reads hreads rfl) (by rw [htop]))

end Sys2Proof.Machine
end

section
/-!
SUPPORT. A purser's control and its special registers.
-/
namespace Sys2Proof.Machine

/-! ## Control and modes (R357, R360, R366–R368) -/

section
variable {x y : State} {p : Nat} {r st : Fin 16}

section
variable {tw : Twice}

/-- R357: BR goes to the address after the instruction plus the offset. -/
theorem State.puBr_taken {rel : PuRel} (hready : x.puReady p (1 + b2n tw.isSome + rel.bytes) tw = true) :
    x.puBr p tw rel = x.puJump p (1 + b2n tw.isSome + rel.bytes) 3 tw id
      (patternOf 64 ((((x.puBegin p tw).dev.pu p).next (1 + b2n tw.isSome + rel.bytes) : Int) + rel.val)) := by
  unfold State.puBr
  exact State.purser_jump _ _ _ _ _ _ id _ hready rfl

/-- R357: CALL pushes the address after the instruction and goes to that address plus the offset. -/
theorem State.puCall_taken {rel : BitVec 32} (hready : x.puReady p (6 + b2n tw.isSome) tw = true)
    (hpush : (x.puBegin p tw).puPush p st (fun _ => ((x.puBegin p tw).dev.pu p).next (6 + b2n tw.isSome)) = .inr y) :
    x.puCall p tw st rel = x.puJump p (6 + b2n tw.isSome) 3 tw (fun _ => y)
      (patternOf 64 ((((x.puBegin p tw).dev.pu p).next (6 + b2n tw.isSome) : Int) + rel.toInt)) := by
  unfold State.puCall
  refine State.purser_jump _ _ _ _ _ _ _ _ hready ?_
  simp only [hpush]

/-- R357: CALLR pushes the address after the instruction and goes to a register's address. -/
theorem State.puCallr_taken (hready : x.puReady p (2 + b2n tw.isSome) tw = true)
    (hpush : (x.puBegin p tw).puPush p st (fun c => c.next (2 + b2n tw.isSome)) = .inr y) :
    x.puCallr p tw r st = x.puJump p (2 + b2n tw.isSome) 3 tw (fun _ => y) ((y.dev.pu p).get r) := by
  unfold State.puCallr
  refine State.purser_jump _ _ _ _ _ _ _ _ hready ?_
  rw [hpush]

end

/-- The state in which the context of the TSB at `a` goes on (R368, R382). -/
def State.resumed (y : State) (p a : Nat) : State :=
  y.onPu p (fun c => { c.drained.load (memRead y.mem a 256) with tsbp := BitVec.ofNat 64 a, handler := false })

theorem State.puResume_eq (y : State) (p a : Nat) :
    y.puResume p a = .jump (y.resumed p a) ((y.resumed p a).dev.pu p).pc.toNat := rfl

/-- The state in which the running context is saved in the TSB at `a`, with the PC after TSW (R368). -/
def State.switchedOut (y : State) (p a : Nat) : State :=
  { y with mem := memWrite y.mem a (puTsb { (y.dev.pu p).drained with pc := BitVec.ofNat 64 ((y.dev.pu p).next 2) } { cause := 0 } 0 0) }

/-- R368: TRET of a supervisor, to a valid TSB. -/
theorem State.puTret_resumes {a : Nat} (hready : x.puReady p 1 none = true) (ha : ((x.puBegin p none).dev.pu p).tsbp.toNat = a)
    (hmode : ((x.puBegin p none).dev.pu p).task = false) (hvalid : (x.puBegin p none).dev.puTsbOk p a = true) :
    x.puTret p = x.puJump p 1 24 none (fun _ => (x.puBegin p none).resumed p a) (((x.puBegin p none).resumed p a).dev.pu p).pc.toNat := by
  subst ha
  refine State.purser_jump _ _ _ _ _ _ _ _ hready ?_
  rw [if_neg (by simp [hmode]), if_pos hvalid, State.puResume_eq]

section
variable {a : Nat} (hready : x.puReady p 2 none = true) (ha : ((x.puBegin p none).dev.pu p).get r = a)
  (hmode : ((x.puBegin p none).dev.pu p).task = false) (hvalid : (x.puBegin p none).dev.puTsbOk p a = true)
include hready ha hmode hvalid

/-- R368, R388: TSW of a handler saves nothing. -/
theorem State.puTsw_handler (hhandler : ((x.puBegin p none).dev.pu p).handler = true) :
    x.puTsw p r = x.puJump p 2 48 none (fun _ => (x.puBegin p none).resumed p a) (((x.puBegin p none).resumed p a).dev.pu p).pc.toNat := by
  subst ha
  refine State.purser_jump _ _ _ _ _ _ _ _ hready ?_
  rw [if_neg (by simp [hmode]), if_neg (by simp [hvalid]), if_pos hhandler, State.puResume_eq]

/-- R368, R388: TSW outside a handler saves the running context. -/
theorem State.puTsw_saves {old : Nat} (hhandler : ((x.puBegin p none).dev.pu p).handler = false)
    (hold : ((x.puBegin p none).dev.pu p).tsbp.toNat = old) (hsaves : (x.puBegin p none).dev.puTsbOk p old = true) :
    x.puTsw p r = x.puJump p 2 48 none (fun _ => ((x.puBegin p none).switchedOut p old).resumed p a)
      ((((x.puBegin p none).switchedOut p old).resumed p a).dev.pu p).pc.toNat := by
  subst ha hold
  refine State.purser_jump _ _ _ _ _ _ _ _ hready ?_
  rw [if_neg (by simp [hmode]), if_neg (by simp [hvalid]), if_neg (by simp [hhandler]), if_neg (by simp [hsaves]), ← State.puResume_eq]
  rfl

end

/-- R331: only condition 14 asks for events. -/
theorem Flags.holds_of_ne (f : Flags) (ev : Bool) {cc : Nat} (hcc : cc ≠ 14) : f.holds ev cc = f.holds false cc := by
  unfold Flags.holds
  split
  case h_15 => contradiction
  all_goals rfl

/-- R360: SKcc on the condition flags. -/
theorem State.puSkip_flags {tw : Twice} {cc : Fin 16} (hready : x.puReady p (1 + b2n tw.isSome) tw = true) (hcc : cc ≠ 14) :
    x.puSkip p tw cc = x.puSeq p (1 + b2n tw.isSome) 1 tw (fun y => y.onPu p (fun c =>
      { c with skip := c.cond.holds false cc, shadow := true })) := by
  refine State.purser_seq _ _ _ _ _ _ _ hready ?_
  simp only [if_neg hcc, Flags.holds_of_ne _ _ (fun h : (cc : Nat) = 14 => hcc (Fin.ext h))]

/-- R357, R466: RND while the random source serves. -/
theorem State.puRnd_serves (hready : x.puReady p 3 none = true) (hup : (x.puBegin p none).dev.rngUp = true) :
    x.puRnd p r = x.puSeq p 3 40 none (fun y => ({ y with dev := (y.dev.rngRequest p).take.2 } : State).onPu p (fun c =>
      { c with x := c.x.set r (Config.freeWord (y.dev.rngRequest p).take.1) })) := by
  refine State.purser_seq _ _ _ _ _ _ _ hready ?_
  unfold Dev.rngUp at hup
  cases hstate : (x.puBegin p none).dev.cry.rng.state with
  | ok | degraded => rfl
  | starting | failed => simp [hstate] at hup

end

/-! ## MTS (R350, R351, R367) -/

section
variable {x : State} {p : Nat} {r sr : Fin 16} {f : PuCore → PuCore} (hready : x.puReady p 2 none = true)
include hready

/-- R367: MTS of FLAGS by a supervisor. -/
theorem State.puMts_flags (hmode : ((x.puBegin p none).dev.pu p).task = false) :
    x.puMts p 0 r = x.puSeq p 2 1 none (fun y => y.onPu p (fun c => { c with
      c := bitOf ((y.dev.pu p).get r) 0, z := bitOf ((y.dev.pu p).get r) 1, n := bitOf ((y.dev.pu p).get r) 2
      v := bitOf ((y.dev.pu p).get r) 3, ie := bitOf ((y.dev.pu p).get r) 4 })) := by
  refine State.purser_seq _ _ _ _ _ _ _ hready ?_
  dsimp only [Fin.val_zero]
  rw [if_neg (by simp [hmode])]
  exact congrArg _ (State.onPu_congr _ _ _ _ (by rw [if_neg (by simp [hmode])]))

end

/-- Settles O42: each instruction's own tests come out so that its work is done, in sequence or with a transfer of control. -/
theorem purserControlCompletes : Obligations.PurserControlCompletes := by
  refine ⟨?nop, ?wait, ?fence, ?snap, ?tret, ?tswHandler, ?tsw, ?br, ?call, ?jr, ?callr, ?ret, ?skcc, ?skev, ?mfs, ?mtsFlags, ?mtsPl,
    ?mtsPh, ?mtsTsbp, ?mtsKwin, ?rnd⟩
  case nop =>
    intro s p t st hacts hreads
    exact .of_runPu (fun x => x.purser p 1 1 none .seq) hacts hreads rfl
      (State.purser_seq _ _ _ _ _ _ _ (State.puReady_of_reads hreads rfl) rfl)
  case wait =>
    intro s p t st hacts hreads
    exact .of_runPu (fun x => x.puWait p) hacts hreads rfl
      (State.purser_seq _ _ _ _ _ _ _ (State.puReady_of_reads hreads rfl) rfl)
  case fence =>
    intro s p t st hacts hreads
    exact .of_runPu (fun x => x.puFence p) hacts hreads rfl
      (State.purser_seq _ _ _ _ _ _ _ (State.puReady_of_reads hreads rfl) rfl)
  case snap =>
    intro s p r t st hacts hreads
    exact .of_runPu (fun x => x.puReg p 2 4 none (PuCore.snap r x.dev.now)) hacts hreads rfl
      (State.puReg_ready _ _ _ _ _ _ _ (State.puReady_of_reads hreads rfl) (fun _ => rfl))
  case tret =>
    intro s p t st hacts hreads hmode hvalid
    exact .of_runPu (fun x => x.puTret p) hacts hreads rfl
      (State.puTret_resumes (State.puReady_of_reads hreads rfl) rfl hmode hvalid)
  case tswHandler =>
    intro s p r t st hacts hreads hmode hvalid hhandler
    exact .of_runPu (fun x => x.puTsw p r) hacts hreads rfl
      (State.puTsw_handler (State.puReady_of_reads hreads rfl) rfl hmode hvalid hhandler)
  case tsw =>
    intro s p r t st hacts hreads hmode hvalid hhandler hsaves
    exact .of_runPu (fun x => x.puTsw p r) hacts hreads rfl
      (State.puTsw_saves (State.puReady_of_reads hreads rfl) rfl hmode hvalid hhandler rfl hsaves)
  case br =>
    intro s p tw rel t st hacts hreads
    exact .of_runPu (fun x => x.puBr p tw rel) hacts hreads rfl
      (State.puBr_taken (State.puReady_of_reads hreads (length_pre_add_operand (length_twicePre tw) (length_puBrCode rel))))
  case call =>
    intro s p tw k rel z t st hacts hreads hpush
    exact .of_runPu (fun x => x.puCall p tw k rel) hacts hreads rfl
      (State.puCall_taken (State.puReady_of_reads hreads (length_pre_add (length_twicePre tw) rfl)) hpush)
  case jr =>
    intro s p tw r t st hacts hreads
    exact .of_runPu (fun x => x.puJr p tw r) hacts hreads rfl
      (State.purser_jump _ _ _ _ _ _ id _ (State.puReady_of_reads hreads (length_pre_add (length_twicePre tw) rfl)) rfl)
  case callr =>
    intro s p tw r k z t st hacts hreads hpush
    exact .of_runPu (fun x => x.puCallr p tw r k) hacts hreads rfl
      (State.puCallr_taken (State.puReady_of_reads hreads (length_pre_add (length_twicePre tw) rfl)) hpush)
  case ret =>
    intro s p tw k v z t st hacts hreads htop
    exact .of_runPu (fun x => x.puRet p tw k) hacts hreads rfl
      (State.purser_jump _ _ _ _ _ _ _ _ (State.puReady_of_reads hreads (length_pre_add (length_twicePre tw) rfl)) (by rw [htop]))
  case skcc =>
    intro s p tw cc t st hacts hreads hcc
    exact .of_runPu (fun x => x.puSkip p tw cc) hacts hreads rfl
      (State.puSkip_flags (State.puReady_of_reads hreads (length_pre_add (length_twicePre tw) rfl)) hcc)
  case skev =>
    intro s p tw t st hacts hreads
    exact .of_runPu (fun x => x.puSkip p tw 14) hacts hreads rfl
      (State.purser_seq _ _ _ _ _ _ _ (State.puReady_of_reads hreads (length_pre_add (length_twicePre tw) rfl)) rfl)
  case mfs =>
    intro s p tw r k t st hacts hreads
    exact .of_puReg (fun c => c.put r (c.mfs p k)) hacts hreads (length_pre_add (length_twicePre tw) rfl) rfl (fun _ => rfl)
  case mtsFlags =>
    intro s p r t st hacts hreads hmode
    exact .of_runPu (fun x => x.puMts p 0 r) hacts hreads rfl (State.puMts_flags (State.puReady_of_reads hreads rfl) hmode)
  case mtsPl =>
    intro s p r t st hacts hreads
    exact .of_runPu (fun x => x.puMts p 1 r) hacts hreads rfl
      (State.purser_seq _ _ _ _ _ _ _ (State.puReady_of_reads hreads rfl) rfl)
  case mtsPh =>
    intro s p r t st hacts hreads
    exact .of_runPu (fun x => x.puMts p 2 r) hacts hreads rfl
      (State.purser_seq _ _ _ _ _ _ _ (State.puReady_of_reads hreads rfl) rfl)
  case mtsTsbp =>
    intro s p r t st hacts hreads hmode
    exact .of_runPu (fun x => x.puMts p 3 r) hacts hreads rfl
      (State.purser_seq _ _ _ _ _ _ _ (State.puReady_of_reads hreads rfl) (if_neg (Bool.eq_false_iff.mp hmode)))
  case mtsKwin =>
    intro s p r t st hacts hreads hmode
    exact .of_runPu (fun x => x.puMts p 6 r) hacts hreads rfl
      (State.purser_seq _ _ _ _ _ _ _ (State.puReady_of_reads hreads rfl) (if_neg (Bool.eq_false_iff.mp hmode)))
  case rnd =>
    intro s p r t st hacts hreads hup
    exact .of_runPu (fun x => x.puRnd p r) hacts hreads rfl (State.puRnd_serves (State.puReady_of_reads hreads rfl) hup)

end Sys2Proof.Machine
end

section
/-!
SUPPORT. A purser's block operations, KEYWIN among them, its interrupts and its illegal encodings.
-/
namespace Sys2Proof.Machine

/-! ## Block operations (R363) -/

theorem PuRep.length_code (x : PuRep) {body : Bytes} {n : Nat} (h : body.length = n) :
    x.bytes.length + body.length = n + x.w.pre + b2n x.rep := by
  rw [x.length_bytes, h, Nat.add_comm, Nat.add_assoc]

/-- KEYWIN makes MOVS a byte longer. -/
theorem PuRep.length_movs (x : PuRep) (keywin : Bool) :
    (x.bytes ++ (if keywin then [0xF6] else [])).length + ([0x90] : Bytes).length = 1 + b2n keywin + x.w.pre + b2n x.rep := by
  rw [List.length_append, x.length_bytes]
  cases keywin <;> simp [b2n] <;> omega

section
variable {s y : State} {p : Nat} {x : PuRep} {len per : Nat} {src dst : Bool} {step : State → BlockStep} {done : State → State}
  (hready : s.puReady p (len + x.w.pre + b2n x.rep) none = true)
include hready

/-- A run of elements that no fault and no interrupt ends. -/
theorem State.puBlock_run (hrep : x.rep = true)
    (hends : puBlockFuel p step done (((s.puBegin p none).dev.pu p).get 12 + 1)
      (if (s.dev.pu p).shadow then none else x.upTo.map (fun e => (e.1, e.2.val))) (s.puBegin p none) = .seq y) :
    s.puBlock p x len per src dst step done =
      s.puSeq p (len + x.w.pre + b2n x.rep) (puBlockCycles (s.dev.pu p) x per src dst) none (fun _ => y) := by
  unfold State.puBlock
  refine State.purser_seq _ _ _ _ _ _ _ hready ?_
  rw [if_pos hrep]
  exact hends

/-- The one element of an operation without REP. -/
theorem State.puBlock_one (hrep : x.rep = false) (hstep : step (s.puBegin p none) = .more y) :
    s.puBlock p x len per src dst step done =
      s.puSeq p (len + x.w.pre + b2n x.rep) (puBlockCycles (s.dev.pu p) x per src dst) none (fun _ => done y) := by
  unfold State.puBlock
  refine State.purser_seq _ _ _ _ _ _ _ hready ?_
  rw [if_neg (by simp [hrep]), hstep]

end

/-! ## KEYWIN (R366, R470) -/

section
variable {s : State} {p : Nat} {w : PuWidth} {n src dst : Nat}

/-- A move into the key of the slot that KWIN selects, by a supervisor with OPS PORT and from purser RAM. -/
theorem State.puKeywin_intoSlot (hready : s.puReady p (3 + w.pre) none = true)
    (hmode : ((s.puBegin p none).dev.pu p).task = false) (hcount : (s.dev.pu p).get 12 = n)
    (hn : ((s.puBegin p none).dev.pu p).get 12 = n) (hsrc : ((s.puBegin p none).dev.pu p).get 13 = src)
    (hdst : ((s.puBegin p none).dev.pu p).get 14 = dst) (hsome : n ≠ 0) (hfits : n * w.bytes ≤ 512)
    (hslot : bitOf ((s.puBegin p none).dev.pu p).kwin.toNat 12 = true)
    (huse : ((s.puBegin p none).dev.keyUse (keyhOf (((s.puBegin p none).dev.pu p).kwin.toNat % 4096)
      ((s.puBegin p none).dev.keySlot (((s.puBegin p none).dev.pu p).kwin.toNat % 4096))) [6] .firmware).isSome = true)
    (hmove : (s.puBegin p none).puMoveCheck p w src n false = none) (hram : puRam src (n * w.bytes) = true)
    (hkey : dst + n * w.bytes ≤ ((s.puBegin p none).dev.keySlot (((s.puBegin p none).dev.pu p).kwin.toNat % 4096)).key.length) :
    s.puKeywin p w =
      (let slot := ((s.puBegin p none).dev.pu p).kwin.toNat % 4096
       s.puSeq p (3 + w.pre) (20 + (n * w.bytes + 7) / 8) none (fun y =>
        (y.onDev (fun d => d.setKeySlot slot
          { y.dev.keySlot slot with key := overlayB (y.dev.keySlot slot).key dst (memRead y.mem src (n * w.bytes)) })).onPu p
          (fun c => ((c.put 12 0).put 13 ((src + n * w.bytes) % 2 ^ 64)).put 14 ((dst + n * w.bytes) % 2 ^ 64)))) := by
  have hhas := Option.isNone_eq_false_iff.mpr huse
  unfold State.puKeywin
  simp only [hcount]
  refine State.purser_seq _ _ _ _ _ _ _ hready ?_
  simp only [hmode, hn, hsrc, hdst, hhas, hslot, hmove, hram, hsome, Nat.not_lt.mpr hfits, Nat.not_lt.mpr hkey, Bool.not_true,
    Bool.false_or, decide_false, Bool.false_eq_true, if_false]

end

/-! ## Interrupts and illegal encodings (R357, R378, R386) -/

/-- R386: an interrupt that FLAGS.IE admits, outside a handler, ends a WAIT and is taken. -/
theorem State.puInterrupt_taken {x : State} {p source : Nat}
    (hruns : (x.dev.pu p).parked = false ∧ x.dev.flt.chipSafe = false ∧ (x.dev.pu p).shadow = false ∧ (x.dev.pu p).skip = false ∧
      (x.dev.pu p).notice = false)
    (htakes : (x.dev.pu p).ie = true ∧ (x.dev.pu p).handler = false) :
    x.puInterrupt p source = (x.onPu p (fun c => { c with waiting := false })).puInterruptNow p source := by
  obtain ⟨hparked, hsafe, hshadow, hskip, hnotice⟩ := hruns
  obtain ⟨hie, hhandler⟩ := htakes
  simp only [State.puInterrupt, hparked, hsafe, hshadow, hskip, hnotice, hie, hhandler, Bool.or_false, Bool.false_eq_true, if_false,
    Bool.not_false, Bool.and_self, if_true]

/-- R378: an illegal encoding that is met raises its cause. -/
theorem State.puIllegalAt_met {x : State} {p len cause : Nat} (hready : x.puReady p len none = true) :
    x.puIllegalAt p len cause = (x.puBegin p none).puFault p { cause := cause } :=
  State.purser_ready _ _ _ _ _ _ hready

/-- PU_ILLEGAL_OPCODE: what is met at the PC, if it is the illegal encoding. -/
def State.illegalOpcode (x : State) (p : Nat) (n : Fin 15) (k : Fin 4) : State :=
  if (x.dev.pu p).running.isNone || puIllegal (memRead x.mem (x.dev.pu p).pc.toNat 15) = some (1 + n.val, 1 + k.val) then
    x.puIllegalAt p (1 + n) (1 + k)
  else x

/-- Settles O43: no element faults and no interrupt comes between, so each block operation completes in sequence. -/
theorem purserBlockOperationsComplete : Obligations.PurserBlockOperationsComplete := by
  refine ⟨?movs, ?movsOne, ?fils, ?filsOne, ?cmps, ?cmpsOne, ?scns, ?scnsOne, ?crcs, ?crcsOne, ?keywin, ?interrupt, ?illegal⟩
  case movs =>
    intro s p x y t d st hacts hreads hrep hends
    exact .of_runPu (fun z => z.puMovs p x false) hacts hreads rfl
      (State.puBlock_run (State.puReady_of_reads hreads (x.length_movs false)) hrep hends)
  case movsOne =>
    intro s p x y t st hacts hreads hrep hstep
    exact .of_runPu (fun z => z.puMovs p x false) hacts hreads rfl
      (State.puBlock_one (State.puReady_of_reads hreads (x.length_movs false)) hrep hstep)
  case fils =>
    intro s p x y t d st hacts hreads hrep hends
    exact .of_runPu (fun z => z.puBlock p x 1 16 false true (puFilsStep p x.w) id) hacts hreads rfl
      (State.puBlock_run (State.puReady_of_reads hreads (x.length_code rfl)) hrep hends)
  case filsOne =>
    intro s p x y t st hacts hreads hrep hstep
    exact .of_runPu (fun z => z.puBlock p x 1 16 false true (puFilsStep p x.w) id) hacts hreads rfl
      (State.puBlock_one (State.puReady_of_reads hreads (x.length_code rfl)) hrep hstep)
  case cmps =>
    intro s p x y t d st hacts hreads hrep hends
    exact .of_runPu (fun z => z.puBlock p x 1 16 true true (puCmpsStep p x.w) (fun q => q.puZ p true)) hacts hreads rfl
      (State.puBlock_run (State.puReady_of_reads hreads (x.length_code rfl)) hrep hends)
  case cmpsOne =>
    intro s p x y t st hacts hreads hrep hstep
    exact .of_runPu (fun z => z.puBlock p x 1 16 true true (puCmpsStep p x.w) (fun q => q.puZ p true)) hacts hreads rfl
      (State.puBlock_one (State.puReady_of_reads hreads (x.length_code rfl)) hrep hstep)
  case scns =>
    intro s p x y t d st hacts hreads hrep hends
    exact .of_runPu (fun z => z.puBlock p x 1 16 true false (puScnsStep p x.w) (fun q => q.puZ p false)) hacts hreads rfl
      (State.puBlock_run (State.puReady_of_reads hreads (x.length_code rfl)) hrep hends)
  case scnsOne =>
    intro s p x y t st hacts hreads hrep hstep
    exact .of_runPu (fun z => z.puBlock p x 1 16 true false (puScnsStep p x.w) (fun q => q.puZ p false)) hacts hreads rfl
      (State.puBlock_one (State.puReady_of_reads hreads (x.length_code rfl)) hrep hstep)
  case crcs =>
    intro s p x r y t d st hacts hreads hrep hends
    exact .of_runPu (fun z => z.puBlock p x 2 8 true false (puCrcsStep p x.w r) id) hacts hreads rfl
      (State.puBlock_run (State.puReady_of_reads hreads (x.length_code rfl)) hrep hends)
  case crcsOne =>
    intro s p x r y t st hacts hreads hrep hstep
    exact .of_runPu (fun z => z.puBlock p x 2 8 true false (puCrcsStep p x.w r) id) hacts hreads rfl
      (State.puBlock_one (State.puReady_of_reads hreads (x.length_code rfl)) hrep hstep)
  case keywin =>
    intro s p x n src dst t d st hacts hreads hrep hmode hregs hsize hslot huse hmove hplaces
    obtain ⟨hcount, hn, hsrc, hdst⟩ := hregs
    obtain ⟨hsome, hfits⟩ := hsize
    obtain ⟨hram, hkey⟩ := hplaces
    have hlen : (x.bytes ++ (if true then [0xF6] else [])).length + ([0x90] : Bytes).length = 3 + x.w.pre := by
      rw [x.length_movs true, hrep, Nat.add_right_comm]
      rfl
    exact .of_runPu (fun z => z.puMovs p x true) hacts hreads rfl
      ((if_pos hrep).trans (State.puKeywin_intoSlot (State.puReady_of_reads hreads hlen) hmode hcount hn hsrc hdst hsome hfits hslot huse
        hmove hram hkey))
  case interrupt =>
    intro s p e t d hacts hruns htakes
    exact .of_runS (fun x => x.puInterrupt p e) rfl hacts (State.puInterrupt_taken hruns htakes)
  case illegal =>
    intro s p n k t st hacts hready hmet
    exact .of_runS (fun x => x.illegalOpcode p n k) rfl hacts ((if_pos (by simpa using hmet)).trans (State.puIllegalAt_met hready))

end Sys2Proof.Machine
end

section
/-!
SUPPORT. The services that a task calls, the end of a wait, ENABLE and the slice of a task, and what a core is told of a fetch or
a store that failed.
-/
namespace Sys2Proof.Machine

/-! ## Services (R372, R374) -/

/-- A service that the task `k` calls, from what it does once SVC is counted. -/
theorem DoesAll.of_svc {c : Instr} {s : State} {t : Ticks} {p k imm : Nat} {body : Bytes} {f : State → State}
    (serve : Nat → State → State)
    (hacts : s.dev.acts = true) (hreads : ({ s with dev := s.dev.at_ t } : State).puReads p [] body none = true)
    (hlen : body.length = 2) (htask : ((({ s with dev := s.dev.at_ t } : State).puBegin p none).dev.pu p).running = some k)
    (harm : exec c s = s.runPu t p [] body (fun x => x.puSvc p imm serve))
    (hserves : serve k (({ s with dev := s.dev.at_ t } : State).puCalls p) = f { s with dev := s.dev.at_ t }) : DoesAll c s t f :=
  .of_runPu _ hacts hreads harm
    ((State.puSvc_task _ _ _ _ _ (State.puReady_of_reads hreads (by rw [hlen]; rfl)) htask).trans hserves)

section
variable {x y : State} {p k : Nat}

/-- A random source that serves has not failed. -/
theorem Dev.rng_not_failed {d : Dev} (hup : d.rngUp = true) : (d.cry.rng.state != .failed) = true := by
  unfold Dev.rngUp at hup
  cases hstate : d.cry.rng.state with
  | ok | degraded => rfl
  | starting | failed => simp [hstate] at hup

variable (hready : x.puReady p 2 none = true) (htask : ((x.puBegin p none).dev.pu p).running = some k) (hy : y = x.puCalls p)
include hready htask hy

/-- R374: RANDOM fills a buffer of 1 to 256 bytes that the task may write. -/
theorem State.svcRandom_fills {a n : Nat} (ha : (y.dev.pu p).get 0 = a) (hn : (y.dev.pu p).get 1 = n) (hsize : 1 ≤ n ∧ n ≤ 256)
    (hplace : (puRam a n || inPierBuffer a n) = true) (hup : y.dev.rngUp = true)
    (hallowed : acuCheck (y.dev.acu (puMaster p)).regions a (a + n - 1) .write true = none) :
    x.svcRandom p = ({ y with dev := (y.dev.drawFrom (27 + p) n).2, mem := memWrite y.mem a (y.dev.drawFrom (27 + p) n).1 }.svcReturn
      p none false).svcResume p k 6 := by
  subst hy
  refine (State.puSvc_task _ _ _ _ _ hready htask).trans ?_
  simp only [ha, hn, hsize, hplace, hallowed, Dev.rng_not_failed hup, and_self, decide_true, Bool.and_self, Option.isNone_none, if_true]

/-- R374: OAP answers with the message that the object dictionary gives, in the task's buffer. -/
theorem State.svcOap_answers {env : WriteEnv} {a n out cap : Nat} {m : Bytes} {r : OapReply} {z : State}
    (ha : (y.dev.pu p).get 0 = a) (hn : (y.dev.pu p).get 1 = n) (hout : (y.dev.pu p).get 2 = out) (hcap : (y.dev.pu p).get 3 = cap)
    (hsize : 16 ≤ n ∧ n ≤ 16384) (hroom : 16 ≤ cap)
    (hasks : (puRam a n || inPierBuffer a n) = true ∧ (acuCheck (y.dev.acu (puMaster p)).regions a (a + n - 1) .read true).isNone = true)
    (hanswers : (puRam out cap || inPierBuffer out cap) = true ∧
      (acuCheck (y.dev.acu (puMaster p)).regions out (out + cap - 1) .write true).isNone = true)
    (hm : memRead y.mem a n = m) (hform : oapForm m = 0)
    (hserved : serveAny env (oapHead m).op y
      { req := mailboxReq + 1 + k, id := (oapHead m).id, role := y.dev.requesterRole (mailboxReq + 1 + k)
        count := (oapHead m).count, body := m.drop 16, room := cap - 16 } = (some r, z))
    (hstays : (z.dev.pu p).running = some k) (hfits : (oapMessage ((oapHead m).op + 0x80) (oapHead m).id r).length ≤ cap) :
    x.svcOap p env = ({ z with mem := memWrite z.mem out (oapMessage ((oapHead m).op + 0x80) (oapHead m).id r) }.svcReturn p
      (some (oapMessage ((oapHead m).op + 0x80) (oapHead m).id r).length) false).svcResume p k 3 := by
  subst hy
  obtain ⟨haPlace, haAllowed⟩ := hasks
  obtain ⟨houtPlace, houtAllowed⟩ := hanswers
  refine (State.puSvc_task _ _ _ _ _ hready htask).trans ?_
  simp only [ha, hn, hout, hcap, hsize, hroom, haPlace, haAllowed, houtPlace, houtAllowed, hm, hform, hserved, hstays,
    Nat.not_lt.mpr hfits, Option.getD_some, and_self, decide_true, Bool.and_self, Bool.not_true, Bool.false_eq_true, if_false, if_true,
    ne_eq, not_true_eq_false]

end

/-! ## Tasks (R372–R375) -/

section
variable {x z : State} {p k : Nat}

/-- R374: a WAIT whose deadline has passed ends. -/
theorem State.waitTimeout_due (hwaiting : (x.dev.task k).state = .waiting ∧ bitOf (x.dev.task k).waitMask 0 = true)
    (hdue : (x.dev.task k).waitUntil ≤ x.dev.now) (hsafe : x.dev.flt.chipSafe = false) : x.waitTimeout k = x.endWait k 1 := by
  obtain ⟨hstate, hmask⟩ := hwaiting
  exact if_pos (by rw [hstate, hmask, hsafe, decide_eq_true hdue]; rfl)

/-- R260, R508: a write of an action object that is answered OK has its effect alone. -/
theorem State.objectWrite_done {f : State → Nat × State} (hsafe : x.dev.flt.chipSafe = false) (hclaim : x.dev.isStandby = false)
    (hdone : f x = (0, z)) : x.objectWrite f = z := by
  simp only [State.objectWrite, hsafe, hclaim, hdone, Bool.false_eq_true, if_false, if_true]

/-- R373: the slice of the running task ends. -/
theorem State.taskSlice_ends (share : Bool) (hruns : (x.dev.pu p).parked = false ∧ x.dev.flt.chipSafe = false ∧
      (x.dev.pu p).shadow = false ∧ (x.dev.pu p).skip = false) (htask : (x.dev.pu p).running = some k) :
    x.taskSlice p share =
      (let y := x.taskLeave p k .ready { cause := 0x41 }
       if share then y else y.schedule p) := by
  obtain ⟨hparked, hsafe, hshadow, hskip⟩ := hruns
  simp only [State.taskSlice, hparked, hsafe, hshadow, hskip, htask, Bool.or_self, Bool.false_eq_true, if_false]

end

/-! ## Failed fetches and stores (R361, R391, R393, R400) -/

/-- R361: a purser's fetch that its checks deny. -/
theorem State.fetchFault_denied {x z : State} {p : Fin 4} {f : CoreFault}
    (hruns : x.dev.puRuns p = true ∧ (x.dev.pu p).skip = false) (hfetch : x.puFetch p 1 = some (z, f)) :
    x.fetchFault (.purser p) = (z.onPu p (fun c => { c with shadow := false })).puFault p f := by
  obtain ⟨hfetches, hskip⟩ := hruns
  simp only [State.fetchFault, hfetches, hskip, hfetch, Bool.not_false, Bool.and_self, if_true]

section
variable {d : Dev} {m a c : Nat}

/-- R400: a failed write of a master that is no core is noted. -/
theorem Dev.impreciseNotice_unit (hm : 140 ≤ m) : d.impreciseNotice m (some (a, c)) = d.noteImprecise m a c := by
  simp only [Dev.impreciseNotice, if_neg (show ¬ m < 136 by omega), if_neg (show ¬ m < 140 by omega)]

/-- R391: the first failed write of a purser since its record was read is noted and gives it a notice. -/
theorem Dev.impreciseNotice_purser (hm : 136 ≤ m ∧ m < 140) (hfirst : (d.acu m).impValid = false) :
    d.impreciseNotice m (some (a, c)) = (d.noteImprecise m a c).onPu (m - 136) (fun c => { c with notice := true }) := by
  simp only [Dev.impreciseNotice, Dev.coreNotice, if_neg (show ¬ m < 136 by omega), if_pos hm.2, hfirst, Bool.not_false, if_true]

end

/-- Settles O44: the tests of each service and of each command of a task come out so that its effect is the one its clause writes
out. -/
theorem taskServicesComplete : Obligations.TaskServicesComplete := by
  refine ⟨?yield, ?exit, ?waitUp, ?waitPassed, ?wait, ?signal, ?event, ?random, ?other, ?oap, ?timeout, ?off, ?on, ?slice, ?laneFetch,
    ?purserFetch, ?unitNotice, ?purserNotice⟩
  case yield =>
    intro s p k t st hacts hreads htask
    exact .of_svc _ hacts hreads rfl htask rfl rfl
  case exit =>
    intro s p k t st hacts hreads htask
    exact .of_svc _ hacts hreads rfl htask rfl rfl
  case waitUp =>
    intro s p k t st hacts hreads htask hup
    exact .of_svc _ hacts hreads rfl htask rfl (if_pos hup)
  case waitPassed =>
    intro s p k t st hacts hreads htask hdown hpassed
    obtain ⟨htimed, hdue⟩ := hpassed
    refine .of_svc _ hacts hreads rfl htask rfl ((if_neg (not_not_intro hdown)).trans (if_pos ?_))
    rw [Bool.and_eq_true, decide_eq_true_eq]
    exact ⟨htimed, hdue⟩
  case wait =>
    intro s p k t st hacts hreads htask hdown hwaits
    refine .of_svc _ hacts hreads rfl htask rfl ((if_neg (not_not_intro hdown)).trans (if_neg ?_))
    rw [Bool.and_eq_true, decide_eq_true_eq]
    rintro ⟨htimed, hdue⟩
    exact hwaits.elim (fun h => Bool.noConfusion (h.symm.trans htimed)) (fun h => Int.not_lt.mpr hdue h)
  case signal =>
    intro s p k t st hacts hreads htask hlane hlisted
    exact .of_svc _ hacts hreads rfl htask rfl (if_pos (Bool.and_eq_true_iff.mpr ⟨decide_eq_true hlane, hlisted⟩))
  case event =>
    intro s p k t st hacts hreads htask
    exact .of_svc _ hacts hreads rfl htask rfl rfl
  case random =>
    intro s p a n k t st hacts hreads htask hregs hplaced hallowed
    obtain ⟨ha, hn, hsize⟩ := hregs
    obtain ⟨hplace, hup⟩ := hplaced
    exact .of_runPu (fun x => x.svcRandom p) hacts hreads rfl
      (State.svcRandom_fills (State.puReady_of_reads hreads rfl) htask rfl ha hn hsize hplace hup hallowed)
  case other =>
    intro s p c k t st hacts hreads htask hcode
    exact .of_svc _ hacts hreads rfl htask rfl (if_neg (Nat.not_le.mpr hcode))
  case oap =>
    intro s p env a n out cap m r z k t st hacts hreads htask hregs hsizes hasks hanswers hm hform hserved hstays hfits
    obtain ⟨ha, hn, hout, hcap⟩ := hregs
    obtain ⟨hmin, hmax, hroom⟩ := hsizes
    exact .of_runPu (fun x => x.svcOap p env) hacts hreads rfl
      (State.svcOap_answers (State.puReady_of_reads hreads rfl) htask rfl ha hn hout hcap ⟨hmin, hmax⟩ hroom hasks hanswers hm.symm
        hform hserved hstays hfits)
  case timeout =>
    intro s k t d hacts hwaiting hdue hsafe
    exact .of_runS (fun x => x.waitTimeout k) rfl hacts (State.waitTimeout_due hwaiting hdue hsafe)
  case off =>
    intro s k t d hacts hsafe hclaim
    exact .of_runS (fun x => x.objectWrite (fun y => y.taskEnable k false)) rfl hacts (State.objectWrite_done hsafe hclaim rfl)
  case on =>
    intro s k z t d st hacts hsafe hclaim hoff hstart
    exact .of_runS (fun x => x.objectWrite (fun y => y.taskEnable k true)) rfl hacts
      (State.objectWrite_done hsafe hclaim ((if_pos hoff).trans hstart))
  case slice =>
    intro s p share k t d hacts hruns htask
    exact .of_runS (fun x => x.taskSlice p share) rfl hacts (State.taskSlice_ends share hruns htask)
  case laneFetch =>
    intro s n t d hacts hruns hend
    obtain ⟨hfetches, hskip⟩ := hruns
    exact .of_runS (fun x => x.fetchFault (.lane n)) rfl hacts (if_pos (by simp [d, hfetches, hskip, hend]))
  case purserFetch =>
    intro s p f z t d st hacts hruns hfetch
    exact .of_runS (fun x => x.fetchFault (.purser p)) rfl hacts (State.fetchFault_denied hruns hfetch)
  case unitNotice =>
    intro s m a c t hacts hm
    exact Does.of_run (fun d => d.impreciseNotice m (some (a, c))) rfl hacts (Dev.impreciseNotice_unit hm)
  case purserNotice =>
    intro s m a c t d hacts hm hfirst
    exact Does.of_run (fun d => d.impreciseNotice m (some (a, c))) rfl hacts (Dev.impreciseNotice_purser hm hfirst)

end Sys2Proof.Machine
end

section
/-!
SUPPORT. What an instruction of a purser leaves as it was: of the purser's own registers, of the other cores and of memory; and the
frame of a purser's register instructions.
-/
namespace Sys2Proof.Machine

/-! ## What an operation on a purser's registers leaves -/

/-- Of a purser's registers all stays but `dest`, the PC, CYCLES, the products in flight, the shadow of a skip and, unless `keeps`,
the condition flags. -/
structure PuCore.Keeps (dest : Option (Fin 16)) (keeps : Bool) (c x : PuCore) : Prop where
  regs : ∀ k : Fin 16, dest ≠ some k → x.get k = c.get k
  cond : keeps = true → x.cond = c.cond
  ie : x.ie = c.ie
  task : x.task = c.task
  pl : x.pl = c.pl
  ph : x.ph = c.ph
  tsbp : x.tsbp = c.tsbp
  tsnap : x.tsnap = c.tsnap
  kwin : x.kwin = c.kwin
  handler : x.handler = c.handler
  skip : x.skip = c.skip
  posted : x.posted = c.posted
  running : x.running = c.running
  waiting : x.waiting = c.waiting
  parked : x.parked = c.parked
  notice : x.notice = c.notice

section
variable {dest : Option (Fin 16)} {keeps : Bool} (c : PuCore) {x y : PuCore}

theorem PuCore.get_put_of_ne {r k : Fin 16} (hne : r ≠ k) (v : Nat) : (c.put r v).get k = c.get k := by
  have hval : (r : Nat) ≠ k := fun h => hne (Fin.ext h)
  simp [PuCore.get, PuCore.put, Vector.getElem_set_ne _ _ hval]

theorem PuCore.get_put_same (r : Fin 16) (v : Nat) : (c.put r v).get r = v % 2 ^ 64 := by
  simp [PuCore.get, PuCore.put]

theorem PuCore.Keeps.refl : PuCore.Keeps dest keeps c c := by constructor <;> intros <;> rfl

theorem PuCore.Keeps.trans (h : PuCore.Keeps dest keeps c x) (g : PuCore.Keeps dest keeps x y) : PuCore.Keeps dest keeps c y where
  regs k hk := (g.regs k hk).trans (h.regs k hk)
  cond hk := (g.cond hk).trans (h.cond hk)
  ie := g.ie.trans h.ie
  task := g.task.trans h.task
  pl := g.pl.trans h.pl
  ph := g.ph.trans h.ph
  tsbp := g.tsbp.trans h.tsbp
  tsnap := g.tsnap.trans h.tsnap
  kwin := g.kwin.trans h.kwin
  handler := g.handler.trans h.handler
  skip := g.skip.trans h.skip
  posted := g.posted.trans h.posted
  running := g.running.trans h.running
  waiting := g.waiting.trans h.waiting
  parked := g.parked.trans h.parked
  notice := g.notice.trans h.notice

theorem PuCore.keeps_put (r : Fin 16) (v : Nat) : PuCore.Keeps (some r) keeps c (c.put r v) := by
  constructor
  case regs => exact fun k hk => c.get_put_of_ne (fun h => hk (congrArg some h)) v
  all_goals intros; rfl

theorem PuCore.keeps_setCond (f : Flags) : PuCore.Keeps dest false c (c.setCond f) := by
  constructor
  case cond => exact fun h => absurd h (by decide)
  all_goals intros; rfl

theorem PuCore.keeps_products (l : List (BitVec 128)) : PuCore.Keeps dest keeps c { c with products := l } := by
  constructor <;> intros <;> rfl

theorem PuCore.keeps_unshadowed : PuCore.Keeps dest keeps c { c with shadow := false } := by constructor <;> intros <;> rfl

/-- The registers when an instruction of so many cycles has completed: CYCLES and the PC have moved (R351). -/
def PuCore.completed (c : PuCore) (cycles pc : Nat) : PuCore := { c with cycles := c.cycles + cycles, pc := BitVec.ofNat 64 pc }

theorem PuCore.keeps_completed (cycles pc : Nat) : PuCore.Keeps dest keeps c (c.completed cycles pc) := by
  constructor <;> intros <;> rfl

/-- An operation that writes its result and its flags (R357). -/
theorem PuCore.keeps_gives (r : Fin 16) (v : Nat) (f : Flags) : PuCore.Keeps (some r) false c ((c.setCond f).put r v) :=
  (c.keeps_setCond f).trans _ (PuCore.keeps_put _ r v)

/-- MOV and MOVI write their register and leave the flags. -/
theorem PuCore.keeps_mov (r : Fin 16) (v : Nat) : PuCore.Keeps (some r) true c ((c.setCond c.cond).put r v) := c.keeps_put r v

end

/-! ## What a step of a purser leaves -/

/-- Of the cores only purser `p` may have changed, and it holds `w`; nothing waits to follow and no memory write of the device is
left to make. -/
structure State.PurserHolds (s : State) (p : Nat) (w : PuCore) (y : State) : Prop where
  purser : y.dev.pu p = w
  others : ∀ q, q ≠ p → y.dev.pu q = s.dev.pu q
  lanes : ∀ m, y.dev.dh m = s.dev.dh m
  rest : y.dev.atRest = true
  writesMade : y.dev.bufOut = []

section
variable {s y : State} {p : Nat} {w : PuCore}

theorem State.PurserHolds.start {t : Ticks} (hclean : s.clean = true) (hrest : (s.dev.at_ t).atRest = true) :
    s.PurserHolds p (s.dev.pu p) { s with dev := s.dev.at_ t } :=
  ⟨rfl, fun _ _ => rfl, fun _ => rfl, hrest, List.isEmpty_iff.mp (Bool.and_eq_true_iff.mp hclean).2⟩

theorem State.PurserHolds.onPu (h : s.PurserHolds p w y) (g : PuCore → PuCore) : s.PurserHolds p (g w) (y.onPu p g) where
  purser := by simp [h.purser]
  others q hq := by simp [hq, h.others q hq]
  lanes := h.lanes
  rest := h.rest
  writesMade := h.writesMade

theorem State.PurserHolds.withMem (h : s.PurserHolds p w y) (m : Tab Byte) : s.PurserHolds p w { y with mem := m } :=
  ⟨h.purser, h.others, h.lanes, h.rest, h.writesMade⟩

/-- R364: the delay of TWICE is drawn from the random source, apart from the cores. -/
theorem State.PurserHolds.puBegin (h : s.PurserHolds p w y) (tw : Twice) :
    s.PurserHolds p { w with shadow := false } (y.puBegin p tw) := by
  have hfresh := h.onPu (fun c => { c with shadow := false })
  cases tw with
  | none => exact hfresh
  | some x =>
    unfold State.puBegin Dev.twiceDelay
    dsimp only
    split
    · exact ⟨hfresh.purser, hfresh.others, hfresh.lanes, hfresh.rest, hfresh.writesMade⟩
    · exact hfresh

@[simp] theorem State.puBegin_mem (y : State) (p : Nat) (tw : Twice) : (y.puBegin p tw).mem = y.mem := by
  cases tw <;> rfl

/-- R351, R376: cycles are counted in CYCLES and for the task that runs. -/
theorem State.PurserHolds.puCycles (h : s.PurserHolds p w y) (k : Nat) :
    s.PurserHolds p { w with cycles := w.cycles + k } (y.puCycles p k) := by
  have hcounted := h.onPu (fun c => { c with cycles := c.cycles + k })
  unfold State.puCycles State.onDev
  dsimp only
  split
  · exact ⟨hcounted.purser, hcounted.others, hcounted.lanes, hcounted.rest, hcounted.writesMade⟩
  · exact hcounted

/-- No notice of an earlier store waits. -/
theorem State.puNotice_none (hnone : (y.dev.pu p).notice = false) : y.puNotice p = y := by simp [State.puNotice, hnone]

theorem State.PurserHolds.puDone (h : s.PurserHolds p w y) (hnone : w.notice = false) (cycles pc : Nat) :
    s.PurserHolds p (w.completed cycles pc) (y.puDone p cycles pc) ∧ (y.puDone p cycles pc).mem = y.mem := by
  have hmoved := (h.puCycles cycles).onPu (fun c => { c with pc := BitVec.ofNat 64 pc })
  have heq : y.puDone p cycles pc = (y.puCycles p cycles).onPu p (fun c => { c with pc := BitVec.ofNat 64 pc }) :=
    State.puNotice_none (by rw [hmoved.purser]; exact hnone)
  rw [heq]
  exact ⟨hmoved, rfl⟩

/-- What follows from a command leaves the cores of a device at rest, and memory. -/
theorem State.PurserHolds.settled (h : s.PurserHolds p w y) (q : List Instr) :
    ∃ e, { y.withDev y.dev.settle with pending := q } = e ∧ e.mem = y.mem ∧ e.dev.cpu = y.dev.cpu := by
  have hframe := Dev.settle_frame _ h.rest
  generalize y.dev.settle = d at hframe
  refine ⟨_, rfl, ?_, hframe.cpu⟩
  rw [State.withDev_mem, hframe.bufOut, h.writesMade]
  rfl

/-- A purser's instruction that completes leaves the other cores, and memory as its own work left it. -/
theorem State.PurserHolds.completes {c : Instr} {t : Ticks} {f : State → State} {cycles pc : Nat} (h : s.PurserHolds p w y)
    (hnone : w.notice = false) (hdoes : DoesAll c s t f) (hf : f { s with dev := s.dev.at_ t } = y.puDone p cycles pc) :
    ∃ e, exec c s = .next e ∧ e.mem = y.mem ∧ e.dev.pu p = w.completed cycles pc ∧ (∀ q, q ≠ p → e.dev.pu q = s.dev.pu q) ∧
      ∀ m, e.dev.dh m = s.dev.dh m := by
  obtain ⟨hdone, hmem⟩ := h.puDone hnone cycles pc
  unfold DoesAll at hdoes
  rw [hf] at hdoes
  obtain ⟨e, he, hmemSettled, hcpu⟩ := hdone.settled s.pending
  refine ⟨e, hdoes.trans (congrArg _ he), hmemSettled.trans hmem, ?_, fun q hq => ?_, fun m => ?_⟩
  · exact (congrArg (fun u => u.pu.get {} p) hcpu).trans hdone.purser
  · exact (congrArg (fun u => u.pu.get {} q) hcpu).trans (hdone.others q hq)
  · exact (congrArg (fun u => u.dh.get {} m) hcpu).trans (hdone.lanes m)

theorem PuCore.Keeps.puKeeps {e : State} {dest : Option (Fin 16)} {keeps : Bool} {x : PuCore}
    (h : PuCore.Keeps dest keeps (s.dev.pu p) x) (hpurser : e.dev.pu p = x) (hothers : ∀ q, q ≠ p → e.dev.pu q = s.dev.pu q)
    (hlanes : ∀ m, e.dev.dh m = s.dev.dh m) : s.puKeeps e p dest keeps := by
  subst hpurser
  exact ⟨h.regs, h.cond, h.ie, h.task, h.pl, h.ph, h.tsbp, h.tsnap, h.kwin, h.handler, h.skip, h.posted, h.running, h.waiting,
    h.parked, hothers, hlanes⟩

end

/-! ## The register instructions of a purser (R356–R358) -/

section
variable {c : PuCore} {op : AluOp} {w : PuWidth} {d r : Fin 16} {imm : Int}

/-- A register operation that has a result writes its register and the flags. -/
theorem PuCore.keeps_alu (hwrites : op.writes = true) : PuCore.Keeps (some d) false c (PuCore.alu op w d r c) := by
  unfold PuCore.alu
  rw [if_pos hwrites]
  exact c.keeps_gives d _ _

/-- CMP and TST write the flags alone. -/
theorem PuCore.keeps_alu_compare (hcompares : op.writes = false) : PuCore.Keeps none false c (PuCore.alu op w d r c) := by
  unfold PuCore.alu
  rw [if_neg (by simp [hcompares])]
  exact c.keeps_setCond _

theorem PuCore.keeps_alui (hwrites : op.writes = true) : PuCore.Keeps (some d) false c (PuCore.alui op w d imm c) := by
  unfold PuCore.alui
  rw [if_pos hwrites]
  exact c.keeps_gives d _ _

theorem PuCore.keeps_alui_compare (hcompares : op.writes = false) : PuCore.Keeps none false c (PuCore.alui op w d imm c) := by
  unfold PuCore.alui
  rw [if_neg (by simp [hcompares])]
  exact c.keeps_setCond _

/-- R357: SELZ writes its register or nothing. -/
theorem PuCore.keeps_selz : PuCore.Keeps (some d) true c (PuCore.selz w d r c) := by
  unfold PuCore.selz
  split
  · exact c.keeps_put d _
  · exact .refl c

end

/-- The frame of the purser's register instruction `u`: the command answers a next state that has the memory of `s`, and of the
cores differs in what `u` may change. -/
def State.PuRegFrame (s : State) (c : Instr) (u : RegUse) : Prop :=
  ∃ e, exec c s = .next e ∧ (∀ a, e.byte a = s.byte a) ∧ s.puKeeps e u.core u.dest u.keeps

/-- A purser executes the register instruction `u`, on a quiet device and with no notice pending. -/
structure State.PuRunsReg (s : State) (c : Instr) (u : RegUse) : Prop where
  clean : s.clean = true
  acts : s.dev.acts = true
  rest : (s.dev.at_ c.time).atRest = true
  reads : ({ s with dev := s.dev.at_ c.time } : State).puReads u.core u.pre u.body u.twice = true
  noNotice : (s.dev.pu u.core).notice = false

section
variable {s : State} {c : Instr} {u : RegUse} {len cycles : Nat} {g : PuCore → PuCore} {w : PuCore} {work : State → State}
  (h : s.PuRunsReg c u)
include h

theorem State.PuRunsReg.begins : s.PurserHolds u.core { s.dev.pu u.core with shadow := false }
    (({ s with dev := s.dev.at_ c.time } : State).puBegin u.core u.twice) :=
  (State.PurserHolds.start h.clean h.rest).puBegin u.twice

/-- An instruction whose work leaves `w` in its purser, and memory as it was. -/
theorem State.PuRunsReg.regFrame_of_work (hkeeps : PuCore.Keeps u.dest u.keeps { s.dev.pu u.core with shadow := false } w)
    (hwork : s.PurserHolds u.core w (work (({ s with dev := s.dev.at_ c.time } : State).puBegin u.core u.twice)))
    (hmem : (work (({ s with dev := s.dev.at_ c.time } : State).puBegin u.core u.twice)).mem = s.mem)
    (hdoes : DoesAll c s c.time (fun x => x.puSeq u.core len cycles u.twice work)) : s.PuRegFrame c u := by
  obtain ⟨e, he, hmemory, hpurser, hothers, hlanes⟩ := hwork.completes (hkeeps.notice.trans h.noNotice) hdoes rfl
  exact ⟨e, he, fun a => congrArg (memByte · a) (hmemory.trans hmem),
    (((s.dev.pu u.core).keeps_unshadowed.trans _ hkeeps).trans _ (w.keeps_completed _ _)).puKeeps hpurser hothers hlanes⟩

theorem State.PuRunsReg.regFrame_of_onPu (hkeeps : ∀ x, PuCore.Keeps u.dest u.keeps x (g x))
    (hdoes : DoesAll c s c.time (fun x => x.puSeq u.core len cycles u.twice (fun y => y.onPu u.core g))) : s.PuRegFrame c u :=
  h.regFrame_of_work (hkeeps _) (h.begins.onPu g) (State.puBegin_mem _ _ _) hdoes

theorem State.PuRunsReg.puReg (hlen : u.pre.length + u.body.length = len)
    (harm : exec c s = s.runPu c.time u.core u.pre u.body (fun x => x.puReg u.core len cycles u.twice g))
    (hkeeps : ∀ x, PuCore.Keeps u.dest u.keeps x (g x)) : s.PuRegFrame c u :=
  h.regFrame_of_onPu hkeeps (.of_puReg g h.acts h.reads hlen harm (fun _ => rfl))

theorem State.PuRunsReg.puAlui {x : PuPre} {op : AluOp} {r : Fin 16} {imm : PuImm} (hpre : u.pre = x.bytes) (htwice : u.twice = x.twice)
    (hlen : x.bytes.length + u.body.length = 2 + x.len + imm.bytes) (hfits : imm.bytes ≤ x.w.bytes) (hlong : imm.bytes = 8 → op = .mov)
    (harm : exec c s = s.runPu c.time u.core x.bytes u.body (fun y => y.puAlui u.core x op r imm))
    (hkeeps : ∀ y, PuCore.Keeps u.dest u.keeps y (PuCore.alui op x.w r imm.val y)) : s.PuRegFrame c u := by
  have hreads := h.reads
  rw [hpre, htwice] at hreads
  have hdoes := DoesAll.of_puAlui h.acts hreads op hlen hfits hlong harm (fun _ => rfl)
  rw [← htwice] at hdoes
  exact h.regFrame_of_onPu hkeeps hdoes

theorem State.PuRunsReg.puShift {x : PuPre} {op : AluOp} {r : Fin 16} {imm : BitVec 8} (hpre : u.pre = x.bytes)
    (htwice : u.twice = x.twice) (hdest : u.dest = some r) (hflags : u.keeps = false) (hlen : u.body.length = 3)
    (hbelow : imm.toNat < x.w.bits)
    (harm : exec c s = s.runPu c.time u.core x.bytes u.body (fun y => y.puShift u.core x op r imm)) : s.PuRegFrame c u := by
  have hreads := h.reads
  rw [hpre, htwice] at hreads
  have hdoes := DoesAll.of_puShift h.acts hreads op hlen hbelow harm (fun _ => rfl)
  rw [← htwice] at hdoes
  refine h.regFrame_of_onPu (fun y => ?_) hdoes
  rw [hdest, hflags]
  exact y.keeps_gives r _ _

/-- NOP does no work of its own. -/
theorem State.PuRunsReg.nop (hlen : u.pre.length + u.body.length = len)
    (harm : exec c s = s.runPu c.time u.core u.pre u.body (fun x => x.purser u.core len cycles u.twice .seq)) : s.PuRegFrame c u :=
  h.regFrame_of_work (work := id) (PuCore.Keeps.refl _) h.begins (State.puBegin_mem _ _ _)
    (.of_runPu _ h.acts h.reads harm (State.purser_seq _ _ _ _ _ _ id (State.puReady_of_reads h.reads hlen) rfl))

end

/-- Every register instruction has its frame, by what its operation writes: a result and flags, a result alone, flags alone, a
product in flight, or nothing. -/
theorem State.PuRunsReg.regFrame {s : State} {c : Instr} {u : RegUse} (hu : c.puRegs = some u) (h : s.PuRunsReg c u) :
    s.PuRegFrame c u := by
  unfold Instr.puRegs at hu
  split at hu
  case h_1 p x r src t =>
    obtain rfl := Option.some.inj hu
    exact h.puReg (length_pre_add x.length_bytes rfl) rfl (fun y => y.keeps_mov r _)
  case h_2 p x r src t | h_3 p x r src t | h_4 p x r src t | h_5 p x r src t | h_6 p x r src t | h_7 p x r src t |
      h_8 p x r src t | h_9 p x r src t | h_10 p x r src t | h_11 p x r src t | h_12 p x r src t =>
    obtain rfl := Option.some.inj hu
    exact h.puReg (length_pre_add x.length_bytes rfl) rfl (fun _ => PuCore.keeps_alu rfl)
  case h_13 p x r src t | h_14 p x r src t =>
    obtain rfl := Option.some.inj hu
    exact h.puReg (length_pre_add x.length_bytes rfl) rfl (fun _ => PuCore.keeps_alu_compare rfl)
  case h_15 p w r src t | h_16 p w r src t =>
    obtain rfl := Option.some.inj hu
    exact h.puReg (length_pre_add w.length_prefix rfl) rfl (fun y => y.keeps_products _)
  case h_17 p x r i t =>
    obtain ⟨hfits, hsome⟩ := Option.ite_none_right_eq_some.mp hu
    obtain rfl := Option.some.inj hsome
    exact h.puAlui rfl rfl (x.length_riForm _ _ _) hfits (fun _ => rfl) rfl (fun y => y.keeps_mov r _)
  case h_18 p x r i t | h_19 p x r i t | h_20 p x r i t | h_21 p x r i t | h_22 p x r i t =>
    obtain ⟨⟨hfits, hshort⟩, hsome⟩ := Option.ite_none_right_eq_some.mp hu
    obtain rfl := Option.some.inj hsome
    exact h.puAlui rfl rfl (x.length_riForm _ _ _) hfits (absurd · hshort) rfl (fun _ => PuCore.keeps_alui rfl)
  case h_23 p x r i t | h_24 p x r i t =>
    obtain ⟨⟨hfits, hshort⟩, hsome⟩ := Option.ite_none_right_eq_some.mp hu
    obtain rfl := Option.some.inj hsome
    exact h.puAlui rfl rfl (x.length_riForm _ _ _) hfits (absurd · hshort) rfl (fun _ => PuCore.keeps_alui_compare rfl)
  case h_25 p x r i t | h_26 p x r i t | h_27 p x r i t | h_28 p x r i t =>
    obtain ⟨hbelow, hsome⟩ := Option.ite_none_right_eq_some.mp hu
    obtain rfl := Option.some.inj hsome
    exact h.puShift rfl rfl rfl rfl rfl hbelow rfl
  case h_29 p x r t | h_30 p x r t =>
    obtain rfl := Option.some.inj hu
    exact h.puReg (length_pre_add x.length_bytes rfl) rfl (fun y => y.keeps_gives r _ _)
  case h_31 p y r b x t =>
    obtain rfl := Option.some.inj hu
    exact h.puReg (length_pre_add_operand y.length_bytes (length_puMemCode _ _ _ _)) rfl (fun z => z.keeps_put r _)
  case h_32 p t =>
    obtain rfl := Option.some.inj hu
    exact h.nop rfl rfl
  case h_33 p w r t =>
    obtain rfl := Option.some.inj hu
    exact h.puReg (length_pre_add w.length_prefix rfl) rfl (fun y => y.keeps_put r _)
  case h_36 p w r src t =>
    obtain rfl := Option.some.inj hu
    exact h.puReg (length_pre_add w.length_prefix rfl) rfl (fun _ => PuCore.keeps_selz)
  case h_34 p w r src t | h_35 p w r src t | h_37 p w r src t | h_38 p w r src t =>
    obtain rfl := Option.some.inj hu
    exact h.puReg (length_pre_add w.length_prefix rfl) rfl (fun y => y.keeps_put r _)
  case h_39 => cases hu

/-- Settles O11: its hypotheses say that the purser executes the instruction, whose frame then holds. -/
theorem purserRegisterFrame : Obligations.PurserRegisterFrame := by
  intro c u s hu hclean hquiet hreads hnotice
  obtain ⟨hacts, hrest⟩ := hquiet
  exact State.PuRunsReg.regFrame hu ⟨hclean, hacts, hrest, hreads, hnotice⟩

end Sys2Proof.Machine
end

section
/-!
SUPPORT. A purser's loads and stores whose address lies in memory, and their frame.
-/
namespace Sys2Proof.Machine

/-! ## Widths (R358) -/

section
variable (w : PuWidth)

theorem PuWidth.two_pow_log2 : 2 ^ w.log2 = w.bytes := by cases w <;> rfl

theorem PuWidth.two_pow_bits : 2 ^ w.bits = 256 ^ w.bytes := by rw [PuWidth.bits, Nat.pow_mul]

theorem PuWidth.bytes_le : w.bytes ≤ 8 := by cases w <;> decide

end

theorem patternOf_lt (n : Nat) (v : Int) : patternOf n v < 2 ^ n := by
  have hpos : (0 : Int) < 2 ^ n := Int.pow_pos (by decide)
  have hlt := Int.emod_lt_of_pos v hpos
  have hnonneg := Int.emod_nonneg v (Int.ne_of_gt hpos)
  unfold patternOf
  rw [Int.toNat_lt hnonneg, Int.natCast_pow]
  exact hlt

/-! ## A load and a store where the address lies in memory (R353, R359) -/

/-- The bytes at `a` lie in purser RAM, or aligned in a pier buffer. -/
def inMemory (a : Nat) (w : PuWidth) : Prop := puRam a w.bytes = true ∨ inPierBuffer a w.bytes = true ∧ a % w.bytes = 0

section
variable {x : State} {p a : Nat} {w : PuWidth} (hplace : inMemory a w)
include hplace

theorem inMemory.isTarget : (puRam a w.bytes || inPierBuffer a w.bytes) = true :=
  Bool.or_eq_true_iff.mpr (hplace.imp id And.left)

theorem inMemory.end_le : a + w.bytes ≤ 2 ^ 40 := by
  have hbytes := w.bytes_le
  rcases hplace with hram | ⟨hbuffer, -⟩
  · simp only [puRam, Bool.and_eq_true, decide_eq_true_eq] at hram
    omega
  · simp only [inPierBuffer, Bool.and_eq_true, decide_eq_true_eq] at hbuffer
    omega

/-- R359, R397: an access in memory that the regions of its purser allow passes. -/
theorem State.puCheck_allowed {write : Bool}
    (hallowed : acuCheck (x.dev.acu (puMaster p)).regions a (a + w.bytes - 1) (if write then .write else .read) (x.dev.pu p).task = none) :
    x.puCheck p a w.log2 write false false = none := by
  have haligned : ¬ (a % w.bytes ≠ 0 && (false || !puRam a w.bytes)) = true := by
    rcases hplace with hram | ⟨-, haligned⟩
    · simp [hram]
    · simp [haligned]
  simp only [State.puCheck, w.two_pow_log2]
  rw [if_neg haligned, if_neg (Nat.not_lt.mpr (inMemory.end_le hplace)), hallowed]

theorem State.puLoad_inMemory (hallowed : acuCheck (x.dev.acu (puMaster p)).regions a (a + w.bytes - 1) .read (x.dev.pu p).task = none) :
    x.puLoad p a w false false = .inr (memNat x.mem a w.bytes, x) := by
  rw [State.puLoad, State.puCheck_allowed (write := false) hplace hallowed, State.puTarget, if_pos (inMemory.isTarget hplace)]
  rfl

theorem State.puStore_inMemory {v : Nat}
    (hallowed : acuCheck (x.dev.acu (puMaster p)).regions a (a + w.bytes - 1) .write (x.dev.pu p).task = none) :
    x.puStore p a w v false false = .inr { x with mem := memPut x.mem a w.bytes (v % 2 ^ w.bits) } := by
  rw [State.puStore, State.puCheck_allowed (write := true) hplace hallowed, State.puPut, if_pos (inMemory.isTarget hplace)]

end

/-! ## The frame of a purser's loads and stores -/

section
variable {s : State} {c : Instr} {p a : Nat} {w : PuWidth} {r b : Fin 16} {e : Disp} {t : Ticks} {pre body : Bytes}
  (hclean : s.clean = true) (hquiet : s.dev.acts = true ∧ (s.dev.at_ t).atRest = true)
  (hnotice : ((s.dev.at_ t).pu p).notice = false) (ha : a = ((s.dev.at_ t).pu p).ea b e) (hplace : inMemory a w)
  (hreads : ({ s with dev := s.dev.at_ t } : State).puReads p pre body none = true)
  (hlen : pre.length + body.length = 2 + w.pre + PuMem.plain.len + e.bytes)
include hclean hquiet hnotice ha hplace hreads hlen

/-- R359: a store writes its bytes, and of the cores changes what completing in sequence changes. -/
theorem State.puSt_frame
    (hallowed : acuCheck ((s.dev.at_ t).acu (puMaster p)).regions a (a + w.bytes - 1) .write ((s.dev.at_ t).pu p).task = none)
    (harm : exec c s = s.runPu t p pre body (fun x => x.puSt p w .plain r b e)) :
    ∃ z, exec c s = .next z ∧ (∀ k, k < a ∨ a + w.bytes ≤ k → z.byte k = s.byte k) ∧
      memNat z.mem a w.bytes = (s.dev.pu p).low r w ∧ s.puKeeps z p none true := by
  subst ha
  obtain ⟨hacts, hrest⟩ := hquiet
  have hbegins := (State.PurserHolds.start (p := p) hclean hrest).puBegin none
  have hdoes : DoesAll c s t (fun x => x.puSeq p (2 + w.pre + PuMem.plain.len + e.bytes) 1 none (fun y =>
      { y with mem := memPut y.mem (((s.dev.at_ t).pu p).ea b e) w.bytes ((y.dev.pu p).low r w % 2 ^ w.bits) })) :=
    .of_runPu _ hacts hreads harm
      (State.puSt_stored (m := .plain) (x := { s with dev := s.dev.at_ t }) (State.puReady_of_reads hreads hlen) (State.puAtom_plain rfl)
        (State.puStore_inMemory hplace ((congrArg (fun q : PuCore => acuCheck _ _ _ _ q.task) hbegins.purser).trans hallowed)))
  obtain ⟨z, hz, hmem, hpurser, hothers, hlanes⟩ := (hbegins.withMem _).completes hnotice hdoes rfl
  refine ⟨z, hz, fun k hk => ?_, ?_,
    ((s.dev.pu p).keeps_unshadowed.trans _ (PuCore.keeps_completed _ _ _)).puKeeps hpurser hothers hlanes⟩
  · exact (congrArg (memByte · k) hmem).trans (memByte_memPut_outside _ _ hk)
  · rw [hmem, memNat_memPut, hbegins.purser, w.two_pow_bits, Nat.mod_mod, ← w.two_pow_bits]
    exact Nat.mod_mod _ _

/-- R359: a load writes its register alone, with the bytes it reads. -/
theorem State.puLd_frame {signed : Bool}
    (hallowed : acuCheck ((s.dev.at_ t).acu (puMaster p)).regions a (a + w.bytes - 1) .read ((s.dev.at_ t).pu p).task = none)
    (harm : exec c s = s.runPu t p pre body (fun x => x.puLd p w .plain signed r b e)) :
    ∃ z, exec c s = .next z ∧ (∀ k, z.byte k = s.byte k) ∧
      (z.dev.pu p).get r = (if signed then patternOf 64 (signedOf w.bits (memNat s.mem a w.bytes)) else memNat s.mem a w.bytes) ∧
      s.puKeeps z p (some r) true := by
  subst ha
  obtain ⟨hacts, hrest⟩ := hquiet
  have hbegins := (State.PurserHolds.start (p := p) hclean hrest).puBegin none
  generalize hv : (if signed then patternOf 64 (signedOf w.bits (memNat s.mem (((s.dev.at_ t).pu p).ea b e) w.bytes)) else
    memNat s.mem (((s.dev.at_ t).pu p).ea b e) w.bytes) = v
  have hword : v < 2 ^ 64 := by
    subst hv
    split
    · exact patternOf_lt _ _
    · exact Nat.lt_of_lt_of_le (memNat_lt _ _ _) (Nat.pow_le_pow_right (n := 256) (by decide) w.bytes_le)
  have hdoes : DoesAll c s t (fun x => x.puSeq p (2 + w.pre + PuMem.plain.len + e.bytes) (puLoadCycles p ((x.dev.pu p).ea b e)) none
      (fun y => y.onPu p (fun c => c.put r v))) := by
    subst hv
    exact .of_runPu _ hacts hreads harm
      (State.puLd_loaded (m := .plain) (x := { s with dev := s.dev.at_ t }) (State.puReady_of_reads hreads hlen) (Bool.and_false _)
        (State.puAtom_plain rfl)
        (State.puLoad_inMemory hplace ((congrArg (fun q : PuCore => acuCheck _ _ _ _ q.task) hbegins.purser).trans hallowed)))
  obtain ⟨z, hz, hmem, hpurser, hothers, hlanes⟩ := (hbegins.onPu (fun c => c.put r v)).completes hnotice hdoes rfl
  refine ⟨z, hz, fun k => congrArg (memByte · k) hmem, ?_,
    (((s.dev.pu p).keeps_unshadowed.trans _ (PuCore.keeps_put _ r v)).trans _ (PuCore.keeps_completed _ _ _)).puKeeps hpurser hothers
      hlanes⟩
  rw [hpurser]
  exact (PuCore.get_put_same _ r v).trans (Nat.mod_eq_of_lt hword)

end

/-- Settles O12: a store, and a load with either extension, has its frame. -/
theorem purserMemoryFrame : Obligations.PurserMemoryFrame := by
  refine ⟨?st, ?ld⟩
  case st =>
    intro s p w r b x a t d st hclean hquiet hruns ha hplace hallowed
    obtain ⟨hreads, hnotice⟩ := hruns
    exact State.puSt_frame hclean hquiet hnotice ha hplace hreads (length_memForm w.length_prefix rfl) hallowed rfl
  case ld =>
    intro s p w r b x a sg t d st hclean hquiet hruns ha hplace hallowed
    obtain ⟨hreads, hnotice⟩ := hruns
    cases sg with
    | false => exact State.puLd_frame hclean hquiet hnotice ha hplace hreads (length_memForm w.length_prefix rfl) hallowed rfl
    | true => exact State.puLd_frame hclean hquiet hnotice ha hplace hreads (length_memForm w.length_prefix rfl) hallowed rfl

end Sys2Proof.Machine
end

section
/-!
SUPPORT. Task-state blocks as runs of little-endian words: what a field of one reads as, and the context that it gives back.
-/
namespace Sys2Proof.Machine

/-! ## Byte strings of little-endian words (R4) -/

/-- Numbers as consecutive little-endian words of `n` bytes. -/
def leWords (n : Nat) (l : List Nat) : Bytes := l.flatMap (toLe n)

section
variable {n : Nat} {l : List Nat}

/-- A word of a run of words, which has its value modulo the word's range. -/
theorem leAt_leWords {i v : Nat} (r : Bytes) (hi : l[i]? = some v) : leAt (leWords n l ++ r) (n * i) n = v % 256 ^ n := by
  induction l generalizing i with
  | nil => cases hi
  | cons a l ih =>
    have hcons : leWords n (a :: l) ++ r = toLe n a ++ (leWords n l ++ r) := by simp [leWords]
    cases i with
    | zero =>
      obtain rfl : a = v := Option.some.inj hi
      rw [hcons, leAt, sliceB, Nat.mul_zero, List.drop_zero, List.take_left' (length_toLe n a), leNat_toLe]
    | succ i =>
      have hdrop : (toLe n a ++ (leWords n l ++ r)).drop (n * (i + 1)) = (leWords n l ++ r).drop (n * i) := by
        rw [Nat.mul_succ, Nat.add_comm, ← List.drop_drop, List.drop_left' (length_toLe n a)]
      rw [hcons, leAt, sliceB, hdrop]
      exact ih hi

end

/-! ## Blocks that save a context (R380, R381) -/

/-- Sixteen registers and the special registers `l` as words of `n` bytes, with the rest of a block behind them. -/
def contextBlock {k : Nat} (n : Nat) (g : Vector (BitVec k) 16) (l : List Nat) (r : Bytes) : Bytes :=
  leWords n (g.toList.map BitVec.toNat ++ l) ++ r

section
variable {n k m : Nat} {g : Vector (BitVec k) 16} {l : List Nat} {r : Bytes}

/-- The value that a word holds of a register, no wider than the word, gives the register back. -/
theorem ofNat_word (w : BitVec k) (hk : k ≤ 8 * n) : BitVec.ofNat k (w.toNat % 256 ^ n) = w := by
  have hfits : w.toNat < 256 ^ n := calc
    w.toNat < 2 ^ k := w.isLt
    _ ≤ 2 ^ (8 * n) := Nat.pow_le_pow_right (by decide) hk
    _ = 256 ^ n := Nat.pow_mul 2 8 n
  rw [Nat.mod_eq_of_lt hfits, BitVec.ofNat_toNat, BitVec.setWidth_eq]

/-- The registers read back from their words. -/
theorem registers_contextBlock (hk : k ≤ 8 * n) :
    Vector.ofFn (fun i : Fin 16 => BitVec.ofNat k (leAt (contextBlock n g l r) (n * i) n)) = g := by
  refine Vector.ext fun i hi => ?_
  have hword : (g.toList.map BitVec.toNat ++ l)[i]? = some g[i].toNat := by simp [List.getElem?_append, hi]
  rw [Vector.getElem_ofFn, contextBlock, leAt_leWords r hword, ofNat_word _ hk]

/-- The special register in place `j`, as a number. -/
theorem leAt_contextBlock {j v : Nat} (hj : l[j]? = some v) : leAt (contextBlock n g l r) (n * (16 + j)) n = v % 256 ^ n :=
  leAt_leWords r (by simpa [List.getElem?_append_right] using hj)

/-- A special register reads back from its word. -/
theorem ofNat_contextBlock {j : Nat} {w : BitVec m} (hj : l[j]? = some w.toNat) (hm : m ≤ 8 * n) :
    BitVec.ofNat m (leAt (contextBlock n g l r) (n * (16 + j)) n) = w := by
  rw [leAt_contextBlock hj, ofNat_word w hm]

end

/-! ## Flag words (R323, R350) -/

/-- Flags as a number, the first as bit 0. -/
def flagBits : List Bool → Nat
  | [] => 0
  | b :: l => b2n b + 2 * flagBits l

/-- A bit of a flag word is its flag. -/
theorem bitOf_flagBits (l : List Bool) (i : Nat) : bitOf (flagBits l) i = l.getD i false := by
  induction l generalizing i with
  | nil => simp [flagBits, bitOf]
  | cons b l ih =>
    have hhalf : flagBits (b :: l) / 2 = flagBits l := by
      have := b2n_le_one b
      simp only [flagBits]
      omega
    cases i with
    | zero => cases b <;> simp [flagBits, bitOf, b2n, Nat.add_mod]
    | succ i => rw [bitOf, Nat.pow_succ', ← Nat.div_div_eq_div_mul, hhalf, List.getD_cons_succ, ← ih, bitOf]

theorem flagBits_lt (l : List Bool) : flagBits l < 2 ^ l.length := by
  induction l with
  | nil => decide
  | cons b l ih =>
    have := b2n_le_one b
    rw [flagBits, List.length_cons, Nat.pow_succ']
    omega

/-- R323: STAT as its flags. -/
theorem DhCore.stat_eq (c : DhCore) :
    c.stat = flagBits [c.c, c.z, c.n, c.v, c.ee, false, false, false, decide (c.lpc ≠ 0)] := by
  simp only [DhCore.stat, flagBits, b2n, Bool.false_eq_true, if_false]
  omega

/-- R350: FLAGS as its flags. -/
theorem PuCore.flags_eq (c : PuCore) : c.flags = flagBits [c.c, c.z, c.n, c.v, c.ie, c.task] := by
  simp only [PuCore.flags, flagBits]
  omega

/-! ## A saved context is restored (R380–R382) -/

/-- R380: the special registers in a deckhand's TSB. -/
def DhCore.specials (c : DhCore) : List Nat :=
  [c.pc.toNat, c.stat, c.mlo.toNat, c.mhi.toNat, c.lps.toNat, c.lpe.toNat, c.lpc.toNat, c.brs.toNat, c.brd.toNat, c.brc.toNat]

/-- R380: a deckhand's TSB begins with its registers. -/
theorem dhTsb_eq (c : DhCore) (f : CoreFault) (v o ev : Nat) : ∃ r, dhTsb c f v o ev = contextBlock 4 c.g c.specials r :=
  ⟨toLe 4 (f.cause + 256 * v + 2 ^ 24 * o) ++ toLe 4 f.addr ++ toLe 4 f.info ++ toLe 4 ev ++ List.replicate 8 0,
    by simp [dhTsb, contextBlock, leWords, DhCore.specials, List.flatMap_map]⟩

/-- R382: a deckhand takes over all that a block saves of a context, and keeps what no block holds. -/
theorem DhCore.load_contextBlock (x c : DhCore) (r : Bytes) : x.load (contextBlock 4 c.g c.specials r) =
    { x with g := c.g, pc := c.pc, c := c.c, z := c.z, n := c.n, v := c.v, ee := c.ee, mlo := c.mlo, mhi := c.mhi, lps := c.lps
             lpe := c.lpe, lpc := c.lpc, brs := c.brs, brd := c.brd, brc := c.brc, skip := false, shadow := false } := by
  have hword (j : Nat) {m : Nat} {w : BitVec m} (hj : c.specials[j]? = some w.toNat) (hm : m ≤ 32) :
      BitVec.ofNat m (leAt (contextBlock 4 c.g c.specials r) (4 * (16 + j)) 4) = w := ofNat_contextBlock hj hm
  have hstat : leAt (contextBlock 4 c.g c.specials r) 68 4 = c.stat := by
    refine (leAt_contextBlock (j := 1) rfl).trans (Nat.mod_eq_of_lt ?_)
    rw [DhCore.stat_eq]
    exact Nat.lt_trans (flagBits_lt _) (by decide : 2 ^ 9 < 256 ^ 4)
  simp only [DhCore.load, DhCore.setStat, DhCore.mk.injEq, hstat, DhCore.stat_eq, bitOf_flagBits, and_true]
  exact ⟨registers_contextBlock (by decide), hword 0 rfl (by decide), rfl, rfl, rfl, rfl, rfl, hword 2 rfl (by decide),
    hword 3 rfl (by decide), hword 4 rfl (by decide), hword 5 rfl (by decide), hword 6 rfl (by decide), hword 7 rfl (by decide), hword 8 rfl (by decide),
    hword 9 rfl (by decide)⟩

/-- R381: the special registers in a purser's TSB. -/
def PuCore.specials (c : PuCore) : List Nat := [c.pc.toNat, c.flags, c.pl.toNat, c.ph.toNat, c.kwin.toNat]

/-- R381: a purser's TSB begins with its registers. -/
theorem puTsb_eq (c : PuCore) (f : CoreFault) (v o : Nat) : ∃ r, puTsb c f v o = contextBlock 8 c.x c.specials r :=
  ⟨toLe 8 (f.cause + 256 * v + 65536 * f.imm + 2 ^ 24 * o + 2 ^ 32 * f.source) ++ toLe 8 f.addr ++ toLe 8 f.info ++ toLe 8 f.twice ++
      List.replicate 56 0,
    by simp [puTsb, contextBlock, leWords, PuCore.specials, List.flatMap_map]⟩

/-- R382: a purser takes over all that a block saves of a context whose KWIN has its reserved bits 0, and keeps what no block
holds. -/
theorem PuCore.load_contextBlock (x c : PuCore) (r : Bytes) (hkwin : c.kwin.toNat < 8192) :
    x.load (contextBlock 8 c.x c.specials r) =
      { x with x := c.x, pc := c.pc, c := c.c, z := c.z, n := c.n, v := c.v, ie := c.ie, task := c.task, pl := c.pl, ph := c.ph
               kwin := c.kwin, skip := false, shadow := false } := by
  have hword (j : Nat) {w : Word64} (hj : c.specials[j]? = some w.toNat) :
      BitVec.ofNat 64 (leAt (contextBlock 8 c.x c.specials r) (8 * (16 + j)) 8) = w := ofNat_contextBlock hj (by decide)
  have hflags : leAt (contextBlock 8 c.x c.specials r) 136 8 = c.flags := by
    refine (leAt_contextBlock (j := 1) rfl).trans (Nat.mod_eq_of_lt ?_)
    rw [PuCore.flags_eq]
    exact Nat.lt_trans (flagBits_lt _) (by decide : 2 ^ 6 < 256 ^ 8)
  have hkept : leAt (contextBlock 8 c.x c.specials r) 160 8 % 8192 = c.kwin.toNat := by
    refine (congrArg (· % 8192) (leAt_contextBlock (j := 4) rfl)).trans ?_
    omega
  simp only [PuCore.load, PuCore.mk.injEq, hflags, hkept, PuCore.flags_eq, bitOf_flagBits, and_true]
  exact ⟨registers_contextBlock (by decide), hword 0 rfl, rfl, rfl, rfl, rfl, rfl, rfl, hword 2 rfl, hword 3 rfl, by simp⟩

/-- Settles O13: a TSB is a context block, and loading one takes over the context. -/
theorem savedContextIsRestored : Obligations.SavedContextIsRestored := by
  refine ⟨?lane, ?purser⟩
  case lane =>
    intro c x f v o ev
    obtain ⟨r, hr⟩ := dhTsb_eq c f v o ev
    rw [hr, DhCore.load_contextBlock]
    exact ⟨rfl, rfl, rfl, rfl, rfl, rfl, rfl, rfl, rfl, rfl, rfl, rfl, rfl⟩
  case purser =>
    intro c x f v o hkwin
    obtain ⟨r, hr⟩ := puTsb_eq c f v o
    rw [hr, PuCore.load_contextBlock x c r hkwin]
    exact ⟨rfl, rfl, rfl, rfl, rfl, rfl, rfl, rfl, rfl⟩

end Sys2Proof.Machine
end

section
/-!
SUPPORT. The lane control commands, the exceptions that end a lane's instruction, and the writes of an access check unit.
-/
namespace Sys2Proof.Machine

/-- A command whose arm is `State.work`, out of chip safe state (R508). -/
theorem Does.of_work {c : Instr} {s : State} {t : Ticks} {f : Dev → Dev} (g : Dev → Dev) (harm : exec c s = s.work t g)
    (hacts : s.dev.acts = true) (hsafe : (s.dev.at_ t).flt.chipSafe = false) (heff : g (s.dev.at_ t) = f (s.dev.at_ t)) :
    Does c s t f :=
  harm.trans ((State.work_acts s t g hacts hsafe).trans (effect_congr s heff))

/-! ## Exceptions of a lane (R326, R385, R390) -/

section
variable {x y : State} {n len cycles : Nat}

/-- An instruction of a lane that is ready, whose own work faults. -/
theorem State.deckhand_fault {f : CoreFault} {body : State → DhEnd} (hready : x.dev.dhReady n len = true)
    (hbody : body (x.dhFresh n) = .fault y f) : x.deckhand n len cycles body = y.dhTake n f := by
  rw [State.deckhand_ready _ _ _ _ _ hready, hbody]

/-- R385, R390: an event that is due at the boundary is taken, of a lane with no notice before it. -/
theorem State.dhEvent_due (hruns : (x.dev.lane n).runs = true ∧ (x.dev.lane n).origin ≠ 3)
    (hfree : x.dev.flt.chipSafe = false ∧ (x.dev.dh n).notice = false) (hdue : x.dhEventDue n = true) :
    x.dhEvent n = x.dhTake n { cause := 0x41 } := by
  obtain ⟨hrunning, horigin⟩ := hruns
  obtain ⟨hsafe, hnotice⟩ := hfree
  exact if_pos (by simp [hrunning, horigin, hsafe, hnotice, hdue])

end

/-! ## Control of a lane (R343, R344, R347) -/

section
variable {d : Dev} {n : Nat}

/-- R347: OFF under DRAIN drops the records that are not taken, and the lane stops as soon as it may. -/
theorem Dev.laneEnable_drains (hmode : d.cfg Od.lan_DISABLE_MODE n ≠ 1) (hon : (d.lane n).state ≠ .off) :
    d.laneEnable n false = (0, ((d.set Od.lan_ENABLE n 0).setLane n
      { d.lane n with state := .disabling, cancelled := false, records := (d.lane n).records.filter (fun r => r.taken) }).laneStop n) := by
  simp [Dev.laneEnable, hmode, hon]

/-- R347: a disabled lane that may stop is reset, its locks are freed, and its shadow stops with it. -/
theorem Dev.laneStop_stops (hoff : (d.lane n).state = .disabling) (hmay : d.laneMayStop n = true) :
    d.laneStop n =
      (let d1 := (d.setLane n {}).clearLocks (n + 1)
       if (d1.lane (n + 1)).origin = 3 ∧ n % 2 = 0 then d1.setLane (n + 1) {} else d1) := by
  simp [Dev.laneStop, hoff, hmay]

/-- R343: a watchdog that has expired, of a lane that runs and does not wait. -/
theorem Dev.laneWatchdog_expired {w : Ticks} (hset : (d.lane n).watchdog = some w)
    (hruns : (d.lane n).runs = true ∧ (d.lane n).inWait = false) (hdue : w ≤ d.now) :
    d.laneWatchdog n =
      (let d1 := d.raise (64 + n) 2 n
       { d1 with flt.todo := d1.flt.todo ++ [.pier (d.pierOf (n / 8)) 3] }) := by
  obtain ⟨hrunning, hwait⟩ := hruns
  simp [Dev.laneWatchdog, hset, hrunning, hwait, hdue]

/-- R344: a shadow that lags too far behind its lane. -/
theorem Dev.pairedLag_exceeds {lag : Nat} (hruns : (d.lane n).runs = true) (hpair : (d.lane (n + 1)).origin = 3 ∧ n % 2 = 0)
    (hlag : 64 < lag) : d.pairedLag n lag = d.pairMismatch n := by
  obtain ⟨hshadow, heven⟩ := hpair
  exact if_pos (by simp [hruns, hshadow, heven, hlag])

end

/-- R405: ATTR of a region that is not locked takes a value with no reserved field, X and SUP_ONLY clear. -/
theorem Dev.regionAttr_written {d : Dev} {m r v : Nat} (hr : r < regionCount m)
    (hlock : bitOf ((d.acu m).regions.get ({} : Region) r).attr 9 = false)
    (hfields : bitsOf (v % 1024) 6 5 ≠ 3 ∧ bitsOf (v % 1024) 8 7 ≠ 3)
    (hsize : ¬ ((d.acu m).regions.get ({} : Region) r).top < ((d.acu m).regions.get ({} : Region) r).lo + 31)
    (hpurser : bitOf (v % 1024) 3 = false ∧ bitOf (v % 1024) 4 = false) :
    d.regionAttr m r v =
      d.setAcu m { d.acu m with
        regions := (d.acu m).regions.put ({} : Region) r { (d.acu m).regions.get ({} : Region) r with attr := v % 1024 } } := by
  obtain ⟨hlow, hhigh⟩ := hfields
  obtain ⟨hfetch, htask⟩ := hpurser
  exact (if_neg (Nat.not_le.mpr hr)).trans (if_neg (by simp [hlock, hlow, hhigh, hsize, hfetch, htask]))

/-- Settles O38: the tests of each command come out so that its effect is the one its clause writes out. -/
theorem lanesAndChecksComplete : Obligations.LanesAndChecksComplete := by
  refine ⟨?event, ?illegal, ?off, ?stop, ?watchdog, ?lag, ?attr, ?clear⟩
  case event =>
    intro s n t d st hacts hruns hfree hdue
    exact .of_runS (fun x => x.dhEvent n) rfl hacts (State.dhEvent_due hruns hfree hdue)
  case illegal =>
    intro s n words cause t d hacts hready hmet
    exact .of_runS _ rfl hacts ((if_pos hmet).trans (State.deckhand_fault hready rfl))
  case off =>
    intro s n t d hacts hsafe hclaim hmode hon
    exact .of_action (fun d => answered (d.laneEnable n false)) rfl hacts hsafe hclaim (answered_eq (Dev.laneEnable_drains hmode hon))
  case stop =>
    intro s n t d hacts hoff hmay
    exact .of_run (fun d => d.laneStop n) rfl hacts (Dev.laneStop_stops hoff hmay)
  case watchdog =>
    intro s n w t d hacts hset hruns hdue
    exact .of_run (fun d => d.laneWatchdog n) rfl hacts (Dev.laneWatchdog_expired hset hruns hdue)
  case lag =>
    intro s n lag t d hacts hruns hpair hlag
    exact .of_run (fun d => d.pairedLag n lag) rfl hacts (Dev.pairedLag_exceeds hruns hpair hlag)
  case attr =>
    intro s m r v t d hacts hsafe hr hlock hfields hsize hpurser
    exact .of_work (fun d => d.regionAttr m r v.toNat) rfl hacts hsafe (Dev.regionAttr_written hr hlock hfields hsize hpurser)
  case clear =>
    intro s m t d hacts hsafe
    exact .of_work (fun d => d.impClear m) rfl hacts hsafe rfl

end Sys2Proof.Machine
end

section
/-!
SUPPORT. The cipher cores: what a write of CIP_LOCK, of CIP_KEYH and of CIP_CTRL does, a job that runs to its end, and the
statement about the cores' commands.
-/
namespace Sys2Proof.Machine

section
variable {d : Dev} {c user : Nat}

/-! ## Locks (R415, R417) -/

/-- R415: a free core is taken by a user that it admits. -/
theorem Dev.lockWrite_takes {who : Nat} (hwho : who ≠ 0) (hfree : (d.core c).user = 0) (hadmits : d.coreAdmits c who = true) :
    d.lockWrite c who who =
      d.setCore c { d.core c with user := who, lockedAt := d.now, heldRaised := false, result := 0 } :=
  (if_neg hwho).trans (if_neg (by simp [hfree, hadmits]))

/-- R417: a core with no job is freed at once. -/
theorem Dev.freeCore_idle (hidle : (d.core c).busy = false) : d.freeCore c = d.releaseCore c := by
  simp [Dev.freeCore, hidle]

/-- R417: the holder's zero gives an idle core back. -/
theorem Dev.lockWrite_releases (huser : user ≠ 0) (hholds : (d.core c).user = user)
    (hidle : (d.core c).releasing = false ∧ (d.core c).busy = false) : d.lockWrite c user 0 = d.releaseCore c := by
  obtain ⟨hstays, hbusy⟩ := hidle
  simp [Dev.lockWrite, hholds, huser, hstays, Dev.freeCore_idle hbusy]

/-- R415: a register other than CIP_LOCK, written by a user whose writes the core takes. -/
theorem Dev.coreWrite_taken {off : Nat} (v : Nat) (htakes : d.coreTakes c user = true) (hoff : off ≠ 0) :
    (d.coreWrite c user off v).2 = d.coreReg c off v := by
  simp only [Dev.coreTakes, Bool.and_eq_true, decide_eq_true_eq, Bool.not_eq_true'] at htakes
  obtain ⟨⟨⟨huser, hholds⟩, hopen⟩, hstays⟩ := htakes
  simp [Dev.coreWrite, hoff, huser, hholds, hopen, hstays]

/-! ## Keys (R419) -/

/-- R419: the load of a slot's AES key starts. -/
theorem Dev.keyhWrite_loads {h j : Nat} {k : KeySlot} (hh : h ≠ 0)
    (huse : d.keyUse h [0, 1] (keyUserOf (d.core c).user) = some (j, k)) (htype : k.type = 1 ∨ k.type = 2) :
    d.keyhWrite c h = d.setCore c { d.core c with key := none, keySource := 0, keyh := 0, loading := some h } := by
  simp only [Dev.keyhWrite, huse]
  exact (if_neg hh).trans (if_pos (by simpa using htype))

/-- R419: a load that completes, for which no START waited. -/
theorem Dev.slotLoaded_loads {h j : Nat} {k : KeySlot} (hloading : (d.core c).loading = some h)
    (huse : d.keyUse h [0, 1] (keyUserOf (d.core c).user) = some (j, k)) (hnone : (d.core c).waitsKey = false) :
    d.slotLoaded c =
      d.setCore c { d.core c with key := some k.key, keySource := 2, keyh := h, loading := none, uses := 0,
                                  useLimit := k.useLimit, ivLocked := false, ivExhausted := false } := by
  simp [Dev.slotLoaded, hloading, huse, Dev.keyLoaded, hnone]

/-! ## Jobs (R411, R412, R417) -/

/-- R411, R412: START latches the operands of a job in `mode`, on a core that loads no key. -/
def Dev.startsJob (d : Dev) (c mode v : Nat) : Dev :=
  let x := { d.core c with mode := mode, key256 := bitOf v 3, ctrWidth := bitsOf v 5 4, ivAuto := bitOf v 6, tagLen := bitsOf v 12 8 }
  let j : CipherJob :=
    { mode := mode, key256 := x.key256, ctrWidth := x.ctrWidth, ivAuto := x.ivAuto, tagLen := x.tagLen, aadAddr := x.aadAddr,
      aadLen := x.aadLen, src := x.src, dst := x.dst, len := x.len, tagAddr := x.tagAddr, iv := x.iv }
  (d.setCore c { x with busy := true, done := false, job := some j, waitsKey := false }).beginJob c

theorem Dev.ctrlWrite_starts {mode v : Nat} (hidle : (d.core c).busy = false ∧ (d.core c).loading = none)
    (hstart : bitsOf v 2 0 = mode ∧ bitOf v 31 = true) : d.ctrlWrite c v = d.startsJob c mode v := by
  obtain ⟨hbusy, hloading⟩ := hidle
  obtain ⟨rfl, hgo⟩ := hstart
  simp [Dev.ctrlWrite, Dev.startsJob, hbusy, hloading, hgo]

@[simp] theorem Dev.core_bump (r : OdRow) (i k : Nat) (n : Int) : (d.bump r i n).core k = d.core k := by
  simp [Dev.core]

/-- R418: no core is left closing by a job's end, which releases one that was. -/
theorem Dev.core_endJob_closing (r : Nat) : ((d.endJob c r).core c).closing = false := by
  unfold Dev.endJob
  extract_lets x d1 d2
  have hkept : (d2.core c).closing = x.closing := by
    unfold d2
    split <;> simp [d1]
  split
  · simp [Dev.releaseCore]
  · next hopen => simpa [hkept] using (by simpa using hopen : x.releasing = false ∧ x.closing = false).2

/-- R412: what a job gives at an offset of its core's pier buffer, if anything. -/
def Dev.putBuf (d : Dev) (c a : Nat) (b : Option Bytes) : Dev :=
  match b with
  | some b => { d with bufOut := d.bufOut ++ [.put (coreBuf c a) b] }
  | none => d

/-- R412, R417: a running job that nothing cuts short ends with its own result. -/
theorem Dev.jobDone_whole {read : Nat → Nat → Bytes} {j : CipherJob} {r : Nat} {out tag : Option Bytes} {iv : Bytes} (blocks : Nat)
    (hjob : (d.core c).job = some j)
    (hruns : (d.core c).busy = true ∧ (d.core c).waitsKey = false ∧ (d.core c).aborting = false)
    (hout : jobOutput j j.key (read (coreBuf c j.src) j.len)
      (if j.mode = 1 ∨ j.mode = 2 then read (coreBuf c j.aadAddr) j.aadLen else []) (read (coreBuf c j.tagAddr) j.tagLen) =
        (r, out, tag, iv)) :
    d.jobDone c read blocks false =
      (let d1 := (((d.putBuf c j.dst out).putBuf c j.tagAddr tag).setCore c ((d.core c).afterJob j r iv)).bump Od.cip_JOBS c
       (if r = 0 then d1.bump Od.cip_BYTES c j.len else d1.bump Od.cip_TAG_FAILS c).endJob c r) := by
  obtain ⟨hbusy, hkey, hwhole⟩ := hruns
  simp only [Dev.jobDone, hjob, hbusy, hkey, hwhole, Bool.or_eq_true, decide_eq_true_eq, hout, Bool.not_true, Bool.or_self,
    Bool.false_eq_true, if_false]
  rfl

/-! ## ENABLE (R418) -/

theorem Dev.coreEnable_on : d.coreEnable c true = d.set Od.cip_ENABLE c 1 := by
  simp [Dev.coreEnable, b2i]

/-- R418: OFF takes a core with no job from its holder at once. -/
theorem Dev.coreEnable_off_idle
    (hheld : ((d.set Od.cip_ENABLE c 0).core c).user ≠ 0 ∧ ((d.set Od.cip_ENABLE c 0).core c).busy = false) :
    d.coreEnable c false = (d.set Od.cip_ENABLE c 0).releaseCore c := by
  obtain ⟨huser, hidle⟩ := hheld
  simp [Dev.coreEnable, b2i, huser, hidle]

end

/-- A write of CIP_CTRL with START in one of the five modes: the arms of their commands differ in the mode alone. -/
theorem Does.of_cipStart {i : Instr} {s : State} {c : Fin 68} {user mode : Nat} {ctrl : Word32} {t : Ticks}
    (harm : exec i s =
      s.run t (fun d => if bitsOf ctrl.toNat 2 0 = mode && bitOf ctrl.toNat 31 then (d.coreWrite c user 0x004 ctrl.toNat).2 else d))
    (hacts : s.dev.acts = true) (htakes : (s.dev.at_ t).coreTakes c user = true)
    (hidle : ((s.dev.at_ t).core c).busy = false ∧ ((s.dev.at_ t).core c).loading = none)
    (hstart : bitsOf ctrl.toNat 2 0 = mode ∧ bitOf ctrl.toNat 31 = true) :
    Does i s t (fun d => d.startsJob c mode ctrl.toNat) :=
  .of_run _ harm hacts
    ((if_pos (by simp [hstart])).trans ((Dev.coreWrite_taken _ htakes (by decide)).trans (Dev.ctrlWrite_starts hidle hstart)))

/-- Settles O45: each write and each event finds its core in the state it is for, and a job's end leaves no core closing. -/
theorem cipherCoresComplete : Obligations.CipherCoresComplete := by
  refine ⟨?lock, ?free, ?keyh, ?loaded, ?gcmSeal, ?gcmOpen, ?ctr, ?cmacGen, ?cmacVerify, ?done, ?selftest, ?held, ?on, ?off⟩
  case lock =>
    intro s c who t d hacts hwho hfree hadmits
    exact .of_run (fun d => d.cipLock c [(who, who)]) rfl hacts (Dev.lockWrite_takes hwho hfree hadmits)
  case free =>
    intro s c who t d hacts hwho hholds hidle
    exact .of_run (fun d => d.cipLock c [(who, 0)]) rfl hacts (Dev.lockWrite_releases hwho hholds hidle)
  case keyh =>
    intro s c user keyh j k t d hacts htakes hkeyh huse htype
    have hnamed : keyh.toNat ≠ 0 := fun hzero => hkeyh (BitVec.eq_of_toNat_eq hzero)
    exact .of_run (fun d => (d.coreWrite c user 0x00C keyh.toNat).2) rfl hacts
      ((Dev.coreWrite_taken _ htakes (by decide)).trans (Dev.keyhWrite_loads hnamed huse htype))
  case loaded =>
    intro s c h j k t d hacts hloading huse hnone
    exact .of_run (fun d => d.slotLoaded c) rfl hacts (Dev.slotLoaded_loads hloading huse hnone)
  case gcmSeal =>
    intro s c user ctrl t d hacts htakes hidle hstart
    exact .of_cipStart rfl hacts htakes hidle hstart
  case gcmOpen =>
    intro s c user ctrl t d hacts htakes hidle hstart
    exact .of_cipStart rfl hacts htakes hidle hstart
  case ctr =>
    intro s c user ctrl t d hacts htakes hidle hstart
    exact .of_cipStart rfl hacts htakes hidle hstart
  case cmacGen =>
    intro s c user ctrl t d hacts htakes hidle hstart
    exact .of_cipStart rfl hacts htakes hidle hstart
  case cmacVerify =>
    intro s c user ctrl t d hacts htakes hidle hstart
    exact .of_cipStart rfl hacts htakes hidle hstart
  case done =>
    intro s c blocks r t j aad out tag iv d hacts hjob hruns haad hout
    subst haad
    exact .of_runM (fun d read => d.jobDone c read blocks false) rfl hacts
      ((Dev.jobDone_whole blocks hjob hruns hout).trans (if_neg (by simp [Dev.core_endJob_closing])).symm)
  case selftest =>
    intro s c t d hacts hfree
    exact .of_run (fun d => d.coreSelftest c false) rfl hacts (if_neg (by simp [d, hfree]))
  case held =>
    intro s c t d hacts huser hlong
    obtain ⟨hlimited, hfirst⟩ := huser
    exact .of_run (fun d => d.lockHeld c) rfl hacts (if_pos (by simp [d, hlimited, hfirst, hlong]))
  case on =>
    intro s c t d hacts hsafe hclaim
    exact .of_action (fun d => d.coreEnable c true) rfl hacts hsafe hclaim Dev.coreEnable_on
  case off =>
    intro s c t d hacts hsafe hclaim hheld
    exact .of_action (fun d => d.coreEnable c false) rfl hacts hsafe hclaim (Dev.coreEnable_off_idle hheld)

end Sys2Proof.Machine
end

section
/-!
SUPPORT. A hash job whose class the power arbiter grants nothing: the model lets the job wait (R440, R444), where the statement
about the hash rings starts every job of a valid ring.
-/
namespace Sys2Proof.Machine

/-- The descriptor of a SHA-256 job over no bytes: OP 1, OUT_LEN 32, every other byte zero (R437). -/
def emptyShaJob : HashFetch :=
  { desc := (1 : Byte) :: List.replicate 39 0 ++ toLe 4 32 ++ List.replicate 20 0, input := some [], aux := none, pk := none }

/-- The host's ring holds one job, in a window that takes its output, while class GENERAL demands one unit and is granted none
(R600). -/
def generalUngranted : State :=
  { dev := ({ ({} : Dev) with
      sys.phase := .running
      pwr.classDemand := [(4, 1)]
      cry.hash.rings := [(7, { valid := true, jobTail := 1 })] } : Dev).set Od.hif_WINDOW_SIZE 0 0x100000 }

/-- How many jobs the host's ring has taken after a command. -/
def hostJobsTaken : Host.Outcome State Fault Refusal → Nat
  | .next s => (s.dev.hring 7).jobHead
  | _ => 0

/-- R440: the model leaves the job in its ring. -/
theorem hostJobsTaken_generalUngranted : hostJobsTaken (exec (.hashSha256 7 emptyShaJob 0) generalUngranted) = 0 := by decide

/-- Refutes O46: its clauses of the six job kinds do not ask that the job's class is granted what it demands, without which the
job waits (R440, R444, log entry 168). -/
theorem not_hashRingsComplete : ¬ Obligations.HashRingsComplete := by
  intro h
  obtain ⟨-, -, -, hsha256, -⟩ := h
  have htaken := hsha256 generalUngranted 7 emptyShaJob _ [] [] 0 0 (by decide) rfl (by decide) rfl rfl
  have hone : hostJobsTaken (exec (.hashSha256 7 emptyShaJob 0) generalUngranted) = 1 :=
    (congrArg hostJobsTaken htaken).trans (by decide)
  exact absurd (hostJobsTaken_generalUngranted.symm.trans hone) (by decide)

end Sys2Proof.Machine
end

section
/-!
SUPPORT. The statements on one step, on every command's answer, and on commands that find the device off or in chip safe state.
-/
namespace Sys2Proof.Machine

/-! ## One step -/

/-- Settles O1: the front command is the one that `step` takes. -/
theorem stepRunsFrontCommand : Obligations.StepRunsFrontCommand := by
  intro s c l hqueue
  simp only [step, hqueue]

/-- Settles O2: an empty queue idles (log entry 4). -/
theorem emptyQueueIdles : Obligations.EmptyQueueIdles := by
  intro s hempty
  simp only [step, hempty]

/-- Settles O3: every command answers a next state, and that state's queue is the one it was given. -/
theorem everyCommandAnswersNext : Obligations.EveryCommandAnswersNext := by
  intro c s
  have hkept := (exec_keptClean c s).toKept
  obtain ⟨e, he⟩ := hkept.answers
  exact ⟨e, he, hkept.queue e he⟩

/-! ## A device without power (R539, R616) -/

section
variable {s : State} {t : Ticks} (hoff : s.dev.sys.phase = .off)
include hoff

theorem Dev.acts_of_off : s.dev.acts = false := by
  simp [Dev.acts, hoff]

theorem Dev.boots_of_off : s.dev.boots = false := by
  simp [Dev.boots, Dev.acts_of_off hoff, hoff]

/-- A device that is off does not act, so a command of `State.run` and of the ways built on it takes over its time alone. -/
theorem State.run_off (f : Dev → Dev) : s.run t f = .next { s with dev := s.dev.at_ t } :=
  s.run_idle t f (Dev.acts_of_off hoff)

theorem State.write_off (f : Dev → Dev) : s.write t f = .next { s with dev := s.dev.at_ t } := State.run_off hoff _

theorem State.action_off (f : Dev → Dev) : s.action t f = .next { s with dev := s.dev.at_ t } := State.write_off hoff _

theorem State.work_off (f : Dev → Dev) : s.work t f = .next { s with dev := s.dev.at_ t } := State.run_off hoff _

theorem State.runM_off (f : Dev → (Nat → Nat → Bytes) → Dev) : s.runM t f = .next { s with dev := s.dev.at_ t } :=
  State.run_off hoff _

theorem State.runS_off (f : State → State) : s.runS t f = .next { s with dev := s.dev.at_ t } := by
  simp [State.runS, Dev.acts_of_off hoff]

theorem State.boot_off (f : Dev → Dev) : s.boot t f = .next { s with dev := s.dev.at_ t } := by
  simp [State.boot, Dev.boots_of_off hoff]

theorem State.bootWrite_off (f : Dev → Dev) : s.bootWrite t f = .next { s with dev := s.dev.at_ t } := State.boot_off hoff _

theorem State.oap_off (f : State → State) : s.oap t f = .next { s with dev := s.dev.at_ t } := by
  simp [State.oap, Dev.boots_of_off hoff]

theorem State.watch_off (f : Dev → Dev) : s.watch t f = .next { s with dev := s.dev.at_ t } := by
  simp [State.watch, hoff]

theorem State.tap_off (f : Dev → Dev) : s.tap t f = .next { s with dev := s.dev.at_ t } := by
  simp [State.tap, hoff]

theorem State.offerWith_off (f : Dev → (Nat → Nat → Bytes) → Dev) :
    s.offerWith t f = .next { s with dev := s.dev.at_ t } := by
  simp [State.offerWith, Dev.stopping, hoff, State.runM_off hoff]

end

/-- Settles O8: whichever way a command reaches the device, a device that is off does not answer it. -/
theorem offDeviceKeepsItsState : Obligations.OffDeviceKeepsItsState := by
  intro c s hpowered hoff
  unfold exec
  cases c with
  | tagGetInfo | tagRead | tagWrite | tagFieldLoss | vharvRecover | powerOn | tagActivation => cases hpowered
  | bearingEdge | indexPulse | ssiSample | mainsCrossing | wireFault | rateFault | edgeTimeout | coastExpired
  | bearingDrainDone | calCaptureDone | bearingPublish | bearingFrameReceive | ferryBearingSample | cardRemoved | opiChange
  | discTime | cardOvercurrent | cipLock | cipKeyh | cipKeyLoaded | cipGcmSeal | cipGcmOpen | cipCtr | cipCmacGen
  | cipCmacVerify | cipherSelftest | cipherLockHeld | hshJqTail | hshCqHead | hashJobDone | hashSelftest | laneStop
  | laneWatchdog | pairedLaneLag | releaseHold | releaseSafe | ferryTrainingTimeout | ferryPortUp | ferryNak | ferryIdle
  | ferryIdleSend | ferryResendTimeout | ferryDown | ferryTimeSend | ferryTimeExchange | masterLost | twinHeartbeatSend
  | twinHeartbeatReceive | replRecord | replSessionState | replKeys | unjoin | resync | takeover | mirrorStale | joinTime
  | yieldReceive | yieldInstant | yieldFailed | isolationConfirm | bothPathsSilent | heartbeatPathLost | pierRetire
  | flashEraseRoundDone | flashScrub | passwordLockoutEnd | flsWearSel | flr | pcieLinkDown | pcieLinkUp | vectorFire
  | vectorUnmask | evtPendingClear | evtRouteWrite | d3hot | bgnLock | bgnSlot | bgnAdd | bgnSub | bgnMul | toMont
  | fromMont | bgnInv | bgnExp | expBlind | bgnCopy | setMod | bgnRandom | loadKey | storeKey | bnJobDone | rngSeedReady
  | rngHealthFail | rngGroupRetest | rngClientReseed | launchCommit | frameSeal | launchAction | pulseEnd | pinSense
  | pinDrainDone | pinRecalCheck | pinRecalDone | lchEntrySel | overlayPrepare | overlayAnswer | overlayDecide
  | overlayDecisionReceive | lateTolPassed | portLink | timeSyncMessage | syncLoss | holdoverLimit | ppsOut | setupOpen
  | setupAnswer | setupConfirm | setupRefuse | setupTimeout | setupRetransmit | cmdReceive | ackReceive | nackReceive
  | dataReceive | streamReceive | safeReceive | heartbeatReceive | claimReceive | keyupdReceive | jqueryReceive
  | heartbeatSend | hbTimeout | retxTime | keyupdRetry | keyOverlap | rebaseStart | rebaseTimeout | safeRepeat | streamGap
  | epochClose | epochSealed | certIssued | certificateExpiry | ppsIn | powerEpoch | demandSend | demandReceive | shareSet
  | shareStale | modelsMeasured | impreciseNotice | dbSub | dbCpl | mirrorAck | queueDispatch | itemExpiry | confirmTimeout
  | queRingCfg | queueDrainDone | replicationTimeout | manifestScrub | holdupOkFall | holdupOkRise | startComplete
  | warmReset | saveAreaEraseDone | chartSwitchInstant => exact State.run_off hoff _
  | positionSet | calCapture | tagPage | yield | peerDead | dataWrite | eraseSector | setPassword | unlockRegion
  | lockRegion | bnJob | keyGenerate | keyImport | keyRestrict | keyDestroy | shutdown => exact State.write_off hoff _
  | bearingEnable | bearingDisable | clsEnable | permitRequest | revoke | clearInDoubt | cipherEnable | laneEnable
  | ferryPortEnable | release | cancel | pinEnable | pinDisable | portEnable | rekey | safeSend | reopen | sessionEnable
  | streamEnable | certRequest | cancelSeq | queueEnable | queueDisable => exact State.action_off hoff _
  | clsPing | clsPoll | rfGrant | rfStarved | presenceCheck | cardArrived | cardDetect | atrReceive | atrTimeout
  | ppsAnswer | t1BlockReceive | bwtTimeout | kolzelSelect | kolzelIdentify | kolzelAuthenticate | recordGrant
  | journalQuery | permitExpiry | fwtTimeout | acuRgnAttr | acuImpreciseClear => exact State.work_off hoff _
  | cipherJobDone | hshRingCfg | hashSha256 | hashHmac | hkdfExtract | hkdfExpand | slhSign | slhVerify | hostDmaError
  | registerWrite => exact State.runM_off hoff _
  | fcuFaultn | fcuActive | mergeWindow | faultnMinLow | extFault | monitorArm | lcNonce | nonceExpiry | lcTransitionReset
  | dbgAuth | debugExpiry | attestDone | shadowExpiry | mbDoorbell | mbResponse | restart => exact State.boot_off hoff _
  | lcTransition | lcAnchors | lcChain | birthCert | attestChallenge => exact State.bootWrite_off hoff _
  | supplyGlitch | slowSupply | clockGlitch | refclkLoss | temperatureHigh | temperatureLow | shieldEvent | resetNAssert
  | resetNRelease | vddAonLoss | powerFail | saveComplete => exact State.watch_off hoff _
  | itemAdmit => exact State.offerWith_off hoff _
  | bypass | idcode | samplePreload | extest => exact State.tap_off hoff _
  | oapRead | oapReadBlock | oapSubscribe | oapAbort | oapWrite | oapWriteBlock | activateStore | activateChartSwitch
  | activateDelete | notify => exact State.oap_off hoff _
  | dhProductComplete | dhEventException | replicatedWrite | puInterrupt | svcWaitTimeout | taskEnable | taskSlice
  | fetchFault | dhIllegalOpcode | puProductComplete | puIllegalOpcode | dhMov | dhAdd | dhSub | dhAdc | dhSbc | dhAnd
  | dhOr | dhXor | dhCmp | dhTst | dhLsl | dhLsr | dhAsr | dhRor | dhMulu | dhMuls | dhShi | dhRdfeat | dhBsw16 | dhBsw32
  | dhBr | dhCall | dhJr | dhCallr | dhRet | dhTret | dhWait | dhSkcc | dhLoop | dhLdb | dhLdh | dhLdw | dhStb | dhSth
  | dhStw | dhMfs | dhMts | dhFence | qpost | lpost | qtake | qconf | qrej | ftake | fdone | ffwd | bvrd | clock | cfree
  | levt | wdog | dhMovi | dhAddi | dhCmpi | dhNop | dhSnap | dhMovs | dhFils | dhCmps | dhScns | dhCrcs | dhSums | puTret
  | puWait | puFence | puTsw | puSnap | puMulu | puMuls | puNeg | puNot | puLea | puBswap | puClz | puPopc | puSelz
  | puSext | puZext | puMov | puAdd | puSub | puAdc | puSbc | puAnd | puOr | puXor | puCmp | puTst | puLsl | puLsr | puAsr
  | puRor | puMovi | puAddi | puSubi | puAndi | puOri | puXori | puCmpi | puTsti | puLsli | puLsri | puAsri | puRori | puLd
  | puLds | puSt | puBr | puCall | puJr | puCallr | puRet | puPush | puPop | puSkcc | puMfs | puMts | puMovs | puRnd
  | svcYield | svcExit | svcWait | signalLane | taskEvent | svcRandom | svcOtherCode | svcOap | puNop | puMadd | puMand
  | puMor | puMxor | puXchg | puCas | puFils | puCmps | puScns | puCrcs => exact State.runS_off hoff _

/-! ## Chip safe state (R508) -/

section
variable {s : State} {t : Ticks} (hsafe : (s.dev.at_ t).flt.chipSafe = true)
include hsafe

theorem State.write_chipSafe (hacts : s.dev.acts = true) (f : Dev → Dev) :
    s.write t f = .next (s.withDev ((s.dev.at_ t).emit (.writeStatus 9)).settle) :=
  (State.run_acts s t _ hacts).trans (effect_congr s (if_pos hsafe))

theorem State.action_chipSafe (hacts : s.dev.acts = true) (f : Dev → Dev) :
    s.action t f = .next (s.withDev ((s.dev.at_ t).emit (.writeStatus 9)).settle) :=
  State.write_chipSafe hsafe hacts _

theorem State.bootWrite_chipSafe (hboots : s.dev.boots = true) (f : Dev → Dev) :
    s.bootWrite t f = .next (s.withDev ((s.dev.at_ t).emit (.writeStatus 9)).settle) :=
  (State.boot_acts s t _ hboots).trans (effect_congr s (if_pos (by rw [hsafe, Bool.true_or])))

end

theorem Dev.boots_of_acts {d : Dev} (hacts : d.acts = true) : d.boots = true := by
  simp [Dev.boots, hacts]

/-- Settles O6: whichever of the three ways an object write takes, it asks for chip safe state before it is carried out. -/
theorem chipSafeAnswersState : Obligations.ChipSafeAnswersState := by
  intro c s hwrites hacts hsafe
  unfold exec
  cases c with
  | positionSet | calCapture | tagPage | yield | peerDead | dataWrite | eraseSector | setPassword | unlockRegion | lockRegion
  | bnJob | keyGenerate | keyImport | keyRestrict | keyDestroy | shutdown => exact State.write_chipSafe hsafe hacts _
  | bearingEnable | bearingDisable | clsEnable | permitRequest | revoke | clearInDoubt | cipherEnable | laneEnable
  | ferryPortEnable | release | cancel | pinEnable | pinDisable | portEnable | rekey | safeSend | reopen | sessionEnable
  | streamEnable | certRequest | cancelSeq | queueEnable | queueDisable => exact State.action_chipSafe hsafe hacts _
  | lcTransition | lcAnchors | lcChain | birthCert | attestChallenge =>
    exact State.bootWrite_chipSafe hsafe (Dev.boots_of_acts hacts) _
  | _ => cases hwrites -- a command that writes no object

end Sys2Proof.Machine
end

section
/-!
SUPPORT. Wrapped-key records (R473): the lengths of AES blocks and round keys, counter mode as its own inverse, and the places
of a record's fields.
-/
namespace Sys2Proof.Machine

/-! ## Lengths -/

@[simp] theorem length_xorB (a b : Bytes) : (xorB a b).length = min a.length b.length := by
  simp [xorB]

@[simp] theorem length_subShift (s : Bytes) : (subShift s).length = 16 := by
  simp [subShift]

@[simp] theorem length_toBe (n v : Nat) : (toBe n v).length = n := by
  simp [toBe]

@[simp] theorem length_padTo (n : Nat) (l : Bytes) : (padTo n l).length = n := by
  simp [padTo]
  omega

theorem padTo_length (l : Bytes) : padTo l.length l = l := by
  simp [padTo]

theorem take_padTo {n : Nat} {l : Bytes} (h : l.length ≤ n) : (padTo n l).take l.length = l := by
  simp [padTo, List.take_of_length_le h]

/-! ## Round keys (FIPS 197) -/

/-- The first `i` words of a key schedule: all of four bytes. -/
def WordsTo (i : Nat) (w : List Bytes) : Prop := w.length = i ∧ ∀ x ∈ w, x.length = 4

/-- The schedule of a key of `nk` words: each round of the loop adds one word of four bytes. -/
theorem keyWords_wordsTo {nk : Nat} (hnk : 0 < nk) (k i : Nat) (rcon : Byte) (w : List Bytes) (hi : nk ≤ i) (hw : WordsTo i w) :
    WordsTo (i + k) (keyWords nk k i rcon w) := by
  induction k generalizing i rcon w with
  | zero => exact hw
  | succ k ih =>
    obtain ⟨hlen, hfour⟩ := hw
    have hlast : (w.getLastD []).length = 4 := by
      have hne : w ≠ [] := List.ne_nil_of_length_pos (by omega)
      rw [List.getLastD_eq_getLast?, List.getLast?_eq_some_getLast hne]
      exact hfour _ (List.getLast_mem hne)
    have hold : (w.getD (i - nk) []).length = 4 := by
      have hlt : i - nk < w.length := by omega
      rw [List.getD_eq_getElem _ _ hlt]
      exact hfour _ (List.getElem_mem hlt)
    have hsplit : i + (k + 1) = i + 1 + k := by omega
    rw [keyWords, hsplit]
    generalize w.getLastD [] = prev at hlast
    refine ih _ _ _ (by omega) ⟨by simp [hlen], fun x hx => ?_⟩
    rcases List.mem_append.mp hx with hx | hx
    · exact hfour x hx
    · rw [List.mem_singleton.mp hx, length_xorB, hold]
      split
      · simp [hlast]
      · split <;> simp [hlast]

/-- The round keys of a 32-byte key end with one of 16 bytes. -/
theorem length_roundKeys_last {key : Bytes} (hkey : key.length = 32) : ((roundKeys key).getLastD []).length = 16 := by
  have hstart : WordsTo 8 ((List.range 8).map (fun i => sliceB key (4 * i) 4)) := by
    refine ⟨by simp, fun x hx => ?_⟩
    obtain ⟨i, hi, rfl⟩ := List.mem_map.mp hx
    rw [List.mem_range] at hi
    simp [sliceB, hkey]
    omega
  obtain ⟨hlen, hfour⟩ := keyWords_wordsTo (nk := 8) (by decide) 52 8 1 _ (le_refl 8) hstart
  simp only [roundKeys, hkey]
  generalize keyWords 8 _ 8 1 _ = w at hlen hfour ⊢
  have hlast : ((w.drop 56).take 4).map List.length = List.replicate 4 4 := by
    refine List.eq_replicate_iff.mpr ⟨by simp [hlen], fun m hm => ?_⟩
    obtain ⟨x, hx, rfl⟩ := List.mem_map.mp hm
    exact hfour x (List.drop_subset _ _ (List.take_subset _ _ hx))
  show ((((w.drop 56).take 4).flatten).length) = 16
  rw [List.length_flatten, hlast]
  rfl

/-- An AES block under round keys that end with one of 16 bytes. -/
theorem length_aesBlock {rk : List Bytes} (hrk : (rk.getLastD []).length = 16) (blk : Bytes) : (aesBlock rk blk).length = 16 := by
  simp only [aesBlock, length_xorB, length_subShift, hrk, Nat.min_self]

/-! ## Blocks and counter mode (SP 800-38A) -/

theorem xorB_xorB {a b : Bytes} (h : a.length ≤ b.length) : xorB (xorB a b) b = a := by
  refine List.ext_getElem (by simp [h]) fun i hi _ => ?_
  simp [xorB]

theorem aesBlocks_cons {b : Bytes} (hb : b.length = 16) (l : Bytes) : aesBlocks (b ++ l) = b :: aesBlocks l := by
  have hcount : ((b ++ l).length + 15) / 16 = (l.length + 15) / 16 + 1 := by
    rw [List.length_append, hb]
    omega
  simp only [aesBlocks, hcount, List.range_succ_eq_map, List.map_cons, List.map_map]
  congr 1
  · simp [sliceB, hb]
  · refine List.map_congr_left fun i _ => ?_
    have hplace : 16 * (i + 1) = b.length + 16 * i := by omega
    simp only [Function.comp_apply, sliceB, Nat.succ_eq_add_one, hplace, List.drop_length_add_append]

/-- Bytes made of whole blocks are cut into those blocks. -/
theorem aesBlocks_flatten {l : List Bytes} (hl : ∀ b ∈ l, b.length = 16) : aesBlocks l.flatten = l := by
  induction l with
  | nil => rfl
  | cons b l ih =>
    rw [List.flatten_cons, aesBlocks_cons (hl b List.mem_cons_self), ih fun x hx => hl x (List.mem_cons_of_mem b hx)]

/-- Bytes of a whole number of blocks are their blocks, joined. -/
theorem flatten_aesBlocks {data : Bytes} {n : Nat} (hdata : data.length = 16 * n) :
    (aesBlocks data).flatten = data ∧ ∀ b ∈ aesBlocks data, b.length = 16 := by
  induction n generalizing data with
  | zero =>
    rw [List.length_eq_zero_iff.mp (hdata : data.length = 0)]
    exact ⟨rfl, by simp [aesBlocks]⟩
  | succ n ih =>
    have hfirst : (data.take 16).length = 16 := by rw [List.length_take]; omega
    obtain ⟨hjoin, hfull⟩ := ih (data := data.drop 16) (by rw [List.length_drop]; omega)
    rw [← List.take_append_drop 16 data, aesBlocks_cons hfirst]
    refine ⟨by rw [List.flatten_cons, hjoin], fun b hb => ?_⟩
    rcases List.mem_cons.mp hb with rfl | hb
    · exact hfirst
    · exact hfull b hb

section
variable {rk : List Bytes} {w n : Nat} {iv data : Bytes} (hrk : (rk.getLastD []).length = 16) (hdata : data.length = 16 * n)
include hrk hdata

/-- The blocks that counter mode makes of whole blocks. -/
theorem aesBlocks_ctrMode :
    aesBlocks (ctrMode rk w iv data) = (aesBlocks data).zipIdx.map (fun e => xorB e.1 (aesBlock rk (ctrAdd w iv e.2))) := by
  rw [ctrMode, List.flatMap_def]
  refine aesBlocks_flatten fun b hb => ?_
  obtain ⟨e, he, rfl⟩ := List.mem_map.mp hb
  have hmem : e.1 ∈ aesBlocks data := List.fst_mem_of_mem_zipIdx he
  rw [length_xorB, length_aesBlock hrk, (flatten_aesBlocks hdata).2 _ hmem, Nat.min_self]

theorem length_ctrMode : (ctrMode rk w iv data).length = data.length := by
  have hblocks : (aesBlocks data).length = n := by simp [aesBlocks, hdata]; omega
  have hfull (e) (he : e ∈ (aesBlocks data).zipIdx) : (xorB e.1 (aesBlock rk (ctrAdd w iv e.2))).length = 16 := by
    rw [length_xorB, length_aesBlock hrk, (flatten_aesBlocks hdata).2 _ (List.fst_mem_of_mem_zipIdx he), Nat.min_self]
  rw [ctrMode, List.length_flatMap, List.map_congr_left hfull]
  simp [hblocks, hdata, Nat.mul_comm]

/-- Counter mode undoes itself. -/
theorem ctrMode_ctrMode : ctrMode rk w iv (ctrMode rk w iv data) = data := by
  obtain ⟨hjoin, hfull⟩ := flatten_aesBlocks hdata
  refine Eq.trans ?_ hjoin
  rw [ctrMode, aesBlocks_ctrMode hrk hdata, List.flatMap_def]
  congr 1
  refine List.ext_getElem (by simp) fun i hi hblock => ?_
  have hwhole : (aesBlocks data)[i].length = 16 := hfull _ (List.getElem_mem hblock)
  simp [xorB_xorB, hwhole, length_aesBlock hrk]

end

/-! ## The fields of a record (R473) -/

theorem sliceB_append_left {a : Bytes} {off n : Nat} (l : Bytes) (h : off + n ≤ a.length) : sliceB (a ++ l) off n = sliceB a off n := by
  have hdrop : n ≤ (a.drop off).length := by rw [List.length_drop]; omega
  rw [sliceB, List.drop_append_of_le_length (by omega), List.take_append_of_le_length hdrop, sliceB]

theorem sliceB_append_right (a l : Bytes) (off n : Nat) : sliceB (a ++ l) (a.length + off) n = sliceB l off n := by
  rw [sliceB, List.drop_length_add_append, sliceB]

/-- The field that stands between the bytes before it and those after it. -/
theorem sliceB_field {a b : Bytes} {off n : Nat} (l : Bytes) (ha : a.length = off) (hb : b.length = n) : sliceB (a ++ (b ++ l)) off n = b := by
  subst ha hb
  simp [sliceB]

/-- R473: what opens a record whose fields have their lengths, and whose CRC and tag check. -/
theorem recordOpen_of_fields {wk b front policy iv ct tag crc rsv : Bytes} (hb : b = front ++ policy ++ iv ++ ct ++ tag ++ crc ++ rsv)
    (hfront : front.length = 8) (hpolicy : policy.length = 16) (hiv : iv.length = 12) (hct : ct.length = 64)
    (htag : tag.length = 16) (hcrc : crc.length = 4) (hrsv : rsv.length = 8)
    (hcheck : leNat crc = (crc32c (front ++ policy ++ iv ++ ct ++ tag)).toNat)
    (hsealed : gcmTag (roundKeys wk) iv (front ++ policy) ct = tag) :
    b.length = 128 ∧ recordOpen wk b = some (policy, (gcmCrypt (roundKeys wk) iv ct).take (leAt policy 6 1)) := by
  have hlength : b.length = 128 := by simp [hb, hfront, hpolicy, hiv, hct, htag, hcrc, hrsv]
  have hheadAt : b.take 24 = front ++ policy := by
    simpa [hb] using List.take_left' (l₁ := front ++ policy) (l₂ := iv ++ ct ++ tag ++ crc ++ rsv) (by simp [hfront, hpolicy])
  have hpolicyAt : sliceB b 8 16 = policy := by simpa [hb] using sliceB_field (iv ++ ct ++ tag ++ crc ++ rsv) hfront hpolicy
  have hivAt : sliceB b 24 12 = iv := by
    simpa [hb] using sliceB_field (a := front ++ policy) (ct ++ tag ++ crc ++ rsv) (by simp [hfront, hpolicy]) hiv
  have hctAt : sliceB b 36 64 = ct := by
    simpa [hb] using sliceB_field (a := front ++ policy ++ iv) (tag ++ crc ++ rsv) (by simp [hfront, hpolicy, hiv]) hct
  have htagAt : sliceB b 100 16 = tag := by
    simpa [hb] using sliceB_field (a := front ++ policy ++ iv ++ ct) (crc ++ rsv) (by simp [hfront, hpolicy, hiv, hct]) htag
  have hcrcAt : leAt b 116 4 = leNat crc := by
    simpa [hb, leAt] using congrArg leNat
      (sliceB_field (a := front ++ policy ++ iv ++ ct ++ tag) rsv (by simp [hfront, hpolicy, hiv, hct, htag]) hcrc)
  have hbodyAt : b.take 116 = front ++ policy ++ iv ++ ct ++ tag := by
    simpa [hb] using List.take_left' (l₁ := front ++ policy ++ iv ++ ct ++ tag) (l₂ := crc ++ rsv)
      (by simp [hfront, hpolicy, hiv, hct, htag])
  have hlenAt : leAt b 14 1 = leAt policy 6 1 := by
    have hright := sliceB_append_right front (policy ++ (iv ++ ct ++ tag ++ crc ++ rsv)) 6 1
    rw [hfront, sliceB_append_left (off := 6) _ (by omega)] at hright
    simpa [hb, leAt] using congrArg leNat hright
  refine ⟨hlength, ?_⟩
  simp [recordOpen, hlength, hheadAt, hpolicyAt, hivAt, hctAt, htagAt, hcrcAt, hbodyAt, hlenAt, hcheck, hsealed]

/-- Settles O58: the fields of the record stand where `recordOpen` reads them, and counter mode undoes itself. -/
theorem wrappedKeyRecordOpens : Obligations.WrappedKeyRecordOpens := by
  intro wk n s g policy key hwk hpolicy hkey
  obtain ⟨hlength, hfits⟩ := hkey
  have hrk := length_roundKeys_last hwk
  have hpad : (padTo 64 key).length = 16 * 4 := length_padTo 64 key
  have hct : (gcmCrypt (roundKeys wk) (toBe 12 n) (padTo 64 key)).length = 64 := (length_ctrMode hrk hpad).trans hpad
  have hplain : gcmCrypt (roundKeys wk) (toBe 12 n) (gcmCrypt (roundKeys wk) (toBe 12 n) (padTo 64 key)) = padTo 64 key :=
    ctrMode_ctrMode hrk hpad
  have hwhole : padTo 16 policy = policy := by rw [← hpolicy, padTo_length]
  have hcrc (c : BitVec 32) : leNat (toLe 4 c.toNat) = c.toNat := by rw [leNat_toLe]; exact Nat.mod_eq_of_lt c.isLt
  obtain ⟨h128, hopen⟩ := recordOpen_of_fields (wk := wk) (b := recordBytes wk n s g policy key)
    (front := toLe 2 s ++ [0, 0] ++ toLe 4 g) (by rw [recordBytes, hwhole]) (by simp) hpolicy (length_toBe 12 n) hct
    (by simp [gcmTag, length_aesBlock hrk]) (length_toLe 4 _) (List.length_replicate ..) (hcrc _) rfl
  rw [hplain, hlength, take_padTo hfits] at hopen
  exact ⟨h128, hopen⟩

end Sys2Proof.Machine
end

section
/-!
SUPPORT. The collector's own faults (R513): what a notice, a log record and a fault leave of the request for chip safe state.
-/
namespace Sys2Proof.Machine

/-! ## A notice leaves the collector as it is (R291–R298) -/

section
variable (d : Dev)

@[simp] theorem Dev.flt_emitPf (pf : Nat) (o : Output) : (d.emitPf pf o).flt = d.flt := by
  unfold Dev.emitPf
  split <;> rfl

@[simp] theorem Dev.flt_emitCpl (q pos : Nat) (r : CplRec) : (d.emitCpl q pos r).flt = d.flt := by
  unfold Dev.emitCpl
  extract_lets x
  split
  · rfl
  · exact d.flt_emitPf _ _

@[simp] theorem Dev.flt_emitWork (q pos kind tag seq : Nat) (body : Bytes) (o : Output) :
    (d.emitWork q pos kind tag seq body o).flt = d.flt := by
  unfold Dev.emitWork
  extract_lets x
  split
  · rfl
  · exact d.flt_emitPf _ _

@[simp] theorem Dev.flt_fireVec (v : Nat) : (d.fireVec v).flt = d.flt := by
  unfold Dev.fireVec
  extract_lets x
  split <;> rfl

@[simp] theorem Dev.flt_vecEvent (v : Nat) : (d.vecEvent v).flt = d.flt := by
  unfold Dev.vecEvent
  extract_lets x p first _ d1
  split
  · rfl
  · split
    · exact d1.flt_fireVec v
    · rfl

@[simp] theorem Dev.flt_signalSource (s : Nat) : (d.signalSource s).flt = d.flt := by
  unfold Dev.signalSource
  extract_lets r d1 p h d2
  have h1 : d1.flt = d.flt := by unfold d1; split <;> simp
  have h2 : d2.flt = d1.flt := by unfold d2; split <;> rfl
  split
  · exact h1
  · split
    · exact h2.trans h1
    · exact h2.trans h1

@[simp] theorem Dev.flt_writeGap (q : Nat) (g : GapRun) : (d.writeGap q g).flt = d.flt := by
  unfold Dev.writeGap
  extract_lets x
  split
  · rfl
  · simp

@[simp] theorem Dev.flt_dropNotice (q : Nat) : (d.dropNotice q).flt = d.flt := by
  unfold Dev.dropNotice
  extract_lets x d1 x1
  split
  · rfl
  · simp [d1, Dev.bump]
  · simp [d1, Dev.bump]

@[simp] theorem Dev.flt_eventQueue (q : Nat) (n : Notice) : (d.eventQueue q n).flt = d.flt := by
  unfold Dev.eventQueue
  extract_lets x
  split
  · rfl
  · split <;> simp

@[simp] theorem Dev.flt_deliver (n : Notice) : (d.deliver n).flt = d.flt := by
  unfold Dev.deliver
  extract_lets r d1
  rw [Dev.flt_signalSource]
  unfold d1
  split <;> simp

@[simp] theorem Dev.flt_faultNotices (src inst sev : Nat) (origin : Option (Nat × Nat)) (merged : Bool) (detail : List Int) :
    (d.faultNotices src inst sev origin merged detail).flt = d.flt := by
  unfold Dev.faultNotices
  split
  · rfl
  · extract_lets fault
    split
    · simp
    · extract_lets d1
      split <;> simp [d1]

end

/-! ## The request for chip safe state (R513) -/

/-- The collector has failed, and chip safe state is among what is to be done. -/
def Dev.AsksChipSafe (d : Dev) : Prop := d.flt.collectorFault = true ∧ FaultAct.chipSafe ∈ d.flt.todo

section
variable {d : Dev}

/-- The request stands while the collector's mark stays and what is to be done only grows. -/
theorem Dev.AsksChipSafe.mono {e : Dev} (h : d.AsksChipSafe) (hfault : e.flt.collectorFault = d.flt.collectorFault)
    (htodo : d.flt.todo ⊆ e.flt.todo) : e.AsksChipSafe :=
  ⟨hfault.trans h.1, htodo h.2⟩

theorem Dev.AsksChipSafe.of_flt {e : Dev} (h : d.AsksChipSafe) (hflt : e.flt = d.flt) : e.AsksChipSafe := by
  rwa [Dev.AsksChipSafe, hflt]

theorem Dev.AsksChipSafe.logFault (h : d.AsksChipSafe) (r : LogRec) : (d.logFault r).AsksChipSafe := by
  unfold Dev.logFault
  extract_lets d1 recent r'
  split
  · exact h
  · split <;> exact h

theorem Dev.AsksChipSafe.driveFaultN (h : d.AsksChipSafe) : d.driveFaultN.AsksChipSafe := by
  unfold Dev.driveFaultN
  extract_lets d1
  split <;> exact h

theorem Dev.AsksChipSafe.actFault (h : d.AsksChipSafe) (src inst sev : Nat) (origin : Option (Nat × Nat)) (detail : List Int)
    (escal : Bool) : (d.actFault src inst sev origin detail escal).AsksChipSafe := by
  unfold Dev.actFault
  extract_lets combined flags d1 _ d2 d3
  have h1 : d1.AsksChipSafe := h.logFault _
  have h2 : d2.AsksChipSafe := h1.mono rfl (List.subset_append_left _ _)
  have h3 : d3.AsksChipSafe := h2.of_flt (d2.flt_faultNotices _ _ _ _ _ _)
  split
  · exact h3.driveFaultN
  · exact h3

theorem Dev.AsksChipSafe.escalate (h : d.AsksChipSafe) (src inst : Nat) : (d.escalate src inst).AsksChipSafe := by
  unfold Dev.escalate
  extract_lets d1
  have h1 : d1.AsksChipSafe := h
  split
  · exact h1.logFault _
  · exact h1.actFault _ _ _ _ _ _

theorem Dev.AsksChipSafe.endMerge (h : d.AsksChipSafe) (src : Nat) : (d.endMerge src).AsksChipSafe := by
  unfold Dev.endMerge
  split
  · exact h
  · extract_lets _ d1 sev
    have h1 : d1.AsksChipSafe := h
    split
    · exact h1.logFault _
    · exact h1.of_flt (d1.flt_faultNotices _ _ _ _ _ _)

theorem Dev.AsksChipSafe.mergeFault (h : d.AsksChipSafe) (src inst : Nat) : (d.mergeFault src inst).AsksChipSafe := by
  unfold Dev.mergeFault
  extract_lets limit limitSev past d0 _ e _ d1 d2
  have h0 : d0.AsksChipSafe := by
    unfold d0
    split
    · exact h.endMerge src
    · exact h
  split
  · extract_lets n d1
    have h1 : d1.AsksChipSafe := h0
    split
    · exact h1.actFault _ _ _ _ _ _
    · exact h1
  · have h1 : d1.AsksChipSafe := h0
    have h2 : d2.AsksChipSafe := h1.actFault _ _ _ _ _ _
    split
    · exact h2.actFault _ _ _ _ _ _
    · exact h2

/-- A fault of the collector itself asks for chip safe state. -/
theorem Dev.collectorFails_asks (d : Dev) (src : Nat) : (d.collectorFails src).AsksChipSafe := by
  unfold Dev.collectorFails
  extract_lets d1 _ d2
  have h2 : d2.AsksChipSafe := ⟨rfl, List.mem_append_right _ (List.mem_singleton_self _)⟩
  exact h2.of_flt (d2.flt_faultNotices _ _ _ _ _ _)

/-- The check at a use of configuration words asks for chip safe state where the parity has failed or a pair is broken. -/
theorem Dev.collectorCheck_asks {words : List (OdRow × Nat)}
    (hbad : d.flt.parityBad = true ∨ words.all (fun w => d.pairOk w.1 w.2) = false) : (d.collectorCheck words).AsksChipSafe := by
  unfold Dev.collectorCheck
  extract_lets d1
  split
  · next hpairs =>
    have hparity : d.flt.parityBad = true := hbad.resolve_right (by simp [hpairs])
    unfold d1
    rw [if_pos hparity]
    exact d.collectorFails_asks _
  · exact d1.collectorFails_asks _

/-- What the check has asked for stands at the end of the fault, whichever way the fault goes. -/
theorem Dev.fault_asks {src : Nat} (inst : Nat) (origin : Option (Nat × Nat)) (detail : List Int)
    (hcheck : (d.collectorCheck (collectorWords src)).AsksChipSafe) : (d.fault src inst origin detail).AsksChipSafe := by
  unfold Dev.fault
  extract_lets d0 d1 sev d2
  have h1 : d1.AsksChipSafe := hcheck
  have h2 : d2.AsksChipSafe := h1.logFault _
  clear_value d1 d2
  split
  · exact h1.mergeFault _ _
  · split
    · split
      · exact h2
      · exact h2.escalate _ _
    · exact h1.actFault _ _ _ _ _ _

end

/-- Settles O60: the check that a fault makes first asks for chip safe state, and nothing later in the fault takes that back. -/
theorem brokenCollectorGoesToChipSafe : Obligations.BrokenCollectorGoesToChipSafe :=
  ⟨fun _ _ inst origin detail hparity => Dev.fault_asks inst origin detail (Dev.collectorCheck_asks (.inl hparity)),
   fun _ _ inst origin detail hpair => Dev.fault_asks inst origin detail (Dev.collectorCheck_asks (.inr hpair))⟩

end Sys2Proof.Machine
end

section
/-!
SUPPORT. The big-number engine: what a write of its lock and of a slot word does, a command that runs, and the statement about
its commands.
-/
namespace Sys2Proof.Machine

section
variable {d : Dev}

/-! ## Lock and slots (R451, R452) -/

/-- R451: a single write of BGN_LOCK. -/
theorem Dev.bgnLock_single (u v : Nat) :
    d.bgnLock [(u, v)] =
      if v = 0 then (if d.bgn.user = u && u ≠ 0 then d.onBgn BigNum.released else d)
      else if v ≠ u || d.bgn.user ≠ 0 || !(decide (0x100 ≤ u ∧ u ≤ 0x103)) then d
      else d.onBgn (fun b => { b with user := u }) := rfl

theorem Dev.bgnLock_takes {u : Nat} (hfree : d.bgn.user = 0) (hpurser : 0x100 ≤ u ∧ u ≤ 0x103) :
    d.bgnLock [(u, u)] = d.onBgn (fun b => { b with user := u }) := by
  have hnonzero : u ≠ 0 := by omega
  rw [Dev.bgnLock_single, if_neg hnonzero, if_neg (by simp [hfree, hpurser])]

theorem Dev.bgnLock_releases {u : Nat} (hholds : d.bgn.user = u ∧ u ≠ 0) : d.bgnLock [(u, 0)] = d.onBgn BigNum.released := by
  rw [Dev.bgnLock_single, if_pos rfl, if_pos (by simp [hholds])]

/-- R452: a slot's descriptor that is in range and overlaps no other slot's. -/
theorem Dev.bgnSlot_accepted {i v w : Nat} (hw : w = v % 2 ^ 17 - (if bitOf v 11 then 2048 else 0))
    (hfits : d.bgn.queue = [] ∧ slotCode w ≤ 4 ∧ slotBase w + slotBytes w ≤ 131072)
    (hfree : d.bgn.slots.any (fun e => decide (e.1 ≠ i) && slotsOverlap e.2 w) = false) :
    d.bgnSlot i v = d.onBgn (fun b => { b with slots := b.slots.put 0 i w, cache := b.cache.filter (fun e => e.1 ≠ i) }) := by
  obtain ⟨hidle, hcode, hend⟩ := hfits
  simp only [Dev.bgnSlot, ← hw, hfree]
  exact if_neg (by simp [hidle, hcode, hend])

/-- R415: a slot word that the holder of the lock writes. -/
theorem Dev.bgnWrite_slot {u i : Nat} (v : Nat) (hholds : d.bgn.user = u ∧ u ≠ 0) (hi : i < 64) :
    (d.bgnWrite u (0x100 + 4 * i) v).2 = d.bgnSlot i v := by
  obtain ⟨huser, hnonzero⟩ := hholds
  have hrange : 0x100 + 4 * i < 0x200 := by omega
  have hlow : 0x100 + 4 * i ≠ 0xC ∧ 0x100 + 4 * i ≠ 8 ∧ 0x100 + 4 * i ≠ 4 ∧ 0x100 + 4 * i ≠ 0 := by omega
  simp [Dev.bgnWrite, huser, hnonzero, hlow, hrange]

/-! ## Commands (R454–R456) -/

section
variable {op : Nat} {c : BgnCmd} {used : List Nat} {modulus : Option Nat}

theorem Dev.bgnTakes_iff : d.bgnTakes op c used modulus = true ↔
    (d.bgn.queue.head? = some c ∧ c.op = op) ∧ d.bgn.slotsWrong used modulus = none := by
  simp [Dev.bgnTakes]

theorem Dev.bgnRun_front (f : Dev → BgnCmd → Dev) (hfront : d.bgn.queue.head? = some c ∧ c.op = op) : d.bgnRun op f = f d c := by
  obtain ⟨hhead, hop⟩ := hfront
  obtain ⟨rest, hqueue⟩ := List.head?_eq_some_iff.mp hhead
  simp only [Dev.bgnRun, hqueue, if_pos hop]

/-- R455: an arithmetic command at the head of the queue, its operands in range where they have to be. -/
theorem Dev.bgnRun_arith (binary range : Bool) (f : Dev → BgnCmd → Nat → Nat → Nat → Nat)
    (htakes : d.bgnTakes op c (if binary then [c.dst, c.a, c.b, c.m] else [c.dst, c.a, c.m]) (some c.m) = true)
    (hrange : range = true → d.bgn.value c.a < d.bgn.modulus c.m ∧ (binary = true → d.bgn.value c.b < d.bgn.modulus c.m)) :
    d.bgnRun op (fun d c => d.bgnArith c binary range (f d c)) =
      d.bgnOk (fun y => (y.touch c.m).store c.dst (f d c (d.bgn.value c.a) (d.bgn.value c.b) (d.bgn.modulus c.m))) := by
  obtain ⟨hfront, hslots⟩ := Dev.bgnTakes_iff.mp htakes
  rw [Dev.bgnRun_front _ hfront]
  simp only [Dev.bgnArith, hslots]
  refine if_neg ?_
  simp only [Bool.and_eq_true, Bool.or_eq_true, decide_eq_true_eq, not_and, not_or, Nat.not_le]
  exact hrange

theorem Dev.bgnInv_found {v : Nat} (htakes : d.bgnTakes 6 c [c.dst, c.a, c.m] (some c.m) = true)
    (hinv : invMod (d.bgnBits c) (d.bgn.value c.a) (d.bgn.modulus c.m) = some v) :
    d.bgnInv = d.bgnOk (fun y => (y.touch c.m).store c.dst v) := by
  obtain ⟨hfront, hslots⟩ := Dev.bgnTakes_iff.mp htakes
  rw [Dev.bgnInv, Dev.bgnRun_front _ hfront]
  simp only [hslots, hinv]

theorem Dev.bgnCopy_valid (htakes : d.bgnTakes 9 c [c.dst, c.a] none = true) :
    d.bgnCopy = d.bgnOk (fun y => y.store c.dst (y.value c.a)) := by
  obtain ⟨hfront, hslots⟩ := Dev.bgnTakes_iff.mp htakes
  rw [Dev.bgnCopy, Dev.bgnRun_front _ hfront]
  simp only [hslots]

theorem Dev.bgnSetMod_odd (htakes : d.bgnTakes 10 c [c.m] none = true) (hodd : d.bgn.value c.m % 2 = 1) :
    d.bgnSetMod = d.bgnOk (fun y => { y with cache := ((c.m, d.bgn.value c.m) :: y.cache.filter (fun e => e.1 ≠ c.m)).take 4 }) := by
  obtain ⟨hfront, hslots⟩ := Dev.bgnTakes_iff.mp htakes
  rw [Dev.bgnSetMod, Dev.bgnRun_front _ hfront]
  simp only [hslots]
  exact if_neg (by omega)

/-- R466: while the generator gives output, a command that draws neither waits nor fails. -/
theorem Dev.rngUp_cases {x y z : Dev} (hup : d.rngUp = true) :
    (match d.cry.rng.state with
      | .starting => x
      | .failed => y
      | _ => z) = z := by
  unfold Dev.rngUp at hup
  split at hup <;> simp_all

theorem Dev.bgnExpBlind_drawn (htakes : d.bgnTakes 8 c [c.dst, c.a, c.b, c.m, c.arg % 64] (some c.m) = true) (hup : d.rngUp = true) :
    d.bgnExpBlind =
      let x := d.bgn
      let k := (d.rngRequest 21).take
      k.2.bgnOk (fun y => (y.touch c.m).store c.dst (powMod (x.value c.a) (x.modulus c.m) (d.bgnBits c + 65)
        (x.value c.b + (Config.freeWord k.1).toNat * x.value (c.arg % 64)))) := by
  obtain ⟨hfront, hslots⟩ := Dev.bgnTakes_iff.mp htakes
  rw [Dev.bgnExpBlind, Dev.bgnRun_front _ hfront]
  simp only [hslots]
  exact Dev.rngUp_cases hup

theorem Dev.bgnRandom_drawn (htakes : d.bgnTakes 11 c [c.dst, c.m] (some c.m) = true) (hup : d.rngUp = true) :
    d.bgnRandom =
      let k := d.drawFrom 21 (d.bgnBits c / 8 + 8)
      k.2.bgnOk (fun y => (y.touch c.m).store c.dst (leNat k.1 % (y.modulus c.m - 1) + 1)) := by
  obtain ⟨hfront, hslots⟩ := Dev.bgnTakes_iff.mp htakes
  rw [Dev.bgnRandom, Dev.bgnRun_front _ hfront]
  simp only [hslots]
  exact Dev.rngUp_cases hup

theorem Dev.bgnLoadKey_loads {d1 : Dev} (hfront : d.bgn.queue.head? = some c ∧ c.op = 12) (hload : d.loadOperand c.dst c.arg = .inr d1) :
    d.bgnLoadKey = d1.bgnOk id := by
  rw [Dev.bgnLoadKey, Dev.bgnRun_front _ hfront]
  simp only [hload]

theorem Dev.bgnStoreKey_stores {j : Nat} {k : KeySlot} (hfront : d.bgn.queue.head? = some c ∧ c.op = 13)
    (hslot : slotValid (d.bgn.slot c.a) = true ∧ slotSecret (d.bgn.slot c.a) = true ∧ slotCode (d.bgn.slot c.a) ≤ 1)
    (huse : d.keyUse c.arg [7] .firmware = some (j, k)) (hlength : k.key.length = slotBytes (d.bgn.slot c.a)) :
    d.bgnStoreKey =
      let v := toBe (slotBytes (d.bgn.slot c.a)) (d.bgn.value c.a)
      (({ d with cry.keys.slots := d.cry.keys.slots.ins j { k with key := v } } : Dev).writeRecord j).bgnOk id := by
  obtain ⟨hvalid, hsecret, hcode⟩ := hslot
  rw [Dev.bgnStoreKey, Dev.bgnRun_front _ hfront]
  refine (if_neg (by simp [hvalid, hsecret])).trans ((if_neg (Nat.not_lt.mpr hcode)).trans ?_)
  simp only [huse]
  exact if_neg (not_not_intro hlength)

end

/-! ## BN_JOB (R458) -/

theorem Dev.bnJob_accepted {req : Bytes} (hidle : d.bgn.job.state ≠ 1)
    (hform : leAt req 0 1 ≤ 4 ∧ leAt req 1 3 = 0 ∧ 4 + 3 * (bnBits (leAt req 0 1) / 8) ≤ req.length) :
    d.bnJob req = (0, d.onBgn (fun x => { x with job := { state := 1, request := req, result := [] } })) := by
  obtain ⟨hcode, hzero, hlength⟩ := hform
  exact (if_neg hidle).trans (if_neg (by simp [hcode, hzero, hlength]))

theorem Dev.bnJobDone_odd {n : Nat} (hruns : d.bgn.job.state = 1) (hn : n = bnBits (leAt d.bgn.job.request 0 1) / 8)
    (hodd : beAt d.bgn.job.request (4 + 2 * n) n % 2 = 1) :
    d.bnJobDone =
      let j := d.bgn.job
      let power := powMod (beAt j.request 4 n) (beAt j.request (4 + 2 * n) n) (8 * n) (beAt j.request (4 + n) n)
      d.onBgn (fun x => { x with job := { j with state := 2, result := toBe n power } }) := by
  subst hn
  exact (if_neg (not_not_intro hruns)).trans (if_neg (by omega))

end

/-- Settles O47: the lock, the slots and the head of the queue are in the state that each command is for. -/
theorem bignumUnitCompletes : Obligations.BignumUnitCompletes := by
  refine ⟨?lock, ?release, ?slot, ?add, ?sub, ?mul, ?toMont, ?fromMont, ?exp, ?inv, ?expBlind, ?copy, ?setMod, ?random, ?loadKey,
    ?storeKey, ?job, ?jobDone⟩
  case lock =>
    intro s u t d hacts hfree hpurser
    exact .of_run (fun d => d.bgnLock [(u, u)]) rfl hacts (Dev.bgnLock_takes hfree hpurser)
  case release =>
    intro s u t d hacts hholds
    exact .of_run (fun d => d.bgnLock [(u, 0)]) rfl hacts (Dev.bgnLock_releases hholds)
  case slot =>
    intro s u i v w t d hacts hholds hw hfits hfree
    exact .of_run (fun d => (d.bgnWrite u (0x100 + 4 * i) v.toNat).2) rfl hacts
      ((Dev.bgnWrite_slot _ hholds i.isLt).trans (Dev.bgnSlot_accepted hw hfits hfree))
  case add =>
    intro s c t d hacts htakes hrange
    exact .of_run Dev.bgnAdd rfl hacts (Dev.bgnRun_arith true true _ htakes (fun _ => ⟨hrange.1, fun _ => hrange.2⟩))
  case sub =>
    intro s c t d hacts htakes hrange
    exact .of_run Dev.bgnSub rfl hacts (Dev.bgnRun_arith true true _ htakes (fun _ => ⟨hrange.1, fun _ => hrange.2⟩))
  case mul =>
    intro s c t d hacts htakes hrange
    exact .of_run Dev.bgnMul rfl hacts (Dev.bgnRun_arith true true _ htakes (fun _ => ⟨hrange.1, fun _ => hrange.2⟩))
  case toMont =>
    intro s c t d hacts htakes
    exact .of_run Dev.bgnToMont rfl hacts (Dev.bgnRun_arith false false _ htakes nofun)
  case fromMont =>
    intro s c t d hacts htakes hrange
    exact .of_run Dev.bgnFromMont rfl hacts (Dev.bgnRun_arith false true _ htakes (fun _ => ⟨hrange, nofun⟩))
  case exp =>
    intro s c t d hacts htakes
    exact .of_run Dev.bgnExp rfl hacts (Dev.bgnRun_arith true false _ htakes nofun)
  case inv =>
    intro s c v t d hacts htakes hinv
    exact .of_run Dev.bgnInv rfl hacts (Dev.bgnInv_found htakes hinv)
  case expBlind =>
    intro s c t d hacts htakes hup
    exact .of_run Dev.bgnExpBlind rfl hacts (Dev.bgnExpBlind_drawn htakes hup)
  case copy =>
    intro s c t d hacts htakes
    exact .of_run Dev.bgnCopy rfl hacts (Dev.bgnCopy_valid htakes)
  case setMod =>
    intro s c t d hacts htakes hodd
    exact .of_run Dev.bgnSetMod rfl hacts (Dev.bgnSetMod_odd htakes hodd)
  case random =>
    intro s c t d hacts htakes hup
    exact .of_run Dev.bgnRandom rfl hacts (Dev.bgnRandom_drawn htakes hup)
  case loadKey =>
    intro s c d1 t d hacts hfront hload
    exact .of_run Dev.bgnLoadKey rfl hacts (Dev.bgnLoadKey_loads hfront hload)
  case storeKey =>
    intro s c j k t d hacts hfront hslot huse hlength
    exact .of_run Dev.bgnStoreKey rfl hacts (Dev.bgnStoreKey_stores hfront hslot huse hlength)
  case job =>
    intro s req t d hacts hsafe hidle hform
    exact .of_write (fun d => answered (d.bnJob req)) rfl hacts hsafe (answered_eq (Dev.bnJob_accepted hidle hform))
  case jobDone =>
    intro s n t d hacts hruns hn hodd
    subst hn
    exact .of_run Dev.bnJobDone rfl hacts (Dev.bnJobDone_odd hruns rfl hodd)

end Sys2Proof.Machine
end

section
/-!
SUPPORT. The random source and the key store: the commands of each, and the statement about them.
-/
namespace Sys2Proof.Machine

section
variable {d : Dev}

/-! ## The random source (R463–R467) -/

/-- R463, R467: the first seed, with every group in service. -/
theorem Dev.rngSeed_starts (hstarts : d.cry.rng.state = .starting ∧ d.cry.rng.excluded = []) :
    d.rngSeed =
      ({ d with cry.rng := { d.cry.rng with state := .ok, groups := [0, 1, 2, 3], baseReady := true, baseRequests := 0 } } : Dev).raise
        25 0x22 0 := by
  obtain ⟨hstate, hnone⟩ := hstarts
  have hgroups : (List.range 4).filter (fun g => !d.cry.rng.excluded.has g) = [0, 1, 2, 3] := by rw [hnone]; rfl
  simp only [Dev.rngSeed, hgroups, hstate]
  rfl

/-- R465–R467: the first group that fails leaves three, and the source DEGRADED. -/
theorem Dev.rngHealthFail_first {g test : Nat} (hok : d.cry.rng.state = .ok ∧ d.cry.rng.excluded = []) :
    d.rngHealthFail g test =
      { (({ (d.setAt Od.rng_FAILS test 0 (d.cfgAt Od.rng_FAILS test 0 + 1)) with
          cry.rng := { d.cry.rng with excluded := [(g, d.now)], groups := d.cry.rng.groups.filter (fun x => x ≠ g) } } : Dev).raise
            25 0x20 g) with cry.rng.state := .degraded } := by
  obtain ⟨hstate, hnone⟩ := hok
  simp only [Dev.rngHealthFail, hnone, hstate]
  rfl

/-- R466: the excluded group passes its retest, and all groups are in service. -/
theorem Dev.rngRetest_last {g : Nat} {t0 : Ticks} (hone : d.cry.rng.state = .degraded ∧ d.cry.rng.excluded = [(g, t0)])
    (hdue : t0 + 10 * ms ≤ d.now) :
    d.rngRetest g true =
      { d with cry.rng := { d.cry.rng with
        excluded := [], state := .ok, groups := insSorted (fun x => (x : Int)) g d.cry.rng.groups } } := by
  obtain ⟨hstate, hexcluded⟩ := hone
  have hfind : Tab.find [(g, t0)] g = some t0 := by simp [Tab.find_cons]
  have hdel : Tab.del [(g, t0)] g = [] := by simp [Tab.del]
  simp only [Dev.rngRetest, hexcluded, hfind, hdel, hstate]
  exact if_neg (not_lt.mpr hdue)

/-- R464: a client is seeded anew after 2^20 requests, or after a second. -/
theorem Dev.rngReseed_due {c : Nat} (hready : d.rngUp = true ∧ (d.cry.rng.clients.get {} c).ready = true)
    (hdue : 2 ^ 20 ≤ (d.cry.rng.clients.get {} c).sinceSeed ∨ (d.cry.rng.clients.get {} c).seededAt + sec ≤ d.now) :
    d.rngReseed c =
      ({ d with
        cry.rng.clients := d.cry.rng.clients.ins c { d.cry.rng.clients.get {} c with sinceSeed := 0, seededAt := d.now },
        cry.rng.baseRequests := d.cry.rng.baseRequests + 1 } : Dev).bump Od.rcl_RESEEDS c := by
  obtain ⟨hup, hseeded⟩ := hready
  refine if_pos ?_
  simp only [hup, hseeded, Bool.true_and, Bool.or_eq_true, decide_eq_true_eq]
  exact hdue

/-! ## The key store (R469–R474) -/

theorem Dev.keyGenerate_fills {req : Bytes} (hlength : req.length = 20)
    (hfree : d.keySlotRefusal (leAt req 0 2) (leAt req 2 2) (sliceB req 4 16) = none) (hup : d.cry.rng.state ≠ .failed) :
    d.keyGenerate req =
      let p := sliceB req 4 16
      let k := d.drawFrom 24 (leAt p 6 1)
      (0, (k.2.dropCopies (leAt req 0 2)).fillSlot (leAt req 0 2) p k.1 (publicKey (leAt p 0 1) k.1)) := by
  simp only [Dev.keyGenerate, hfree, if_neg (not_not_intro hlength), if_neg hup]

theorem Dev.keyImport_fills {req : Bytes} (hlength : req.length = 84)
    (hfree : d.keySlotRefusal (leAt req 0 2) (leAt req 2 2) (sliceB req 4 16) = none) :
    d.keyImport req =
      let p := sliceB req 4 16
      let k := sliceB req 20 (leAt p 6 1)
      (0, (d.dropCopies (leAt req 0 2)).fillSlot (leAt req 0 2) p k (publicKey (leAt p 0 1) k)) := by
  simp only [Dev.keyImport, hfree, if_neg (not_not_intro hlength)]

/-- R472: a policy that only narrows the one of a full slot. -/
theorem Dev.keyRestrict_narrows {req : Bytes} (hform : req.length = 20 ∧ leAt req 2 2 = 0)
    (hslot : 64 ≤ leAt req 0 2 ∧ leAt req 0 2 < 4096) (hfull : (d.keySlot (leAt req 0 2)).full = true)
    (hnarrows : narrows (d.keySlot (leAt req 0 2)).policy (sliceB req 4 16) = true) :
    d.keyRestrict req =
      let n := leAt req 0 2
      (0, ({ d with cry.keys.slots := d.cry.keys.slots.ins n { d.keySlot n with policy := sliceB req 4 16 } } : Dev).writeRecord n) := by
  obtain ⟨hlength, hzero⟩ := hform
  obtain ⟨hlow, hhigh⟩ := hslot
  exact (if_neg (not_not_intro hlength)).trans ((if_neg (by simp [hzero, hhigh])).trans (if_neg (by simp [hlow, hfull, hnarrows])))

theorem Dev.keyDestroy_empties {n : Nat} (hslot : 64 ≤ n ∧ n < 4096) :
    d.keyDestroy n =
      let d1 := d.dropCopies n
      (0, { d1 with cry.keys.slots := d1.cry.keys.slots.del n, cry.keys.records := d1.cry.keys.records.filter (fun r => r.slot ≠ n) }) := by
  obtain ⟨hlow, hhigh⟩ := hslot
  exact (if_neg (Nat.not_le.mpr hhigh)).trans (if_neg (Nat.not_lt.mpr hlow))

end

/-- Settles O48: the source, the client and the slot are in the state that each command is for. -/
theorem randomSourceAndKeysComplete : Obligations.RandomSourceAndKeysComplete := by
  refine ⟨?seed, ?health, ?retest, ?reseed, ?generate, ?import_, ?restrict, ?destroy⟩
  case seed =>
    intro s t d hacts hstarts
    exact .of_run Dev.rngSeed rfl hacts (Dev.rngSeed_starts hstarts)
  case health =>
    intro s g test t d hacts hok
    exact .of_run (fun d => d.rngHealthFail g test) rfl hacts (Dev.rngHealthFail_first hok)
  case retest =>
    intro s g t0 t d hacts hone hdue
    exact .of_run (fun d => d.rngRetest g true) rfl hacts (Dev.rngRetest_last hone hdue)
  case reseed =>
    intro s c t d hacts hready hdue
    exact .of_run (fun d => d.rngReseed c) rfl hacts (Dev.rngReseed_due hready hdue)
  case generate =>
    intro s req t d hacts hsafe hlength hfree hup
    exact .of_write (fun d => answered (d.keyGenerate req)) rfl hacts hsafe (answered_eq (Dev.keyGenerate_fills hlength hfree hup))
  case import_ =>
    intro s req t d hacts hsafe hlength hfree
    exact .of_write (fun d => answered (d.keyImport req)) rfl hacts hsafe (answered_eq (Dev.keyImport_fills hlength hfree))
  case restrict =>
    intro s req t d hacts hsafe hform hslot hfull hnarrows
    exact .of_write (fun d => answered (d.keyRestrict req)) rfl hacts hsafe
      (answered_eq (Dev.keyRestrict_narrows hform hslot hfull hnarrows))
  case destroy =>
    intro s n t d hacts hsafe hslot
    exact .of_write (fun d => answered (d.keyDestroy n)) rfl hacts hsafe (answered_eq (Dev.keyDestroy_empties hslot))

end Sys2Proof.Machine
end

section
/-!
SUPPORT. The life-cycle logic, the identity and the TAP: a request that is checked, what each kind of it does, and the statement
about the commands.
-/
namespace Sys2Proof.Machine

/-! ## A command's effect, from its arm and the arm's effect on the device -/

section
variable {c : Instr} {s : State} {t : Ticks} {f : Dev → Dev} (g : Dev → Dev)

/-- A command whose arm is `State.bootWrite`, out of chip safe state and recovery (R508, R621). -/
theorem Does.of_bootWrite (harm : exec c s = s.bootWrite t g) (hboots : s.dev.boots = true)
    (hsafe : (s.dev.at_ t).flt.chipSafe = false) (hphase : (s.dev.at_ t).sys.phase ≠ .recovery)
    (heff : g (s.dev.at_ t) = f (s.dev.at_ t)) : Does c s t f :=
  harm.trans ((State.bootWrite_acts s t g hboots hsafe hphase).trans (effect_congr s heff))

/-- A command of the TAP, on a device with power (R495). -/
theorem DoesAlone.of_tap (harm : exec c s = s.tap t f) (hpower : s.dev.sys.phase ≠ .off) : DoesAlone c s t f :=
  harm.trans (congrArg Host.Outcome.next (if_neg hpower))

end

section
variable {d : Dev} {b : Bytes}

/-! ## Nonces (R485) -/

theorem Dev.lcNonce_draws (hup : d.rngUp = true) :
    d.lcNonce true =
      ((d.drawFrom 0 32).2.onLcy (fun x => { x with nonce := some ((d.drawFrom 0 32).1, d.now) })).emit
        (.jtag 256 (leNat (d.drawFrom 0 32).1)) :=
  if_neg (by simp [hup])

theorem Dev.nonceExpiry_expires (hnone : d.nonce = none) : d.nonceExpiry = d.onLcy (fun x => { x with nonce := none }) := by
  simp [Dev.nonceExpiry, hnone]

/-! ## Requests (R484, R487) -/

/-- R485: the device once a request is checked, its nonce used up where the check has come that far. -/
def Dev.lcChecked (d : Dev) (b : Bytes) (agree : Bool) : Dev :=
  if (d.lcCheck b (lcReqOf b) agree).2.1 then d.onLcy (fun x => { x with nonce := none }) else d

section
variable {agree : Bool} (act : LcReq → Dev → Dev)

/-- R487: a request that passes its check is carried out. -/
theorem Dev.lcRequest_passes (hpasses : (d.lcCheck b (lcReqOf b) agree).1 = 0) :
    d.lcRequest b agree act = (0, act (lcReqOf b) ((d.lcChecked b agree).onLcy (fun x => { x with result := 0 }))) :=
  if_pos hpasses

/-- R487: any other request is refused. -/
theorem Dev.lcRequest_refuses (hfails : (d.lcCheck b (lcReqOf b) agree).1 ≠ 0) :
    d.lcRequest b agree act =
      let k := d.lcCheck b (lcReqOf b) agree
      (k.1, (d.lcChecked b agree).lcRefuse k.1 k.2.2) :=
  if_neg hfails

theorem Dev.lcAnswered_lcRequest :
    lcAnswered (d.lcRequest b agree act) =
      let k := d.lcCheck b (lcReqOf b) agree
      if k.1 = 0 then act (lcReqOf b) ((d.lcChecked b agree).onLcy (fun x => { x with result := 0 }))
      else ((d.lcChecked b agree).lcRefuse k.1 k.2.2).emit (.writeStatus 9) := by
  by_cases hpasses : (d.lcCheck b (lcReqOf b) agree).1 = 0
  · rw [Dev.lcRequest_passes act hpasses]
    exact (if_pos hpasses).symm
  · rw [Dev.lcRequest_refuses act hpasses]
    simp [lcAnswered, answered, hpasses]

end

/-! ## What the requests do (R488, R492, R495) -/

/-- R488: a transition through which power lasts. -/
theorem Dev.lcTransition_uncut (agree : Bool) (hkind : (lcReqOf b).kind = 1) :
    d.lcTransition b agree none =
      let r := lcReqOf b
      let k := d.lcCheck b r agree
      let y := d.lcChecked b agree
      if k.1 = 0 then
        let st := LcState.ofCode r.to_
        let token := ((lcRow r.from_ r.to_).map (fun e => e.2)).getD 0
        let d1 := (y.onLcy (fun x => ({ x with result := 0 } : LifeCycle).burn token)).onLcy (fun x => { x with
          word := st.word, state := st, busy := true, oweRecord := true,
          anchors := installAnchors x.anchors (anchorEntries 14 r.payload) })
        ((({ d1 with sys.restartAs := some 4 } : Dev).gateKeys st).bump Od.lcy_TRANSITIONS 0).raise 26 0x40 0xFFFF
          [(r.from_ : Int), (r.to_ : Int)]
      else (y.lcRefuse k.1 k.2.2).emit (.writeStatus 9) :=
  (if_neg (by simp [lcOther_own b _ hkind])).trans (Dev.lcAnswered_lcRequest ..)

theorem Dev.lcAnchors_checked (agree : Bool) (hkind : (lcReqOf b).kind = 3) :
    d.lcAnchors b agree =
      let r := lcReqOf b
      let k := d.lcCheck b r agree
      let y := d.lcChecked b agree
      if k.1 = 0 then
        (y.onLcy (fun x => { x with result := 0, anchors := installAnchors x.anchors (anchorEntries 14 r.payload) })).raise 26 0x45 0xFFFF
      else (y.lcRefuse k.1 k.2.2).emit (.writeStatus 9) :=
  (if_neg (by simp [lcOther_own b _ hkind])).trans (Dev.lcAnswered_lcRequest ..)

theorem Dev.lcChain_checked (agree : Bool) (hkind : (lcReqOf b).kind = 4) :
    d.lcChain b agree =
      let r := lcReqOf b
      let k := d.lcCheck b r agree
      let y := d.lcChecked b agree
      if k.1 = 0 then (y.onLcy (fun x => { x with result := 0, chain := r.payload })).setOct Od.idn_DEVICE_CHAIN 0 (padTo 30720 r.payload)
      else (y.lcRefuse k.1 k.2.2).emit (.writeStatus 9) :=
  (if_neg (by simp [lcOther_own b _ hkind])).trans (Dev.lcAnswered_lcRequest ..)

/-- R495: an authorisation shifts its result out, whether it opens scopes or is refused. -/
theorem Dev.dbgAuth_checked (agree : Bool) (hkind : (lcReqOf b).kind = 2) :
    d.dbgAuth b agree =
      let r := lcReqOf b
      let k := d.lcCheck b r agree
      let y := d.lcChecked b agree
      let z := y.onLcy (fun x => { x with result := 0 })
      let w := if z.lcy.state = .diagnostic then z.eraseKeys false else z
      let end_ := (timeOfLe r.expires).getD 0
      (if k.1 = 0 then
        (w.onLcy (fun x => { x with scopes := x.scopes ||| r.scope, scopesEnd := if end_ = 0 then none else some end_ })).raise
          26 0x43 0xFFFF [(r.scope : Int)]
       else y.lcRefuse k.1 k.2.2).emit (.jtag 8 k.1) := by
  refine (if_neg (by simp [lcOther_own b _ hkind])).trans ?_
  by_cases hpasses : (d.lcCheck b (lcReqOf b) agree).1 = 0
  · rw [Dev.lcRequest_passes _ hpasses]
    simp only [hpasses]
    rfl
  · rw [Dev.lcRequest_refuses _ hpasses]
    simp only [if_neg hpasses]

theorem Dev.transitionReset_due (i : StartIn) (hdue : d.sys.restartAs = some 4) : d.transitionReset i = d.enterReset.start i 4 :=
  if_pos hdue

theorem Dev.debugExpiry_due {u : Ticks} (hend : d.lcy.scopesEnd = some u) (hdue : u ≤ d.now) :
    d.debugExpiry = d.onLcy (fun x => { x with scopes := 0, scopesEnd := none }) := by
  simp only [Dev.debugExpiry, hend, if_pos hdue]

/-! ## Identity and records (R490, R494) -/

/-- R490: a birth certificate of a manufactured unit that has none. -/
theorem Dev.birthCert_checked {cert : Bytes} (hbirth : d.lcy.state = .manufactured ∧ d.lcy.birthCert = []) (hlength : cert.length ≤ 4096) :
    answered (d.birthCert cert true) =
      if Config.chainKey cert = d.oct Od.idn_BIRTH_PUBLIC 0 ∧ Config.certSigned (d.anchor 1).pub cert = true then
        (d.onLcy (fun x => { x with birthCert := cert })).setOct Od.idn_BIRTH_CERT 0 (padTo 4096 cert)
      else d.emit (.writeStatus 12) := by
  obtain ⟨hstate, hnone⟩ := hbirth
  have hlt : ¬ 4096 < cert.length := Nat.not_lt.mpr hlength
  by_cases hkey : Config.chainKey cert = d.oct Od.idn_BIRTH_PUBLIC 0
  · cases hsigned : Config.certSigned (d.anchor 1).pub cert <;> simp [Dev.birthCert, answered, hstate, hnone, hlt, hkey, hsigned]
  · simp [Dev.birthCert, answered, hstate, hnone, hlt, hkey]

theorem Dev.attestChallenge_starts {c : Bytes} (hlength : c.length = 32) (hidle : d.lcy.attest ≠ 1) (hkey : d.attestKey = true) :
    d.attestChallenge c = (0, d.onLcy (fun x => { x with attest := 1, challenge := c })) :=
  (if_neg (not_not_intro hlength)).trans ((if_neg hidle).trans (if_neg (by simp [hkey])))

theorem Dev.attestDone_signs (hruns : d.lcy.attest = 1) (hkey : d.attestKey = true) :
    d.attestDone =
      let r := d.efuthRecord 1 1 d.lcy.challenge
      ((d.onLcy (fun x => { x with attest := 2, attestRecord := r })).setOct Od.lcy_ATTEST_RECORD 0 r).raise 26 0x44 0xFFFF :=
  (if_neg (not_not_intro hruns)).trans (if_neg (by simp [hkey]))

end

/-- Settles O49: a request's command is its check, then what its kind does; the others hold by the state they are given in. -/
theorem lifeCycleCommandsComplete : Obligations.LifeCycleCommandsComplete := by
  refine ⟨?nonce, ?nonceExpiry, ?transition, ?transitionReset, ?anchors, ?chain, ?debug, ?debugExpiry, ?birthCert, ?challenge,
    ?attestDone, ?bypass, ?idcode, ?sample, ?extest⟩
  case nonce =>
    intro s t d hboots hup
    exact .of_boot (fun d => if d.sys.phase = .recovery && !true then d.emit (.writeStatus 9) else d.lcNonce true) rfl hboots
      ((if_neg (by simp)).trans (Dev.lcNonce_draws hup))
  case nonceExpiry =>
    intro s t d hboots hnone
    exact .of_boot Dev.nonceExpiry rfl hboots (Dev.nonceExpiry_expires hnone)
  case transition =>
    intro s req agree t d hboots hsafe hphase hkind
    exact .of_bootWrite (fun d => d.lcTransition req agree none) rfl hboots hsafe hphase (Dev.lcTransition_uncut agree hkind)
  case transitionReset =>
    intro s i t d hboots hdue
    exact .of_boot (fun d => d.transitionReset i) rfl hboots (Dev.transitionReset_due i hdue)
  case anchors =>
    intro s req agree t d hboots hsafe hphase hkind
    exact .of_bootWrite (fun d => d.lcAnchors req agree) rfl hboots hsafe hphase (Dev.lcAnchors_checked agree hkind)
  case chain =>
    intro s req agree t d hboots hsafe hphase hkind
    exact .of_bootWrite (fun d => d.lcChain req agree) rfl hboots hsafe hphase (Dev.lcChain_checked agree hkind)
  case debug =>
    intro s req agree t hboots hkind
    exact .of_boot (fun d => d.dbgAuth req agree) rfl hboots (Dev.dbgAuth_checked agree hkind)
  case debugExpiry =>
    intro s t u d hboots hend hdue
    exact .of_boot Dev.debugExpiry rfl hboots (Dev.debugExpiry_due hend hdue)
  case birthCert =>
    intro s cert t d hboots hsafe hphase hbirth hlength
    exact .of_bootWrite (fun d => answered (d.birthCert cert true)) rfl hboots hsafe hphase (Dev.birthCert_checked hbirth hlength)
  case challenge =>
    intro s c t d hboots hsafe hphase hlength hidle hkey
    exact .of_bootWrite (fun d => answered (d.attestChallenge c)) rfl hboots hsafe hphase
      (answered_eq (Dev.attestChallenge_starts hlength hidle hkey))
  case attestDone =>
    intro s t d hboots hruns hkey
    exact .of_boot Dev.attestDone rfl hboots (Dev.attestDone_signs hruns hkey)
  case bypass => exact fun s bits t hpower => .of_tap rfl hpower
  case idcode => exact fun s t hpower => .of_tap rfl hpower
  case sample => exact fun s bits captured load t hpower => .of_tap rfl hpower
  case extest => exact fun s bits captured load t hpower => .of_tap rfl hpower

end Sys2Proof.Machine
end

section
/-!
SUPPORT. The contactless reader and the tag logic: what each command does where it takes effect, and the statement about them.
-/
namespace Sys2Proof.Machine

/-- A command of the tag logic (R539). -/
theorem DoesAlone.of_tagRun {c : Instr} {s : State} {t : Ticks} {f : Dev → Dev} (g : Dev → Dev) (harm : exec c s = s.tagRun t g)
    (heff : g (s.dev.at_ t) = f (s.dev.at_ t)) : DoesAlone c s t f :=
  by rw [DoesAlone, harm, State.tagRun, heff]

section
variable {d : Dev}

/-! ## The reader (R528–R538) -/

theorem Dev.clsEnable_on (hoff : d.rd.on = false) :
    d.clsEnable true =
      (d.set Od.cls_ENABLE 0 1).onRd (fun r => { r with
        on := true, waiting := none, pings := 0, valid := false, sumAmpl := 0, sumPhase := 0, falseRow := 0 }) :=
  if_neg (by simp [hoff])

/-- R538: a reader without badges is turned off. -/
theorem Dev.clsEnable_off (hnone : d.activeCids = []) :
    d.clsEnable false =
      ((d.set Od.cls_ENABLE 0 0).onRd (fun r => { r with
        on := false, waiting := none, polling := false, detected := false,
        pings := 0, valid := false, sumAmpl := 0, sumPhase := 0, falseRow := 0 })).fieldOff := by
  have hset : (d.set Od.cls_ENABLE 0 0).activeCids = [] := hnone
  have hdeselect : (d.set Od.cls_ENABLE 0 0).deselectAll = d.set Od.cls_ENABLE 0 0 := by simp [Dev.deselectAll, hset]
  have henable : b2i false = 0 := rfl
  simp only [Dev.clsEnable, henable, hdeselect]
  exact if_pos (by exact List.isEmpty_iff.mpr hnone)

/-- R530, R531: a ping instant, with and without a baseline. -/
theorem Dev.clsPing_asks (ext : Bool) (a p : Int) (hidle : d.rd.on = true ∧ d.rd.field = false ∧ d.rd.waiting = none) :
    d.clsPing ext a p = d.askField (if d.rd.valid then .ping else .poll) ext a p := by
  obtain ⟨hon, hfield, hwaiting⟩ := hidle
  refine (if_neg (by simp [hon, hfield, hwaiting])).trans ?_
  split
  · rfl
  · rfl

theorem Dev.collide_zero : d.collide 0 = d.bump Od.cls_COLLISIONS 0 0 := rfl

@[simp] theorem Dev.toField_activeCids (fs : List Bytes) : (d.toField fs).activeCids = d.activeCids := by
  unfold Dev.toField
  induction fs generalizing d with
  | nil => rfl
  | cons f fs ih => exact ih

/-- R533, R535: a poll of an empty field after no detection. -/
theorem Dev.clsPoll_empty (a p : Int) (hpoll : d.rd.on = true ∧ d.rd.field = true ∧ d.rd.valid = true ∧ d.rd.detected = false ∧ d.activeCids = []) :
    d.clsPoll [] 0 false a p =
      let d0 := if bitOf (d.cfgN Od.cls_TYPES 0) 0 then d.toField [[0x26]] else d
      ((d0.bump Od.cls_COLLISIONS 0 0).onRd (fun r => { r with polling := false, detected := false, tooMany := false })).fieldOff := by
  obtain ⟨hon, hfield, hvalid, hdetected, hnone⟩ := hpoll
  have hbumped (x : Dev) : (x.bump Od.cls_COLLISIONS 0 0).activeCids = x.activeCids := rfl
  cases htypes : bitOf (d.cfgN Od.cls_TYPES 0) 0 <;>
    simp [Dev.clsPoll, Dev.pollA, Dev.collide_zero, hon, hfield, hvalid, hdetected, hnone, htypes, hbumped]

theorem Dev.rfGrant_comes (ext : Bool) (a p : Int) {u : FieldUse} {since : Ticks} (hwaits : d.rd.waiting = some (u, since))
    (hgrant : d.rd.on = true ∧ d.fieldGrant = true) : d.rfGrant ext a p = d.useField u ext a p := by
  simp [Dev.rfGrant, hwaits, hgrant]

theorem Dev.rfStarved_due {u : FieldUse} {since : Ticks} (hwaits : d.rd.waiting = some (u, since))
    (hdue : since + d.cfg Od.cls_RF_WAIT_MAX 0 ≤ d.now) :
    d.rfStarved = (d.onRd (fun r => { r with waiting := none })).raise 29 0x75 0 := by
  simp only [Dev.rfStarved, hwaits]
  exact if_pos hdue

section
variable {c : Nat} (agree : Bool)

/-- R536: the presence check of a credential between dialogues. -/
theorem Dev.presenceCheck_answered (hidle : (d.cid c).state = .credential ∧ (d.cid c).dlg.step = .idle) :
    d.presenceCheck c true agree = d.onCid c (fun y => { y with missed := 0 }) :=
  (if_neg (by simp [hidle])).trans (if_pos rfl)

theorem Dev.presenceCheck_missed (hidle : (d.cid c).state = .credential ∧ (d.cid c).dlg.step = .idle) (hfirst : (d.cid c).missed = 0) :
    d.presenceCheck c false agree = d.onCid c (fun y => { y with missed := 1 }) :=
  (if_neg (by simp [hidle])).trans (if_pos hfirst)

/-- R536: a badge whose AUTHENTICATE has been verified. -/
theorem Dev.cardArrived_verified {h : CardHolder} (hfound : (d.cid c).dlg.found = some h) (hverified : (d.cid c).dlg.verified = true) :
    d.cardArrived c agree =
      let d1 := (d.onCid c (fun y => { y with state := .credential, missed := 0, dlg := { step := .idle, holder := some h } })).raise
        29 0x70 c [(leNat h.cardId : Int)]
      (if d1.credentials = 2 then d1.raise 29 0x72 0 else d1).identified (c + 1) agree := by
  simp only [Dev.cardArrived, hfound]
  exact if_neg (by simp [hverified])

theorem Dev.fwtTimeout_again (sent : Bool) (hwaits : (d.cid c).state ≠ .free ∧ (d.cid c).dlg.step ≠ .idle) (hfew : (d.cid c).retries < 3) :
    d.fwtTimeout c sent agree =
      (d.onCid c (fun y => { y with retries := (d.cid c).retries + 1 })).emit (.card (c + 1) (d.cid c).last) :=
  (if_neg (by simp [hwaits])).trans (if_pos hfew)

end

/-! ## The tag (R541–R547) -/

section
variable (htag : d.tagMode = true)
include htag

theorem Dev.tagGetInfo_info (hactive : d.tag.active = true) : d.tagGetInfo [1] = d.emit (.tag (0x00 :: d.tag.info)) :=
  (if_neg (by simp [htag, hactive])).trans (if_pos rfl)

/-- R541: one page whose group may be read. -/
theorem Dev.tagRead_page {p : Byte} (hactive : d.tag.active = true) (hp : p.toNat < 128) (hread : bitOf (d.tag.groupCfg p.toNat) 0 = true) :
    d.tagRead [p, 1] = d.emit (.tag (0x00 :: (d.tagPage p.toNat).1)) := by
  have hpage : beAt [p, 1#8] 0 1 = p.toNat := by simp [beAt, sliceB, beNat]
  have hcount : beAt [p, 1#8] 1 1 = 1 := rfl
  have hin : ¬ 128 < p.toNat + 1 := by omega
  simp [Dev.tagRead, hpage, hcount, htag, hactive, hin, hread]

/-- R544: a write that its checks and the energy check let through. -/
theorem Dev.tagWrite_accepted {p n : Nat} {data mac : Bytes} (hactive : d.tag.active = true) (hcheck : d.tagWriteCheck p n data mac = none) :
    d.tagWrite p n data mac true =
      let d1 := ((d.setVharv false).tagCommit p n mac data).emit (.tag [0x00])
      (d1.onTag (fun g => { g with changed := if p ∈ g.changed then g.changed else p :: g.changed })).setVharv (d.tag.level ≠ 0 && !d.tag.low) := by
  refine (if_neg (by simp [htag, hactive])).trans ?_
  simp only [hcheck]
  rfl

theorem Dev.tagFieldLoss_idle : d.tagFieldLoss none = (d.setVharv false).onTag (fun g => { g with active := false, low := false }) :=
  if_neg (by simp [htag])

theorem Dev.tagActivation_answers :
    d.tagActivation =
      let uid : Bytes := BitVec.ofNat 8 Config.tagMaker :: sliceB (d.oct Od.idn_DIE_ID 0) 10 6
      ((d.onTag (fun g => { g with active := true, low := false })).setVharv (d.tag.level ≠ 0)).emit
        (.tag ([0x44, 0x00] ++ uid ++ [0x20] ++ [0x05, 0x77, 0x80, 0x60, 0x00])) :=
  if_neg (by simp [htag])

theorem Dev.vharvRecover_low (hlow : d.tag.active = true ∧ d.tag.low = true) :
    d.vharvRecover = (d.onTag (fun g => { g with low := false })).setVharv (d.tag.level ≠ 0) :=
  if_pos (by simp [htag, hlow])

end

theorem Dev.tagPageWrite_commits {p : Nat} {data : Bytes} (hlength : data.length = 64) :
    d.tagPageWrite p data = (0, d.tagCommit p (((d.tagPage p).2 + 1) % 65536) (List.replicate 8 0) data) :=
  if_neg (not_not_intro hlength)

end

/-- Settles O52: the reader's commands act out of chip safe state, the tag's while tag mode applies. -/
theorem readerAndTagComplete : Obligations.ReaderAndTagComplete := by
  refine ⟨?on, ?off, ?ping, ?poll, ?grant, ?starved, ?answered, ?missed, ?arrived, ?timeout, ?info, ?read, ?write, ?loss,
    ?activation, ?recover, ?page⟩
  case on =>
    intro s t d hacts hsafe hclaim hoff
    exact .of_action (fun d => d.clsEnable true) rfl hacts hsafe hclaim (Dev.clsEnable_on hoff)
  case off =>
    intro s t d hacts hsafe hclaim hnone
    exact .of_action (fun d => d.clsEnable false) rfl hacts hsafe hclaim (Dev.clsEnable_off hnone)
  case ping =>
    intro s ext a p t d hacts hsafe hidle
    exact .of_work (fun d => d.clsPing ext a p) rfl hacts hsafe (Dev.clsPing_asks ext a p hidle)
  case poll =>
    intro s a p t d hacts hsafe hpoll
    exact .of_work (fun d => d.clsPoll [] 0 false a p) rfl hacts hsafe (Dev.clsPoll_empty a p hpoll)
  case grant =>
    intro s ext a p t since u d hacts hsafe hwaits hgrant
    exact .of_work (fun d => d.rfGrant ext a p) rfl hacts hsafe (Dev.rfGrant_comes ext a p hwaits hgrant)
  case starved =>
    intro s t since u d hacts hsafe hwaits hdue
    exact .of_work (fun d => d.rfStarved) rfl hacts hsafe (Dev.rfStarved_due hwaits hdue)
  case answered =>
    intro s c agree t d hacts hsafe hidle
    exact .of_work (fun d => d.presenceCheck (c + 1) true agree) rfl hacts hsafe (Dev.presenceCheck_answered agree hidle)
  case missed =>
    intro s c agree t d hacts hsafe hidle hfirst
    exact .of_work (fun d => d.presenceCheck (c + 1) false agree) rfl hacts hsafe (Dev.presenceCheck_missed agree hidle hfirst)
  case arrived =>
    intro s c agree h t d hacts hsafe hfound hverified
    exact .of_work (fun d => d.cardArrived (c + 1) agree) rfl hacts hsafe (Dev.cardArrived_verified agree hfound hverified)
  case timeout =>
    intro s c sent agree t d hacts hsafe hwaits hfew
    exact .of_work (fun d => d.fwtTimeout (c + 1) sent agree) rfl hacts hsafe (Dev.fwtTimeout_again agree sent hwaits hfew)
  case info =>
    intro s t d htag hactive
    exact .of_tagRun (fun d => d.tagGetInfo [1]) rfl (Dev.tagGetInfo_info htag hactive)
  case read =>
    intro s p t d htag hactive hp hread
    exact .of_tagRun (fun d => d.tagRead [p, 1]) rfl (Dev.tagRead_page htag hactive hp hread)
  case write =>
    intro s p n data mac t d htag hactive hcheck
    exact .of_tagRun (fun d => d.tagWrite p.toNat n.toNat data mac true) rfl (Dev.tagWrite_accepted htag hactive hcheck)
  case loss =>
    intro s t d htag
    exact .of_tagRun (fun d => d.tagFieldLoss none) rfl (Dev.tagFieldLoss_idle htag)
  case activation =>
    intro s t d htag
    exact .of_tagRun Dev.tagActivation rfl (Dev.tagActivation_answers htag)
  case recover =>
    intro s t d htag hlow
    exact .of_tagRun Dev.vharvRecover rfl (Dev.vharvRecover_low htag hlow)
  case page =>
    intro s p data t d hacts hsafe hlength
    exact .of_write (fun d => answered (d.tagPageWrite p data)) rfl hacts hsafe (answered_eq (Dev.tagPageWrite_commits hlength))

end Sys2Proof.Machine
end

section
/-!
SUPPORT. Card slots, T=1 and the Kolzel dialogue: what each command does where it takes effect, and the statement about them.
-/
namespace Sys2Proof.Machine

section
variable {d : Dev}

/-! ## Slots, answer-to-reset and PPS (R553–R557, R636) -/

section
variable {x : Nat}

theorem Dev.cardDetect_new (hempty : (d.cardSlot x).det = false) :
    d.cardDetect x =
      let d1 := (d.onSlot x (fun e => { e with det := true })).raise 30 0x80 x
      if d1.cfgB Od.crx_ENABLE x then d1.activate x else d1 :=
  if_neg (by simp [hempty])

theorem Dev.cardRemoved_present (hpresent : (d.cardSlot x).det = true) :
    d.cardRemoved x = (((d.deactivate x).holderGone x (d.allSent x)).onSlot x (fun _ => {})).raise 30 0x81 x :=
  if_neg (by simp [hpresent])

theorem Dev.cardOvercurrent_powered (hpowered : (d.cardSlot x).powered = true) :
    d.cardOvercurrent x =
      (((d.deactivate x).holderGone x (d.allSent x)).onSlot x (fun e => { e with state := .refused })).raise 30 0x83 x :=
  if_neg (by simp [hpowered])

/-- R553, R555: the answer of a T=1 card in negotiable mode that names no classes. -/
theorem Dev.atrReceive_negotiable {atr : Bytes} {a : Atr}
    (hwaits : (d.cardSlot x).state = .activating ∧ (d.cardSlot x).powered = true ∧ (d.cardSlot x).ppsTried = false)
    (hatr : parseAtr atr = some a) (hform : a.protocols.contains 1 = true ∧ a.ta2 = none ∧ a.classes = none) :
    d.atrReceive x (some atr) =
      (d.onSlot x (fun e => { e with state := .pps, link := {
          guardN := a.tc1, ifsc := a.ifsc.getD 32, bwi := (a.tb.getD 0x4D) / 16, cwi := (a.tb.getD 0x4D) % 16,
          crc := bitOf (a.edc.getD 0) 0, ta1 := a.ta1, since := d.now } })).emit
        (.card x (ppsRequest a.ta1).1) := by
  obtain ⟨hstate, hpowered, htried⟩ := hwaits
  obtain ⟨ht1, hta2, hclasses⟩ := hform
  refine (if_neg (by simp [hstate, hpowered])).trans ?_
  simp only [Option.bind_some, hatr, ht1, hta2, hclasses, htried]
  rfl

theorem Dev.atrTimeout_mute (hwaits : (d.cardSlot x).state = .activating ∧ (d.cardSlot x).powered = true) :
    d.atrTimeout x = (d.deactivate x).activate x :=
  if_neg (by simp [hwaits])

/-- R555: the card answers the proposed parameters in kind. -/
theorem Dev.ppsAnswer_inKind {req : Bytes} {fi di f : Nat} (hwaits : (d.cardSlot x).state = .pps)
    (hreq : ppsRequest (d.cardSlot x).link.ta1 = (req, some (fi, di, f))) :
    d.ppsAnswer x (some req) =
      let clk := min (f * 500000) (d.cfgN Od.crx_CLK_MAX x)
      ((d.onSlot x (fun e => { e with link := { (d.cardSlot x).link with fi := fi, di := di, clk := clk } })).emit
        (.line (clkName x) clk)).sendIfs x := by
  simp only [Dev.ppsAnswer, hreq, if_neg (not_not_intro hwaits)]
  rfl

/-! ## Blocks (R556) -/

/-- R556: a block of the right length, check and address. -/
theorem Dev.t1Block_wellFormed {b : Bytes} (hup : (d.cardSlot x).linkUp = true)
    (hlength : b.length = 3 + beAt b 2 1 + (1 + b2n (d.cardSlot x).link.crc) ∧ beAt b 2 1 ≠ 255)
    (hcheck : b.drop (3 + beAt b 2 1) = (d.cardSlot x).link.edc (b.take (3 + beAt b 2 1)) ∧ beAt b 0 1 = 0) :
    d.t1Block x (some b) = d.goodBlock x (beAt b 1 1) (sliceB b 3 (beAt b 2 1)) := by
  obtain ⟨hbytes, hlen⟩ := hlength
  obtain ⟨hedc, hnad⟩ := hcheck
  refine (if_neg (by simp [hup])).trans ?_
  exact (if_neg (by simp [← hbytes, hlen])).trans ((if_neg (not_not_intro hedc)).trans (if_neg (not_not_intro hnad)))

theorem Dev.bwtTimeout_late (hwaits : (d.cardSlot x).linkUp = true ∧ (d.cardSlot x).link.reply = none)
    (hlate : (d.cardSlot x).link.deadline ≤ d.now) : d.bwtTimeout x = d.blockError x 2 :=
  if_neg (by simp [hwaits, hlate])

end

/-! ## The Kolzel dialogue (R558) -/

/-- R571: a unit that grants handles a card's response itself. -/
theorem Dev.recordGrant_here {p : Nat} (resp : Bytes) (agree : Bool) (hhere : d.permitsHere = true) :
    d.recordGrant p resp agree = (d.grantAnswer p resp agree).tryDue p agree :=
  if_neg (by simp [hhere])

section
variable {p : Nat} {resp data : Bytes} (hresp : d.response p resp = some (data, 0x9000))
include hresp

theorem Dev.kolzelSelect_selected (hstep : (d.dlg p).step = .select) :
    d.kolzelSelect p resp = d.kolzel p .identify (kolzelApdu 0x80 0x10 0 []) := by
  simp only [Dev.kolzelSelect, hresp]
  exact (if_neg (not_not_intro hstep)).trans (if_neg (not_not_intro rfl))

theorem Dev.kolzelIdentify_identified {h : CardHolder} (hstep : (d.dlg p).step = .identify) (hparse : parseIdentify data d.now = some h) :
    d.kolzelIdentify p resp =
      let k := d.drawFrom 0 32
      (k.2.onDlg p (fun x => { x with found := some h, challenge := k.1 })).kolzel p .authenticate
        (kolzelApdu 0x80 0x12 0 (k.1 ++ padTo 16 (d.oct Od.idn_UNIT_ID 0))) := by
  simp only [Dev.kolzelIdentify, hresp]
  refine (if_neg (not_not_intro hstep)).trans ((if_neg (not_not_intro rfl)).trans ?_)
  simp only [hparse]

/-- R558: the card of a slot signs the challenge, or fails. -/
theorem Dev.kolzelAuthenticate_slot {h : CardHolder} (hslot : p < 2) (hstep : (d.dlg p).step = .authenticate ∧ (d.dlg p).found = some h) :
    d.kolzelAuthenticate p resp true =
      let m := (d.dlg p).challenge ++ padTo 16 (d.oct Od.idn_UNIT_ID 0) ++ h.cardId
      if data.length = 64 ∧ d.cardAdmitted h.chain = true ∧ d.cardRevoked h.cardId = false ∧ Config.pkVerify 20 (Config.chainKey h.chain) m data = true then
        ((d.slotState p .identified).onDlg p (fun y => { y with step := .idle, found := none, holder := some { h with at_ := d.now } })).identified p true
      else d.cardFails p := by
  obtain ⟨hauth, hfound⟩ := hstep
  simp only [Dev.kolzelAuthenticate, hresp, hfound, if_neg (not_not_intro hauth), if_pos hslot]
  by_cases hgood : data.length = 64 ∧ d.cardAdmitted h.chain = true ∧ d.cardRevoked h.cardId = false ∧
      Config.pkVerify 20 (Config.chainKey h.chain) ((d.dlg p).challenge ++ padTo 16 (d.oct Od.idn_UNIT_ID 0) ++ h.cardId) data = true
  · simp only [hgood]
    rfl
  · refine (if_neg (by simp)).trans ((if_pos ?_).trans (if_neg hgood).symm)
    grind

/-! ## Permit records and the journal (R560–R562, R567) -/

/-- R560, R567: the one card that a pending entry waits for answers its record. -/
theorem Dev.grantAnswer_last {n : Nat} {h : CardHolder} {r : LedgerRec}
    (hgrant : (d.dlg p).entry = some n ∧ (d.dlg p).step = .grant ∧ (d.dlg p).holder = some h) (hentry : d.per.ledger.find n = some r)
    (hfirst : r.state = .pending ∧ r.counter = 0 ∧ r.holder = h.cardId ∧ (r.waits.drop 1).isEmpty = true) (hlength : data.length = 68) :
    d.grantAnswer p resp true =
      let d1 := d.placeIdle p
      if Config.pkVerify 20 (Config.chainKey h.chain) ((d.dlg p).sent ++ data.take 4) (data.drop 4) then
        ((d1.ledgerPut n { r with waits := r.waits.drop 1, counter := beAt data 0 4, state := .active }).bump Od.prm_GRANTS 0).raise
          31 0x90 r.rule [(n : Int)]
      else d1.grantFailed n true := by
  obtain ⟨hn, hstep, hholder⟩ := hgrant
  obtain ⟨hpending, hcounter, hcard, hlast⟩ := hfirst
  have htail : r.waits.tail = [] := by simpa using hlast
  simp only [Dev.grantAnswer, hn, hresp, hentry]
  refine (if_neg (not_not_intro hstep)).trans ((if_neg (not_not_intro hpending)).trans ((if_neg (by decide)).trans ((if_neg (by decide)).trans ?_)))
  cases hgood : Config.pkVerify 20 (Config.chainKey h.chain) ((d.dlg p).sent ++ data.take 4) (data.drop 4)
  · simp [hholder, hlength, hgood]
  · simp [hholder, hlength, hgood, hcounter, hcard, htail]

/-- R561, R562: a journal answer at the unit that grants. -/
theorem Dev.journalQuery_settles {n : Nat} {h : CardHolder} (hhere : d.permitsHere = true)
    (hquery : (d.dlg p).entry = some n ∧ (d.dlg p).holder = some h ∧ (d.dlg p).step = .query)
    (hform : data.length = 5 ∧ beAt data 0 1 ≤ 2) :
    d.journalQuery p resp true =
      ((d.settleEntry n h.cardId (beAt data 0 1 = 0) (beAt data 1 4)).onDlg p (fun y => { y with entry := none })).nextQuery p true := by
  obtain ⟨hn, hholder, hstep⟩ := hquery
  obtain ⟨hlength, hcode⟩ := hform
  simp only [Dev.journalQuery, hn, hholder, hresp, if_neg (not_not_intro hstep)]
  simp [hlength, hcode, hhere]

end
end

/-- Settles O53: the slot, the link and the dialogue are in the state that each command is for. -/
theorem cardSlotsComplete : Obligations.CardSlotsComplete := by
  refine ⟨?detect, ?removed, ?atr, ?atrTimeout, ?pps, ?block, ?late, ?select, ?identify, ?authenticate, ?grant, ?query, ?overcurrent⟩
  case detect =>
    intro s x t d hacts hsafe hempty
    exact .of_work (fun d => d.cardDetect x) rfl hacts hsafe (Dev.cardDetect_new hempty)
  case removed =>
    intro s x t d hacts hpresent
    exact .of_run (fun d => d.cardRemoved x) rfl hacts (Dev.cardRemoved_present hpresent)
  case atr =>
    intro s x atr a t d hacts hsafe hwaits hatr hform
    exact .of_work (fun d => d.atrReceive x (some atr)) rfl hacts hsafe (Dev.atrReceive_negotiable hwaits hatr hform)
  case atrTimeout =>
    intro s x t d hacts hsafe hwaits
    exact .of_work (fun d => d.atrTimeout x) rfl hacts hsafe (Dev.atrTimeout_mute hwaits)
  case pps =>
    intro s x req fi di f t d hacts hsafe hwaits hreq
    exact .of_work (fun d => d.ppsAnswer x (some req)) rfl hacts hsafe (Dev.ppsAnswer_inKind hwaits hreq)
  case block =>
    intro s x b t d hacts hsafe hup hlength hcheck
    exact .of_work (fun d => d.t1Block x (some b)) rfl hacts hsafe (Dev.t1Block_wellFormed hup hlength hcheck)
  case late =>
    intro s x t d hacts hsafe hwaits hlate
    exact .of_work (fun d => d.bwtTimeout x) rfl hacts hsafe (Dev.bwtTimeout_late hwaits hlate)
  case select =>
    intro s p resp data t d hacts hsafe hresp hstep
    exact .of_work (fun d => d.kolzelSelect p resp) rfl hacts hsafe (Dev.kolzelSelect_selected hresp hstep)
  case identify =>
    intro s p resp data h t d hacts hsafe hresp hstep hparse
    exact .of_work (fun d => d.kolzelIdentify p resp) rfl hacts hsafe (Dev.kolzelIdentify_identified hresp hstep hparse)
  case authenticate =>
    intro s p resp data h t d hacts hsafe hresp hstep
    exact .of_work (fun d => d.kolzelAuthenticate p resp true) rfl hacts hsafe (Dev.kolzelAuthenticate_slot hresp p.isLt hstep)
  case grant =>
    intro s p n resp data h r t d hacts hsafe hhere hgrant hresp hentry hfirst hlength
    exact .of_work (fun d => d.recordGrant p resp true) rfl hacts hsafe
      ((Dev.recordGrant_here resp true hhere).trans
        (congrArg (fun y => Dev.tryDue y p true) (Dev.grantAnswer_last hresp hgrant hentry hfirst hlength)))
  case query =>
    intro s p n resp data h t d hacts hsafe hhere hquery hresp hform
    exact .of_work (fun d => d.journalQuery p resp true) rfl hacts hsafe (Dev.journalQuery_settles hresp hhere hquery hform)
  case overcurrent =>
    intro s x t d hacts hpowered
    exact .of_run (fun d => d.cardOvercurrent x) rfl hacts (Dev.cardOvercurrent_powered hpowered)

end Sys2Proof.Machine
end

section
/-!
SUPPORT. Operator inputs and permits: what each command does where it takes effect, and the statement about them.
-/
namespace Sys2Proof.Machine

section
variable {d : Dev}

/-! ## Operator inputs (R563) -/

section
variable {k : Nat}

/-- R563: channel A follows channel B of an inactive input. -/
theorem Dev.opiChange_second (agree : Bool) (hfirst : (d.input k).state = .inactive ∧ (d.input k).b = true) :
    d.opiChange k false true agree =
      (d.setInput k { d.input k with a := true, state := .active, since := none }).autoGrants (fun r => d.cfgN Od.rul_INPUT r == k)
        (fun _ => true) agree := by
  obtain ⟨hstate, hb⟩ := hfirst
  simp [Dev.opiChange, hstate, hb]

theorem Dev.opiChange_first (agree : Bool) (hrest : (d.input k).state = .inactive ∧ (d.input k).b = false) :
    d.opiChange k false true agree = d.setInput k { d.input k with a := true, state := .pending, since := some d.now, fromInactive := true } := by
  obtain ⟨hstate, hb⟩ := hrest
  simp [Dev.opiChange, hstate, hb]

theorem Dev.discTime_pending {u : Ticks} (hpending : (d.input k).state = .pending ∧ (d.input k).since = some u)
    (hdue : u + d.cfg Od.opi_DISC_TIME k ≤ d.now) :
    d.discTime k = ((d.setInput k { d.input k with state := .discrepant, since := none }).bump Od.opi_DISCREPANCIES k).raise 31 0x95 k := by
  obtain ⟨hstate, hsince⟩ := hpending
  simp only [Dev.discTime, hstate, hsince, if_pos hdue]

theorem Dev.discTime_released {u : Ticks} (hreleased : (d.input k).state = .discrepant ∧ (d.input k).releasedAt = some u)
    (hdue : u + d.cfg Od.opi_DISC_TIME k ≤ d.now) :
    d.discTime k = d.setInput k { d.input k with state := .inactive, releasedAt := none } := by
  obtain ⟨hstate, hsince⟩ := hreleased
  simp only [Dev.discTime, hstate, hsince, if_pos hdue]

end

/-! ## Permits (R562, R565, R567, R575) -/

/-- R565: a request that starts an entry of the ledger. -/
theorem Dev.permitRequest_grants {rule : Nat} {cs : List (Nat × CardHolder)} {agree : Bool} (hrule : rule < 64)
    (hcond : d.cfg Od.rul_TRIGGER rule = 1 ∧ d.ruleInput rule = true) (hcards : d.cardsFor rule (fun _ => true) = some cs)
    (hentry : (d.grant rule cs agree).per.nextNumber ≠ d.per.nextNumber) :
    d.permitRequest rule agree = (0, d.grant rule cs agree) := by
  refine (if_neg (Nat.not_le.mpr hrule)).trans ((if_neg (by simp [hcond])).trans ?_)
  simp only [hcards, if_neg hentry]

section
variable {n : Nat} {r : LedgerRec} (hentry : d.per.ledger.find n = some r)
include hentry

/-- R567: what the end of a permit puts into the ledger and reports. -/
theorem Dev.endPermit_found (reason : Nat) :
    d.endPermit n reason =
      (d.ledgerPut n { r with state := .ended, endReason := reason, endedAt := d.now, waits := [] }).raise 31 0x91 r.rule
        [(n : Int), (reason : Int)] := by
  simp only [Dev.endPermit, hentry]

/-- R575: the security officer ends an entry that no card is being asked for. -/
theorem Dev.revoke_so (hlive : r.state.live = true ∧ r.waits = []) : d.revoke n .so = (0, d.endPermit n 4) := by
  obtain ⟨halive, hnone⟩ := hlive
  simp [Dev.revoke, hentry, halive, hnone]

theorem Dev.clearInDoubt_abandons (hdoubt : r.state = .inDoubt) :
    d.clearInDoubt n = (0, d.ledgerPut n { r with state := .abandoned }) := by
  simp only [Dev.clearInDoubt, hentry, if_pos hdoubt]

theorem Dev.permitExpiry_due (hactive : d.permitsHere = true ∧ r.state = .active) (hdue : r.validUntil ≤ d.now) :
    d.permitExpiry n = d.endPermit n 1 := by
  simp [Dev.permitExpiry, hentry, hactive, hdue]

end
end

/-- Settles O54: the input, the rule or the ledger's entry is in the state that each command is for. -/
theorem operatorInputsAndPermitsComplete : Obligations.OperatorInputsAndPermitsComplete := by
  refine ⟨?second, ?first, ?discrepant, ?released, ?request, ?revoke, ?clear, ?expiry⟩
  case second =>
    intro s k t d hacts hfirst
    exact .of_run (fun d => d.opiChange k false true true) rfl hacts (Dev.opiChange_second true hfirst)
  case first =>
    intro s k agree t d hacts hrest
    exact .of_run (fun d => d.opiChange k false true agree) rfl hacts (Dev.opiChange_first agree hrest)
  case discrepant =>
    intro s k u t d hacts hpending hdue
    exact .of_run (fun d => d.discTime k) rfl hacts (Dev.discTime_pending hpending hdue)
  case released =>
    intro s k u t d hacts hreleased hdue
    exact .of_run (fun d => d.discTime k) rfl hacts (Dev.discTime_released hreleased hdue)
  case request =>
    intro s rule cs t d hacts hsafe hclaim hrule hcond hcards hentry
    exact .of_action (fun d => answered (d.permitRequest rule true)) rfl hacts hsafe hclaim
      (answered_eq (Dev.permitRequest_grants hrule hcond hcards hentry))
  case revoke =>
    intro s n r t d hacts hsafe hclaim hentry hlive
    exact .of_action (fun d => answered (d.revoke n.toNat .so)) rfl hacts hsafe hclaim
      ((answered_eq (Dev.revoke_so hentry hlive)).trans (Dev.endPermit_found hentry 4))
  case clear =>
    intro s n r t d hacts hsafe hclaim hentry hdoubt
    exact .of_action (fun d => answered (d.clearInDoubt n.toNat)) rfl hacts hsafe hclaim
      (answered_eq (Dev.clearInDoubt_abandons hentry hdoubt))
  case expiry =>
    intro s n r t d hacts hsafe hentry hactive hdue
    exact .of_work (fun d => d.permitExpiry n) rfl hacts hsafe
      ((Dev.permitExpiry_due hentry hactive hdue).trans (Dev.endPermit_found hentry 1))

end Sys2Proof.Machine
end

section
/-!
SUPPORT. Flash: erase rounds, scrubs, customer data and the passwords of regions, each where it takes effect, and the statement
about these commands.
-/
namespace Sys2Proof.Machine

section
variable {d : Dev}

/-! ## Erase rounds and scrubs (R580, R586) -/

theorem Dev.eraseRound_half {bank n : Nat} (k : Nat) (hsector : n / 512 = bank ∧ n ∉ d.fls.failed ∧ n ∈ d.fls.half) :
    d.eraseRound bank [(n, k)] = d.sectorErased n k := by
  obtain ⟨hbank, hsound, hhalf⟩ := hsector
  refine if_pos ?_
  simp [hbank, hsound, hhalf]

theorem Dev.flashScrub_due (found : List ScrubFind) (old : List (Nat × Nat))
    (hdue : d.fls.lastScrub + d.cfg Od.fls_SCRUB_PERIOD 0 * sec ≤ d.now) :
    d.flashScrub found old =
      old.foldl (fun y e => if e.1 < 2048 then y.refreshSector e.1 e.2 else y)
        (found.foldl (fun y x => y.scrubUnit x) (d.onFls (fun f => { f with lastScrub := d.now }))) :=
  if_neg (not_lt.mpr hdue)

/-! ## Customer data (R589) -/

section
variable {c : Nat}

/-- R589: a write into a sound sector that clears bits only. -/
theorem Dev.dataWrite_stores {off : Nat} {b : Bytes} {verify : Bool} (hfits : c < 576 ∧ off + b.length ≤ 16384)
    (hopen : d.imageSector c = false ∧ d.sectorLock c = 0 ∧ (1472 + c) ∉ d.fls.failed ∧ (1472 + c) ∉ d.fls.half)
    (hclears : ((d.fls.read c off b.length).zip b).any (fun e => decide (e.1 ≠ e.2) && decide (e.1 ≠ 0xFF)) = false)
    (hgood : verify = true ∨ 0 < d.cfg Od.bnk_SPARES_LEFT ((1472 + c) / 512)) :
    d.dataWrite c off b verify =
      let d1 := d.onFls (fun f => { f with data := (List.range b.length).foldl (fun t i => t.put 0xFF (16384 * c + off + i) (b.getD i 0xFF)) f.data })
      (0, if verify then d1 else d1.retireSector (1472 + c) (off / 32)) := by
  obtain ⟨hsector, hend⟩ := hfits
  obtain ⟨himage, hlock, hsound, hhalf⟩ := hopen
  refine (if_neg (Nat.not_le.mpr hsector)).trans ((if_neg (Nat.not_lt.mpr hend)).trans ((if_neg ?_).trans ((if_neg ?_).trans ?_)))
  · simp [himage, hlock, hsound, hhalf]
  · exact Bool.not_eq_true _ ▸ hclears
  · exact congrArg (fun n => (n, _)) (if_pos (by simpa using hgood))

theorem Dev.eraseSector_erases {pulses : Nat} (hsector : c < 576)
    (hopen : d.imageSector c = false ∧ d.sectorLock c = 0 ∧ (1472 + c) ∉ d.fls.failed) (hpulses : pulses ≤ 32) :
    d.eraseSector c pulses false =
      (0, (d.onFls (fun f => { f with data := f.data.filter (fun e => e.1 / 16384 ≠ c) })).sectorErased (1472 + c) pulses) := by
  obtain ⟨himage, hlock, hsound⟩ := hopen
  refine (if_neg (Nat.not_le.mpr hsector)).trans ((if_neg ?_).trans ((if_neg Bool.false_ne_true).trans (if_neg ?_)))
  · simp [himage, hlock, hsound]
  · simp [hpulses]

end

/-! ## Protection regions (R590, R591) -/

section
variable {r : Nat}

/-- R591: the first password of a region. -/
theorem Dev.setPassword_first {b : Bytes} (hform : r < 64 ∧ b.length = 32) (hopen : d.lockedOut r = false)
    (hold : (d.passRegion r).record = none ∧ allZero (b.take 16) = true) (hnew : allZero (b.drop 16) = false) :
    d.setPassword r b = (0, d.onPass r (fun x => { x with record := some (d.passRecord r (b.drop 16)), wrong := 0 })) := by
  obtain ⟨hregion, hlength⟩ := hform
  obtain ⟨hnone, hzero⟩ := hold
  refine (if_neg (Nat.not_le.mpr hregion)).trans ((if_neg (not_not_intro hlength)).trans ((if_neg (by simp [hopen])).trans ?_))
  simp [hnone, hzero, hnew]

section
variable {p : Bytes} (hform : r < 64 ∧ p.length = 16) (hopen : d.lockedOut r = false)
include hform hopen

/-- R591: a well-formed UNLOCK of a region that is not locked out goes by the region's record. -/
theorem Dev.unlockRegion_eq :
    d.unlockRegion r p =
      match (d.passRegion r).record with
      | none => (0, d.onPass r (fun x => { x with locked := false }))
      | some h => if d.passRecord r p = h then (0, d.onPass r (fun x => { x with locked := false, wrong := 0 })) else (9, d.wrongPassword r) := by
  obtain ⟨hregion, hlength⟩ := hform
  exact (if_neg (Nat.not_le.mpr hregion)).trans ((if_neg (not_not_intro hlength)).trans (if_neg (by simp [hopen])))

theorem Dev.unlockRegion_free (hnone : (d.passRegion r).record = none) :
    d.unlockRegion r p = (0, d.onPass r (fun x => { x with locked := false })) := by
  rw [Dev.unlockRegion_eq hform hopen, hnone]

theorem Dev.unlockRegion_right (hright : (d.passRegion r).record = some (d.passRecord r p)) :
    d.unlockRegion r p = (0, d.onPass r (fun x => { x with locked := false, wrong := 0 })) := by
  rw [Dev.unlockRegion_eq hform hopen, hright]
  exact if_pos rfl

end

theorem Dev.lockRegion_locks (hregion : r < 64) : d.lockRegion r 1 = (0, d.onPass r (fun x => { x with locked := true })) :=
  (if_neg (Nat.not_le.mpr hregion)).trans (if_neg (not_not_intro rfl))

theorem Dev.lockoutEnd_due {u : Ticks} (hlockout : (d.passRegion r).lockout = some u) (hdue : u ≤ d.now) :
    d.lockoutEnd r = d.onPass r (fun x => { x with lockout := none, wrong := 0 }) := by
  simp only [Dev.lockoutEnd, hlockout, if_pos hdue]

end
end

/-- Settles O55: the sector or the region is in the state that each command is for. -/
theorem flashCommandsComplete : Obligations.FlashCommandsComplete := by
  refine ⟨?round, ?scrub, ?write, ?erase, ?password, ?free, ?right, ?lock, ?lockout, ?wear⟩
  case round =>
    intro s bank n k t d hacts hsector
    exact .of_run (fun d => d.eraseRound bank [(n, k)]) rfl hacts (Dev.eraseRound_half k hsector)
  case scrub =>
    intro s found old t d hacts hdue
    exact .of_run (fun d => d.flashScrub found old) rfl hacts (Dev.flashScrub_due found old hdue)
  case write =>
    intro s c off b verify t d hacts hsafe hfits hopen hclears hgood
    exact .of_write (fun d => answered (d.dataWrite c off b verify)) rfl hacts hsafe
      (answered_eq (Dev.dataWrite_stores hfits hopen hclears hgood))
  case erase =>
    intro s c pulses t d hacts hsafe hsector hopen hpulses
    exact .of_write (fun d => answered (d.eraseSector c pulses false)) rfl hacts hsafe
      (answered_eq (Dev.eraseSector_erases hsector hopen hpulses))
  case password =>
    intro s r b t d hacts hsafe hform hopen hold hnew
    exact .of_write (fun d => answered (d.setPassword r b)) rfl hacts hsafe (answered_eq (Dev.setPassword_first hform hopen hold hnew))
  case free =>
    intro s r p t d hacts hsafe hform hopen hnone
    exact .of_write (fun d => answered (d.unlockRegion r p)) rfl hacts hsafe (answered_eq (Dev.unlockRegion_free hform hopen hnone))
  case right =>
    intro s r p t d hacts hsafe hform hopen hright
    exact .of_write (fun d => answered (d.unlockRegion r p)) rfl hacts hsafe (answered_eq (Dev.unlockRegion_right hform hopen hright))
  case lock =>
    intro s r t d hacts hsafe hregion
    exact .of_write (fun d => answered (d.lockRegion r 1)) rfl hacts hsafe (answered_eq (Dev.lockRegion_locks hregion))
  case lockout =>
    intro s r u t d hacts hlockout hdue
    exact .of_run (fun d => d.lockoutEnd r) rfl hacts (Dev.lockoutEnd_due hlockout hdue)
  case wear =>
    intro s v t hacts
    exact .of_run (fun d => d.onFls (fun f => { f with wearSel := v.toNat % 2048 })) rfl hacts rfl

end Sys2Proof.Machine
end

section
/-!
SUPPORT. Power, reset, start-up and save: what each command does where it takes effect, and the statement about them.
-/
namespace Sys2Proof.Machine

/-- A command that the always-on block sees, on a device with power (R515, R516). -/
theorem Does.of_watch {c : Instr} {s : State} {t : Ticks} {f : Dev → Dev} (g : Dev → Dev) (harm : exec c s = s.watch t g)
    (hpower : s.dev.sys.phase ≠ .off) (heff : g (s.dev.at_ t) = f (s.dev.at_ t)) : Does c s t f :=
  harm.trans ((State.watch_acts s t g hpower).trans (effect_congr s heff))

section
variable {d : Dev}

/-! ## Power and reset (R616, R619) -/

theorem Dev.powerOn_off (hoff : d.sys.phase = .off) :
    d.powerOn =
      { d with sys := { d.sys with phase := .inReset, nextCause := 0, again := none }, que.man.retention := false, bufOut := [.clear 0 (2 ^ 41)] } :=
  if_neg (not_not_intro hoff)

/-- R619, R143: RESET_N ends a running save, and its cause tells whether the device had parked. -/
theorem Dev.resetAssert_enters {low : Ticks} (hlow : us ≤ low)
    (hphase : d.sys.phase = .running ∨ d.sys.phase = .starting ∨ d.sys.phase = .recovery) :
    d.resetAssert low =
      let e := d.saveComplete
      { e.enterReset with sys := { e.enterReset.sys with nextCause := if e.man.parked then 2 else 1 } } := by
  refine (if_neg (not_lt.mpr hlow)).trans ?_
  obtain h | h | h := hphase <;> simp only [h]

theorem Dev.resetRelease_starts (i : StartIn) (hreset : d.sys.phase = .inReset) : d.resetRelease i = d.start i d.sys.nextCause :=
  if_pos hreset

/-! ## Starts and restarts (R617, R272, R507, R624) -/

/-- R617, step 18: the device runs, and the sessions that were open or that the chart has it open are opened. -/
theorem Dev.startComplete_runs (hready : d.sys.phase = .starting ∧ d.fry.twin.role ≠ .waiting) :
    d.startComplete =
      let d1 := ({ d with sys.phase := .running } : Dev).raise 26 0x47 0xFFFF
      let want := dedup (d1.sys.reopen ++ (d1.enabledOf Od.ses_ENABLE).filter (fun i => d1.cfgB Od.ses_INITIATE i))
      let d2 := (d1.enabledOf Od.ses_ENABLE).foldl (fun y i => y.onSes i (fun x =>
        if x.peerCert.isEmpty || d1.chainValid x.peerCert then x else { x with resume := none, peerCert := [], certExpires := none })) d1
      (want.filter (fun i => d2.cfgB Od.ses_ENABLE i)).foldl (fun y i => if (y.ses i).state = .closed then y.openSession i false else y) d2 :=
  if_neg (by simp [hready])

theorem Dev.restartWrite_one (i : StartIn) (hopen : d.flt.chipSafe = false ∧ d.sys.phase ≠ .minimal) :
    d.restartWrite 1 i = d.enterReset.start i 6 :=
  (if_neg (by simp [hopen])).trans (if_neg (not_not_intro rfl))

theorem Dev.warmReset_asked (i : StartIn) (hasked : d.sys.restartAs = some 5 ∧ d.flt.chipSafe = false) :
    d.warmReset i = d.enterReset.start i 5 :=
  if_pos (by simp [hasked])

theorem Dev.switchInstant_due (i : StartIn) {c : ChartSwitch} (hswitch : d.obj.switch = some c)
    (hdue : c.committed = true ∧ c.instant ≤ d.now ∧ d.flt.chipSafe = false) :
    d.switchInstant i = ({ d with obj := { d.obj with marked := some c.slot, switch := none } } : Dev).enterReset.start i 3 := by
  simp only [Dev.switchInstant, hswitch]
  exact if_pos (by simp [hdue])

/-! ## Save and shutdown (R140, R145, R146) -/

/-- R140, R582: the loss of power of a device that has started, or is about to. -/
theorem Dev.powerFailPin_saves {low : Ticks} (cut : List Nat) (hlow : us ≤ low) (hphase : d.sys.phase = .running ∨ d.sys.phase = .starting) :
    d.powerFailPin low cut = d.powerFail.onFls (fun f => { f with half := dedup (f.half ++ cut) }) := by
  refine (if_neg (not_lt.mpr hlow)).trans ?_
  obtain h | h := hphase <;> simp only [h]

theorem Dev.saveComplete_parks (hsaving : d.man.saving = true ∧ d.man.parked = false) :
    d.saveComplete =
      let m := d.man
      let a := d.journalCopy
      { d.onMan (fun m0 => { (m0.newestSave m.saveArea) with
          saved := m0.saved.ins m.saveArea a, parked := true, lastSave := d.now - m.saveStart, acceptedSince := false,
          saveLog := .saveEnd m.saveNumber m.saveArea a.blocks.length a.crc :: m0.saveLog }) with
        fls.units := (a.units m.saveArea).foldl (fun t u => t.ins u.1 u.2) d.fls.units } :=
  if_neg (by simp [hsaving])

theorem Dev.shutdownWrite_saves (hrole : d.fry.twin.role ≠ .active) : d.shutdownWrite 1 = d.powerFail :=
  (if_neg (not_not_intro rfl)).trans (if_neg hrole)

theorem Dev.shutdownWrite_yields (hrole : d.fry.twin.role = .active) :
    d.shutdownWrite 1 = d.yieldNow.onMan (fun m => { m with shutdown := true }) :=
  (if_neg (not_not_intro rfl)).trans (if_pos hrole)

/-- R145: the erase of an area that no restore waits for. -/
theorem Dev.areaErased_free {a : Nat} (herases : d.man.area a = .erasing ∧ d.man.restoreHold = false) :
    d.areaErased a =
      ({ d.onMan (fun m => { (m.setArea a .erased) with saved := m.saved.del a }) with
        fls.units := d.fls.units.filter (fun u => !(decide (256 + 512 * a ≤ u.1 / 512) && decide (u.1 / 512 < 512 + 512 * a))) } : Dev).noteGate := by
  obtain ⟨harea, hfree⟩ := herases
  simp only [Dev.areaErased, if_neg (not_not_intro harea), hfree]
  rfl

end

/-- Settles O57: the device's phase, its save and its restarts are as each command needs them. -/
theorem startAndPowerDownComplete : Obligations.StartAndPowerDownComplete := by
  refine ⟨?on, ?assert, ?release, ?complete, ?restart, ?loss, ?warm, ?fail, ?save, ?shutdown, ?yield, ?erased, ?switch⟩
  case on =>
    intro s t d hoff
    exact congrArg (fun y => Host.Outcome.next (s.withDev y)) (Dev.powerOn_off hoff)
  case assert =>
    intro s low t e d hpower hlow hphase he
    exact .of_watch (fun d => d.resetAssert low) rfl hpower (he ▸ Dev.resetAssert_enters hlow hphase)
  case release =>
    intro s i t d hpower hreset
    exact .of_watch (fun d => d.resetRelease i) rfl hpower (Dev.resetRelease_starts i hreset)
  case complete =>
    intro s t d hacts hready
    exact .of_run (fun d => d.startComplete) rfl hacts (Dev.startComplete_runs hready)
  case restart =>
    intro s i t d hboots hopen
    exact .of_boot (fun d => d.restartWrite 1 i) rfl hboots (Dev.restartWrite_one i hopen)
  case loss =>
    intro s t hpower
    exact .of_watch Dev.vddAonLoss rfl hpower rfl
  case warm =>
    intro s i t d hacts hasked
    exact .of_run (fun d => d.warmReset i) rfl hacts (Dev.warmReset_asked i hasked)
  case fail =>
    intro s low t d hpower hlow hphase
    exact .of_watch (fun d => d.powerFailPin low []) rfl hpower (Dev.powerFailPin_saves [] hlow hphase)
  case save =>
    intro s t d hpower hsaving
    exact .of_watch Dev.saveComplete rfl hpower (Dev.saveComplete_parks hsaving)
  case shutdown =>
    intro s t d hacts hsafe hrole
    exact .of_write (fun d => d.shutdownWrite 1) rfl hacts hsafe (Dev.shutdownWrite_saves hrole)
  case yield =>
    intro s t d hacts hsafe hrole
    exact .of_write (fun d => d.shutdownWrite 1) rfl hacts hsafe (Dev.shutdownWrite_yields hrole)
  case erased =>
    intro s a t d hacts herases
    exact .of_run (fun d => d.areaErased a) rfl hacts (Dev.areaErased_free herases)
  case switch =>
    intro s i c t d hacts hswitch hdue
    exact .of_run (fun d => d.switchInstant i) rfl hacts (Dev.switchInstant_due i hswitch hdue)

end Sys2Proof.Machine
end

section
/-!
SUPPORT. Statements of the fault collector, the tamper monitors and the power arbiter that leave out a step which the model
takes: for each a state in which the step shows, what the model makes of it, and the refutation.
-/
namespace Sys2Proof.Machine

/-! ## Hold outputs end (R505, R648) -/

/-- Pin 3, of MODE 1, has been enabled while hold outputs stood, so that its idle level is still due (R648). -/
def pinEnabledInHold : State :=
  { dev := ({ ({} : Dev) with
      sys.phase := .running
      flt.hold := true
      lch.pins := [(3, { state := .on, frozen := some .highZ, idleDue := true })] } : Dev).set Od.pin_MODE 3 1 }

/-- Whether a command leaves pin 3 released. -/
def pinLeftReleased : Host.Outcome State Fault Refusal → Bool
  | .next s => decide (s.dev.pinLevel 3 = .highZ)
  | _ => false

/-- R648: the model drives the pin at its idle level. -/
theorem pinLeftReleased_pinEnabledInHold : pinLeftReleased (exec (.releaseHold 1 0) pinEnabledInHold) = false := by decide +kernel

/-- Refutes O50: its clause of RELEASE_HOLD leaves a pin that was enabled under hold outputs released, where the model sets it to
its idle level (R648). -/
theorem not_faultLevelsComplete : ¬ Obligations.FaultLevelsComplete := by
  intro h
  obtain ⟨hreleaseHold, -⟩ := h
  have hdone := hreleaseHold pinEnabledInHold 0 (by decide) (by decide) (by decide) (by decide)
  have hreleased : pinLeftReleased (exec (.releaseHold 1 0) pinEnabledInHold) = true :=
    (congrArg pinLeftReleased hdone).trans (by decide +kernel)
  exact absurd (pinLeftReleased_pinEnabledInHold.symm.trans hreleased) (by decide)

/-! ## A slow supply during a save (R515) -/

/-- The monitors are armed, and the device saves itself since its power has failed (R140). -/
def savingWithMonitors : State :=
  { dev := { ({} : Dev) with
      sys.phase := .running
      flt.armed := true
      que.man.saving := true } }

/-- The most slow supply events that a command leaves counted in a window (R524). -/
def slowEventsInWindow : Host.Outcome State Fault Refusal → Int
  | .next s => s.dev.cfg Od.tmp_IN_WINDOW 1
  | _ => 0

/-- R515, log entry 170: in the model the event counts toward no level. -/
theorem slowEventsInWindow_savingWithMonitors : slowEventsInWindow (exec (.slowSupply 0 (2 * us) 0) savingWithMonitors) = 0 := by decide

/-- Refutes O51: its clause of the slow supply monitor does not ask that no save runs, during which the event counts toward no
level (R515, log entry 170). -/
theorem not_tamperMonitorsComplete : ¬ Obligations.TamperMonitorsComplete := by
  intro h
  obtain ⟨-, hslow, -⟩ := h
  have hcounted := hslow savingWithMonitors 0 (2 * us) 0 (by decide) (by decide) (by decide)
  have hone : slowEventsInWindow (exec (.slowSupply 0 (2 * us) 0) savingWithMonitors) = 1 :=
    (congrArg slowEventsInWindow hcounted).trans (by decide)
  exact absurd (slowEventsInWindow_savingWithMonitors.symm.trans hone) (by decide)

/-! ## A power epoch and the envelopes of the Bearings (R44, R603) -/

/-- Bearing 0 has been outside its calibrated envelope and has no valid calibration any more; the arbiter has its measured
models, limits that cover the floor, and was limited by temperature before (R601). -/
def bearingOutOfEnvelope : State :=
  { dev := (({ ({} : Dev) with
      sys.phase := .running
      pwr.model := true
      pwr.thermalLimited := true
      cmp.bearings := [(0, {
        fit := some { t0 := 0, x0 := 0, c0 := 0, c1 := 1, c2 := 0, s2 := 0, m := 3, quad := false, p1 := 0, p2 := 0, p3 := 0, p4 := 0 }
        envOut := true })] } : Dev).set Od.pwr_POWER_LIMIT 0 100000).set Od.pwr_THERMAL_TARGET 0 10000 }

/-- An epoch without load or demand. -/
def idleReading : PowerReading := { other := 0, tHot := 0, tPins := 0, measured := 0, droop := 0, demands := [] }

/-- Whether a command leaves ENVELOPE of Bearing 0 set. -/
def envelopeLeftSet : Host.Outcome State Fault Refusal → Bool
  | .next s => (s.dev.brg 0).envOut
  | _ => false

/-- R44: in the model the epoch's readings clear the flag. -/
theorem envelopeLeftSet_bearingOutOfEnvelope : envelopeLeftSet (exec (.powerEpoch idleReading 0) bearingOutOfEnvelope) = false := by decide +kernel

/-- Refutes O56: its clause of the power epoch leaves the Bearings as they are, where the model notes ENVELOPE anew from the
epoch's load bin and temperature (R44). -/
theorem not_powerCommandsComplete : ¬ Obligations.PowerCommandsComplete := by
  intro h
  obtain ⟨hepoch, -⟩ := h
  have hdone := hepoch bearingOutOfEnvelope idleReading 0 _ _ _ _ _ (by decide) rfl rfl rfl (by decide) (by decide) rfl (by decide)
  have hset : envelopeLeftSet (exec (.powerEpoch idleReading 0) bearingOutOfEnvelope) = true :=
    (congrArg envelopeLeftSet hdone).trans (by decide)
  exact absurd (envelopeLeftSet_bearingOutOfEnvelope.symm.trans hset) (by decide)

end Sys2Proof.Machine
end
